-- ==== Sys2Proof/Word.lean ====
section
/-! DEFINITION. The word types of the module and the sparse map every array of the machine is held in. -/

namespace Sys2Proof

/-- A byte (R22, R60: all formats are little-endian bytes). -/
abbrev Byte := BitVec 8

/-- A scalar register of a hand, an FP32 value, a sync count (R32, R60, Table 6.1). -/
abbrev W32 := BitVec 32

/-- An instruction word, a module address, a dictionary U64 (R54, R19). -/
abbrev W64 := BitVec 64

/-- A vector register, 64 bytes (Table 2.1). -/
abbrev W512 := BitVec 512

/-- Federation time in nanoseconds: a signed count (R146). -/
abbrev Ft := Int

/-- A sparse array: pairs of key and value in rising key order, holding no default value.
What an unlisted key reads as is the default the reading operation names. -/
abbrev FMap (α : Type) := List (Nat × α)

end Sys2Proof
end

