-- ==== Sys2Proof/Syntax.lean ====
section
/-! DEFINITION. The commands of the module, one constructor per row of the opcode table. -/

namespace Sys2Proof

/-- Where a frame of the Crown Object Protocol comes from: the record at the inbound TAIL of the VDL mailbox (R273), a
datagram payload of the field network from an address and port to a port of the module (R272). -/
inductive FrameSrc where
  | mailbox
  | field (address port target : Nat) (bytes : List Byte)
  deriving DecidableEq, Repr

/-- A hand or an array of a pinion at which something happens, and whether another such event is of the same cycle. -/
structure Event where
  unit : Nat
  tied : Bool
  deriving DecidableEq, Repr

/-- A data-move queue, and how many lines of a BST or BLD at its head move (R105). -/
structure MoveTurn where
  queue : Nat
  lines : Nat
  deriving DecidableEq, Repr

/-- What a decoder finds at an address: how many wrong symbols, and whether an ordinary reader found them (R134). -/
structure EccFind where
  symbols : Nat
  reader : Bool
  deriving DecidableEq, Repr

/-- A far port and the peers whose pacing caps allow a frame (R209). -/
structure FrameTurn where
  port : Nat
  peers : List Nat
  deriving DecidableEq, Repr

/-- One command of the module: an instruction issue, an event of one of its engines, a frame, a packet, a pin or a clock
event, with the operands that say which unit it happens at and what arrives. -/
inductive Instr where
  /-- STREAM_DESCRIPTOR (R33): A train's issue port checks a stream descriptor and then either delivers it to
      every in-service pinion of the train or refuses it with STATE, RANGE or BUSY. -/
  | streamDescriptor (port : Nat) (d : BitVec 256)
  /-- PENDING_STREAM_START (R34): A pending descriptor starts its stream, with registers initialised, on the cycle
      after the running stream's END completes. -/
  | pendingStreamStart (p h : Nat)
  /-- HAND_SWITCH (R51): Issue switches to the other ready hand once the current hand's sync-class wait exceeds
      the gap threshold. -/
  | handSwitch (p : Nat)
  /-- NOP (R54): The hand executes a no-operation instruction. -/
  | nop (p h : Nat)
  /-- END (R34): END completes when the hand's queued data moves and drains have completed, and the hand then goes
      idle. -/
  | endOp (p h : Nat)
  /-- JMP (R56): The hand jumps to the immediate target. -/
  | jmp (p h : Nat)
  /-- LOOP (R56): The hand decrements s[D] and branches while it is non-zero. -/
  | loop (p h : Nat)
  /-- BCC (R56): The hand branches when the register comparison selected by FN holds. -/
  | bcc (p h : Nat)
  /-- BPR (R102): The hand branches on the presence bit of a Barrel directory slot, sampled 4 cycles after issue. -/
  | bpr (p h : Nat)
  /-- LI (R32): The hand loads an immediate into a scalar register. -/
  | li (p h : Nat)
  /-- ADDI (R32): The hand adds an immediate to a register, modulo 2^32. -/
  | addi (p h : Nat)
  /-- ALU (R338): The hand applies the register operation selected by FN. -/
  | alu (p h : Nat)
  /-- LDS (R55): The hand loads a 32-bit word from the data area into a scalar register. -/
  | lds (p h : Nat)
  /-- STS (R55): The hand stores a 32-bit word from a scalar register into the data area. -/
  | sts (p h : Nat)
  /-- SETV (R338): The hand sets its variant stride after the alignment check. -/
  | setv (p h : Nat)
  /-- SETEB (R338): The hand sets its epilogue descriptor table base after the alignment check. -/
  | seteb (p h : Nat)
  /-- SETSTG (R338): The hand sets its staging area base and size after the range checks. -/
  | setstg (p h : Nat)
  /-- YIELD (R51): The hand offers issue to the other hand, which takes it if it is ready. -/
  | yieldOp (p h : Nat)
  /-- MARK (R338): The hand records PC + 1, s1 to s15 and its hand settings as its restart record. -/
  | markOp (p h : Nat)
  /-- WAITQ (R52): The hand waits until the selected queues, passes or drains of its pinion are idle. -/
  | waitq (p h : Nat)
  /-- SADD (R138): The hand sends an ADD to a sync object and continues at once. -/
  | sadd (p h : Nat)
  /-- SSET (R138): The hand sends an acquiring SET to a sync object and continues at once. -/
  | sset (p h : Nat)
  /-- STGT (R138): The hand sends an acquiring target set to a sync object and continues at once. -/
  | stgt (p h : Nat)
  /-- SWGE (R137): The hand waits until the object's count is at least v under the serial comparison. -/
  | swge (p h : Nat)
  /-- SWEQ (R138): The hand waits until the object's count, at the end of a cycle, equals v. -/
  | sweq (p h : Nat)
  /-- SARV (R139): The hand arrives at a barrier object and waits for the phase in which it arrived to end. -/
  | sarv (p h : Nat)
  /-- SBR (R137): The hand branches on the object's current count without waiting. -/
  | sbr (p h : Nat)
  /-- SYNC_APPLY (R138): A sync object applies, in one cycle, one granted acquiring request, the sum of its
      combining requests, the barrier check and the wait evaluations. -/
  | syncApply (sid : Nat) (reach : List Nat)
  /-- WAIT_RELEASE (R141): A released wait becomes ready in the waiting hand after the fabric's release time. -/
  | waitRelease (p : Nat) (h : Event)
  /-- DMV (R57): The hand queues transfer descriptors on data-move queue 0. -/
  | dmv (p h : Nat)
  /-- DPF (R53): The hand queues prefetch descriptors on queue 1, into the staging area. -/
  | dpf (p h : Nat)
  /-- DATA_MOVE_DESCRIPTOR (R57): A transfer descriptor reaches the head of its queue, is checked whole and then
      moves its rows in order, with an optional POST. -/
  | dataMoveDescriptor (p : Nat) (q : MoveTurn)
  /-- MTX (R41): The hand issues one matrix pass on one array, after the interlock and pass-queue checks and in
      the flip, chain or plain timing. -/
  | mtx (p h : Nat)
  /-- MTXB (R58): The hand issues one backward pass on each array, with a shared cycle 0 and shared dY reads. -/
  | mtxb (p h : Nat)
  /-- PASS_COMPLETE (R38): A pass completes when cell (15, 15) performs its last K-step, and any queued drain
      becomes ready to request the epilogue. -/
  | passComplete (p : Nat) (arr : Event)
  /-- DRN (R74): The hand issues a drain, which checks its epilogue descriptor and is queued at the tile. -/
  | drn (p h : Nat)
  /-- EPILOGUE_SERVICE (R72): The epilogue serves a drain request: it rescales, biases, activates, converts and
      writes the tile rows, updates status and amax, and posts. -/
  | epilogueService (p : Nat)
  /-- BST (R105): The hand moves lines from the data area into a Barrel slot, and each line is written only while
      the slot is OPEN. -/
  | bst (p h : Nat)
  /-- BLD (R105): The hand moves lines from a Barrel slot into the data area, and each line moves only while the
      slot is PRESENT. -/
  | bld (p h : Nat)
  /-- OPEN (R103): A BDIR OPEN allocates slot space at the ring head, evicting the oldest live allocations if
      needed. -/
  | openOp (p : Nat) (h : Event)
  /-- COMMIT (R103): A BDIR COMMIT makes an OPEN slot PRESENT, or an OPEN_EVICTED slot EVICTED. -/
  | commitOp (p : Nat) (h : Event)
  /-- FREE (R103): A BDIR FREE frees a slot and reclaims dead space at the ends of the ring. -/
  | freeOp (p : Nat) (h : Event)
  /-- VLD (R339): The hand loads a data-area line into a vector register. -/
  | vld (p h : Nat)
  /-- VST (R339): The hand stores a vector register to a data-area line. -/
  | vst (p h : Nat)
  /-- VLDS (R339): The hand broadcasts one element of a line into a vector register. -/
  | vlds (p h : Nat)
  /-- VSTM (R339): The hand stores a vector register under a lane mask. -/
  | vstm (p h : Nat)
  /-- VADD (R83): The vector unit adds two vectors in IEEE arithmetic with RNE. -/
  | vadd (p h : Nat)
  /-- VMUL (R83): The vector unit multiplies two vectors in IEEE arithmetic with RNE. -/
  | vmul (p h : Nat)
  /-- VFMA (R83): The vector unit computes VA × VB + VC with one rounding. -/
  | vfma (p h : Nat)
  /-- VFNMA (R83): The vector unit computes the negated fused multiply-add. -/
  | vfnma (p h : Nat)
  /-- VMIN (R83): The vector unit takes element-wise minima, propagating NaN. -/
  | vmin (p h : Nat)
  /-- VMAX (R83): The vector unit takes element-wise maxima, propagating NaN. -/
  | vmax (p h : Nat)
  /-- VCMP (R339): The vector unit compares two vectors into a lane mask. -/
  | vcmp (p h : Nat)
  /-- VSEL (R339): The vector unit selects lanes by mask. -/
  | vsel (p h : Nat)
  /-- VCVT (R83): The vector unit converts narrow values exactly to wide values. -/
  | vcvt (p h : Nat)
  /-- VCVN (R83): The vector unit converts wide values to a narrow format and computes the block scales. -/
  | vcvn (p h : Nat)
  /-- VCVF (R83): The vector unit converts between FP32 and FP64. -/
  | vcvf (p h : Nat)
  /-- VSCL (R83): The vector unit multiplies exactly by 2^IMM. -/
  | vscl (p h : Nat)
  /-- VRSUM (R84): The vector unit sums its lanes in a fixed pairwise tree. -/
  | vrsum (p h : Nat)
  /-- VRSSQ (R84): The vector unit sums the squares of its lanes in a fixed pairwise tree. -/
  | vrssq (p h : Nat)
  /-- VRAMX (R83): The vector unit takes the maximum absolute value over its lanes. -/
  | vramx (p h : Nat)
  /-- VFIN (R339): The vector unit tests finiteness into a lane mask. -/
  | vfin (p h : Nat)
  /-- VSEX (R85): The vector unit computes the shared exponent of a row or column. -/
  | vsex (p h : Nat)
  /-- VSPL (R85): The vector unit splits FP64 values into the slice digit given by IMM. -/
  | vspl (p h : Nat)
  /-- VREC (R87): The vector unit recombines an INT32 slice product into an FP64 accumulation. -/
  | vrec (p h : Nat)
  /-- VACT (R82): The vector unit evaluates a built-in or user activation entry. -/
  | vact (p h : Nat)
  /-- VIADD (R339): The vector unit adds integer lanes. -/
  | viadd (p h : Nat)
  /-- VIMUL (R339): The vector unit multiplies integer lanes. -/
  | vimul (p h : Nat)
  /-- VLOGIC (R339): The vector unit applies the logic function selected by FN. -/
  | vlogic (p h : Nat)
  /-- VSHF (R339): The vector unit permutes lanes as IMM gives. -/
  | vshf (p h : Nat)
  /-- GAP (R157): A GAP beat executes, posting if asked and letting pending changes take effect. -/
  | gapBeat
  /-- SEAL (R218): A SEAL beat arms the seal latch of round ARG. -/
  | sealBeat
  /-- SEND (R219): A SEND beat lets contributions of round ARG go to the relay. -/
  | sendBeat
  /-- CLOSE (R218): A CLOSE beat closes the stamp window of round ARG and disarms a latch that is still armed. -/
  | closeBeat
  /-- APPLY (R233): An APPLY beat applies the log and then each applicable manifest: it reconstructs, runs OUTER,
      gathers and rebases. -/
  | applyBeat
  /-- CHECKPOINT_MARK (R257): Every keeper exports coordinate records of its base and its momentum to the
      checkpoint area. -/
  | checkpointMark
  /-- RESHARD_BEGIN (R249): The pending epoch is set to ARG if ARG is the current epoch + 1 and no re-shard is
      pending; otherwise the beat is ignored. -/
  | reshardBegin
  /-- HOLD_BEAT (R156): A HOLD beat stops the module, a train or a port from issuing or starting new work. -/
  | holdBeat
  /-- RELEASE_BEAT (R156): A RELEASE beat ends a HOLD of the same target. -/
  | releaseBeat
  /-- HAND_STALL (R161): On expiry of the hand-stall watchdog, the hand restarts from its record or the pinion is
      fenced and the expiry escalates. -/
  | handStall (p h : Nat) (masked : Bool)
  /-- T1_SILENCE (R162): On expiry of the T1 silence watchdog, the T1 resets and restarts its streams at the next
      beat, or escalates. -/
  | t1Silence (t : Nat) (masked : Bool)
  /-- T2_SILENCE (R162): On expiry of the T2 silence watchdog, the T2 resets, clears its Barrel directory and
      restarts its streams, or escalates to its die. -/
  | t2Silence (t : Nat) (masked : Bool)
  /-- DIE_WATCHDOG (R163): On expiry of the die watchdog, the die is fenced and the module enters FAULTED. -/
  | dieWatchdog (d : Nat) (masked : Bool)
  /-- MODULE_WATCHDOG (R163): On expiry of the module watchdog, the module enters FAULTED. -/
  | moduleWatchdog
  /-- TRANSFER_SETTLE (R302): On expiry of the 1 ms settle time, the remaining transfers are abandoned and the
      Crown enters DUMPING and starts the dump. -/
  | transferSettle
  /-- DUMP_COMPLETE (R304): The dump reaches END, the header is set complete, and the warm reset or the stop of
      R268 follows. -/
  | dumpComplete
  /-- DUMP_LIMIT (R304): On expiry of the dump time limit, END is written at once and the dump is marked
      truncated. -/
  | dumpLimit
  /-- VDL_TIMEOUT (R164): On expiry of the VDL link timeout, the VDL link retrains. -/
  | vdlTimeout (jobLost : Bool)
  /-- CROWN_HEARTBEAT (R261): On expiry of the Crown heartbeat, the Crown resets itself while the data plane runs
      on. -/
  | crownHeartbeat
  /-- CROWN_RETURN (R261): The Crown returns from self-reset, closes every session, counts the lost NOTIFY events
      and dumps if the module is FAULTED. -/
  | crownReturn
  /-- FLIT (R171): A near-link flit is decoded and checked, then accepted in FSEQ order or discarded with a NAK;
      the receiver handles its acknowledgement, replay request and credits. -/
  | flit (port fec : Nat) (bytes : List Byte)
  /-- REPLAY_LIMIT (R172): On reaching the replay limit, the port retrains or goes down and traffic is re-routed. -/
  | replayLimit (port : Nat) (again : Bool)
  /-- PORT_TRAINED (R166): Link training completes: the peer identity is checked and the port enters service or
      MISWIRED. -/
  | portTrained (port peerModule peerPort : Nat) (asym : Int)
  /-- TRAINING_TIMEOUT (R166): On expiry of the training limit, the port stays down. -/
  | trainingTimeout (port : Nat)
  /-- SYNC_INC (R144): A received spanning-object increment is applied to the local copy in issue order. -/
  | syncInc (src : Nat)
  /-- CACK (R181): A stream grant or cumulative acknowledgement reaches the stream's source. -/
  | cack (src : Nat)
  /-- SCALAR_PACKET (R189): A member's scalar record arrives; once all records are held, the member computes S, Z
      and the clip factor. -/
  | scalarPacket (src : Nat)
  /-- TIME (R150): A near-link time-transfer message is stamped and used in the exchange. -/
  | timePacket (src sub : Nat)
  /-- SITE_STOP (R253): A received SITE_STOP stops the site job: no new entries start, SITE_STOP is passed on, and
      the module moves to QUIET. -/
  | siteStop (src : Nat)
  /-- REGATHER (R188): The owner resends the whole image directly to the receiver that asked for it. -/
  | regather (src : Nat)
  /-- PUT_FAULT (R184): The sender learns that its PUT failed at the peer and counts it; the PUT never posts. -/
  | putFault (src : Nat)
  /-- PASS_READY (R194): A sender may start the next permute pass toward the receiver that sent it. -/
  | passReady (src : Nat)
  /-- PERMUTE_DONE (R194): Once it holds PERMUTE_DONE from every member, the module sets the new layout epoch and
      posts. -/
  | permuteDone (src : Nat)
  /-- CONTRIB (R186): A representative receives an SFP16 contribution chunk and adds it in the fixed tree order. -/
  | contrib (src : Nat)
  /-- PARTIAL (R186): The owner receives a node-partial chunk and adds it in ascending node order. -/
  | partialChunk (src : Nat)
  /-- IMAGE (R187): A gather receiver writes an image chunk, forwards it inside its node, and checks the digest
      under CHECK. -/
  | imageChunk (src : Nat)
  /-- PUT_PACKET (R184): The peer writes PUT bytes at DST, or reports a fault, and posts REMOTE_SID once all bytes
      are visible. -/
  | putPacket (src : Nat)
  /-- DISPATCH_PACKET (R193): An expert's module receives token rows into the expert's input buffer. -/
  | dispatchPacket (src : Nat)
  /-- COMBINE_PACKET (R193): A source receives expert output rows for its combine. -/
  | combinePacket (src : Nat)
  /-- PERMUTE_PACKET (R194): A receiver lays incoming permute bytes into staging in IN_LIST order. -/
  | permutePacket (src : Nat)
  /-- PERMUTE_PASS (R194): Once a pass's bytes have all arrived and its reads are acknowledged, the module copies
      staging to its destinations and sends PASS_READY. -/
  | permutePass
  /-- RELAY (R206): A RELAY chunk reaches the gateway for sending, or a keeper for its inbound slot; a LEN 0 chunk
      completes or aborts a message. -/
  | relay (src : Nat)
  /-- MGMT (R173): A management packet carrying COP frames or dump reads arrives on VC7. -/
  | mgmt (src : Nat)
  /-- CHUNK_RETRY (R181): When acknowledgements make no progress within the retry interval, the source resends
      every unacknowledged chunk. -/
  | chunkRetry (stream : Nat)
  /-- REDUCE (R185): A collective entry reduces a tensor over the group in two stages and writes the owner's FP32
      shard. -/
  | reduce (q : Nat)
  /-- GATHER (R187): A collective entry distributes each owner's raw image to every member. -/
  | gather (q : Nat)
  /-- SCALAR (R189): A collective entry exchanges the members' norm records and computes the clip factor. -/
  | scalarEntry (q : Nat)
  /-- PUT (R184): A collective entry copies bytes into a peer's memory. -/
  | put (q : Nat)
  /-- DISPATCH (R192): A dispatch entry sends token rows to experts under the capacity limit, dropping the excess
      slots. -/
  | dispatch (q : Nat)
  /-- COMBINE (R193): A combine entry returns expert outputs and forms the gated sums in slot order. -/
  | combine (q : Nat)
  /-- PERMUTE (R194): A permute entry moves shards into the new layout pass by pass. -/
  | permute (q : Nat)
  /-- TIESUM (R98): An update unit adds the tied-use gradient buffers in index order. -/
  | tiesum (u : Nat)
  /-- NORM (R122): An update unit writes the sum of squares and the non-finite count of a gradient buffer. -/
  | normEntry (u : Nat)
  /-- INNER (R124): An update unit applies the inner rule to a shard after its gate, or logs it for a slow shard. -/
  | inner (u : Nat)
  /-- OUTER (R126): An update unit applies Nesterov momentum with the averaged delta to a keeper shard. -/
  | outer (u : Nat)
  /-- DIGEST (R127): An update unit computes a shard's fold digest and writes it, or compares it with the header. -/
  | digest (u : Nat)
  /-- LOG_APPLY (R130): The tier engine applies the deferred update log in SEQ order and completes the digests of
      emptied shards. -/
  | logApply (u : Nat)
  /-- COORD_EXPORT (R133): An update unit exports a shard into a coordinate record. -/
  | coordExport (u : Nat)
  /-- COORD_IMPORT (R133): An update unit checks a coordinate record in a first pass and imports it into a shard
      in a second. -/
  | coordImport (u : Nat)
  /-- EFADD (R222): The Fusee adds the error feedback to the delta and writes FP32 and SFP16 copies. -/
  | efadd (d : Nat)
  /-- ORTHO (R222): The Fusee orthonormalises the P factor column by column. -/
  | ortho (d : Nat)
  /-- RESID (R222): The Fusee computes the pending residual E′. -/
  | resid (d : Nat)
  /-- PACK (R224): The Fusee encodes Q into the record and writes its SUMSQ. -/
  | pack (d : Nat)
  /-- CHECK (R224): The Fusee recomputes the record SUMSQ values and the message NORM, counts non-finite values
      and digests the message. -/
  | check (d : Nat)
  /-- FOLD (R116): The Fusee writes the fold digest of a byte range. -/
  | foldDigest (d : Nat)
  /-- SCRUB (R135): A periodic scrub read checks and corrects HBM lines. -/
  | scrub (addr : Nat) (found : EccFind)
  /-- ARP (R196): The Crown answers ARP for the port's own address and its next hop. Port 2 is the field network (R272). -/
  | arp (port : Nat) (bytes : List Byte)
  /-- NEIGHBOR_DISCOVERY (R196): The Crown answers IPv6 Neighbor Discovery for the port's own address and its next
      hop. Port 2 is the field network (R272). -/
  | neighborDiscovery (port : Nat) (bytes : List Byte)
  /-- DATA (R206): The receiving gateway decrypts a DATA frame and writes its data to the keeper's inbound area,
      completing the message when its last byte arrives. -/
  | dataFrame (port : Nat) (src bytes : List Byte)
  /-- ACK (R204): The sender releases acknowledged slots, takes an RTT sample and fast-resends frames as needed. -/
  | ackFrame (port : Nat) (src bytes : List Byte)
  /-- RETIRE_FRAME (R208): The receiver marks the listed SEQs retired and aborts the messages they belong to. -/
  | retireFrame (port : Nat) (src bytes : List Byte)
  /-- CONFIRM (R214): The responder decrypts the first frame under the new epoch and switches its sending
      direction. -/
  | confirm (port : Nat) (src bytes : List Byte)
  /-- TIME_SYNC (R216): The slave stamps t2 on receipt of the master's sync message and then sends TIME_DREQ. -/
  | timeSync (port sub : Nat) (src bytes : List Byte)
  /-- TIME_FOLLOW (R216): The slave receives T1 for the exchange. -/
  | timeFollow (port : Nat) (src bytes : List Byte)
  /-- TIME_DREQ (R216): The master stamps its receipt of the delay request and answers with TIME_DRESP. -/
  | timeDreq (port sub : Nat) (src bytes : List Byte)
  /-- TIME_DRESP (R151): The slave completes the exchange, computes the delay and offset, and steers its servo. -/
  | timeDresp (port : Nat) (src bytes : List Byte)
  /-- TIME_EXCHANGE (R151): At each exchange interval, the master starts a time exchange on a far or near path. -/
  | timeExchange (peer : Nat)
  /-- HOLDOVER_TIMEOUT (R149): After 8 exchange intervals with no valid exchange, the module enters HOLDOVER. -/
  | holdoverTimeout
  /-- HS_INIT (R211): The responder verifies HS_INIT, derives the new keys and answers with HS_RESP. -/
  | hsInit (port : Nat) (src bytes : List Byte)
  /-- HS_RESP (R214): The initiator verifies HS_RESP, derives the keys, switches its sending direction and sends
      CONFIRM. -/
  | hsResp (port : Nat) (src bytes : List Byte)
  /-- HS_RESEND (R211): The initiator resends HS_INIT every second until answered, falling back to the small MTU
      after three probes. -/
  | hsResend (peer : Nat)
  /-- KEY_LIFETIME (R213): When the key lifetime ends, the initiator starts a new key. -/
  | keyLifetime (peer : Nat)
  /-- OLD_KEY_RELEASE (R214): When its grace ends, the old receive key is destroyed. -/
  | oldKeyRelease (peer : Nat)
  /-- ACK_TIMER (R203): After 1 ms with a received frame unacknowledged, the receiver sends an ACK. -/
  | ackTimer (peer : Nat)
  /-- RTO_EXPIRY (R204): An unreleased frame whose RTO has passed is resent as a new transmission, and its RTO
      doubles. -/
  | rtoExpiry (peer seq : Nat)
  /-- PEER_DOWN (R205): A peer with no authenticated frame for DOWN_TIME enters DOWN. -/
  | peerDown (peer : Nat)
  /-- PORT_RETURN (R198): A peer moves back to its bound far port once that port has been up for 10 s. -/
  | portReturn (peer : Nat)
  /-- RELAY_GRANT (R201): The gateway grants a relay stream once ring slots are reserved, and sequences the
      message's frames. -/
  | relayGrant
  /-- CONTRIB_MESSAGE (R227): A complete contribution at the anchor's keeper is assigned to a round and judged,
      clipped and weighted, or rejected with a notice. -/
  | contribMessage (site : Nat)
  /-- MANIFEST (R232): A keeper checks a received manifest and may adopt its term. -/
  | manifest (site : Nat)
  /-- BASE_REQ (R234): A keeper answers a request for a base, contribution or manifest with KIND 4, or with GONE. -/
  | baseReq (site : Nat)
  /-- BASE_DATA (R241): A requester checks a fetched base and copies it into its shard, then gathers and rebases. -/
  | baseData (site : Nat)
  /-- REJECT_NOTICE (R236): The origin keeper resolves its rejected seal, resetting or keeping θ according to the
      reason. -/
  | rejectNotice (site : Nat)
  /-- FETCH_RETRY (R226): A KIND 4 request left unanswered is sent again after RTO_MAX. -/
  | fetchRetry (req : Nat)
  /-- ROUND_DEADLINE (R231): At CLOSE plus the grace period, the anchor publishes the round's manifests with the
      contributions it holds. -/
  | roundDeadline (round : Nat)
  /-- VIEW_TIMER (R238): The active gateway sends VIEW to every peer at each VIEW_PERIOD. -/
  | viewTimer
  /-- VIEW (R238): A received VIEW updates the group and majority state, and a higher term is adopted. -/
  | view (site : Nat)
  /-- CLAIM (R240): A site answers a claim with ENDORSE when the endorsement conditions hold. -/
  | claim (site : Nat)
  /-- ENDORSE (R240): A claimant collects endorsements and adopts the term once it holds a majority. -/
  | endorse (site : Nat)
  /-- ANCHOR_TIMEOUT (R240): After the anchor has been absent for ANCHOR_TIMEOUT, the candidate site sends CLAIM. -/
  | anchorTimeout
  /-- CLAIM_TIMEOUT (R240): A claim without majority endorsement within 5 s fails. -/
  | claimTimeout
  /-- STOP_DRAIN (R253): On expiry of STOP_DRAIN, the started entries are abandoned and the module moves to QUIET. -/
  | stopDrain
  /-- SITE_RESTART (R254): Once members are in QUIET or QUIET_WAIT has passed, the restart leader substitutes a
      spare, raises the epoch and redistributes the layout. -/
  | siteRestart (failed spares : List Nat)
  /-- PPS_IN (R153): A rising edge at the 1PPS input is stamped with FT. -/
  | ppsIn (sub : Nat)
  /-- PPS_OUT (R153): The 1PPS output rises at each whole second of FT. -/
  | ppsOut
  /-- REF10M_LOSS (R324): REF10M absent for 1 µs switches the FT counter to REFCLK, phase-continuously. -/
  | ref10mLoss
  /-- REF10M_RETURN (R324): After REF10M has been present for 1 s, the counter switches back to it. -/
  | ref10mReturn
  /-- POWER_SAMPLE (R287): Each 100 µs power sample updates the cap level. -/
  | powerSample (vin iin pin : W32)
  /-- SAG_WARNING (R284): Input below the sag threshold for 10 µs asserts the warning, raises the interrupt and
      requests throttling. -/
  | sagWarning
  /-- SAG_CLEAR (R284): Input above the threshold + 0.5 V for 1 ms clears the warning. -/
  | sagClear
  /-- SAG_RESET (R285): Input below 41.5 V for 2 µs starts a cold reset with cause 0x2. -/
  | sagReset
  /-- POWER_ON (R285): Input at or above 44.0 V for 100 ms releases the reset and starts BOOT. -/
  | powerOn
  /-- RAIL_WARNING (R286): A rail below its warning level for 10 µs is counted, and on the core or SRAM rail
      requests throttle level 12. -/
  | railWarning (rail mv : Nat)
  /-- RAIL_RESET (R286): A rail below its reset level for 2 µs starts a cold reset. -/
  | railReset (rail mv : Nat)
  /-- THERMAL_SAMPLE (R289): A junction reading sets the thermal level by the step thresholds. -/
  | thermalSample (sensor : Nat) (temp : W32)
  /-- THERMAL_TRIP (R289): A sensor at or above 105 °C for 100 µs starts a thermal trip with cause 0x7. -/
  | thermalTrip (sensor : Nat)
  /-- RESET_PIN (R327): RST_N low for 1 µs starts a warm reset with cause 0x3. -/
  | resetPin
  /-- RESET_PIN_HELD (R327): RST_N low for 100 ms makes the reset cold. -/
  | resetPinHeld
  /-- RESET_PIN_RELEASE (R327): The rising edge of RST_N begins the release. -/
  | resetPinRelease
  /-- VDL_LINK_RESET (R290): A reset signalled by the companion over VDL starts a warm reset with cause 0x4. -/
  | vdlLinkReset
  /-- BOOT_STEP_COMPLETE (R293): A release step completes and the next one starts; after the last, the table is
      published, the pins are released and the module enters QUIET. -/
  | bootStepComplete
  /-- BOOT_STEP_TIMEOUT (R293): A block that misses 3 times its release time is a fatal error during BOOT. -/
  | bootStepTimeout
  /-- RECOVERY_IMAGE (R309): In recovery the boot ROM verifies a mailbox image, writes it to slot 0 and resets, or
      discards it. -/
  | recoveryImage
  /-- BIST_COMPLETE (R334): The HBM BIST ends and reports the failing lines per stack. -/
  | bistComplete (failures : List Nat)
  /-- CONFIG_READ (R20): A companion read of the configuration window returns its content. -/
  | configRead (off len : Nat)
  /-- CONFIG_WRITE (R20): A companion write to the configuration window updates the mailbox or is discarded with
      an error completion. -/
  | configWrite (off : Nat) (bytes : List Byte)
  /-- APERTURE_READ (R20): A companion read of the HBM aperture returns whole lines or completes with an error. -/
  | apertureRead (off len : Nat)
  /-- APERTURE_WRITE (R20): A companion write to the HBM aperture is applied in QUIET, ARMED or HELD, or
      discarded. -/
  | apertureWrite (off : Nat) (bytes : List Byte)
  /-- OPEN_SESSION (R274): The Crown answers an OPEN with a signed challenge, or refuses it with BUSY or RIGHTS. -/
  | openSession (src : FrameSrc)
  /-- PROVE (R274): The Crown verifies PROVE and grants the session's rights, or drops the pending session. -/
  | prove (src : FrameSrc)
  /-- COP_CLOSE (R277): A session closes on request. -/
  | copClose (src : FrameSrc)
  /-- READ (R269): The Crown returns the value of one dictionary item. -/
  | read (src : FrameSrc)
  /-- WRITE (R269): The Crown checks one dictionary write and applies it between two beats. -/
  | write (src : FrameSrc)
  /-- READ_MULTI (R279): The Crown returns several items as one snapshot. -/
  | readMulti (src : FrameSrc)
  /-- WRITE_MULTI (R279): The Crown checks every item and applies all of them together, or none. -/
  | writeMulti (src : FrameSrc)
  /-- BLOB_BEGIN (R280): A BLOB transfer starts, taking a snapshot for a read. -/
  | blobBegin (src : FrameSrc)
  /-- BLOB_SEG (R280): A segment of a BLOB transfer is moved. -/
  | blobSeg (src : FrameSrc)
  /-- BLOB_END (R280): A BLOB write is checked for completeness and CRC and then applied whole. -/
  | blobEnd (src : FrameSrc)
  /-- NOTIFY_ACK (R281): The client acknowledges NOTIFY frames up to NSEQ. -/
  | notifyAck (src : FrameSrc)
  /-- NOTIFY_RESEND (R281): An unacknowledged NOTIFY is resent every 500 ms, up to 8 times, and then dropped. -/
  | notifyResend (session nseq : Nat)
  /-- SESSION_IDLE (R277): A session with no valid frame for SESSION_IDLE closes. -/
  | sessionIdle (session : Nat)
  /-- PENDING_SESSION_EXPIRY (R274): A pending session expires after 10 s. -/
  | pendingSessionExpiry (session : Nat)
  /-- BLOB_ABANDON (R280): A BLOB transfer with no frame for 10 s is abandoned. -/
  | blobAbandon (session : Nat)
  /-- ARM (R265): The ARM command runs checks 1 to 7 and moves the module from QUIET to ARMED, resetting the
      queues. -/
  | arm (src : FrameSrc)
  /-- RUN (R265): The RUN command checks the time state and moves the module from ARMED to RUNNING, starting the
      Escapement. -/
  | run (src : FrameSrc)
  /-- HOLD (R156): The HOLD command holds the module as a HOLD beat on the module does. -/
  | hold (src : FrameSrc)
  /-- RELEASE (R156): The RELEASE command returns the module from HELD to RUNNING. -/
  | release (src : FrameSrc)
  /-- QUIESCE (R266): The QUIESCE command stops the site job or the pinions and enters QUIET. -/
  | quiesce (src : FrameSrc)
  /-- WARM_RESET (R264): The WARM_RESET command starts a warm reset with cause 0x5 after the response is sent. -/
  | warmReset (src : FrameSrc)
  /-- FORCE_FAULT (R264): The FORCE_FAULT command enters FAULTED, and the dump and reset follow. -/
  | forceFault (src : FrameSrc)
  /-- TAKEOVER (R267): The TAKEOVER command stops the site job and swaps the active and standby gateway roles. -/
  | takeover (src : FrameSrc)
  /-- FENCE (R295): The FENCE operation closes a unit's Bezel at once. -/
  | fence (src : FrameSrc)
  /-- RETIRE (R299): The RETIRE operation retires a fenced unit and marks it in the map. -/
  | retire (src : FrameSrc)
  /-- READMIT (R300): The READMIT operation re-admits a retired or fenced unit, with a scrub and a swap at a beat
      for a pinion. -/
  | readmit (src : FrameSrc)
  /-- FT_SET (R149): A write sets the grandmaster's FT in QUIET. -/
  | ftSet (src : FrameSrc)
  /-- BEAT_TABLE (R158): A write of the whole beat table in QUIET is checked and applied whole. -/
  | beatTable (src : FrameSrc)
  /-- BEAT_ENTRY (R158): A write of one beat entry is checked against validity and lead time, then applied. -/
  | beatEntry (src : FrameSrc)
  /-- LAYOUT (R246): A write of the layout descriptor sets the far ports and the time role. -/
  | layout (src : FrameSrc)
  /-- ROSTER (R316): A write of the signed site roster is verified and sets the own site, the anchor and the
      fallback order. -/
  | roster (src : FrameSrc)
  /-- PROGRAM_MANIFEST (R283): A write of the program manifest checks its header and records its digest. -/
  | programManifest (src : FrameSrc)
  /-- RETIRE_MAP (R298): A write of the retirement map in QUIET takes effect at the next BOOT. -/
  | retireMap (src : FrameSrc)
  /-- OPERATOR_KEYS (R278): A write of the operator keys installs or removes keys, ending open admission. -/
  | operatorKeys (src : FrameSrc)
  /-- JOB_KEY (R117): A write installs the job key. -/
  | jobKey (src : FrameSrc)
  /-- FW_IMAGE (R312): A firmware image is verified at BLOB_END and written to the slot that is not running. -/
  | fwImage (src : FrameSrc)
  /-- FW_ACTIVATE (R312): A write prefers the verified slot on trial and starts a warm reset with cause 0x9. -/
  | fwActivate (src : FrameSrc)
  /-- ROLLBACK_COMMIT (R311): A write commits the running firmware by blowing rollback and revocation fuses. -/
  | rollbackCommit (src : FrameSrc)
  /-- DEBUG_CHALLENGE (R317): A read returns a fresh challenge that replaces the previous one. -/
  | debugChallenge (src : FrameSrc)
  /-- DEBUG_TOKEN (R317): A write of a token is verified and unlocks the debug scope. -/
  | debugToken (src : FrameSrc)
  /-- DEBUG_SCOPE (R318): A write of 0 ends a debug unlock. -/
  | debugScope (src : FrameSrc)
  /-- DEBUG_EXPIRY (R318): A debug unlock ends when its DURATION has passed. -/
  | debugExpiry
  /-- ATTEST_REPORT (R315): A read builds and signs a fresh attestation report for the reading session. -/
  | attestReport (src : FrameSrc)
  /-- ACC_IMAGE (R89): A read of the accumulator image is answered only with debug unlocked on a fenced pinion. -/
  | accImage (src : FrameSrc)
  /-- HBM_BIST_START (R334): A write starts the March C- BIST over the selected stacks. -/
  | hbmBistStart (src : FrameSrc)
  /-- PRBS_MODE (R335): A write starts or stops PRBS31Q on the selected port. -/
  | prbsMode (src : FrameSrc)
  /-- BYPASS (R333): The TAP executes BYPASS. -/
  | bypass (tdi : Bool)
  /-- IDCODE (R333): The TAP shifts out the IDCODE. -/
  | idcode
  /-- SAMPLE_PRELOAD (R333): The TAP samples and preloads the boundary register. -/
  | samplePreload (cells : List Bool)
  /-- EXTEST (R333): The boundary cells drive their pins. -/
  | extest (cells : List Bool)
  /-- CLAMP (R333): The boundary cells hold their pins while BYPASS is selected. -/
  | clamp
  /-- HIGHZ (R333): The boundary cells put their pins in high-Z. -/
  | highz
  /-- INTERNAL_TEST (R333): An IEEE 1500 or other test instruction runs only with debug scope bit 1 unlocked. -/
  | internalTest (bits : List Bool)
  /-- LAST_K_STEP_ENTERED (R43): The running pass on an array enters its last K-step: a queued FLIP or CHAIN pass
      starts behind it, and a hand held by the full pass queue may issue. -/
  | lastKStepEntered (p arr : Nat)
  /-- TRAIN_RESET_COMPLETE (R297): The reset of a train behind its Bezel completes: the Bezel opens unless the
      train is fenced or retired, and a pending substitution or stream restart becomes ready (taking effect at
      once in QUIET or ARMED). -/
  | trainResetComplete (level index : Nat)
  /-- READMIT_SCRUB_DONE (R300): The scrub of a re-admitted pinion finishes: either the re-admission fails and is
      counted, or the swap becomes pending (taking effect at once in QUIET or ARMED). -/
  | readmitScrubDone (t1 slot : Nat) (uncorrectable : Bool)
  /-- FAR_PORT_UP (R196): A far port completes training and comes up, and the initiator starts the first handshake
      of a session toward its bound peers. -/
  | farPortUp (port : Nat)
  /-- FAR_PORT_DOWN (R198): A far port loses its link: its peers move to the other port and the move is counted. -/
  | farPortDown (port : Nat)
  /-- FRAME_SEND (R209): When the pacing caps allow, the gateway transmits the next ready frame in priority order
      under a new FRAME_NO, and asks for a rekey at 2^31 frames. -/
  | frameSend (turn : FrameTurn)
  /-- FOREIGN_FRAME (R197): A far port receives a frame that is not ARP, Neighbor Discovery or Remontoire to its
      own address, or that comes from a source outside the roster, and discards and counts it. -/
  | foreignFrame (port : Nat) (bytes : List Byte)
  /-- RESET_DOMAIN_LOSS (R285): The input falls below 36.0 V: the reset domain is lost, and the next release is a
      power-on with cause 0x1. -/
  | resetDomainLoss
  /-- RAIL_WARNING_CLEAR (R286): A rail returns above its warning level, ending its throttle request. -/
  | railWarningClear (rail mv : Nat)
  /-- VDL_LINK_UP (R20): The VDL link completes training and comes up, so the configuration window and the mailbox
      become reachable. -/
  | vdlLinkUp
  deriving DecidableEq, Repr

end Sys2Proof
end

