-- ==== Sys2Proof/Machine/FMap.lean ====
section
/-! DEFINITION. Sparse arrays: read, write, and the canonical form that makes equal arrays equal data. -/

namespace Sys2Proof.Machine

/-- The value at key `i`; `d` where the key is not listed. -/
def fget {α : Type} (d : α) : FMap α → Nat → α
  | [], _ => d
  | (k, v) :: m, i => if k = i then v else fget d m i

/-- Every entry but those of key `i`. -/
def fdel {α : Type} (m : FMap α) (i : Nat) : FMap α := m.filter (fun c => c.1 != i)

/-- Insert or replace key `i`, keeping the keys rising. -/
def fins {α : Type} : FMap α → Nat → α → FMap α
  | [], i, v => [(i, v)]
  | (k, w) :: m, i, v =>
    if i < k then (i, v) :: (k, w) :: m
    else if i = k then (i, v) :: m
    else (k, w) :: fins m i v

/-- Write `v` at key `i`; writing the default removes the entry. -/
def fput {α : Type} [DecidableEq α] (d : α) (m : FMap α) (i : Nat) (v : α) : FMap α :=
  if v = d then fdel m i else fins m i v

/-- Is every key above `lo` listed in rising order, and no value the default? -/
def fwfFrom {α : Type} [DecidableEq α] (d : α) : Option Nat → FMap α → Bool
  | _, [] => true
  | lo, (k, v) :: m =>
    (match lo with | none => true | some l => decide (l < k)) && decide (v ≠ d) && fwfFrom d (some k) m

/-- The canonical form of a sparse array: keys strictly rising, no default value listed. -/
def fwf {α : Type} [DecidableEq α] (d : α) (m : FMap α) : Bool := fwfFrom d none m

/-- Apply `f` to the value at key `i`. -/
def fmod {α : Type} [DecidableEq α] (d : α) (m : FMap α) (i : Nat) (f : α → α) : FMap α :=
  fput d m i (f (fget d m i))

/-- The keys that are listed. -/
def fkeys {α : Type} (m : FMap α) : List Nat := m.map (·.1)

end Sys2Proof.Machine
end

