-- ==== Sys2Proof/Machine/Bytes.lean ====
section
/-! DEFINITION. Byte order, bit fields and the CRCs of the spec (R22, R23, R168, R169). -/

namespace Sys2Proof.Machine

/-- The number that little-endian bytes spell. -/
def leNat : List Byte → Nat
  | [] => 0
  | b :: bs => b.toNat + 256 * leNat bs

/-- `n` little-endian bytes of a number, modulo `2^(8n)`. -/
def toLe : Nat → Nat → List Byte
  | 0, _ => []
  | n + 1, v => BitVec.ofNat 8 (v % 256) :: toLe n (v / 256)

/-- The number that big-endian bytes spell. -/
def beNat (bs : List Byte) : Nat := leNat bs.reverse

/-- `n` big-endian bytes of a number. -/
def toBe (n v : Nat) : List Byte := (toLe n v).reverse

/-- Bits `[lo+len-1:lo]` of a number. -/
def bitsN (w lo len : Nat) : Nat := (w >>> lo) % 2 ^ len

/-- Bits `[lo+len-1:lo]` of a word, as a number. -/
def fld {n : Nat} (w : BitVec n) (lo len : Nat) : Nat := bitsN w.toNat lo len

/-- One bit of a number. -/
def bitN (w i : Nat) : Bool := Nat.testBit w i

/-- `n` bytes of a list from offset `o`, zero where the list ends. -/
def slice (bs : List Byte) (o n : Nat) : List Byte :=
  let x := (bs.drop o).take n
  x ++ List.replicate (n - x.length) 0

/-- A little-endian field of `n` bytes at offset `o`. -/
def rdLe (bs : List Byte) (o n : Nat) : Nat := leNat (slice bs o n)

/-- A list with its bytes from offset `o` replaced by `x` (never longer than it was). -/
def patch (bs : List Byte) (o : Nat) (x : List Byte) : List Byte :=
  bs.take o ++ x.take (bs.length - o) ++ bs.drop (o + x.length)

/-- `n` zero bytes. -/
def zeros (n : Nat) : List Byte := List.replicate n 0

/-- A list cut or zero-padded to `n` bytes. -/
def padTo (n : Nat) (bs : List Byte) : List Byte := slice bs 0 n

/-- The bytes of an ASCII string. -/
def ascii (s : String) : List Byte := s.toList.map (fun c => BitVec.ofNat 8 c.toNat)

/-- A two's complement reading of an `n`-bit number. -/
def sInt (n w : Nat) : Int := if 2 ^ (n - 1) ≤ w % 2 ^ n then (w % 2 ^ n : Int) - 2 ^ n else (w % 2 ^ n : Int)

/-- The `n`-bit two's complement of an integer. -/
def sNat (n : Nat) (i : Int) : Nat := (i % (2 ^ n : Int)).toNat

/-- Quotient rounded up. -/
def ceilDiv (a b : Nat) : Nat := (a + b - 1) / b

/-- Round up to a multiple. -/
def roundUp (a b : Nat) : Nat := ceilDiv a b * b

/-- One byte of a reflected CRC with polynomial `poly` (reflected). -/
def crcRefl (poly : Nat) : Nat → Nat → Nat
  | 0, c => c
  | k + 1, c => crcRefl poly k (if c % 2 = 1 then (c / 2) ^^^ poly else c / 2)

/-- CRC-32C of R23: polynomial 0x1EDC_6F41 reflected, initial value and final XOR all ones. -/
def crc32c (bs : List Byte) : Nat :=
  (bs.foldl (fun c b => crcRefl 0x82F63B78 8 (c ^^^ b.toNat)) 0xFFFFFFFF) ^^^ 0xFFFFFFFF

/-- CRC-64/XZ of R169: polynomial 0x42F0_E1EB_A9EA_3693 reflected, initial value and final XOR all ones. -/
def crc64 (bs : List Byte) : Nat :=
  (bs.foldl (fun c b => crcRefl 0xC96C5795D7870F42 8 (c ^^^ b.toNat)) 0xFFFFFFFFFFFFFFFF) ^^^ 0xFFFFFFFFFFFFFFFF

/-- Eight steps of the unreflected CRC-16 of R168. -/
def crc16Step : Nat → Nat → Nat
  | 0, c => c
  | k + 1, c => crc16Step k (if c / 0x8000 % 2 = 1 then ((c * 2) ^^^ 0x1021) % 0x10000 else (c * 2) % 0x10000)

/-- CRC-16 of R168: polynomial 0x1021, initial value 0xFFFF. -/
def crc16 (bs : List Byte) : Nat :=
  bs.foldl (fun c b => crc16Step 8 (c ^^^ (b.toNat * 256))) 0xFFFF

end Sys2Proof.Machine
end

