-- ==== Sys2Proof/Machine/Crypto.lean ====
section
/-! DEFINITION. The cryptography the spec names: SHA-512 (every digest, 13), HMAC and HKDF over it, AES-256-GCM (R211),
GHASH (R115), X25519 (R210, R269) and Ed25519 (13), each from its own standard. -/

namespace Sys2Proof.Machine

/-! ### SHA-512, HMAC, HKDF -/

/-- The initial hash value of SHA-512. -/
def sha512H0 : List Nat := [
  0x6A09E667F3BCC908, 0xBB67AE8584CAA73B, 0x3C6EF372FE94F82B, 0xA54FF53A5F1D36F1,
  0x510E527FADE682D1, 0x9B05688C2B3E6C1F, 0x1F83D9ABFB41BD6B, 0x5BE0CD19137E2179]

/-- Round constants 0 to 19 of SHA-512. -/
def sha512K0 : List Nat := [
  0x428A2F98D728AE22, 0x7137449123EF65CD, 0xB5C0FBCFEC4D3B2F, 0xE9B5DBA58189DBBC,
  0x3956C25BF348B538, 0x59F111F1B605D019, 0x923F82A4AF194F9B, 0xAB1C5ED5DA6D8118,
  0xD807AA98A3030242, 0x12835B0145706FBE, 0x243185BE4EE4B28C, 0x550C7DC3D5FFB4E2,
  0x72BE5D74F27B896F, 0x80DEB1FE3B1696B1, 0x9BDC06A725C71235, 0xC19BF174CF692694,
  0xE49B69C19EF14AD2, 0xEFBE4786384F25E3, 0x0FC19DC68B8CD5B5, 0x240CA1CC77AC9C65]

/-- Round constants 20 to 39 of SHA-512. -/
def sha512K1 : List Nat := [
  0x2DE92C6F592B0275, 0x4A7484AA6EA6E483, 0x5CB0A9DCBD41FBD4, 0x76F988DA831153B5,
  0x983E5152EE66DFAB, 0xA831C66D2DB43210, 0xB00327C898FB213F, 0xBF597FC7BEEF0EE4,
  0xC6E00BF33DA88FC2, 0xD5A79147930AA725, 0x06CA6351E003826F, 0x142929670A0E6E70,
  0x27B70A8546D22FFC, 0x2E1B21385C26C926, 0x4D2C6DFC5AC42AED, 0x53380D139D95B3DF,
  0x650A73548BAF63DE, 0x766A0ABB3C77B2A8, 0x81C2C92E47EDAEE6, 0x92722C851482353B]

/-- Round constants 40 to 59 of SHA-512. -/
def sha512K2 : List Nat := [
  0xA2BFE8A14CF10364, 0xA81A664BBC423001, 0xC24B8B70D0F89791, 0xC76C51A30654BE30,
  0xD192E819D6EF5218, 0xD69906245565A910, 0xF40E35855771202A, 0x106AA07032BBD1B8,
  0x19A4C116B8D2D0C8, 0x1E376C085141AB53, 0x2748774CDF8EEB99, 0x34B0BCB5E19B48A8,
  0x391C0CB3C5C95A63, 0x4ED8AA4AE3418ACB, 0x5B9CCA4F7763E373, 0x682E6FF3D6B2B8A3,
  0x748F82EE5DEFB2FC, 0x78A5636F43172F60, 0x84C87814A1F0AB72, 0x8CC702081A6439EC]

/-- Round constants 60 to 79 of SHA-512. -/
def sha512K3 : List Nat := [
  0x90BEFFFA23631E28, 0xA4506CEBDE82BDE9, 0xBEF9A3F7B2C67915, 0xC67178F2E372532B,
  0xCA273ECEEA26619C, 0xD186B8C721C0C207, 0xEADA7DD6CDE0EB1E, 0xF57D4F7FEE6ED178,
  0x06F067AA72176FBA, 0x0A637DC5A2C898A6, 0x113F9804BEF90DAE, 0x1B710B35131C471B,
  0x28DB77F523047D84, 0x32CAAB7B40C72493, 0x3C9EBE0A15C9BEBC, 0x431D67C49C100D4C,
  0x4CC5D4BECB3E42B6, 0x597F299CFC657E2A, 0x5FCB6FAB3AD6FAEC, 0x6C44198C4A475817]

/-- The 80 round constants. -/
def sha512K : List Nat := sha512K0 ++ sha512K1 ++ sha512K2 ++ sha512K3

/-- Rotate a 64-bit number right. -/
def rotr64 (x n : Nat) : Nat := (x >>> n) ||| ((x <<< (64 - n)) % 2 ^ 64)

/-- Extend the message schedule, newest word first. -/
def sha512Extend : Nat → List Nat → List Nat
  | 0, w => w
  | n + 1, w =>
    let a := w.getD 1 0
    let b := w.getD 14 0
    let s1 := rotr64 a 19 ^^^ rotr64 a 61 ^^^ (a >>> 6)
    let s0 := rotr64 b 1 ^^^ rotr64 b 8 ^^^ (b >>> 7)
    sha512Extend n ((s1 + w.getD 6 0 + s0 + w.getD 15 0) % 2 ^ 64 :: w)

/-- One round of the compression function: the eight working variables, the round constant and the word. -/
def sha512Round (v : List Nat) (kw : Nat × Nat) : List Nat :=
  match v with
  | [a, b, c, d, e, f, g, h] =>
    let s1 := rotr64 e 14 ^^^ rotr64 e 18 ^^^ rotr64 e 41
    let ch := (e &&& f) ^^^ ((e ^^^ (2 ^ 64 - 1)) &&& g)
    let t1 := h + s1 + ch + kw.1 + kw.2
    let s0 := rotr64 a 28 ^^^ rotr64 a 34 ^^^ rotr64 a 39
    let maj := (a &&& b) ^^^ (a &&& c) ^^^ (b &&& c)
    [(t1 + s0 + maj) % 2 ^ 64, a, b, c, (d + t1) % 2 ^ 64, e, f, g]
  | _ => v

/-- Cut a list into pieces of `n`, at most `k` of them. -/
def chunks {α : Type} (n : Nat) : Nat → List α → List (List α)
  | 0, _ => []
  | k + 1, l => if l.isEmpty then [] else l.take n :: chunks n k (l.drop n)

/-- Every piece of `n` bytes of a list. -/
def chunksOf {α : Type} (n : Nat) (l : List α) : List (List α) := chunks n (l.length + 1) l

/-- One block of SHA-512. -/
def sha512Block (h : List Nat) (blk : List Byte) : List Nat :=
  let w := (sha512Extend 64 ((chunksOf 8 blk).map beNat).reverse).reverse
  let v := (sha512K.zip w).foldl sha512Round h
  (h.zip v).map (fun p => (p.1 + p.2) % 2 ^ 64)

/-- SHA-512. -/
def sha512 (bs : List Byte) : List Byte :=
  let pad := (239 - bs.length % 128) % 128
  let m := bs ++ [0x80] ++ zeros pad ++ toBe 16 (8 * bs.length)
  ((chunksOf 128 m).foldl sha512Block sha512H0).flatMap (toBe 8)

/-- HMAC-SHA-512. -/
def hmac512 (key msg : List Byte) : List Byte :=
  let k := padTo 128 (if 128 < key.length then sha512 key else key)
  sha512 (k.map (· ^^^ 0x5C) ++ sha512 (k.map (· ^^^ 0x36) ++ msg))

/-- The blocks of HKDF-Expand. -/
def hkdfBlocks (prk info : List Byte) : Nat → Nat → List Byte → List Byte
  | 0, _, _ => []
  | k + 1, i, t =>
    let t' := hmac512 prk (t ++ info ++ [BitVec.ofNat 8 i])
    t' ++ hkdfBlocks prk info k (i + 1) t'

/-- HKDF-SHA-512 (RFC 5869), `n` bytes. -/
def hkdf512 (salt ikm info : List Byte) (n : Nat) : List Byte :=
  (hkdfBlocks (hmac512 (if salt.isEmpty then zeros 64 else salt) ikm) info (ceilDiv n 64) 1 []).take n

/-! ### GHASH and AES-256-GCM -/

/-- The product in GF(2^128) as GHASH orders bits: `k` steps from the top bit of `x`. -/
def gfMulGo : Nat → Nat → Nat → Nat → Nat
  | 0, _, _, z => z
  | k + 1, x, v, z =>
    let z' := if Nat.testBit x k then z ^^^ v else z
    let v' := if v % 2 = 1 then (v / 2) ^^^ 0xE1000000000000000000000000000000 else v / 2
    gfMulGo k x v' z'

/-- The GHASH product. -/
def gfMul (x y : Nat) : Nat := gfMulGo 128 x y 0

/-- One GHASH step over a 16-byte block. -/
def ghashStep (h y : Nat) (blk : List Byte) : Nat := gfMul (y ^^^ beNat (padTo 16 blk)) h

/-- GHASH of whole and zero-padded blocks from a running value. -/
def ghash (h y : Nat) (bs : List Byte) : Nat := (chunksOf 16 bs).foldl (ghashStep h) y

/-- A byte doubled in the AES field. -/
def xtime (a : Nat) : Nat := if a < 128 then 2 * a else (2 * a) ^^^ 0x11B

/-- The AES field product over eight bits of `b`. -/
def aesMulGo : Nat → Nat → Nat → Nat → Nat
  | 0, _, _, z => z
  | k + 1, a, b, z => aesMulGo k (xtime a) (b / 2) (if b % 2 = 1 then z ^^^ a else z)

/-- The AES field product. -/
def aesMul (a b : Nat) : Nat := aesMulGo 8 a b 0

/-- `a^(2^(k+1) - 2)` by repeated squaring: with `k = 7` the inverse. -/
def aesInvGo : Nat → Nat → Nat → Nat
  | 0, _, r => r
  | k + 1, a, r => let a' := aesMul a a; aesInvGo k a' (aesMul r a')

/-- The AES substitution of one byte. -/
def aesSub (a : Nat) : Nat :=
  let i := aesInvGo 7 a 1
  let r (n : Nat) := ((i <<< n) ||| (i >>> (8 - n))) % 256
  i ^^^ r 1 ^^^ r 2 ^^^ r 3 ^^^ r 4 ^^^ 0x63

/-- The AES substitution table, 256 bytes. -/
def aesSbox : List Nat := (List.range 256).map aesSub

/-- Look a byte up in a table. -/
def subB (t : List Nat) (a : Nat) : Nat := t.getD a 0

/-- The key schedule of AES-256, words newest first. -/
def aesExpand (t : List Nat) : Nat → Nat → Nat → List (List Nat) → List (List Nat)
  | 0, _, _, w => w
  | n + 1, i, rcon, w =>
    let p := w.headD []
    let x :=
      if i % 8 = 0 then
        match p with
        | [a, b, c, d] => [subB t b ^^^ rcon, subB t c, subB t d, subB t a]
        | l => l
      else if i % 8 = 4 then p.map (subB t)
      else p
    let o := w.getD 7 []
    aesExpand t n (i + 1) (if i % 8 = 0 then xtime rcon else rcon) ((x.zip o).map (fun q => q.1 ^^^ q.2) :: w)

/-- The 15 round keys of AES-256, 16 bytes each. -/
def aesKeys (t : List Nat) (key : List Byte) : List (List Nat) :=
  let w0 := (chunksOf 4 ((padTo 32 key).map (·.toNat))).reverse
  (chunksOf 4 (aesExpand t 52 8 1 w0).reverse).map List.flatten

/-- MixColumns of one column. -/
def aesMix (c : List Nat) : List Nat :=
  match c with
  | [a, b, d, e] =>
    [xtime a ^^^ (xtime b ^^^ b) ^^^ d ^^^ e, a ^^^ xtime b ^^^ (xtime d ^^^ d) ^^^ e,
     a ^^^ b ^^^ xtime d ^^^ (xtime e ^^^ e), (xtime a ^^^ a) ^^^ b ^^^ d ^^^ xtime e]
  | l => l

/-- SubBytes and ShiftRows. -/
def aesSubShift (t s : List Nat) : List Nat :=
  (List.range 16).map (fun i => subB t (s.getD ((i + 4 * (i % 4)) % 16) 0))

/-- XOR of two lists. -/
def xorL (a b : List Nat) : List Nat := (a.zip b).map (fun q => q.1 ^^^ q.2)

/-- The rounds after the first key addition. -/
def aesRounds (t : List Nat) : List (List Nat) → List Nat → List Nat
  | [], s => s
  | [k], s => xorL (aesSubShift t s) k
  | k :: k' :: ks, s => aesRounds t (k' :: ks) (xorL ((chunksOf 4 (aesSubShift t s)).flatMap aesMix) k)

/-- AES-256 of one block under expanded keys. -/
def aesBlock (t : List Nat) (ks : List (List Nat)) (blk : List Byte) : List Byte :=
  match ks with
  | [] => blk
  | k :: r => (aesRounds t r (xorL (blk.map (·.toNat)) k)).map (BitVec.ofNat 8)

/-- The counter-mode stream over `n` blocks from counter `c`. -/
def aesCtr (t : List Nat) (ks : List (List Nat)) (iv : List Byte) : Nat → Nat → List Byte
  | 0, _ => []
  | n + 1, c => aesBlock t ks (iv ++ toBe 4 c) ++ aesCtr t ks iv n (c + 1)

/-- XOR of two byte lists, as long as the shorter. -/
def xorB (a b : List Byte) : List Byte := (a.zip b).map (fun q => q.1 ^^^ q.2)

/-- AES-256-GCM with a 12-byte IV: the body and the tag that seal `plain` (NIST SP 800-38D). -/
def gcmSeal (key iv aad plain : List Byte) : List Byte × List Byte :=
  let t := aesSbox
  let ks := aesKeys t key
  let h := beNat (aesBlock t ks (zeros 16))
  let c := xorB plain (aesCtr t ks iv (ceilDiv plain.length 16) 2)
  let y := ghash h (ghash h (ghash h 0 aad) c) (toBe 8 (8 * aad.length) ++ toBe 8 (8 * c.length))
  (c, xorB (toBe 16 y) (aesBlock t ks (iv ++ toBe 4 1)))

/-- Open a sealed body: the plain bytes when the tag is right. -/
def gcmOpen (key iv aad body tag : List Byte) : Option (List Byte) :=
  let t := aesSbox
  let ks := aesKeys t key
  let h := beNat (aesBlock t ks (zeros 16))
  let y := ghash h (ghash h (ghash h 0 aad) body) (toBe 8 (8 * aad.length) ++ toBe 8 (8 * body.length))
  if xorB (toBe 16 y) (aesBlock t ks (iv ++ toBe 4 1)) = tag then
    some (xorB body (aesCtr t ks iv (ceilDiv body.length 16) 2))
  else none

/-! ### Curve25519 -/

/-- The field prime of Curve25519. -/
def p25519 : Nat := 2 ^ 255 - 19

/-- `b^e mod p` over the low `k` bits of `e`, top bit first. -/
def powModGo (p b e : Nat) : Nat → Nat → Nat
  | 0, r => r
  | k + 1, r => powModGo p b e k (if Nat.testBit e k then r * r % p * b % p else r * r % p)

/-- `b^e mod p`, for `e` below `2^256`. -/
def powMod (p b e : Nat) : Nat := powModGo p (b % p) e 256 1

/-- The inverse in the field. -/
def inv25519 (x : Nat) : Nat := powMod p25519 x (p25519 - 2)

/-- The difference in the field. -/
def subF (a b : Nat) : Nat := (a + p25519 - b % p25519) % p25519

/-- The Montgomery ladder of RFC 7748: bits of the scalar from bit `k - 1` down. -/
def ladder (u s : Nat) : Nat → Nat → Nat → Nat → Nat → Nat × Nat
  | 0, x2, z2, _, _ => (x2, z2)
  | k + 1, x2, z2, x3, z3 =>
    let sw := Nat.testBit s k
    let (x2, x3) := if sw then (x3, x2) else (x2, x3)
    let (z2, z3) := if sw then (z3, z2) else (z2, z3)
    let a := (x2 + z2) % p25519
    let b := subF x2 z2
    let aa := a * a % p25519
    let bb := b * b % p25519
    let e := subF aa bb
    let da := subF x3 z3 * a % p25519
    let cb := (x3 + z3) * b % p25519
    let nx3 := (da + cb) * (da + cb) % p25519
    let nz3 := u * (subF da cb * subF da cb % p25519) % p25519
    let nx2 := aa * bb % p25519
    let nz2 := e * ((aa + 121665 * e) % p25519) % p25519
    let (x2, x3) := if sw then (nx3, nx2) else (nx2, nx3)
    let (z2, z3) := if sw then (nz3, nz2) else (nz2, nz3)
    ladder u s k x2 z2 x3 z3

/-- X25519 (RFC 7748). -/
def x25519 (scalar point : List Byte) : List Byte :=
  let k := leNat (padTo 32 scalar)
  let s := ((k % 2 ^ 254) / 8 * 8) + 2 ^ 254
  let u := leNat (padTo 32 point) % 2 ^ 255 % p25519
  let (x, z) := ladder u s 255 1 0 u 1
  toLe 32 (x * inv25519 z % p25519)

/-- The base point of X25519. -/
def x25519Base : List Byte := toLe 32 9

/-- The group order of Ed25519. -/
def edL : Nat := 2 ^ 252 + 27742317777372353535851937790883648493

/-- The curve constant d = -121665/121666. -/
def edD : Nat := (p25519 - 121665) * inv25519 121666 % p25519

/-- A point in extended coordinates X, Y, Z, T. -/
structure EdPoint where
  x : Nat
  y : Nat
  z : Nat
  t : Nat
  deriving DecidableEq, Repr

/-- Addition of RFC 8032, 5.1.4. -/
def edAdd (d : Nat) (p q : EdPoint) : EdPoint :=
  let a := subF p.y p.x * subF q.y q.x % p25519
  let b := (p.y + p.x) * (q.y + q.x) % p25519
  let c := 2 * p.t * q.t % p25519 * d % p25519
  let zz := 2 * p.z * q.z % p25519
  let e := subF b a
  let f := subF zz c
  let g := (zz + c) % p25519
  let h := (b + a) % p25519
  { x := e * f % p25519, y := g * h % p25519, z := f * g % p25519, t := e * h % p25519 }

/-- The neutral point. -/
def edZero : EdPoint := { x := 0, y := 1, z := 1, t := 0 }

/-- The multiple by the low `k` bits of `s`, top bit first. -/
def edMulGo (d s : Nat) (p : EdPoint) : Nat → EdPoint → EdPoint
  | 0, r => r
  | k + 1, r =>
    let r2 := edAdd d r r
    edMulGo d s p k (if Nat.testBit s k then edAdd d r2 p else r2)

/-- The multiple of a point by a number below `2^256`. -/
def edMul (s : Nat) (p : EdPoint) : EdPoint := edMulGo edD s p 256 edZero

/-- The encoding of a point. -/
def edEnc (p : EdPoint) : List Byte :=
  let zi := inv25519 p.z
  let x := p.x * zi % p25519
  let y := p.y * zi % p25519
  toLe 32 (y + (x % 2) * 2 ^ 255)

/-- Decode a point (RFC 8032, 5.1.3). -/
def edDec (bs : List Byte) : Option EdPoint :=
  let n := leNat (padTo 32 bs)
  let y := n % 2 ^ 255
  let sg := n / 2 ^ 255
  if p25519 ≤ y then none
  else
    let u := subF (y * y) 1
    let v := (edD * (y * y % p25519) + 1) % p25519
    let v3 := v * v % p25519 * v % p25519
    let v7 := v3 * v3 % p25519 * v % p25519
    let x := u * v3 % p25519 * powMod p25519 (u * v7) ((p25519 - 5) / 8) % p25519
    let vxx := v * (x * x % p25519) % p25519
    let x? :=
      if vxx = u then some x
      else if vxx = (p25519 - u) % p25519 then some (x * powMod p25519 2 ((p25519 - 1) / 4) % p25519)
      else none
    match x? with
    | none => none
    | some x =>
      if x = 0 && sg == 1 then none
      else
        let x' := if x % 2 = sg then x else p25519 - x
        some { x := x', y := y, z := 1, t := x' * y % p25519 }

/-- The base point of Ed25519. -/
def edBase : EdPoint := (edDec (toLe 32 (4 * inv25519 5 % p25519))).getD edZero

/-- The secret scalar of a private key. -/
def edScalar (sk : List Byte) : Nat := leNat ((sha512 sk).take 32) % 2 ^ 254 / 8 * 8 + 2 ^ 254

/-- The public key of an Ed25519 private key. -/
def edPub (sk : List Byte) : List Byte := edEnc (edMul (edScalar sk) edBase)

/-- An Ed25519 signature (RFC 8032, pure form). -/
def edSign (sk msg : List Byte) : List Byte :=
  let a := edScalar sk
  let pub := edPub sk
  let r := leNat (sha512 ((sha512 sk).drop 32 ++ msg)) % edL
  let rb := edEnc (edMul r edBase)
  let k := leNat (sha512 (rb ++ pub ++ msg)) % edL
  rb ++ toLe 32 ((r + k * a) % edL)

/-- Do two points agree? -/
def edSame (p q : EdPoint) : Bool :=
  (p.x * q.z % p25519 == q.x * p.z % p25519) && (p.y * q.z % p25519 == q.y * p.z % p25519)

/-- Is an Ed25519 signature right (RFC 8032, 5.1.7, the cofactored group equation)? -/
def edVerify (pub msg sig : List Byte) : Bool :=
  let s := leNat (slice sig 32 32)
  match edDec pub, edDec (slice sig 0 32) with
  | some a, some r =>
    let k := leNat (sha512 (slice sig 0 32 ++ padTo 32 pub ++ msg)) % edL
    decide (sig.length = 64) && decide (s < edL) &&
      edSame (edMul 8 (edMul s edBase)) (edMul 8 (edAdd edD r (edMul k a)))
  | _, _ => false

end Sys2Proof.Machine
end

