-- ==== Sys2Proof/Config.lean ====
section
/-! DEFINITION. What one module's manufacture fixes and every value the spec leaves open: constants without a body. -/

namespace Sys2Proof.Config

/-- A value the spec leaves open, fresh for each value of the counter `free` of the state. -/
opaque freeValue (counter w : Nat) : BitVec w

/-- The difference in ulps of a built-in activation from the correctly rounded value; the machine keeps it within
the accuracy of Table 3.6. -/
opaque actUlp (entry x : Nat) : Int

/-- The result of a user activation record that Table 3.7 gives no meaning. -/
opaque actOpen (record x : Nat) : BitVec 32

/-- The bitwise function that VLOGIC's FN selects: the spec lists none. -/
opaque logicBit (fn : Nat) (a b : Bool) : Bool

/-- The lane of VA that VSHF with an immediate moves to a lane: the spec gives no permutation. -/
opaque shfLane (imm lane : Nat) : Fin 16

/-- The bytes of the fused identity seed (R313): secret, and different in every module. -/
opaque seedByte : Nat → Byte

/-- The MAC address of a far port: the spec gives none. -/
opaque farMac : Nat → BitVec 48

/-- One tensor of an outer shard as the outer plan lists it (OD 0x7000.01), with the places of the keeper's buffers of
Table 9.2: the shard header of B, the momentum M, the residual E, the pending residuals E'1 and E'2, and the warm start; and, where
the keeper holds θ of the tensor too, the shard header of its slice, the first element of the slice, and its slices of the sealed
deltas Δ1 and Δ2; 0 where there is none. -/
structure PlanTensor where
  tensor : Nat
  rank : Nat
  rows : Nat
  cols : Nat
  hdr : Nat
  mom : Nat
  resid : Nat
  pend0 : Nat
  pend1 : Nat
  warm : Nat
  theta : Nat
  first : Nat
  delta0 : Nat
  delta1 : Nat
  deriving DecidableEq, Repr

/-- The tensors of an outer shard, in plan order, that the bytes of an outer plan spell: the spec gives the plan no layout. -/
opaque planOf (plan : List Byte) (shard : Nat) : List PlanTensor

/-- What the application of a deferred log whose lines have undefined contents (R113) writes into the slow tier, for a value of the
counter `free`: addresses and bytes. -/
opaque openLog (counter : Nat) : List (Nat × Byte)

/-- A decimal digit of the serial number (R340). -/
opaque serialDigit : Nat → Fin 10

/-- The MAC address of the field network port, its two lowest bits of the first octet aside (R340). -/
opaque fieldMac : BitVec 48

/-- The manifest of the firmware release that the module left the factory with, SIG included, where R340 and Table 13.1 leave it
open. -/
opaque factoryManifest : List Byte

/-- The fused SHA-512 digest of a firmware key slot (R307). -/
opaque keyDigest : Nat → List Byte

/-- The firmware key slots revoked at the factory. -/
opaque factoryRevoked : BitVec 4

/-- The fused SHA-512 digest of the Kearov debug key (R317). -/
opaque debugDigest : List Byte

/-- The bytes of the signing keys of Kearov's intermediate (0) and root (1) certificates. -/
opaque caByte : Nat → Nat → Byte

/-- What R314 leaves open in the device's (0) and the intermediate (1) certificate: the DER of its serial number (0), of the issuer's
name (1), the validity (2), the subject's further relative names (3) and the extensions (4). -/
opaque certPart : Nat → Nat → List Byte

/-- How a part of a dump section (section type and part of Table 12.13) spells what it holds: the spec gives these parts no layout. -/
opaque dumpPart (typ part : Nat) (content : List Nat) : List Byte

/-- COUNT of such a section. -/
opaque dumpCount (typ : Nat) (content : List Nat) : Nat

/-- A byte of the fuse image, the seed replaced by zeros, for a rollback counter and revoked key slots (R315). -/
opaque fuseByte (rollback revoked at_ : Nat) : Byte

end Sys2Proof.Config
end

