-- ==== Sys2Proof/Machine/Float.lean ====
section
/-! DEFINITION. Exact float values, rounding to nearest even, and the IEEE operations of R62, R63, R83 and R84. -/

namespace Sys2Proof.Machine

/-- A float value: NaN (payloads are never kept, R62), an infinity, or `(-1)^neg * m * 2^e` exactly. -/
inductive FV where
  | nan
  | inf (neg : Bool)
  | fin (neg : Bool) (m : Nat) (e : Int)
  deriving DecidableEq, Repr

/-- The length of a number in bits. -/
def bitLen (m : Nat) : Nat := if m = 0 then 0 else Nat.log2 m + 1

/-- `m / 2^k`, rounded to nearest, ties to even. -/
def rneShift (m k : Nat) : Nat :=
  let q := m >>> k
  let r := m - (q <<< k)
  let h := if k = 0 then 0 else 2 ^ (k - 1)
  if k = 0 then m
  else if r > h then q + 1
  else if r = h then q + q % 2
  else q

/-- Round `m * 2^e` to `p` significant bits with no bit below `2^emin`: the pair of significand and exponent. -/
def roundMag (p : Nat) (emin : Int) (m : Nat) (e : Int) : Nat × Int :=
  let q := max (e + (bitLen m : Int) - (p : Int)) emin
  if q ≤ e then (m <<< (e - q).toNat, q) else (rneShift m (q - e).toNat, q)

/-- The magnitude bits of a rounded value in a layout with `mb` mantissa bits and smallest bit `2^emin`, the
exponent range unbounded above (R68). -/
def magBits (mb : Nat) (emin : Int) (m : Nat) (e : Int) : Nat :=
  if m = 0 then 0 else
  let (m', q) := roundMag (mb + 1) emin m e
  (q - emin).toNat * 2 ^ mb + m'

/-- The smallest bit's exponent of an IEEE layout. -/
def eminOf (eb mb : Nat) : Int := 2 - (2 ^ (eb - 1) : Int) - (mb : Int)

/-- Decode an IEEE layout of `eb` exponent and `mb` mantissa bits. -/
def decIEEE (eb mb w : Nat) : FV :=
  let s := Nat.testBit w (eb + mb)
  let x := bitsN w mb eb
  let f := bitsN w 0 mb
  if x = 2 ^ eb - 1 then (if f = 0 then .inf s else .nan)
  else if x = 0 then .fin s f (eminOf eb mb)
  else .fin s (f + 2 ^ mb) ((x : Int) - 1 + eminOf eb mb)

/-- The sign bit of a layout. -/
def signBit (eb mb : Nat) (s : Bool) : Nat := if s then 2 ^ (eb + mb) else 0

/-- Encode in an IEEE layout with RNE; NaN is canonical (R62), an overflow is an infinity. -/
def encIEEE (eb mb : Nat) : FV → Nat
  | .nan => (2 ^ eb - 1) * 2 ^ mb + 2 ^ (mb - 1)
  | .inf s => signBit eb mb s + (2 ^ eb - 1) * 2 ^ mb
  | .fin s m e => signBit eb mb s + min (magBits mb (eminOf eb mb) m e) ((2 ^ eb - 1) * 2 ^ mb)

/-- Decode FP32. -/
def dec32 (w : Nat) : FV := decIEEE 8 23 w

/-- round_FP32 (R62, R63), as FP32 bits. -/
def enc32 (v : FV) : Nat := encIEEE 8 23 v

/-- Decode FP64. -/
def dec64 (w : Nat) : FV := decIEEE 11 52 w

/-- Round to FP64, as bits. -/
def enc64 (v : FV) : Nat := encIEEE 11 52 v

namespace FV

/-- Is the value NaN? -/
def isNan : FV → Bool
  | .nan => true
  | _ => false

/-- Is the value an infinity? -/
def isInf : FV → Bool
  | .inf _ => true
  | _ => false

/-- Is the value finite? -/
def isFin : FV → Bool
  | .fin _ _ _ => true
  | _ => false

/-- The sign. -/
def sign : FV → Bool
  | .nan => false
  | .inf s => s
  | .fin s _ _ => s

/-- The negated value. -/
def neg : FV → FV
  | .nan => .nan
  | .inf s => .inf (!s)
  | .fin s m e => .fin (!s) m e

/-- The magnitude. -/
def abs : FV → FV
  | .nan => .nan
  | .inf _ => .inf false
  | .fin _ m e => .fin false m e

/-- Is the value a zero? -/
def isZero : FV → Bool
  | .fin _ m _ => m == 0
  | _ => false

/-- The integer `±m * 2^(e - at)`, exact when `at ≤ e`. -/
def scaled (s : Bool) (m : Nat) (e lo : Int) : Int :=
  let x : Int := ((m <<< (e - lo).toNat : Nat) : Int)
  if s then -x else x

/-- The exact sum (R63, R64); an exact zero sum of unlike signs is +0 (IEEE 754-2019 under RNE). -/
def add : FV → FV → FV
  | .nan, _ => .nan
  | _, .nan => .nan
  | .inf a, .inf b => if a = b then .inf a else .nan
  | .inf a, _ => .inf a
  | _, .inf b => .inf b
  | .fin s m e, .fin t n f =>
    let lo := if e ≤ f then e else f
    let x := scaled s m e lo + scaled t n f lo
    if x = 0 then .fin (s && t) 0 lo else .fin (decide (x < 0)) x.natAbs lo

/-- The exact product (R63). -/
def mul : FV → FV → FV
  | .nan, _ => .nan
  | _, .nan => .nan
  | .inf a, .inf b => .inf (a != b)
  | .inf a, .fin t n _ => if n = 0 then .nan else .inf (a != t)
  | .fin s m _, .inf b => if m = 0 then .nan else .inf (s != b)
  | .fin s m e, .fin t n f => .fin (s != t) (m * n) (e + f)

/-- `v * 2^k`, exact. -/
def scale (k : Int) : FV → FV
  | .fin s m e => .fin s m (e + k)
  | v => v

/-- The quotient, with at least 128 quotient bits and a sticky bit: it rounds as the exact quotient does. -/
def div : FV → FV → FV
  | .nan, _ => .nan
  | _, .nan => .nan
  | .inf _, .inf _ => .nan
  | .inf a, .fin t _ _ => .inf (a != t)
  | .fin s _ e, .inf b => .fin (s != b) 0 e
  | .fin s m e, .fin t n f =>
    if n = 0 then (if m = 0 then .nan else .inf (s != t))
    else
      let x := m <<< (bitLen n + 128)
      let q := x / n
      let sticky := if x % n = 0 then 0 else 1
      .fin (s != t) (2 * q + sticky) (e - f - (bitLen n + 128 : Nat) - 1)

/-- The integer square root by bits, from bit `k` down. -/
def isqrtGo : Nat → Nat → Nat → Nat
  | 0, _, r => r
  | k + 1, x, r =>
    let c := r + 2 ^ k
    isqrtGo k x (if c * c ≤ x then c else r)

/-- The integer square root. -/
def isqrt (x : Nat) : Nat := isqrtGo (bitLen x / 2 + 1) x 0

/-- The square root, with a sticky bit: it rounds as the exact root does. -/
def sqrt : FV → FV
  | .nan => .nan
  | .inf s => if s then .nan else .inf false
  | .fin s m e =>
    if m = 0 then .fin s 0 e
    else if s then .nan
    else
      let k : Nat := if e % 2 = 0 then 256 else 257
      let x := m <<< k
      let r := isqrt x
      let sticky := if r * r = x then 0 else 1
      .fin false (2 * r + sticky) ((e - (k : Int)) / 2 - 1)

/-- The order of two values that are not NaN, zeros equal: less, equal, greater. -/
def cmp : FV → FV → Ordering
  | .inf a, .inf b => if a = b then .eq else if a then .lt else .gt
  | .inf a, _ => if a then .lt else .gt
  | _, .inf b => if b then .gt else .lt
  | .fin s m e, .fin t n f =>
    let lo := if e ≤ f then e else f
    compare (scaled s m e lo) (scaled t n f lo)
  | _, _ => .eq

/-- Is `a` below `b`? False where either is NaN. -/
def lt (a b : FV) : Bool := !a.isNan && !b.isNan && (cmp a b == .lt)

/-- Are the values equal numbers? False where either is NaN. -/
def eqv (a b : FV) : Bool := !a.isNan && !b.isNan && (cmp a b == .eq)

/-- The larger value, NaN if either is NaN, -0 below +0 (R83). -/
def vmax (a b : FV) : FV :=
  if a.isNan || b.isNan then .nan
  else match cmp a b with
    | .lt => b
    | .gt => a
    | .eq => if a.sign then b else a

/-- The smaller value, NaN if either is NaN, -0 below +0 (R83). -/
def vmin (a b : FV) : FV :=
  if a.isNan || b.isNan then .nan
  else match cmp a b with
    | .lt => a
    | .gt => b
    | .eq => if a.sign then a else b

/-- An integer as a value. -/
def ofInt (i : Int) : FV := .fin (decide (i < 0)) i.natAbs 0

/-- floor(log2 |v|) of a non-zero finite value; 0 otherwise. -/
def floorLog2 : FV → Int
  | .fin _ m e => if m = 0 then 0 else e + (bitLen m : Int) - 1
  | _ => 0

/-- The integer nearest, ties to even, of a finite value. -/
def toIntRne : FV → Int
  | .fin s m e =>
    let n : Nat := if 0 ≤ e then m <<< e.toNat else rneShift m (-e).toNat
    if s then -(n : Int) else (n : Int)
  | _ => 0

/-- The integer part, towards zero, of a finite value. -/
def toIntTrunc : FV → Int
  | .fin s m e =>
    let n : Nat := if 0 ≤ e then m <<< e.toNat else m >>> (-e).toNat
    if s then -(n : Int) else (n : Int)
  | _ => 0

/-- The floor of a finite value. -/
def toIntFloor : FV → Int
  | .fin s m e =>
    let n : Nat := if 0 ≤ e then m <<< e.toNat else m >>> (-e).toNat
    let exact := decide (0 ≤ e) || (n <<< (-e).toNat == m)
    if s then (if exact then -(n : Int) else -(n : Int) - 1) else (n : Int)
  | _ => 0

end FV

/-- FP32 sum, one rounding. -/
def f32add (a b : Nat) : Nat := enc32 ((dec32 a).add (dec32 b))

/-- FP32 difference, one rounding. -/
def f32sub (a b : Nat) : Nat := enc32 ((dec32 a).add (dec32 b).neg)

/-- FP32 product, one rounding. -/
def f32mul (a b : Nat) : Nat := enc32 ((dec32 a).mul (dec32 b))

/-- FP32 fused multiply-add `a * b + c`, one rounding (R83). -/
def f32fma (a b c : Nat) : Nat := enc32 (((dec32 a).mul (dec32 b)).add (dec32 c))

/-- FP32 quotient, one rounding. -/
def f32div (a b : Nat) : Nat := enc32 ((dec32 a).div (dec32 b))

/-- FP32 square root, one rounding. -/
def f32sqrt (a : Nat) : Nat := enc32 (dec32 a).sqrt

/-- The FP32 canonical NaN (R62). -/
def nan32 : Nat := 0x7FC00000

/-- The FP32 pattern of 1. -/
def one32 : Nat := 0x3F800000

/-- Is an FP32 pattern finite? -/
def fin32 (w : Nat) : Bool := bitsN w 23 8 != 255

/-- FP32 of an integer, one rounding. -/
def f32ofInt (i : Int) : Nat := enc32 (FV.ofInt i)

end Sys2Proof.Machine
end

