-- ==== Sys2Proof/Machine/Formats.lean ====
section
/-! DEFINITION. The number formats of Table 3.1, the conversions of R68 to R71 and the activations of R81 and R82. -/

namespace Sys2Proof.Machine

/-- Decode FP8 E4M3 (Table 3.1): no infinity, 0x7F and 0xFF are NaN. -/
def decE4M3 (w : Nat) : FV :=
  let x := bitsN w 3 4
  let f := bitsN w 0 3
  let s := Nat.testBit w 7
  if bitsN w 0 7 = 0x7F then .nan
  else if x = 0 then .fin s f (-9)
  else .fin s (f + 8) ((x : Int) - 10)

/-- Decode FP4 E2M1 (Table 3.1). -/
def decE2M1 (w : Nat) : FV :=
  let x := bitsN w 1 2
  let f := bitsN w 0 1
  let s := Nat.testBit w 3
  if x = 0 then .fin s f (-1) else .fin s (f + 2) ((x : Int) - 2)

/-- Decode FP16. -/
def decF16 (w : Nat) : FV := decIEEE 5 10 w

/-- Decode BF16. -/
def decBf16 (w : Nat) : FV := decIEEE 8 7 w

/-- An E8M0 scale byte (R61). -/
def decE8M0 (b : Nat) : FV := if b % 256 = 255 then .nan else .fin false 1 ((b % 256 : Nat) - 127 : Int)

/-- The value of one element of a format code, its block scale not applied. -/
def decElem (fmt w : Nat) : FV :=
  match fmt with
  | 0 => decE4M3 w
  | 1 => decIEEE 5 2 w
  | 2 => decE4M3 w
  | 3 => decE2M1 w
  | 4 => FV.ofInt (sInt 8 w)
  | 5 => decBf16 w
  | 6 => decF16 w
  | 7 => decF16 w
  | 8 => FV.ofInt (sInt 8 w)
  | 9 => dec32 w
  | _ => dec64 w

/-- Status flag ACC_SAT (Table 3.4). -/
def flAccSat : Nat := 1
/-- Status flag NAN_OUT. -/
def flNan : Nat := 2
/-- Status flag INF_OUT. -/
def flInf : Nat := 4
/-- Status flag CONV_SAT. -/
def flConvSat : Nat := 8
/-- Status flag CONV_UNF. -/
def flConvUnf : Nat := 16
/-- Status flag PAIR_DROP. -/
def flPairDrop : Nat := 32
/-- Status flag MX_SCALE_CLAMP. -/
def flMxClamp : Nat := 64

/-- Round into a float layout and apply its range (R68): `top` is the largest finite magnitude, `infW` what an infinity
gives, `ovf` what an unsaturated finite overflow gives, `nanW` the NaN. The pair is bits and flags. -/
def convRange (mb : Nat) (emin : Int) (width top infW ovf nanW : Nat) (sat : Bool) (signed : Bool) : FV → Nat × Nat
  | .nan => (nanW, flNan)
  | .inf s => (infW + (if s && signed then 2 ^ (width - 1) else 0), flInf)
  | .fin s m e =>
    let b := magBits mb emin m e
    let sg := if s then 2 ^ (width - 1) else 0
    if top < b then
      (if sat then (sg + top, flConvSat) else (ovf + (if signed then sg else 0), flConvSat))
    else (sg + b, if m ≠ 0 && b == 0 then flConvUnf else 0)

/-- R68 for one FP32 value: the bits in the target format and the flags raised. -/
def convFloat (fmt : Nat) (sat : Bool) (v : FV) : Nat × Nat :=
  match fmt with
  | 0 => convRange 3 (-9) 8 0x7E 0x7F 0x7F 0x7F sat false v
  | 1 => convRange 2 (-16) 8 0x7B 0x7C 0x7C 0x7E sat true v
  | 5 => convRange 7 (-133) 16 0x7F7F 0x7F80 0x7F80 0x7FC0 sat true v
  | 6 => convRange 10 (-24) 16 0x7BFF 0x7C00 0x7C00 0x7E00 sat true v
  | _ => (enc32 v, (if v.isNan then flNan else 0) + (if v.isInf then flInf else 0))

/-- R69: INT8. -/
def convInt8 (v : FV) : Nat × Nat :=
  match v with
  | .nan => (0, flNan)
  | .inf s => (if s then 0x80 else 0x7F, flInf ||| flConvSat)
  | .fin _ m _ =>
    let i := v.toIntRne
    if i > 127 then (0x7F, flConvSat) else if i < -128 then (0x80, flConvSat)
    else (sNat 8 i, if m ≠ 0 && i == 0 then flConvUnf else 0)

/-- Any one-element conversion without a block scale. -/
def convElem (fmt : Nat) (sat : Bool) (v : FV) : Nat × Nat :=
  if fmt = 4 then convInt8 v else convFloat fmt sat v

/-- OR of flags. -/
def orFlags (l : List Nat) : Nat := l.foldl (· ||| ·) 0

/-- The largest finite magnitude's floor(log2), none where every finite value is zero. -/
def blockLog2 (vs : List FV) : Option Int :=
  vs.foldl (fun a v => match v with
    | .fin _ m _ => if m = 0 then a else
        match a with
        | none => some v.floorLog2
        | some x => some (max x v.floorLog2)
    | _ => a) none

/-- Clamp an integer to a range. -/
def clampI (lo hi x : Int) : Int := if x < lo then lo else if hi < x then hi else x

/-- R70: an MX block: the scale byte, each element's code and flags, and the flags of the block. -/
def convMx (fp4 : Bool) (vs : List FV) : Nat × List (Nat × Nat) × Nat :=
  let bad := orFlags (vs.map (fun v => (if v.isNan then flNan else 0) + (if v.isInf then flInf else 0)))
  if bad ≠ 0 then (0xFF, vs.map (fun _ => (0, 0)), bad)
  else
    let elem (x : Int) (v : FV) : Nat × Nat :=
      match v with
      | .fin s m e =>
        let b := if fp4 then magBits 1 (-1) m (e - x) else magBits 3 (-9) m (e - x)
        let top := if fp4 then 7 else 0x7E
        let sg := if s then (if fp4 then 8 else 0x80) else 0
        (sg + min b top, (if top < b then flConvSat else 0) + (if m ≠ 0 && b == 0 then flConvUnf else 0))
      | _ => (0, 0)
    match blockLog2 vs with
    | none => (0x7F, vs.map (elem 0), 0)
    | some l =>
      let x := l - (if fp4 then 2 else 8)
      let x' := clampI (-127) 127 x
      ((x' + 127).toNat, vs.map (elem x'), if x' = x then 0 else flMxClamp)

/-- R71: an SFP16 block of valid elements: the scale byte, each element's FP16 code and flags, and the flags of the
block. -/
def convSfp16 (sat : Bool) (vs : List FV) : Nat × List (Nat × Nat) × Nat :=
  match blockLog2 vs with
  | none => (0, vs.map (convFloat 6 sat), 0)
  | some l =>
    let s := l - 14
    let s' := clampI (-128) 127 s
    (sNat 8 s', vs.map (fun v => convFloat 6 sat (v.scale (-s'))), if s' = s then 0 else flMxClamp)

/-- A stored SFP16 element: the FP16 code times `2^s` (R61). -/
def decSfp16 (scaleByte w : Nat) : FV := (decF16 w).scale (sInt 8 scaleByte)

/-- A stored MX element (R61). -/
def decMx (fp4 : Bool) (scaleByte w : Nat) : FV :=
  match decE8M0 scaleByte with
  | .fin _ _ k => (if fp4 then decE2M1 w else decE4M3 w).scale k
  | _ => .nan

/-! ### Activations -/

/-- ln 2 times `2^480`, rounded down. -/
def ln2Fixed : Int := 2163831206068626582013545711676841861948052748333448460576126764197453058704984291728498395082427418541825153072586431322543340688239788857703209

/-- The square root of 2/pi times `2^480`, rounded down. -/
def geluFixed : Nat := 2490794971005857083316310312450946049687972001914210824360603369986754580625336007051720022401765967694307127796535807143009818744826032639783528

/-- The sum of the exponential series of a fixed-point number in [0, ln 2). -/
def expSeries : Nat → Nat → Int → Int → Int → Int
  | 0, _, _, _, acc => acc
  | k + 1, n, r, term, acc =>
    let t := term * r / 2 ^ 480 / (n + 1 : Nat)
    expSeries k (n + 1) r t (acc + t)

/-- e^v of a finite value of magnitude below 1,024, far more exactly than FP32. -/
def expFV (v : FV) : FV :=
  let x := (v.scale 480).toIntFloor
  let k := x / ln2Fixed
  let r := x - k * ln2Fixed
  .fin false (expSeries 96 0 r (2 ^ 480) (2 ^ 480)).toNat (k - 480)

/-- The value 1. -/
def oneV : FV := .fin false 1 0

/-- `x / (1 + e^-z)`, with `z` held within ±400, beyond which the result has its limit in FP32. -/
def sigmoidMul (x z : FV) : FV :=
  let lim := FV.ofInt 400
  let z' := if FV.lt lim z then lim else if FV.lt z lim.neg then lim.neg else z
  x.div (oneV.add (expFV z'.neg))

/-- The function of a built-in entry from 0x02 to 0x06 on a finite value, and on the edges of Table 3.6. -/
def actExact (entry : Nat) (x : FV) : FV :=
  match x with
  | .nan => .nan
  | .inf s =>
    match entry with
    | 4 => .fin s 1 0
    | 5 => if s then .fin false 0 0 else .inf false
    | 6 => .fin s 0 0
    | _ => if s then .fin true 0 0 else .inf false
  | .fin s m _ =>
    match entry with
    | 2 =>
      let cube := (x.mul x).mul x
      let y := x.add (cube.mul ((FV.ofInt 44715).div (FV.ofInt 1000000)))
      sigmoidMul x ((y.mul (.fin false geluFixed (-480))).scale 1)
    | 3 => sigmoidMul x x
    | 4 =>
      let a := x.abs
      if FV.lt (FV.ofInt 100) a then .fin s 1 0
      else
        let t := expFV (a.scale 1).neg
        let r := (oneV.add t.neg).div (oneV.add t)
        if s then r.neg else r
    | 5 =>
      if FV.lt (FV.ofInt 88722) (x.mul (FV.ofInt 1000)) then .inf false
      else if FV.lt (x.mul (FV.ofInt 100)) (FV.ofInt (-10397)) then .fin false 0 0
      else expFV x
    | _ => if m = 0 then .inf s else oneV.div x

/-- Does Table 3.6 state the result of this operand without an error (an edge)? -/
def actEdge (entry : Nat) (x : FV) : Bool :=
  match x with
  | .nan => true
  | .inf _ => true
  | .fin _ m _ =>
    match entry with
    | 5 => FV.lt (FV.ofInt 88722) (x.mul (FV.ofInt 1000)) || FV.lt (x.mul (FV.ofInt 100)) (FV.ofInt (-10397))
    | 6 => m == 0
    | _ => false

/-- The largest error of a built-in in ulps (Table 3.6). -/
def actTol (entry : Nat) : Int :=
  match entry with
  | 2 => 4
  | 3 => 4
  | 4 => 2
  | 5 => 2
  | 6 => 1
  | _ => 0

/-- An FP32 pattern moved by `d` steps along the number line, stopping at the infinities. -/
def ulpStep (w : Nat) (d : Int) : Nat :=
  if d = 0 then w
  else
    let mag : Int := (bitsN w 0 31 : Nat)
    let i := (if Nat.testBit w 31 then -mag else mag) + d
    let a := min i.natAbs 0x7F800000
    if i < 0 then 0x80000000 + a else a

/-- A built-in activation on FP32 bits (R81, Table 3.6): exact for identity and ReLU; for the others the correctly
rounded value moved by an open number of ulps within the stated accuracy. -/
def actBuiltin (entry x : Nat) : Nat :=
  let v := dec32 x
  if v.isNan then nan32
  else match entry with
    | 0 => x
    | 1 => if v.sign then 0 else x
    | _ =>
      let w := enc32 (actExact entry v)
      if actEdge entry v then w
      else ulpStep w (clampI (-(actTol entry)) (actTol entry) (Config.actUlp entry x))

/-- A user activation record (Table 3.7) applied to FP32 bits (R82). A record with a reserved value, or one whose W
gives no segment, has an open result. -/
def actUser (rec : List Byte) (x : Nat) : Nat :=
  let v := dec32 x
  if v.isNan then nan32
  else
    let w (o : Nat) := rdLe rec o 4
    let sym := rdLe rec 0x1D 1
    let segs := rdLe rec 0x1C 1
    let flip := sym ≠ 0 && v.sign && !v.isZero
    let ax := if flip then enc32 v.neg else x
    let sg (r : Nat) : Nat := if flip && sym == 1 then enc32 (dec32 r).neg else enc32 (dec32 r)
    let va := dec32 ax
    if FV.lt va (dec32 (w 0)) then sg (f32fma (w 0x10) ax (w 0x0C))
    else if FV.lt (dec32 (w 4)) va || FV.eqv (dec32 (w 4)) va then sg (f32fma (w 0x18) ax (w 0x14))
    else
      let u := f32mul (f32sub ax (w 0)) (w 8)
      let k : Int := min (dec32 u).toIntFloor ((segs : Int) - 1)
      if !(dec32 u).isFin || decide (k < 0) || decide (14 < segs) || decide (2 < sym) then
        (Config.actOpen (leNat rec) x).toNat
      else
      let t := enc32 ((dec32 u).add (FV.ofInt (-k)))
      let c (j : Nat) := w (0x20 + 16 * k.toNat + 4 * j)
      sg (f32fma (f32fma (f32fma (c 3) t (c 2)) t (c 1)) t (c 0))

end Sys2Proof.Machine
end

