-- ==== Sys2Proof/Machine/OdTable.lean ====
section
/-! DEFINITION. The object dictionary: every entry of the spec's OD tables with its type, access, size, default and range
(Tables 2.9, 3.10, 4.9, 5.9, 6.8, 6.14, 7.14, 8.9, 9.11, 10.9, 11.18, 12.16, 13 and 14.12). -/

namespace Sys2Proof.Machine

/-- One row of an OD table: the entries `index.first` to `index.last`, the codes of Tables 11.5 and 11.6, the bytes of a
value (the longest for STR and BLOB), the default in the entry's encoding, the least and greatest value (float entries: as
bits; STR and BLOB: lengths), the multiple a value must be of, and one value allowed beside the range. -/
structure OdRow where
  index : Nat
  first : Nat
  last : Nat
  typ : Nat
  acc : Nat
  size : Nat
  dflt : Nat
  lo : Int
  hi : Int
  mult : Nat
  also : Option Nat
  deriving DecidableEq, Repr, Inhabited

/-- Entries of the range 0x1000. -/
def odRows1a : List OdRow := [
  ⟨0x1000, 1, 1, 11, 1, 0x10, 0, 1, 0x10, 1, none⟩,
  ⟨0x1000, 2, 2, 3, 1, 2, 0xA1, 0, 0xFFFF, 1, none⟩,
  ⟨0x1000, 3, 3, 11, 1, 0x10, 0, 1, 0x10, 1, none⟩,
  ⟨0x1000, 4, 4, 4, 1, 4, 0, 0, 0xFFFFFFFF, 1, none⟩,
  ⟨0x1000, 5, 5, 4, 1, 4, 0x1000000, 0, 0xFFFFFFFF, 1, none⟩,
  ⟨0x1000, 6, 6, 5, 1, 8, 0, 0, 0xFFFFFFFFFFFF, 1, none⟩,
  ⟨0x1001, 1, 1, 12, 1, 0x100000, 0, 0, 0x100000, 1, none⟩,
  ⟨0x1010, 1, 1, 2, 1, 1, 1, 0, 7, 1, none⟩,
  ⟨0x1010, 2, 2, 2, 4, 1, 0, 1, 8, 1, none⟩,
  ⟨0x1010, 3, 3, 2, 1, 1, 0, 0, 9, 1, none⟩,
  ⟨0x1010, 4, 4, 5, 1, 8, 0, 0, 0xFFFFFFFFFFFFFFFF, 1, none⟩,
  ⟨0x1010, 5, 5, 2, 2, 1, 3, 1, 0xF, 1, none⟩,
  ⟨0x1010, 6, 6, 2, 1, 1, 0, 0, 0xFF, 1, none⟩,
  ⟨0x1010, 7, 7, 10, 1, 8, 0x8000000000000000, (-9223372036854775808), 0x7FFFFFFFFFFFFFFF, 1, none⟩,
  ⟨0x1100, 1, 1, 12, 1, 0x100000, 0, 0, 0x100000, 1, none⟩,
  ⟨0x1101, 1, 1, 5, 1, 8, 0, 0, 0xFFFFFFFFFFFFFFFF, 1, none⟩,
  ⟨0x1103, 1, 1, 5, 1, 8, 0, 0, 0xFFFFFFFFFFFFFFFF, 1, none⟩,
  ⟨0x1103, 2, 2, 5, 1, 8, 0, 0, 0xFFFFFFFFFFFFFFFF, 1, none⟩,
  ⟨0x1103, 3, 3, 5, 1, 8, 0, 0, 0xFFFFFFFFFFFFFFFF, 1, none⟩,
  ⟨0x1200, 1, 1, 12, 3, 0x10, 0, 0x10, 0x10, 1, none⟩,
  ⟨0x1200, 2, 2, 4, 3, 4, 0, 0, 0xFFFFFFFF, 1, none⟩,
  ⟨0x1200, 3, 3, 3, 3, 2, 0xBACC, 0x400, 0xFFFF, 1, none⟩,
  ⟨0x1200, 4, 4, 2, 3, 1, 0xFF, 0, 0xFE, 1, some 0xFF⟩,
  ⟨0x1200, 5, 5, 2, 3, 1, 8, 1, 0xFF, 1, none⟩,
  ⟨0x1200, 6, 6, 4, 2, 4, 0xEA60, 0x3E8, 0x36EE80, 1, none⟩]

/-- Entries of the range 0x1000. -/
def odRows1b : List OdRow := [
  ⟨0x1200, 7, 7, 3, 3, 2, 0, 0, 0x7FF, 1, none⟩,
  ⟨0x1210, 1, 1, 2, 1, 1, 0, 0, 8, 1, none⟩,
  ⟨0x1210, 2, 2, 5, 1, 8, 0, 0, 0xFFFFFFFFFFFFFFFF, 1, none⟩,
  ⟨0x1210, 3, 3, 5, 1, 8, 0, 0, 0xFFFFFFFFFFFFFFFF, 1, none⟩,
  ⟨0x1210, 4, 4, 5, 1, 8, 0, 0, 0xFFFFFFFFFFFFFFFF, 1, none⟩,
  ⟨0x1210, 5, 5, 5, 1, 8, 0, 0, 0xFFFFFFFFFFFFFFFF, 1, none⟩,
  ⟨0x1210, 6, 6, 5, 1, 8, 0, 0, 0xFFFFFFFFFFFFFFFF, 1, none⟩,
  ⟨0x1220, 1, 1, 2, 1, 1, 0, 0, 2, 1, none⟩,
  ⟨0x1220, 2, 2, 5, 1, 8, 0, 0, 0xFFFFFFFFFFFFFFFF, 1, none⟩,
  ⟨0x1300, 1, 1, 12, 3, 0x10000, 0, 0x40, 0x10000, 1, none⟩,
  ⟨0x1300, 2, 2, 12, 1, 0x40, 0, 0x40, 0x40, 1, none⟩,
  ⟨0x1300, 3, 3, 4, 1, 4, 0, 0, 0xFFFFFFFF, 1, none⟩]

/-- Entries of the range 0x2000. -/
def odRows2a : List OdRow := [
  ⟨0x2010, 1, 1, 3, 3, 2, 0, 0, 0xFFFF, 1, none⟩,
  ⟨0x2010, 2, 2, 12, 3, 0x840, 0, 0, 0x840, 1, none⟩,
  ⟨0x2010, 3, 3, 3, 1, 2, 0, 0, 0xFFFF, 1, none⟩,
  ⟨0x2010, 4, 4, 5, 1, 8, 0, 0, 0xFFFFFFFFFFFFFFFF, 1, none⟩,
  ⟨0x2010, 5, 5, 2, 1, 1, 0, 0, 6, 1, none⟩,
  ⟨0x2010, 6, 6, 5, 1, 8, 0, 0, 0xFFFFFFFFFFFFFFFF, 1, none⟩,
  ⟨0x2020, 2, 2, 5, 1, 8, 0, 0, 0xFFFFFFFFFFFFFFFF, 1, none⟩,
  ⟨0x2020, 3, 3, 5, 1, 8, 0, 0, 0xFFFFFFFFFFFFFFFF, 1, none⟩,
  ⟨0x2030, 1, 1, 5, 3, 8, 0, 0, 0xFFFFFFFFFFFFFFFF, 1, none⟩,
  ⟨0x2030, 2, 2, 5, 3, 8, 0, 0, 0xFFFFFFFFFFFFFFFF, 1, none⟩,
  ⟨0x2030, 3, 3, 4, 1, 4, 0, 0, 0xFFFFFFFF, 1, none⟩,
  ⟨0x2030, 4, 4, 5, 1, 8, 0, 0, 0xFFFFFFFFFFFFFFFF, 1, none⟩,
  ⟨0x2030, 5, 5, 5, 1, 8, 0, 0, 0xFFFFFFFFFFFFFFFF, 1, none⟩,
  ⟨0x2030, 6, 6, 5, 1, 8, 0, 0, 0xFFFFFFFFFFFFFFFF, 1, none⟩,
  ⟨0x2040, 1, 1, 5, 1, 8, 0, 0, 0xFFFFFFFFFFFFFFFF, 1, none⟩,
  ⟨0x2040, 2, 2, 5, 1, 8, 0, 0, 0xFFFFFFFFFFFFFFFF, 1, none⟩,
  ⟨0x2040, 3, 3, 5, 1, 8, 0, 0, 0xFFFFFFFFFFFFFFFF, 1, none⟩,
  ⟨0x2040, 4, 4, 4, 2, 4, 0x1F4, 0xA, 0x2710, 1, none⟩,
  ⟨0x2040, 5, 5, 4, 2, 4, 0x7D0, 0x64, 0xEA60, 1, none⟩,
  ⟨0x2100, 1, 1, 3, 3, 2, 0x40, 0, 0xFFF, 1, none⟩,
  ⟨0x2140, 1, 1, 5, 1, 8, 0, 0, 0xFFFFFFFFFFFFFFFF, 1, none⟩,
  ⟨0x2140, 2, 2, 5, 1, 8, 0, 0, 0xFFFFFFFFFFFFFFFF, 1, none⟩,
  ⟨0x2140, 3, 3, 5, 1, 8, 0, 0, 0xFFFFFFFFFFFFFFFF, 1, none⟩,
  ⟨0x2140, 4, 4, 5, 1, 8, 0, 0, 0xFFFFFFFFFFFFFFFF, 1, none⟩,
  ⟨0x2140, 5, 5, 5, 1, 8, 0, 0, 0xFFFFFFFFFFFFFFFF, 1, none⟩]

/-- Entries of the range 0x2000. -/
def odRows2b : List OdRow := [
  ⟨0x2140, 6, 6, 5, 1, 8, 0, 0, 0xFFFFFFFFFFFFFFFF, 1, none⟩,
  ⟨0x2141, 1, 1, 3, 2, 2, 0, 0, 0x17FF, 1, none⟩,
  ⟨0x2141, 2, 7, 5, 1, 8, 0, 0, 0xFFFFFFFFFFFFFFFF, 1, none⟩,
  ⟨0x2141, 8, 8, 5, 1, 8, 0, 0, 0xFFFFFFFFFFFFFFFF, 1, none⟩,
  ⟨0x2141, 9, 9, 5, 1, 8, 0, 0, 0xFFFFFFFFFFFFFFFF, 1, none⟩,
  ⟨0x2141, 0xA, 0xA, 5, 1, 8, 0, 0, 0xFFFFFFFFFFFFFFFF, 1, none⟩,
  ⟨0x2141, 0xB, 0xB, 5, 1, 8, 0, 0, 0xFFFFFFFFFFFFFFFF, 1, none⟩,
  ⟨0x2150, 1, 1, 5, 1, 8, 0, 0, 0xFFFFFFFFFFFFFFFF, 1, none⟩,
  ⟨0x2150, 2, 2, 4, 1, 4, 0, 0, 0xFFFFFFFF, 1, none⟩,
  ⟨0x2160, 1, 1, 5, 1, 8, 0, 0, 0xFFFFFFFFFFFFFFFF, 1, none⟩,
  ⟨0x2160, 2, 2, 5, 1, 8, 0, 0, 0xFFFFFFFFFFFFFFFF, 1, none⟩,
  ⟨0x2160, 3, 3, 5, 1, 8, 0, 0, 0xFFFFFFFFFFFFFFFF, 1, none⟩,
  ⟨0x2160, 4, 4, 5, 1, 8, 0, 0, 0xFFFFFFFFFFFFFFFF, 1, none⟩,
  ⟨0x2400, 1, 1, 5, 1, 8, 0, 0, 0xFFFFFFFFFFFFFFFF, 1, none⟩,
  ⟨0x2400, 2, 2, 5, 1, 8, 0, 0, 0xFFFFFFFFFFFFFFFF, 1, none⟩,
  ⟨0x2400, 3, 3, 5, 1, 8, 0, 0, 0xFFFFFFFFFFFFFFFF, 1, none⟩,
  ⟨0x2400, 4, 4, 5, 1, 8, 0, 0, 0xFFFFFFFFFFFFFFFF, 1, none⟩,
  ⟨0x2400, 5, 5, 5, 1, 8, 0, 0, 0xFFFFFFFFFFFFFFFF, 1, none⟩,
  ⟨0x2401, 1, 1, 2, 2, 1, 0, 0, 0x5F, 1, none⟩,
  ⟨0x2401, 2, 2, 5, 1, 8, 0, 0, 0xFFFFFFFFFFFFFFFF, 1, none⟩,
  ⟨0x2401, 3, 3, 12, 1, 0x200, 0, 0x200, 0x200, 1, none⟩,
  ⟨0x2401, 4, 4, 5, 1, 8, 0, 0, 0xFFFFFFFFFFFFFFFF, 1, none⟩]

/-- Entries of the range 0x3000. -/
def odRows3a : List OdRow := [
  ⟨0x3000, 1, 1, 5, 3, 8, 0, 0, 0xFFFFFFFFFFFFFFFF, 0x40000000, none⟩,
  ⟨0x3000, 2, 2, 5, 3, 8, 0, 0, 0x40000000000, 0x40000000, none⟩,
  ⟨0x3100, 1, 1, 5, 1, 8, 0x80000000, 0, 0xFFFFFFFFFFFFFFFF, 1, none⟩,
  ⟨0x3100, 2, 2, 5, 3, 8, 0, 0, 0xC00000000, 0x40000000, none⟩,
  ⟨0x3100, 3, 3, 5, 3, 8, 0x80000000, 0x40000000, 0x200000000, 0x40000000, none⟩,
  ⟨0x3100, 4, 4, 5, 1, 8, 0x80000000, 0, 0xFFFFFFFFFFFFFFFF, 1, none⟩,
  ⟨0x3200, 1, 1, 5, 3, 8, 0, 0, 0xFFFFFFFFFFFFFFFF, 0x4000, none⟩,
  ⟨0x3200, 2, 2, 4, 3, 4, 0x32000, 0x30000, 0x3FFE0, 1, none⟩,
  ⟨0x3300, 1, 1, 3, 2, 2, 0x18, 0, 0xA8, 1, none⟩,
  ⟨0x3300, 2, 2, 5, 1, 8, 0, 0, 0xFFFFFFFFFFFFFFFF, 1, none⟩,
  ⟨0x3300, 3, 3, 5, 1, 8, 0, 0, 0xFFFFFFFFFFFFFFFF, 1, none⟩,
  ⟨0x3300, 4, 4, 5, 1, 8, 0, 0, 0xFFFFFFFFFFFFFFFF, 1, none⟩,
  ⟨0x3400, 1, 1, 5, 1, 8, 0, 0, 0xFFFFFFFFFFFFFFFF, 1, none⟩,
  ⟨0x3400, 2, 2, 5, 1, 8, 0, 0, 0xFFFFFFFFFFFFFFFF, 1, none⟩,
  ⟨0x3400, 3, 3, 5, 1, 8, 0, 0, 0xFFFFFFFFFFFFFFFF, 1, none⟩,
  ⟨0x3400, 4, 4, 5, 1, 8, 0, 0, 0xFFFFFFFFFFFFFFFF, 1, none⟩,
  ⟨0x3400, 5, 5, 5, 1, 8, 0, 0, 0xFFFFFFFFFFFFFFFF, 1, none⟩,
  ⟨0x3400, 6, 6, 5, 1, 8, 0, 0, 0xFFFFFFFFFFFFFFFF, 1, none⟩,
  ⟨0x3400, 7, 7, 5, 1, 8, 0, 0, 0xFFFFFFFFFFFFFFFF, 1, none⟩,
  ⟨0x3400, 8, 8, 5, 1, 8, 0, 0, 0xFFFFFFFFFFFFFFFF, 1, none⟩,
  ⟨0x3400, 9, 9, 5, 1, 8, 0, 0, 0xFFFFFFFFFFFFFFFF, 1, none⟩,
  ⟨0x3400, 0xA, 0xA, 4, 1, 4, 0, 0, 0xFFFFFFFF, 1, none⟩,
  ⟨0x3500, 1, 1, 5, 1, 8, 0, 0, 0xFFFFFFFFFFFFFFFF, 1, none⟩,
  ⟨0x3500, 2, 2, 5, 1, 8, 0, 0, 0xFFFFFFFFFFFFFFFF, 1, none⟩,
  ⟨0x3500, 3, 3, 5, 1, 8, 0, 0, 0xFFFFFFFFFFFFFFFF, 1, none⟩]

/-- Entries of the range 0x3000. -/
def odRows3b : List OdRow := [
  ⟨0x3500, 4, 4, 5, 1, 8, 0, 0, 0xFFFFFFFFFFFFFFFF, 1, none⟩,
  ⟨0x3500, 5, 5, 5, 1, 8, 0, 0, 0xFFFFFFFFFFFFFFFF, 1, none⟩,
  ⟨0x3600, 1, 1, 5, 1, 8, 0, 0, 0xFFFFFFFFFFFFFFFF, 1, none⟩,
  ⟨0x3600, 2, 2, 5, 1, 8, 0, 0, 0xFFFFFFFFFFFFFFFF, 1, none⟩]

/-- Entries of the range 0x4000. -/
def odRows4a : List OdRow := [
  ⟨0x4000, 1, 1, 10, 1, 8, 0x8000000000000000, (-9223372036854775808), 0x7FFFFFFFFFFFFFFF, 1, none⟩,
  ⟨0x4000, 2, 2, 10, 4, 8, 0, (-9223372036854775808), 0x7FFFFFFFFFFFFFFF, 1, none⟩,
  ⟨0x4010, 1, 1, 2, 1, 1, 0, 0, 3, 1, none⟩,
  ⟨0x4010, 2, 2, 2, 3, 1, 0, 0, 2, 1, none⟩,
  ⟨0x4010, 3, 3, 7, 1, 8, 0, (-9223372036854775808), 0x7FFFFFFFFFFFFFFF, 1, none⟩,
  ⟨0x4010, 4, 4, 7, 1, 8, 0, (-9223372036854775808), 0x7FFFFFFFFFFFFFFF, 1, none⟩,
  ⟨0x4010, 5, 5, 6, 1, 4, 0, (-2147483648), 0x7FFFFFFF, 1, none⟩,
  ⟨0x4010, 6, 6, 5, 1, 8, 0, 0, 0xFFFFFFFFFFFFFFFF, 1, none⟩,
  ⟨0x4020, 1, 1, 2, 3, 1, 0xFF, 0, 0xF, 1, some 0xFF⟩,
  ⟨0x4020, 2, 2, 2, 3, 1, 0x40, 1, 0x80, 1, none⟩,
  ⟨0x4020, 3, 3, 2, 3, 1, 8, 1, 0x40, 1, none⟩,
  ⟨0x4020, 4, 4, 4, 3, 4, 0x186A0, 0x3E8, 0x7A120, 1, none⟩,
  ⟨0x4020, 5, 5, 5, 3, 8, 0xF4240, 0x3E8, 0x3B9ACA00, 1, none⟩,
  ⟨0x4020, 6, 6, 5, 1, 8, 0, 0, 0xFFFFFFFFFFFFFFFF, 1, none⟩,
  ⟨0x4030, 1, 0x40, 6, 2, 4, 0, (-10000000), 0x989680, 1, none⟩,
  ⟨0x4040, 1, 1, 1, 2, 1, 0, 0, 1, 1, none⟩,
  ⟨0x4040, 2, 2, 10, 1, 8, 0x8000000000000000, (-9223372036854775808), 0x7FFFFFFFFFFFFFFF, 1, none⟩,
  ⟨0x4100, 1, 1, 12, 3, 0x2000, 0, 0x2000, 0x2000, 1, none⟩,
  ⟨0x4100, 2, 2, 12, 3, 0x5000, 0, 0x5000, 0x5000, 1, none⟩,
  ⟨0x4100, 3, 3, 2, 3, 1, 0, 0, 0xFF, 1, none⟩,
  ⟨0x4200, 1, 1, 4, 2, 4, 0, 0, 0x3FFFF, 1, none⟩,
  ⟨0x4200, 2, 2, 5, 1, 8, 0, 0, 0xFFFFFFFFFFFFFFFF, 1, none⟩,
  ⟨0x4200, 3, 3, 5, 1, 8, 0, 0, 0xFFFFFFFFFFFFFFFF, 1, none⟩,
  ⟨0x4300, 1, 1, 12, 3, 0x8000, 0, 0x8000, 0x8000, 1, none⟩,
  ⟨0x4301, 1, 1, 3, 2, 2, 0, 0, 0x3FF, 1, none⟩]

/-- Entries of the range 0x4000. -/
def odRows4b : List OdRow := [
  ⟨0x4301, 2, 2, 12, 2, 0x20, 0, 0x20, 0x20, 1, none⟩,
  ⟨0x4301, 3, 3, 4, 3, 4, 0xF4240, 0x186A0, 0x3B9ACA00, 1, none⟩,
  ⟨0x4302, 1, 1, 4, 3, 4, 0xF4240, 0x3E8, 0x3B9ACA00, 1, none⟩,
  ⟨0x4400, 1, 1, 10, 1, 8, 0x8000000000000000, (-9223372036854775808), 0x7FFFFFFFFFFFFFFF, 1, none⟩,
  ⟨0x4400, 2, 2, 4, 1, 4, 0, 0, 0x3FF, 1, none⟩,
  ⟨0x4400, 3, 3, 5, 1, 8, 0, 0, 0xFFFFFFFFFFFFFFFF, 1, none⟩,
  ⟨0x4400, 4, 4, 4, 1, 4, 0, 0, 0xFFFFFFFF, 1, none⟩,
  ⟨0x4420, 1, 1, 5, 1, 8, 0, 0, 0xFFFFFFFFFFFFFFFF, 1, none⟩,
  ⟨0x4420, 2, 2, 5, 1, 8, 0, 0, 0xFFFFFFFFFFFFFFFF, 1, none⟩,
  ⟨0x4420, 3, 3, 5, 1, 8, 0, 0, 0xFFFFFFFFFFFFFFFF, 1, none⟩,
  ⟨0x4420, 4, 4, 5, 1, 8, 0, 0, 0xFFFFFFFFFFFFFFFF, 1, none⟩]

/-- Entries of the range 0x5000. -/
def odRows5a : List OdRow := [
  ⟨0x5000, 1, 1, 3, 1, 2, 0, 0, 0xFFFF, 1, none⟩,
  ⟨0x5010, 1, 1, 2, 2, 1, 0, 0, 0xF, 1, none⟩,
  ⟨0x5010, 2, 2, 2, 1, 1, 0, 0, 5, 1, none⟩,
  ⟨0x5010, 3, 3, 3, 1, 2, 0xFFFF, 0, 0xFFFF, 1, none⟩,
  ⟨0x5010, 4, 4, 5, 1, 8, 0, 0, 0xFFFFFFFFFFFFFFFF, 1, none⟩,
  ⟨0x5010, 5, 5, 5, 1, 8, 0, 0, 0xFFFFFFFFFFFFFFFF, 1, none⟩,
  ⟨0x5010, 6, 6, 5, 1, 8, 0, 0, 0xFFFFFFFFFFFFFFFF, 1, none⟩,
  ⟨0x5010, 7, 7, 5, 1, 8, 0, 0, 0xFFFFFFFFFFFFFFFF, 1, none⟩,
  ⟨0x5010, 8, 8, 5, 1, 8, 0, 0, 0xFFFFFFFFFFFFFFFF, 1, none⟩,
  ⟨0x5010, 9, 9, 5, 1, 8, 0, 0, 0xFFFFFFFFFFFFFFFF, 1, none⟩,
  ⟨0x5010, 0xA, 0xA, 6, 1, 4, 0, (-2147483648), 0x7FFFFFFF, 1, none⟩,
  ⟨0x5100, 1, 1, 2, 2, 1, 8, 1, 0x40, 1, none⟩,
  ⟨0x5100, 2, 2, 4, 2, 4, 0xC8, 0xA, 0x2710, 1, none⟩,
  ⟨0x5100, 3, 3, 5, 1, 8, 0, 0, 0xFFFFFFFFFFFFFFFF, 1, none⟩,
  ⟨0x5100, 4, 4, 4, 2, 4, 0xA, 1, 0x3E8, 1, none⟩,
  ⟨0x5100, 5, 5, 4, 2, 4, 5, 1, 0x3E8, 1, none⟩,
  ⟨0x5200, 1, 1, 12, 3, 0x400, 0, 0x400, 0x400, 1, none⟩,
  ⟨0x5200, 2, 2, 5, 1, 8, 0, 0, 0xFFFFFFFFFFFFFFFF, 1, none⟩,
  ⟨0x5200, 3, 3, 5, 1, 8, 0, 0, 0xFFFFFFFFFFFFFFFF, 1, none⟩,
  ⟨0x5300, 1, 1, 12, 3, 0x10, 0, 0x10, 0x10, 1, none⟩,
  ⟨0x5300, 2, 2, 12, 3, 0x10, 0, 0x10, 0x10, 1, none⟩,
  ⟨0x5400, 1, 1, 5, 3, 8, 0, 0, 0xFFFFFFFFFFFFFFFF, 0x4000, none⟩,
  ⟨0x5400, 2, 2, 4, 3, 4, 0x32020, 0x30000, 0x3FFF0, 1, none⟩,
  ⟨0x5400, 3, 3, 2, 3, 1, 4, 1, 8, 1, none⟩,
  ⟨0x5400, 4, 4, 4, 2, 4, 0x1F4, 0x32, 0x186A0, 1, none⟩]

/-- Entries of the range 0x5000. -/
def odRows5b : List OdRow := [
  ⟨0x5400, 5, 5, 5, 1, 8, 0, 0, 0xFFFFFFFFFFFFFFFF, 1, none⟩,
  ⟨0x5400, 6, 6, 5, 1, 8, 0, 0, 0xFFFFFFFFFFFFFFFF, 1, none⟩,
  ⟨0x5400, 7, 7, 5, 1, 8, 0, 0, 0xFFFFFFFFFFFFFFFF, 1, none⟩,
  ⟨0x5400, 8, 8, 4, 1, 4, 0, 0, 0xFFFFFFFF, 1, none⟩,
  ⟨0x5410, 1, 1, 5, 1, 8, 0, 0, 0xFFFFFFFFFFFFFFFF, 1, none⟩,
  ⟨0x5410, 2, 2, 2, 2, 1, 3, 1, 0xF, 1, none⟩,
  ⟨0x5420, 1, 1, 5, 1, 8, 0, 0, 0xFFFFFFFFFFFFFFFF, 1, none⟩,
  ⟨0x5420, 2, 2, 5, 1, 8, 0, 0, 0xFFFFFFFFFFFFFFFF, 1, none⟩,
  ⟨0x5420, 3, 3, 5, 1, 8, 0, 0, 0xFFFFFFFFFFFFFFFF, 1, none⟩,
  ⟨0x5430, 1, 1, 3, 2, 2, 0, 0, 0xFFF, 1, none⟩,
  ⟨0x5430, 2, 2, 5, 1, 8, 0, 0, 0xFFFFFFFFFFFFFFFF, 1, none⟩,
  ⟨0x5430, 3, 3, 5, 1, 8, 0, 0, 0xFFFFFFFFFFFFFFFF, 1, none⟩]

/-- Entries of the range 0x6000. -/
def odRows6a : List OdRow := [
  ⟨0x6000, 1, 1, 2, 1, 1, 0, 0, 4, 1, none⟩,
  ⟨0x6000, 2, 2, 2, 1, 1, 0, 0, 4, 1, none⟩,
  ⟨0x6000, 3, 3, 5, 1, 8, 0, 0, 0xFFFFFFFFFFFFFFFF, 1, none⟩,
  ⟨0x6000, 4, 4, 5, 1, 8, 0, 0, 0xFFFFFFFFFFFFFFFF, 1, none⟩,
  ⟨0x6001, 1, 1, 12, 3, 0x4000, 0, 0, 0x4000, 1, none⟩,
  ⟨0x6001, 2, 2, 2, 1, 1, 0xFF, 0, 0x3F, 1, none⟩,
  ⟨0x6002, 1, 1, 3, 3, 2, 0xBAD6, 0x400, 0xFFFF, 1, none⟩,
  ⟨0x6002, 2, 2, 2, 3, 1, 0, 0, 0x3F, 1, none⟩,
  ⟨0x6002, 3, 3, 3, 3, 2, 0xFFFF, 0, 0xFFE, 1, some 0xFFFF⟩,
  ⟨0x6002, 4, 4, 12, 3, 0x40, 0, 0x40, 0x40, 1, none⟩,
  ⟨0x6010, 1, 1, 2, 2, 1, 0, 0, 0x3F, 1, none⟩,
  ⟨0x6010, 2, 2, 2, 1, 1, 0, 0, 3, 1, none⟩,
  ⟨0x6010, 3, 3, 2, 1, 1, 0, 0, 3, 1, none⟩,
  ⟨0x6010, 4, 4, 4, 1, 4, 0, 0, 0xFFFFFFFF, 1, none⟩,
  ⟨0x6010, 5, 5, 5, 1, 8, 0, 0, 0xFFFFFFFFFFFFFFFF, 1, none⟩,
  ⟨0x6010, 6, 6, 5, 1, 8, 0, 0, 0xFFFFFFFFFFFFFFFF, 1, none⟩,
  ⟨0x6010, 7, 7, 5, 1, 8, 0, 0, 0xFFFFFFFFFFFFFFFF, 1, none⟩,
  ⟨0x6010, 8, 8, 5, 1, 8, 0, 0, 0xFFFFFFFFFFFFFFFF, 1, none⟩,
  ⟨0x6010, 9, 9, 5, 1, 8, 0, 0, 0xFFFFFFFFFFFFFFFF, 1, none⟩,
  ⟨0x6010, 0xA, 0xA, 5, 1, 8, 0, 0, 0xFFFFFFFFFFFFFFFF, 1, none⟩,
  ⟨0x6010, 0xB, 0xB, 5, 1, 8, 0, 0, 0xFFFFFFFFFFFFFFFF, 1, none⟩,
  ⟨0x6010, 0xC, 0xC, 5, 1, 8, 0, 0, 0xFFFFFFFFFFFFFFFF, 1, none⟩,
  ⟨0x6010, 0xD, 0xD, 4, 1, 4, 0, 0, 0xFFFFFFFF, 1, none⟩,
  ⟨0x6020, 1, 0x40, 3, 3, 2, 0, 0, 0xFFFF, 1, none⟩,
  ⟨0x6100, 1, 1, 2, 2, 1, 2, 2, 0x10, 1, none⟩]

/-- Entries of the range 0x6000. -/
def odRows6b : List OdRow := [
  ⟨0x6100, 2, 2, 4, 2, 4, 0x7D0, 0x64, 0xEA60, 1, none⟩,
  ⟨0x6100, 3, 3, 5, 1, 8, 0, 0, 0xFFFFFFFFFFFFFFFF, 1, none⟩,
  ⟨0x6100, 4, 4, 4, 2, 4, 0x1388, 0x1F4, 0xEA60, 1, none⟩,
  ⟨0x6100, 5, 5, 2, 2, 1, 3, 1, 0x10, 1, none⟩,
  ⟨0x6200, 1, 1, 4, 3, 4, 0x10000, 0x400, 0x100000, 1, none⟩,
  ⟨0x6200, 2, 2, 5, 1, 8, 0, 0, 0xFFFFFFFFFFFFFFFF, 1, none⟩,
  ⟨0x6200, 3, 3, 5, 1, 8, 0, 0, 0xFFFFFFFFFFFFFFFF, 1, none⟩,
  ⟨0x6300, 1, 0x40, 4, 2, 4, 0x9C40, 0x64, 0xC3500, 1, none⟩,
  ⟨0x6301, 1, 1, 4, 2, 4, 0, 0, 0x186A00, 1, none⟩,
  ⟨0x6400, 1, 1, 4, 2, 4, 0xE10, 0x3C, 0xE10, 1, none⟩,
  ⟨0x6400, 2, 2, 5, 1, 8, 0, 0, 0xFFFFFFFFFFFFFFFF, 1, none⟩,
  ⟨0x6400, 3, 3, 5, 1, 8, 0, 0, 0xFFFFFFFFFFFFFFFF, 1, none⟩]

/-- Entries of the range 0x7000. -/
def odRows7a : List OdRow := [
  ⟨0x7000, 1, 1, 12, 3, 0x100000, 0, 0, 0x100000, 1, none⟩,
  ⟨0x7000, 2, 2, 8, 3, 4, 0x3F666666, 0, 0x3F7FBE77, 1, none⟩,
  ⟨0x7000, 3, 3, 8, 3, 4, 0x3F333333, 0x3A83126F, 0x40000000, 1, none⟩,
  ⟨0x7010, 1, 1, 4, 2, 4, 0x2710, 0, 0x9C40, 1, none⟩,
  ⟨0x7010, 2, 2, 5, 1, 8, 0, 0, 0xFFFFFFFFFFFFFFFF, 1, none⟩,
  ⟨0x7100, 1, 1, 4, 1, 4, 0, 0, 0xFFFFFFFF, 1, none⟩,
  ⟨0x7100, 2, 2, 4, 1, 4, 0, 0, 0xFFFFFFFF, 1, none⟩,
  ⟨0x7100, 3, 3, 2, 2, 1, 4, 2, 0x10, 1, none⟩,
  ⟨0x7110, 1, 1, 4, 3, 4, 0x30100, 0x30000, 0x31FFF, 1, none⟩,
  ⟨0x7110, 2, 2, 10, 1, 8, 0x8000000000000000, (-9223372036854775808), 0x7FFFFFFFFFFFFFFF, 1, none⟩,
  ⟨0x7200, 1, 0x10, 8, 2, 4, 0, 0, 0x3F800000, 1, none⟩,
  ⟨0x7300, 1, 1, 5, 1, 8, 0, 0, 0xFFFFFFFFFFFFFFFF, 1, none⟩,
  ⟨0x7300, 2, 2, 5, 1, 8, 0, 0, 0xFFFFFFFFFFFFFFFF, 1, none⟩,
  ⟨0x7300, 3, 3, 5, 1, 8, 0, 0, 0xFFFFFFFFFFFFFFFF, 1, none⟩,
  ⟨0x7300, 4, 4, 8, 2, 4, 0x41000000, 0x3F800000, 0x447A0000, 1, none⟩,
  ⟨0x7300, 5, 5, 5, 1, 8, 0, 0, 0xFFFFFFFFFFFFFFFF, 1, none⟩,
  ⟨0x7300, 6, 6, 5, 1, 8, 0, 0, 0xFFFFFFFFFFFFFFFF, 1, none⟩,
  ⟨0x7400, 1, 1, 4, 1, 4, 0, 0, 0xFFFFFFFF, 1, none⟩,
  ⟨0x7400, 2, 2, 9, 1, 8, 0, 0xFFF0000000000000, 0x7FF0000000000000, 1, none⟩,
  ⟨0x7400, 3, 3, 9, 1, 8, 0, 0xFFF0000000000000, 0x7FF0000000000000, 1, none⟩,
  ⟨0x7400, 4, 4, 4, 1, 4, 0, 0, 0xFFFFFFFF, 1, none⟩,
  ⟨0x7400, 5, 5, 4, 1, 4, 0, 0, 0xFFFFFFFF, 1, none⟩,
  ⟨0x7400, 6, 6, 9, 1, 8, 0x7FF8000000000000, 0xFFF0000000000000, 0x7FF0000000000000, 1, none⟩,
  ⟨0x7400, 7, 7, 9, 1, 8, 0x7FF8000000000000, 0xFFF0000000000000, 0x7FF0000000000000, 1, none⟩,
  ⟨0x7400, 8, 8, 9, 1, 8, 0x7FF8000000000000, 0xFFF0000000000000, 0x7FF0000000000000, 1, none⟩]

/-- Entries of the range 0x7000. -/
def odRows7b : List OdRow := [
  ⟨0x7400, 9, 9, 4, 2, 4, 0, 0, 0xF4240, 1, none⟩,
  ⟨0x7500, 1, 1, 12, 3, 0x4000, 0, 0, 0x4000, 1, none⟩,
  ⟨0x7500, 2, 2, 5, 3, 8, 0, 0, 0xFFFFFFFFFFFFFFFF, 1, none⟩,
  ⟨0x7500, 3, 3, 5, 3, 8, 0, 0, 0xFFFFFFFFFFFFFFFF, 1, none⟩,
  ⟨0x7500, 4, 4, 5, 1, 8, 0, 0, 0xFFFFFFFFFFFFFFFF, 1, none⟩,
  ⟨0x7500, 5, 5, 5, 1, 8, 0, 0, 0xFFFFFFFFFFFFFFFF, 1, none⟩,
  ⟨0x7600, 1, 1, 2, 1, 1, 0xFF, 0, 0x3F, 1, some 0xFF⟩,
  ⟨0x7600, 2, 2, 3, 1, 2, 0, 0, 0xFFFF, 1, none⟩,
  ⟨0x7600, 3, 3, 12, 3, 0x40, 0, 0x40, 0x40, 1, none⟩,
  ⟨0x7600, 4, 4, 4, 2, 4, 0x3A98, 0x1770, 0x927C0, 1, none⟩,
  ⟨0x7600, 5, 5, 4, 2, 4, 0x3E8, 0xFA, 0x2710, 1, none⟩,
  ⟨0x7600, 6, 6, 5, 1, 8, 0, 0, 0xFFFFFFFFFFFFFFFF, 1, none⟩,
  ⟨0x7600, 7, 7, 1, 1, 1, 0, 0, 1, 1, none⟩,
  ⟨0x7600, 8, 8, 5, 1, 8, 0, 0, 0xFFFFFFFFFFFFFFFF, 1, none⟩,
  ⟨0x7700, 1, 1, 5, 1, 8, 0, 0, 0xFFFFFFFFFFFFFFFF, 1, none⟩,
  ⟨0x7700, 2, 2, 5, 1, 8, 0, 0, 0xFFFFFFFFFFFFFFFF, 1, none⟩,
  ⟨0x7700, 3, 3, 5, 1, 8, 0, 0, 0xFFFFFFFFFFFFFFFF, 1, none⟩,
  ⟨0x7700, 4, 4, 5, 1, 8, 0, 0, 0xFFFFFFFFFFFFFFFF, 1, none⟩,
  ⟨0x7700, 5, 5, 5, 1, 8, 0, 0, 0xFFFFFFFFFFFFFFFF, 1, none⟩,
  ⟨0x7800, 1, 1, 5, 3, 8, 0, 0, 0xFFFFFFFFFFFFFFFF, 0x4000, none⟩,
  ⟨0x7800, 2, 2, 4, 3, 4, 0x32038, 0x30000, 0x3FFFC, 1, none⟩,
  ⟨0x7800, 3, 3, 5, 1, 8, 0, 0, 0xFFFFFFFFFFFFFFFF, 1, none⟩]

/-- Entries of the range 0x8000. -/
def odRows8 : List OdRow := [
  ⟨0x8000, 1, 1, 8, 1, 4, 0, 0xFF800000, 0x7F800000, 1, none⟩,
  ⟨0x8000, 2, 2, 8, 1, 4, 0, 0xFF800000, 0x7F800000, 1, none⟩,
  ⟨0x8000, 3, 3, 8, 1, 4, 0, 0xFF800000, 0x7F800000, 1, none⟩,
  ⟨0x8010, 1, 1, 8, 2, 4, 0x42340000, 0x422C0000, 0x42480000, 1, none⟩,
  ⟨0x8010, 2, 2, 2, 2, 1, 0, 0, 0xC, 1, none⟩,
  ⟨0x8010, 3, 3, 3, 3, 2, 0, 0, 0x7FF, 1, none⟩,
  ⟨0x8010, 4, 4, 5, 1, 8, 0, 0, 0xFFFFFFFFFFFFFFFF, 1, none⟩,
  ⟨0x8010, 5, 5, 1, 1, 1, 0, 0, 1, 1, none⟩,
  ⟨0x8020, 1, 4, 3, 1, 2, 0, 0, 0xFFFF, 1, none⟩,
  ⟨0x8021, 1, 4, 5, 1, 8, 0, 0, 0xFFFFFFFFFFFFFFFF, 1, none⟩,
  ⟨0x8100, 1, 1, 3, 2, 2, 0x9C4, 0x4B0, 0x9C4, 1, none⟩,
  ⟨0x8100, 2, 2, 3, 2, 2, 0xA, 1, 0x3E8, 1, none⟩,
  ⟨0x8100, 3, 3, 5, 1, 8, 0, 0, 0xFFFFFFFFFFFFFFFF, 1, none⟩,
  ⟨0x8200, 1, 1, 2, 1, 1, 0, 0, 0xC, 1, none⟩,
  ⟨0x8200, 2, 2, 2, 1, 1, 0, 0, 0xC, 1, none⟩,
  ⟨0x8200, 3, 3, 2, 1, 1, 0, 0, 0xC, 1, none⟩,
  ⟨0x8200, 4, 4, 5, 1, 8, 0, 0, 0xFFFFFFFFFFFFFFFF, 1, none⟩,
  ⟨0x8300, 1, 1, 2, 2, 1, 0x5F, 0x50, 0x64, 1, none⟩,
  ⟨0x8300, 2, 2, 8, 1, 4, 0, 0xFF800000, 0x7F800000, 1, none⟩,
  ⟨0x8300, 3, 3, 2, 1, 1, 0, 0, 0x10, 1, none⟩,
  ⟨0x8300, 4, 4, 5, 1, 8, 0, 0, 0xFFFFFFFFFFFFFFFF, 1, none⟩,
  ⟨0x8300, 5, 5, 8, 1, 4, 0, 0xFF800000, 0x7F800000, 1, none⟩]

/-- Entries of the range 0x9000. -/
def odRows9a : List OdRow := [
  ⟨0x9001, 1, 1, 2, 1, 1, 1, 0, 0xF, 1, none⟩,
  ⟨0x9001, 2, 2, 10, 1, 8, 0x8000000000000000, (-9223372036854775808), 0x7FFFFFFFFFFFFFFF, 1, none⟩,
  ⟨0x9001, 3, 3, 3, 1, 2, 0, 0, 0xFFFF, 1, none⟩,
  ⟨0x9100, 1, 1, 4, 2, 4, 0x1000000, 0x10000, 0x40000000, 1, none⟩,
  ⟨0x9100, 2, 2, 2, 2, 1, 1, 0, 0xF, 1, none⟩,
  ⟨0x9101, 1, 1, 4, 2, 4, 0x20, 1, 0x2710, 1, none⟩,
  ⟨0x9101, 2, 2, 4, 2, 4, 0x20, 1, 0x2710, 1, none⟩,
  ⟨0x9102, 1, 1, 4, 2, 4, 0x40, 2, 0x2710, 1, none⟩,
  ⟨0x9103, 1, 1, 4, 2, 4, 0x80, 4, 0xEA60, 1, none⟩,
  ⟨0x9103, 2, 2, 4, 3, 4, 0x31FFF, 0x30000, 0x3FFFF, 1, none⟩,
  ⟨0x9104, 1, 1, 4, 2, 4, 0x32, 1, 0x3E8, 1, none⟩,
  ⟨0x9105, 1, 1, 4, 2, 4, 0x3E8, 0x64, 0x2710, 1, none⟩,
  ⟨0x9110, 1, 8, 5, 1, 8, 0, 0, 0xFFFFFFFFFFFFFFFF, 1, none⟩,
  ⟨0x9200, 1, 1, 4, 2, 4, 0, 0, 0xFFFFFFFF, 1, none⟩,
  ⟨0x9200, 2, 2, 2, 4, 1, 0, 1, 3, 1, none⟩,
  ⟨0x9300, 1, 1, 5, 1, 8, 0, 0, 0xFFFFFFFFFFFFFFFF, 1, none⟩,
  ⟨0x9300, 2, 2, 5, 1, 8, 0, 0, 0xFFFFFFFFFFFFFFFF, 1, none⟩,
  ⟨0x9400, 1, 1, 12, 3, 0x608, 0, 0x608, 0x608, 1, none⟩,
  ⟨0x9400, 2, 2, 5, 1, 8, 0, 0, 0xFFFFFFFFFFFFFFFF, 1, none⟩,
  ⟨0x9400, 3, 3, 5, 1, 8, 0, 0, 0xFFFFFFFFFFFFFFFF, 1, none⟩,
  ⟨0x9400, 4, 4, 5, 1, 8, 0, 0, 0xFFFFFFFFFFFFFFFF, 1, none⟩,
  ⟨0x9500, 1, 1, 2, 1, 1, 0, 0, 3, 1, none⟩,
  ⟨0x9500, 2, 2, 4, 1, 4, 0, 0, 0xFFFFFFFF, 1, none⟩,
  ⟨0x9500, 3, 3, 5, 1, 8, 0, 0, 0xFFFFFFFFFFFFFFFF, 1, none⟩,
  ⟨0x9500, 4, 4, 10, 1, 8, 0x8000000000000000, (-9223372036854775808), 0x7FFFFFFFFFFFFFFF, 1, none⟩]

/-- Entries of the range 0x9000. -/
def odRows9b : List OdRow := [
  ⟨0x9500, 5, 5, 1, 2, 1, 0, 0, 1, 1, none⟩,
  ⟨0x9500, 6, 6, 4, 2, 4, 0x7D0, 0x64, 0x7530, 1, none⟩,
  ⟨0x9500, 7, 7, 12, 1, 0x8000, 0, 0, 0x8000, 1, none⟩]

/-- Entries of the range 0xA000. -/
def odRowsA : List OdRow := [
  ⟨0xA000, 1, 1, 2, 1, 1, 0, 0, 0x80, 1, none⟩,
  ⟨0xA000, 2, 2, 2, 1, 1, 0, 0, 0xF, 1, none⟩,
  ⟨0xA000, 3, 3, 12, 1, 0x400, 0, 0x400, 0x400, 1, none⟩,
  ⟨0xA010, 1, 1, 12, 1, 0x20, 0, 0x20, 0x20, 1, none⟩,
  ⟨0xA010, 2, 2, 12, 1, 0x1000, 0, 0, 0x1000, 1, none⟩,
  ⟨0xA020, 1, 1, 12, 1, 0x200, 0, 0x200, 0x200, 1, none⟩,
  ⟨0xA100, 1, 1, 12, 3, 0x280, 0, 0, 0x280, 1, none⟩,
  ⟨0xA200, 1, 1, 12, 4, 0x20, 0, 0x20, 0x20, 1, none⟩,
  ⟨0xA200, 2, 2, 1, 1, 1, 0, 0, 1, 1, none⟩,
  ⟨0xA300, 1, 1, 12, 4, 0x2000000, 0, 0, 0x2000000, 1, none⟩,
  ⟨0xA300, 2, 2, 2, 4, 1, 0, 1, 1, 1, none⟩,
  ⟨0xA300, 3, 3, 4, 1, 4, 0, 0, 0xFFFFFFFF, 1, none⟩,
  ⟨0xA300, 4, 4, 2, 4, 1, 0, 1, 1, 1, none⟩,
  ⟨0xA300, 5, 5, 5, 1, 8, 0, 0, 0xFFFFFFFFFFFFFFFF, 1, none⟩,
  ⟨0xA300, 6, 6, 2, 1, 1, 0, 0, 6, 1, none⟩,
  ⟨0xA400, 1, 1, 12, 3, 0x20, 0, 0, 0x20, 1, none⟩,
  ⟨0xA400, 2, 2, 2, 3, 1, 0xFF, 0, 0x3F, 1, none⟩,
  ⟨0xA500, 1, 1, 12, 1, 0x20, 0, 0x20, 0x20, 1, none⟩,
  ⟨0xA500, 2, 2, 12, 4, 0xA0, 0, 0xA0, 0xA0, 1, none⟩,
  ⟨0xA500, 3, 3, 2, 2, 1, 0, 0, 3, 1, none⟩,
  ⟨0xA500, 4, 4, 12, 3, 0x20, 0, 0, 0x20, 1, none⟩,
  ⟨0xA500, 5, 5, 5, 1, 8, 0, 0, 0xFFFFFFFFFFFFFFFF, 1, none⟩]

/-- Entries of the range 0xF000. -/
def odRowsF : List OdRow := [
  ⟨0xF200, 1, 1, 3, 2, 2, 0, 0, 0x17FF, 1, none⟩,
  ⟨0xF200, 2, 2, 2, 2, 1, 0, 0, 3, 1, none⟩,
  ⟨0xF201, 1, 1, 12, 1, 0x400, 0, 0x400, 0x400, 1, none⟩,
  ⟨0xF201, 2, 2, 2, 1, 1, 0, 0, 0xFF, 1, none⟩,
  ⟨0xF300, 1, 1, 1, 1, 1, 0, 0, 1, 1, none⟩,
  ⟨0xF300, 2, 2, 5, 1, 8, 0, 0, 0xFFFFFFFFFFFFFFFF, 1, none⟩,
  ⟨0xF310, 1, 1, 3, 3, 2, 0x100, 0, 0xFFFF, 1, none⟩,
  ⟨0xF310, 2, 2, 2, 3, 1, 0, 0, 1, 1, none⟩,
  ⟨0xF310, 3, 3, 12, 1, 0xC0, 0, 0xC0, 0xC0, 1, none⟩,
  ⟨0xF320, 1, 1, 2, 4, 1, 0, 0, 0xFF, 1, none⟩,
  ⟨0xF320, 2, 2, 2, 1, 1, 0, 0, 2, 1, none⟩,
  ⟨0xF320, 3, 3, 12, 1, 0x40, 0, 0x40, 0x40, 1, none⟩]

/-- Every row, in ascending order. -/
def odRows : List OdRow :=
  odRows1a ++ odRows1b ++ odRows2a ++ odRows2b ++ odRows3a ++ odRows3b ++ odRows4a ++ odRows4b ++ odRows5a ++ odRows5b ++ odRows6a ++ odRows6b ++ odRows7a ++ odRows7b ++ odRows8 ++
  odRows9a ++ odRows9b ++ odRowsA ++ odRowsF

/-- The key of an entry in the dictionary maps. -/
def odKey (index sub : Nat) : Nat := index * 256 + sub

/-- The row of an entry, none where the dictionary has no such entry. -/
def odRow (index sub : Nat) : Option OdRow :=
  odRows.find? (fun r => r.index == index && decide (r.first ≤ sub) && decide (sub ≤ r.last))

/-- The default of a number entry (R11); OD 0x7200 holds 1/(1 + s). -/
def odDflt (index sub : Nat) : Nat :=
  if index = 0x7200 then enc32 (oneV.div (FV.ofInt sub))
  else match odRow index sub with
    | some r => r.dflt
    | none => 0

/-- The default of a number entry, by key. -/
def odDfltKey (k : Nat) : Nat := odDflt (k / 256) (k % 256)

/-- The port at the other end of a link and the module there, for the module numbered m (Table 7.1). -/
def wiredPeer (m k : Nat) : Nat × Nat :=
  let n := m / 8
  let sl := m % 8
  if k < 7 then (8 * n + (sl + k + 1) % 8, 6 - k)
  else if k = 7 then (8 * n + (sl + 4) % 8, 7)
  else if k < 15 then (8 * ((n + (k - 8) + 1) % 8) + sl, 14 - (k - 8))
  else (8 * ((n + 4) % 8) + sl, 15)

/-- The default route entry of a destination (R167): the direct L port or the rail, and the L ports to the two
lowest-numbered other slots off that path. -/
def defaultRoute (m dst : Nat) : List Byte :=
  let n := m / 8
  let sl := m % 8
  let n' := dst / 8
  let t := dst % 8
  let lport (x : Nat) : Nat := (x + 8 - sl + 7) % 8
  let prim := if n' = n then lport t else 8 + (n' + 8 - n + 7) % 8
  let alts := ((List.range 8).filter (fun x => x != sl && x != t)).map lport
  if dst = m || 64 ≤ dst || 64 ≤ m then [0xFF, 0xFF, 0xFF, 0]
  else toLe 1 prim ++ toLe 1 (alts.getD 0 0xFF) ++ toLe 1 (alts.getD 1 0xFF) ++ [0]

/-- The route table that BOOT fills in. -/
def defaultRoutes (m : Nat) : List Byte := (List.range 256).flatMap (defaultRoute m)

/-- The default of OD 0x5200.01: the routes of site module number 0. -/
def routesDflt : List Byte := defaultRoutes 0

/-- The default of a STR or BLOB entry, by key. -/
def blobDfltKey (k : Nat) : List Byte :=
  if k = odKey 0x1000 1 then ascii "KRV-L960-A"
  else if k = odKey 0x4100 2 then List.replicate 20480 0xFF
  else if k = odKey 0x7600 3 then List.replicate 64 0xFF
  else if k = odKey 0x5200 1 then routesDflt
  else if k = odKey 0x5300 1 then [32, 0] ++ (List.replicate 7 [128, 0]).flatten
  else if k = odKey 0x5300 2 then (List.replicate 8 [0, 4]).flatten
  else if k = odKey 0x1200 1 then zeros 16
  else if k = odKey 0x1300 2 then zeros 64
  else if k = odKey 0x4100 1 then zeros 8192
  else if k = odKey 0x6002 4 then zeros 64
  else if k = odKey 0x9400 1 then zeros 1544
  else if k = odKey 0xF310 3 then zeros 192
  else if k = odKey 0xF320 3 then zeros 64
  else []

/-- Entries that a warm reset keeps (Table 12.6). -/
def odKeptWarm (k : Nat) : Bool :=
  k / 256 == 0x9001 || k == odKey 0x1010 6 || k == odKey 0x9400 1 || k == odKey 0x8010 4 ||
    k == odKey 0x2040 1 || k == odKey 0x3300 4 || k == odKey 0x3400 9 ||
    (decide (odKey 0x9500 1 ≤ k) && decide (k ≤ odKey 0x9500 4))

/-- Entries the shadow window shows (Table 1.3). -/
def odInShadow (k : Nat) : Bool :=
  [odKey 0x1101 1, odKey 0x7100 1, odKey 0x7100 2, odKey 0x2010 1, odKey 0x1010 1, odKey 0x4400 1, odKey 0x4400 2].contains k ||
    k / 256 == 0x7200

end Sys2Proof.Machine
end

