-- ==== Sys2Proof/Machine/State.lean ====
section
/-! DEFINITION. The state of the module as plain data, its faults and refusals, and the state at reset. -/

namespace Sys2Proof.Machine

/-! ### The pinion (02, 03, 04) -/

/-- The restart record that MARK writes (Table 2.13, R338). -/
structure RestartRec where
  pc : Nat
  sregs : FMap W32
  setv : W32
  seteb : W32
  stgBase : W32
  stgSize : W32
  deriving DecidableEq, Repr

/-- The stream a hand runs (Table 2.2): its descriptor, the issue port that accepted it, the restarts it has used
(R161, R162) and whether an instruction fault ended it (R56). -/
structure Stream where
  desc : BitVec 256
  port : Nat
  restarts : Nat := 0
  faulted : Bool := false
  deriving DecidableEq, Repr

/-- What a hand is doing: idle, ready to issue, in a sync-class wait, released by an object but not yet ready (R141),
in a WAITQ wait, held by the tile interlock (R44), held by a full pass queue (R43), or ending (END, Table 2.13). -/
inductive HandSt where
  | idle
  | ready
  | syncWait
  | released (stamp : Nat)
  | waitq
  | interlock
  | queueHold
  | ending
  deriving DecidableEq, Repr

/-- A hand (Table 2.1): program counter, registers, hand settings (R338), restart record, pending slot (R33), and
whether each array has made a pass since its stream started (R40). -/
structure Hand where
  st : HandSt := .idle
  pc : Nat := 0
  sregs : FMap W32 := []
  vregs : FMap W512 := []
  setv : W32 := 0
  seteb : W32 := 0
  stgBase : W32 := 0
  stgSize : W32 := 0
  record : Option RestartRec := none
  stream : Option Stream := none
  pend : Option (Nat × BitVec 256) := none
  seen0 : Bool := false
  seen1 : Bool := false
  deriving DecidableEq, Repr

/-- A pass of an array (02, 2.3): tile bank, chaining, formats, layouts, operand addresses in the data area, and, from
its start on, the operand bytes it streams. -/
structure Pass where
  bank : Nat
  chain : Bool
  plain : Bool
  initMode : Nat
  initAddr : Nat
  fmtA : Nat
  fmtB : Nat
  tA : Bool
  tB : Bool
  addrA : Nat
  addrB : Nat
  paired : Bool
  started : Bool := false
  bytesA : List Byte := []
  bytesB : List Byte := []
  initBytes : List Byte := []
  deriving DecidableEq, Repr

/-- An array: the pass whose last K-step has entered but which is not complete, the pass behind it (running, or waiting
to start), the pass in the queue (R43), and the bank of the last pass issued (R40). -/
structure Arr where
  tail : Option Pass := none
  running : Option Pass := none
  queued : Option Pass := none
  lastBank : Option Nat := none
  deriving DecidableEq, Repr

/-- A drain queued at a tile (R45, R73): the issuing hand, the descriptor address and channel base it captured, its
output address, its post, and from the request on (R47) the stamp of the request and whether the order within its cycle is
decided. -/
structure Drain where
  hand : Nat
  epi : Nat
  chan : W32
  out : Nat
  post : Option Nat
  desc : List Byte
  request : Option Nat := none
  settled : Bool := false
  deriving DecidableEq, Repr

/-- A tile: held since a pass named it, its 256 accumulators (FP32 or INT32 bits), the accumulator type, the sticky
saturation flag (R65), its drain, and the stamp of its last pass completion (R47). -/
structure Tile where
  held : Bool := false
  isInt : Bool := false
  sat : Bool := false
  acc : List W32 := []
  drain : Option Drain := none
  done : Nat := 0
  deriving DecidableEq, Repr

/-- A job of a data-move queue: descriptors of one DMV or DPF, or the lines still to move of one BST or BLD (04, R105). -/
inductive DmJob where
  | xfer (hand pc op base left : Nat) (post : Option Nat) (stgBase stgSize : Nat) (prefetch : Bool)
  | barrel (hand pc : Nat) (store : Bool) (slot addr lines off : Nat) (post : Option Nat)
  deriving DecidableEq, Repr

/-- What a pinion will do when its passes, drains and data moves have completed (R56, R161): close its Bezel, or restart one hand
or both. -/
inductive StopWhy where
  | fence
  | restart (hand : Nat)
  | restartBoth
  deriving DecidableEq, Repr

/-- A pinion (Table 2.1). `cur` is the hand that holds issue (R51); `cnt` holds its own counters of OD 0x2141.02 to
0x2141.07 at keys 1 to 6 and of 0x2141.08 to 0x2141.0B at keys 7 to 10; `pair` is the epilogue's pair buffer (R76). -/
structure Pinion where
  handA : Hand := {}
  handB : Hand := {}
  cur : Nat := 0
  handPtr : Nat := 0
  arr0 : Arr := {}
  arr1 : Arr := {}
  tiles : FMap Tile := []
  pair : Option (List W32 × Nat) := none
  epiPtr : Nat := 0
  stamp : Nat := 0
  dmq0 : List DmJob := []
  dmq1 : List DmJob := []
  tags : FMap Nat := []
  cnt : FMap Nat := []
  stopping : Option StopWhy := none
  deriving DecidableEq, Repr

/-! ### Barrels (04) -/

/-- A directory entry (Table 4.7). -/
structure BSlot where
  state : Nat := 0
  lines : Nat := 0
  base : Nat := 0
  seq : Nat := 0
  deriving DecidableEq, Repr

/-- An allocation in the ring (R103). -/
structure BAlloc where
  slot : Nat
  seq : Nat
  base : Nat
  lines : Nat
  dead : Bool
  deriving DecidableEq, Repr

/-- A directory operation of a BDIR (Table 2.23). -/
inductive BdirOp where
  | openSlot (slot lines : Nat)
  | commit (slot : Nat)
  | free (slot : Nat)
  deriving DecidableEq, Repr

/-- The Barrel directory of a T2: slots, the ring's allocations oldest first, the ring state of Table 4.8, the rotating pointer
of R102, and the BDIRs (with their pinions) of a cycle in which more are to arrive. -/
structure Barrel where
  slots : FMap BSlot := []
  ring : List BAlloc := []
  nextSeq : Nat := 0
  head : Nat := 0
  used : Nat := 0
  evictions : Nat := 0
  ptr : Nat := 0
  waiting : List (Nat × BdirOp) := []
  deriving DecidableEq, Repr

/-! ### Sync objects (06) -/

/-- Who sent a sync request: a hand, with the program counter and opcode of its instruction, an engine, another module of a spanning
object's group (R144), or an entry of a queue (Table 12.9). -/
inductive ReqSrc where
  | hand (p h pc op : Nat)
  | engine
  | remote (smn : Nat)
  | entry
  deriving DecidableEq, Repr

/-- What a sync request does (Table 6.2). -/
inductive ReqOp where
  | add (v : W32)
  | set (v : W32)
  | tgt (v : W32)
  | waitGe (v : W32)
  | waitEq (v : W32)
  | arrive (wait : Bool)
  deriving DecidableEq, Repr

/-- A sync request. -/
structure Req where
  src : ReqSrc
  op : ReqOp
  deriving DecidableEq, Repr

/-- A sync object (Table 6.1) with its rotating pointer, the requests on their way to it (R141), the acquiring requests
waiting at it and its waiters. -/
structure SyncObj where
  count : W32 := 0
  target : BitVec 16 := 0
  phase : Bool := false
  ptr : Nat := 0
  acq : List Req := []
  onWay : List Req := []
  waiters : List Req := []
  deriving DecidableEq, Repr

/-! ### Trains, Bezels and pending changes (01, 06, 12) -/

/-- A train, pinion or port behind its Bezel: STATE of Table 1.7 (0 in service, 1 fenced, 2 resetting, 3 retired,
4 re-admission pending), the sticky bits, the issue tag, whether a HOLD is in force (R156), and whether the unit was fenced since
BOOT, which every unit below shows in its ISO (R295). -/
structure UnitSt where
  st : Nat := 0
  wdog : Bool := false
  iso : Bool := false
  tag : Nat := 0
  held : Bool := false
  fenced : Bool := false
  deriving DecidableEq, Repr

/-- What a T1 holds of its slots (Table 1.11, R336): spare map, spare slot and state, masks, the whole T1 retired, and the slot
that stage 1 of a re-admission scrubs (R300). -/
structure T1 where
  spareMap : Nat := 0x76543210
  spareSlot : Nat := 8
  spareState : Nat := 0
  retired : Nat := 0
  off : Nat := 0
  whole : Bool := false
  readmit : Option Nat := none
  deriving DecidableEq, Repr

/-- A change that waits for a beat (R157). -/
inductive ChangeKind where
  | substitute (t1 slot : Nat)
  | restart (level index : Nat) (hands : List (Nat × Nat × Hand))
  | swapBack (t1 slot lslot : Nat)
  | openUnit (level index : Nat)
  | openPort (cls num : Nat)
  | retirePort (cls num : Nat)
  deriving DecidableEq, Repr

/-- A pending change and whether it is ready. -/
structure Change where
  kind : ChangeKind
  ready : Bool
  deriving DecidableEq, Repr

/-! ### The Crown (11) -/

/-- Where a COP frame came from and where its answer goes: the mailbox, or an address and port of the field network. -/
inductive Peer where
  | mailbox
  | field (address port : Nat)
  deriving DecidableEq, Repr

/-- An event of a NOTIFY frame (Table 11.15). -/
structure NEvent where
  index : Nat
  sub : Nat
  typ : Nat
  ft : Int
  value : Nat
  deriving DecidableEq, Repr

/-- A NOTIFY frame that is not acknowledged, and how often it was resent (R281). -/
structure NSent where
  nseq : Nat
  frame : List Byte
  resends : Nat
  deriving DecidableEq, Repr

/-- A BLOB transfer (R280): a snapshot for a read, the segments received for a write. -/
structure BlobXfer where
  index : Nat
  sub : Nat
  writing : Bool
  total : Nat
  snapshot : List Byte
  segs : List (Nat × List Byte)
  deriving DecidableEq, Repr

/-- A COP session (R274 to R277): pending or open, where it lives, its rights, its handshake bodies, its keys, the last
request and its stored answer, its BLOB transfer and its NOTIFY queue. -/
structure Session where
  id : Nat
  isOpen : Bool
  peer : Peer
  key : List Byte
  want : Nat
  rights : Nat
  notify : Bool
  openBody : List Byte
  challenge : List Byte
  keyIn : List Byte
  keyOut : List Byte
  lastSeq : Nat
  lastAnswer : List Byte
  waitingAnswer : Bool
  blob : Option BlobXfer
  nseq : Nat
  queue : List NEvent
  sent : List NSent
  lost : Bool
  deriving DecidableEq, Repr

/-- The Crown: its sessions, whether it is resetting itself (R261), whether NOTIFY
frames wait for a response (R270), the mailbox bytes of Table 11.9, the frames that wait for room in the
outbound ring, the NOTIFY events that arose during a self-reset, the datagrams that wait (address, port, frame), the
rotating-priority pointer between mailbox 0 and field network 1 (R145, R260), and the causes of the resets that wait for
their answer to leave (R264). -/
structure Crown where
  sessions : List Session := []
  down : Bool := false
  holdNotify : Bool := false
  mailbox : FMap Byte := []
  outQ : List (List Byte) := []
  lostCount : Nat := 0
  waiting : List (Nat × Nat × List Byte) := []
  turn : Nat := 0
  resets : List Nat := []
  deriving DecidableEq, Repr

/-! ### What the module puts on its wires -/

/-- The answer of an issue port to a stream descriptor (R33). -/
inductive IssueAns where
  | accepted
  | state
  | range
  | busy
  deriving DecidableEq, Repr

/-- A UDP datagram of the far link (Table 8.1): its addresses, the 802.1Q tag (0xFFFF for none), the DSCP, the UDP port of both ends
and the Remontoire frame it carries. -/
structure Datagram where
  source : List Byte
  address : List Byte
  vlan : Nat
  dscp : Nat
  udp : Nat
  frame : List Byte
  deriving DecidableEq, Repr

/-- One output of the module, in the order it was put out (the model's own record; no rule reads it back). A far datagram goes to
the hardware address of its port's next hop. -/
inductive Output where
  | issueStatus (answer : IssueAns)
  | vdlData (bytes : List Byte)
  | vdlOk
  | vdlError
  | vdlIrq (vector : Nat)
  | fieldDatagram (address port : Nat) (bytes : List Byte)
  | scan (bits : List Bool)
  | nearFlit (port : Nat) (bytes : List Byte)
  | farDatagram (port hop : Nat) (datagram : Datagram)
  | farNeighbour (port : Nat) (frame : List Byte)
  | pps
  deriving DecidableEq, Repr
/-! ### The beat table (06, 6.7) -/

/-- A beat entry (Table 6.10); `done` tells that a non-periodic entry has executed or been skipped since it was written
(R158). -/
structure Beat where
  ft : Int := 0
  action : Nat := 0
  flags : Nat := 0
  tkind : Nat := 0
  rsv : Nat := 0
  target : Nat := 0
  sid : Nat := 0
  arg : Nat := 0
  period : Nat := 0
  done : Bool := false
  deriving DecidableEq, Repr

/-! ### Near links and the collective engine (07) -/

/-- A flit in a replay buffer (R171). -/
structure RFlit where
  fseq : Nat
  vc : Nat
  head : Bool
  tail : Bool
  cls : Nat
  body : List Byte
  deriving DecidableEq, Repr

/-- Room in the ingress buffer of a port (R174): flits of a VC in a pool, 3 the shared one. -/
structure Room where
  port : Nat
  vc : Nat
  pool : Nat
  flits : Nat
  deriving DecidableEq, Repr

/-- A packet that waits for a port: its VC, its hop class, its header and payload (Table 7.3), and the room it holds where it came
in. -/
structure NearPkt where
  vc : Nat
  cls : Nat
  bytes : List Byte
  room : Option Room := none
  deriving DecidableEq, Repr

/-- A near-link port: PORT_STATE, the peer and asymmetry of its training (R166), its counters 0x5010.04 to 0x5010.09 at keys
4 to 9, link sequence numbers, replay buffer, whether it waits for a replay (R168), the packet bytes received per VC,
credits in use at the peer and flits held here by vc * 4 + pool (R174), credits to return, packets waiting, the pointer of
R175, and whether it has retrained (R172). -/
structure NearPort where
  st : Nat := 0
  peer : Nat := 0xFFFF
  asym : Int := 0
  cnt : FMap Nat := []
  txSeq : Nat := 0
  rxSeq : Nat := 0
  replay : List RFlit := []
  resync : Bool := false
  asm : FMap (List Byte) := []
  used : FMap Nat := []
  held : FMap Nat := []
  owed : List (Nat × Nat × Nat) := []
  txq : List NearPkt := []
  rr : Nat := 0
  retrained : Bool := false
  deriving DecidableEq, Repr

/-- A packet that has arrived for this module and waits to be consumed (R177), with the room it holds. -/
structure RxPkt where
  port : Nat
  vc : Nat
  bytes : List Byte
  room : Option Room := none
  deriving DecidableEq, Repr

/-- The sending end of a stream (R181): the running entry it belongs to (queue and index; a queue of 0 belongs to none), its
packets' name, its chunks (offset and bytes, the scales of a CONTRIB after them, the tensor of a PERMUTE chunk before them), the
highest acknowledged chunk plus 2 (0: not granted), the chunks sent, and whether more chunks will follow (R187). -/
structure OutStream where
  q : Nat
  idx : Nat
  dst : Nat
  vc : Nat
  coll : Nat
  epoch : Nat
  stype : Nat
  rank : Nat
  arg1 : Nat
  chunks : List (Nat × List Byte)
  acked : Nat := 0
  sent : Nat := 0
  more : Bool := false
  deriving DecidableEq, Repr

/-- The receiving end of a stream: its name, the chunks held, the next chunk in order, the number of its last chunk, and the packet of
chunk 0 of a PUT, by which a resend of an ended PUT is known (R181). -/
structure InStream where
  src : Nat
  coll : Nat
  epoch : Nat
  stype : Nat
  rank : Nat
  vc : Nat
  chunks : List (Nat × Nat × List Byte) := []
  next : Nat := 0
  last : Option Nat := none
  zeroth : List Byte := []
  deriving DecidableEq, Repr

/-- A running entry of a collective queue: its index, its descriptor, the pass it is in (PERMUTE), the mismatches counted and the
chunks written per shard (GATHER), what of its own work is done, and whether it is finished. -/
structure CEntry where
  idx : Nat
  desc : List Byte
  pass : Nat := 0
  bad : FMap Nat := []
  landed : FMap Nat := []
  did : List Nat := []
  finished : Bool := false
  failed : Bool := false
  noise : Option Nat := none
  deriving DecidableEq, Repr

/-- A queue of the collective engine: the next entry to start and the entries that run or have finished out of order. -/
structure CQueue where
  next : W32 := 0
  run : List CEntry := []
  deriving DecidableEq, Repr

/-- The collective engine: its queues by VC, streams, scalar records (source, COLL, EPOCH, payload), PERMUTE_DONE signals and the
passes that receivers accept (source, COLL, pass), grants that came before their stream (destination, COLL, type, rank), GATHER
descriptors whose images can be asked for again, both move lists of the retained table (R194), rows received per routing array,
source and expert, dropped slots per expert, and the contribution accumulator of R190 with the last P and TOKENS. -/
structure Coll where
  queues : FMap CQueue := []
  outs : List OutStream := []
  ins : List InStream := []
  scalars : List (Nat × Nat × Nat × List Byte) := []
  permDone : List (Nat × Nat) := []
  passReady : List (Nat × Nat × Nat) := []
  grants : List (Nat × Nat × Nat × Nat) := []
  gathers : List (List Byte) := []
  retained : List (List Byte) := []
  retainedIn : List (List Byte) := []
  rows : FMap Nat := []
  drops : FMap Nat := []
  q : Nat := 0
  noiseP : Nat := 0
  noiseB : Nat := 0
  deriving DecidableEq, Repr

/-! ### The far link (08) -/

/-- A sequenced frame of a peer that is not released (R202): its SEQ, its message, and whether it is a RETIRE frame (its body is
then `body`; the body of a DATA frame lies in ring slot `slot`). `firstNo` and `lastNo` number its first and last transmission
among all of the session (0: not sent); `higher` counts the higher SEQs held that R204 asks for. -/
structure FarSlot where
  seq : Nat
  retire : Bool
  msg : Nat
  kind : Nat
  shard : Nat
  round : Nat
  slot : Nat
  len : Nat
  body : List Byte := []
  ready : Bool := false
  firstNo : Nat := 0
  lastNo : Nat := 0
  resend : Bool := false
  higher : Nat := 0
  rto : Nat := 0
  deriving DecidableEq, Repr

/-- The keys of an epoch (R212): both directions' AES keys and IV salts, the replay window of R215 (one above the highest
FRAME_NO accepted, and those marked), whether the old key's grace may end (R214). -/
structure FarKey where
  epoch : Nat
  keyOut : List Byte
  saltOut : List Byte
  keyIn : List Byte
  saltIn : List Byte
  top : Nat := 0
  seen : List Nat := []
  deriving DecidableEq, Repr

/-- The initiator's handshake under way (R211): the new epoch, its nonce and ephemeral private key, its HS_INIT frame, how often
it was sent, and whether it starts a session. -/
structure FarHs where
  epoch : Nat
  nonce : List Byte
  priv : List Byte
  frame : List Byte
  sent : Nat
  fresh : Bool
  deriving DecidableEq, Repr

/-- A message that arrives from a peer: its data header (OFFSET 0), the SEQ of its first frame, the SEQs and ranges received, and the
number of its RELAY stream toward the keeper. -/
structure FarRx where
  hdr : List Byte
  first : Nat
  seqs : List Nat
  got : List (Nat × Nat)
  coll : Nat
  complete : Bool
  data : List Byte
  deriving DecidableEq, Repr

/-- A time exchange (R151, R216). -/
structure TimeEx where
  num : Nat := 0
  t1 : Option Int := none
  t2 : Option Int := none
  t3 : Option Int := none
  t4 : Option Int := none
  deriving DecidableEq, Repr

/-- A peer site (Table 8.6): whether it has moved off its bound port, fallback, session and keys, the handshakes answered (body and
answer), whether the initiator owes CONFIRM, the sending sequence with what is not released, the log of transmissions (epoch,
FRAME_NO, time), the receiving sequence, what the next ACK echoes, RTT estimate, counters of 0x6010.05 to 0x6010.0C at keys 5 to 12,
and its time exchange. -/
structure FarPeer where
  st : Nat := 0
  away : Bool := false
  small : Bool := false
  session : Nat := 0
  hs : Option FarHs := none
  answered : List (List Byte × List Byte) := []
  owesConfirm : Bool := false
  keys : List FarKey := []
  epoch : Nat := 0
  frameNo : Nat := 0
  rekey : Bool := false
  nextSeq : Nat := 0
  slots : List FarSlot := []
  sends : Nat := 0
  txLog : List (Nat × Nat × Nat) := []
  cum : Nat := 0
  held : List Nat := []
  echo : Option (Nat × Nat × Nat) := none
  ackDue : Nat := 0
  heard : Nat := 0
  mayDrop : Bool := false
  srtt : Nat := 0
  rttvar : Nat := 0
  maxRtt : Nat := 0
  cnt : FMap Nat := []
  rx : List FarRx := []
  exch : Nat := 0
  ex : TimeEx := {}
  skip : Nat := 0
  deriving DecidableEq, Repr

/-- A message at the gateway: its number, the destination site (0xFF: every other site), its data header, the member it comes
from with its stream's COLL, its bytes as far as the gateway holds them, whether its wait was counted, and whether it is
granted. -/
structure FarMsg where
  num : Nat
  dest : Nat
  hdr : List Byte
  src : Nat
  coll : Nat
  bytes : Option (List Byte)
  waited : Bool := false
  granted : Bool := false
  deriving DecidableEq, Repr

/-- The far transport: peers by site index, messages, the number of the next message and of the next RELAY stream, the next-hop MAC
addresses that neighbour resolution has learned (by far port; plus 1, 0 for none), the datagrams that wait for one, and the
rotating-priority pointer of each far port (R145, R209). -/
structure Far where
  peers : FMap FarPeer := []
  msgs : List FarMsg := []
  nextMsg : Nat := 0
  nextColl : Nat := 0
  nbr : FMap Nat := []
  waiting : List (Nat × Datagram) := []
  turn : FMap Nat := []
  deriving DecidableEq, Repr

/-! ### Outer rounds (09) -/

/-- An inbound slot of a keeper (R225): the ROUND of the message it holds (plus 1; 0 for none), its data header, its completion
and, for a manifest, whether R232 accepted it. -/
structure KSlot where
  round1 : Nat := 0
  hdr : List Byte := []
  complete : Bool := false
  checked : Bool := false
  deriving DecidableEq, Repr

/-- A complete message that waits to be judged or answered: the site it comes from, its data header and where its bytes lie, or
the bytes. -/
structure InMsg where
  site : Nat
  hdr : List Byte
  addr : Nat
  bytes : List Byte
  deriving DecidableEq, Repr

/-- An accepted contribution at the anchor that waits for its manifest (R227 to R229). -/
structure Cand where
  shard : Nat
  round : Nat
  site : Nat
  base : Nat
  stamp : Int
  norm : Nat
  digest : List Byte
  addr : Nat
  len : Nat
  deriving DecidableEq, Repr

/-- A manifest that was published here or accepted under R232, and the contributions kept with it or fetched for it (R231,
R234). -/
structure Published where
  shard : Nat
  round : Nat
  bytes : List Byte
  contribs : List (Nat × List Byte)
  deriving DecidableEq, Repr

/-- A keeper's outstanding request (R234, R241): REQ, origin site, shard, round, the site asked, and whether the answer ends the
own delta (R236, R242). -/
structure Fetch where
  req : Nat
  origin : Nat
  shard : Nat
  round : Nat
  asked : Nat
  drop : Bool
  deriving DecidableEq, Repr

/-- The latest VIEW of a site (R238). -/
structure ViewRec where
  reach : Nat
  ft : Int
  now : Nat
  deriving DecidableEq, Repr

/-- An anchor claim of the own site (R240): its term and the endorsements with their MAX_ROUND. -/
structure ClaimRec where
  term : Nat
  ends : List (Nat × Nat)
  deriving DecidableEq, Repr

/-- The outer-round state of a module: the armed seal latch (R218), the latched stamps by round, the rounds whose SEND has executed,
contributions ready before it (round, shard, bytes), unresolved seals per shard, each with the number (0 or 1) of its delta and
pending residual (R220), the shards whose warm start has its initial value, the shards that join late (R242), the shards (with
their round) that send nothing (R222), inbound slots by place, complete messages, small messages under way, the outstanding
request and those that wait for it to end, the anchor's candidates, norm windows, published manifests and judged contributions,
the gateway's views, anchor messages, claim and endorsements, the round a new anchor catches up to and the endorser it asks,
messages being discarded, the highest term claimed, rounds whose deadline has passed, and contributions handed over
(round, shard). -/
structure Outer where
  armed : Option Nat := none
  stamped : List (Nat × Int) := []
  sent : List Nat := []
  ready : List (Nat × Nat × List Byte) := []
  seals : FMap (List (Nat × Nat)) := []
  warmed : List Nat := []
  late : List Nat := []
  spoiled : List (Nat × Nat) := []
  slots : FMap KSlot := []
  fetchSlot : KSlot := {}
  inbox : List InMsg := []
  partials : List InMsg := []
  fetch : Option Fetch := none
  wanted : List Fetch := []
  cands : List Cand := []
  medians : FMap (List Nat) := []
  published : List Published := []
  views : FMap (Option ViewRec) := []
  anchorMsgs : List (Nat × List Byte) := []
  claim : Option ClaimRec := none
  endorsed : List (Nat × Nat) := []
  catchUp : Option (Nat × Nat) := none
  judged : List (Nat × Nat × Nat) := []
  dropped : List (Nat × List Byte) := []
  lastClaim : Nat := 0
  closed : List Nat := []
  handed : List (Nat × Nat) := []
  deriving DecidableEq, Repr


/-! ### Firmware, power, reset and test (12 to 14) -/

/-- A control block of the firmware store (13, 13.1); CONFIRMED is a bit map of slots. -/
structure CtlBlock where
  preferred : Nat := 0
  trial : Bool := false
  confirmed : Nat := 0
  seq : Nat := 0
  deriving DecidableEq, Repr

/-- What a slot of the firmware store holds: the release written at the factory (R340), nothing, or an image. -/
inductive SlotImg where
  | factory
  | empty
  | image (bytes : List Byte)
  deriving DecidableEq, Repr

/-- The firmware store with its two control blocks, the retained registers of R308 (running slot, last failure code), the slot
verified since BOOT (R312), and what R311 has blown since delivery: the rollback counter reached and the key slots revoked. -/
structure FwStore where
  slot0 : SlotImg := .factory
  slot1 : SlotImg := .empty
  ctl0 : CtlBlock := { confirmed := 1, seq := 1 }
  ctl1 : CtlBlock := {}
  running : Nat := 0
  bootFail : Nat := 0
  verified : Option Nat := none
  rollback : Nat := 0
  revoked : Nat := 0
  deriving DecidableEq, Repr

/-- The reset classes of Table 12.5. -/
inductive ResetCls where
  | powerOn
  | cold
  | warm
  | thermal
  deriving DecidableEq, Repr

/-- Power, thermal and reset: the step of Table 12.7 under way (0: BOOT is over), the class of the last reset, whether its
release waits for the input (R285), RST_N low and holding the reset (R290), the clock at a thermal trip, recovery (R309), the
released signal groups (R294), sensor readings, the power samples of the window, newest first, with the runs of R287, the rails
under a warning, REF10M present, the number of the last dump since power-on, a dump that ended under R268, when the dump began, and
what the boot ROM has taken of a recovery image. -/
structure Plat where
  step : Nat := 1
  cls : ResetCls := .powerOn
  needPower : Bool := false
  pinLow : Bool := false
  pinHolds : Bool := false
  tripAt : Nat := 0
  recovery : Bool := false
  released : List Nat := []
  sensors : FMap W32 := []
  samples : List W32 := []
  lowRun : Nat := 0
  highRun : Nat := 0
  rails : List Nat := []
  ref10m : Bool := true
  dumpNo : Nat := 0
  dumpStopped : Bool := false
  dumpAt : Nat := 0
  image : List Byte := []
  deriving DecidableEq, Repr

/-- The instruction of the TAP (R333). -/
inductive TapIr where
  | testLogicReset
  | bypass
  | idcode
  | sample
  | extest
  | clamp
  | highz
  deriving DecidableEq, Repr

/-- Test and debug: the TAP's instruction, its bypass bit and the preloaded boundary cells, the stacks under BIST (R334), the
port under PRBS (R335), the debug challenge (empty: none) and the seconds of the unlock (R317). -/
structure TestBlk where
  ir : TapIr := .testLogicReset
  byp : Bool := false
  cells : List Bool := []
  bist : Nat := 0
  prbs : Option Nat := none
  challenge : List Byte := []
  debugSecs : Nat := 0
  deriving DecidableEq, Repr


/-! ### The module -/

/-- A byte of the error log is kept in the dump (Table 12.13): one record of 32 bytes. -/
structure ErrRec where
  ft : Int
  source : Nat
  code : Nat
  level : Nat
  index : Nat
  data : List Byte
  deriving DecidableEq, Repr

/-- Why the module is FAULTED (Table 12.11): the code, the detail, the state and FT at the fault. -/
structure FaultInfo where
  code : Nat
  detail : Nat
  prior : Nat
  ft : Int
  deriving DecidableEq, Repr

/-- The time block (06, 6.5): federation time in ns (the value of R146 while it is not established), the fraction below
the nanosecond in 2^-32 ns, the count of consecutive offsets within the
budget, what drives the counter, and the nanoseconds counted since power-on, which serve as the clock while federation time
is not established. -/
structure TimeBlk where
  ft : Int := -9223372036854775808
  frac : Nat := 0
  lockRun : Nat := 0
  onRefclk : Bool := false
  now : Nat := 0
  deriving DecidableEq, Repr

/-- The state of the module. `pending` is the queue of commands that wait; `free` counts the open values used
(the model's own); `out` records what was put on the wires, newest first (the model's own); `od` and `blob` hold the dictionary
keyed by index * 256 + sub-index; `mem` is every memory of Table 1.4 by module address, `slow` the companion's memory,
`table` the Movement Table as published (empty: none yet), `wrong` the wrong symbols of a 64-byte line by its address, and `spent`
the pinion engines (0 and 1 the data-move queues, 2 the epilogue) whose entry in flight has ended since FAULTED began (R302).
`foreign` lists the lines of carve-outs written last by another than their owner (R113); `exporting` tells that the exports of a
checkpoint run (R258), `roleChange` that a TAKEOVER has changed the gateway roles (R6, R267), and `restart` that a restart of the
site job waits for its restore (R254, R255), true where this module is the substitute. -/
structure State where
  pending : List Instr := []
  free : Nat := 0
  out : List Output := []
  od : FMap Nat := []
  blob : FMap (List Byte) := []
  mem : FMap Byte := []
  slow : FMap Byte := []
  pinions : FMap Pinion := []
  barrels : FMap Barrel := []
  syncs : FMap SyncObj := []
  units : FMap UnitSt := []
  t1s : FMap T1 := []
  bootRetired : List Nat := []
  changes : List Change := []
  table : List Byte := []
  dieEsc : List Nat := []
  relStamp : Nat := 0
  shadowSeq : Nat := 0
  errLog : List ErrRec := []
  faultInfo : Option FaultInfo := none
  time : TimeBlk := {}
  crown : Crown := {}
  beats : FMap Beat := []
  near : FMap NearPort := []
  rx : List RxPkt := []
  noRoute : List NearPkt := []
  vc0Tx : FMap Nat := []
  vc0Rx : FMap Nat := []
  altPort : FMap Nat := []
  stopSent : Bool := false
  coll : Coll := {}
  uqNext : FMap W32 := []
  qWait : List Nat := []
  siteStopping : Bool := false
  logAt : Nat := 0
  logFrom : Nat := 0
  far : Far := {}
  outer : Outer := {}
  nearExch : FMap Nat := []
  nearEx : TimeEx := {}
  store : FwStore := {}
  plat : Plat := {}
  test : TestBlk := {}
  vc7 : FMap (Option BlobXfer) := []
  wrong : FMap Nat := []
  spent : List (Nat × Nat) := []
  foreign : List Nat := []
  exporting : Bool := false
  roleChange : Bool := false
  restart : Option Bool := none
  deriving DecidableEq, Repr

/-- The faults of the model: it has none, since the spec says of every failure of this block what state it leaves. -/
inductive Fault where
  deriving DecidableEq, Repr

/-- The refusals of the model. -/
inductive Refusal where
  /-- Answered by an arm of exec for a command that has no meaning yet. Safe. -/
  | notModelled (mnemonic : String)
  /-- Answered by INTERNAL_TEST with the debug unlock of R333: the spec gives the test instructions no effect. Safe. -/
  | testInstruction
  deriving DecidableEq, Repr

/-- The module right after the release of a power-on reset (R285, Table 12.6): every field at its reset value, BOOT at
step 1 of Table 12.7, no command waiting. -/
def State.reset : State := {}

end Sys2Proof.Machine
end

