-- ==== Sys2Proof/Machine/Ops.lean ====
section
/-! DEFINITION. The named operations over the state: dictionary entries, memory, trains and their service state, pinions
and hands, open values. -/

namespace Sys2Proof.Machine

/-! ### The dictionary -/

namespace State

/-- The value of a number entry (R11). -/
def odGet (s : State) (index sub : Nat) : Nat := fget (odDfltKey (odKey index sub)) s.od (odKey index sub)

/-- Set a number entry. -/
def odSet (s : State) (index sub v : Nat) : State :=
  { s with od := fput (odDfltKey (odKey index sub)) s.od (odKey index sub) v }

/-- Add to a counter entry, modulo its width. -/
def bumpBy (s : State) (index sub n : Nat) : State :=
  let w := match odRow index sub with
    | some r => 256 ^ r.size
    | none => 2 ^ 64
  s.odSet index sub ((s.odGet index sub + n) % w)

/-- Add 1 to a counter entry. -/
def bump (s : State) (index sub : Nat) : State := s.bumpBy index sub 1

/-- The value of a STR or BLOB entry. -/
def blobGet (s : State) (index sub : Nat) : List Byte :=
  fget (blobDfltKey (odKey index sub)) s.blob (odKey index sub)

/-- Set a STR or BLOB entry. -/
def blobSet (s : State) (index sub : Nat) (v : List Byte) : State :=
  { s with blob := fput (blobDfltKey (odKey index sub)) s.blob (odKey index sub) v }

/-- The module state, OD 0x1010.01 (Table 11.1). -/
def modState (s : State) : Nat := s.odGet 0x1010 1

/-- An open value of `w` bits, fresh at each use. -/
def draw (s : State) (w : Nat) : BitVec w × State := (Config.freeValue s.free w, { s with free := s.free + 1 })

/-- Record something put on the module's wires. -/
def emit (s : State) (o : Output) : State := { s with out := o :: s.out }

end State

/-- Module state COLD. -/
def stCold : Nat := 0
/-- Module state BOOT. -/
def stBoot : Nat := 1
/-- Module state QUIET. -/
def stQuiet : Nat := 2
/-- Module state ARMED. -/
def stArmed : Nat := 3
/-- Module state RUNNING. -/
def stRunning : Nat := 4
/-- Module state HELD. -/
def stHeld : Nat := 5
/-- Module state FAULTED. -/
def stFaulted : Nat := 6
/-- Module state DUMPING. -/
def stDumping : Nat := 7

/-- "FT not established" (R146). -/
def ftUnset : Int := -9223372036854775808

/-- The FT64 encoding of a federation time. -/
def ftNat (t : Int) : Nat := sNat 64 t

/-! ### Memory (Table 1.4) -/

/-- The step between HBM stacks. -/
def hbmStride : Nat := 0x2000000000
/-- Bytes of a stack below its training area (R337). -/
def hbmUse : Nat := 0x12A04F2000
/-- Bytes of a stack. -/
def hbmSize : Nat := 0x12A05F2000
/-- Base of the Barrels. -/
def barrelBase : Nat := 0x010000000000
/-- Bytes of a Barrel. -/
def barrelSize : Nat := 0x400000
/-- Base of the pinion SRAM. -/
def sramBase : Nat := 0x020000000000
/-- Step between pinions. -/
def sramStride : Nat := 0x20000
/-- Bytes of an instruction area. -/
def iaSize : Nat := 0x4000
/-- Bytes of a data area. -/
def daSize : Nat := 0x14000
/-- Base of the OD shadow window. -/
def shadowBase : Nat := 0x030000000000
/-- Base of the slow tier. -/
def slowBase : Nat := 0x400000000000

/-- Address of the instruction area of a logical pinion. -/
def iaAddr (p : Nat) : Nat := sramBase + p * sramStride
/-- Address of the data area of a logical pinion. -/
def daAddr (p : Nat) : Nat := sramBase + p * sramStride + iaSize

/-- What lies at a module address. -/
inductive Region where
  | hbm (stack : Nat)
  | barrel (t2 : Nat)
  | instr (p : Nat)
  | data (p : Nat)
  | shadow
  | slowTier
  | unmapped
  deriving DecidableEq, Repr

namespace State

/-- Enabled pinions: PINIONS of the Movement Table header (R13, R15). -/
def pinCount (s : State) : Nat := 6144 - 8 * s.bootRetired.length

/-- The byte an HBM, Barrel or SRAM address holds: zero where nothing was written. -/
def memByte (s : State) (a : Nat) : Byte := fget 0 s.mem a

/-- The region a range of `n` bytes at `a` lies wholly inside (Table 1.4, R337). -/
def region (s : State) (a n : Nat) : Region :=
  if a < barrelBase then
    (if a / hbmStride < 8 && decide (a % hbmStride + n ≤ hbmUse) then .hbm (a / hbmStride) else .unmapped)
  else if a < sramBase then
    let t := (a - barrelBase) / barrelSize
    if decide (t < 96) && decide ((a - barrelBase) % barrelSize + n ≤ barrelSize) then .barrel t else .unmapped
  else if a < shadowBase then
    let p := (a - sramBase) / sramStride
    let o := (a - sramBase) % sramStride
    if s.pinCount ≤ p then .unmapped
    else if o + n ≤ iaSize then .instr p
    else if iaSize ≤ o && decide (o + n ≤ iaSize + daSize) then .data p
    else .unmapped
  else if a < slowBase then
    (if a + n ≤ shadowBase + 0x1000 then .shadow else .unmapped)
  else if a + n ≤ slowBase + s.odGet 0x3000 2 then .slowTier
  else .unmapped

/-- Does a range lie wholly inside the HBM of one stack, its training area not counted (R337)? -/
def inHbm (s : State) (a n : Nat) : Bool :=
  match s.region a n with
  | .hbm _ => true
  | _ => false

/-- Does a range lie wholly inside the mapped slow tier? -/
def inSlow (s : State) (a n : Nat) : Bool :=
  match s.region a n with
  | .slowTier => true
  | _ => false

/-- Write bytes at rising addresses of the module's own memory. -/
def memWrite (s : State) (a : Nat) : List Byte → State
  | [] => s
  | b :: bs => memWrite { s with mem := fput 0 s.mem a b } (a + 1) bs

/-- Write bytes of companion memory. -/
def slowWrite (s : State) (a : Nat) : List Byte → State
  | [] => s
  | b :: bs => slowWrite { s with slow := fput 0 s.slow a b } (a + 1) bs

/-- The fields of the shadow window (Table 1.3), each an offset and bytes; the rest reads 0. -/
def shadowBytes (s : State) : List Byte :=
  toLe 8 s.shadowSeq ++ toLe 8 (s.odGet 0x1101 1) ++ toLe 4 (s.odGet 0x7100 1) ++
  toLe 4 (s.odGet 0x7100 2) ++ toLe 2 (s.odGet 0x2010 1) ++ toLe 1 (s.odGet 0x1010 1) ++ zeros 5 ++
  toLe 8 (s.odGet 0x4400 1) ++ toLe 4 (s.odGet 0x4400 2) ++ zeros 20 ++
  (List.range 16).flatMap (fun i => toLe 4 (s.odGet 0x7200 (i + 1)))

/-- One byte at a module address, wherever it lies. -/
def readByte (s : State) (a : Nat) : Byte :=
  if slowBase ≤ a then fget 0 s.slow (s.odGet 0x3000 1 + (a - slowBase))
  else if shadowBase ≤ a then (s.shadowBytes).getD (a - shadowBase) 0
  else s.memByte a

/-- `n` bytes at a module address. -/
def readBytes (s : State) (a n : Nat) : List Byte := (List.range n).map (fun i => s.readByte (a + i))

/-- The lines of the staging, log and ring carve-outs that a write of `n` bytes touches (R112). -/
def carveLines (s : State) (a n : Nat) : List Nat :=
  let o := a % hbmStride
  let lo := max o (0x12A0400000 - (s.odGet 0x3100 1 + s.odGet 0x3100 2 + s.odGet 0x3100 3 + s.odGet 0x3100 4) / 8)
  let hi := min (o + n) (0x12A0400000 - s.odGet 0x3100 1 / 8)
  if barrelBase ≤ a || decide (hi ≤ lo) then []
  else (List.range ((hi + 63) / 64 - lo / 64)).map (fun i => (a - o) / 64 + lo / 64 + i)

/-- Write bytes at a module address of HBM, a Barrel, SRAM or the slow tier; a line written whole has its check symbols anew, and
a line of a carve-out is marked as not its owner's (R113). -/
def writeBytes (s : State) (a : Nat) (bs : List Byte) : State :=
  if slowBase ≤ a then s.slowWrite (s.odGet 0x3000 1 + (a - slowBase)) bs
  else State.memWrite { s with
    wrong := s.wrong.filter (fun c => !(decide (a ≤ 64 * c.1) && decide (64 * c.1 + 64 ≤ a + bs.length))),
    foreign := s.foreign ++ (s.carveLines a bs.length).filter (fun l => !s.foreign.contains l) } a bs

/-- The owner of a carve-out writes there: the lines are its own again. -/
def ownWrite (s : State) (a : Nat) (bs : List Byte) : State :=
  { s.writeBytes a bs with foreign := s.foreign.filter (fun l => !(s.carveLines a bs.length).contains l) }

/-- Has another than the owner last written a line of a carve-out that a range touches (R113)? -/
def foreignIn (s : State) (a n : Nat) : Bool := s.foreign.any (fun l => decide (a < 64 * l + 64) && decide (64 * l < a + n))

/-- What the owner of a carve-out reads there: a line that another has written holds open bytes (R113). -/
def ownRead (s : State) (a n : Nat) : List Byte × State :=
  if s.foreignIn a n then
    let r := s.draw (8 * n)
    ((List.range n).map (fun i => if s.foreign.contains ((a + i) / 64) then (r.1.extractLsb' (8 * i) 8) else s.readByte (a + i)), r.2)
  else (s.readBytes a n, s)

/-- The address of the first line with an uncorrectable error that some ranges (address, length) touch (R134, R136). -/
def wrongLine (s : State) (rs : List (Nat × Nat)) : Option Nat :=
  (s.wrong.find? (fun c => decide (2 ≤ c.2) && rs.any (fun r => decide (r.1 < 64 * c.1 + 64) && decide (64 * c.1 < r.1 + r.2)))).map
    (fun c => 64 * c.1)

/-- A little-endian number of `n` bytes at a module address. -/
def readNat (s : State) (a n : Nat) : Nat := leNat (s.readBytes a n)

/-- The OD shadow window's sequence word counts two for each change it shows (R18). -/
def shadowTouch (s : State) : State := { s with shadowSeq := s.shadowSeq + 2 }

/-! ### Trains, pinions and service (01, 12) -/

/-- The key of a unit: LEVEL and INDEX as ISSUE_PORT packs them (Table 1.11). -/
def unitKey (level index : Nat) : Nat := level * 65536 + index

/-- The service record of a unit. -/
def unit (s : State) (level index : Nat) : UnitSt := fget {} s.units (unitKey level index)

/-- Change the service record of a unit. -/
def unitMod (s : State) (level index : Nat) (f : UnitSt → UnitSt) : State :=
  { s with units := fmod {} s.units (unitKey level index) f }

/-- T1s of a train of a level. -/
def trainWidth (level : Nat) : Nat :=
  match level with
  | 1 => 1
  | 2 => 8
  | 3 => 96
  | 4 => 384
  | _ => 768

/-- Trains of a level. -/
def trainCount (level : Nat) : Nat := 768 / trainWidth level

/-- The T1 index of the `u`-th T1 that is not retired (R13): `r` lists the retired ones in ascending order. -/
def t1OfGo : List Nat → Nat → Nat
  | [], u => u
  | r :: rs, u => if r ≤ u then t1OfGo rs (u + 1) else u

/-- The T1 index of a logical pinion (R13). -/
def t1Of (s : State) (p : Nat) : Nat := t1OfGo s.bootRetired (p / 8)

/-- The first logical number at or above a T1 index (R13). -/
def firstLogical (s : State) (t1 : Nat) : Nat := 8 * (t1 - (s.bootRetired.filter (fun r => decide (r < t1))).length)

/-- The logical pinions of a train, or the pinion itself at level 0. -/
def trainPinions (s : State) (level index : Nat) : List Nat :=
  if level = 0 then [index]
  else
    let lo := s.firstLogical (index * trainWidth level)
    let hi := s.firstLogical ((index + 1) * trainWidth level)
    (List.range (hi - lo)).map (· + lo)

/-- The trains above a pinion, from its T1 up. -/
def ancestors (s : State) (p : Nat) : List (Nat × Nat) :=
  let t := s.t1Of p
  [(1, t), (2, t / 8), (3, t / 96), (4, t / 384), (5, 0)]

/-- The trains above a train. -/
def trainAncestors (level index : Nat) : List (Nat × Nat) :=
  ((List.range 6).filter (fun l => decide (level < l))).map (fun l => (l, index * trainWidth level / trainWidth l))

/-- The first STATE that is not 0 among some units, lowest first. -/
def firstSt (s : State) : List (Nat × Nat) → Nat
  | [] => 0
  | (l, i) :: us => if (s.unit l i).st = 0 then firstSt s us else (s.unit l i).st

/-- STATE of a pinion's status word: its own, or that of the lowest train above it that is not in service (R295). -/
def pinSt (s : State) (p : Nat) : Nat := s.firstSt ((0, p) :: s.ancestors p)

/-- STATE of a train's status word. -/
def trainSt (s : State) (level index : Nat) : Nat := s.firstSt ((level, index) :: trainAncestors level index)

/-- A pinion as a unit, and the trains above it. -/
def pinUnits (s : State) (p : Nat) : List (Nat × Nat) := (0, p) :: s.ancestors p

/-- The units that contain a place: the pinion of an SRAM area, or the T2 of a Barrel, with the trains above; otherwise the module. -/
def regionUnits (s : State) : Region → List (Nat × Nat)
  | .data q => s.pinUnits q
  | .instr q => s.pinUnits q
  | .barrel t => (2, t) :: trainAncestors 2 t
  | _ => [(5, 0)]

/-- The closed Bezels that a request between places in the units `us` and `vs` crosses (R296). -/
def crossed (s : State) (us vs : List (Nat × Nat)) : List (Nat × Nat) :=
  us.filter (fun u => !vs.contains u && (s.unit u.1 u.2).st != 0) ++
    vs.filter (fun u => !us.contains u && (s.unit u.1 u.2).st != 0)

/-- Bezels that have issued ISOLATED keep it in their status words (Table 1.7). -/
def isolate (s : State) (us : List (Nat × Nat)) : State :=
  us.foldl (fun a u => a.unitMod u.1 u.2 (fun x => { x with iso := true })) s

/-- Is a pinion in service? -/
def inService (s : State) (p : Nat) : Bool := decide (p < s.pinCount) && s.pinSt p == 0

/-- Is a pinion held by a HOLD of itself or of a train above it (R156)? -/
def pinHeld (s : State) (p : Nat) : Bool :=
  ((0, p) :: s.ancestors p).any (fun u => (s.unit u.1 u.2).held)

/-- Does an issue port number name a pinion or a train (R33)? -/
def portExists (s : State) (port : Nat) : Bool :=
  let level := port / 65536
  let index := port % 65536
  if level = 0 then decide (index < s.pinCount) else decide (level ≤ 5) && decide (index < trainCount level)

/-- The in-service pinions of an issue port's train, in ascending logical number. -/
def portPinions (s : State) (port : Nat) : List Nat :=
  (s.trainPinions (port / 65536) (port % 65536)).filter (s.inService ·)

/-- The rank of a pinion among the in-service pinions of a train (R34). -/
def rankIn (s : State) (port p : Nat) : Nat := ((s.portPinions port).filter (fun q => decide (q < p))).length

/-- The T2 of a pinion. -/
def t2Of (s : State) (p : Nat) : Nat := s.t1Of p / 8

/-- The T1 record of a T1. -/
def t1 (s : State) (t : Nat) : T1 := fget {} s.t1s t

/-- Change a T1 record. -/
def t1Mod (s : State) (t : Nat) (f : T1 → T1) : State := { s with t1s := fmod {} s.t1s t f }

/-! ### Pinions and hands -/

/-- A pinion. -/
def pin (s : State) (p : Nat) : Pinion := fget {} s.pinions p

/-- Replace a pinion. -/
def setPin (s : State) (p : Nat) (x : Pinion) : State := { s with pinions := fput {} s.pinions p x }

/-- Change a pinion. -/
def pinMod (s : State) (p : Nat) (f : Pinion → Pinion) : State := s.setPin p (f (s.pin p))

end State

namespace Pinion

/-- A hand of a pinion: 0 hand A, otherwise hand B. -/
def hand (x : Pinion) (h : Nat) : Hand := if h = 0 then x.handA else x.handB

/-- Replace a hand. -/
def setHand (x : Pinion) (h : Nat) (d : Hand) : Pinion := if h = 0 then { x with handA := d } else { x with handB := d }

/-- An array of a pinion. -/
def arr (x : Pinion) (a : Nat) : Arr := if a = 0 then x.arr0 else x.arr1

/-- Replace an array. -/
def setArr (x : Pinion) (a : Nat) (r : Arr) : Pinion := if a = 0 then { x with arr0 := r } else { x with arr1 := r }

/-- The key of a tile (array, bank). -/
def tileKey (a b : Nat) : Nat := 2 * a + b

/-- A tile. -/
def tile (x : Pinion) (a b : Nat) : Tile := fget {} x.tiles (tileKey a b)

/-- Replace a tile. -/
def setTile (x : Pinion) (a b : Nat) (t : Tile) : Pinion := { x with tiles := fput {} x.tiles (tileKey a b) t }

/-- A data-move queue. -/
def dmq (x : Pinion) (q : Nat) : List DmJob := if q = 0 then x.dmq0 else x.dmq1

/-- Replace a data-move queue. -/
def setDmq (x : Pinion) (q : Nat) (l : List DmJob) : Pinion := if q = 0 then { x with dmq0 := l } else { x with dmq1 := l }

/-- Add to one of the pinion's own counters (OD 0x2141). -/
def count (x : Pinion) (k n : Nat) : Pinion := { x with cnt := fmod 0 x.cnt k (fun c => (c + n) % 2 ^ 64) }

end Pinion

namespace Hand

/-- A scalar register: s0 reads as zero (R32). -/
def sreg (d : Hand) (r : Nat) : W32 := if r = 0 then 0 else fget 0 d.sregs r

/-- Write a scalar register: a write of s0 is discarded (R32). -/
def setSreg (d : Hand) (r : Nat) (v : W32) : Hand := if r = 0 then d else { d with sregs := fput 0 d.sregs r v }

/-- A vector register. -/
def vreg (d : Hand) (r : Nat) : W512 := fget 0 d.vregs r

/-- Write a vector register. -/
def setVreg (d : Hand) (r : Nat) (v : W512) : Hand := { d with vregs := fput 0 d.vregs r v }

/-- Is the hand ready in the sense of R51: a running stream, not held in a sync-class wait? -/
def isReady (d : Hand) : Bool :=
  d.stream.isSome && (match d.st with
    | .syncWait => false
    | .released _ => false
    | _ => true)

end Hand

namespace State

/-- A hand of a pinion. -/
def hand (s : State) (p h : Nat) : Hand := (s.pin p).hand h

/-- Replace a hand of a pinion. -/
def setHand (s : State) (p h : Nat) (d : Hand) : State := s.pinMod p (fun x => x.setHand h d)

/-- Add to a module counter and to the pinion's own counter of the same thing (Table 2.9, Table 3.10). -/
def pinCountBy (s : State) (p index sub k n : Nat) : State := (s.bumpBy index sub n).pinMod p (fun x => x.count k n)

/-- `n` bytes of a pinion's data area at an offset. -/
def rdData (s : State) (p off n : Nat) : List Byte := (List.range n).map (fun i => s.memByte (daAddr p + off + i))

/-- Write into a pinion's data area; nothing reaches beyond its end. -/
def wrData (s : State) (p off : Nat) (bs : List Byte) : State := s.memWrite (daAddr p + off) (bs.take (daSize - off))

/-- Is a range of the data area in bounds (R55)? -/
def inData (off n : Nat) : Bool := decide (off + n ≤ daSize)

end State

end Sys2Proof.Machine
end

