-- ==== Sys2Proof/Machine/Frames.lean ====
section
/-! DEFINITION. COP frames on their way out, the outbound mailbox ring (R273), NOTIFY (R281), the error log (Table 12.13)
and the change of module state (R263). -/

namespace Sys2Proof.Machine

/-- A COP frame (Table 11.10) with its MAC under `key`; an empty key gives the MAC of 16 zero bytes (R274, R275). -/
def copFrame (op flags status session seq : Nat) (body key : List Byte) : List Byte :=
  let m := toLe 1 1 ++ toLe 1 op ++ toLe 1 flags ++ toLe 1 status ++ toLe 4 session ++ toLe 4 seq ++
    toLe 2 body.length ++ zeros 2 ++ body
  m ++ (if key.isEmpty then zeros 16 else (hmac512 key m).take 16)

/-- An item of a request or a response (Table 11.14). -/
def copItem (index sub typ status : Nat) (value : List Byte) : List Byte :=
  toLe 2 index ++ toLe 1 sub ++ toLe 1 typ ++ toLe 2 value.length ++ toLe 1 status ++ [0] ++ padTo (roundUp value.length 8) value

/-- Bytes of a mailbox data area (Table 11.9). -/
def mbArea : Nat := 32704

/-- A record of a ring: LEN and the frame, padded to a multiple of 8. -/
def ringRecord (frame : List Byte) : List Byte :=
  let r := toLe 4 frame.length ++ frame
  padTo (roundUp r.length 8) r

namespace State

/-- `n` bytes of the mailbox at an offset. -/
def mbRead (s : State) (off n : Nat) : List Byte := (List.range n).map (fun i => fget 0 s.crown.mailbox (off + i))

/-- Write bytes of the mailbox. -/
def mbWrite (s : State) (off : Nat) : List Byte → State
  | [] => s
  | b :: bs => mbWrite { s with crown := { s.crown with mailbox := fput 0 s.crown.mailbox off b } } (off + 1) bs

/-- Put one record into the outbound ring, if it fits without overtaking TAIL (R273). -/
def ringPut (s : State) (frame : List Byte) : Option State :=
  let head := leNat (s.mbRead 0x8000 4)
  let tail := leNat (s.mbRead 0x8004 4)
  let r := ringRecord frame
  let n := r.length
  let done (s' : State) (h : Nat) : State :=
    ((s'.mbWrite 0x8000 (toLe 4 (if h = mbArea then 0 else h))).emit (.vdlIrq (s.odGet 0x1200 7)))
  if mbArea ≤ n then none
  else if head < tail then
    (if head + n < tail then some (done (s.mbWrite (0x8040 + head) r) (head + n)) else none)
  else if head + n ≤ mbArea then
    (if head + n = mbArea && tail == 0 then none else some (done (s.mbWrite (0x8040 + head) r) (head + n)))
  else if n < tail then
    some (done ((s.mbWrite (0x8040 + head) (if head + 4 ≤ mbArea then List.replicate 4 0xFF else [])).mbWrite 0x8040 r) n)
  else none

/-- Move waiting frames into the outbound ring while they fit, oldest first. -/
def ringDrain (s : State) : List (List Byte) → State
  | [] => { s with crown := { s.crown with outQ := [] } }
  | f :: fs =>
    match s.ringPut f with
    | some s' => ringDrain s' fs
    | none => { s with crown := { s.crown with outQ := f :: fs } }

/-- Send a COP frame to where it belongs. -/
def copSend (s : State) (dest : Peer) (frame : List Byte) : State :=
  match dest with
  | .mailbox => s.ringDrain (s.crown.outQ ++ [frame])
  | .field a p => s.emit (.fieldDatagram a p frame)

/-- The records of the inbound mailbox ring from `tail` to `head`, concatenated. -/
def ringImage (s : State) : Nat → Nat → Nat → List Byte
  | 0, _, _ => []
  | n + 1, tail, head =>
    if tail = head then []
    else
      let len := leNat (s.mbRead (0x40 + tail) 4)
      if len = 0xFFFFFFFF then ringImage s n 0 head
      else
        let next := tail + roundUp (4 + len) 8
        s.mbRead (0x40 + tail + 4) len ++ ringImage s n (if mbArea ≤ next then 0 else next) head

/-- In recovery the boot ROM takes the records of the inbound ring, in order (R309, R273). -/
def romTake (s : State) : State :=
  let image := s.plat.image ++ s.ringImage 8192 (leNat (s.mbRead 4 4)) (leNat (s.mbRead 0 4))
  { s.mbWrite 4 (s.mbRead 0 4) with plat := { s.plat with image := image } }

/-- Replace the sessions. -/
def setSessions (s : State) (l : List Session) : State := { s with crown := { s.crown with sessions := l } }

/-- Change one session. -/
def sesMod (s : State) (id : Nat) (f : Session → Session) : State :=
  s.setSessions (s.crown.sessions.map (fun x => if x.id = id then f x else x))

/-- The session of a number. -/
def session (s : State) (id : Nat) : Option Session := s.crown.sessions.find? (fun x => x.id == id)

end State

/-- Add an event to a session's queue (R281): an unsent event of the same entry takes the new FT and value; a full queue
drops its oldest. The second part tells whether one was dropped. -/
def queueEvent (x : Session) (e : NEvent) : Session × Bool :=
  if x.queue.any (fun o => o.index == e.index && o.sub == e.sub) then
    ({ x with queue := x.queue.map (fun o => if o.index = e.index && o.sub == e.sub then { o with ft := e.ft, value := e.value } else o) }, false)
  else if x.queue.length < 256 then ({ x with queue := x.queue ++ [e] }, false)
  else ({ x with queue := x.queue.drop 1 ++ [e], lost := true }, true)

/-- The body of a NOTIFY frame (Table 11.15). -/
def notifyBody (lost : Bool) (es : List NEvent) : List Byte :=
  toLe 1 es.length ++ toLe 1 (if lost then 1 else 0) ++ zeros 6 ++
    es.flatMap (fun e => toLe 2 e.index ++ toLe 1 e.sub ++ toLe 1 e.typ ++ zeros 4 ++ toLe 8 (ftNat e.ft) ++ toLe 8 e.value)

namespace State

/-- The next NOTIFY frame of a session: up to 32 of its queued events, in order; it tells of lost ones. -/
def notifyFrame (x : Session) : NSent := {
  nseq := x.nseq, resends := 0,
  frame := copFrame 0x20 0 0 x.id x.nseq (notifyBody x.lost (x.queue.take 32)) x.keyOut }

/-- Send a frame at once, if its transport has room for it: none where it must wait behind others or for the ring. -/
def sendNow (s : State) (dest : Peer) (frame : List Byte) : Option State :=
  match dest with
  | .mailbox => if s.crown.outQ.isEmpty then s.ringPut frame else none
  | .field a p => some (s.emit (.fieldDatagram a p frame))

/-- Send the queued events of a session, at most `n` frames of them; what finds no room stays unsent. Several frames may wait for an
acknowledgement (R281, Table 11.11). -/
def notifySend : Nat → State → Nat → State
  | 0, s, _ => s
  | n + 1, s, id =>
    match s.session id with
    | none => s
    | some x =>
      if x.isOpen && x.notify && !x.queue.isEmpty then
        match s.sendNow x.peer (notifyFrame x).frame with
        | none => s
        | some t => notifySend n (t.sesMod id (fun y => { y with
            queue := y.queue.drop 32, lost := false, nseq := y.nseq + 1, sent := y.sent ++ [notifyFrame x] })) id
      else s

/-- Send what the sessions have queued, unless a response comes first (R270). -/
def notifyFlush (s : State) : State :=
  if s.crown.holdNotify then s else s.crown.sessions.foldl (fun a x => notifySend 8 a x.id) s

/-- The stored answer of a session whose command has waited (R264), with its status, resealed under its key: the header and the
last item carry the status. -/
def lateAnswer (x : Session) (status : Nat) : List Byte :=
  let body := (x.lastAnswer.drop 16).take (x.lastAnswer.length - 32)
  let n := body.length
  copFrame (rdLe x.lastAnswer 1 1) 1 status x.id (rdLe x.lastAnswer 8 4) (patch body (n - 2) (toLe 1 status)) x.keyOut

/-- Answer the request that waits for the end of a transition, if one does. -/
def answerWaiting (s : State) (status : Nat) : State :=
  match s.crown.sessions.find? (fun x => x.waitingAnswer) with
  | none => s
  | some x =>
    let f := lateAnswer x status
    let s1 := (s.sesMod x.id (fun y => { y with lastAnswer := f, waitingAnswer := false })).copSend x.peer f
    State.notifyFlush { s1 with crown := { s1.crown with holdNotify := false } }

/-- An event names an entry with a value (R281): every session that asked for NOTIFY receives it. -/
def notifyVal (s : State) (index sub v : Nat) : State :=
  if s.crown.down then { s with crown := { s.crown with lostCount := s.crown.lostCount + 1 } }
  else
    let typ := match odRow index sub with
      | some r => r.typ
      | none => 0
    let e : NEvent := { index := index, sub := sub, typ := typ, ft := s.time.ft, value := if 11 ≤ typ then 0 else v }
    let qs := s.crown.sessions.map (fun x => if x.isOpen && x.notify then queueEvent x e else (x, false))
    let drops := (qs.filter (·.2)).length
    ((s.setSessions (qs.map (·.1))).bumpBy 0x1210 5 drops).notifyFlush

/-- An event names an entry, with the value it holds. -/
def notify (s : State) (index sub : Nat) : State := s.notifyVal index sub (s.odGet index sub)

/-- Count an event and name its counter in a NOTIFY. -/
def countNotify (s : State) (index sub : Nat) : State := (s.bump index sub).notify index sub

/-- Set an entry the shadow window shows (R18, R282). -/
def odSetShown (s : State) (index sub v : Nat) : State :=
  if s.odGet index sub = v then s else (s.odSet index sub v).shadowTouch

/-- Append a record to the error log, which keeps the latest 1,024 (Table 12.13). -/
def logErr (s : State) (source code level index : Nat) (data : List Byte) : State :=
  let r : ErrRec := { ft := s.time.ft, source := source, code := code, level := level, index := index, data := padTo 16 data }
  { s with errLog := (s.errLog ++ [r]).drop ((s.errLog.length + 1) - 1024) }

/-- The module changes its state (R263). -/
def setModState (s : State) (st : Nat) : State :=
  ((((s.odSetShown 0x1010 1 st).bump 0x1010 4).odSet 0x1010 7 (ftNat s.time.ft))).notify 0x1010 1

/-! ### The service of ports (Table 1.15) -/

/-- The key of a port: (CLASS << 8) | NUMBER, outside the keys of trains. -/
def portKey (cls num : Nat) : Nat := 0x1000000 + cls * 256 + num

/-- Has a port been fenced or retired: SERVICE 2 or 3, otherwise 0? -/
def portSvc (s : State) (cls num : Nat) : Nat :=
  let u := fget ({} : UnitSt) s.units (portKey cls num)
  if u.st = 1 then 2 else u.st

/-- Set the SERVICE of a port to 0, 2 or 3. -/
def portSvcSet (s : State) (cls num v : Nat) : State :=
  { s with units := fmod {} s.units (portKey cls num) (fun u => { u with st := if v = 2 then 1 else v }) }

/-- Mark a port in the retirement map, or clear its mark (R298). -/
def mapPort (s : State) (cls num : Nat) (on : Bool) : State :=
  let off := if cls = 1 then 1536 else 1538
  let m := s.blobGet 0x9400 1
  let w := rdLe m off 2
  let w' := if on then w ||| 2 ^ num else w - (w &&& 2 ^ num)
  if w' = w then s else (s.blobSet 0x9400 1 (patch m off (toLe 2 w'))).notify 0x9400 1

end State

end Sys2Proof.Machine
end

