-- ==== Sys2Proof/Machine/NearOut.lean ====
section
/-! DEFINITION. The sending side of the near links: routes (R167), packets (R169), flits (R168), credits (R174), the port
arbiter (R175), and what every part of the module sends on VC0. -/

namespace Sys2Proof.Machine

/-! ### The layout descriptor's members (Table 10.4) -/

/-- A module entry of the layout descriptor. -/
structure LModule where
  smn : Nat
  roles : Nat
  stage : Nat
  tpRank : Nat
  dpRank : Nat
  epRank : Nat
  rsv : Nat
  keepFirst : Nat
  keepCount : Nat
  deriving DecidableEq, Repr

/-- Read a module entry. -/
def lModule (b : List Byte) : LModule :=
  { smn := rdLe b 0 1, roles := rdLe b 1 1, stage := rdLe b 2 1, tpRank := rdLe b 3 1, dpRank := rdLe b 4 1,
    epRank := rdLe b 5 1, rsv := rdLe b 6 2, keepFirst := rdLe b 8 4, keepCount := rdLe b 12 4 }

namespace LModule

/-- Neither a spare nor out of service. -/
def active (m : LModule) : Bool := !Nat.testBit m.roles 3 && !Nat.testBit m.roles 4

end LModule

namespace State

/-- The module's own site module number (R143). -/
def smn (s : State) : Nat := s.odGet 0x4100 3

/-- The layout descriptor. -/
def layoutBytes (s : State) : List Byte := s.blobGet 0x2010 2

/-- The module entries of the layout descriptor. -/
def lModules (s : State) : List LModule :=
  let b := s.layoutBytes
  (List.range (rdLe b 5 1)).map (fun i => lModule (slice b (64 + 16 * i) 16))

/-- The descriptor's entry of a site module number. -/
def lEntry (s : State) (m : Nat) : Option LModule := s.lModules.find? (fun x => x.smn == m)

/-- The members of the site job: the modules of the descriptor that are neither spare nor out of service. -/
def siteMembers (s : State) : List Nat :=
  if rdLe s.layoutBytes 0 4 = 0x544F594C then (s.lModules.filter LModule.active).map (·.smn) else []

/-- Does the module belong to a site job under its layout descriptor? -/
def inSiteJob (s : State) : Bool := s.siteMembers.contains s.smn

end State

/-! ### Ports -/

namespace State

/-- A near-link port. -/
def nport (s : State) (k : Nat) : NearPort := fget {} s.near k

/-- Change a near-link port. -/
def nportMod (s : State) (k : Nat) (f : NearPort → NearPort) : State := { s with near := fmod {} s.near k f }

/-- Add to a port's own counter. -/
def nportCount (s : State) (k c : Nat) : State :=
  s.nportMod k (fun p => { p with cnt := fmod 0 p.cnt c (fun v => (v + 1) % 2 ^ 64) })

/-- Is a port held by a HOLD beat (R156)? -/
def portHeld (s : State) (cls num : Nat) : Bool := (fget ({} : UnitSt) s.units (portKey cls num)).held

/-- Is a near-link port up: trained and in service? -/
def nearUp (s : State) (k : Nat) : Bool := (s.nport k).st == 2 && s.portSvc 1 k == 0

/-! ### Credits (R174) -/

/-- Dedicated flits of a VC in each hop class. -/
def vcDedicated (s : State) (vc : Nat) : Nat := rdLe (s.blobGet 0x5300 1) (2 * vc) 2

/-- The cap of a VC in the shared pool. -/
def vcCap (s : State) (vc : Nat) : Nat := rdLe (s.blobGet 0x5300 2) (2 * vc) 2

/-- The shared pool: what the dedicated pools leave of 4,096 flits. -/
def sharedPool (s : State) : Nat := 4096 - 3 * ((List.range 8).map s.vcDedicated).sum

/-- The pool in which a packet of n flits finds room, given what is in use: its class's dedicated pool, or the shared pool
within the VC's cap. -/
def poolFor (s : State) (used : FMap Nat) (vc cls n : Nat) : Option Nat :=
  let u (v p : Nat) := fget 0 used (4 * v + p)
  if u vc cls + n ≤ s.vcDedicated vc then some cls
  else if u vc 3 + n ≤ s.vcCap vc && decide (((List.range 8).map (fun v => u v 3)).sum + n ≤ s.sharedPool) then some 3
  else none

/-! ### Flits (Table 7.2) -/

end State

/-- A flit from its header fields (HCRC left out) and its 248 body bytes. -/
def flitBytes (hdr : Nat) (body : List Byte) : List Byte :=
  let b := padTo 248 body
  let top := toLe 6 (hdr / 2 ^ 16)
  toLe 2 (crc16 (top ++ b)) ++ top ++ b

/-- The header fields of a flit as a number. -/
def flitHdr (fseq aseq : Nat) (nak : Bool) (vc : Nat) (head tail : Bool) (cls : Nat) (cr : Nat × Nat × Nat) (idle : Bool) : Nat :=
  let b (x : Bool) := if x then 1 else 0
  fseq * 2 ^ 52 + aseq * 2 ^ 40 + b nak * 2 ^ 39 + vc * 2 ^ 36 + b head * 2 ^ 35 + b tail * 2 ^ 34 + cls * 2 ^ 32 +
  cr.1 * 2 ^ 29 + cr.2.1 * 2 ^ 27 + cr.2.2 * 2 ^ 21 + b idle * 2 ^ 20

namespace State

/-- The credits that the next flit returns, one VC and one pool, and the port without them. -/
def takeOwed (p : NearPort) : (Nat × Nat × Nat) × NearPort :=
  match p.owed with
  | [] => ((0, 0, 0), p)
  | (v, q, n) :: l =>
    let m := min n 63
    ((v, q, m), { p with owed := if n = m then l else (v, q, n - m) :: l,
                         held := fmod 0 p.held (4 * v + q) (fun h => h - m) })

/-- Put one flit of the replay buffer on the wire: acknowledgement and credits ride in its header. -/
def wireFlit (s : State) (k : Nat) (f : RFlit) : State :=
  let c := takeOwed (s.nport k)
  let h := flitHdr f.fseq ((c.2.rxSeq + 4095) % 4096) false f.vc f.head f.tail f.cls c.1 false
  { s with near := fput {} s.near k c.2 }.emit (.nearFlit k (flitBytes h f.body))

/-- Send an IDLE flit: acknowledgement, NAK and credits. -/
def wireIdle (s : State) (k : Nat) (nak : Bool) : State :=
  let c := takeOwed (s.nport k)
  let h := flitHdr ((c.2.txSeq + 4095) % 4096) ((c.2.rxSeq + 4095) % 4096) nak 0 false false 0 c.1 true
  { s with near := fput {} s.near k c.2 }.emit (.nearFlit k (flitBytes h []))

/-- The room a packet held where it came in is free again: its credits are owed, and go back in an IDLE flit (R174). -/
def returnRoom (s : State) : Option Room → State
  | none => s
  | some r =>
    let s1 := s.nportMod r.port (fun p => { p with owed := p.owed ++ [(r.vc, r.pool, r.flits)] })
    if s1.nearUp r.port then s1.wireIdle r.port false else s1

end State

/-- Flits of a packet of n header and payload bytes (R169). -/
def flitCount (n : Nat) : Nat := ceilDiv (n + 8) 248

/-- The bodies of the flits of a packet: header, payload and CRC-64. -/
def packetBodies (bytes : List Byte) : List (List Byte) := chunksOf 248 (bytes ++ toLe 8 (crc64 bytes))

namespace State

/-- Send the flits of a packet on a port: into the replay buffer and onto the wire. -/
def sendFlits (k vc cls n : Nat) : Nat → State → List (List Byte) → State
  | _, s, [] => s
  | i, s, b :: bs =>
    let f : RFlit := { fseq := (s.nport k).txSeq, vc := vc, head := i == 0, tail := i + 1 == n, cls := cls, body := padTo 248 b }
    let s1 := s.nportMod k (fun p => { p with txSeq := (p.txSeq + 1) % 4096, replay := p.replay ++ [f] })
    sendFlits k vc cls n (i + 1) (s1.wireFlit k f) bs

/-- The packet a port sends next (R175): VC0 first, otherwise the first asking VC at or after the pointer; a VC asks when its
oldest packet has credits. The result is the packet's position, its pool and the pointer. -/
def nextPacket (s : State) (p : NearPort) : Option (Nat × Nat × Nat) :=
  let asks (vc : Nat) : Option (Nat × Nat) :=
    match p.txq.findIdx? (fun x => x.vc == vc) with
    | none => none
    | some i =>
      match p.txq[i]? with
      | none => none
      | some x =>
        let n := flitCount x.bytes.length
        if p.replay.length + n ≤ 512 then (s.poolFor p.used vc x.cls n).map (fun q => (i, q)) else none
  match asks 0 with
  | some r => some (r.1, r.2, p.rr)
  | none =>
    (List.range 7).foldl (fun best i => match best with
      | some b => some b
      | none =>
        let v := (p.rr + i) % 7
        (asks (v + 1)).map (fun r => (r.1, r.2, (v + 1) % 7))) none

/-- Send packets on a port while it can: in service, not held, with credits and replay space. -/
def pump : Nat → State → Nat → State
  | 0, s, _ => s
  | fuel + 1, s, k =>
    if s.nearUp k && !s.portHeld 1 k then
      let p := s.nport k
      match s.nextPacket p with
      | none => s
      | some (i, pool, rr) =>
        match p.txq[i]? with
        | none => s
        | some x =>
          let n := flitCount x.bytes.length
          let s1 := s.nportMod k (fun p => { p with
            txq := p.txq.eraseIdx i, rr := rr, used := fmod 0 p.used (4 * x.vc + pool) (· + n) })
          pump fuel ((sendFlits k x.vc x.cls n 0 s1 (packetBodies x.bytes)).returnRoom x.room) k
    else s

/-- Send what waits at a port. -/
def pumpPort (s : State) (k : Nat) : State := pump (s.nport k).txq.length s k

/-- The other port to the same peer (Table 7.1). -/
def twinPort (k : Nat) : Option Nat :=
  match k with
  | 3 => some 7
  | 7 => some 3
  | 11 => some 15
  | 15 => some 11
  | _ => none

/-- The port by which a packet to a destination leaves (R167), the state with the alternation moved on, and whether it is an
alternate. -/
def routeTo (s : State) (dst : Nat) : Option (Nat × State) :=
  let e := slice (s.blobGet 0x5200 1) (4 * dst) 3
  let ports := e.map (·.toNat)
  match ports.findIdx? (fun k => decide (k < 16) && s.nearUp k) with
  | none => none
  | some i =>
    let k := ports.getD i 0xFF
    let s1 := if i = 0 then s else s.bump 0x5200 3
    match twinPort k with
    | none => some (k, s1)
    | some t =>
      if s.nearUp t then
        let lo := min k t
        let hi := max k t
        let a := fget 0 s.altPort lo
        some (if a = 0 then lo else hi, { s1 with altPort := fput 0 s1.altPort lo (1 - a) })
      else some (k, s1)

/-- Put a packet on a port. -/
def nearSendPort (s : State) (k : Nat) (x : NearPkt) : State :=
  (s.nportMod k (fun p => { p with txq := p.txq ++ [x] })).pumpPort k

/-- Send a packet to its destination: to the module itself, by its route, or, with no port up, once one is. -/
def nearSend (s : State) (x : NearPkt) : State :=
  let dst := rdLe x.bytes 0 1
  if dst = s.smn then { s with rx := s.rx ++ [{ port := 0xFF, vc := x.vc, bytes := x.bytes, room := x.room }] }
  else match s.routeTo dst with
    | some (k, s1) => s1.nearSendPort k x
    | none => { s with noRoute := s.noRoute ++ [x] }

end State

/-- A packet header (Table 7.3). -/
def pktHeader (dst src typ flags coll epoch len seq arg0 arg1 : Nat) (side : List Byte) : List Byte :=
  toLe 1 dst ++ toLe 1 src ++ toLe 1 typ ++ toLe 1 flags ++ toLe 2 coll ++ toLe 2 epoch ++ toLe 2 len ++ toLe 2 0 ++
  toLe 4 seq ++ toLe 8 arg0 ++ toLe 8 arg1 ++ padTo 32 side

namespace State

/-- Send a VC0 packet with the next number of its destination (R178). -/
def sendVc0 (s : State) (dst typ coll epoch : Nat) (payload : List Byte) : State :=
  let n := fget 0 s.vc0Tx dst
  let s1 := { s with vc0Tx := fput 0 s.vc0Tx dst ((n + 1) % 2 ^ 32) }
  let b := pktHeader dst s.smn typ 0 coll epoch payload.length n 0 0 [] ++ payload
  s1.nearSend { vc := 0, cls := 0, bytes := b }

/-- Send a CTRL packet (Table 7.17). -/
def sendCtrl (s : State) (dst coll epoch ctype reason origin arg value : Nat) : State :=
  s.sendVc0 dst 0x14 coll epoch
    (toLe 1 ctype ++ toLe 1 reason ++ toLe 1 origin ++ [0] ++ toLe 4 arg ++ toLe 8 value ++ zeros 16)

/-- The members of a group of OD 0x4100.01 (R143), in ascending site module number. -/
def groupMembers (s : State) (g : Nat) : List Nat :=
  let b := slice (s.blobGet 0x4100 1) (32 * g) 32
  (List.range 256).filter (fun m => Nat.testBit ((b.getD (m / 8) 0).toNat) (m % 8))

/-- The group of a spanning object; none for any other object. -/
def spanGroup (s : State) (sid : Nat) : Option Nat :=
  if 237568 ≤ sid && decide (sid ≤ 258047) then
    let g := rdLe (s.blobGet 0x4100 2) (sid - 237568) 1
    if g = 0xFF then none else some g
  else none

/-- An increment on a spanning object goes to every other member of its group (R144). -/
def spanSend (s : State) (sid : Nat) (v : W32) : State :=
  match s.spanGroup sid with
  | none => s
  | some g => ((s.groupMembers g).filter (· ≠ s.smn)).foldl
      (fun a m => a.sendVc0 m 0x10 0 (a.odGet 0x2010 1) (toLe 4 sid ++ toLe 4 v.toNat)) s

/-- SITE_STOP to every other member, once (R253). -/
def siteStopSend (s : State) (reason origin : Nat) : State :=
  if s.inSiteJob && !s.stopSent then
    (s.siteMembers.filter (· ≠ s.smn)).foldl
      (fun a m => a.sendCtrl m 0 (a.odGet 0x2010 1) 1 reason origin 0 (ftNat a.time.ft)) { s with stopSent := true }
  else s

end State

end Sys2Proof.Machine
end

