-- ==== Sys2Proof/Machine/Table.lean ====
section
/-! DEFINITION. The Movement Table (01, 1.5), the status words (Table 1.7) and the OD directory (R271). -/

namespace Sys2Proof.Machine

namespace State

/-! ### Trains -/

/-- Offset of a unit's status word in the configuration window (R21). -/
def statusOff (level index : Nat) : Nat :=
  0x100000 + 8 * (match level with
    | 5 => 0
    | 4 => 1 + index
    | 3 => 3 + index
    | 2 => 11 + index
    | 1 => 107 + index
    | _ => 875 + index)

/-- Children of a train of a level (Table 1.1). -/
def fanOut (level : Nat) : Nat :=
  match level with
  | 1 => 8
  | 2 => 8
  | 3 => 12
  | 4 => 4
  | _ => 2

/-- Is every T1 of a train retired whole (R15)? -/
def trainGone (s : State) (level index : Nat) : Bool :=
  (List.range (trainWidth level)).all (fun k => s.bootRetired.contains (index * trainWidth level + k))

/-- The physical slots that the spare map of a T1 assigns. -/
def slotsOf (s : State) (t1 : Nat) : List Nat := (List.range 8).map (fun k => bitsN (s.t1 t1).spareMap (4 * k) 4)

/-- ENABLE_MASK (Table 1.11). -/
def enableMask (s : State) (level index : Nat) : Nat :=
  if level = 1 then (if s.bootRetired.contains index then 0 else ((s.slotsOf index).map (2 ^ ·)).sum)
  else (((List.range (fanOut level)).filter (fun n => !s.trainGone (level - 1) (index * fanOut level + n))).map (2 ^ ·)).sum

/-- Enabled children. -/
def enabledOf (s : State) (level index : Nat) : Nat :=
  if level = 0 then 0
  else if level = 1 then (if s.bootRetired.contains index then 0 else 8)
  else ((List.range (fanOut level)).filter (fun n => !s.trainGone (level - 1) (index * fanOut level + n))).length

/-- Does a re-admission of a T1's retired slot wait, before or after its scrub (R300)? -/
def readmitWaits (s : State) (t1 : Nat) : Bool :=
  (s.t1 t1).readmit.isSome || s.changes.any (fun c => match c.kind with
    | .swapBack t _ _ => t == t1
    | _ => false)

/-- STATE as a unit's status word shows it. The word of a logical number whose retired pinion is being re-admitted shows 4 until the
swap, whatever the spare does that holds the number (R300). -/
def shownSt (s : State) (level index : Nat) : Nat :=
  if level = 0 then
    let t := s.t1Of index
    if s.pinSt index = 0 && s.readmitWaits t && bitsN (s.t1 t).spareMap (4 * (index % 8)) 4 == (s.t1 t).spareSlot then 4
    else s.pinSt index
  else s.trainSt level index

/-- The status word of a unit (Table 1.7). A fence marks every unit below it, so ISO shows those of the trains above. -/
def statusWord (s : State) (level index : Nat) : Nat :=
  let b (x : Bool) := if x then 1 else 0
  let u := s.unit level index
  let up := if level = 0 then s.ancestors index else trainAncestors level index
  level <<< 60 ||| (s.shownSt level index) <<< 56 ||| (s.enabledOf level index) <<< 48 ||| (index % 65536) <<< 32 ||| (b u.wdog) <<< 31 |||
  (b (u.iso || up.any (fun a => (s.unit a.1 a.2).fenced))) <<< 30 |||
  (b (level == 1 && (s.t1 index).spareState == 1)) <<< 29 ||| u.tag % 65536

/-- The unit of the n-th status word (R21). -/
def statusUnit (n : Nat) : Nat × Nat :=
  if n = 0 then (5, 0)
  else if n < 3 then (4, n - 1)
  else if n < 11 then (3, n - 3)
  else if n < 107 then (2, n - 11)
  else if n < 875 then (1, n - 107)
  else (0, n - 875)

/-- The n-th status word; 0 beyond the array. -/
def statusAt (s : State) (n : Nat) : Nat :=
  if n < 875 + s.pinCount then s.statusWord (statusUnit n).1 (statusUnit n).2 else 0

/-! ### Entries -/

/-- An entry with its header (Table 1.9), padded to 8 bytes. -/
def mvEntry (typ : Nat) (changed : Bool) (body : List Byte) : List Byte :=
  let n := roundUp (8 + body.length) 8
  toLe 2 typ ++ toLe 1 (if changed then 1 else 0) ++ [0] ++ toLe 4 n ++ padTo (n - 8) body

/-- A TRAIN entry (Table 1.11). -/
def mvTrain (s : State) (ch : List (Nat × Nat)) (level index : Nat) : List Byte :=
  let t := s.t1 index
  let gone := if level = 1 then s.bootRetired.contains index else s.trainGone level index
  let ps := s.trainPinions level index
  mvEntry 1 (ch.contains (1, unitKey level index)) (
    toLe 1 level ++ toLe 1 (if level = 1 then 9 else fanOut level) ++ toLe 1 (s.enabledOf level index) ++
    toLe 1 (if gone then 3 else 0) ++ toLe 2 index ++
    toLe 2 (if level = 5 then 0xFFFF else index / fanOut (level + 1)) ++
    toLe 2 (if level = 1 then (if gone then 0xFFFF else s.firstLogical index) else index * fanOut level) ++
    toLe 2 (s.enableMask level index) ++ toLe 4 (if level = 1 then t.spareMap else 0) ++
    toLe 4 (level * 65536 + index) ++ toLe 4 (statusOff level index) ++
    toLe 8 (iaAddr (s.firstLogical (index * trainWidth level))) ++ toLe 8 (ps.length * sramStride) ++
    toLe 1 (if level = 1 then t.spareSlot else 0xFF) ++ toLe 1 (if level = 1 then t.spareState else 0xFF) ++
    toLe 2 (if level = 1 then t.retired else 0) ++ toLe 2 (if level = 1 then t.off else 0) ++ zeros 2)

/-- The TRAIN entries, from T5 down to T1 (R24). -/
def mvTrains (s : State) (ch : List (Nat × Nat)) : List (List Byte) :=
  [5, 4, 3, 2, 1].flatMap (fun l => (List.range (trainCount l)).map (fun i => s.mvTrain ch l i))

/-- A MEMORY entry (Table 1.12). -/
def mvMem (changed : Bool) (region flags units base size stride vdl : Nat) : List Byte :=
  mvEntry 2 changed (toLe 1 region ++ toLe 1 flags ++ toLe 2 units ++ zeros 4 ++ toLe 8 base ++ toLe 8 size ++ toLe 8 stride ++
    toLe 8 vdl)

/-- "Not visible over VDL". -/
def noVdl : Nat := 0xFFFFFFFFFFFFFFFF

/-- The MEMORY entries (Table 1.4, R337). A region of one unit shows STRIDE 0 (DESIGN CHOICE, log 11). -/
def mvMems (s : State) (ch : List (Nat × Nat)) : List (List Byte) :=
  let c (r : Nat) := ch.contains (2, r)
  [mvMem (c 1) 1 3 8 0 hbmSize hbmStride 0x10000000000,
   mvMem (c 2) 2 0 96 barrelBase barrelSize barrelSize noVdl,
   mvMem (c 3) 3 0 s.pinCount sramBase iaSize sramStride noVdl,
   mvMem (c 4) 4 0 s.pinCount (sramBase + iaSize) daSize sramStride noVdl,
   mvMem (c 5) 5 0 1 slowBase (s.odGet 0x3000 2) 0 noVdl,
   mvMem (c 6) 6 0 1 shadowBase 0x1000 0 noVdl,
   mvMem (c 7) 7 0 8 hbmUse 0x100000 hbmStride noVdl]

/-- A SYNC entry (Table 1.13). -/
def mvSync (kind level purpose train trains id ids stride : Nat) : List Byte :=
  mvEntry 3 false (toLe 1 kind ++ toLe 1 level ++ toLe 1 purpose ++ [0] ++ toLe 2 train ++ toLe 2 trains ++ toLe 4 id ++
    toLe 4 ids ++ toLe 4 stride ++ zeros 4)

/-- The runs of a level: first train, trains and IDs per train (R26), the last one first. -/
def syncRuns (s : State) (level : Nat) : List (Nat × Nat × Nat) :=
  (List.range (if level = 0 then s.pinCount else trainCount level)).foldl (fun a i =>
    let n := 32 * (s.trainPinions level i).length
    match a with
    | [] => [(i, 1, n)]
    | (f, c, m) :: r => if m = n && n != 0 then (f, c + 1, m) :: r else (i, 1, n) :: a) []

/-- The SYNC entries (R26, Table 1.14). -/
def mvSyncs (s : State) : List (List Byte) :=
  [0, 1, 2, 3, 4, 5].flatMap (fun l => ((s.syncRuns l).reverse).map (fun r =>
    mvSync 0 l 0 r.1 r.2.1 (32 * (if l = 0 then r.1 else s.firstLogical (r.1 * trainWidth l))) r.2.2 r.2.2)) ++
  [mvSync 1 0 1 0 1 196608 8192 0, mvSync 1 0 2 0 1 204800 32768 0, mvSync 1 0 3 0 1 237568 20480 0,
   mvSync 1 0 4 0 1 258048 4096 0]

/-- SERVICE of a port (Table 1.15, R5): fenced or retired, otherwise disabled by role or in service. -/
def portService (s : State) (cls num : Nat) : Nat :=
  let v := s.portSvc cls num
  if v ≠ 0 then v else if cls = 2 && s.odGet 0x6000 (num + 1) == 4 then 1 else 0

/-- A PORT entry (Table 1.15, R320). -/
def mvPort (s : State) (ch : List (Nat × Nat)) (cls num lanes rate conn group vcs : Nat) : List Byte :=
  mvEntry 4 (ch.contains (4, cls * 256 + num)) (toLe 1 cls ++ toLe 1 num ++ toLe 1 lanes ++ toLe 1 (s.portService cls num) ++
    toLe 4 rate ++ toLe 2 conn ++ toLe 2 group ++ toLe 1 vcs ++ zeros 11)

/-- The PORT entries. -/
def mvPorts (s : State) (ch : List (Nat × Nat)) : List (List Byte) :=
  (List.range 16).map (fun k => s.mvPort ch 1 k 2 224000 2 (if k < 8 then 2 else 3) 8) ++
  (List.range 2).map (fun k => s.mvPort ch 2 k 8 100000 2 (4 + k) 0) ++
  [s.mvPort ch 3 0 24 112000 1 1 0, s.mvPort ch 4 0 1 10 1 7 0]

/-- PEAK of R27. -/
def peakOf (pinions code perCycle : Nat) : Nat :=
  let x := (pinions * perCycle * 188 + 50) / 100
  if code = 8 then (x + 16) / 32 else x

/-- The FORMAT entries: CODE, UNITS, K_MTX, PER_CYCLE, BLOCK and SCALE (Table 1.17). -/
def mvFormats (s : State) : List (List Byte) :=
  [(0, 1, 64, 512, 0, 0), (1, 1, 64, 512, 0, 0), (2, 1, 64, 512, 32, 1), (3, 1, 128, 1024, 32, 1), (4, 1, 64, 512, 0, 0),
   (5, 1, 16, 128, 0, 0), (6, 1, 16, 128, 0, 0), (7, 1, 16, 128, 64, 2), (8, 1, 64, 512, 0, 0), (9, 2, 0, 16, 0, 0),
   (10, 2, 0, 4, 0, 0)].map (fun (c, u, k, p, b, sc) =>
    mvEntry 5 false (toLe 1 c ++ toLe 1 u ++ toLe 2 k ++ toLe 2 p ++ toLe 1 b ++ toLe 1 sc ++ toLe 4 (peakOf s.pinCount c p) ++
      zeros 4))

end State

/-- The entries of the dictionary, in directory order. -/
def odList : List (OdRow × Nat) := odRows.flatMap (fun r => (List.range (r.last + 1 - r.first)).map (fun i => (r, r.first + i)))

/-- The 2-bit fuse codes of map FM-A (Table 12.8). -/
def fuseCode (group : Nat) : Nat :=
  if group = 6 || group == 9 || group == 10 then 1 else if group = 8 then 3 else 0

namespace State

/-- The FUSEMAP entry (Table 1.19). -/
def mvFuseMap (s : State) : List Byte :=
  mvEntry 7 false (padTo 8 (ascii "FM-A") ++ toLe 2 11 ++ zeros 6 ++
    (List.range 11).flatMap (fun i => toLe 2 (i + 1) ++ toLe 1 (fuseCode (i + 1)) ++
      toLe 1 (if s.plat.released.contains (i + 1) then 1 else 0)))

/-- The size of a carve-out. -/
def carveSize (s : State) (c : Nat) : Nat := s.odGet 0x3100 (match c with | 1 => 1 | 2 => 2 | 3 => 3 | _ => 4)

/-- The stack offset of a carve-out's pieces (R112): dump area, staging, log and ring, downward. -/
def carveOff (s : State) (c : Nat) : Nat :=
  let top := 0x12A0400000
  let d := s.carveSize 1 / 8
  let g := s.carveSize 4 / 8
  let l := s.carveSize 3 / 8
  match c with
  | 1 => top - d
  | 4 => top - d - g
  | 3 => top - d - g - l
  | _ => top - d - g - l - s.carveSize 2 / 8

/-- The PARTITION entries (Table 1.20, R28, R112). -/
def mvParts (s : State) (ch : List (Nat × Nat)) : List (List Byte) :=
  [1, 2, 3, 4].flatMap (fun c =>
    let z := s.carveSize c
    let one (piece pieces base size : Nat) := mvEntry 8 (ch.contains (8, c))
      (toLe 1 c ++ toLe 1 piece ++ toLe 1 pieces ++ toLe 1 piece ++ zeros 4 ++ toLe 8 base ++ toLe 8 size)
    if z = 0 then [one 0 1 (s.carveOff 3) 0]
    else (List.range 8).map (fun p => one p 8 (p * hbmStride + s.carveOff c) (z / 8)))

/-- Every entry, END last (R24, Table 1.10). -/
def mvEntries (s : State) (ch : List (Nat × Nat)) : List (List Byte) :=
  s.mvTrains ch ++ s.mvMems ch ++ s.mvSyncs ++ s.mvPorts ch ++ s.mvFormats ++
  [mvEntry 6 false (toLe 2 1 ++ toLe 2 0 ++ toLe 4 odList.length ++ toLe 4 0x300000 ++ toLe 4 (32 + 48 * odList.length)),
   s.mvFuseMap] ++ s.mvParts ch ++ [mvEntry 0xFFFF false []]

/-- The Movement Table (Table 1.8, R22, R23) for the GENERATION of OD 0x1101.01, with the changed entries marked and the FT of
the change. -/
def movementTable (s : State) (ch : List (Nat × Nat)) (ft : Int) : List Byte :=
  let es := s.mvEntries ch
  let body := es.flatten
  let head (crc : Nat) := ascii "MVMT" ++ [1, 0] ++ toLe 2 64 ++ toLe 4 (64 + body.length) ++ toLe 4 crc ++
    toLe 8 (s.odGet 0x1101 1) ++ toLe 4 es.length ++ toLe 4 s.pinCount ++ toLe 4 0x960 ++ toLe 2 0xA1 ++ zeros 2 ++
    toLe 8 (ftNat ft) ++ zeros 16
  head (crc32c (head 0 ++ body)) ++ body

end State

/-! ### The OD directory -/

/-- Does an event of this entry send a NOTIFY (FLAGS bit 2)? -/
def odNotifies (k : Nat) : Bool :=
  [odKey 0x1010 1, odKey 0x1101 1, odKey 0x2010 6, odKey 0x2030 4, odKey 0x2030 6, odKey 0x2040 3, odKey 0x2150 2, odKey 0x3400 2,
   odKey 0x3400 7, odKey 0x4020 6, odKey 0x4420 1, odKey 0x4420 2, odKey 0x5010 9, odKey 0x5400 7, odKey 0x5420 3,
   odKey 0x6010 2, odKey 0x6400 3, odKey 0x7800 3, odKey 0x8010 4, odKey 0x8021 1, odKey 0x8021 2, odKey 0x8021 3, odKey 0x8021 4,
   odKey 0x8100 3, odKey 0x8300 4, odKey 0x9300 2, odKey 0x9400 1, odKey 0xF300 2].contains k

/-- MAX of a directory entry: the greatest value, one beside the range included. -/
def OdRow.greatest (r : OdRow) : Int :=
  match r.also with
  | some v => max r.hi v
  | none => r.hi

/-- A directory entry (Table 11.8). -/
def dirEntry (r : OdRow) (sub : Nat) : List Byte :=
  let k := odKey r.index sub
  let b (x : Bool) (v : Nat) := if x then v else 0
  let text := decide (11 ≤ r.typ)
  let w := if text then 64 else 8 * r.size
  toLe 2 r.index ++ toLe 1 sub ++ toLe 1 r.typ ++ toLe 1 r.acc ++
  toLe 1 (b (odInShadow k) 1 + b (odKeptWarm k) 2 + b (odNotifies k) 4 + b (r.index / 4096 == 10) 8) ++ zeros 2 ++
  toLe 4 r.size ++ zeros 4 ++ toLe 8 (if text then 0 else odDflt r.index sub) ++ toLe 8 (sNat w r.lo) ++ toLe 8 (sNat w r.greatest) ++
  zeros 8

/-- The OD directory (R271). -/
def odDirectory : List Byte :=
  let es := odList.flatMap (fun e => dirEntry e.1 e.2)
  let head (crc : Nat) := ascii "ODIR" ++ toLe 2 1 ++ toLe 2 0 ++ toLe 4 odList.length ++ toLe 2 48 ++ zeros 2 ++ toLe 4 crc ++
    zeros 12
  head (crc32c (head 0 ++ es)) ++ es

end Sys2Proof.Machine
end

