-- ==== Sys2Proof/Machine/Ladder.lean ====
section
/-! DEFINITION. Sync requests, instruction faults, the watchdog ladder, FAULTED, and the pending changes of R157. -/

namespace Sys2Proof.Machine.State

/-! ### Sync objects -/

/-- A sync object. -/
def sync (s : State) (sid : Nat) : SyncObj := fget {} s.syncs sid

/-- Change a sync object. -/
def syncMod (s : State) (sid : Nat) (f : SyncObj → SyncObj) : State := { s with syncs := fmod {} s.syncs sid f }

/-- The first site-die sync ID (Table 1.14): IDs below it lie in the pinions. -/
def siteDieSid : Nat := 196608

/-- Does the object lie behind a closed Bezel (R142)? -/
def syncIsolated (s : State) (sid : Nat) : Bool :=
  decide (sid < siteDieSid) && !(s.inService (sid / 32))

/-- Send a request to a sync object; an increment of a spanning object also goes to the other members (R141, R144). -/
def syncSend (s : State) (sid : Nat) (r : Req) : State :=
  let s' := s.syncMod sid (fun o => { o with onWay := o.onWay ++ [r] })
  match r.op with
  | .add v => s'.spanSend sid v
  | .arrive _ => s'.spanSend sid 1
  | _ => s'

/-- An engine posts ADD 1. -/
def post (s : State) (sid : Nat) : State := s.syncSend sid { src := .engine, op := .add 1 }

/-- A post that may be absent. -/
def postOpt (s : State) : Option Nat → State
  | none => s
  | some sid => s.post sid

/-! ### FAULTED (R263, R302) -/

/-- Every far session ends, so that every later one is new (R210): peers are IDLE, and of the sessions only the incomplete messages are
left, which the next one aborts. -/
def dropSessions (s : State) : State :=
  s.far.peers.foldl (fun a c =>
    let b : State := { a with far := { a.far with peers := fput {} a.far.peers c.1 {
      away := c.2.away, skip := c.2.skip, session := c.2.session, rx := c.2.rx } } }
    if c.2.st = 0 then b else b.notifyVal 0x6010 2 0) { s with far := { s.far with msgs := [] } }

/-- Count the stop of a site job in OD 0x2040.01 (R253). -/
def countStop (s : State) : State := if s.inSiteJob then s.bump 0x2040 1 else s

/-- A fatal error stops the module's site job, where it runs one (R253): the stop is counted and far sessions end. -/
def faultStop (s : State) : State :=
  if decide (stArmed ≤ s.modState) && decide (s.modState ≤ stHeld) && s.inSiteJob then s.countStop.dropSessions else s

/-- Has the dump that is being written passed ERROR_LOG, its first section, at 8 GB/s (R304)? -/
def errLogWritten (s : State) : Bool :=
  s.modState == stDumping && decide (0x1000 + 32 + 32 * s.errLog.length ≤ 8 * (s.time.now - s.plat.dumpAt))

/-- A fatal error: the module enters FAULTED, keeps what Table 12.10 records of the fault, and stops the site job (R253); a
command that waits for the end of a stop is answered STATE (R263).
While it is FAULTED or DUMPING already, the error is only logged, once the dump holds ERROR_LOG not even that (R305). -/
def enterFaulted (s : State) (code detail : Nat) : State :=
  let s1 := if s.errLogWritten then s else s.logErr (if code = 1 then 1 else if code = 2 then 2 else if code = 3 then 3 else if code = 4 || code == 5 then 5 else 8)
    code 0xFF 0 (toLe 8 detail)
  if s.modState = stFaulted || s.modState == stDumping then s1
  else
    ((({ s1.faultStop with siteStopping := false, spent := [], faultInfo := some { code := code, detail := detail, prior := s.modState, ft := s.time.ft }
      }).setModState stFaulted).siteStopSend 1 s.smn).answerWaiting 2

/-- A reader meets an uncorrectable error (R136): the address is recorded, and the error is fatal. -/
def eccFault (s : State) (a : Nat) : State := (s.odSet 0x3300 4 a).enterFaulted 1 a

/-! ### The Movement Table's generation (R30) -/

/-- Publish a new table after `n` changes to the listed entries (TYPE and first body field): GENERATION rises by `n`, and the
window, the dictionary and the shadow window change together. -/
def publish (s : State) (n : Nat) (changed : List (Nat × Nat)) : State :=
  if n = 0 || s.odGet 0x1101 1 == 0 then s
  else
    let s1 := s.odSetShown 0x1101 1 (s.odGet 0x1101 1 + n)
    { s1 with table := s1.movementTable changed s.time.ft }.notify 0x1101 1

/-! ### Bezels -/

/-- Close a unit's Bezel (R295): STATE 1 and the sticky ISO, there and in every unit below. -/
def fenceUnit (s : State) (level index : Nat) : State :=
  s.unitMod level index (fun u => { u with st := 1, iso := true, fenced := true })

/-- A tile made empty without output: its accumulators keep their image (R89). -/
def emptyTile (t : Tile) : Tile := { t with held := false, sat := false, drain := none }

/-- Every tile of a pinion empty without output (R161). -/
def emptyTiles (x : Pinion) : Pinion :=
  { x with tiles := x.tiles.foldl (fun m c => fput {} m c.1 (emptyTile c.2)) [] }

/-- A pinion after a reset of a train that contains it: hands, arrays, queues, pair buffer, pointers and tags as after
BOOT, its tiles empty; its counters stay (R94, R140, R162). -/
def resetPinion (x : Pinion) : Pinion :=
  let y := emptyTiles x
  { tiles := y.tiles, cnt := x.cnt }

/-- Does a request belong to a hand that `f` selects? -/
def reqOf (f : Nat → Nat → Bool) (r : Req) : Bool :=
  match r.src with
  | .hand p h _ _ => f p h
  | _ => false

/-- A request on its way whose hand was reset or restarted: it waits for nothing any more. -/
def orphan (f : Nat → Nat → Bool) (r : Req) : Option Req :=
  if reqOf f r then
    match r.op with
    | .waitGe _ => none
    | .waitEq _ => none
    | .arrive _ => some { src := .engine, op := .arrive false }
    | _ => some r
  else some r

/-- An object of a reset train: the values of Table 6.1, its rotating pointer at 0; waiters of other trains stay (R140). -/
def resetObj (o : SyncObj) : SyncObj := { waiters := o.waiters, onWay := o.onWay }

/-- The waits of the hands that `f` selects end everywhere (R142). -/
def dropWaitsOf (s : State) (f : Nat → Nat → Bool) : State :=
  { s with syncs := s.syncs.foldl (fun m c => fput {} m c.1
      { c.2 with waiters := c.2.waiters.filter (fun r => !reqOf f r), onWay := c.2.onWay.filterMap (orphan f) }) [] }

/-- The waits of the hands of reset pinions end. -/
def dropWaits (s : State) (ps : List Nat) : State := s.dropWaitsOf (fun p _ => ps.contains p)

/-- The wait of a hand that restarts ends. -/
def dropHand (s : State) (p h : Nat) : State := s.dropWaitsOf (fun q k => q == p && k == h)

/-- The objects of some pinions take their reset values. -/
def resetObjs (s : State) (ps : List Nat) : State :=
  { s with syncs := s.syncs.foldl (fun m c => fput {} m c.1
      (if decide (c.1 < siteDieSid) && ps.contains (c.1 / 32) then resetObj c.2 else c.2)) [] }

/-- Reset a train or pinion behind its Bezel (R297, R162, R109): STATE 2 until the reset completes. -/
def resetTrain (s : State) (level index : Nat) : State :=
  let ps := s.trainPinions level index
  let s1 := (s.dropWaits ps).resetObjs ps
  let s2 : State := { s1 with
    pinions := s1.pinions.foldl (fun m c => fput {} m c.1 (if ps.contains c.1 then resetPinion c.2 else c.2)) [],
    barrels := s1.barrels.foldl (fun m c => fput {} m c.1
      (if decide (2 ≤ level) && c.1 / (trainWidth level / 8) == index then { evictions := c.2.evictions } else c.2)) [] }
  s2.unitMod level index (fun u => { u with st := 2 })

/-! ### The watchdog ladder (R161 to R164) -/

/-- Can a stream restart (R162)? -/
def canRestart (s : State) (d : Hand) : Bool :=
  match d.stream with
  | none => true
  | some st => Nat.testBit (fld st.desc 24 8) 0 && d.record.isSome && decide (st.restarts < s.odGet 0x9100 2) && !st.faulted

/-- The hand resumes at its restart record (R161): its registers and settings as recorded, its vector registers 0. DEDUCED (log 17):
a restart begins the stream anew for R40, so no pass of an array precedes it. -/
def restartHand (d : Hand) : Hand :=
  match d.stream, d.record with
  | some st, some r => { d with
      st := .ready, pc := r.pc, sregs := r.sregs, vregs := [], setv := r.setv, seteb := r.seteb, stgBase := r.stgBase,
      stgSize := r.stgSize, stream := some { st with restarts := st.restarts + 1 }, seen0 := false, seen1 := false }
  | _, _ => d

/-- The hands of some pinions that run a stream. -/
def runningHands (s : State) (ps : List Nat) : List (Nat × Nat × Hand) :=
  ps.flatMap (fun p => [0, 1].filterMap (fun h =>
    if (s.hand p h).stream.isSome then some (p, h, s.hand p h) else none))

/-- Add a pending change. -/
def addChange (s : State) (k : ChangeKind) (ready : Bool) : State :=
  { s with changes := s.changes ++ [{ kind := k, ready := ready }] }

/-- Set a bit of a T1's word in the retirement map (R298), which a NOTIFY announces. -/
def mapSet (s : State) (t1 bit : Nat) (on : Bool) : State :=
  let m := s.blobGet 0x9400 1
  let w := rdLe m (2 * t1) 2
  let w' := if on then w ||| 2 ^ bit else w - (w &&& 2 ^ bit)
  (s.blobSet 0x9400 1 (patch m (2 * t1) (toLe 2 w'))).notify 0x9400 1

/-- The retirement map's word of a T1. -/
def mapWord (s : State) (t : Nat) : Nat := rdLe (s.blobGet 0x9400 1) (2 * t) 2

/-- The physical slot of a logical slot. -/
def physSlot (s : State) (t1 lslot : Nat) : Nat := bitsN (s.t1 t1).spareMap (4 * lslot) 4

/-- An escalation reaches a die: its watchdog starts (R163). -/
def escDie (s : State) (d : Nat) : State := if s.dieEsc.contains d then s else { s with dieEsc := d :: s.dieEsc }

/-- An escalation or a silence at a T2: it resets behind its Bezel and clears its directory, and its streams restart at
the next beat if all can; otherwise it escalates to its die (R162). -/
def escT2 (s : State) (t2 : Nat) (hands : List (Nat × Nat × Hand)) : State :=
  if s.trainSt 2 t2 ≠ 0 then s
  else
    let s1 := s.resetTrain 2 t2
    if hands.all (fun x => s.canRestart x.2.2) then s1.addChange (.restart 2 t2 hands) false else s1.escDie (t2 / 48)

/-- Is the spare of a T1 usable: unused, not retired, and promised to no slot? -/
def spareFree (s : State) (t1 : Nat) : Bool :=
  (s.t1 t1).spareState == 0 && !s.changes.any (fun c => match c.kind with
    | .substitute t _ => t == t1
    | _ => false)

/-- An escalation or a silence at a T1 (R162). `failed` is the logical number of the fenced pinion of an escalation: it is marked
in the retirement map, and the spare takes its slot at the next beat, with which RETIRED_MASK shows it (R30), or the whole T1 retires
where no spare is usable (R15). -/
def escT1 (s : State) (t1 : Nat) (failed : Option Nat) : State :=
  if s.trainSt 1 t1 ≠ 0 then s
  else
    let hands := s.runningHands (s.trainPinions 1 t1)
    let hands2 := s.runningHands (s.trainPinions 2 (t1 / 8))
    let s1 := s.resetTrain 1 t1
    let s2 := match failed with
      | none => s1
      | some p =>
        let sa := s1.mapSet t1 (s1.physSlot t1 (p % 8)) true
        if sa.spareFree t1 then
          (sa.unitMod 0 p (fun u => { u with st := 3 })).addChange (.substitute t1 (p % 8)) false
        else
          ((((sa.t1Mod t1 (fun x => { x with whole := true })).mapSet t1 15 true).unitMod 1 t1
            (fun u => { u with st := 3 })).unitMod 0 p (fun u => { u with st := 3 })).enterFaulted 6 (statusOff 1 t1)
    if (s2.t1 t1).whole then s2
    else if hands.all (fun x => s.canRestart x.2.2) then s2.addChange (.restart 1 t1 hands) false
    else s2.escT2 (t1 / 8) hands2

/-- Have a pinion's passes, drains and data moves completed? -/
def pinQuiet (x : Pinion) : Bool :=
  x.arr0.tail.isNone && x.arr0.running.isNone && x.arr0.queued.isNone &&
  x.arr1.tail.isNone && x.arr1.running.isNone && x.arr1.queued.isNone &&
  x.dmq0.isEmpty && x.dmq1.isEmpty && x.tiles.all (fun c => c.2.drain.isNone)

/-- A pinion that is to stop does so once its engines are quiet: it restarts a hand or both (R161), or its Bezel fences it and the
matter escalates to its T1. -/
def tryStop (s : State) (p : Nat) : State :=
  let x := s.pin p
  match x.stopping with
  | none => s
  | some why =>
    if pinQuiet x then
      match why with
      | .fence => ((s.setPin p { x with stopping := none }).fenceUnit 0 p).escT1 (s.t1Of p) (some p)
      | .restart h => ((s.dropHand p h).setPin p ((emptyTiles { x with stopping := none }).setHand h (restartHand (x.hand h)))).bump 0x9110 2
      | .restartBoth => (((s.dropHand p 0).dropHand p 1).setPin p { emptyTiles { x with stopping := none } with
          handA := restartHand x.handA, handB := restartHand x.handB }).bumpBy 0x9110 2 2
    else s

/-- Take an instruction fault (R56): the hand stops before the instruction has any effect; LAST_FAULT, the count and a
NOTIFY record it; the pinion is then fenced and the matter escalates, without restart. A pinion that is out of service already is
not fenced again, and nothing escalates (R164). -/
def takeFault (s : State) (p h pc op code : Nat) : State :=
  let w := p <<< 48 ||| (h % 2) <<< 47 ||| code <<< 32 ||| (pc % 2048) <<< 16 ||| op <<< 8
  let s1 := ((s.odSet 0x2150 1 w).countNotify 0x2150 2).logErr 6 code 0 p (toLe 8 w)
  let d := s1.hand p h
  let s2 := s1.setHand p h { d with stream := d.stream.map (fun x => { x with faulted := true }) }
  if s.inService p then (s2.pinMod p (fun x => { x with stopping := some .fence })).tryStop p else s2

/-! ### Pending changes take effect (R157) -/

/-- Can a re-admitted pinion take its slot back (R300, stage 2)? -/
def swapOk (s : State) (t1 lslot : Nat) : Bool :=
  let first := s.firstLogical t1
  let p := first + lslot
  let x := s.pin p
  (s.trainPinions 1 t1).all (fun q =>
    let y := s.pin q
    y.handA.stream.isNone && y.handB.stream.isNone && y.handA.pend.isNone && y.handB.pend.isNone &&
      y.dmq0.isEmpty && y.dmq1.isEmpty) &&
  x.tiles.all (fun c => !c.2.held) &&
  (List.range 32).all (fun i => let o := s.sync (32 * p + i); o.waiters.isEmpty && o.acq.isEmpty)

/-- What one ready change does: the new state, the table changes it makes and the entries it marks, and whether it stays
pending. DESIGN CHOICE (log 15): the re-admission of a unit that is not retired (R301) alters no field of the table, so it is none of
the table changes of R31 and leaves GENERATION. -/
def applyChange (s : State) (k : ChangeKind) : State × Nat × List (Nat × Nat) × Bool :=
  match k with
  | .substitute t1 lslot =>
    let spare := (s.t1 t1).spareSlot
    let m := (s.t1 t1).spareMap
    let m' := m - (bitsN m (4 * lslot) 4) * 2 ^ (4 * lslot) + spare * 2 ^ (4 * lslot)
    ((s.t1Mod t1 (fun x => { x with spareMap := m', spareState := 1, retired := x.retired ||| 2 ^ bitsN m (4 * lslot) 4 })).unitMod 0 (s.firstLogical t1 + lslot)
      (fun u => { u with st := 0 }), 1, [(1, unitKey 1 t1)], false)
  | .restart _ _ hands =>
    (hands.foldl (fun a c => (a.setHand c.1 c.2.1 (restartHand c.2.2)).bump 0x9110 2) s, 0, [], false)
  | .swapBack t1 slot lslot =>
    if s.swapOk t1 lslot then
      let m := (s.t1 t1).spareMap
      let m' := m - (bitsN m (4 * lslot) 4) * 2 ^ (4 * lslot) + slot * 2 ^ (4 * lslot)
      ((((s.t1Mod t1 (fun x => { x with
          spareMap := m', spareState := 0, retired := x.retired - (x.retired &&& 2 ^ slot) })).mapSet t1 slot false).bump
        0x9400 3), 1, [(1, unitKey 1 t1)], false)
    else (s.bump 0x9400 2, 0, [], true)
  | .openUnit level index => ((s.unitMod level index (fun u => { u with st := 0 })).bump 0x9400 3, 0, [], false)
  | .openPort cls num =>
    let s1 := ((s.portSvcSet cls num 0).mapPort cls num false).bump 0x9400 3
    (if cls = 1 then s1.nportMod num (fun p => { p with st := 1 })
      else if s1.odGet 0x6000 (num + 1) = 4 then s1 else s1.odSet 0x6000 (num + 1) 1, 1, [(4, cls * 256 + num)], false)
  | .retirePort cls num => (s.portSvcSet cls num 3, 1, [(4, cls * 256 + num)], false)

/-- Apply the ready changes, oldest first. -/
def applyReady (s : State) : List Change → Nat → List (Nat × Nat) → State
  | [], n, es => s.publish n es
  | c :: cs, n, es =>
    if c.ready then
      let r := s.applyChange c.kind
      let s' := if r.2.2.2 then { r.1 with changes := r.1.changes ++ [c] } else r.1
      applyReady s' cs (n + r.2.1) (es ++ r.2.2.1)
    else applyReady { s with changes := s.changes ++ [c] } cs n es

/-- The die watchdog stops once every train of the die is back in service (R163); a retired T1 is no train that could be, and a
retired pinion counts until the spare has its slot. -/
def dieResolve (s : State) : State :=
  { s with dieEsc := s.dieEsc.filter (fun d => s.units.any (fun c =>
      let level := c.1 / 65536
      let index := c.1 % 65536
      if level = 0 then s.t1Of index / 384 == d && c.2.st != 0 && (s.unit 1 (s.t1Of index)).st != 3
      else decide (level ≤ 3) && index * trainWidth level / 384 == d && (c.2.st == 1 || c.2.st == 2 || c.2.st == 4))) }

/-- Every ready pending change takes effect, published in one table (R157, R30). -/
def takeChanges (s : State) : State := (applyReady { s with changes := [] } s.changes 0 []).dieResolve

/-- In QUIET and ARMED a change takes effect as soon as it is ready (R157). -/
def settleChanges (s : State) : State :=
  if s.modState = stQuiet || s.modState == stArmed then s.takeChanges else s

/-- Make the changes that a predicate selects ready. -/
def readyChanges (s : State) (f : ChangeKind → Bool) : State :=
  State.settleChanges { s with
    changes := s.changes.map (fun (c : Change) => if f c.kind then { kind := c.kind, ready := true } else c) }

end Sys2Proof.Machine.State
end

