-- ==== Sys2Proof/Machine/Operands.lean ====
section
/-! DEFINITION. Instruction words: which are listed, their reserved fields, operand addresses, sync IDs, and the issue of
one instruction with its faults (02, 2.9 to 2.15). -/

namespace Sys2Proof.Machine

/-- Fault ILLEGAL_OP (Table 2.10). -/
def fIllegal : Nat := 1
/-- Fault ADDR. -/
def fAddr : Nat := 2
/-- Fault TILE_HELD. -/
def fTileHeld : Nat := 3
/-- Fault TILE_EMPTY. -/
def fTileEmpty : Nat := 4
/-- Fault FLIP_BANK. -/
def fFlipBank : Nat := 5
/-- Fault FORMAT. -/
def fFormat : Nat := 6
/-- Fault PC_RANGE. -/
def fPcRange : Nat := 7
/-- Fault DESC. -/
def fDesc : Nat := 8
/-- Fault ISOLATED. -/
def fIsolated : Nat := 9

/-- The mask of bits [hi:lo]. -/
def bitsMask (hi lo : Nat) : Nat := 2 ^ (hi + 1) - 2 ^ lo

/-- Field FMT of a vector word. -/
def vFmt : Nat := bitsMask 55 52
/-- Field VD. -/
def vVd : Nat := bitsMask 51 47
/-- Field VA. -/
def vVa : Nat := bitsMask 46 42
/-- Field VB. -/
def vVb : Nat := bitsMask 41 37
/-- Field VC. -/
def vVc : Nat := bitsMask 36 32
/-- Fields SREG and OFF. -/
def vAddr : Nat := bitsMask 31 20
/-- Field FN. -/
def vFn : Nat := bitsMask 19 16
/-- Field IMM. -/
def vImm : Nat := bitsMask 15 0

/-- The bits below the opcode that an instruction uses; none for an opcode this chapter does not list (R54, Tables 2.12 to
2.26). Every other bit is reserved. -/
def usedBits (op : Nat) : Option Nat :=
  let d := bitsMask 55 52
  let sF := bitsMask 51 48
  let tF := bitsMask 47 44
  let fn := bitsMask 43 40
  let tgt := bitsMask 10 0
  let imm := bitsMask 31 0
  match op with
  | 0x00 => some 0
  | 0x01 => some 0
  | 0x02 => some tgt
  | 0x03 => some (d + tgt)
  | 0x04 => some (sF + tF + fn + tgt)
  | 0x05 => some (bitsMask 38 32 + tgt)
  | 0x08 => some (d + imm)
  | 0x09 => some (d + sF + imm)
  | 0x0A => some (d + sF + tF + fn)
  | 0x0B => some (d + sF + imm)
  | 0x0C => some (sF + tF + imm)
  | 0x10 => some (sF + imm)
  | 0x11 => some (sF + imm)
  | 0x12 => some (sF + imm)
  | 0x13 => some 0
  | 0x14 => some 0
  | 0x15 => some fn
  | 0x20 => some (bitsMask 55 0)
  | 0x21 => some (bitsMask 55 0)
  | 0x22 => some (bitsMask 55 0)
  | 0x23 => some (bitsMask 55 0)
  | 0x24 => some (bitsMask 55 0)
  | 0x25 => some (bitsMask 55 0)
  | 0x26 => some (bitsMask 55 34 + bitsMask 31 16 + tgt)
  | 0x40 => some (bitsMask 55 15)
  | 0x41 => some (bitsMask 55 15)
  | 0x60 => some (vVd + vAddr)
  | 0x61 => some (vVa + vAddr)
  | 0x62 => some (vFmt + vVd + vAddr + bitsMask 3 0)
  | 0x63 => some (vFmt + vVa + vAddr + vImm)
  | 0x64 => some (vFmt + vVd + vVa + vVb)
  | 0x65 => some (vFmt + vVd + vVa + vVb)
  | 0x66 => some (vFmt + vVd + vVa + vVb + vVc)
  | 0x67 => some (vFmt + vVd + vVa + vVb + vVc)
  | 0x68 => some (vFmt + vVd + vVa + vVb)
  | 0x69 => some (vFmt + vVd + vVa + vVb)
  | 0x6A => some (vFmt + vVd + vVa + vVb + vFn)
  | 0x6B => some (vFmt + vVd + vVa + vVb + vVc)
  | 0x6C => some (vFmt + vVd + vVa)
  | 0x6D => some (vFmt + vVd + vVa + vVb + vVc)
  | 0x6E => some (vVd + vVa + bitsMask 16 16)
  | 0x6F => some (vFmt + vVd + vVa + vImm)
  | 0x70 => some (vFmt + vVd + vVa)
  | 0x71 => some (vFmt + vVd + vVa)
  | 0x72 => some (vFmt + vVd + vVa)
  | 0x73 => some (vFmt + vVd + vVa)
  | 0x74 => some (vVd + vVa + vFn)
  | 0x75 => some (vVd + vVa + vVb + vFn + vImm)
  | 0x76 => some (vVd + vVa + vVb + vVc + bitsMask 16 16 + vImm)
  | 0x78 => some (vVd + vVa + bitsMask 7 0)
  | 0x7C => some (vVd + vVa + vVb)
  | 0x7D => some (vVd + vVa + vVb)
  | 0x7E => some (vVd + vVa + vVb + vFn)
  | 0x7F => some (vVd + vVa + vImm)
  | 0x80 => some (bitsMask 55 43 + bitsMask 41 2)
  | 0x81 => some (bitsMask 55 2)
  | 0xA0 => some (bitsMask 55 36 + bitsMask 29 9)
  | 0xA1 => some (bitsMask 55 14)
  | 0xA2 => some (bitsMask 55 14)
  | 0xA3 => some (bitsMask 55 34)
  | _ => none

/-- Does a word have its reserved fields zero? False for an unlisted opcode. -/
def wordOk (w : W64) : Bool :=
  match usedBits (fld w 56 8) with
  | none => false
  | some m => (fld w 0 56) &&& m == fld w 0 56

/-- The row of the opcode table a listed word belongs to: its opcode, and for BDIR (Table 2.23) also its DOP, of which 11 is
reserved. -/
def wordRow (w : W64) : Option Nat :=
  let op := fld w 56 8
  if op = 0xA3 then (if fld w 48 2 = 3 then none else some (0xA300 + fld w 48 2))
  else (usedBits op).map (fun _ => op)

/-- What the issue of an instruction leads to. -/
inductive IssueRes where
  /-- It completes and the next word follows. -/
  | done (s : State)
  /-- It completes with a taken branch. -/
  | jump (s : State) (target : Nat)
  /-- It waits at issue (interlock, full pass queue, WAITQ, END) and will issue again. -/
  | stay (s : State) (st : HandSt)
  /-- It has issued a sync-class wait. -/
  | wait (s : State)
  /-- It has ended the stream. -/
  | ended (s : State)
  /-- A closed Bezel has answered it ISOLATED, which is all its effect (Table 12.9). -/
  | isolated (s : State)
  /-- It raises a fault before it has any effect (R56). -/
  | fault (code : Nat)
  deriving DecidableEq, Repr

namespace State

/-- The hand that holds issue: the current hand, or the other one where the current hand runs no stream (R51). -/
def holder (x : Pinion) : Nat := if (x.hand x.cur).stream.isSome then x.cur else 1 - x.cur

/-- May a hand issue at this instant: the module RUNNING, the pinion in service, not held and not stopping, no
QUIESCE that has stopped the pinions (R266), and the hand holding issue with a running stream and not in a sync-class wait
(R51, R156, R262)? DEDUCED (log 62): while a pinion that is to be fenced or restarted lets its passes, drains and data moves complete
(R56, R161), its other hand issues nothing either. -/
def canIssue (s : State) (p h : Nat) : Bool :=
  let x := s.pin p
  s.modState == stRunning && !(s.siteStopping && !s.inSiteJob) && s.inService p && !s.pinHeld p && x.stopping.isNone &&
    decide (h < 2) &&
    holder x == h && (x.hand h).isReady && decide ((x.hand h).pc < 2048)

/-- The word at a hand's program counter. -/
def fetchWord (s : State) (p pc : Nat) : W64 :=
  BitVec.ofNat 64 (leNat ((List.range 8).map (fun i => s.memByte (iaAddr p + 8 * pc + i))))

/-- A hand ready at a program counter; past word 2,047 it takes PC_RANGE before any further fetch (R56). -/
def resumeAt (s : State) (p h pc : Nat) : State :=
  let s' := s.setHand p h { s.hand p h with pc := pc, st := .ready }
  if pc < 2048 then s' else s'.takeFault p h 2047 0 fPcRange

/-- Carry out what an issue leads to. -/
def issueEnd (s : State) (p h pc op : Nat) (r : IssueRes) : State :=
  match r with
  | .done s' => s'.resumeAt p h (pc + 1)
  | .jump s' t => s'.setHand p h { s'.hand p h with pc := t, st := .ready }
  | .stay s' st => s'.setHand p h { s'.hand p h with st := st }
  | .wait s' => s'.setHand p h { s'.hand p h with pc := pc + 1, st := .syncWait }
  | .ended s' => s'
  | .isolated s' => s'.takeFault p h pc op fIsolated
  | .fault c => s.takeFault p h pc op c

/-- Issue the instruction at a hand's program counter, if it is of table row `row`: an unlisted word or a non-zero
reserved field raises ILLEGAL_OP (R54), otherwise `body` says what the instruction does. A hand that cannot issue, or a
word of another row, leaves the state as it is. -/
def issueAs (s : State) (p h row : Nat) (body : State → Hand → W64 → IssueRes) : State :=
  if s.canIssue p h then
    let pc := (s.hand p h).pc
    let w := s.fetchWord p pc
    let op := fld w 56 8
    let s1 := s.pinMod p (fun x => { x with cur := h })
    match wordRow w with
    | none => s1.takeFault p h pc op fIllegal
    | some r =>
      if r = row then s1.issueEnd p h pc op (if wordOk w then body s1 (s1.hand p h) w else .fault fIllegal)
      else s
  else s

/-- The sync ID that an SID and MODE field name for a hand (Table 2.14), or the fault they raise. -/
def sidOf (s : State) (p : Nat) (d : Hand) (sid mode : Nat) : Except Nat Nat :=
  match mode with
  | 0 => .ok sid
  | 1 => if 32 ≤ sid then .error fAddr else .ok (p * 32 + sid)
  | 2 =>
    let port := (d.stream.map (·.port)).getD 0
    let ps := s.trainPinions (port / 65536) (port % 65536)
    if ps.length * 32 ≤ sid then .error fAddr else .ok (ps.headD 0 * 32 + sid)
  | _ => .error fIllegal

end State

/-- A scalar field plus a scaled offset, modulo 2^32 (R32, R55). -/
def regOff (d : Hand) (r off scale : Nat) : Nat := ((d.sreg r).toNat + off * scale) % 2 ^ 32

/-- A scalar register plus the immediate, modulo 2^32. -/
def regImm (d : Hand) (w : W64) : Nat := ((d.sreg (fld w 48 4)).toNat + fld w 0 32) % 2 ^ 32

/-- The rotating-priority rule (R145): the first asking requester at or after the pointer, counting upward modulo n. -/
def grant (asking : List Nat) (ptr n : Nat) : Option Nat :=
  asking.foldl (fun best k => match best with
    | none => some k
    | some b => if (k + n - ptr) % n < (b + n - ptr) % n then some k else some b) none

/-- Serial comparison `a ≥ v` of R137. -/
def serialGe (a v : W32) : Bool := decide ((a - v).toNat < 2 ^ 31)

end Sys2Proof.Machine
end

