-- ==== Sys2Proof/Machine/Escapement.lean ====
section
/-! DEFINITION. The beat table and the Escapement (06, 6.7): the order of beats, late, held and fenced beats, pending
changes, posts and re-arming. -/

namespace Sys2Proof.Machine

/-- Read the fields of a beat entry. -/
def beatOf (b : List Byte) : Beat :=
  { ft := sInt 64 (rdLe b 0 8), action := rdLe b 8 1, flags := rdLe b 9 1, tkind := rdLe b 0xA 1, rsv := rdLe b 0xB 1,
    target := rdLe b 0xC 4, sid := rdLe b 0x10 4, arg := rdLe b 0x14 4, period := rdLe b 0x18 8 }

namespace Beat

/-- Is the entry active? -/
def valid (e : Beat) : Bool := Nat.testBit e.flags 0

/-- Does the port (CLASS << 8 | NUMBER) exist (Table 1.15)? -/
def portOk (t : Nat) : Bool :=
  (t / 256 == 1 && decide (t % 256 < 16)) || (t / 256 == 2 && decide (t % 256 < 2)) || t == 0x300 || t == 0x400

/-- Does TARGET name what TKIND says? -/
def targetOk (e : Beat) : Bool :=
  match e.tkind with
  | 0 => e.target == 0
  | 1 => decide (1 ≤ e.target / 65536) && decide (e.target / 65536 ≤ 5) &&
      decide (e.target % 65536 < State.trainCount (e.target / 65536))
  | 2 => portOk e.target
  | _ => false

/-- Is a VALID entry invalid (6.7)? -/
def bad (e : Beat) : Bool :=
  decide (8 < e.action) || decide (8 ≤ e.flags) || e.rsv != 0 || decide (2 ^ 18 ≤ e.sid) || !e.targetOk ||
  (decide (1 ≤ e.action) && decide (e.action ≤ 6) && e.tkind != 0) ||
  (decide (1 ≤ e.period) && decide (e.period ≤ 999999)) || decide (2 ^ 62 < e.period) || decide (e.ft = ftUnset) ||
  ((e.action == 0 || e.action == 5 || e.action == 7 || e.action == 8) && (e.arg != 0 || Nat.testBit e.flags 2))

end Beat

namespace State

/-- Entry i of the beat table. -/
def beat (s : State) (i : Nat) : Beat := fget {} s.beats i

/-- Replace an entry. -/
def setBeat (s : State) (i : Nat) (e : Beat) : State := { s with beats := fput {} s.beats i e }

/-- Is an entry waiting for its FT: valid, and not executed or skipped since it was written? -/
def beatLive (e : Beat) : Bool := e.valid && !e.done

/-- The live entry that executes next (R154): the least FT, and the lowest index among equals. -/
def nextBeat (s : State) : Option Nat :=
  ((s.beats.filter (fun c => beatLive c.2)).foldl (fun best c => match best with
    | none => some c
    | some j => if c.2.ft < j.2.ft then some c else some j) none).map (·.1)

/-- The next entry, if FT has reached it. -/
def dueBeat (s : State) : Option Nat :=
  match s.nextBeat with
  | none => none
  | some i => if (s.beat i).ft ≤ s.time.ft then some i else none

/-- Re-arm an entry after `n` executions or skips (R154). -/
def rearm (s : State) (i n : Nat) : State :=
  let e := s.beat i
  if e.period = 0 then s.setBeat i { e with done := true }
  else s.setBeat i { e with
    ft := sInt 64 (ftNat (e.ft + n * e.period)),
    arg := if Nat.testBit e.flags 2 then (e.arg + n) % 2 ^ 32 else e.arg }

/-- Is the target of a beat behind a closed Bezel (R16)? -/
def beatFenced (s : State) (e : Beat) : Bool :=
  match e.tkind with
  | 1 => s.trainSt (e.target / 65536) (e.target % 65536) != 0
  | 2 => s.portSvc (e.target / 256) (e.target % 256) != 0
  | _ => false

/-- A late entry is skipped (R155): as often as it lies more than LATE_LIMIT in the past. -/
def skipLate (s : State) (i : Nat) : State :=
  let e := s.beat i
  let ago := s.time.ft - (s.odGet 0x4302 1 : Int) - e.ft
  if beatLive e && decide (0 < ago) then
    let n := if e.period = 0 then 1 else ceilDiv ago.toNat e.period
    ((s.rearm i n).bumpBy 0x4420 2 n).notify 0x4420 2
  else s

/-- The module enters RUNNING (R155, R268): the count of resets ends, and every late entry is skipped. -/
def enterRunning (s : State) : State :=
  (fkeys s.beats).foldl skipLate ((s.odSet 0x1010 6 0).setModState stRunning)

/-- The beat's action takes place: pending changes first (R157), then the action, the post and the records. The action's flag
is false where the beat is ignored and posts nothing (R249). -/
def beatRuns (s : State) (i : Nat) (e : Beat) (act : State → Beat → State × Bool) : State :=
  let late := (s.time.ft - e.ft).toNat
  let s1 := ((s.takeChanges).rearm i 1)
  let s2 := (((s1.odSetShown 0x4400 1 (ftNat e.ft)).odSetShown 0x4400 2 i).bump 0x4400 3).odSet 0x4400 4
    (max (s1.odGet 0x4400 4) (min late 0xFFFFFFFF))
  let r := act s2 e
  if Nat.testBit e.flags 1 && r.2 then r.1.post e.sid else r.1

/-- The Escapement comes to the next entry (R154 to R157), if it is due and has one of the actions `a`: it is late, skipped in HELD,
skipped on a fenced target, or executed. -/
def runBeat (s : State) (a : Nat) (act : State → Beat → State × Bool) : State :=
  if s.modState = stRunning || s.modState == stHeld then
    match s.dueBeat with
    | none => s
    | some i =>
      let e := s.beat i
      if e.action ≠ a then s
      else if (s.odGet 0x4302 1 : Int) < s.time.ft - e.ft then s.skipLate i
      else if s.modState = stHeld && a != 0 && a != 7 && a != 8 then (s.rearm i 1).bump 0x4420 3
      else if s.beatFenced e then ((s.rearm i 1).bump 0x4420 1).notify 0x4420 1
      else s.beatRuns i e act
  else s

/-- Hold or release the unit a beat names (R156); a near port that is released starts the packets that wait for it. -/
def holdTarget (s : State) (e : Beat) (on : Bool) : State :=
  match e.tkind with
  | 0 =>
    if on then (if s.modState = stRunning then s.setModState stHeld else s)
    else if s.modState = stHeld then s.enterRunning else s
  | 1 => s.unitMod (e.target / 65536) (e.target % 65536) (fun u => { u with held := on })
  | _ =>
    let s1 : State := { s with
      units := fmod {} s.units (portKey (e.target / 256) (e.target % 256)) (fun u => { u with held := on }) }
    if !on && e.target / 256 == 1 then s1.pumpPort (e.target % 256) else s1

end State

/-- GAP: nothing apart from the post and the pending changes. -/
def execGapBeat (s : State) : Host.Outcome State Fault Refusal := .next (s.runBeat 0 (fun s _ => (s, true)))

/-- HOLD (R156): the target issues nothing and starts nothing from here on, so its post follows at once. -/
def execHoldBeat (s : State) : Host.Outcome State Fault Refusal := .next (s.runBeat 7 (fun s e => (s.holdTarget e true, true)))

/-- RELEASE (R156). -/
def execReleaseBeat (s : State) : Host.Outcome State Fault Refusal := .next (s.runBeat 8 (fun s e => (s.holdTarget e false, true)))

/-- R158: may a single entry be replaced by these bytes? -/
def beatWriteOk (s : State) (i : Nat) (b : List Byte) : Bool :=
  let old := s.beat i
  let new := beatOf b
  let ft := s.time.ft
  let lead : Int := s.odGet 0x4301 3
  !(new.valid && new.bad) && !(old.valid && decide (ft ≤ old.ft) && decide (old.ft < ft + lead)) &&
  !(new.valid && decide (new.ft < ft + lead))

/-- Write a single entry; it has not executed since. -/
def writeBeat (s : State) (i : Nat) (b : List Byte) : State := s.setBeat i (beatOf b)

/-- R158: may the whole table be replaced? -/
def tableWriteOk (b : List Byte) : Bool :=
  (List.range 1024).all (fun i => let e := beatOf (slice b (32 * i) 32); !(e.valid && e.bad))

/-- Write the whole table. -/
def writeTable (s : State) (b : List Byte) : State :=
  (List.range 1024).foldl (fun a i => a.setBeat i (beatOf (slice b (32 * i) 32))) { s with beats := [] }

/-- The 32 bytes of an entry. -/
def beatBytes (e : Beat) : List Byte :=
  toLe 8 (ftNat e.ft) ++ toLe 1 e.action ++ toLe 1 e.flags ++ toLe 1 e.tkind ++ toLe 1 e.rsv ++ toLe 4 e.target ++
  toLe 4 e.sid ++ toLe 4 e.arg ++ toLe 8 e.period

/-- The whole table as OD 0x4300.01 shows it. -/
def tableBytes (s : State) : List Byte := (List.range 1024).flatMap (fun i => beatBytes (s.beat i))

end Sys2Proof.Machine
end

