-- ==== Sys2Proof/Machine/JobStop.lean ====
section
/-! DEFINITION. The stop of a site job (R253) and the entry into QUIET. -/

namespace Sys2Proof.Machine.State

/-- Do the queues process entries (R118, R179, R221)? -/
def queuesOn (s : State) : Bool := decide (stArmed ≤ s.modState) && decide (s.modState ≤ stHeld)

/-- May a queue start a new entry: processing, and no stop under way (R253)? -/
def queuesStart (s : State) : Bool := s.queuesOn && !s.siteStopping

/-- Has a collective queue an entry that has started and not finished? -/
def collBusy (s : State) : Bool := s.coll.queues.any (fun c => c.2.run.any (fun e => !e.finished))

/-- The module enters QUIET: what is still started is abandoned, ready changes take effect (R157, R253, R266), and the stop
of a site job is counted; the command that asked for the stop is answered (R264). -/
def enterQuiet (s : State) : State :=
  let c := s.coll
  let qs := c.queues.map (fun q => (q.1, { q.2 with run := q.2.run.filter (·.finished) }))
  (State.settleChanges ({ s.countStop with
    siteStopping := false, coll := { c with queues := qs, outs := [], ins := [] }, qWait := [] }.setModState stQuiet)).answerWaiting 0

/-- A stop under way ends once no started entry is left. -/
def stopSettle (s : State) : State := if s.siteStopping && !s.collBusy then s.enterQuiet else s

/-- The module stops its site job (R253): SITE_STOP to every member, no new entry, the started ones drain, then QUIET; far
sessions end. -/
def stopJob (s : State) (reason origin : Nat) : State :=
  if s.queuesOn && !s.siteStopping && s.inSiteJob then
    stopSettle (State.dropSessions ({ s with siteStopping := true }.siteStopSend reason origin))
  else s

end Sys2Proof.Machine.State
end

