-- ==== Sys2Proof/Machine/NearLink.lean ====
section
/-! DEFINITION. The receiving side of the near links: flits (R168, R171), packets (R170, R176, R178), training, retraining and
link down (R166, R172), and the packets that act without the collective engine. -/

namespace Sys2Proof.Machine

/-- The VC of a packet type (Table 7.4); CONTRIB to IMAGE and PUT have two. -/
def typeOnVc (typ vc : Nat) : Bool :=
  match typ with
  | 0x01 => vc == 1 || vc == 2
  | 0x02 => vc == 1 || vc == 2
  | 0x03 => vc == 1 || vc == 2
  | 0x04 => vc == 2 || vc == 3
  | 0x05 => vc == 4
  | 0x06 => vc == 4
  | 0x07 => vc == 5
  | 0x08 => vc == 6
  | 0x09 => vc == 7
  | _ => vc == 0 && decide (0x10 ≤ typ) && decide (typ ≤ 0x14)

namespace RxPkt

/-- SRC of a packet. -/
def src (x : RxPkt) : Nat := rdLe x.bytes 1 1
/-- TYPE of a packet. -/
def typ (x : RxPkt) : Nat := rdLe x.bytes 2 1
/-- FLAGS.LAST of a packet. -/
def isLast (x : RxPkt) : Bool := Nat.testBit (rdLe x.bytes 3 1) 0
/-- COLL of a packet. -/
def coll (x : RxPkt) : Nat := rdLe x.bytes 4 2
/-- EPOCH of a packet. -/
def epoch (x : RxPkt) : Nat := rdLe x.bytes 6 2
/-- SEQ of a packet. -/
def seq (x : RxPkt) : Nat := rdLe x.bytes 0xC 4
/-- ARG0 of a packet. -/
def arg0 (x : RxPkt) : Nat := rdLe x.bytes 0x10 8
/-- ARG1 of a packet. -/
def arg1 (x : RxPkt) : Nat := rdLe x.bytes 0x18 8
/-- The shard rank, expert or pass in ARG1. -/
def rank (x : RxPkt) : Nat := bitsN x.arg1 32 16
/-- SIDE of a packet. -/
def side (x : RxPkt) : List Byte := slice x.bytes 0x20 32
/-- The payload. -/
def body (x : RxPkt) : List Byte := x.bytes.drop 64
/-- Is it a VC0 packet with a sequence number (R178)? -/
def ordered (x : RxPkt) : Bool := x.vc == 0 && x.typ != 0x13

end RxPkt

namespace State

/-- A packet for this module: a VC0 packet that was already applied, or already waits, is discarded (R178). -/
def deliverPkt (s : State) (x : RxPkt) : State :=
  let e := fget 0 s.vc0Rx x.src
  let old := !(serialGe (BitVec.ofNat 32 x.seq) (BitVec.ofNat 32 e))
  let dup := s.rx.any (fun y => y.ordered && y.src == x.src && y.seq == x.seq)
  if x.ordered && (old || dup) then s.returnRoom x.room else { s with rx := s.rx ++ [x] }

/-- Take the first packet of a type from a source that may be consumed: on VC0 the next number of the source (R178). Its room is free
again. -/
def takeRx (s : State) (src typ : Nat) : Option (RxPkt × State) :=
  let ok (x : RxPkt) : Bool := x.src == src && x.typ == typ && (!x.ordered || x.seq == fget 0 s.vc0Rx src)
  match s.rx.find? ok with
  | none => none
  | some x =>
    let s1 := State.returnRoom { s with rx := s.rx.eraseP ok } x.room
    some (x, if x.ordered then { s1 with vc0Rx := fmod 0 s1.vc0Rx src (fun n => (n + 1) % 2 ^ 32) } else s1)

/-- A whole packet has arrived on a VC of a port with a hop class (R170, R176); it keeps its room until it is consumed or sent on. -/
def arrive (s : State) (k vc cls : Nat) (raw : List Byte) (room : Room) : State :=
  let len := rdLe raw 8 2
  let b := slice raw 0 (64 + len)
  let x : RxPkt := { port := k, vc := vc, bytes := b, room := some room }
  if 4096 < len || leNat (slice raw (64 + len) 8) != crc64 b then (s.nportCount k 7).returnRoom x.room
  else if !typeOnVc x.typ vc then (s.bump 0x5200 2).returnRoom x.room
  else if rdLe b 0 1 = s.smn then s.deliverPkt x
  else if 2 ≤ cls || x.typ = 0x13 then (s.bump 0x5200 2).returnRoom x.room
  else s.nearSend { vc := vc, cls := cls + 1, bytes := b, room := x.room }

/-- The room that an arrived packet takes (R174): the pool is the one its sender took credits of. -/
def roomFor (s : State) (k vc cls n : Nat) : Room :=
  { port := k, vc := vc, pool := (s.poolFor (s.nport k).held vc cls n).getD cls, flits := n }

/-- Take room in the ingress buffer. -/
def takeRoom (s : State) (r : Room) : State :=
  s.nportMod r.port (fun p => { p with held := fmod 0 p.held (4 * r.vc + r.pool) (fun u => u + r.flits) })

/-- The header of a received flit: acknowledgement, replay request and credits; then what now can be sent is sent. -/
def flitAcks (s : State) (k h : Nat) : State :=
  let aseq := bitsN h 40 12
  let nak := bitN h 39
  let vc := bitsN h 29 3
  let pool := bitsN h 27 2
  let n := bitsN h 21 6
  let p := s.nport k
  let acked := p.replay.findIdx? (fun f => f.fseq == aseq)
  let rest := match acked with
    | some i => p.replay.drop (i + 1)
    | none => p.replay
  let s1 := s.nportMod k (fun p => { p with
    replay := rest, used := fmod 0 p.used (4 * vc + pool) (fun u => u - n) })
  let s2 := if nak then rest.foldl (fun a f => a.wireFlit k f) s1 else s1
  s2.pumpPort k

/-- A flit accepted in order: its packet bytes, and the packet once its tail is in. -/
def acceptFlit (s : State) (k h : Nat) (body : List Byte) : State :=
  let vc := bitsN h 36 3
  let cls := bitsN h 32 2
  let s1 := s.nportMod k (fun p => { p with
    rxSeq := (p.rxSeq + 1) % 4096,
    asm := fmod [] p.asm vc (fun a => if bitN h 35 then body else a ++ body) })
  if bitN h 34 then
    let raw := fget [] (s1.nport k).asm vc
    let s2 := s1.nportMod k (fun p => { p with asm := fput [] p.asm vc [] })
    let r := s2.roomFor k vc cls (raw.length / 248)
    (s2.takeRoom r).arrive k vc cls raw r
  else s1

/-- Ask for a replay (R171). -/
def askReplay (s : State) (k : Nat) : State :=
  (((s.nportMod k (fun p => { p with resync := true })).nportCount k 6)).wireIdle k true

end State

/-- FLIT (R168, R171): a flit of 256 bytes arrives at a port. `fec` tells what its codewords bring to light: 0 nothing, 1 a corrected
codeword, 2 a codeword that is not correctable, 3 that it lies in such a codeword that an earlier flit brought to light. -/
def execFlit (port fec : Nat) (bytes : List Byte) (s0 : State) : Host.Outcome State Fault Refusal :=
  if s0.nearUp port && decide (port < 16) then
    let s := if fec = 1 then s0.nportCount port 4 else s0
    let h := rdLe bytes 0 8
    let body := slice bytes 8 248
    let p := s.nport port
    let crcOk := h % 65536 == crc16 (slice bytes 2 6 ++ body)
    if fec = 2 then .next ((s.nportCount port 5).askReplay port)
    else if 3 ≤ fec then .next s
    else if !crcOk then .next (s.askReplay port)
    else if bitN h 20 then .next (s.flitAcks port h)
    else
      let f := bitsN h 52 12
      if f = p.rxSeq then
        let s1 := (s.nportMod port (fun p => { p with resync := false })).acceptFlit port h body
        .next ((s1.flitAcks port h).wireIdle port false)
      else if p.resync then .next s
      else if (p.rxSeq + 4096 - f) % 4096 ≤ 2048 then .next (s.flitAcks port h)
      else .next (s.askReplay port)
  else .next s0

/-! ### Training, retraining and link down -/

namespace State

/-- The map of ports in service, OD 0x5000.01. -/
def showPorts (s : State) : State :=
  s.odSet 0x5000 1 (((List.range 16).filter s.nearUp).map (fun k => 2 ^ k)).sum

/-- The VC0 packet in a flit of the replay buffer. -/
def flitPkt (f : RFlit) : NearPkt :=
  { vc := 0, cls := f.cls, bytes := f.body.take (64 + rdLe f.body 8 2) }

/-- No packet holds room at a port any more: it has left service. -/
def dropRooms (s : State) (k : Nat) : State :=
  let clear (r : Option Room) : Option Room := if r.any (fun r => r.port == k) then none else r
  let pkts (l : List NearPkt) : List NearPkt := l.map (fun x => { x with room := clear x.room })
  { s with rx := s.rx.map (fun x => { x with room := clear x.room }), noRoute := pkts s.noRoute,
           near := (fkeys s.near).foldl (fun m j => fmod {} m j (fun p => { p with txq := pkts p.txq })) s.near }

/-- The traffic of a port that leaves service (R172): VC0 packets in the replay buffer and packets that wait take other
routes; other packets in the buffer are discarded. -/
def reroute (s : State) (k : Nat) : State :=
  let p := (s.dropRooms k).nport k
  let s1 := (s.dropRooms k).nportMod k (fun p => { p with replay := [], txq := [], used := [], held := [], owed := [], asm := [], resync := false })
  let s2 := ((p.replay.filter (fun f => f.vc == 0)).map flitPkt ++ p.txq).foldl nearSend s1
  s2.showPorts

/-- Is a port down: neither up nor retraining, or out of service? -/
def nearDown (s : State) (k : Nat) : Bool := !((s.nport k).st == 2 || (s.nport k).st == 3) || s.portSvc 1 k != 0

/-- Have all near-link ports toward a member of the site job gone down (R253)? -/
def memberLost (s : State) (k : Nat) : Bool :=
  let m := (wiredPeer s.smn k).1
  s.siteMembers.contains m && m != s.smn && (List.range 16).all (fun j => (wiredPeer s.smn j).1 != m || s.nearDown j)

/-- The site job stops if the member behind a port that has gone down is lost (R253). -/
def stopIfLost (s : State) (k : Nat) : State := if s.memberLost k then s.stopJob 2 s.smn else s

/-- A port goes down (R172): counted, announced, its traffic re-routed; the site job stops if a member is lost. -/
def linkDown (s : State) (k : Nat) : State :=
  let s0 := (s.nportMod k (fun p => { p with st := 0, retrained := false })).nportCount k 9
  let s1 := s0.notifyVal 0x5010 9 (fget 0 (s0.nport k).cnt 9)
  (s1.reroute k).stopIfLost k

/-- No near-link port is up under a reserved site module number (R165). -/
def reservedDown (s : State) : State :=
  if s.smn < 64 then s
  else (List.range 16).foldl (fun a k =>
    let p := a.nport k
    if p.st = 2 || p.st == 3 then a.linkDown k else if p.st = 1 || p.st == 5 then a.nportMod k (fun p => { p with st := 0 }) else a) s

/-- A port comes into service: packets that waited for a route are sent again. -/
def linkUp (s : State) (k : Nat) : State :=
  let l := s.noRoute
  (l.foldl nearSend { s with noRoute := [] }.showPorts).pumpPort k

end State

/-- PORT_TRAINED (R166, R172): training completes; after a retrain, replay resumes from the last acknowledgement. -/
def execPortTrained (port peerModule peerPort : Nat) (asym : Int) (s : State) : Host.Outcome State Fault Refusal :=
  let p := s.nport port
  if decide (port < 16) && p.st != 2 && p.st != 4 && decide (s.smn < 64) && decide (stBoot < s.modState) then
    let peer := (peerModule % 256) * 256 + peerPort % 256
    let s1 := s.nportMod port (fun p => { p with peer := peer, asym := asym })
    if wiredPeer s.smn port ≠ (peerModule, peerPort) then
      let s2 := (s1.nportMod port (fun p => { p with st := 5 })).nportCount port 9
      .next ((s2.notifyVal 0x5010 9 (fget 0 (s2.nport port).cnt 9)).reroute port |>.stopIfLost port)
    else if p.st = 3 then
      let s2 := s1.nportMod port (fun p => { p with st := 2, retrained := true })
      .next ((p.replay.foldl (fun a f => a.wireFlit port f) s2).linkUp port)
    else
      .next ((s1.nportMod port (fun p => { p with st := 2, retrained := false, txSeq := 0, rxSeq := 0 })).linkUp port)
  else .next s

/-- TRAINING_TIMEOUT (R166, R172): a port that trains stays down, one that retrains goes down. -/
def execTrainingTimeout (port : Nat) (s : State) : Host.Outcome State Fault Refusal :=
  let p := s.nport port
  if decide (port < 16) && p.st == 3 then .next (s.linkDown port)
  else if decide (port < 16) && p.st == 1 then .next (s.nportMod port (fun p => { p with st := 0 }))
  else .next s

/-- REPLAY_LIMIT (R172): the link retrains; a second time within DOWN_WINDOW (`again`) the port goes down. -/
def execReplayLimit (port : Nat) (again : Bool) (s : State) : Host.Outcome State Fault Refusal :=
  let p := s.nport port
  if decide (port < 16) && s.nearUp port then
    let s1 := s.bump 0x5100 3
    if again && p.retrained then .next (s1.linkDown port)
    else .next (((s1.nportMod port (fun p => { p with st := 3 })).nportCount port 8).showPorts)
  else .next s

/-! ### Packets -/

/-- The pairs of a SYNC_INC payload. -/
def incPairs : Nat → List Byte → List (Nat × Nat)
  | 0, _ => []
  | n + 1, b => (rdLe b 0 4, rdLe b 4 4) :: incPairs n (b.drop 8)

/-- SYNC_INC (R144): each increment is a combining request at the local copy, and those of one module are applied in their order. -/
def execSyncInc (src : Nat) (s : State) : Host.Outcome State Fault Refusal :=
  match s.takeRx src 0x10 with
  | none => .next s
  | some (x, s1) =>
    .next ((incPairs (min 22 (x.body.length / 8)) x.body).foldl (fun a q =>
      a.syncMod (q.1 % 2 ^ 18) (fun o => { o with onWay := o.onWay ++ [{ src := .remote src, op := .add (BitVec.ofNat 32 q.2) }] })) s1)

/-- Is a CTRL payload well formed (R182)? -/
def ctrlOk (x : RxPkt) : Bool :=
  let t := rdLe x.body 0 1
  let r := rdLe x.body 1 1
  x.body.length == 32 && decide (1 ≤ t) && decide (t ≤ 5) &&
  (match t with
   | 1 => decide (1 ≤ r) && decide (r ≤ 4)
   | 3 => decide (1 ≤ r) && decide (r ≤ 2)
   | _ => r == 0)

/-- Take a CTRL packet of a type; an ill-formed one is discarded and counted, whichever type it was to be. -/
def takeCtrl (s : State) (src ctype : Nat) : Option (RxPkt × State) × State :=
  match s.takeRx src 0x14 with
  | none => (none, s)
  | some (x, s1) =>
    if !ctrlOk x then (none, s1.bump 0x5200 2)
    else if rdLe x.body 0 1 = ctype then (some (x, s1), s)
    else (none, s)

/-- SITE_STOP (R253): the module stops its site job and passes the stop on. One that a TAKEOVER began tells of the role change (R6): its
origin holds the standby role. -/
def execSiteStop (src : Nat) (s : State) : Host.Outcome State Fault Refusal :=
  match takeCtrl s src 1 with
  | (none, s1) => .next s1
  | (some (x, s1), _) =>
    let standby := s1.lModules.any (fun m => m.smn == rdLe x.body 2 1 && Nat.testBit m.roles 2)
    .next (State.stopJob (if rdLe x.body 1 1 = 3 && standby then { s1 with roleChange := true } else s1) 4 (rdLe x.body 2 1))

end Sys2Proof.Machine
end

