-- ==== Sys2Proof/Machine/Queue.lean ====
section
/-! DEFINITION. The form that the queues of the update units, the collective engine and the Fusees share (R118, R179, R221, R250). -/

namespace Sys2Proof.Machine

/-- A queue entry (Table 5.4). -/
structure QEntry where
  kind : Nat
  rsv : Nat
  desc : Nat
  deriving DecidableEq, Repr

/-- A queue of an engine: its key among all queues, where its ring lies, its doorbell and its done counter. -/
structure QSpec where
  key : Nat
  base : Nat
  door : Nat
  done : Nat
  deriving DecidableEq, Repr

namespace State

/-- Entry i of a ring of 1,024. -/
def ringEntry (s : State) (base i : Nat) : QEntry :=
  let b := s.readBytes (base + i % 1024 * 16) 16
  { kind := rdLe b 0 1, rsv := rdLe b 1 7, desc := rdLe b 8 8 }

/-- Does the doorbell exceed i, modulo 2^32 (R118)? -/
def rung (s : State) (door : Nat) (i : W32) : Bool := serialGe (s.sync door).count (i + 1)

/-- Does an entry of an epoch wait for a pending re-shard (R250)? -/
def epochWaits (s : State) (e : Nat) : Bool := s.odGet 0x2010 3 != s.odGet 0x2010 1 && e == s.odGet 0x2010 3

/-- The entry at the head of a queue waits (R250), counted once. -/
def holdHead (s : State) (key : Nat) : State :=
  if s.qWait.contains key then s else ({ s with qWait := key :: s.qWait }).bump 0x2020 3

/-- The head of a queue waits no more. -/
def freeHead (s : State) (key : Nat) : State := { s with qWait := s.qWait.filter (· ≠ key) }

/-- A queue entry posts ADD 1 (Table 12.9). -/
def postEntry (s : State) (sid : Nat) : State := s.syncSend sid { src := .entry, op := .add 1 }

/-- The POST word of a descriptor: enabled, and its sync ID. -/
def postWord (s : State) (w : Nat) : State := if Nat.testBit w 31 then s.postEntry (w % 2 ^ 18) else s

end State

/-- Are the reserved bits of a POST word clear? -/
def postWordOk (w : Nat) : Bool := bitsN w 18 13 == 0

/-- Are the bytes of a descriptor in a range all zero? -/
def zeroAt (b : List Byte) (o n : Nat) : Bool := rdLe b o n == 0

/-- FP64 sum, one rounding. -/
def f64add (a b : Nat) : Nat := enc64 ((dec64 a).add (dec64 b))
/-- FP64 difference, one rounding. -/
def f64sub (a b : Nat) : Nat := enc64 ((dec64 a).add (dec64 b).neg)
/-- FP64 product, one rounding. -/
def f64mul (a b : Nat) : Nat := enc64 ((dec64 a).mul (dec64 b))
/-- FP64 quotient, one rounding. -/
def f64div (a b : Nat) : Nat := enc64 ((dec64 a).div (dec64 b))
/-- FP64 of a natural number. -/
def f64ofNat (n : Nat) : Nat := enc64 (FV.ofInt n)

/-- One level of a pairwise FP64 tree. -/
def pair64 : List Nat → List Nat
  | a :: b :: l => f64add a b :: pair64 l
  | l => l

/-- The exact squares of values, summed over groups of 16 by the tree of R84 and then in ascending order (R122, R190). -/
def sumSq (vs : List FV) : Nat :=
  let groups := (chunksOf 16 vs).map (fun g =>
    let sq := g.map (fun v => enc64 (v.mul v))
    (pair64 (pair64 (pair64 (pair64 sq)))).headD 0)
  match groups with
  | [] => 0
  | g :: gs => gs.foldl f64add g

/-- The numbers of `w` bytes that bytes spell. -/
def numsOf (w : Nat) (bs : List Byte) : List Nat := (chunksOf w bs).map leNat

end Sys2Proof.Machine
end

