-- ==== Sys2Proof/Machine/Collective.lean ====
section
/-! DEFINITION. The collective engine: streams (R181), entries (R179, R180) and the progress of REDUCE, GATHER, SCALAR, PUT, DISPATCH,
COMBINE and PERMUTE (R184 to R195). -/

namespace Sys2Proof.Machine

namespace State

/-- Change the collective engine. -/
def collMod (s : State) (f : Coll → Coll) : State := { s with coll := f s.coll }

/-- A collective queue. -/
def cqueue (s : State) (q : Nat) : CQueue := fget {} s.coll.queues q

/-- Change a collective queue. -/
def cqueueMod (s : State) (q : Nat) (f : CQueue → CQueue) : State :=
  s.collMod (fun c => { c with queues := fmod {} c.queues q f })

/-- The place of queue v (R179). -/
def cqSpec (s : State) (v : Nat) : QSpec :=
  { key := 32 + v, base := s.odGet 0x5400 1 + (v - 1) * 0x4000, door := s.odGet 0x5400 2 + (v - 1),
    done := s.odGet 0x5400 2 + 8 + (v - 1) }

/-- A running entry of a queue. -/
def centry (s : State) (q idx : Nat) : Option CEntry := (s.cqueue q).run.find? (fun e => e.idx == idx)

/-- Change a running entry. -/
def centryMod (s : State) (q idx : Nat) (f : CEntry → CEntry) : State :=
  s.cqueueMod q (fun c => { c with run := c.run.map (fun e => if e.idx = idx then f e else e) })

/-! ### Streams (R181) -/

/-- The packet of one chunk. A RELAY chunk is kept as its LAST flag, its SIDE and its payload, a PERMUTE chunk as its move's TENSOR and
its payload (Table 7.3). -/
def chunkPkt (s : State) (o : OutStream) (n : Nat) : NearPkt :=
  let c := o.chunks.getD n (0, [])
  let contrib := o.stype == 1
  let relay := o.stype == 8
  let perm := o.stype == 7
  let body := if contrib then c.2.take 4096 else if relay then c.2.drop 33 else if perm then c.2.drop 4 else c.2
  let side := if contrib then c.2.drop 4096 else if relay then slice c.2 1 32 else []
  let last := if relay then rdLe c.2 0 1 == 1 else n + 1 == o.chunks.length && !o.more
  let tensor := if perm then rdLe c.2 0 4 else o.arg1 % 2 ^ 32
  let h := pktHeader o.dst s.smn o.stype (if last then 1 else 0) o.coll o.epoch body.length n c.1
    (tensor + o.rank * 2 ^ 32) side
  { vc := o.vc, cls := 0, bytes := h ++ body }

/-- Does a stream end with the chunks it holds? A RELAY stream ends with its LAST chunk, or with an aborting one of LEN 0. -/
def outEnds (o : OutStream) : Bool :=
  (o.stype != 8 && !o.more) || o.stype == 8 && (match o.chunks.getLast? with
    | some c => rdLe c.2 0 1 == 1 || c.2.length == 33
    | none => false)

/-- Is it the stream of this name? -/
def outIs (o : OutStream) (dst coll stype rank : Nat) : Bool :=
  o.dst == dst && o.coll == coll && o.stype == stype && o.rank == rank

/-- Send chunks from number n on while they lie less than 64 above the highest acknowledged one. -/
def sendChunks (o : OutStream) : Nat → State → Nat → State
  | 0, s, _ => s
  | fuel + 1, s, n => if n < o.chunks.length && decide (n + 2 < o.acked + 64) then sendChunks o fuel (s.nearSend (s.chunkPkt o n)) (n + 1) else s

/-- Send what a granted stream may send. -/
def pumpOut (s : State) (o : OutStream) : State :=
  if o.acked = 0 then s.collMod (fun c => { c with outs := c.outs ++ [o] })
  else
    let lim := min o.chunks.length (o.acked + 62)
    let o' := { o with sent := max o.sent lim }
    sendChunks o (lim - o.sent) (s.collMod (fun c => { c with outs := c.outs ++ [o'] })) o.sent

/-- Open a stream; a grant that came before counts. -/
def openOut (s : State) (o : OutStream) (atOnce : Bool) : State :=
  let g := (o.dst, o.coll, o.stype, o.rank)
  let granted := atOnce || s.coll.grants.contains g
  (s.collMod (fun c => { c with grants := c.grants.filter (· ≠ g) })).pumpOut { o with acked := if granted then 1 else 0 }

/-- Give one more chunk to a stream whose chunks come one after another (R187), or open it with its first. -/
def growOut (s : State) (o : OutStream) (c : Nat × List Byte) (last : Bool) : State :=
  match s.coll.outs.find? (fun p => outIs p o.dst o.coll o.stype o.rank) with
  | some p => (s.collMod (fun d => { d with outs := d.outs.eraseP (fun q => outIs q o.dst o.coll o.stype o.rank) })).pumpOut
      { p with chunks := p.chunks ++ [c], more := !last }
  | none => s.openOut { o with chunks := [c], more := !last } true

/-- Send a CACK (Table 7.15). -/
def sendCack (s : State) (i : InStream) (acked : Nat) : State :=
  s.sendVc0 i.src 0x11 i.coll i.epoch (toLe 1 i.stype ++ [0] ++ toLe 2 i.rank ++ toLe 4 acked ++ zeros 8)

/-- Is it the stream of this name? -/
def inIs (i : InStream) (src coll stype rank : Nat) : Bool :=
  i.src == src && i.coll == coll && i.stype == stype && i.rank == rank

/-- The receiving end of a stream. -/
def inStream (s : State) (src coll stype rank : Nat) : Option InStream :=
  s.coll.ins.find? (fun i => inIs i src coll stype rank)

/-- Expect a stream, in place of an earlier one of its name; with `grant` it is granted by CACK (chunk -1). -/
def openIn (s : State) (i : InStream) (grant : Bool) : State :=
  let s1 := s.collMod (fun c => { c with ins := c.ins.filter (fun j => !inIs j i.src i.coll i.stype i.rank) ++ [i] })
  if grant then s1.sendCack i 0xFFFFFFFF else s1

/-- Has the whole stream arrived? -/
def inDone (i : InStream) : Bool := i.last == some (i.next - 1) && i.next != 0

/-- Has a stream of this name arrived whole? -/
def haveIn (s : State) (src coll stype rank : Nat) : Bool :=
  match s.inStream src coll stype rank with
  | some i => inDone i
  | none => false

/-- The next chunk in order after n, given the numbers held. -/
def nextInOrder : Nat → List (Nat × Nat × List Byte) → Nat → Nat
  | 0, _, n => n
  | fuel + 1, l, n => if l.any (fun c => c.1 == n) then nextInOrder fuel l (n + 1) else n

/-- The bytes of a stream in chunk order. -/
def inBytes (i : InStream) : List Byte :=
  (List.range i.next).flatMap (fun n => match i.chunks.find? (fun c => c.1 == n) with
    | some c => c.2.2
    | none => [])

/-- The bytes of an arrived stream. -/
def bytesIn (s : State) (src coll stype rank : Nat) : List Byte :=
  match s.inStream src coll stype rank with
  | some i => inBytes i
  | none => []

/-- A stream's chunks are released; its name stays, so that a duplicate is known (R181). -/
def releaseIn (s : State) (coll : Nat) (f : InStream → Bool) : State :=
  s.collMod (fun c => { c with ins := c.ins.map (fun i => if i.coll = coll && f i then { i with chunks := [] } else i) })

/-- Store a chunk: the state, and whether the stream is now complete. A duplicate is counted and acknowledged again. With
`quiet` the completing chunk is not acknowledged here. -/
def storeChunk (s : State) (i : InStream) (x : RxPkt) (quiet : Bool) : State × Bool :=
  if x.seq < i.next || i.chunks.any (fun c => c.1 == x.seq) then
    ((s.bump 0x5400 6).sendCack i (if i.next = 0 then 0xFFFFFFFF else i.next - 1), false)
  else
    let body := if i.stype = 1 then x.body ++ x.side else x.body
    let l := (x.seq, x.arg0, body) :: i.chunks
    let j := { i with chunks := l, next := nextInOrder l.length l i.next, last := if x.isLast then some x.seq else i.last }
    let s1 := s.openIn j false
    let done := inDone j
    if (done && !quiet) || (!done && j.next != i.next && (j.next / 8 != i.next / 8)) then (s1.sendCack j (j.next - 1), done)
    else (s1, done)

/-! ### Members -/

/-- The rank of a member in a group (R185). -/
def rankOf (ms : List Nat) (m : Nat) : Nat := (ms.filter (fun x => decide (x < m))).length

/-- The representative of node n for a slot (R185). -/
def repOf (ms : List Nat) (n slot : Nat) : Option Nat :=
  if ms.contains (8 * n + slot) then some (8 * n + slot) else ms.find? (fun m => m / 8 == n)

/-- The pairwise tree of R186 over the eight slots of a node, elementwise. -/
def pairOpt {α : Type} (add : α → α → α) (a b : Option α) : Option α :=
  match a, b with
  | none, y => y
  | x, none => x
  | some x, some y => some (add x y)

/-- node_partial of R186. -/
def nodePartial {α : Type} (add : α → α → α) (x : List (Option α)) : Option α :=
  let g (i : Nat) := x.getD i none
  let p := pairOpt add
  p (p (p (g 0) (g 1)) (p (g 2) (g 3))) (p (p (g 4) (g 5)) (p (g 6) (g 7)))

/-- shard_sum of R186. -/
def shardSum {α : Type} (add : α → α → α) (p : List (Option α)) : Option α :=
  p.foldl (pairOpt add) none

/-- Elementwise FP32 sum of two vectors. -/
def addVec (a b : List Nat) : List Nat := (a.zip b).map (fun q => f32add q.1 q.2)

/-! ### Entries -/

/-- The chunks of bytes, `n` bytes each with their offset; an empty stream is one empty chunk. -/
def byteChunks (n : Nat) (bs : List Byte) : List (Nat × List Byte) :=
  if bs.isEmpty then [(0, [])] else
    let l := chunksOf n bs
    (List.range l.length).map (fun i => (i * n, l.getD i []))

/-- Finished entries at the front of a queue leave it: the done counter moves past each, and a REDUCE's q_e is added (R179,
R190). -/
def retire (v : Nat) : Nat → State → State
  | 0, s => s
  | fuel + 1, s =>
    match (s.cqueue v).run with
    | e :: es =>
      if e.finished then
        let s1 := s.cqueueMod v (fun c => { c with run := es })
        let s2 := match e.noise with
          | some x => s1.collMod (fun c => { c with q := f64add c.q x })
          | none => s1
        retire v fuel (s2.post (s2.cqSpec v).done)
      else s
    | [] => s

/-- An entry finishes: its POST, unless it failed, and the done counter as far as it may move. -/
def finishEntry (s : State) (v idx : Nat) (failed : Bool) : State :=
  match s.centry v idx with
  | none => s
  | some e =>
    let s1 := s.centryMod v idx (fun e => { e with finished := true, failed := failed })
    let s2 := if failed then s1 else s1.postWord (rdLe e.desc 0x30 4)
    (retire v 1024 s2).stopSettle

/-- Refuse the entry at the head of a queue (R180). -/
def refuseEntry (s : State) (v kind reason : Nat) : State :=
  let idx := (s.cqueue v).next.toNat
  let s1 := (s.cqueueMod v (fun c => { c with
    next := c.next + 1, run := c.run ++ [{ idx := idx, desc := [], finished := true, failed := true }] }))
  (retire v 1024 (((s1.odSet 0x5400 8 ((kind % 256) * 2 ^ 24 + v * 2 ^ 20 + reason))).countNotify 0x5400 7))

/-- Has an entry streams that are not acknowledged to their end? -/
def outsOf (s : State) (v idx : Nat) : Bool := s.coll.outs.any (fun o => o.q == v && o.idx == idx)

/-- Mark a part of an entry's work done. -/
def markDid (s : State) (v idx k : Nat) : State := s.centryMod v idx (fun e => { e with did := k :: e.did })

end State

/-! ### REDUCE (R185, R186, R190) -/

/-- The bytes an element of a REDUCE source takes. -/
def redElem (fmt : Nat) : Nat := if fmt = 7 then 2 else 4

/-- One 64-element block of a contribution: its scale byte and FP16 codes. -/
def redBlock (s : State) (d : List Byte) (blk : Nat) : Nat × List Nat :=
  let src := rdLe d 8 8
  if rdLe d 6 1 = 7 then
    (s.readNat (rdLe d 0x38 8 + blk) 1, numsOf 2 (s.readBytes (src + 128 * blk) 128))
  else
    let r := convSfp16 false ((numsOf 4 (s.readBytes (src + 256 * blk) 256)).map dec32)
    (r.1, r.2.1.map (·.1))

/-- The decoded FP32 values of a block. -/
def blockVals (b : Nat × List Nat) : List Nat := b.2.map (fun c => enc32 (decSfp16 b.1 c))

/-- The blocks of shard j. -/
def shardBlocks (s : State) (d : List Byte) (size j : Nat) : List (Nat × List Nat) :=
  (List.range (size / 64)).map (fun i => redBlock s d (j * size / 64 + i))

/-- The CONTRIB chunks of shard j: 2,048 elements and their 32 scales each. -/
def contribChunks (s : State) (d : List Byte) (size j : Nat) : List (Nat × List Byte) :=
  let cs := if size = 0 then [[]] else chunksOf 32 (shardBlocks s d size j)
  (List.range cs.length).map (fun i =>
    let bl := cs.getD i []
    (j * size + 2048 * i, bl.flatMap (fun b => b.2.flatMap (toLe 2)) ++ bl.flatMap (fun b => toLe 1 b.1)))

/-- The FP32 values of received CONTRIB chunks. -/
def contribVals (bs : List Byte) : List Nat :=
  (chunksOf 4128 bs).flatMap (fun c =>
    let sc := c.drop 4096
    let els := chunksOf 128 (c.take 4096)
    (List.range els.length).flatMap (fun b => blockVals ((sc.getD b 0).toNat, numsOf 2 (els.getD b []))))

/-- The contribution of a member to shard j, as far as this module holds it. -/
def redContrib (s : State) (d : List Byte) (size j m : Nat) : List Nat :=
  if m = s.smn then (shardBlocks s d size j).flatMap blockVals
  else contribVals (s.bytesIn m (rdLe d 2 2) 1 j)

/-- The partial of the own node for shard j. -/
def redNode (s : State) (d : List Byte) (ms : List Nat) (size j : Nat) : Option (List Nat) :=
  let n := s.smn / 8
  State.nodePartial State.addVec ((List.range 8).map (fun t =>
    if ms.contains (8 * n + t) then some (redContrib s d size j (8 * n + t)) else none))

/-- The progress of a REDUCE. -/
def advReduce (s : State) (v : Nat) (e : CEntry) : State :=
  let d := e.desc
  let coll := rdLe d 2 2
  let ms := s.groupMembers (rdLe d 1 1)
  let me := s.smn
  let n := me / 8
  let size := rdLe d 0x18 8 / ms.length
  let k := State.rankOf ms me
  let mates := ms.filter (fun m => m / 8 == n && m != me)
  let mine := (List.range ms.length).filter (fun j => State.repOf ms n (ms.getD j 0 % 8) == some me)
  let s1 := mine.foldl (fun a j =>
    if j = k || e.did.contains (1000 + j) || !(mates.all (fun m => a.haveIn m coll 1 j)) then a
    else
      let bytes := ((redNode a d ms size j).getD []).flatMap (toLe 4)
      let cs := if bytes.isEmpty then [[]] else chunksOf 4096 bytes
      (a.markDid v e.idx (1000 + j)).openOut
        { q := v, idx := e.idx, dst := ms.getD j 0, vc := v, coll := coll, epoch := rdLe d 4 2, stype := 2, rank := j,
          arg1 := rdLe d 0x28 4,
          chunks := (List.range cs.length).map (fun i => (j * size + 1024 * i, cs.getD i [])) } false) s
  let nodes := (List.range 8).filter (fun x => ms.any (fun m => m / 8 == x))
  let have_ := mates.all (fun m => s1.haveIn m coll 1 k) && nodes.all (fun x => x == n ||
    (match State.repOf ms x (me % 8) with
     | some r => s1.haveIn r coll 2 k
     | none => true))
  let s2 :=
    if e.did.contains 2 || !have_ then s1
    else
      let parts := (List.range 8).map (fun x =>
        if x = n then redNode s1 d ms size k
        else match State.repOf ms x (me % 8) with
          | some r => some (numsOf 4 (s1.bytesIn r coll 2 k))
          | none => none)
      (s1.writeBytes (rdLe d 0x10 8) (((State.shardSum State.addVec parts).getD []).flatMap (toLe 4))).markDid v e.idx 2
  match s2.centry v e.idx with
  | none => s2
  | some e2 =>
    if e2.did.contains 2 && mine.all (fun j => j == k || e2.did.contains (1000 + j)) && !s2.outsOf v e.idx then
      (s2.releaseIn coll (fun i => i.stype == 1 || i.stype == 2)).finishEntry v e.idx false
    else s2

/-- A REDUCE starts: its CONTRIB streams, the streams it expects, and with NOISE its q_e. -/
def startReduce (s : State) (v idx : Nat) (d : List Byte) : State :=
  let coll := rdLe d 2 2
  let ep := rdLe d 4 2
  let ms := s.groupMembers (rdLe d 1 1)
  let me := s.smn
  let n := me / 8
  let size := rdLe d 0x18 8 / ms.length
  let k := State.rankOf ms me
  let mates := ms.filter (fun m => m / 8 == n && m != me)
  let js := List.range ms.length
  let s0 := if Nat.testBit (rdLe d 7 1) 0 then
      s.centryMod v idx (fun e => { e with
        noise := some (sumSq ((js.flatMap (fun j => (shardBlocks s d size j).flatMap blockVals)).map dec32)) })
    else s
  let s1 := js.foldl (fun a j =>
    match State.repOf ms n (ms.getD j 0 % 8) with
    | none => a
    | some r =>
      if r = me then
        mates.foldl (fun b m => b.openIn { src := m, coll := coll, epoch := ep, stype := 1, rank := j, vc := v } true) a
      else a.openOut { q := v, idx := idx, dst := r, vc := v, coll := coll, epoch := ep, stype := 1, rank := j,
                       arg1 := rdLe d 0x28 4, chunks := contribChunks a d size j } false) s0
  ((List.range 8).filter (fun x => x != n)).foldl (fun a x =>
    match State.repOf ms x (me % 8) with
    | some r => a.openIn { src := r, coll := coll, epoch := ep, stype := 2, rank := k, vc := v } true
    | none => a) s1

/-! ### GATHER (R187, R188) -/

/-- The size of an image as a header states it, and its step in DST. -/
def imgSize (h : List Byte) : Nat := 64 + rdLe h 0x28 8

/-- The fold digest of R116. -/
def foldDigest (s : State) (payload : List Byte) : List Byte :=
  let h := beNat (hkdf512 [] (s.blobGet 0xA200 1) (ascii "KRV-L960 fold digest") 16)
  let y := ghash h 0 payload
  toBe 16 (ghashStep h y (zeros 8 ++ toBe 8 (8 * payload.length)))

/-- The member an image of rank j reaches this module from: its owner, or the representative of the own node. -/
def imgFrom (s : State) (ms : List Nat) (j : Nat) : Nat :=
  let o := ms.getD j 0
  let n := s.smn / 8
  if o / 8 = n then o
  else match State.repOf ms n (o % 8) with
    | some r => if r = s.smn then o else r
    | none => o

/-- The stream of an image to a member. -/
def imgOut (v idx dst coll ep tensor j : Nat) (bytes : List Byte) : OutStream :=
  { q := v, idx := idx, dst := dst, vc := v, coll := coll, epoch := ep, stype := 3, rank := j, arg1 := tensor,
    chunks := State.byteChunks 4096 bytes }

/-- A GATHER starts: the own image is copied and sent, and the others are expected. -/
def startGather (s : State) (v idx : Nat) (d : List Byte) : State :=
  let coll := rdLe d 2 2
  let ep := rdLe d 4 2
  let ms := s.groupMembers (rdLe d 1 1)
  let me := s.smn
  let n := me / 8
  let k := State.rankOf ms me
  let src := rdLe d 8 8
  let dst := rdLe d 0x10 8
  let size := imgSize (s.readBytes src 64)
  let own := dst + k * roundUp size 64
  let img := s.readBytes src size
  let s0 := if own = src then s else s.writeBytes own img
  let targets := (ms.filter (fun m => m / 8 == n && m != me)) ++
    ((List.range 8).filter (fun x => x != n)).filterMap (fun x => State.repOf ms x (me % 8))
  let s1 := targets.foldl (fun a m => a.openOut (imgOut v idx m coll ep (rdLe d 0x28 4) k img) false) s0
  ((List.range ms.length).filter (· ≠ k)).foldl (fun a j =>
    let f := imgFrom a ms j
    a.openIn { src := f, coll := coll, epoch := ep, stype := 3, rank := j, vc := v } (f == ms.getD j 0)) s1

/-- One chunk of the image of rank j, in order: it is written, and the representative forwards it inside the node (R187). `head` is the
image's first chunk, which holds its header. -/
def landChunk (s : State) (v : Nat) (e : CEntry) (ms : List Nat) (j : Nat) (head : List Byte) (c : Nat × List Byte) (last again : Bool) :
    State :=
  let d := e.desc
  let o := ms.getD j 0
  let n := s.smn / 8
  let at_ := rdLe d 0x10 8 + j * roundUp (imgSize head) 64 + c.1
  let s1 := if s.inHbm at_ c.2.length then s.writeBytes at_ c.2 else s
  if !again && o / 8 != n && State.repOf ms n (o % 8) == some s.smn then
    (ms.filter (fun m => m / 8 == n && m != s.smn)).foldl (fun a m =>
      a.growOut { imgOut v e.idx m (rdLe d 2 2) (rdLe d 4 2) (rdLe d 0x28 4) j [] with chunks := [] } c last) s1
  else s1

/-- The chunks of the image of rank j that have come in order since the last ones. -/
def landChunks (s : State) (v : Nat) (e : CEntry) (ms : List Nat) (j : Nat) (i : InStream) (again : Bool) : State :=
  let chunk (n : Nat) : Nat × List Byte := ((i.chunks.find? (fun c => c.1 == n)).map (·.2)).getD (0, [])
  (((List.range i.next).drop (fget 0 e.landed j)).foldl (fun a n =>
    landChunk a v e ms j (chunk 0).2 (chunk n) (i.last == some n) again) s).centryMod v e.idx (fun e => { e with
      landed := fput 0 e.landed j i.next })

/-- An image of rank j has arrived whole: it is checked (R188). -/
def landImage (s2 : State) (v : Nat) (e : CEntry) (ms : List Nat) (j : Nat) (img : List Byte) : State :=
  let d := e.desc
  let coll := rdLe d 2 2
  let ep := rdLe d 4 2
  let o := ms.getD j 0
  let at_ := rdLe d 0x10 8 + j * roundUp (imgSize img) 64
  let bad := Nat.testBit (rdLe d 7 1) 0 && foldDigest s2 ((img.drop 64).take (rdLe img 0x28 8)) != slice img 0x30 16
  if bad then
    let c := fget 0 e.bad j + 1
    let s3 := (((if s2.inHbm at_ 64 then s2.writeBytes (at_ + 6) (toLe 1 (rdLe img 6 1 / 2 * 2)) else s2).bump 0x5410 1).centryMod v e.idx
      (fun e => { e with bad := fput 0 e.bad j c, landed := fput 0 e.landed j 0 }))
    if s3.odGet 0x5410 2 ≤ c then s3.enterFaulted 3 (State.statusOff 5 0)
    else
      (s3.sendCtrl o coll ep 2 0 s3.smn j (rdLe d 0x28 4)).openIn
        { src := o, coll := coll, epoch := ep, stype := 3, rank := j, vc := v } true
  else s2.markDid v e.idx (1000 + j)

/-- The progress of a GATHER. -/
def advGather (s : State) (v : Nat) (e : CEntry) : State :=
  let d := e.desc
  let coll := rdLe d 2 2
  let ms := s.groupMembers (rdLe d 1 1)
  let k := State.rankOf ms s.smn
  let s1 := ((List.range ms.length).filter (· ≠ k)).foldl (fun a j =>
    match a.centry v e.idx with
    | none => a
    | some e1 =>
      if e1.did.contains (1000 + j) then a
      else
        let again := fget 0 e1.bad j != 0
        let f := if again then ms.getD j 0 else imgFrom a ms j
        match a.inStream f coll 3 j with
        | none => a
        | some i =>
          let a1 := landChunks a v e1 ms j i again
          if State.inDone i then
            landImage (a1.releaseIn coll (fun i => i.stype == 3 && i.rank == j)) v e1 ms j (State.inBytes i)
          else a1) s
  match s1.centry v e.idx with
  | none => s1
  | some e1 =>
    if (List.range ms.length).all (fun j => j == k || e1.did.contains (1000 + j)) && !s1.outsOf v e.idx then
      (s1.collMod (fun c => { c with
        gathers := d :: c.gathers.filter (fun g => rdLe g 2 2 != coll) })).finishEntry v e.idx false
    else s1

/-! ### SCALAR (R189 to R191) -/

/-- The noise estimates of R191, and the accumulators cleared. With P below 2 or no step the noise is NaN, whatever the quotients of the
other two give. -/
def noiseRollover (s : State) : State :=
  let steps := s.odGet 0x7400 1
  let p := s.coll.noiseP
  let nan64 := 0x7FF8000000000000
  let b := f64ofNat s.coll.noiseB
  let big := f64mul (f64ofNat p) b
  let gs := f64div (s.odGet 0x7400 2) (f64ofNat steps)
  let gb := f64div (s.odGet 0x7400 3) (f64ofNat steps)
  let g2 := f64div (f64sub (f64mul big gb) (f64mul b gs)) (f64sub big b)
  let tr := f64div (f64sub gs gb) (f64sub (f64div (f64ofNat 1) b) (f64div (f64ofNat 1) big))
  let v2 := dec64 g2
  let none_ := decide (p < 2) || steps == 0
  let noise :=
    if none_ then nan64
    else if !v2.isNan && !FV.lt (.fin false 0 0) v2 then 0x7FF0000000000000
    else f64div tr g2
  let s1 := ((((s.odSet 0x7400 6 noise).odSet 0x7400 7 g2).odSet 0x7400 8 tr).odSet 0x7400 4 p).odSet 0x7400 5 s.coll.noiseB
  ((s1.odSet 0x7400 1 0).odSet 0x7400 2 0).odSet 0x7400 3 0

/-- The clip factor and norm of R189. -/
def clipOf (z sum tau : Nat) : Nat × Nat :=
  if 0 < z || !(dec64 sum).isFin then (nan32, nan32)
  else
    let r := enc64 (dec64 sum).sqrt
    let t := dec32 tau
    let le := t.isInf || !FV.lt t (dec64 r)
    (if t.isZero || le then one32 else enc32 (dec64 (enc64 (t.div (dec64 r)))), enc32 (dec64 r))

/-- A SCALAR starts: its local record is formed and sent to every other member. -/
def startScalar (s : State) (v idx : Nat) (d : List Byte) : State :=
  let ms := s.groupMembers (rdLe d 1 1)
  let noise := Nat.testBit (rdLe d 7 1) 0
  let n := rdLe d 0x18 4
  let recs := (List.range n).map (fun i => s.readBytes (rdLe d 8 8 + 64 * i) 32)
  let p := match recs with
    | [] => 0
    | r :: rs => rs.foldl (fun a x => f64add a (rdLe x 0 8)) (rdLe r 0 8)
  let z := (recs.map (fun x => rdLe x 8 8)).sum % 2 ^ 64
  let q := if noise then s.coll.q else 0
  let body := toLe 8 p ++ toLe 8 z ++ toLe 8 q ++ toLe 4 n ++ toLe 1 (if noise then 1 else 0) ++ zeros 3
  let s1 := (ms.filter (· ≠ s.smn)).foldl (fun a m => a.sendVc0 m 0x12 (rdLe d 2 2) (rdLe d 4 2) body) s
  (s1.collMod (fun c => { c with scalars := c.scalars ++ [(s.smn, rdLe d 2 2, rdLe d 4 2, body)] })).centryMod v idx
    (fun e => { e with did := [1] })

/-- The progress of a SCALAR: with all P records held, the result record. -/
def advScalar (s : State) (v : Nat) (e : CEntry) : State :=
  let d := e.desc
  let coll := rdLe d 2 2
  let ep := rdLe d 4 2
  let ms := s.groupMembers (rdLe d 1 1)
  let rec_ (m : Nat) : Option (List Byte) :=
    (s.coll.scalars.find? (fun x => x.1 == m && x.2.1 == coll && x.2.2.1 == ep)).map (fun x => x.2.2.2)
  if ms.all (fun m => (rec_ m).isSome) then
    let tot (o : Nat) : Nat := (State.shardSum f64add ((List.range 8).map (fun n =>
      State.nodePartial f64add ((List.range 8).map (fun t =>
        if ms.contains (8 * n + t) then (rec_ (8 * n + t)).map (fun b => rdLe b o 8) else none))))).getD 0
    let sum := tot 0
    let z := (ms.map (fun m => rdLe ((rec_ m).getD []) 8 8)).sum % 2 ^ 64
    let c := clipOf z sum (rdLe d 0x28 4)
    let s1 := s.writeBytes (rdLe d 0x10 8) (toLe 4 c.1 ++ toLe 4 c.2 ++ toLe 8 sum ++ toLe 8 z ++ zeros 8)
    let s2 := if Nat.testBit (rdLe d 7 1) 0 then
        let p := ms.length
        let a := ((s1.odSet 0x7400 2 (f64add (s1.odGet 0x7400 2) (f64div (tot 0x10) (f64ofNat p)))).odSet 0x7400 3
          (f64add (s1.odGet 0x7400 3) (f64div sum (f64ofNat (p * p))))).bump 0x7400 1
        let b := a.collMod (fun c => { c with q := 0, noiseP := p, noiseB := rdLe d 0x1C 4 })
        if b.odGet 0x7400 9 ≠ 0 && decide (b.odGet 0x7400 9 ≤ b.odGet 0x7400 1) then noiseRollover b else b
      else s1
    (s2.collMod (fun c => { c with
      scalars := c.scalars.filter (fun x => !(x.2.1 == coll && x.2.2.1 == ep)) })).finishEntry v e.idx false
  else s

/-! ### PUT (R184) -/

/-- A PUT starts. ARG0 of a chunk is its destination address; ARG1[31:0] holds REMOTE_POST in bit 31 and REMOTE_SID
(DESIGN CHOICE: the spec gives no place for them). -/
def startPut (s : State) (v idx : Nat) (d : List Byte) : State :=
  let dst := rdLe d 0x10 8
  let post := if Nat.testBit (rdLe d 7 1) 0 then 2 ^ 31 + rdLe d 0x28 4 % 2 ^ 18 else 0
  let cs := (State.byteChunks 4096 (s.readBytes (rdLe d 8 8) (rdLe d 0x18 8))).map (fun c => (dst + c.1, c.2))
  s.openOut { q := v, idx := idx, dst := rdLe d 1 1, vc := v, coll := rdLe d 2 2, epoch := rdLe d 4 2, stype := 4, rank := 0,
              arg1 := post, chunks := cs } true

/-- May a PUT write here: HBM or the data area of an in-service pinion; otherwise the reason of PUT_FAULT. -/
def putFaultReason (s : State) (a n : Nat) : Nat :=
  match s.region a n with
  | .hbm _ => 0
  | .data p => if s.inService p then 0 else 1
  | .unmapped => 2
  | _ => 1

/-! ### DISPATCH and COMBINE (R192, R193) -/

/-- Rows each source may send to one expert: C = ceil(CAP * TOKENS * K / E). -/
def dispCap (d : List Byte) : Nat :=
  let x := (dec32 (rdLe d 0x34 4)).mul (FV.ofInt (rdLe d 0x18 4 * rdLe d 6 1))
  match x with
  | .fin _ m e =>
    let den := rdLe d 0x1E 2
    if 0 ≤ e then ceilDiv (m <<< e.toNat) den else ceilDiv m (den * 2 ^ (-e).toNat)
  | _ => 0

/-- The routing of this source: expert and gate of each slot, tokens ascending. -/
def dispRoute (s : State) (d : List Byte) : List (Nat × Nat) :=
  (List.range (rdLe d 0x18 4 * rdLe d 6 1)).map (fun i =>
    let b := s.readBytes (rdLe d 0x10 8 + 8 * i) 8
    (rdLe b 0 2, rdLe b 4 4))

/-- Walk the slots (R192): for each, its expert, its gate and its row among those sent to that expert, none where it is
dropped. -/
def dispWalk (cap : Nat) : List (Nat × Nat) → FMap Nat → List (Nat × Nat × Option Nat)
  | [], _ => []
  | (x, g) :: l, cnt =>
    let n := fget 0 cnt x
    if n < cap then (x, g, some n) :: dispWalk cap l (fput 0 cnt x (n + 1))
    else (x, g, none) :: dispWalk cap l cnt

/-- The owner and the local index of an expert. -/
def expertAt (s : State) (d : List Byte) (x : Nat) : Nat × Nat :=
  let b := s.readBytes (rdLe d 0x20 8 + 2 * x) 2
  (rdLe b 0 1, rdLe b 1 1)

/-- Under what the rows that source rank r sent to expert x are counted: the routing array, which a DISPATCH and its COMBINE share, names
the exchange (DESIGN CHOICE, log 34). -/
def rowsKey (d : List Byte) (r x : Nat) : Nat := (rdLe d 0x10 8 * 64 + r) * 4096 + x

/-- Write the rows of a source into a local expert's input buffer, zeros after them (R193). -/
def landRows (s : State) (d : List Byte) (p r x : Nat) (rows : List Byte) : State :=
  let cap := dispCap d
  let rb := rdLe d 0x1C 2
  let at_ := rdLe d 0x28 8 + ((expertAt s d x).2 * p * cap + r * cap) * rb
  (s.writeBytes at_ (padTo (cap * rb) rows)).collMod (fun c => { c with rows := fput 0 c.rows (rowsKey d r x) (rows.length / rb) })

/-- A DISPATCH starts: its rows per expert, its own experts' rows, the counts, the drops, and the streams expected. -/
def startDispatch (s : State) (v idx : Nat) (d : List Byte) : State :=
  let coll := rdLe d 2 2
  let ep := rdLe d 4 2
  let ms := s.groupMembers (rdLe d 1 1)
  let me := s.smn
  let p := ms.length
  let rb := rdLe d 0x1C 2
  let k := rdLe d 6 1
  let cap := dispCap d
  let walk := dispWalk cap (dispRoute s d) []
  let slots := (List.range walk.length).zip walk
  let rowsTo (x : Nat) : List Byte := slots.flatMap (fun q =>
    if q.2.1 = x && q.2.2.2.isSome then s.readBytes (rdLe d 8 8 + q.1 / k * rb) rb else [])
  let dropped := (walk.filter (fun q => q.2.2.isNone)).map (·.1)
  let s0 := (dropped.foldl (fun a x => a.collMod (fun c => { c with drops := fmod 0 c.drops x (· + 1) })) s).bumpBy 0x5430 3 dropped.length
  (List.range (rdLe d 0x1E 2)).foldl (fun a x =>
    let o := (expertAt s d x).1
    let rows := rowsTo x
    let a1 := a.writeBytes (rdLe d 0x38 8 + 4 * x) (toLe 4 (rows.length / rb))
    if o = me then
      (ms.filter (· ≠ me)).foldl (fun b m => b.openIn { src := m, coll := coll, epoch := ep, stype := 5, rank := x, vc := v } true)
        (landRows a1 d p (State.rankOf ms me) x rows)
    else
      a1.openOut { q := v, idx := idx, dst := o, vc := v, coll := coll, epoch := ep, stype := 5, rank := x, arg1 := 0,
                   chunks := State.byteChunks 4096 rows } false) s0

/-- The progress of a DISPATCH. -/
def advDispatch (s : State) (v : Nat) (e : CEntry) : State :=
  let d := e.desc
  let coll := rdLe d 2 2
  let ms := s.groupMembers (rdLe d 1 1)
  let wants := (List.range (rdLe d 0x1E 2)).flatMap (fun x =>
    if (expertAt s d x).1 = s.smn then (ms.filter (· ≠ s.smn)).map (fun m => (m, x)) else [])
  let s1 := wants.foldl (fun a w =>
    match a.centry v e.idx with
    | none => a
    | some e1 =>
      if !e1.did.contains (w.2 * 256 + w.1) && a.haveIn w.1 coll 5 w.2 then
        ((landRows a d ms.length (State.rankOf ms w.1) w.2 (a.bytesIn w.1 coll 5 w.2)).releaseIn coll
          (fun i => i.stype == 5 && i.rank == w.2 && i.src == w.1)).markDid v e.idx (w.2 * 256 + w.1)
      else a) s
  match s1.centry v e.idx with
  | none => s1
  | some e1 =>
    if wants.all (fun w => e1.did.contains (w.2 * 256 + w.1)) && !s1.outsOf v e.idx then s1.finishEntry v e.idx false else s1

/-- The output rows of a local expert for a source rank. -/
def expertRows (s : State) (d : List Byte) (p r x : Nat) : List Byte :=
  let rb := rdLe d 0x1C 2
  s.readBytes (rdLe d 8 8 + ((expertAt s d x).2 * p * dispCap d + r * dispCap d) * rb) (fget 0 s.coll.rows (rowsKey d r x) * rb)

/-- A COMBINE starts: the rows of the own experts return to their sources, and those of the others are expected. -/
def startCombine (s : State) (v idx : Nat) (d : List Byte) : State :=
  let coll := rdLe d 2 2
  let ep := rdLe d 4 2
  let ms := s.groupMembers (rdLe d 1 1)
  let me := s.smn
  (List.range (rdLe d 0x1E 2)).foldl (fun a x =>
    let o := (expertAt s d x).1
    if o = me then
      (ms.filter (· ≠ me)).foldl (fun b m =>
        b.openOut { q := v, idx := idx, dst := m, vc := v, coll := coll, epoch := ep, stype := 6, rank := x, arg1 := 0,
                    chunks := State.byteChunks 4096 (expertRows b d ms.length (State.rankOf ms m) x) } false) a
    else a.openIn { src := o, coll := coll, epoch := ep, stype := 6, rank := x, vc := v } true) s

/-- One combined row: the sum of gate times row over the slots in ascending order (R193). -/
def combineRow (slots : List (Nat × List Nat)) (n : Nat) : List Nat :=
  slots.foldl (fun acc q => (acc.zip q.2).map (fun z => f32fma q.1 (enc32 (decBf16 z.2)) z.1)) (List.replicate n 0)

/-- The progress of a COMBINE. -/
def advCombine (s : State) (v : Nat) (e : CEntry) : State :=
  let d := e.desc
  let coll := rdLe d 2 2
  let ms := s.groupMembers (rdLe d 1 1)
  let me := s.smn
  let others := (List.range (rdLe d 0x1E 2)).filter (fun x => (expertAt s d x).1 != me)
  if others.all (fun x => s.haveIn (expertAt s d x).1 coll 6 x) && !s.outsOf v e.idx then
    let k := rdLe d 6 1
    let rb := rdLe d 0x1C 2
    let walk := dispWalk (dispCap d) (dispRoute s d) []
    let rowOf (x i : Nat) : List Nat :=
      let o := (expertAt s d x).1
      let bs := if o = me then expertRows s d ms.length (State.rankOf ms me) x else s.bytesIn o coll 6 x
      numsOf 2 (slice bs (i * rb) rb)
    let toks := chunksOf k walk
    let s1 := (List.range toks.length).foldl (fun a t =>
      let slots := (toks.getD t []).filterMap (fun q => q.2.2.map (fun i => (q.2.1, rowOf q.1 i)))
      a.writeBytes (rdLe d 0x28 8 + t * 2 * rb) ((combineRow slots (rb / 2)).flatMap (toLe 4))) s
    (s1.releaseIn coll (fun i => i.stype == 6)).finishEntry v e.idx false
  else s

/-! ### PERMUTE (R194) -/

/-- The move entries of a list (Table 7.11). -/
def moves (s : State) (a n : Nat) : List (List Byte) := (List.range n).map (fun i => s.readBytes (a + 32 * i) 32)

/-- The moves this module sends. -/
def outMoves (s : State) (d : List Byte) : List (List Byte) := moves s (rdLe d 8 8) (rdLe d 0x18 4)
/-- The moves this module receives. -/
def inMoves (s : State) (d : List Byte) : List (List Byte) := moves s (rdLe d 0x10 8) (rdLe d 0x1C 4)
/-- PEER of a move. -/
def mvPeer (m : List Byte) : Nat := rdLe m 0 1
/-- PASS of a move. -/
def mvPass (m : List Byte) : Nat := rdLe m 1 1
/-- BYTES of a move. -/
def mvBytes (m : List Byte) : Nat := rdLe m 4 4
/-- SRC_ADDR of a move. -/
def mvSrc (m : List Byte) : Nat := rdLe m 8 8
/-- DST_ADDR of a move. -/
def mvDst (m : List Byte) : Nat := rdLe m 0x10 8

/-- The address of byte x of the reshard staging (R112, Table 5.2). -/
def stagingAddr (x : Nat) : Nat := x / 0x10000000 * hbmStride + 0x1280400000 + x % 0x10000000

/-- The pieces of a range of the staging, line by line: address and length. -/
def stagingLines (off n : Nat) : List (Nat × Nat) :=
  (List.range (ceilDiv (off + n) 64 - off / 64)).map (fun k =>
    let lo := max off (64 * (off / 64 + k))
    (stagingAddr lo, min (off + n) (64 * (off / 64 + k) + 64) - lo))

/-- Lay bytes into the staging. -/
def stageWrite (s : State) (off : Nat) (bs : List Byte) : State :=
  ((stagingLines off bs.length).foldl (fun (a : State × List Byte) l => (a.1.ownWrite l.1 (a.2.take l.2), a.2.drop l.2)) (s, bs)).1

/-- Read the staging: a line that another has written since holds open bytes (R113). -/
def stageRead (s : State) (off n : Nat) : List Byte × State :=
  (stagingLines off n).foldl (fun a l => let r := a.2.ownRead l.1 l.2; (a.1 ++ r.1, r.2)) ([], s)

/-- The chunks of moves: each move's bytes with its TENSOR before them, the offsets counting on. -/
def permChunks (s : State) : Nat → List (List Byte) → List (Nat × List Byte)
  | _, [] => []
  | o, m :: l => (State.byteChunks 4096 (s.readBytes (mvSrc m) (mvBytes m))).map (fun c => (o + c.1, slice m 0x18 4 ++ c.2)) ++
      permChunks s (o + mvBytes m) l

/-- Send the moves of the current pass to the receivers that accept it. -/
def permSend (s : State) (v : Nat) (e : CEntry) : State :=
  let d := e.desc
  let ms := (outMoves s d).filter (fun m => mvPass m == e.pass)
  let peers := (ms.map mvPeer).dedup
  peers.foldl (fun a q =>
    match a.centry v e.idx with
    | none => a
    | some e1 =>
      if e1.did.contains (e.pass * 256 + q) || !(e.pass == 0 || a.coll.passReady.contains (q, rdLe d 2 2, e.pass)) then a
      else
        (a.markDid v e.idx (e.pass * 256 + q)).openOut
          { q := v, idx := e.idx, dst := q, vc := v, coll := rdLe d 2 2, epoch := rdLe d 4 2, stype := 7, rank := e.pass,
            arg1 := 0, chunks := permChunks a 0 (ms.filter (fun m => mvPeer m == q)) } true) s

/-- Expect the moves of the current pass. -/
def permExpect (s : State) (v : Nat) (e : CEntry) : State :=
  let d := e.desc
  (((inMoves s d).filter (fun m => mvPass m == e.pass)).map mvPeer).dedup.foldl (fun a q =>
    a.openIn { src := q, coll := rdLe d 2 2, epoch := rdLe d 4 2, stype := 7, rank := e.pass, vc := v } false) s

/-- A PERMUTE ends once every other member is done: the epoch becomes current, and both move lists are retained (R194). -/
def permFinish (s : State) (v : Nat) (e : CEntry) : State :=
  let d := e.desc
  let coll := rdLe d 2 2
  let others := (s.groupMembers (rdLe d 1 1)).filter (· ≠ s.smn)
  if e.pass = rdLe d 6 1 && others.all (fun m => s.coll.permDone.contains (m, coll)) then
    let mv := outMoves s d
    let mi := inMoves s d
    let s1 := s.collMod (fun c => { c with
      retained := mv, retainedIn := mi, permDone := c.permDone.filter (fun x => x.2 != coll),
      passReady := c.passReady.filter (fun x => x.2.1 != coll) })
    (((s1.odSetShown 0x2010 1 (rdLe d 4 2)).odSet 0x2010 3 (rdLe d 4 2))).finishEntry v e.idx false
  else s

/-- Has the current pass of a PERMUTE arrived whole and left whole? -/
def permReady (s : State) (v : Nat) (e : CEntry) : Bool :=
  let d := e.desc
  let p := e.pass
  decide (p < rdLe d 6 1) && !s.outsOf v e.idx &&
  ((outMoves s d).all (fun m => mvPass m != p || e.did.contains (p * 256 + mvPeer m))) &&
  ((inMoves s d).all (fun m => mvPass m != p || s.haveIn (mvPeer m) (rdLe d 2 2) 7 p))

/-- The place in the staging of a chunk at an offset of a sender's stream of a pass: the moves lie back to back, in IN_LIST order. -/
def stagePlace (src : Nat) : Nat → Nat → List (List Byte) → Option Nat
  | _, _, [] => none
  | at_, o, m :: l =>
    if mvPeer m ≠ src then stagePlace src (at_ + mvBytes m) o l
    else if o < mvBytes m then some (at_ + o)
    else stagePlace src (at_ + mvBytes m) (o - mvBytes m) l

/-- A chunk of a PERMUTE that has arrived is laid into the staging (R194). -/
def stageChunk (s : State) (x : RxPkt) : State :=
  match (s.cqueue 5).run.find? (fun e => !e.finished && rdLe e.desc 2 2 == x.coll && e.pass == x.rank) with
  | none => s
  | some e =>
    match stagePlace x.src 0 x.arg0 ((inMoves s e.desc).filter (fun m => mvPass m == e.pass)) with
    | none => s
    | some o => stageWrite s o x.body

/-- Where each of the incoming moves lies in the staging. -/
def stageOffsets : Nat → List (List Byte) → List Nat
  | _, [] => []
  | o, m :: l => o :: stageOffsets (o + mvBytes m) l

/-- One pass: the staging is copied to the moves' addresses in IN_LIST order; then the next pass opens (R194). An uncorrectable error
in the staging is fatal (R136). -/
def permPass (s : State) (v : Nat) (e : CEntry) : State :=
  let d := e.desc
  let coll := rdLe d 2 2
  let p := e.pass
  let ms := (inMoves s d).filter (fun m => mvPass m == p)
  match s.wrongLine (stagingLines 0 ((ms.map mvBytes).sum)) with
  | some a => s.eccFault a
  | none =>
  let s2 := (ms.zip (stageOffsets 0 ms)).foldl (fun a q =>
    let r := stageRead a q.2 (mvBytes q.1)
    r.2.writeBytes (mvDst q.1) r.1) s
  let s3 := (s2.releaseIn coll (fun i => i.stype == 7 && i.rank == p)).centryMod v e.idx (fun e => { e with pass := p + 1 })
  let e3 := { e with pass := p + 1 }
  if p + 1 < rdLe d 6 1 then
    let senders := (((inMoves s3 d).filter (fun m => mvPass m == p + 1)).map mvPeer).dedup
    permSend (senders.foldl (fun a q => a.sendCtrl q coll (rdLe d 4 2) 4 0 a.smn (p + 1) 0) (permExpect s3 v e3)) v e3
  else
    let others := (s3.groupMembers (rdLe d 1 1)).filter (· ≠ s3.smn)
    let s4 := others.foldl (fun a m => a.sendCtrl m coll (rdLe d 4 2) 5 0 a.smn (rdLe d 6 1) 0) s3
    match s4.centry v e.idx with
    | some e4 => permFinish s4 v e4
    | none => s4

/-! ### Progress of every entry -/

/-- The progress of one running entry. -/
def advance1 (s : State) (v : Nat) (idx : Nat) : State :=
  match s.centry v idx with
  | none => s
  | some e =>
    if e.finished then s
    else match rdLe e.desc 0 1 with
      | 1 => advReduce s v e
      | 2 => advGather s v e
      | 3 => advScalar s v e
      | 4 => if s.outsOf v idx then s else s.finishEntry v idx false
      | 5 => advDispatch s v e
      | 6 => advCombine s v e
      | _ => permFinish (permSend s v e) v e

/-- The progress of every running entry of the collective engine. -/
def collAdvance (s : State) : State :=
  [1, 2, 3, 4, 5].foldl (fun a v => (a.cqueue v).run.foldl (fun b e => advance1 b v e.idx) a) s

end Sys2Proof.Machine
end

