-- ==== Sys2Proof/Machine/CollectiveOps.lean ====
section
/-! DEFINITION. The commands of the collective engine: queue entries (R179, R180) and the packets it consumes. -/

namespace Sys2Proof.Machine

/-- Is a kind allowed in a queue (Table 7.6)? -/
def kindInQueue (kind v : Nat) : Bool :=
  match kind with
  | 1 => v == 1 || v == 2
  | 2 => v == 1 || v == 2
  | 3 => v == 1 || v == 2
  | 4 => v == 2 || v == 3
  | 5 => v == 4
  | 6 => v == 4
  | 7 => v == 5
  | _ => false

/-- Is a range 64-byte aligned and wholly inside the HBM of one stack? -/
def hbmOk (s : State) (a n : Nat) : Bool := a % 64 == 0 && s.inHbm a n

/-- Do two ranges overlap? -/
def overlaps (a n b m : Nat) : Bool := decide (a < b + m) && decide (b < a + n) && n != 0 && m != 0

/-- Is a field of a descriptor out of range, or a reserved one not 0 (reason RANGE of R180)? -/
def collRange (s : State) (kind : Nat) (d : List Byte) : Bool :=
  let p := (s.groupMembers (rdLe d 1 1)).length
  let el := rdLe d 0x18 8
  let badEl := p == 0 || el % (p * 2048) != 0
  let post := !postWordOk (rdLe d 0x30 4) || rdLe d 0 1 != kind
  match kind with
  | 1 => post || (rdLe d 6 1 != 7 && rdLe d 6 1 != 9) || decide (1 < rdLe d 7 1) || !zeroAt d 0x2C 4 || !zeroAt d 0x34 4 || badEl
  | 2 => post || !zeroAt d 6 1 || decide (1 < rdLe d 7 1) || !zeroAt d 0x20 8 || !zeroAt d 0x2C 4 || !zeroAt d 0x34 12 || badEl
  | 3 =>
    let t := dec32 (rdLe d 0x28 4)
    post || !zeroAt d 6 1 || decide (1 < rdLe d 7 1) || !zeroAt d 0x20 8 || !zeroAt d 0x2C 4 || !zeroAt d 0x34 12 ||
      t.isNan || (t.sign && !t.isZero)
  | 4 => post || !zeroAt d 6 1 || decide (1 < rdLe d 7 1) || !zeroAt d 0x20 8 || !zeroAt d 0x2C 4 || !zeroAt d 0x34 12 ||
      el % 64 != 0 || decide (2 ^ 18 ≤ rdLe d 0x28 4) || decide (64 ≤ rdLe d 1 1)
  | 7 => post || rdLe d 6 1 == 0 || !zeroAt d 7 1 || !zeroAt d 0x20 16 || !zeroAt d 0x34 12
  | _ =>
    let c := dec32 (rdLe d 0x34 4)
    let rb := rdLe d 0x1C 2
    let e := rdLe d 0x1E 2
    post || rdLe d 6 1 == 0 || decide (8 < rdLe d 6 1) || !zeroAt d 7 1 || rb == 0 || rb % 64 != 0 || decide (32768 < rb) ||
      e == 0 || decide (4096 < e) || !c.isFin || c.sign || c.isZero

/-- Rows of the buffers of the local experts. -/
def localRows (s : State) (d : List Byte) (p : Nat) : Nat :=
  ((List.range (rdLe d 0x1E 2)).foldl (fun a x =>
    let o := expertAt s d x
    if o.1 = s.smn then max a (o.2 + 1) else a) 0) * p * dispCap d

/-- Is an address of a descriptor wrong (reason ADDR of R180)? -/
def collAddr (s : State) (kind : Nat) (d : List Byte) : Bool :=
  let p := (s.groupMembers (rdLe d 1 1)).length
  let el := rdLe d 0x18 8
  let a := rdLe d 8 8
  let b := rdLe d 0x10 8
  match kind with
  | 1 => !hbmOk s a (redElem (rdLe d 6 1) * el) || !hbmOk s b (4 * (el / p)) || !hbmOk s (rdLe d 0x20 8) 0x800000 ||
      (rdLe d 6 1 == 7 && !hbmOk s (rdLe d 0x38 8) (el / 64))
  | 2 => !hbmOk s a 64 || !hbmOk s a (imgSize (s.readBytes a 64)) || !hbmOk s b (p * roundUp (imgSize (s.readBytes a 64)) 64)
  | 3 => !hbmOk s a (64 * rdLe d 0x18 4) || !hbmOk s b 32
  | 4 => !hbmOk s a el || b % 64 != 0
  | 7 =>
    !hbmOk s a (32 * rdLe d 0x18 4) || !hbmOk s b (32 * rdLe d 0x1C 4) ||
      !((outMoves s d).all (fun m => hbmOk s (mvSrc m) (mvBytes m))) || !((inMoves s d).all (fun m => hbmOk s (mvDst m) (mvBytes m)))
  | _ =>
    let t := rdLe d 0x18 4
    let k := rdLe d 6 1
    let e := rdLe d 0x1E 2
    let rb := rdLe d 0x1C 2
    let loc := localRows s d p * rb
    !hbmOk s b (8 * t * k) || !hbmOk s (rdLe d 0x20 8) (2 * e) ||
      (if kind = 5 then !hbmOk s a (t * rb) || !hbmOk s (rdLe d 0x28 8) loc || !hbmOk s (rdLe d 0x38 8) (4 * e)
       else !hbmOk s a loc || !hbmOk s (rdLe d 0x28 8) (2 * t * rb))

/-- Does an entry of a routing array name no expert, or is its reserved field not 0 (Table 7.10)? -/
def routeBad (s : State) (d : List Byte) : Bool :=
  (dispRoute s d).any (fun q => decide (rdLe d 0x1E 2 ≤ q.1)) ||
  (List.range (rdLe d 0x18 4 * rdLe d 6 1)).any (fun i => !zeroAt (s.readBytes (rdLe d 0x10 8 + 8 * i) 8) 2 2)

/-- Further range checks, on data that the addresses name: the experts of a routing, the moves of a permute. -/
def collData (s : State) (kind : Nat) (d : List Byte) : Bool :=
  match kind with
  | 5 => routeBad s d
  | 6 => routeBad s d
  | 7 =>
    let all := outMoves s d ++ inMoves s d
    all.any (fun m => mvBytes m % 64 != 0 || decide (rdLe d 6 1 ≤ mvPass m) || !zeroAt m 2 2 || !zeroAt m 0x1C 4) ||
      (List.range (rdLe d 6 1)).any (fun p =>
        decide (0x80000000 < (((inMoves s d).filter (fun m => mvPass m == p)).map mvBytes).sum))
  | _ => false

/-- Is GROUP 0xFF, without the own module, or an expert's owner or a move's peer outside it (reason GROUP)? -/
def collGroup (s : State) (kind : Nat) (d : List Byte) : Bool :=
  if kind = 4 then false
  else
    let ms := s.groupMembers (rdLe d 1 1)
    rdLe d 1 1 == 0xFF || !ms.contains s.smn ||
      (match kind with
       | 5 => (List.range (rdLe d 0x1E 2)).any (fun x => !ms.contains (expertAt s d x).1)
       | 6 => (List.range (rdLe d 0x1E 2)).any (fun x => !ms.contains (expertAt s d x).1)
       | 7 => (outMoves s d ++ inMoves s d).any (fun m => !ms.contains (mvPeer m))
       | _ => false)

/-- The pairs of a list, each with a later element. -/
def pairsOf {α : Type} : List α → List (α × α)
  | [] => []
  | x :: l => l.map (fun y => (x, y)) ++ pairsOf l

/-- The overlaps that PERMUTE refuses (reason OVERLAP). -/
def permOverlap (s : State) (d : List Byte) : Bool :=
  (inMoves s d).any (fun m => (outMoves s d).any (fun o =>
    decide (mvPass m < mvPass o) && overlaps (mvDst m) (mvBytes m) (mvSrc o) (mvBytes o))) ||
  (pairsOf (inMoves s d)).any (fun q => overlaps (mvDst q.1) (mvBytes q.1) (mvDst q.2) (mvBytes q.2))

/-- Why an entry is refused (R180), if it is. -/
def collReason (s : State) (v kind : Nat) (en : QEntry) : Option Nat :=
  let d := s.readBytes en.desc 64
  let ep := rdLe d 4 2
  let cur := s.odGet 0x2010 1
  if !kindInQueue en.kind v then some 3
  else if en.rsv ≠ 0 then some 1
  else if !hbmOk s en.desc 64 then some 2
  else if rdLe d 1 1 = 0xFF && kind != 4 then some 4
  else if collRange s kind d then some 1
  else if collAddr s kind d then some 2
  else if collGroup s kind d then some 4
  else if collData s kind d then some 1
  else if (if kind = 7 then ep != (cur + 1) % 65536 else ep != cur) then some 5
  else if kind = 7 && permOverlap s d then some 6
  else if kind = 2 && rdLe (s.readBytes (rdLe d 8 8) 64) 6 1 % 2 == 0 then some 7
  else none

/-- The ranges that an entry of a kind reads when it starts. -/
def collReads (s : State) (kind : Nat) (d : List Byte) : List (Nat × Nat) :=
  let a := rdLe d 8 8
  let el := rdLe d 0x18 8
  match kind with
  | 1 => [(a, redElem (rdLe d 6 1) * el)] ++ (if rdLe d 6 1 = 7 then [(rdLe d 0x38 8, el / 64)] else [])
  | 2 => [(a, imgSize (s.readBytes a 64))]
  | 3 => [(a, 64 * rdLe d 0x18 4)]
  | 4 => [(a, el)]
  | 5 => [(a, rdLe d 0x18 4 * rdLe d 0x1C 2), (rdLe d 0x10 8, 8 * rdLe d 0x18 4 * rdLe d 6 1), (rdLe d 0x20 8, 2 * rdLe d 0x1E 2)]
  | 6 => [(rdLe d 0x10 8, 8 * rdLe d 0x18 4 * rdLe d 6 1), (rdLe d 0x20 8, 2 * rdLe d 0x1E 2)]
  | _ => [(a, 32 * rdLe d 0x18 4), (rdLe d 0x10 8, 32 * rdLe d 0x1C 4)] ++ (outMoves s d).map (fun m => (mvSrc m, mvBytes m))

/-- Start an accepted entry. -/
def startEntry (s : State) (v kind : Nat) (d : List Byte) : State :=
  let idx := (s.cqueue v).next.toNat
  let waited := s.qWait.contains (32 + v)
  let s1 := (s.freeHead (32 + v)).cqueueMod v (fun c => { c with next := c.next + 1, run := c.run ++ [{ idx := idx, desc := d }] })
  let s2 := match kind with
    | 1 => startReduce s1 v idx d
    | 2 => startGather s1 v idx d
    | 3 => startScalar s1 v idx d
    | 4 => startPut s1 v idx d
    | 5 => startDispatch s1 v idx d
    | 6 => startCombine s1 v idx d
    | _ => permExpect s1 v { idx := idx, desc := d }
  collAdvance (if waited then s2.bumpBy 0x5420 1 (s2.coll.ins.length - s1.coll.ins.length) else s2)

/-- The head of queue v, if it may start and is of a kind (an entry of a kind that Table 7.6 does not list belongs to every
command and is refused). -/
def collHead (s : State) (v kind : Nat) : State :=
  let c := s.cqueue v
  let running := (c.run.filter (fun e => !e.finished)).length
  if s.queuesStart && decide (1 ≤ v) && decide (v ≤ 5) && s.rung (s.cqSpec v).door c.next &&
      decide (running < s.odGet 0x5400 3) then
    let en := s.ringEntry (s.cqSpec v).base c.next.toNat
    match s.wrongLine [((s.cqSpec v).base + c.next.toNat % 1024 * 16, 16)] with
    | some a => s.eccFault a
    | none =>
    if en.kind ≠ kind && decide (1 ≤ en.kind) && decide (en.kind ≤ 7) then s
    else if hbmOk s en.desc 64 && en.kind != 7 && s.epochWaits (s.readNat (en.desc + 4) 2) then s.holdHead (32 + v)
    else match collReason s v kind en with
      | some r => (s.freeHead (32 + v)).refuseEntry v en.kind r
      | none =>
        let d := s.readBytes en.desc 64
        match s.wrongLine ((en.desc, 64) :: collReads s kind d) with
        | some a => s.eccFault a
        | none => startEntry s v kind d
  else s

/-- REDUCE (R185). -/
def execReduce (q : Nat) (s : State) : Host.Outcome State Fault Refusal := .next (collHead s q 1)
/-- GATHER (R187). -/
def execGather (q : Nat) (s : State) : Host.Outcome State Fault Refusal := .next (collHead s q 2)
/-- SCALAR (R189). -/
def execScalarEntry (q : Nat) (s : State) : Host.Outcome State Fault Refusal := .next (collHead s q 3)
/-- PUT (R184). -/
def execPut (q : Nat) (s : State) : Host.Outcome State Fault Refusal := .next (collHead s q 4)
/-- DISPATCH (R192). -/
def execDispatch (q : Nat) (s : State) : Host.Outcome State Fault Refusal := .next (collHead s q 5)
/-- COMBINE (R193). -/
def execCombine (q : Nat) (s : State) : Host.Outcome State Fault Refusal := .next (collHead s q 6)
/-- PERMUTE (R194). -/
def execPermute (q : Nat) (s : State) : Host.Outcome State Fault Refusal :=
  .next (collHead s q 7)

/-! ### Control packets -/

/-- A CACK acknowledges a stream, or grants it; a grant for a stream not yet open is kept. -/
def cackIn (s : State) (src : Nat) (x : RxPkt) : State :=
  let stype := rdLe x.body 0 1
  let rank := rdLe x.body 2 2
  let a := rdLe x.body 4 4
  let isIt (o : OutStream) : Bool := State.outIs o src x.coll stype rank
  match s.coll.outs.find? isIt with
  | none => if a = 0xFFFFFFFF then s.collMod (fun c => { c with grants := (src, x.coll, stype, rank) :: c.grants }) else s
  | some o =>
    let n := if a = 0xFFFFFFFF then 1 else a + 2
    let o' := { o with acked := max o.acked n }
    let s1 := s.collMod (fun c => { c with outs := c.outs.eraseP isIt })
    if o'.chunks.length + 1 ≤ o'.acked && State.outEnds o' then s1 else s1.pumpOut o'

/-- CACK (R181, R182). -/
def execCack (src : Nat) (s : State) : Host.Outcome State Fault Refusal :=
  match s.takeRx src 0x11 with
  | none => .next s
  | some (x, s1) =>
    let t := rdLe x.body 0 1
    if x.body.length ≠ 16 || t == 0 || decide (8 < t) then .next (s1.bump 0x5200 2)
    else .next (collAdvance (cackIn s1 src x))

/-- SCALAR_PACKET (R189). -/
def execScalarPacket (src : Nat) (s : State) : Host.Outcome State Fault Refusal :=
  match s.takeRx src 0x12 with
  | none => .next s
  | some (x, s1) =>
    if x.body.length ≠ 32 then .next (s1.bump 0x5200 2)
    else .next (collAdvance (s1.collMod (fun c => { c with scalars := c.scalars ++ [(src, x.coll, x.epoch, x.body)] })))

/-- REGATHER (R188): the owner resends the whole image directly to the receiver. -/
def execRegather (src : Nat) (s : State) : Host.Outcome State Fault Refusal :=
  match takeCtrl s src 2 with
  | (none, s1) => .next s1
  | (some (x, s1), _) =>
    let running := s1.coll.queues.flatMap (fun c => (c.2.run.map (·.desc)).filter (fun d => rdLe d 0 1 == 2))
    match (running ++ s1.coll.gathers).find? (fun d => rdLe d 2 2 == x.coll && rdLe d 4 2 == x.epoch) with
    | none => .next s1
    | some d =>
      let a := rdLe d 8 8
      let img := s1.readBytes a (imgSize (s1.readBytes a 64))
      let v := if s1.coll.queues.any (fun c => c.1 == 2 && c.2.run.any (fun e => e.desc == d)) then 2 else 1
      .next (s1.openOut { imgOut v 0 src x.coll x.epoch (rdLe d 0x28 4) (rdLe x.body 4 4) img with q := 0 } false)

/-- PUT_FAULT (R184): the PUT fails and never posts. -/
def execPutFault (src : Nat) (s : State) : Host.Outcome State Fault Refusal :=
  match takeCtrl s src 3 with
  | (none, s1) => .next s1
  | (some (x, s1), _) =>
    match s1.coll.outs.find? (fun o => State.outIs o src x.coll 4 0) with
    | none => .next s1
    | some o =>
      let s2 := (s1.collMod (fun c => { c with outs := c.outs.filter (fun p => !State.outIs p src x.coll 4 0) })).odSet 0x5400 8
        (4 * 2 ^ 24 + o.q * 2 ^ 20 + 8)
      .next ((s2.bump 0x5400 7).finishEntry o.q o.idx true)

/-- PASS_READY (R194): a receiver accepts a pass; one that comes before the own entry runs counts for it. -/
def execPassReady (src : Nat) (s : State) : Host.Outcome State Fault Refusal :=
  match takeCtrl s src 4 with
  | (none, s1) => .next s1
  | (some (x, s1), _) =>
    .next (collAdvance (s1.collMod (fun c => { c with passReady := (src, x.coll, rdLe x.body 4 4) :: c.passReady })))

/-- PERMUTE_DONE (R194). -/
def execPermuteDone (src : Nat) (s : State) : Host.Outcome State Fault Refusal :=
  match takeCtrl s src 5 with
  | (none, s1) => .next s1
  | (some (x, s1), _) => .next (collAdvance (s1.collMod (fun c => { c with permDone := (src, x.coll) :: c.permDone })))

/-! ### Chunks -/

/-- The bytes of the tensor that a chunk's elements take, first and count: ARG0 of a CONTRIB or PARTIAL counts FP32 elements. -/
def chunkSpan (x : RxPkt) : Nat × Nat :=
  match x.typ with
  | 1 => (4 * x.arg0, 2 * x.body.length)
  | 2 => (4 * x.arg0, x.body.length)
  | _ => (x.arg0, x.body.length)

/-- The new address of a chunk that a move covers (R195): of the move's tensor and within its bytes, or, for a PUT, whose ARG0 is an
address, within the range the move took. -/
def coveredAt (x : RxPkt) (m : List Byte) : Option Nat :=
  let p := chunkSpan x
  if x.typ = 4 then
    (if mvSrc m ≤ p.1 && decide (p.1 + p.2 ≤ mvSrc m + mvBytes m) then some (mvDst m + (p.1 - mvSrc m)) else none)
  else if rdLe m 0x18 4 = x.arg1 % 2 ^ 32 && decide (p.1 + p.2 ≤ mvBytes m) then some (mvDst m + p.1)
  else none

/-- A chunk of the previous epoch (R195): a retained move of its tensor covers it, and it goes to the module that now holds the
range, or, at this module, to its new address; with no such move it is discarded. By R251 such a chunk is a resend or a duplicate:
here an IMAGE or a PUT is written at its new address, and a CONTRIB or PARTIAL, whose sum has been formed, is acknowledged. -/
def remapChunk (s : State) (x : RxPkt) : State :=
  let stub : InStream := { src := x.src, coll := x.coll, epoch := x.epoch, stype := x.typ, rank := x.rank, vc := x.vc }
  let out := s.coll.retained.findSome? (fun m => (coveredAt x m).map (fun a => (mvPeer m, a)))
  let here := s.coll.retainedIn.findSome? (fun m => (coveredAt x m).map (fun a => (s.smn, a)))
  match out.or here with
  | none => (s.countNotify 0x5420 3).sendCack stub x.seq
  | some (peer, a) =>
    let s1 := s.bump 0x5420 2
    if peer = s.smn then
      (if (x.typ = 3 || x.typ == 4) && s1.inHbm a x.body.length then s1.writeBytes a x.body else s1).sendCack stub x.seq
    else
      let b := patch (patch x.bytes 0 (toLe 1 peer)) 6 (toLe 2 (s.odGet 0x2010 1))
      s1.nearSend { vc := x.vc, cls := 0, bytes := if x.typ = 4 then patch b 0x10 (toLe 8 a) else b }

/-- A chunk of a collective (R181, R195): of another epoch, of a stream that is expected, or of one that is not (which waits). -/
def chunkIn (s : State) (src typ : Nat) : State :=
  match s.takeRx src typ with
  | none => s
  | some (x, s1) =>
    let cur := s.odGet 0x2010 1
    let stub : InStream := { src := x.src, coll := x.coll, epoch := x.epoch, stype := x.typ, rank := x.rank, vc := x.vc }
    if typ ≠ 7 && x.epoch ≠ cur then
      (if (x.epoch + 1) % 65536 = cur then remapChunk s1 x else (s1.countNotify 0x5420 3).sendCack stub x.seq)
    else match s1.inStream src x.coll typ x.rank with
      | none => s
      | some i => collAdvance (s1.storeChunk i x false).1

/-- CONTRIB (R186). -/
def execContrib (src : Nat) (s : State) : Host.Outcome State Fault Refusal := .next (chunkIn s src 1)
/-- PARTIAL (R185). -/
def execPartialChunk (src : Nat) (s : State) : Host.Outcome State Fault Refusal := .next (chunkIn s src 2)
/-- IMAGE (R187). -/
def execImageChunk (src : Nat) (s : State) : Host.Outcome State Fault Refusal := .next (chunkIn s src 3)
/-- DISPATCH_PACKET (R193). -/
def execDispatchPacket (src : Nat) (s : State) : Host.Outcome State Fault Refusal := .next (chunkIn s src 5)
/-- COMBINE_PACKET (R193). -/
def execCombinePacket (src : Nat) (s : State) : Host.Outcome State Fault Refusal := .next (chunkIn s src 6)
/-- PERMUTE_PACKET (R194). -/
def execPermutePacket (src : Nat) (s : State) : Host.Outcome State Fault Refusal :=
  match s.takeRx src 7 with
  | none => .next s
  | some (x, _) =>
    let laid := if (s.inStream src x.coll 7 x.rank).isSome then stageChunk s x else s
    .next (chunkIn laid src 7)

/-- PUT_PACKET (R184): a chunk of a PUT; when the last is in, the bytes are written and REMOTE_SID posted, or the fault is
reported and nothing is written. -/
def execPutPacket (src : Nat) (s : State) : Host.Outcome State Fault Refusal :=
  match s.takeRx src 4 with
  | none => .next s
  | some (x, s1) =>
    let cur := s.odGet 0x2010 1
    let fresh : InStream := { src := src, coll := x.coll, epoch := x.epoch, stype := 4, rank := x.rank, vc := x.vc }
    if x.epoch ≠ cur then
      .next (if (x.epoch + 1) % 65536 = cur then remapChunk s1 x else (s1.countNotify 0x5420 3).sendCack fresh x.seq)
    else
      let i := (s1.inStream src x.coll 4 x.rank).getD fresh
      let k := if inDoneAndFirst i x then fresh else i
      let j := if x.seq = 0 && k.zeroth.isEmpty then { k with zeroth := x.bytes } else k
      let r := s1.storeChunk j x true
      if r.2 then
        match r.1.inStream src x.coll 4 x.rank with
        | none => .next r.1
        | some k =>
          let bytes := State.inBytes k
          let dst := match k.chunks.find? (fun c => c.1 == 0) with
            | some c => c.2.1
            | none => 0
          let reason := putFaultReason r.1 dst bytes.length
          let s2 := r.1.releaseIn x.coll (fun q => q.stype == 4 && q.src == src)
          if reason ≠ 0 then
            .next ((s2.bump 0x5400 7).sendCtrl src x.coll x.epoch 3 reason s2.smn 0 dst)
          else
            let s3 := (s2.writeBytes dst bytes).sendCack k (k.next - 1)
            .next (if Nat.testBit x.arg1 31 then s3.post (x.arg1 % 2 ^ 18) else s3)
      else .next r.1
where
  /-- Does a first chunk open a new PUT under the name of one that has ended, and is no resend of that one's (R181; DESIGN CHOICE,
  log 34: a resend is known by its equal bytes)? -/
  inDoneAndFirst (i : InStream) (x : RxPkt) : Bool := State.inDone i && x.seq == 0 && i.chunks.isEmpty && i.zeroth != x.bytes

/-- PERMUTE_PASS (R194): the pass of the running PERMUTE that has arrived and left whole. -/
def execPermutePass (s : State) : Host.Outcome State Fault Refusal :=
  match (s.cqueue 5).run.find? (fun e => !e.finished && permReady s 5 e) with
  | none => .next s
  | some e => .next (collAdvance (permPass s 5 e))

/-- CHUNK_RETRY (R181): a stream without progress resends every unacknowledged chunk. -/
def execChunkRetry (stream : Nat) (s : State) : Host.Outcome State Fault Refusal :=
  match s.coll.outs[stream]? with
  | none => .next s
  | some o =>
    if o.acked = 0 then .next s
    else
      .next ((List.range (o.sent + 1 - o.acked)).foldl (fun a i => a.nearSend (a.chunkPkt o (o.acked - 1 + i)))
        (s.bump 0x5400 5))

end Sys2Proof.Machine
end

