-- ==== Sys2Proof/Machine/Identity.lean ====
section
/-! DEFINITION. The device identity (R313), the site roster (Table 13.4), the own place in the layout, and local time. -/

namespace Sys2Proof.Machine

/-- The fused identity seed. -/
def fusedSeed : List Byte := (List.range 32).map Config.seedByte

/-- The identity private key (R313). -/
def identityKey : List Byte := hkdf512 [] fusedSeed (ascii "KRV-L960 identity v1") 32

/-- The identity public key, OD 0xA010.01. -/
def identityPub : List Byte := edPub identityKey

namespace State

/-! ### The roster -/

/-- The installed roster. -/
def roster (s : State) : List Byte := s.blobGet 0x6001 1

/-- Sites of the roster. -/
def siteCount (s : State) : Nat := rdLe s.roster 5 1

/-- The roster's entry of a site. -/
def siteEntry (s : State) (i : Nat) : List Byte := slice s.roster (0x80 + 128 * i) 128

/-- A far-port address of a site. -/
def siteAddr (s : State) (i port : Nat) : List Byte := slice (s.siteEntry i) (16 * port) 16

/-- The gateway keys of a site: the active gateway's and the standby's. -/
def gatewayKeys (s : State) (i : Nat) : List (List Byte) := [slice (s.siteEntry i) 0x20 32, slice (s.siteEntry i) 0x40 32]

/-- The site a source address belongs to (R197). -/
def siteOfAddr (s : State) (a : List Byte) : Option Nat :=
  (List.range s.siteCount).find? (fun i => s.siteAddr i 0 == a || s.siteAddr i 1 == a)

/-- The own site index, 0xFF before a roster is installed. -/
def ownSite (s : State) : Nat := s.odGet 0x6001 2

/-- The sites of the roster other than the own one. -/
def otherSites (s : State) : List Nat := (List.range s.siteCount).filter (· ≠ s.ownSite)

/-- The keeper entries of the roster. -/
def keeperEntries (s : State) : List (List Byte) :=
  (List.range (rdLe s.roster 6 2)).map (fun k => slice s.roster (0x80 + 128 * s.siteCount + 48 * k) 48)

/-- The identity key of a site's keeper of a shard. -/
def keeperKey (s : State) (site shard : Nat) : Option (List Byte) :=
  (s.keeperEntries.find? (fun e => rdLe e 0 1 == site && decide (rdLe e 4 4 ≤ shard) &&
    decide (shard < rdLe e 4 4 + rdLe e 8 4))).map (fun e => slice e 16 32)

/-- The first 32 bytes of SHA-512 of the roster (Table 8.7). -/
def rosterTag (s : State) : List Byte := (sha512 s.roster).take 32

/-! ### The own place in the site -/

/-- The roles of the module's own entry in the layout descriptor; 0 without one. -/
def ownRoles (s : State) : Nat :=
  match s.lEntry s.smn with
  | some m => m.roles
  | none => 0

/-- Is the module the active gateway of its site? -/
def isGateway (s : State) : Bool := Nat.testBit s.ownRoles 1 && !Nat.testBit s.ownRoles 4

/-- The site module number of the active gateway. -/
def gatewayOf (s : State) : Option Nat := (s.lModules.find? (fun m => Nat.testBit m.roles 1 && m.active)).map (·.smn)

/-- The module of the own site that keeps an outer shard. -/
def keeperOf (s : State) (shard : Nat) : Option Nat :=
  (s.lModules.find? (fun m => Nat.testBit m.roles 0 && m.active && decide (m.keepFirst ≤ shard) &&
    decide (shard < m.keepFirst + m.keepCount))).map (·.smn)

/-! ### Local time -/

/-- The module's own clock: federation time, or the nanoseconds counted while it is not established. -/
def clock (s : State) : Int := if s.time.ft = ftUnset then (s.time.now : Int) else s.time.ft

/-- Is a module past BOOT, and not yet stopping for a reset? -/
def running (s : State) : Bool := decide (stQuiet ≤ s.modState)

end State

end Sys2Proof.Machine
end

