-- ==== Sys2Proof/Machine/UpdateLog.lean ====
section
/-! DEFINITION. Shards (R114), the inner rule on one element (R124), and the deferred update log of the slow tier
(R128 to R131). -/

namespace Sys2Proof.Machine

/-! ### Shards -/

/-- BYTES of a payload by format and ELEMENTS (R114); none for a format no shard has. -/
def payloadSize (fmt el : Nat) : Option Nat :=
  match fmt with
  | 0 => some el
  | 1 => some el
  | 2 => some (el + el / 32)
  | 3 => some (el / 2 + el / 32)
  | 4 => some el
  | 5 => some (2 * el)
  | 6 => some (2 * el)
  | 7 => some (2 * el + el / 64)
  | 9 => some (4 * el)
  | _ => none

/-- FMT of a shard header. -/
def shFmt (h : List Byte) : Nat := rdLe h 5 1
/-- FLAGS of a shard header. -/
def shFlags (h : List Byte) : Nat := rdLe h 6 1
/-- DIGEST_VALID. -/
def shValid (h : List Byte) : Bool := Nat.testBit (shFlags h) 0
/-- SLOW. -/
def shSlow (h : List Byte) : Bool := Nat.testBit (shFlags h) 1
/-- ELEMENTS. -/
def shElems (h : List Byte) : Nat := rdLe h 0x18 8
/-- BYTES. -/
def shBytes (h : List Byte) : Nat := rdLe h 0x28 8

/-- Is a header right for a tensor in the tier it lies in (R120; ELEMENTS as Table 5.3 bounds it)? A reserved FMT gives no
BYTES to compare. -/
def headerOk (h : List Byte) (tensor : Nat) (slow : Bool) : Bool :=
  rdLe h 0 4 == 0x44524853 && rdLe h 4 1 == 1 && rdLe h 8 4 == tensor && shSlow h == slow &&
  decide (64 ≤ shElems h) && shElems h % 64 == 0 && (payloadSize (shFmt h) (shElems h)).all (· == shBytes h)

namespace State

/-- The header at an address. -/
def shard (s : State) (a : Nat) : List Byte := s.readBytes a 64

/-- Write DIGEST over the payload and set DIGEST_VALID. -/
def sealShard (s : State) (a : Nat) : State :=
  let h := s.shard a
  let d := foldDigest s (s.readBytes (a + 64) (shBytes h))
  s.writeBytes a (patch (patch h 6 (toLe 1 (shFlags h ||| 1))) 0x30 d)

/-- Add 1 to VERSION. -/
def bumpVersion (s : State) (a : Nat) : State :=
  s.writeBytes (a + 0x20) (toLe 8 ((rdLe (s.shard a) 0x20 8 + 1) % 2 ^ 64))

/-- Clear DIGEST_VALID. -/
def clearValid (s : State) (a : Nat) : State :=
  s.writeBytes (a + 6) (toLe 1 (shFlags (s.shard a) - shFlags (s.shard a) % 2))

end State

/-! ### The inner rule -/

/-- Bytes of a parameter: BF16 or FP32. -/
def paramW (fmt : Nat) : Nat := if fmt = 5 then 2 else 4

/-- A stored parameter. -/
def decParam (fmt w : Nat) : FV := if fmt = 5 then decBf16 w else dec32 w

/-- Store a parameter with SAT set (R68): its bits, and whether it saturated. -/
def encParam (fmt w : Nat) : Nat × Bool :=
  if fmt = 5 then
    let r := convFloat 5 true (dec32 w)
    (r.1, r.2 &&& flConvSat != 0)
  else (w, false)

/-- The sign of a value: -1, 0 or 1. -/
def signV (v : FV) : FV := if v.isZero then .fin false 0 0 else .fin v.sign 1 0

/-- The factor a of R124 from ETA, c and n as FP32 bits. -/
def ruleFactor (rule eta c n : Nat) : Nat :=
  match rule with
  | 0 => f32mul eta c
  | 1 => eta
  | _ => f32div eta n

/-- R124 on one element: the new parameter's bits, and whether it saturated. -/
def innerElem (rule a fmt w : Nat) (g : FV) : Nat × Bool :=
  let v := decParam fmt w
  encParam fmt (if rule = 1 then enc32 (v.add ((dec32 a).mul (signV g)).neg) else enc32 (((dec32 a).neg.mul g).add v))

/-- R124 on consecutive parameters from address `at_`. -/
def innerRow (s : State) (rule a fmt at_ : Nat) (gs : List FV) : State :=
  let ws := numsOf (paramW fmt) (s.readBytes at_ (paramW fmt * gs.length))
  let r := (ws.zip gs).map (fun q => innerElem rule a fmt q.1 q.2)
  (s.writeBytes at_ (r.flatMap (fun x => toLe (paramW fmt) x.1))).bumpBy 0x3400 8 (r.filter (·.2)).length

/-! ### The log -/

/-- Bytes of a log piece (R112). -/
def logPiece (s : State) : Nat := s.odGet 0x3100 3 / 8

/-- The address of a byte of the log ring (R112, R129). -/
def logAddr (s : State) (x : Nat) : Nat :=
  let y := x % (8 * logPiece s)
  y / logPiece s * hbmStride + (0x12A0400000 - 0x20000000 - logPiece s) + y % logPiece s

/-- SFP16 blocks of a row. -/
def rowBlocks (n : Nat) : Nat := ceilDiv n 64

/-- LENGTH of the entry of a row. -/
def rowLength (n : Nat) : Nat := 64 + roundUp (rowBlocks n) 64 + 128 * rowBlocks n

/-- The SFP16 form of a row (R71): scale bytes and codes, elements beyond the row 0. -/
def rowCodes (gs : List FV) : List (Nat × List Nat) :=
  (chunksOf 64 gs).map (fun b =>
    let c := convSfp16 true (b ++ List.replicate (64 - b.length) (.fin false 0 0))
    (c.1, c.2.1.map (·.1)))

/-- The gradient that an SFP16 row decodes to. -/
def rowDecode (n : Nat) (bs : List (Nat × List Nat)) : List FV := (bs.flatMap (fun b => b.2.map (decSfp16 b.1))).take n

/-- The bytes of a ROW entry (Table 5.7). -/
def rowEntry (rule fmt addr tensor row a seq hdr : Nat) (gs : List FV) : List Byte :=
  let bs := rowCodes gs
  let n := gs.length
  toLe 1 1 ++ toLe 1 rule ++ toLe 1 fmt ++ [0] ++ toLe 4 (rowLength n) ++ toLe 8 addr ++ toLe 4 tensor ++ toLe 4 row ++
  toLe 4 n ++ toLe 4 a ++ toLe 8 seq ++ toLe 8 hdr ++ zeros 16 ++
  padTo (roundUp (rowBlocks n) 64) (bs.flatMap (fun b => toLe 1 b.1)) ++ bs.flatMap (fun b => b.2.flatMap (toLe 2))

namespace State

/-- Write one entry at the log's head. -/
def logWrite (s : State) (bytes : List Byte) (len : Nat) : State :=
  let s1 := s.ownWrite (logAddr s s.logAt) bytes
  { (s1.odSet 0x3500 2 ((s1.odGet 0x3500 2 + 1) % 2 ^ 64)).odSet 0x3500 3 (s1.odGet 0x3500 3 + len) with
    logAt := (s.logAt + len) % (8 * logPiece s) }

/-- Append a row (R129): a PAD entry first where the rest of the piece is too short; none where the log has no room. -/
def logAppend (s : State) (rule fmt addr tensor row a hdr : Nat) (gs : List FV) : Option State :=
  let len := rowLength gs.length
  let rest := logPiece s - s.logAt % logPiece s
  let pad := if len ≤ rest then 0 else rest
  if len ≤ logPiece s && decide (s.odGet 0x3500 3 + pad + len ≤ 8 * logPiece s) then
    let s1 := if pad = 0 then s
      else s.logWrite (toLe 1 2 ++ zeros 3 ++ toLe 4 pad ++ zeros 24 ++ toLe 8 (s.odGet 0x3500 2) ++ zeros 24) pad
    some (s1.logWrite (rowEntry rule fmt addr tensor row a (s1.odGet 0x3500 2) hdr gs) len)
  else none

/-- The headers of the entries of the log from offset `x` on, with their places. -/
def logEntries (s : State) : Nat → Nat → List (Nat × List Byte)
  | 0, _ => []
  | n + 1, x =>
    let h := s.readBytes (logAddr s x) 64
    (x, h) :: logEntries s n ((x + rdLe h 4 4) % (8 * logPiece s))

/-- The entries from the tail up to the head. -/
def logHeld (s : State) : List (Nat × List Byte) := s.logEntries (s.odGet 0x3500 2 - s.odGet 0x3500 1) s.logFrom

/-- Is an entry as a unit wrote it: a PAD, or a ROW whose row and shard lie in the mapped slow tier? -/
def logEntryOk (s : State) (h : List Byte) : Bool :=
  rdLe h 0 1 == 2 ||
  (rdLe h 0 1 == 1 && s.inSlow (rdLe h 8 8) (paramW (rdLe h 2 1) * rdLe h 0x18 4) && s.inSlow (rdLe h 0x28 8) 64 &&
    s.inSlow (rdLe h 0x28 8) (64 + shBytes (s.shard (rdLe h 0x28 8))))

/-- Are the entries as units wrote them? False only where another has overwritten the log (R113), or a shard with entries in it is
unmapped. -/
def logOk (s : State) : Bool :=
  s.logHeld.all (fun e => s.logEntryOk e.2 && !s.foreignIn (logAddr s e.1) (max 64 (rdLe e.2 4 4)))

/-- A line with an uncorrectable error among those that an application of the log reads (R136). -/
def logWrong (s : State) : Option Nat := s.wrongLine (s.logHeld.map (fun e => (logAddr s e.1, max 64 (rdLe e.2 4 4))))

/-- Apply one entry (R130). -/
def applyEntry (s : State) (x : Nat) (h : List Byte) : State :=
  if rdLe h 0 1 = 1 then
    let n := rdLe h 0x18 4
    let b := rowBlocks n
    let sc := s.readBytes (logAddr s x + 64) b
    let gr := numsOf 2 (s.readBytes (logAddr s x + 64 + roundUp b 64) (128 * b))
    let codes := (List.range b).map (fun i => (leNat (slice sc i 1), (gr.drop (64 * i)).take 64))
    innerRow s (rdLe h 1 1) (rdLe h 0x1C 4) (rdLe h 2 1) (rdLe h 8 8) (rowDecode n codes)
  else s

/-- Apply the entries in SEQ order and complete each shard they name. -/
def applyHeld (s : State) : State :=
  let es := s.logHeld
  let s1 := es.foldl (fun a e => a.applyEntry e.1 e.2) s
  (((es.filter (fun e => rdLe e.2 0 1 == 1)).map (fun e => rdLe e.2 0x28 8)).dedup).foldl sealShard s1

/-- Apply a log whose lines have undefined contents (R113): what it writes into the mapped slow tier is open. -/
def applyOpen (s : State) : State :=
  ((Config.openLog s.free).filter (fun c => s.inSlow c.1 1)).foldl (fun a c => a.writeBytes c.1 [c.2]) { s with free := s.free + 1 }

/-- R130: every entry up to the head is applied and released. An entry with an uncorrectable error is fatal, and none is applied
(R136). -/
def applyLog (s : State) : State :=
  match s.logWrong with
  | some a => s.eccFault a
  | none =>
    let s2 := if s.logOk then s.applyHeld else s.applyOpen
    { (s2.odSet 0x3500 1 (s2.odGet 0x3500 2)).odSet 0x3500 3 0 with logFrom := s2.logAt }

end State

end Sys2Proof.Machine
end

