-- ==== Sys2Proof/Machine/Far.lean ====
section
/-! DEFINITION. The far transport (08): peers, frames and their protection, the retransmit ring, the hand-over of messages to the
gateway and to keepers, grants and supersession. -/

namespace Sys2Proof.Machine

/-! ### Neighbour resolution -/

/-- An address held as IPv4-mapped IPv6. -/
def isV4 (a : List Byte) : Bool := slice a 0 12 == zeros 10 ++ [0xFF, 0xFF]

/-- One's-complement sum of 16-bit big-endian words, folded. -/
def inetFold : Nat → Nat → Nat
  | 0, x => x
  | n + 1, x => if x < 65536 then x else inetFold n (x % 65536 + x / 65536)

/-- The Internet checksum of bytes. -/
def inetSum (bs : List Byte) : Nat := 65535 - inetFold 8 ((chunksOf 2 bs).foldl (fun a w => a + beNat (padTo 2 w)) 0)

/-- An ARP packet (RFC 826) for IPv4 over Ethernet. -/
def arpPacket (op : Nat) (sha spa tha tpa : List Byte) : List Byte :=
  toBe 2 1 ++ toBe 2 0x0800 ++ [6, 4] ++ toBe 2 op ++ sha ++ spa ++ tha ++ tpa

/-- The own hardware address of a far port. -/
def farMacBytes (k : Nat) : List Byte := toBe 6 (Config.farMac k).toNat

/-- An ICMPv6 message in an IPv6 packet with hop limit 255, its checksum filled in. -/
def icmp6Packet (src dst msg : List Byte) : List Byte :=
  let n := msg.length
  let c := inetSum (src ++ dst ++ toBe 4 n ++ toBe 4 58 ++ msg)
  [0x60, 0, 0, 0] ++ toBe 2 n ++ [58, 255] ++ src ++ dst ++ patch msg 2 (toBe 2 c)

namespace State

/-- The own address of a far port (OD 0x6002.04). -/
def farOwn (s : State) (k : Nat) : List Byte := slice (s.blobGet 0x6002 4) (32 * k) 16

/-- The next hop of a far port. -/
def farHop (s : State) (k : Nat) : List Byte := slice (s.blobGet 0x6002 4) (32 * k + 16) 16

/-- Change the far transport. -/
def farMod (s : State) (f : Far → Far) : State := { s with far := f s.far }

/-- Ask for the hardware address of a port's next hop (Table 8.1): an ARP request, or a solicitation to the hop's multicast group. -/
def askHop (s : State) (k : Nat) : State :=
  let own := s.farOwn k
  let hop := s.farHop k
  s.emit (.farNeighbour k (
    if isV4 hop then arpPacket 1 (farMacBytes k) (slice own 12 4) (zeros 6) (slice hop 12 4)
    else icmp6Packet own ([0xFF, 2] ++ zeros 9 ++ [1, 0xFF] ++ slice hop 13 3) ([135, 0, 0, 0] ++ zeros 4 ++ hop ++ [1, 1] ++ farMacBytes k)))

/-- Put a datagram on a far port. While the hardware address of the next hop is not known it waits, and the address is asked for
(DESIGN CHOICE, log 39: the spec does not say what a datagram without a resolved next hop does). -/
def farPut (s : State) (k : Nat) (d : Datagram) : State :=
  match fget 0 s.far.nbr k with
  | 0 => (s.askHop k).farMod (fun f => { f with waiting := f.waiting ++ [(k, d)] })
  | m + 1 => s.emit (.farDatagram k m d)

/-- A neighbour has told its hardware address: only the next hop's is kept (Table 8.1), and the datagrams that waited for it go. -/
def learnHop (s : State) (k : Nat) (ip mac : List Byte) : State :=
  if ip = s.farHop k then
    let s1 := s.farMod (fun f => { f with nbr := fput 0 f.nbr k (beNat mac + 1), waiting := f.waiting.filter (fun w => w.1 != k) })
    (s.far.waiting.filter (fun w => w.1 == k)).foldl (fun a w => a.farPut k w.2) s1
  else s

/-- The next hops may be others: what was learned, and what waited for it, is gone. -/
def forgetHops (s : State) : State := s.farMod (fun f => { f with nbr := [], waiting := [] })

/-- State of a far port (OD 0x6000): 0 down, 1 training, 2 up, 4 disabled by role. -/
def farSt (s : State) (k : Nat) : Nat := s.odGet 0x6000 (k + 1)

/-- Is a far port up and in service? -/
def farUp (s : State) (k : Nat) : Bool := decide (k < 2) && s.farSt k == 2 && s.portSvc 2 k == 0

end State

/-! ### Frames (Table 8.2) -/

/-- The outer header. -/
def farHeader (typ flags src dst len frameNo session seq : Nat) : List Byte :=
  toLe 1 1 ++ toLe 1 typ ++ toLe 1 flags ++ toLe 1 src ++ toLe 1 dst ++ [0] ++ toLe 2 len ++ toLe 4 frameNo ++
  toLe 4 session ++ toLe 8 seq ++ zeros 8

/-- Is a frame type listed in Table 8.3? -/
def farType (t : Nat) : Bool := [1, 2, 3, 4, 8, 9, 0xA, 0xB, 0x10, 0x11].contains t

/-- Does a frame have the form of 8.2 for a site? -/
def farForm (own : Nat) (b : List Byte) : Bool :=
  let t := rdLe b 1 1
  let n := rdLe b 6 2
  decide (32 ≤ b.length) && rdLe b 0 1 == 1 && farType t && rdLe b 2 1 / 16 == 0 && rdLe b 4 1 == own && rdLe b 5 1 == 0 &&
  rdLe b 0x16 2 == 0 && rdLe b 0x18 8 == 0 && b.length == (if 0x10 ≤ t then 32 + n else 48 + n) && decide (b.length ≤ 8192)

namespace State

/-! ### Peers -/

/-- A peer site. -/
def fpeer (s : State) (i : Nat) : FarPeer := fget {} s.far.peers i

/-- Change a peer. -/
def fpeerMod (s : State) (i : Nat) (f : FarPeer → FarPeer) : State :=
  s.farMod (fun x => { x with peers := fmod {} x.peers i f })

/-- Add to a peer's counter (OD 0x6010.05 to 0x6010.0C). -/
def peerCount (s : State) (i k n : Nat) : State :=
  s.fpeerMod i (fun p => { p with cnt := fmod 0 p.cnt k (fun c => (c + n) % 2 ^ 64) })

/-- A peer changes its state (R205). -/
def peerState (s : State) (i st : Nat) : State :=
  if (s.fpeer i).st = st then s else (s.fpeerMod i (fun p => { p with st := st })).notifyVal 0x6010 2 st

/-- Is the own site the initiator toward a peer (R210)? -/
def initiates (s : State) (i : Nat) : Bool := decide (s.ownSite < i)

/-- The bound port of a peer (R198). -/
def boundPort (s : State) (i : Nat) : Nat := s.odGet 0x6020 (i + 1) % 256

/-- The far port a peer uses: its bound port, or the other while it is moved (R198). -/
def peerPort (s : State) (i : Nat) : Nat := if (s.fpeer i).away then 1 - s.boundPort i else s.boundPort i

/-- MTU mode of a peer: 0 auto, 1 full, 2 fallback (R199). -/
def mtuMode (s : State) (i : Nat) : Nat := bitsN (s.odGet 0x6020 (i + 1)) 8 2

/-- Is the peer in fallback? A session keeps the mode it has found (R199). -/
def peerSmall (s : State) (i : Nat) : Bool := (s.fpeer i).small || ((s.fpeer i).st == 0 && s.mtuMode i == 2)

/-- Data bytes of a DATA frame (Table 8.3). -/
def frameCap (s : State) (i : Nat) : Nat := if s.peerSmall i then 1304 else 8096

/-- May frames leave toward a peer: the active gateway, its port up and not held (R156)? -/
def farReady (s : State) (i : Nat) : Bool :=
  s.isGateway && s.running && s.farUp (s.peerPort i) && !s.portHeld 2 (s.peerPort i)

/-- Put a frame for a peer on its port, to the peer's address of the same number, with the tag, DSCP and UDP port of OD 0x6002
(Table 8.1). -/
def farEmit (s : State) (i : Nat) (frame : List Byte) : State :=
  let k := s.peerPort i
  State.peerCount (s.farPut k {
    source := s.farOwn k, address := s.siteAddr i k, vlan := s.odGet 0x6002 3, dscp := s.odGet 0x6002 2, udp := s.odGet 0x6002 1,
    frame := frame }) i 5 1

/-- The keys of an epoch. -/
def farKey (s : State) (i epoch : Nat) : Option FarKey := (s.fpeer i).keys.find? (fun k => k.epoch == epoch)

/-! ### Handshakes (R210, R211) -/

/-- Bytes 0x00 to 0x7F of a handshake body. -/
def hsBody (s : State) (epoch : Nat) (small : Bool) (nonce pub : List Byte) : List Byte :=
  toLe 1 epoch ++ [0] ++ toLe 2 (if small then 1400 else 8192) ++ zeros 4 ++ nonce ++ pub ++ identityPub ++ s.rosterTag ++
  zeros 8

/-- A whole handshake frame: `extra` is signed besides (the HS_INIT body an HS_RESP answers), `pad` zero bytes follow. -/
def hsFrame (s : State) (i typ session : Nat) (body extra : List Byte) (pad : Nat) : List Byte :=
  let h := farHeader typ 0 s.ownSite i (192 + pad) 0 session 0
  h ++ body ++ edSign identityKey (ascii "KRV Remontoire HS" ++ h ++ body ++ extra) ++ zeros pad

/-- `n` fresh random bytes. -/
def randomBytes (s : State) (n : Nat) : List Byte × State :=
  let r := s.draw (8 * n)
  (toLe n r.1.toNat, r.2)

/-- The key material of a handshake (R212): initiator to responder key and salt, then the other direction's. -/
def hsKeys (shared nonceI nonceR : List Byte) (session epoch init resp : Nat) : List Byte :=
  hkdf512 (nonceI ++ nonceR) shared (ascii "KRV Remontoire v1" ++ toLe 4 session ++ toLe 1 epoch ++ toLe 1 init ++ toLe 1 resp) 72

/-- The keys as one end holds them. -/
def hsKey (epoch : Nat) (okm : List Byte) (initiator : Bool) : FarKey :=
  let a := slice okm 0 32
  let sa := slice okm 32 4
  let b := slice okm 36 32
  let sb := slice okm 68 4
  if initiator then { epoch := epoch, keyOut := a, saltOut := sa, keyIn := b, saltIn := sb }
  else { epoch := epoch, keyOut := b, saltOut := sb, keyIn := a, saltIn := sa }

/-- A key of an epoch joins the others; an older key of the same number is gone. -/
def addKey (ks : List FarKey) (k : FarKey) : List FarKey := k :: ks.filter (fun x => x.epoch ≠ k.epoch)

/-! ### The retransmit ring (R201, R202) -/

/-- Slots of the ring. -/
def ringSlots (s : State) : Nat := s.odGet 0x3100 2 / 8192

/-- The address of a ring slot (R112). -/
def ringAddr (s : State) (k : Nat) : Nat :=
  let piece := s.odGet 0x3100 2 / 8
  8192 * k / piece * hbmStride + (0x12A0400000 - 0x20000000 - logPiece s - piece) + 8192 * k % piece

/-- The ring slots in use. -/
def ringUsed (s : State) : List Nat :=
  s.far.peers.flatMap (fun c => (c.2.slots.filter (fun x => !x.retire)).map (·.slot))

/-- The first free ring slots. -/
def ringFree (s : State) (n : Nat) : List Nat :=
  let used := s.ringUsed
  ((List.range (n + used.length)).filter (fun k => !used.contains k)).take n

/-- Slots that a message of `len` bytes takes toward a peer. -/
def framesOf (s : State) (i len : Nat) : Nat := max 1 (ceilDiv len (s.frameCap i))

end State

/-- KIND of a data header. -/
def dhKind (h : List Byte) : Nat := rdLe h 0 1
/-- SHARD of a data header. -/
def dhShard (h : List Byte) : Nat := rdLe h 4 4
/-- ROUND of a data header. -/
def dhRound (h : List Byte) : Nat := rdLe h 8 4
/-- BASE of a data header. -/
def dhBase (h : List Byte) : Nat := rdLe h 0xC 4
/-- STAMP of a data header. -/
def dhStamp (h : List Byte) : Int := sInt 64 (rdLe h 0x10 8)
/-- MSG_LEN of a data header. -/
def dhLen (h : List Byte) : Nat := rdLe h 0x18 8
/-- OFFSET of a data header. -/
def dhOffset (h : List Byte) : Nat := rdLe h 0x20 8

/-- The data header of a message (Table 8.4) at OFFSET 0. -/
def dataHeader (kind origin shard round base : Nat) (stamp : Int) (len : Nat) : List Byte :=
  toLe 1 kind ++ [0] ++ toLe 1 origin ++ [0] ++ toLe 4 shard ++ toLe 4 round ++ toLe 4 base ++ toLe 8 (ftNat stamp) ++
  toLe 8 len ++ zeros 16

/-- Merge ascending numbers into half-open ranges. -/
def mergeRanges : List Nat → List (Nat × Nat)
  | [] => []
  | x :: l =>
    match mergeRanges l with
    | (a, b) :: r => if a = x + 1 then (x, b) :: r else (x, x + 1) :: (a, b) :: r
    | [] => [(x, x + 1)]

namespace State

/-- Write the bytes a gateway holds of a message into its ring slots toward a peer, and make the frames ready. -/
def fillSlots (s : State) (i : Nat) (m : FarMsg) (bytes : List Byte) : State :=
  let mine := (s.fpeer i).slots.filter (fun x => x.msg == m.num && !x.retire)
  let first := (mine.map (·.seq)).foldl min (2 ^ 64)
  let cap := s.frameCap i
  let s1 := mine.foldl (fun a x =>
    let o := (x.seq - first) * cap
    a.writeBytes (a.ringAddr x.slot) (patch m.hdr 0x20 (toLe 8 o) ++ slice bytes o (x.len - 48))) s
  s1.fpeerMod i (fun p => { p with slots := p.slots.map (fun x => if x.msg = m.num && !x.retire then { x with ready := true } else x) })

/-- Supersession (R207): the unreleased frames of older CONTRIB messages of the shard are retired, and RETIRE frames of at most
64 ranges name them. -/
def supersede (s : State) (i : Nat) (m : FarMsg) : State :=
  let old (x : FarSlot) : Bool := !x.retire && x.kind == 1 && x.shard == dhShard m.hdr && decide (x.round < dhRound m.hdr)
  let seqs := (((s.fpeer i).slots.filter old).map (·.seq)).mergeSort
  if dhKind m.hdr ≠ 1 || seqs.isEmpty then s
  else
    let frames := chunksOf 64 (mergeRanges seqs)
    let s1 := (s.fpeerMod i (fun p => { p with slots := p.slots.filter (fun x => !old x) })).peerCount i 12 seqs.length
    frames.foldl (fun a rs => a.fpeerMod i (fun p => { p with
      nextSeq := p.nextSeq + 1,
      slots := p.slots ++ [{
        seq := p.nextSeq, retire := true, msg := 0, kind := 0, shard := 0, round := 0, slot := 0, len := 16 * rs.length,
        body := rs.flatMap (fun r => toLe 8 r.1 ++ toLe 8 r.2), ready := true }] })) s1

/-- Give the frames of a granted message their ring slots and the next SEQs of a peer, in ascending OFFSET (R202). -/
def placeFrames (s0 : State) (m : FarMsg) (i : Nat) : State :=
  let cap := s0.frameCap i
  let len := dhLen m.hdr
  let free := s0.ringFree (s0.framesOf i len)
  let s1 := s0.fpeerMod i (fun p => { p with
    nextSeq := p.nextSeq + free.length,
    slots := p.slots ++ (List.range free.length).map (fun j => {
      seq := p.nextSeq + j, retire := false, msg := m.num, kind := dhKind m.hdr, shard := dhShard m.hdr,
      round := dhRound m.hdr, slot := free.getD j 0, len := 48 + min cap (len - j * cap) }) })
  match m.bytes with
  | some b => s1.fillSlots i m b
  | none => s1

/-- Sequence a granted message toward one peer (R202, R207). -/
def sequence (s : State) (m : FarMsg) (i : Nat) : State := (s.supersede i m).placeFrames m i

/-- Sequence numbers count from 0 again (R202): in a new session, or when its handshake falls back to smaller frames before any has
gone (R199). A message of which no frame is released yet is cut and numbered anew, if the ring has room; the rest of one that the
peer holds in part is gone (DESIGN CHOICE, log 39: the spec does not say what becomes of the messages of an ended session). -/
def renewSlots (s : State) (i : Nat) : State :=
  let whole (m : FarMsg) : Bool :=
    let mine := (s.fpeer i).slots.filter (fun x => x.msg == m.num && !x.retire)
    m.granted && !mine.isEmpty && (mine.map (fun x => x.len - 48)).sum == dhLen m.hdr
  (s.far.msgs.filter whole).foldl
    (fun a m => if a.ringUsed.length + a.framesOf i (dhLen m.hdr) ≤ a.ringSlots then a.placeFrames m i else a)
    (s.fpeerMod i (fun p => { p with slots := [], nextSeq := 0 }))

/-- The peers a message goes to. -/
def msgPeers (s : State) (m : FarMsg) : List Nat := if m.dest = 0xFF then s.otherSites else [m.dest]

/-! ### RELAY streams (R200, R206) -/

/-- A chunk of a RELAY stream: its offset, LAST flag, the data header in SIDE, and the payload. -/
def relayChunk (off : Nat) (last : Bool) (hdr payload : List Byte) : Nat × List Byte :=
  (off, toLe 1 (if last then 1 else 0) ++ slice hdr 0 32 ++ payload)

/-- Append chunks to a RELAY stream toward a keeper, opening it with the first; its destination grants at once. `site` is the
site the message comes from. -/
def relayAppend (s : State) (dst coll site : Nat) (cs : List (Nat × List Byte)) : State :=
  match s.coll.outs.find? (fun o => outIs o dst coll 8 0) with
  | some o => (s.collMod (fun c => { c with outs := c.outs.eraseP (fun x => outIs x dst coll 8 0) })).pumpOut
      { o with chunks := o.chunks ++ cs }
  | none => s.pumpOut {
      q := 0, idx := 0, dst := dst, vc := 6, coll := coll, epoch := s.odGet 0x2010 1, stype := 8, rank := 0, arg1 := site,
      chunks := cs, acked := 1 }

/-- The chunks of bytes at an offset. -/
def relayChunks (hdr : List Byte) (off : Nat) (bytes : List Byte) : List (Nat × List Byte) :=
  (byteChunks 4096 bytes).map (fun c => relayChunk (off + c.1) false hdr c.2)

/-- Write a whole message from `site` to the own site's keeper of its shard. -/
def relayWhole (s : State) (site : Nat) (hdr bytes : List Byte) : State :=
  match s.keeperOf (dhShard hdr) with
  | none => s
  | some k =>
    let c := s.far.nextColl
    (s.farMod (fun f => { f with nextColl := (f.nextColl + 1) % 65536 })).relayAppend k c site
      (relayChunks hdr 0 bytes ++ [relayChunk 0 true hdr []])

/-- The gateway holds a message whole: a CONTRIB of the own site also goes to the own keeper (R225). -/
def gatewayHolds (s : State) (m : FarMsg) (bytes : List Byte) : State :=
  if dhKind m.hdr = 1 then s.relayWhole s.ownSite m.hdr bytes else s

/-- A module hands a message to its gateway (R200, R201): its own if it is the gateway, otherwise by a RELAY stream whose first
chunk, the data header, goes at once. -/
def handOver (s : State) (dest : Nat) (hdr bytes : List Byte) : State :=
  let c := s.far.nextColl
  let s0 := s.farMod (fun f => { f with nextColl := (f.nextColl + 1) % 65536 })
  if s.isGateway then
    let m : FarMsg := { num := s.far.nextMsg, dest := dest, hdr := hdr, src := s.smn, coll := 0, bytes := some bytes }
    State.gatewayHolds (s0.farMod (fun f => { f with msgs := f.msgs ++ [m], nextMsg := f.nextMsg + 1 })) m bytes
  else
    match s.gatewayOf with
    | none => s
    | some g =>
      let data := if bytes.isEmpty then [] else byteChunks 4096 bytes
      let n := data.length
      let cs := (0, toLe 1 (if n = 0 then 1 else 0) ++ zeros 32 ++ hdr) ::
        (List.range n).map (fun j =>
          let d := data.getD j (0, [])
          (d.1, toLe 1 (if j + 1 = n then 1 else 0) ++ zeros 32 ++ d.2))
      let o : OutStream := {
        q := 0, idx := 0, dst := g, vc := 6, coll := c, epoch := s.odGet 0x2010 1, stype := 8, rank := 0, arg1 := dest,
        chunks := cs, sent := 1 }
      State.pumpOut (s0.nearSend (s0.chunkPkt o 0)) o

end State

end Sys2Proof.Machine
end

