-- ==== Sys2Proof/Machine/Firmware.lean ====
section
/-! DEFINITION. The firmware store, the manifest checks, the boot ROM's choice of a slot, commit and update (13, 13.1 to 13.3),
and the factory's identity values (R340). -/

namespace Sys2Proof.Machine

/-- The serial number, OD 0x1000.03 (R340). -/
def serial : List Byte :=
  ascii "KRVL960A1" ++ (List.range 7).map (fun i => BitVec.ofNat 8 (0x30 + (Config.serialDigit i).val))

/-- OD 0x1000.06: a universally administered unicast MAC address in the low 48 bits (R340). -/
def fieldMac : Nat := Config.fieldMac.toNat &&& 0xFCFFFFFFFFFF

/-- The manifest of the firmware release that the module left the factory with (R340): a valid one of release 1.0 or later, the rest of
it open. -/
def factoryManifest : List Byte :=
  let m := Config.factoryManifest
  let n := 1 + rdLe m 5 1 % 16
  patch (patch (padTo (128 + 96 * n) m) 0 (ascii "KFWM" ++ [1] ++ toLe 1 n ++ toLe 1 (rdLe m 6 1 % 4))) 8
    (toLe 4 (max 0x01000000 (rdLe m 8 4)) ++ toLe 4 (rdLe m 0xC 4 % 129) ++ toLe 4 0x960 ++ toLe 2 0xA1 ++ zeros 2)

/-! ### Manifests (Table 13.1) -/

/-- Bytes of a manifest, SIG included. -/
def fwLen (b : List Byte) : Nat := 128 + 96 * rdLe b 5 1

/-- The manifest of an image, SIG included. -/
def fwManifest (b : List Byte) : List Byte := b.take (fwLen b)

/-- ROLLBACK of a manifest. -/
def fwRollback (b : List Byte) : Nat := rdLe b 0xC 4

/-- FW_VERSION of a manifest. -/
def fwVersion (b : List Byte) : Nat := rdLe b 8 4

/-- The segments of a manifest: LENGTH, OFFSET and DIGEST. -/
def fwSegs (b : List Byte) : List (Nat × Nat × List Byte) :=
  (List.range (rdLe b 5 1)).map (fun k =>
    (rdLe b (0x44 + 96 * k) 4, rdLe b (0x48 + 96 * k) 8, slice b (0x60 + 96 * k) 64))

/-- Do no two ranges (length, offset) overlap? -/
def disjoint : List (Nat × Nat) → Bool
  | [] => true
  | (n, o) :: rs => rs.all (fun r => decide (o + n ≤ r.2) || decide (r.2 + r.1 ≤ o)) && disjoint rs

/-- Check 1 of R307. -/
def fwForm (b : List Byte) : Bool :=
  let segs := fwSegs b
  rdLe b 0 4 == 0x4D57464B && rdLe b 4 1 == 1 && decide (1 ≤ rdLe b 5 1) && decide (rdLe b 5 1 ≤ 16) &&
  rdLe b 0x10 4 == 0x960 && rdLe b 0x14 2 == 0xA1 && rdLe b 0x16 2 == 0 && rdLe b 0x1C 4 == 0 &&
  bitsN (rdLe b 7 1) 4 4 == 0 && !Nat.testBit (rdLe b 7 1) (rdLe b 6 1) &&
  decide (rdLe b 0x18 4 ≤ 0x2000000) && decide (rdLe b 0x18 4 ≤ b.length) && decide (fwRollback b ≤ 128) &&
  (List.range (rdLe b 5 1)).all (fun k => rdLe b (0x41 + 96 * k) 3 == 0 && rdLe b (0x58 + 96 * k) 8 == 0) &&
  segs.all (fun g => g.2.1 % 64 == 0 && decide (fwLen b ≤ g.2.1) && decide (g.2.1 + g.1 ≤ rdLe b 0x18 4)) &&
  disjoint (segs.map (fun g => (g.1, g.2.1)))

namespace State

/-! ### Fuses (13.2) -/

/-- The fused rollback counter: the factory release's ROLLBACK (R340), or what commits have raised it to. -/
def fuseRollback (s : State) : Nat := max (fwRollback factoryManifest) s.store.rollback

/-- The revoked firmware key slots. -/
def fuseRevoked (s : State) : Nat := Config.factoryRevoked.toNat ||| s.store.revoked

/-- Is a key slot revoked? The release of the factory is signed under a key slot that the factory has not revoked (R340). -/
def keyRevoked (s : State) (k : Nat) : Bool := Nat.testBit s.fuseRevoked k

/-- Check 2 of R307. -/
def fwKeyOk (s : State) (b : List Byte) : Bool :=
  let k := rdLe b 6 1
  decide (k < 4) && sha512 (slice b 0x20 32) == Config.keyDigest k && !s.keyRevoked k

/-- R307: the failure code of an image, 0 where it is valid. -/
def fwFail (s : State) (b : List Byte) : Nat :=
  if !fwForm b then 1
  else if !s.fwKeyOk b then 2
  else if !edVerify (slice b 0x20 32) (ascii "KRV firmware" ++ b.take (fwLen b - 64)) (slice b (fwLen b - 64) 64) then 3
  else if fwRollback b < s.fuseRollback then 4
  else if (fwSegs b).all (fun g => sha512 (slice b g.2.1 g.1) == g.2.2) then 0
  else 5

/-! ### Slots and control blocks -/

/-- A slot. -/
def slotImg (s : State) (k : Nat) : SlotImg := if k = 0 then s.store.slot0 else s.store.slot1

/-- The manifest of a slot. -/
def slotManifest (s : State) (k : Nat) : List Byte :=
  match s.slotImg k with
  | .factory => factoryManifest
  | .empty => []
  | .image b => fwManifest b

/-- The failure code of a slot under R307; the factory's release can fail only through what commits have blown since. -/
def slotFail (s : State) (k : Nat) : Nat :=
  match s.slotImg k with
  | .factory =>
    if Nat.testBit s.store.revoked (rdLe factoryManifest 6 1) then 2
    else if fwRollback factoryManifest < s.fuseRollback then 4
    else 0
  | .empty => 1
  | .image b => s.fwFail b

/-- Does a slot's manifest fail check 2 or check 4 of R307 (R311)? -/
def slotStale (s : State) (k : Nat) : Bool :=
  match s.slotImg k with
  | .factory => s.slotFail k != 0
  | .empty => true
  | .image b => !s.fwKeyOk b || decide (fwRollback b < s.fuseRollback)

/-- The control block in force: the higher SEQ. -/
def ctl (s : State) : CtlBlock := if s.store.ctl1.seq < s.store.ctl0.seq then s.store.ctl0 else s.store.ctl1

/-- Write a control block: the other copy is overwritten. -/
def ctlWrite (s : State) (f : CtlBlock → CtlBlock) : State :=
  let c := f s.ctl
  let n : CtlBlock := { c with seq := s.ctl.seq + 1 }
  if s.store.ctl1.seq < s.store.ctl0.seq then { s with store := { s.store with ctl1 := n } }
  else { s with store := { s.store with ctl0 := n } }

/-- Write an image to a slot. -/
def slotWrite (s : State) (k : Nat) (b : List Byte) : State :=
  if k = 0 then { s with store := { s.store with slot0 := .image b } }
  else { s with store := { s.store with slot1 := .image b } }

/-- Is a slot confirmed? -/
def confirmed (s : State) (k : Nat) : Bool := Nat.testBit s.ctl.confirmed k

/-- Set or clear the CONFIRMED bit of a slot. -/
def withConfirmed (c : CtlBlock) (k : Nat) (on : Bool) : CtlBlock :=
  { c with confirmed := if on then c.confirmed ||| 2 ^ k else c.confirmed - (c.confirmed &&& 2 ^ k) }

/-- The running slot and the failure code go to the retained registers. -/
def romRun (s : State) (k fail : Nat) : State := { s with store := { s.store with running := k, bootFail := fail } }

/-- The ROM tries the other slot, if it is confirmed. -/
def romOther (s : State) (k fail : Nat) : State × Bool :=
  if s.confirmed k then
    let f := s.slotFail k
    if f = 0 then (s.romRun k fail, true) else (s.romRun s.store.running f, false)
  else (s.romRun s.store.running fail, false)

/-- R308: the boot ROM chooses a slot; false where none is valid and it enters recovery. -/
def romChoose (s : State) : State × Bool :=
  let c := s.ctl
  let p := c.preferred
  if c.trial || s.confirmed p then
    let s1 := if c.trial then s.ctlWrite (fun c => { c with trial := false }) else s
    let f := s1.slotFail p
    if f = 0 then (s1.romRun p 0, true) else s1.romOther (1 - p) f
  else s.romOther (1 - p) 6

/-- R310: the running slot is confirmed and preferred. -/
def fwConfirm (s : State) : State :=
  s.ctlWrite (fun c => { withConfirmed c s.store.running true with preferred := s.store.running, trial := false })

/-- R311: commit. -/
def fwCommit (s : State) : State :=
  let m := s.slotManifest s.store.running
  let s1 : State := { s with store := { s.store with
    rollback := max s.fuseRollback (fwRollback m), revoked := s.store.revoked ||| bitsN (rdLe m 7 1) 0 4 } }
  if [0, 1].any (fun k => s1.confirmed k && s1.slotStale k) then
    s1.ctlWrite (fun c => [0, 1].foldl (fun a k => if s1.slotStale k then withConfirmed a k false else a) c)
  else s1

/-- R312, step 1: a verified image goes to the slot that does not run. -/
def fwStore (s : State) (b : List Byte) : State :=
  let k := 1 - s.store.running
  let s1 := (s.slotWrite k b).ctlWrite (fun c => withConfirmed c k false)
  { s1 with store := { s1.store with verified := some k } }

/-- R312, step 2: the verified slot is preferred, on trial. -/
def fwActivate (s : State) (k : Nat) : State := s.ctlWrite (fun c => { c with preferred := k, trial := true })

/-- OD 0xA300.03. -/
def fwSlots (s : State) : Nat :=
  s.store.running + (if s.ctl.trial then 2 else 0) + 4 * (s.ctl.confirmed % 4) + 16 * (s.ctl.preferred % 2)

/-- OD 0xA000.03: the fuse image with the seed zeroed; its layout is open (log 6). -/
def fuseImage (s : State) : List Byte := (List.range 1024).map (fun i => Config.fuseByte s.fuseRollback s.fuseRevoked i)

/-! ### Attestation (13.5) -/

/-- The report of Table 13.3 for a session number and its OPEN NONCE. -/
def attestReport (s : State) (session : Nat) (nonce : List Byte) : List Byte :=
  let b (x : Bool) (v : Nat) := if x then v else 0
  let m := s.slotManifest s.store.running
  let body := ascii "ATST" ++ [1] ++ toLe 1 s.modState ++
    toLe 2 (b (s.odGet 0xA500 3 != 0) 1 + b (s.odGet 0xA200 2 == 1) 2 + b (!s.confirmed s.store.running) 4 +
      b (!(s.blobGet 0xA100 1).isEmpty) 8 + b (!s.roster.isEmpty) 16) ++
    padTo 16 serial ++ toLe 2 0xA1 ++ toLe 1 s.store.running ++ toLe 1 (s.odGet 0xA500 3) ++
    toLe 4 (s.odGet 0x1000 5) ++ toLe 4 (fwVersion m) ++ toLe 4 (fwRollback m) ++ toLe 4 s.fuseRollback ++ toLe 4 session ++
    toLe 8 (ftNat s.time.ft) ++ toLe 8 (s.odGet 0x1101 1) ++ padTo 16 nonce ++ zeros 16 ++
    sha512 m ++ sha512 s.fuseImage ++ padTo 64 (s.blobGet 0x1300 2) ++
    (if s.roster.isEmpty then zeros 64 else sha512 s.roster) ++ sha512 (s.blobGet 0xA100 1) ++ identityPub
  body ++ edSign identityKey (ascii "KRV attestation" ++ body)

end State

end Sys2Proof.Machine
end

