-- ==== Sys2Proof/Machine/FarFrames.lean ====
section
/-! DEFINITION. The commands of the far link (08): received frames, handshakes, acknowledgements, timers, ports and sending. -/

namespace Sys2Proof.Machine

namespace State

/-- Change a message under way. -/
def farRxPut (s : State) (i : Nat) (m : FarRx) : State :=
  s.fpeerMod i (fun p => { p with rx := m :: p.rx.filter (fun x => x.hdr != m.hdr) })

/-- A message under way ends. -/
def farRxDrop (s : State) (i : Nat) (hdr : List Byte) : State :=
  s.fpeerMod i (fun p => { p with rx := p.rx.filter (fun x => x.hdr != hdr) })

/-- Is a message for the gateway itself (Table 9.9)? -/
def forGateway (hdr : List Byte) : Bool := dhKind hdr == 2 && dhShard hdr == 0xFFFFFFFF

/-- Abort a message at its keeper (R208). -/
def farAbort (s : State) (i : Nat) (m : FarRx) : State :=
  let s1 := s.farRxDrop i m.hdr
  if forGateway m.hdr then s1
  else match s1.keeperOf (dhShard m.hdr) with
    | none => s1
    | some k => s1.relayAppend k m.coll i [relayChunk 0 false m.hdr []]

/-! ### Sessions -/

/-- A session toward a peer begins (R210): what the old one held is gone, its incomplete messages are aborted at their keepers
(R208), and the messages granted to the peer are numbered from 0. -/
def farSession (s : State) (i session : Nat) (small : Bool) : State :=
  let s1 := (s.fpeer i).rx.foldl (fun a m => a.farAbort i m) s
  (s1.fpeerMod i (fun q => {
    st := q.st, away := q.away, skip := q.skip, session := session, small := small, slots := q.slots, nextSeq := q.nextSeq })).renewSlots i

/-- The HS_INIT of the handshake under way, at its next sending: a session's first handshake is padded to the probe size, and
after three probes in auto mode the peer falls back (R199). Only an attempt that leaves counts. -/
def sendInit (s : State) (i : Nat) : State :=
  match (s.fpeer i).hs with
  | none => s
  | some h =>
    if !s.farReady i then s
    else
      let drop := h.fresh && s.mtuMode i == 0 && decide (3 ≤ h.sent) && !(s.fpeer i).small
      let s1 := if drop then (s.fpeerMod i (fun q => { q with small := true })).renewSlots i else s
      let pad := if h.fresh then (if s1.peerSmall i then 1400 else 8192) - 224 else 0
      let f := s1.hsFrame i 0x10 (s.fpeer i).session (s1.hsBody h.epoch (s1.peerSmall i) h.nonce (x25519 h.priv x25519Base)) [] pad
      (s1.fpeerMod i (fun q => { q with hs := some { h with frame := f, sent := h.sent + 1 } })).farEmit i f

/-- The initiator starts a handshake (R210, R213). -/
def startHs (s : State) (i : Nat) (fresh : Bool) : State :=
  let p := s.fpeer i
  let n := s.randomBytes 16
  let e := n.2.randomBytes 32
  let h : FarHs := { epoch := if fresh then 0 else (p.epoch + 1) % 4, nonce := n.1, priv := e.1, frame := [], sent := 0, fresh := fresh }
  if fresh then
    let d := e.2.draw 32
    let x := d.1.toNat
    let y := if x = 0 || x == p.session then (x + 1) % 2 ^ 32 else x
    let z := if y = 0 || y == p.session then y + 1 else y
    let s1 := (d.2.farSession i z (s.mtuMode i == 2)).fpeerMod i (fun q => { q with hs := some h })
    (s1.peerState i 1).sendInit i
  else (e.2.fpeerMod i (fun q => { q with hs := some h })).sendInit i

/-- The first handshake of a session toward an idle peer. -/
def firstHs (s : State) (i : Nat) : State :=
  if s.isGateway && s.initiates i && (s.fpeer i).st == 0 && s.farUp (s.peerPort i) then s.startHs i true else s

/-- The initiator asks for a new key, if it may: a session in use and no handshake under way (R213). -/
def wantKey (s : State) (i : Nat) : State :=
  let p := s.fpeer i
  if s.initiates i && decide (2 ≤ p.st) && p.hs.isNone then s.startHs i false else s

/-- After 2^31 frames under a key the initiator starts a new one, and the responder asks for it (R213). -/
def keyWear (s : State) (i : Nat) : State :=
  if 2 ^ 31 ≤ (s.fpeer i).frameNo then
    (if s.initiates i then s.wantKey i else s.fpeerMod i (fun p => { p with rekey := true }))
  else s

/-! ### Sealed frames (R212) -/

/-- May a sealed frame leave toward a peer: a session in use (Table 8.6), its port ready, and FRAME_NO below 2^32 - 1 (R213)? -/
def maySeal (s : State) (i : Nat) : Bool :=
  let p := s.fpeer i
  decide (2 ≤ p.st) && s.farReady i && (s.farKey i p.epoch).isSome && decide (p.frameNo < 2 ^ 32 - 1)

/-- Seal and send one frame: under the sending epoch and a new FRAME_NO. -/
def sealFrame (s : State) (i typ seq : Nat) (body : List Byte) (retx : Bool) : State :=
  let p := s.fpeer i
  match s.farKey i p.epoch with
  | none => s
  | some k =>
    let flags := p.epoch + (if retx then 4 else 0) + (if p.rekey then 8 else 0)
    let h := farHeader typ flags s.ownSite i body.length p.frameNo p.session seq
    let c := gcmSeal k.keyOut (k.saltOut ++ toLe 8 p.frameNo) h body
    ((s.farEmit i (h ++ c.1 ++ c.2)).fpeerMod i (fun q => { q with frameNo := q.frameNo + 1 })).keyWear i

/-- The CONFIRM that the initiator owes as its first frame under a new key (R214) goes as soon as a frame may. -/
def sendConfirm (s : State) (i : Nat) : State :=
  if (s.fpeer i).owesConfirm && s.maySeal i then
    (s.sealFrame i 4 0 [] false).fpeerMod i (fun p => { p with owesConfirm := false })
  else s

/-- Send one frame, if it may leave, after a CONFIRM that is owed. The flag tells whether it left. -/
def farSend (s : State) (i typ seq : Nat) (body : List Byte) (retx : Bool) : State × Bool :=
  let s1 := s.sendConfirm i
  if s1.maySeal i then (s1.sealFrame i typ seq body retx, true) else (s, false)

/-! ### Ports -/

/-- A peer moves to a far port (R198). -/
def movePeer (s : State) (i k : Nat) : State :=
  if s.peerPort i = k then s
  else ((s.fpeerMod i (fun p => { p with away := !p.away, skip := 16 })).bump 0x6000 4).sendConfirm i

/-- A far port has lost its link or its service: its peers move to the other port if that is up, and datagrams that wait for its next
hop are gone. -/
def leavePort (s : State) (k : Nat) : State :=
  s.otherSites.foldl (fun a i => if a.peerPort i = k && a.farUp (1 - k) then a.movePeer i (1 - k) else a)
    (s.farMod (fun f => { f with waiting := f.waiting.filter (fun w => w.1 != k) }))

/-! ### Receiving -/

/-- An authenticated frame (R204, R205, R214): the responder's sending direction follows its newest epoch, and the peer is UP. -/
def authentic (s : State) (i epoch : Nat) : State :=
  let p := s.fpeer i
  let newest := (p.keys.head?.map (·.epoch)) == some epoch
  let turn := newest && (p.st == 1 || epoch != p.epoch) && !s.initiates i
  let s1 := s.fpeerMod i (fun q => { q with heard := if newest then epoch else q.heard })
  let s2 := if turn then (s1.fpeerMod i (fun q => { q with epoch := epoch, frameNo := 0, rekey := false })).bump 0x6400 2 else s1
  if turn || p.st = 3 then s2.peerState i 2 else s2

/-- Is a transmission fresh in the replay window (R215)? -/
def freshNo (k : FarKey) (n : Nat) : Bool := !k.seen.contains n && decide (k.top ≤ n + 4097)

/-- Mark a transmission in the window. -/
def markNo (k : FarKey) (n : Nat) : FarKey :=
  let t := max k.top (n + 1)
  { k with top := t, seen := (n :: k.seen).filter (fun x => decide (t ≤ x + 4097)) }

/-- The site a datagram comes from: an unknown source is a foreign frame on any far port that is up (R197; DESIGN CHOICE, log 39: the own
site's address counts as one). The active gateway listens on: a wrong form is counted at the peer (8.2), and a frame of another listed
type is not this command's. -/
def farAccept (s : State) (port : Nat) (src bytes : List Byte) (typ : Nat) : State × Option Nat :=
  if !s.running || !s.farUp port then (s, none)
  else
    match s.siteOfAddr src with
    | none => (s.bump 0x6000 3, none)
    | some i =>
      if i = s.ownSite then (s.bump 0x6000 3, none)
      else if !s.isGateway then (s, none)
      else if !farForm s.ownSite bytes || rdLe bytes 3 1 != i then (s.peerCount i 8 1, none)
      else if rdLe bytes 1 1 ≠ typ then (s, none)
      else (s, some i)

/-- Decrypt and check a frame (R212, R214, R215): the peer, the outer header and the plain body. REKEY, and a FRAME_NO of 2^31 under
the current key, make the initiator start a new key (R213). -/
def farOpen (s : State) (port : Nat) (src bytes : List Byte) (typ : Nat) : State × Option (Nat × List Byte × List Byte) :=
  match s.farAccept port src bytes typ with
  | (t, none) => (t, none)
  | (t, some i) =>
    let h := slice bytes 0 32
    let e := rdLe h 2 1 % 4
    match t.farKey i e with
    | none => (t.peerCount i 10 1, none)
    | some k =>
      let n := rdLe h 6 2
      let no := rdLe h 8 4
      if rdLe h 0xC 4 ≠ (t.fpeer i).session then (t.peerCount i 9 1, none)
      else
        match gcmOpen k.keyIn (k.saltIn ++ toLe 8 no) h (slice bytes 32 n) (slice bytes (32 + n) 16) with
        | none => (t.peerCount i 9 1, none)
        | some plain =>
          if !freshNo k no then (t.peerCount i 9 1, none)
          else
            let t1 := t.fpeerMod i (fun p => { p with keys := p.keys.map (fun x => if x.epoch = e then markNo x no else x) })
            let t2 := t1.authentic i e
            let worn := decide (2 ^ 31 ≤ no) && e == (t2.fpeer i).epoch
            (if Nat.testBit (rdLe h 2 1) 3 || worn then t2.wantKey i else t2, some (i, h, plain))

/-! ### Acknowledgement (R203, R204) -/

/-- The body of the ACK that a receiver sends now (Table 8.5). -/
def ackBody (s : State) (p : FarPeer) : List Byte :=
  let e := p.echo.getD (0, 0, s.time.now)
  let ranges := ((mergeRanges p.held.mergeSort).reverse).take 8
  toLe 8 p.cum ++ toLe 4 e.1 ++ toLe 1 e.2.1 ++ toLe 1 p.heard ++ toLe 1 ranges.length ++ [0] ++
  toLe 8 (s.time.now - e.2.2) ++ ranges.flatMap (fun r => toLe 8 r.1 ++ toLe 8 r.2)

/-- Send an ACK. -/
def sendAck (s : State) (i : Nat) : State :=
  let r := s.farSend i 2 0 (s.ackBody (s.fpeer i)) false
  if r.2 then r.1.fpeerMod i (fun p => { p with ackDue := 0 }) else s

/-- The lowest SEQ not held from `c` on, and what stays held above it. -/
def advanceCum : Nat → Nat → List Nat → Nat × List Nat
  | 0, c, l => (c, l)
  | fuel + 1, c, l => if l.contains c then advanceCum fuel (c + 1) (l.filter (· ≠ c)) else (c, l)

/-- Mark SEQs as held or retired. -/
def holdSeqs (p : FarPeer) (l : List Nat) : FarPeer :=
  let h := (l.filter (fun x => decide (p.cum ≤ x))) ++ p.held.filter (fun x => !l.contains x)
  let r := advanceCum h.length p.cum h
  { p with cum := r.1, held := r.2 }

/-- A sequenced frame arrives (R203): what the next ACK echoes, and whether the frame is accepted. A discarded one is counted and
acknowledged again. -/
def seqArrives (s : State) (i : Nat) (h : List Byte) : State × Bool :=
  let p := s.fpeer i
  let q := rdLe h 0x10 6
  let s1 := s.fpeerMod i (fun p => { p with echo := some (rdLe h 8 4, rdLe h 2 1 % 4, s.time.now), ackDue := p.ackDue + 1 })
  if q < p.cum || decide (p.cum + s.odGet 0x6200 1 ≤ q) || p.held.contains q then ((s1.peerCount i 11 1).sendAck i, false)
  else (s1.fpeerMod i (fun p => holdSeqs p [q]), true)

/-- Acknowledge after an accepted frame: at once at a gap, or after 8 frames. `before` is the peer before the frame. -/
def ackAfter (s : State) (i : Nat) (before : FarPeer) (h : List Byte) : State :=
  let next := before.held.foldl (fun a x => max a (x + 1)) before.cum
  if rdLe h 0x10 6 ≠ next || decide (8 ≤ (s.fpeer i).ackDue) then s.sendAck i else s

/-! ### Messages that arrive (R206, R208) -/

/-- The data of an accepted DATA frame. -/
def farData (s : State) (i seq : Nat) (plain : List Byte) : State :=
  let off := dhOffset plain
  let hdr := patch (slice plain 0 48) 0x20 (zeros 8)
  let data := plain.drop 48
  let found := (s.fpeer i).rx.find? (fun x => x.hdr == hdr)
  let c := s.far.nextColl
  let s0 := if found.isSome then s else s.farMod (fun f => { f with nextColl := (f.nextColl + 1) % 65536 })
  let old : FarRx := found.getD { hdr := hdr, first := seq - off / s.frameCap i, seqs := [], got := [], coll := c, complete := false, data := [] }
  let m : FarRx := { old with
    seqs := seq :: old.seqs, got := (off, data.length) :: old.got,
    data := if forGateway hdr then patch (padTo 64 old.data) off data else [] }
  let whole := decide (dhLen hdr ≤ (m.got.map (·.2)).sum)
  let s1 := if whole then s0.farRxDrop i hdr else s0.farRxPut i m
  if forGateway hdr then
    (if whole then { s1 with outer := { s1.outer with anchorMsgs := s1.outer.anchorMsgs ++ [(i, m.data)] } } else s1)
  else
    match s1.keeperOf (dhShard hdr) with
    | none => s1
    | some k =>
      let cs := if data.isEmpty then [] else relayChunks hdr off data
      s1.relayAppend k m.coll i (cs ++ (if whole then [relayChunk 0 true hdr []] else []))

/-! ### Sending (R204, R209) -/

/-- The timeout of the peer (R204), in ns. -/
def rtoOf (s : State) (p : FarPeer) : Nat :=
  if p.maxRtt = 0 then min 1000000000 (1000000 * s.odGet 0x6100 2)
  else min (1000000 * s.odGet 0x6100 2) (max (s.odGet 0x6100 1 * p.srtt) (p.srtt + 4 * p.rttvar))

/-- One RTT sample, by the method of RFC 6298. -/
def rttSample (p : FarPeer) (r : Nat) : FarPeer :=
  if p.maxRtt = 0 then { p with srtt := r, rttvar := r / 2, maxRtt := max 1 r }
  else
    let d := if p.srtt ≤ r then r - p.srtt else p.srtt - r
    { p with rttvar := (3 * p.rttvar + d) / 4, srtt := (7 * p.srtt + r) / 8, maxRtt := max p.maxRtt r }

/-- The next sequenced frame that may go (R209): RETIRE frames, resends, new frames, each in ascending SEQ. New frames wait while
the peer is DOWN or the window is full. -/
def nextFrame (s : State) (p : FarPeer) : Option FarSlot :=
  let least (l : List FarSlot) : Option FarSlot := l.foldl (fun b x => match b with
    | none => some x
    | some y => if x.seq < y.seq then some x else some y) none
  let outst := (p.slots.filter (fun x => x.lastNo != 0)).length
  let fresh := p.st == 2 && decide (outst < s.odGet 0x6200 1)
  let may (x : FarSlot) : Bool := x.ready && (x.resend || (x.lastNo == 0 && fresh))
  match least (p.slots.filter (fun x => x.retire && may x)) with
  | some x => some x
  | none =>
    match least (p.slots.filter (fun x => x.resend && may x)) with
    | some x => some x
    | none => least (p.slots.filter may)

/-- The plain body of a sequenced frame; a ring line that another has written holds open bytes (R113). -/
def slotBody (s : State) (x : FarSlot) : List Byte × State :=
  if x.retire then (x.body, s) else s.ownRead (s.ringAddr x.slot) x.len

/-- The first ring line of a frame with an uncorrectable error (R136). -/
def slotWrong (s : State) (x : FarSlot) : Option Nat := if x.retire then none else s.wrongLine [(s.ringAddr x.slot, x.len)]

/-- Send a sequenced frame: a new transmission (R204, R214). An uncorrectable error in its ring slot is fatal (R136). -/
def sendSlot (s : State) (i : Nat) (x : FarSlot) : State :=
  match s.slotWrong x with
  | some a => s.eccFault a
  | none =>
    let b := s.slotBody x
    let again := x.lastNo != 0
    let r := b.2.farSend i (if x.retire then 3 else 1) x.seq b.1 again
    if r.2 then
      let n := (s.fpeer i).sends + 1
      let base := s.rtoOf (s.fpeer i)
      let s1 := r.1.fpeerMod i (fun q => { q with
        sends := n, txLog := q.txLog ++ [(q.epoch, q.frameNo - 1, s.time.now)],
        slots := q.slots.map (fun y => if y.seq = x.seq then { y with
          firstNo := if again then y.firstNo else n, lastNo := n, resend := false, higher := 0,
          rto := if again then y.rto else base } else y) })
      if again then s1.peerCount i 6 1 else s1
    else s

/-- Release acknowledged frames (R202, R204): `done` tells which SEQs are held. Each release of a frame first sent after another
frame's last transmission counts toward that frame's fast resend. -/
def releaseSlots (s : State) (i : Nat) (done : Nat → Bool) : State :=
  let p := s.fpeer i
  let gone := p.slots.filter (fun x => x.lastNo != 0 && done x.seq)
  let left := p.slots.filter (fun x => !(x.lastNo != 0 && done x.seq))
  let thr := s.odGet 0x6100 5
  let bump (x : FarSlot) : FarSlot :=
    let h := x.higher + (gone.filter (fun y => decide (x.seq < y.seq) && decide (x.lastNo < y.firstNo))).length
    if x.lastNo != 0 && !x.resend && decide (thr ≤ h) then { x with resend := true, higher := 0 } else { x with higher := h }
  (s.fpeerMod i (fun q => { q with slots := left.map bump })).peerCount i 7
    ((gone.filter (fun x => !x.retire)).map (fun x => x.len - 48)).sum

/-- Messages whose every frame is released leave the gateway. -/
def dropMsgs (s : State) : State :=
  s.farMod (fun f => { f with msgs := f.msgs.filter (fun m => !m.granted || m.bytes.isNone ||
    f.peers.any (fun c => c.2.slots.any (fun x => x.msg == m.num && !x.retire))) })

end State

/-! ### Neighbours and foreign frames -/

/-- The link-local address of the field network port, formed from the EUI-64 of OD 0x1000.06 (R272). -/
def fieldLinkLocal : List Byte :=
  let m := toBe 6 fieldMac
  [0xFE, 0x80] ++ zeros 6 ++ toLe 1 (rdLe m 0 1 ^^^ 2) ++ slice m 1 2 ++ [0xFF, 0xFE] ++ slice m 3 3

/-- The hardware address of a far port, or of the field network port (2). -/
def nbrMac (port : Nat) : List Byte := if port = 2 then toBe 6 fieldMac else farMacBytes port

namespace State

/-- Does a port resolve neighbours: a far port that is up, or the field network port (2) while the Crown runs and group 7 is released? -/
def nbrUp (s : State) (port : Nat) : Bool := if port = 2 then s.plat.released.contains 7 && !s.crown.down else s.farUp port

/-- The addresses a port answers for, IPv4 ones as IPv4-mapped IPv6: the far port's own (Table 8.1), or those of R272. The octets of
OD 0x1200.02 stand with the first in bits [31:24] (DESIGN CHOICE, log 50). -/
def nbrAddrs (s : State) (port : Nat) : List (List Byte) :=
  if port = 2 then
    fieldLinkLocal :: ([s.blobGet 0x1200 1, zeros 10 ++ [0xFF, 0xFF] ++ toBe 4 (s.odGet 0x1200 2)].filter
      (fun a => a != zeros 16 && a != zeros 10 ++ [0xFF, 0xFF] ++ zeros 4))
  else [s.farOwn port]

/-- A far port learns the address of its next hop. -/
def nbrLearn (s : State) (port : Nat) (ip mac : List Byte) : State := if port = 2 then s else s.learnHop port ip mac

end State

/-- ARP (R196, R272): a request for an own address is answered, and the next hop's address is learned. -/
def execArp (port : Nat) (bytes : List Byte) (s : State) : Host.Outcome State Fault Refusal :=
  if !s.nbrUp port || bytes.length != 28 || slice bytes 0 6 != toBe 2 1 ++ toBe 2 0x0800 ++ [6, 4] then .next s
  else
    let v4 (a : List Byte) : List Byte := zeros 10 ++ [0xFF, 0xFF] ++ a
    let spa := slice bytes 14 4
    let s1 := s.nbrLearn port (v4 spa) (slice bytes 8 6)
    if beNat (slice bytes 6 2) = 1 && (s.nbrAddrs port).contains (v4 (slice bytes 24 4)) then
      .next (s1.emit (.farNeighbour port
        (arpPacket 2 (nbrMac port) (slice bytes 24 4) (slice bytes 8 6) spa)))
    else .next s1

/-- NEIGHBOR_DISCOVERY (R196, R272): an IPv6 packet with a solicitation of an own address is answered; an advertisement, and a
solicitation's source, teach the next hop's address. -/
def execNeighborDiscovery (port : Nat) (bytes : List Byte) (s : State) : Host.Outcome State Fault Refusal :=
  let src := slice bytes 8 16
  let m := bytes.drop 40
  let t := rdLe m 0 1
  let opt := slice m 24 8
  let ok := s.nbrUp port && decide (72 ≤ bytes.length) && rdLe bytes 6 1 == 58 && rdLe bytes 7 1 == 255 && rdLe m 1 1 == 0 &&
    inetSum (src ++ slice bytes 24 16 ++ toBe 4 m.length ++ toBe 4 58 ++ m) == 0
  if !ok then .next s
  else if t = 135 then
    let s1 := if rdLe opt 0 1 = 1 then s.nbrLearn port src (slice opt 2 6) else s
    let own := slice m 8 16
    if (s.nbrAddrs port).contains own then
      let any_ := src == zeros 16
      let dst := if any_ then [0xFF, 2] ++ zeros 13 ++ [1] else src
      let na := [136, 0, 0, 0] ++ [if any_ then 0x20 else 0x60, 0, 0, 0] ++ own ++ [2, 1] ++ nbrMac port
      .next (s1.emit (.farNeighbour port (icmp6Packet own dst na)))
    else .next s1
  else if t = 136 && rdLe opt 0 1 == 2 then .next (s.nbrLearn port (slice m 8 16) (slice opt 2 6))
  else .next s

/-- FOREIGN_FRAME (R197): the frame is discarded and counted. -/
def execForeignFrame (port : Nat) (_bytes : List Byte) (s : State) : Host.Outcome State Fault Refusal :=
  .next (if s.farUp port then s.bump 0x6000 3 else s)

/-! ### Frames -/

/-- Are the reserved fields of a data header 0, and is its KIND listed? -/
def dataForm (b : List Byte) : Bool :=
  decide (48 ≤ b.length) && decide (1 ≤ dhKind b) && decide (dhKind b ≤ 5) && zeroAt b 1 1 && zeroAt b 3 1 && zeroAt b 0x28 8

/-- DATA (R203, R206). -/
def execDataFrame (port : Nat) (src bytes : List Byte) (s : State) : Host.Outcome State Fault Refusal :=
  match s.farOpen port src bytes 1 with
  | (t, none) => .next t
  | (t, some (i, h, b)) =>
    if !dataForm b then .next (t.peerCount i 8 1)
    else
      let r := t.seqArrives i h
      .next (if r.2 then (r.1.farData i (rdLe h 0x10 6) b).ackAfter i (t.fpeer i) h else r.1)

/-- RETIRE_FRAME (R208): every message that a retired SEQ belongs to is aborted, whether that SEQ has arrived or not. -/
def execRetireFrame (port : Nat) (src bytes : List Byte) (s : State) : Host.Outcome State Fault Refusal :=
  match s.farOpen port src bytes 3 with
  | (t, none) => .next t
  | (t, some (i, h, b)) =>
    if b.length % 16 ≠ 0 || b.length == 0 || decide (1024 < b.length) then .next (t.peerCount i 8 1)
    else
      let r := t.seqArrives i h
      if !r.2 then .next r.1
      else
        let rs := (chunksOf 16 b).map (fun c => (rdLe c 0 8, rdLe c 8 8))
        let inR (x : Nat) : Bool := rs.any (fun q => decide (q.1 ≤ x) && decide (x < q.2))
        let p := r.1.fpeer i
        let marks := ((List.range (t.odGet 0x6200 1)).map (· + p.cum)).filter inR
        let s1 := r.1.fpeerMod i (fun p => State.holdSeqs p marks)
        let hit (m : FarRx) : Bool := (List.range (t.framesOf i (dhLen m.hdr))).any (fun k => inR (m.first + k))
        let s2 := (p.rx.filter hit).foldl (fun a m => a.farAbort i m) s1
        .next (s2.ackAfter i (t.fpeer i) h)

/-- ACK (R202, R204, R214). -/
def execAckFrame (port : Nat) (src bytes : List Byte) (s : State) : Host.Outcome State Fault Refusal :=
  match s.farOpen port src bytes 2 with
  | (t, none) => .next t
  | (t, some (i, _, b)) =>
    let n := rdLe b 0xE 1
    if b.length ≠ 24 + 16 * n || decide (8 < n) || !zeroAt b 0xF 1 || decide (4 ≤ rdLe b 0xD 1) then .next (t.peerCount i 8 1)
    else
      let p := t.fpeer i
      let cum := rdLe b 0 6
      let rs := (List.range n).map (fun j => (rdLe b (0x18 + 16 * j) 8, rdLe b (0x20 + 16 * j) 8))
      let held (x : Nat) : Bool := decide (x < cum) || rs.any (fun q => decide (q.1 ≤ x) && decide (x < q.2))
      let s1 := match p.txLog.find? (fun e => e.1 == rdLe b 0xC 1 && e.2.1 == rdLe b 8 4) with
        | none => t
        | some e => t.fpeerMod i (fun q => State.rttSample q (t.time.now - e.2.2 - rdLe b 0x10 8))
      let newest := (p.keys.head?.map (·.epoch)).getD 0
      let s2 := s1.fpeerMod i (fun q => { q with mayDrop := q.mayDrop || (decide (1 < q.keys.length) && rdLe b 0xD 1 == newest) })
      .next ((s2.releaseSlots i held).dropMsgs)

/-- CONFIRM (R214): the switch is the effect of its authentication. -/
def execConfirm (port : Nat) (src bytes : List Byte) (s : State) : Host.Outcome State Fault Refusal :=
  .next (s.farOpen port src bytes 4).1

/-! ### Handshakes -/

/-- A handshake frame that fails a check (R211). -/
def hsFails (s : State) : State := s.countNotify 0x6400 3

/-- Is a handshake body whole, with its reserved fields 0 (8.2)? -/
def hsForm (bytes : List Byte) : Bool :=
  let b := bytes.drop 32
  decide (192 ≤ b.length) && zeroAt b 1 1 && zeroAt b 4 4 && zeroAt b 0x78 8

/-- The checks of R211 that both handshake frames share; `extra` is signed besides. A NEW_EPOCH or MAX_FRAME that Table 8.7 does not
list fails as they do (DESIGN CHOICE, log 39). -/
def hsChecks (s : State) (i : Nat) (bytes extra : List Byte) : Bool :=
  let h := slice bytes 0 32
  let b := bytes.drop 32
  decide (rdLe b 0 1 < 4) && (rdLe b 2 2 == 8192 || rdLe b 2 2 == 1400) && (s.gatewayKeys i).contains (slice b 0x38 32) && slice b 0x58 32 == s.rosterTag &&
  (b.drop 192).all (· == 0) &&
  edVerify (slice b 0x38 32) (ascii "KRV Remontoire HS" ++ h ++ slice b 0 128 ++ extra) (slice b 0x80 64)

/-- HS_INIT (R210 to R212): the responder checks it, derives the keys and answers; a repeated HS_INIT gets the same answer, and a
new SESSION ends the old one. The first handshake of a session that has not come into use may come again smaller (R199). -/
def execHsInit (port : Nat) (src bytes : List Byte) (s : State) : Host.Outcome State Fault Refusal :=
  match s.farAccept port src bytes 0x10 with
  | (t, none) => .next t
  | (t, some i) =>
    let b := bytes.drop 32
    let body := slice b 0 192
    let p := t.fpeer i
    let session := rdLe bytes 0xC 4
    let answer (a : State) (f : List Byte) : State := if a.farReady i then a.farEmit i f else a
    if !hsForm bytes then .next (t.peerCount i 8 1)
    else if t.initiates i || !hsChecks t i bytes [] || session == 0 then .next (hsFails t)
    else
      match p.answered.find? (fun a => a.1 == body && session == p.session) with
      | some a => .next (answer t a.2)
      | none =>
        let fresh := session != p.session || p.st == 1
        if rdLe b 0 1 ≠ (if fresh then 0 else (p.epoch + 1) % 4) then .next (hsFails t)
        else
          let t0 := if fresh then (t.farSession i session (rdLe b 2 2 == 1400 || t.mtuMode i == 2)).peerState i 1 else t
          let n := t0.randomBytes 16
          let e := n.2.randomBytes 32
          let ep := rdLe b 0 1
          let okm := State.hsKeys (x25519 e.1 (slice b 0x18 32)) (slice b 8 16) n.1 session ep i t.ownSite
          let f := e.2.hsFrame i 0x11 session (e.2.hsBody ep (e.2.peerSmall i) n.1 (x25519 e.1 x25519Base)) body 0
          let t1 := e.2.fpeerMod i (fun q => { q with
            answered := (if session = p.session then p.answered else []) ++ [(body, f)],
            keys := State.addKey q.keys (State.hsKey ep okm false), mayDrop := false })
          .next (answer t1 f)

/-- HS_RESP (R211, R212, R214): the initiator checks it, derives the keys, switches its sending direction and sends CONFIRM. -/
def execHsResp (port : Nat) (src bytes : List Byte) (s : State) : Host.Outcome State Fault Refusal :=
  match s.farAccept port src bytes 0x11 with
  | (t, none) => .next t
  | (t, some i) =>
    let b := bytes.drop 32
    let p := t.fpeer i
    if !hsForm bytes then .next (t.peerCount i 8 1)
    else match p.hs with
    | none => .next (hsFails t)
    | some h =>
      if rdLe bytes 0xC 4 ≠ p.session || rdLe b 0 1 != h.epoch || !hsChecks t i bytes (slice h.frame 32 192) then
        .next (hsFails t)
      else
        let okm := State.hsKeys (x25519 h.priv (slice b 0x18 32)) h.nonce (slice b 8 16) p.session h.epoch t.ownSite i
        let t1 := t.fpeerMod i (fun q => { q with
          hs := none, keys := State.addKey q.keys (State.hsKey h.epoch okm true), epoch := h.epoch, frameNo := 0,
          mayDrop := false, owesConfirm := true, small := q.small || (h.fresh && rdLe b 2 2 == 1400) })
        let t2 := if (t1.fpeer i).small = p.small then t1 else t1.renewSlots i
        .next (((t2.bump 0x6400 2).peerState i 2).sendConfirm i)

/-- HS_RESEND (R199, R210, R211): the handshake under way goes again; toward an idle peer the initiator begins one. -/
def execHsResend (peer : Nat) (s : State) : Host.Outcome State Fault Refusal :=
  .next (if s.isGateway && s.running && (s.fpeer peer).hs.isSome then s.sendInit peer
    else if s.running && s.otherSites.contains peer then s.firstHs peer
    else s)

/-- KEY_LIFETIME (R213). -/
def execKeyLifetime (peer : Nat) (s : State) : Host.Outcome State Fault Refusal :=
  .next (if s.isGateway && s.running then s.wantKey peer else s)

/-- OLD_KEY_RELEASE (R214): the grace has passed and the peer has shown the new epoch; the old receive key is destroyed. -/
def execOldKeyRelease (peer : Nat) (s : State) : Host.Outcome State Fault Refusal :=
  let p := s.fpeer peer
  .next (if p.mayDrop && (p.keys.head?.map (·.epoch)) == some p.heard then
      s.fpeerMod peer (fun q => { q with
        keys := q.keys.take 1, mayDrop := false, txLog := q.txLog.filter (fun e => some e.1 == p.keys.head?.map (·.epoch)) })
    else s)

/-! ### Timers and sending -/

/-- ACK_TIMER (R203). -/
def execAckTimer (peer : Nat) (s : State) : Host.Outcome State Fault Refusal :=
  .next (if (s.fpeer peer).ackDue = 0 then s else s.sendAck peer)

/-- RTO_EXPIRY (R204). -/
def execRtoExpiry (peer seq : Nat) (s : State) : Host.Outcome State Fault Refusal :=
  if (s.fpeer peer).slots.any (fun x => x.seq == seq && x.lastNo != 0 && !x.resend) then
    let top := 1000000 * s.odGet 0x6100 2
    .next ((s.bump 0x6100 3).fpeerMod peer (fun p => { p with slots := p.slots.map (fun x =>
      if x.seq = seq then { x with resend := true, rto := min top (2 * x.rto) } else x) }))
  else .next s

/-- PEER_DOWN (R205). -/
def execPeerDown (peer : Nat) (s : State) : Host.Outcome State Fault Refusal :=
  .next (if (s.fpeer peer).st = 2 then s.peerState peer 3 else s)

/-- PORT_RETURN (R198). -/
def execPortReturn (peer : Nat) (s : State) : Host.Outcome State Fault Refusal :=
  .next (if s.isGateway && s.otherSites.contains peer && s.farUp (s.boundPort peer) then s.movePeer peer (s.boundPort peer) else s)

/-- Has a peer on a port a frame that may go now: a CONFIRM owed, or a sequenced frame? -/
def peerReady (s : State) (port i : Nat) : Bool :=
  s.peerPort i == port && s.maySeal i && ((s.fpeer i).owesConfirm || (s.nextFrame (s.fpeer i)).isSome)

/-- FRAME_SEND (R209): of the peers whose caps allow a frame (`turn.peers`), the rotating priority of the port chooses one, and its next
ready frame goes. -/
def execFrameSend (turn : FrameTurn) (s : State) : Host.Outcome State Fault Refusal :=
  match grant (s.otherSites.filter (fun i => turn.peers.contains i && peerReady s turn.port i)) (fget 0 s.far.turn turn.port) 64 with
  | none => .next s
  | some i =>
    let s1 := s.farMod (fun f => { f with turn := fput 0 f.turn turn.port ((i + 1) % 64) })
    if (s1.fpeer i).owesConfirm then .next (s1.sendConfirm i)
    else match s1.nextFrame (s1.fpeer i) with
      | some x => .next (s1.sendSlot i x)
      | none => .next s1

/-- FAR_PORT_UP (R196, R198, R210): peers without a working port move here, and the initiator starts the first handshake of a
session toward the idle ones. -/
def execFarPortUp (port : Nat) (s : State) : Host.Outcome State Fault Refusal :=
  if decide (port < 2) && s.running && decide (s.farSt port ≤ 1) && s.portSvc 2 port == 0 then
    let s1 := s.odSet 0x6000 (port + 1) 2
    if s1.isGateway then
      .next (s1.otherSites.foldl (fun a i =>
        let a1 := if a.farUp (a.peerPort i) then a.sendConfirm i else a.movePeer i port
        if a1.peerPort i = port then a1.firstHs i else a1) s1)
    else .next s1
  else .next s

/-- FAR_PORT_DOWN (R198). -/
def execFarPortDown (port : Nat) (s : State) : Host.Outcome State Fault Refusal :=
  .next (if s.farSt port = 2 && decide (port < 2) then (s.odSet 0x6000 (port + 1) 0).leavePort port else s)

/-- RELAY_GRANT (R201, R202, R207): the oldest waiting message is granted if the ring has slots for all of it, and sequenced; a
wait for space is counted once. -/
def execRelayGrant (s : State) : Host.Outcome State Fault Refusal :=
  match s.far.msgs.find? (fun m => !m.granted) with
  | none => .next s
  | some m =>
    let peers := s.msgPeers m
    let need := (peers.map (fun i => s.framesOf i (dhLen m.hdr))).sum
    let put (m' : FarMsg) (t : State) : State :=
      t.farMod (fun f => { f with msgs := f.msgs.map (fun x => if x.num = m.num then m' else x) })
    if !s.isGateway then .next s
    else if s.ringUsed.length + need ≤ s.ringSlots then
      let s1 := peers.foldl (fun a i => a.sequence m i) (put { m with granted := true } s)
      match m.bytes with
      | some _ => .next s1
      | none =>
        match s1.inStream m.src m.coll 8 0 with
        | some i => .next (s1.sendCack i (i.next - 1))
        | none => .next s1
    else if m.waited then .next s
    else .next ((put { m with waited := true } s).bump 0x6200 3)

end Sys2Proof.Machine
end

