-- ==== Sys2Proof/Machine/Bezel.lean ====
section
/-! DEFINITION. The Bezel operations of OD 0x9200 (R295 to R301): FENCE, RETIRE and READMIT, and the events that complete a reset
or a scrub. -/

namespace Sys2Proof.Machine

/-- What OD 0x9200.01 names (R295). -/
inductive Target where
  | unit (level index : Nat)
  | port (cls num : Nat)
  | bad
  deriving DecidableEq, Repr

namespace State

/-- Read a Bezel target. -/
def bezelTarget (s : State) (t : Nat) : Target :=
  let rest := t % 2 ^ 24
  if t / 2 ^ 24 = 1 then (if s.portExists rest then .unit (rest / 65536) (rest % 65536) else .bad)
  else if t / 2 ^ 24 = 2 then (if Beat.portOk rest then .port (rest / 256) (rest % 256) else .bad)
  else .bad

/-- STATE of a unit's status word. -/
def unitSt (s : State) (level index : Nat) : Nat := if level = 0 then s.pinSt index else s.trainSt level index

/-- The retired slot of a pinion whose logical number the spare holds (R300). -/
def retiredSlot (s : State) (p : Nat) : Option Nat :=
  let t := s.t1Of p
  let r := s.t1 t
  if r.spareState = 1 && s.physSlot t (p % 8) == r.spareSlot then
    (List.range 9).find? (fun k => k != r.spareSlot && Nat.testBit r.retired k && !(s.slotsOf t).contains k)
  else none

/-- Is every T1 of a train marked retired whole in the map (R298)? -/
def trainMarked (s : State) (level index : Nat) : Bool :=
  (List.range (trainWidth level)).all (fun k => Nat.testBit (s.mapWord (index * trainWidth level + k)) 15)

/-- The status of a Bezel operation: 0 where it is allowed. FENCE of a die, the module, VDL or the management port is out of range
(R295); RETIRE and READMIT look at the unit's state alone (R299, R301). -/
def bezelCheck (s : State) (t op : Nat) : Nat :=
  let quiet := s.modState == stQuiet
  match s.bezelTarget t with
  | .bad => 3
  | .unit l i =>
    let st := s.unitSt l i
    if op = 1 then (if 4 ≤ l then 3 else 0)
    else if op = 2 then (if st = 1 && (l == 0 || quiet) then 0 else 2)
    else if l ≠ 0 && s.trainMarked l i then (if quiet then 0 else 2)
    else if st = 1 then 0
    else if l = 0 then (if st = 0 && (s.retiredSlot i).isSome then 0 else 2)
    else if st = 3 && quiet then 0
    else 2
  | .port c n =>
    let v := s.portSvc c n
    if op = 1 then (if 3 ≤ c then 3 else 0)
    else if op = 2 then (if v = 2 then 0 else 2)
    else if v ≠ 0 then 0
    else 2

/-! ### FENCE -/

/-- The passes of a fenced pinion stop without output (R295). Its data moves end as they meet the Bezel (R296). -/
def fencedPinion (x : Pinion) : Pinion :=
  let stop (a : Arr) : Arr := { lastBank := a.lastBank }
  { x with arr0 := stop x.arr0, arr1 := stop x.arr1, stopping := none }

/-- FENCE of a pinion or train below a die. -/
def fenceTrain (s : State) (level index : Nat) : State :=
  let u := s.unit level index
  if u.st = 1 || u.st == 3 then s
  else
    let ps := s.trainPinions level index
    let s1 := s.fenceUnit level index
    { s1 with
      pinions := s1.pinions.foldl (fun m c => fput {} m c.1 (if ps.contains c.1 then fencedPinion c.2 else c.2)) [],
      changes := s1.changes.filter (fun c => c.kind != .openUnit level index) }

/-- FENCE of a port: SERVICE 2, a new table, and its traffic takes other ways (R295, Table 12.9); the site job stops where that
was the last port toward a member (R253). -/
def fencePort (s : State) (cls num : Nat) : State :=
  if s.portSvc cls num ≠ 0 then s
  else
    let s1 := (s.portSvcSet cls num 2).publish 1 [(4, cls * 256 + num)]
    if cls = 1 then (s1.reroute num).stopIfLost num
    else s1.leavePort num

/-! ### RETIRE -/

/-- Mark a train of T1s in the retirement map, or clear its marks (R298). -/
def mapTrain (s : State) (level index : Nat) (on : Bool) : State :=
  (List.range (trainWidth level)).foldl (fun a k => a.mapSet (index * trainWidth level + k) 15 on) s

/-- RETIRE of a fenced pinion (R299): the escalation of R162. A T1 that is itself out of service resets too, and stays behind its
closed Bezel. -/
def retirePinion (s : State) (p : Nat) : State :=
  let t := s.t1Of p
  if s.trainSt 1 t = 0 then s.escT1 t (some p)
  else
    let st := (s.unit 1 t).st
    let s0 := if st = 0 then s.resetTrain 1 t else (s.resetTrain 1 t).unitMod 1 t (fun u => { u with st := st })
    let s1 := (s0.mapSet t (s0.physSlot t (p % 8)) true).unitMod 0 p (fun u => { u with st := 3 })
    if s1.spareFree t then s1.addChange (.substitute t (p % 8)) false
    else (((s1.t1Mod t (fun x => { x with whole := true })).mapSet t 15 true).unitMod 1 t
      (fun u => { u with st := 3 })).enterFaulted 6 (statusOff 1 t)

/-! ### READMIT -/

/-- READMIT of a fenced unit that is not retired (R301): a reset behind the Bezel, which opens at the next beat after it. -/
def readmitUnit (s : State) (level index : Nat) : State :=
  let s1 := s.resetTrain level index
  let ps := s1.trainPinions level index
  State.addChange { s1 with changes := s1.changes.filterMap (fun c => match c.kind with
    | .restart l i hs =>
      let rest := hs.filter (fun x => !ps.contains x.1)
      if rest.isEmpty then none else some { c with kind := .restart l i rest }
    | .openUnit l i => if l = level && i == index then none else some c
    | _ => some c) } (.openUnit level index) false

/-- Carry out a Bezel operation that the checks allow. -/
def bezelDo (s : State) (t op : Nat) : State :=
  match s.bezelTarget t with
  | .bad => s
  | .unit l i =>
    if op = 1 then s.fenceTrain l i
    else if op = 2 then (if l = 0 then s.retirePinion i else s.mapTrain l i true)
    else if l ≠ 0 && s.trainMarked l i then s.mapTrain l i false
    else if s.unitSt l i = 1 then s.readmitUnit l i
    else if l = 0 then
      match s.retiredSlot i with
      | some k => s.t1Mod (s.t1Of i) (fun x => { x with readmit := some k })
      | none => s
    else s.mapTrain l i false
  | .port c n =>
    if op = 1 then s.fencePort c n
    else if op = 2 then ((s.mapPort c n true).addChange (.retirePort c n) true).settleChanges
    else (s.addChange (.openPort c n) true).settleChanges

/-- Does a change wait for the reset of a unit? -/
def waitsFor (level index : Nat) : ChangeKind → Bool
  | .substitute t _ => level == 1 && t == index
  | .restart l i _ => l == level && i == index
  | .openUnit l i => l == level && i == index
  | _ => false

end State

/-- TRAIN_RESET_COMPLETE (R297, R162): the Bezel opens unless the unit is fenced or retired; what waited for the reset is ready.
A unit under READMIT waits behind its Bezel, STATE 4, for its beat. -/
def execTrainResetComplete (level index : Nat) (s : State) : Host.Outcome State Fault Refusal :=
  let u := s.unit level index
  if s.portExists (level * 65536 + index) && decide (index < 65536) &&
      (u.st == 2 || s.changes.any (fun c => !c.ready && State.waitsFor level index c.kind)) then
    let again := s.changes.any (fun c => c.kind == .openUnit level index)
    let s1 := s.unitMod level index (fun u => { u with st := if u.st = 2 then (if again then 4 else 0) else u.st })
    .next ((s1.readyChanges (State.waitsFor level index)).dieResolve)
  else .next s

/-- READMIT_SCRUB_DONE (R300): stage 1 of a re-admission ends, with an uncorrectable word or with the swap pending. -/
def execReadmitScrubDone (t1 slot : Nat) (uncorrectable : Bool) (s : State) : Host.Outcome State Fault Refusal :=
  let r := s.t1 t1
  if r.readmit = some slot then
    let s1 := s.t1Mod t1 (fun x => { x with readmit := none })
    if uncorrectable then .next (s1.bump 0x9400 4)
    else
      match (List.range 8).find? (fun k => s.physSlot t1 k == r.spareSlot) with
      | some k => .next ((s1.addChange (.swapBack t1 slot k) true).settleChanges)
      | none => .next s1
  else .next s

end Sys2Proof.Machine
end

