-- ==== Sys2Proof/Machine/Update.lean ====
section
/-! DEFINITION. The update units (05, 5.4 to 5.8; the tie-sum of 04, 4.5) and the scrub (R134 to R136). -/

namespace Sys2Proof.Machine

/-! ### Queues of the units (R118 to R120) -/

/-- The queue of unit u. -/
def uqSpec (s : State) (u : Nat) : QSpec :=
  { key := u, base := s.odGet 0x3200 1 + u * 0x4000, door := s.odGet 0x3200 2 + u, done := s.odGet 0x3200 2 + 16 + u }

/-- The next entry of unit u. -/
def uqNextOf (s : State) (u : Nat) : W32 := fget 0 s.uqNext u

/-- May unit u start an entry? -/
def uqReady (s : State) (u : Nat) : Bool := s.queuesStart && decide (u < 16) && s.rung (uqSpec s u).door (uqNextOf s u)

/-- The entry at the head of unit u. -/
def uqEntry (s : State) (u : Nat) : QEntry := s.ringEntry (uqSpec s u).base (uqNextOf s u).toNat

/-- Go on to the next entry: the done counter, and the end of a wait. -/
def uqStep (s : State) (u : Nat) : State :=
  State.freeHead ({ s with uqNext := fput 0 s.uqNext u (uqNextOf s u + 1) }.post (uqSpec s u).done) u

/-- An entry completes: its POST, then the done counter. -/
def uqFinish (s : State) (u post : Nat) : State := uqStep (s.postWord post) u

/-- An entry is refused (R120). A tie-sum's TENSOR goes into the error log (Table 4.6), with the reason as its code. -/
def uqRefuse (s : State) (u kind reason : Nat) : State :=
  let s1 := (s.odSet 0x3400 0xA (kind * 2 ^ 24 + u * 2 ^ 20 + reason)).countNotify 0x3400 (if kind = 1 then 2 else 7)
  let at_ := (uqEntry s u).desc
  uqStep (if kind = 1 then s1.logErr 2 reason 0xFF u (if hbmOk s at_ 64 then s.readBytes at_ 4 else zeros 4) else s1) u

/-- Is a range 64-byte aligned, and in HBM or the mapped slow tier? -/
def tierOk (s : State) (a n : Nat) : Bool := a % 64 == 0 && (s.inHbm a n || s.inSlow a n)

/-- Does an address lie in HBM of another stack than the unit's? -/
def offStack (u a : Nat) : Bool := decide (a < barrelBase) && a / hbmStride != u / 2

/-- The first refusal reason whose condition holds, in the order of the list. -/
def firstReason : List (Bool × Nat) → Option Nat
  | [] => none
  | (b, r) :: l => if b then some r else firstReason l

/-- The checks of a shard at HDR (R120). -/
def shardChecks (s : State) (u hdr tensor : Nat) (slowToo writes : Bool) : List (Bool × Nat) :=
  let h := s.shard hdr
  let ok := fun n => if slowToo then tierOk s hdr n else hbmOk s hdr n
  [(!ok 64, 2), (!headerOk h tensor (decide (slowBase ≤ hdr)), 4),
   ((payloadSize (shFmt h) (shElems h)).isNone, 5), (!ok (64 + shBytes h), 2), (writes && offStack u hdr, 3)]

/-- Is the format BF16 or FP32? -/
def ruleFmt (f : Nat) : Bool := f == 5 || f == 9

/-- ROW_LEN of an INNER (Table 5.5); 0, which divides no number, is for shards that are not logged. -/
def rowLen (d : List Byte) : Nat := rdLe d 0x18 4

/-- Why a TIESUM is refused (R99, R120). -/
def tiesumReason (s : State) (u desc : Nat) : Option Nat :=
  let d := s.readBytes desc 32
  let uses := rdLe d 4 1
  let el := rdLe d 8 8
  let out := rdLe d 0x10 8
  let buf := fun i => s.readNat (desc + 0x20 + 8 * i) 8
  firstReason [
    (decide (uses < 2) || decide (16 < uses) || el % 16 != 0 || el == 0 || !postWordOk (rdLe d 0x18 4) || !zeroAt d 0x1C 4, 1),
    (!hbmOk s desc (32 + 8 * uses), 2),
    (!hbmOk s out (4 * el) || !(List.range uses).all (fun i => hbmOk s (buf i) (4 * el)) ||
      (List.range uses).any (fun i => overlaps out (4 * el) (buf i) (4 * el) && !(i == 0 && out == buf 0)), 2),
    (offStack u out, 3), (rdLe d 5 1 != 9, 5), (rdLe d 6 2 != s.odGet 0x2010 1, 6)]

/-- Why a descriptor of kinds 2 to 7 is refused (R120); `open_` is the reason an export without DIGEST_VALID gives. -/
def unitReason (s : State) (u kind : Nat) (d : List Byte) (open_ : Nat) : Option Nat :=
  let tensor := rdLe d 0 4
  let hdr := rdLe d 8 8
  let h := s.shard hdr
  let el := shElems h
  let post := !postWordOk (rdLe d 0x30 4)
  let ep := (rdLe d 6 2 != s.odGet 0x2010 1, 6)
  match kind with
  | 2 =>
    let n := rdLe d 0x10 8
    firstReason [
      (post || !zeroAt d 4 2 || n == 0 || n % 16 != 0 || !zeroAt d 0x20 16 || !zeroAt d 0x34 12, 1),
      (!hbmOk s hdr (4 * n) || !hbmOk s (rdLe d 0x18 8) 32, 2), (offStack u (rdLe d 0x18 8), 3), ep]
  | 3 =>
    let rule := rdLe d 4 1
    firstReason ((post || decide (2 < rule) || !zeroAt d 5 1 || !zeroAt d 0x38 8 || (rule != 2 && !zeroAt d 0x28 8), 1) ::
      shardChecks s u hdr tensor true true ++
      [(!hbmOk s (rdLe d 0x10 8) (4 * el) || !hbmOk s (rdLe d 0x20 8) 4 || (rule == 2 && !hbmOk s (rdLe d 0x28 8) 4), 2),
       (shSlow h && el % rowLen d != 0, 1), (!ruleFmt (shFmt h), 5), ep])
  | 4 =>
    let mom := rdLe d 0x18 8
    firstReason ((post || !zeroAt d 4 2 || !zeroAt d 0x2C 4 || !zeroAt d 0x34 12, 1) ::
      shardChecks s u hdr tensor true true ++
      [(!hbmOk s (rdLe d 0x10 8) (4 * el) || !tierOk s mom (el + el / 32) ||
          decide (slowBase ≤ mom) != decide (slowBase ≤ hdr), 2),
       (offStack u mom, 3), (!ruleFmt (shFmt h), 5), ep])
  | 5 =>
    let mode := rdLe d 4 1
    firstReason ((post || decide (1 < mode) || !zeroAt d 5 1 || !zeroAt d 0x18 24 || !zeroAt d 0x34 12, 1) ::
      shardChecks s u hdr tensor true (mode == 0) ++
      [(mode == 1 && !hbmOk s (rdLe d 0x10 8) 4, 2), (mode == 1 && offStack u (rdLe d 0x10 8), 3), ep])
  | 6 => firstReason [(post || !zeroAt d 0 0x30 || !zeroAt d 0x34 12, 1)]
  | _ =>
    let dir := rdLe d 4 1
    let rec_ := rdLe d 0x10 8
    firstReason ((post || decide (1 < dir) || !zeroAt d 5 1 || !zeroAt d 0x34 12, 1) ::
      shardChecks s u hdr tensor false (dir == 1) ++
      [(rdLe d 0x1C 4 * rdLe d 0x24 4 != el, 1), (!tierOk s rec_ (128 + shBytes h), 2),
       (dir == 0 && offStack u rec_, 3), ep, (s.modState == stRunning, 7), (dir == 0 && !shValid h, open_)])

/-- The ranges that an entry of a kind reads (Table 5.5, Table 5.6, R98, R133). -/
def unitReads (s : State) (kind : Nat) (d : List Byte) (desc : Nat) : List (Nat × Nat) :=
  let hdr := rdLe d 8 8
  let h := s.shard hdr
  let el := shElems h
  let shard := (hdr, 64 + shBytes h)
  match kind with
  | 1 => (desc, 32 + 8 * rdLe d 4 1) :: (List.range (rdLe d 4 1)).map (fun i => (s.readNat (desc + 0x20 + 8 * i) 8, 4 * rdLe d 8 8))
  | 2 => [(desc, 64), (hdr, 4 * rdLe d 0x10 8)]
  | 3 => [(desc, 64), shard, (rdLe d 0x10 8, 4 * el), (rdLe d 0x20 8, 4)] ++ (if rdLe d 4 1 = 2 then [(rdLe d 0x28 8, 4)] else [])
  | 4 => [(desc, 64), shard, (rdLe d 0x10 8, 4 * el), (rdLe d 0x18 8, el + el / 32)]
  | 5 => [(desc, 64), shard]
  | 6 => [(desc, 64)]
  | _ => [(desc, 64), if rdLe d 4 1 = 0 then shard else (rdLe d 0x10 8, 128 + shBytes h)]

/-- A unit command: the head entry of unit u, if it may start and is of this kind. It waits (R250), is refused, or runs; an
uncorrectable error in its queue entry or in what it reads is fatal (R136). An entry whose KIND Table 5.4 does not list is refused by
any of these commands, and one of a pending epoch waits before anything of it is refused. -/
def unitCommand (u kind : Nat) (mine : List Byte → Bool) (body : State → List Byte → Nat → Host.Outcome State Fault Refusal)
    (s : State) : Host.Outcome State Fault Refusal :=
  if !uqReady s u then .next s
  else
    let en := uqEntry s u
    let d := s.readBytes en.desc 64
    let odd := en.kind = 0 || decide (7 < en.kind)
    match s.wrongLine [((uqSpec s u).base + (uqNextOf s u).toNat % 1024 * 16, 16)] with
    | some a => .next (s.eccFault a)
    | none =>
    if !odd && en.kind ≠ kind then .next s
    else if hbmOk s en.desc 64 && en.kind != 6 && s.epochWaits (rdLe d 6 2) then .next (s.holdHead u)
    else if odd then .next (uqRefuse s u en.kind 1)
    else if en.rsv ≠ 0 then .next (uqRefuse s u kind 1)
    else if !hbmOk s en.desc 64 then .next (uqRefuse s u kind 2)
    else if !mine d then .next s
    else
      let o := s.draw 3
      let why := if kind = 1 then tiesumReason s u en.desc else unitReason s u kind d (o.1.toNat + 1)
      match why with
      | some r => .next (uqRefuse (if kind = 7 then o.2 else s) u kind r)
      | none =>
        match s.wrongLine (unitReads s kind d en.desc) with
        | some a => .next (s.eccFault a)
        | none => body s d en.desc

/-- Apply the log first if the shard at `hdr` is SLOW (R130); a fatal error there ends the entry. -/
def afterLog (s : State) (slow : Bool) (f : State → State) : Host.Outcome State Fault Refusal :=
  .next (if slow && s.logWrong.isSome then s.applyLog else f (if slow then s.applyLog else s))

/-! ### TIESUM and NORM -/

/-- TIESUM (R98). -/
def runTiesum (s : State) (u : Nat) (desc : Nat) : State :=
  let d := s.readBytes desc 32
  let el := rdLe d 8 8
  let buf := fun i => numsOf 4 (s.readBytes (s.readNat (desc + 0x20 + 8 * i) 8) (4 * el))
  let sum := (List.range (rdLe d 4 1 - 1)).foldl (fun a i => (a.zip (buf (i + 1))).map (fun q => f32add q.1 q.2)) (buf 0)
  uqFinish ((s.writeBytes (rdLe d 0x10 8) (sum.flatMap (toLe 4))).bump 0x3400 1) u (rdLe d 0x18 4)

/-- TIESUM. -/
def execTiesum (u : Nat) (s : State) : Host.Outcome State Fault Refusal :=
  unitCommand u 1 (fun _ => true) (fun s _ desc => .next (runTiesum s u desc)) s

/-- The NORM record (R122) of FP32 values. -/
def normRecord (ws : List Nat) : List Byte :=
  let vs := ws.map dec32
  toLe 8 (sumSq vs) ++ toLe 8 (vs.filter (fun v => !v.isFin)).length ++ toLe 8 ws.length ++ zeros 8

/-- NORM (R122). -/
def runNorm (s : State) (u : Nat) (d : List Byte) : State :=
  let ws := numsOf 4 (s.readBytes (rdLe d 8 8) (4 * rdLe d 0x10 8))
  uqFinish ((s.writeBytes (rdLe d 0x18 8) (normRecord ws)).bump 0x3400 3) u (rdLe d 0x30 4)

/-- NORM. -/
def execNormEntry (u : Nat) (s : State) : Host.Outcome State Fault Refusal :=
  unitCommand u 2 (fun _ => true) (fun s d _ => .next (runNorm s u d)) s

/-! ### INNER -/

/-- A late non-finite value (R125): counted, and fatal. -/
def lateNonfinite (s : State) : State := (s.bump 0x3400 9).enterFaulted 2 0

/-- Does the gate of R123 fail? -/
def gateFails (rule c n : Nat) : Bool :=
  let v := dec32 c
  v.isNan || v.isZero || v.sign || FV.lt oneV v || (rule == 2 && (!fin32 n || (dec32 n).isZero || (dec32 n).sign))

/-- The place of the first value that is not finite. -/
def firstBad (vs : List FV) : Option Nat := vs.findIdx? (fun v => !v.isFin)

/-- INNER on an HBM shard, its gate passed: at a non-finite element an open number of the whole lines before it is written. -/
def innerHbm (s : State) (u : Nat) (d : List Byte) (a : Nat) : State :=
  let hdr := rdLe d 8 8
  let h := s.shard hdr
  let fmt := shFmt h
  let gs := (numsOf 4 (s.readBytes (rdLe d 0x10 8) (4 * shElems h))).map dec32
  match firstBad gs with
  | some e =>
    let o := s.draw 64
    let k := o.1.toNat % (e * paramW fmt / 64 + 1)
    lateNonfinite (innerRow o.2 (rdLe d 4 1) a fmt (hdr + 64) (gs.take (k * 64 / paramW fmt)))
  | none =>
    let s1 := innerRow s (rdLe d 4 1) a fmt (hdr + 64) gs
    uqFinish (((s1.bumpVersion hdr).sealShard hdr).bump 0x3400 4) u (rdLe d 0x30 4)

/-- One row of a logged INNER (R128, R131): nothing for zeros, an entry in the log, or, once the log had no room, the row
itself. The flag tells whether rows are applied directly. -/
def innerLogRow (d : List Byte) (a n : Nat) (acc : State × Bool) (row : Nat × List FV) : State × Bool :=
  let s := acc.1
  let hdr := rdLe d 8 8
  let h := s.shard hdr
  let fmt := shFmt h
  let rule := rdLe d 4 1
  let addr := hdr + 64 + row.1 * n * paramW fmt
  let apply := fun (t : State) => (innerRow t rule a fmt addr (rowDecode n (rowCodes row.2))).bump 0x3500 5
  if row.2.all FV.isZero then acc
  else if acc.2 then (apply s, true)
  else
    match s.logAppend rule fmt addr (rdLe d 0 4) ((rdLe d 0x34 4 + row.1) % 2 ^ 32) a hdr row.2 with
    | some t => (t, false)
    | none => (apply (s.applyLog.bump 0x3500 4), true)

/-- INNER on a slow shard (R128, R131), its gate passed. -/
def innerSlow (s : State) (u : Nat) (d : List Byte) (a : Nat) : Host.Outcome State Fault Refusal :=
  let hdr := rdLe d 8 8
  let el := shElems (s.shard hdr)
  let n := rowLen d
  let gs := (numsOf 4 (s.readBytes (rdLe d 0x10 8) (4 * el))).map dec32
  let rows := chunksOf n gs
  let numbered := (List.range rows.length).zip rows
  match firstBad gs with
  | some e =>
    let o := s.draw 64
    .next (lateNonfinite ((numbered.take (o.1.toNat % (e / n + 1))).foldl (innerLogRow d a n) (o.2, false)).1)
  | none =>
    let r := numbered.foldl (innerLogRow d a n) (s, false)
    let t := r.1.bumpVersion hdr
    .next (uqFinish ((if r.2 then t.sealShard hdr else t.clearValid hdr).bump 0x3400 4) u (rdLe d 0x30 4))

/-- INNER (R123, R124, R128). -/
def runInner (s : State) (u : Nat) (d : List Byte) : Host.Outcome State Fault Refusal :=
  let rule := rdLe d 4 1
  let c := s.readNat (rdLe d 0x20 8) 4
  let n := if rule = 2 then s.readNat (rdLe d 0x28 8) 4 else 0
  if gateFails rule c n then .next (uqFinish (s.bump 0x3400 6) u (rdLe d 0x30 4))
  else
    let a := ruleFactor rule (rdLe d 0x1C 4) c n
    if shSlow (s.shard (rdLe d 8 8)) then innerSlow s u d a else .next (innerHbm s u d a)

/-- INNER. -/
def execInner (u : Nat) (s : State) : Host.Outcome State Fault Refusal :=
  unitCommand u 3 (fun _ => true) (fun s d _ => runInner s u d) s

/-! ### OUTER -/

/-- R126 on one element: the new parameter in FP32 and the new momentum, as bits. -/
def outerElem (mu eta : Nat) (dl mom p : FV) : Nat × Nat :=
  let m := enc32 (((dec32 mu).mul mom).add dl)
  let t := enc32 (((dec32 mu).mul (dec32 m)).add dl)
  (enc32 (((dec32 eta).mul (dec32 t)).add p), m)

/-- The decoded MXFP8 momentum of `el` elements. -/
def momentum (s : State) (mom el : Nat) : List FV :=
  let codes := numsOf 1 (s.readBytes mom el)
  let scales := numsOf 1 (s.readBytes (mom + el) (el / 32))
  (List.range el).map (fun i => decMx false (scales.getD (i / 32) 0) (codes.getD i 0))

/-- The MXFP8 blocks of values (R70): element bytes and scale bytes. -/
def momBytes (ws : List Nat) : List Byte × List Byte :=
  let bs := (chunksOf 32 (ws.map dec32)).map (convMx false)
  (bs.flatMap (fun b => b.2.1.flatMap (fun c => toLe 1 c.1)), bs.flatMap (fun b => toLe 1 b.1))

/-- The outer rule over a shard with the FP32 words of a delta: parameters and momentum (R126), the header's ROUND, VERSION and DIGEST; a non-finite value is
fatal, an open number of the lines before it written (R125). The flag tells whether it completed. -/
def outerRule (s : State) (hdr : Nat) (delta : List Nat) (mom mu eta round : Nat) : State × Bool :=
  let h := s.shard hdr
  let fmt := shFmt h
  let el := shElems h
  let w := paramW fmt
  let dl := delta.map dec32
  let ms := momentum s mom el
  let ps := (numsOf w (s.readBytes (hdr + 64) (w * el))).map (decParam fmt)
  let r := ((dl.zip ms).zip ps).map (fun q => outerElem mu eta q.1.1 q.1.2 q.2)
  let enc := r.map (fun q => encParam fmt q.1)
  let mb := momBytes (r.map (·.2))
  let write := fun (t : State) (np nm ns : Nat) =>
    (((t.writeBytes (hdr + 64) ((enc.take np).flatMap (fun x => toLe w x.1))).writeBytes mom (mb.1.take nm)).writeBytes
      (mom + el) (mb.2.take ns)).bumpBy 0x3400 8 ((enc.take np).filter (·.2)).length
  match firstBad (((dl.zip ms).zip r).map (fun q =>
      if q.1.1.isFin && q.1.2.isFin then dec32 q.2.1 else .nan)) with
  | some e =>
    let a := s.draw 64
    let b := a.2.draw 64
    let c := b.2.draw 64
    (lateNonfinite (write c.2 (a.1.toNat % (e * w / 64 + 1) * 64 / w) (b.1.toNat % (e / 64 + 1) * 64)
      (c.1.toNat % (e / 2048 + 1) * 64)), false)
  | none =>
    let s1 := write s el el (el / 32)
    (((s1.writeBytes (hdr + 0x14) (toLe 4 round)).bumpVersion hdr).sealShard hdr, true)

/-- OUTER (R126). -/
def runOuter (s : State) (u : Nat) (d : List Byte) : State :=
  let el := shElems (s.shard (rdLe d 8 8))
  let r := outerRule s (rdLe d 8 8) (numsOf 4 (s.readBytes (rdLe d 0x10 8) (4 * el))) (rdLe d 0x18 8) (rdLe d 0x20 4) (rdLe d 0x24 4) (rdLe d 0x28 4)
  if r.2 then uqFinish (r.1.bump 0x3400 5) u (rdLe d 0x30 4) else r.1

/-- OUTER. -/
def execOuter (u : Nat) (s : State) : Host.Outcome State Fault Refusal :=
  unitCommand u 4 (fun _ => true) (fun s d _ => afterLog s (shSlow (s.shard (rdLe d 8 8))) (fun t => runOuter t u d)) s

/-! ### DIGEST, LOG_APPLY -/

/-- DIGEST (R127). -/
def runDigest (s : State) (u : Nat) (d : List Byte) : State :=
  let hdr := rdLe d 8 8
  let h := s.shard hdr
  let s1 :=
    if rdLe d 4 1 = 0 then s.sealShard hdr
    else
      let same := foldDigest s (s.readBytes (hdr + 64) (shBytes h)) == slice h 0x30 16
      s.writeBytes (rdLe d 0x10 8) (toLe 4 (if !shValid h then 2 else if same then 0 else 1))
  uqFinish s1 u (rdLe d 0x30 4)

/-- DIGEST. -/
def execDigest (u : Nat) (s : State) : Host.Outcome State Fault Refusal :=
  unitCommand u 5 (fun _ => true) (fun s d _ => afterLog s (shSlow (s.shard (rdLe d 8 8))) (fun t => runDigest t u d)) s

/-- LOG_APPLY (R130). -/
def execLogApply (u : Nat) (s : State) : Host.Outcome State Fault Refusal :=
  unitCommand u 6 (fun _ => true) (fun s d _ => afterLog s true (fun t => uqFinish t u (rdLe d 0x30 4))) s

/-! ### Coordinate records (R133) -/

/-- Bytes 0x40 to 0x7F of a coordinate record: the six coordinates and the export FT. -/
def coordTail (coords : List Byte) (ft : Int) : List Byte := coords ++ toLe 8 (ftNat ft) ++ zeros 32

/-- Write the coordinate record of the shard at `hdr`. -/
def exportRecord (s : State) (hdr rec_ : Nat) (coords : List Byte) : State :=
  let h := s.shard hdr
  (s.writeBytes rec_ (h ++ coordTail coords s.time.ft ++ s.readBytes (hdr + 64) (shBytes h))).bump 0x3600 1

/-- COORD_EXPORT (R133). -/
def execCoordExport (u : Nat) (s : State) : Host.Outcome State Fault Refusal :=
  unitCommand u 7 (fun d => rdLe d 4 1 != 1) (fun s d _ =>
    .next (uqFinish (exportRecord s (rdLe d 8 8) (rdLe d 0x10 8) (slice d 0x18 24)) u (rdLe d 0x30 4))) s

namespace State

/-- The shards the module keeps (OD 0x7500.01): SHARD, SLOT_BYTES and BASE. -/
def keptShards (s : State) : List (Nat × Nat × Nat) :=
  (chunksOf 16 (s.blobGet 0x7500 1)).map (fun e => (rdLe e 0 4, rdLe e 4 4, rdLe e 8 8))

/-- The tensors of a shard under the installed outer plan. -/
def planTensors (s : State) (shard : Nat) : List Config.PlanTensor := Config.planOf (s.blobGet 0x7000 1) shard

/-- The kept tensor whose shard header lies at an address. -/
def keptTensor (s : State) (tensor hdr : Nat) : Option Config.PlanTensor :=
  (s.keptShards.flatMap (fun k => s.planTensors k.1)).find? (fun t => t.tensor == tensor && t.hdr == hdr)

end State

/-- The first pass of an import: does the record fit the descriptor and the target, and is its digest right? -/
def importOk (s : State) (d : List Byte) : Bool :=
  let h := s.shard (rdLe d 8 8)
  let r := s.readBytes (rdLe d 0x10 8) 128
  rdLe r 0 4 == 0x44524853 && rdLe r 4 1 == 1 && rdLe r 8 4 == rdLe d 0 4 && slice r 0x40 24 == slice d 0x18 24 &&
  shFmt r == shFmt h && shElems r == shElems h && shBytes r == shBytes h &&
  foldDigest s (s.readBytes (rdLe d 0x10 8 + 128) (shBytes r)) == slice r 0x30 16

/-- The keeper's momentum follows the record in a checkpoint's image (R257, R259): it is copied once its digest has been checked. -/
def importMomentum (s : State) (rec_ tensor mom el : Nat) : State :=
  let at_ := rec_ + 128 + shBytes (s.readBytes rec_ 64)
  let h := s.readBytes at_ 64
  let n := el + el / 32
  let bs := s.readBytes (at_ + 64) n
  if rdLe h 0 4 == tensor && rdLe h 8 8 == n && tierOk s mom n && padTo 16 (foldDigest s bs) == slice h 0x10 16 then s.writeBytes mom bs
  else s

/-- The second pass of an import: payload and header, with the descriptor's EPOCH and DIGEST_VALID. -/
def importRecord (s : State) (d : List Byte) : State :=
  let hdr := rdLe d 8 8
  let r := s.readBytes (rdLe d 0x10 8) 64
  let h := patch (patch r 6 (toLe 1 (shFlags r ||| 1))) 0xE (slice d 6 2)
  let s1 := (s.writeBytes hdr (h ++ s.readBytes (rdLe d 0x10 8 + 128) (shBytes r))).bump 0x3600 2
  match s.keptTensor (rdLe d 0 4) hdr with
  | some t => importMomentum s1 (rdLe d 0x10 8) t.tensor t.mom (shElems h)
  | none => s1

/-- COORD_IMPORT (R133): a record that fails the first pass is refused with MISMATCH. -/
def execCoordImport (u : Nat) (s : State) : Host.Outcome State Fault Refusal :=
  unitCommand u 7 (fun d => rdLe d 4 1 != 0) (fun s d _ =>
    .next (if importOk s d then uqFinish (importRecord s d) u (rdLe d 0x30 4) else uqRefuse s u 7 8)) s

/-! ### SCRUB -/

/-- SCRUB (R134 to R136): a line of HBM is read, those of a training area too; `found.symbols` is how many wrong byte symbols the decoder
finds in a half-line. One is corrected and counted; more are uncorrectable and fatal. A SCRUB_PERIOD of 0 stops scrubbing. With
`found.reader`, the finder is an ordinary reader and not the scrub: of HBM, of the slow tier, or, at any other address, the SECDED of an
SRAM or Barrel word or of a word of a pass queue or unit buffer, which has no address of its own (DESIGN CHOICE, log 12). -/
def execScrub (addr : Nat) (found : EccFind) (s : State) : Host.Outcome State Fault Refusal :=
  if s.modState = stCold || s.modState == stBoot || found.symbols == 0 then .next s
  else if addr < barrelBase && decide (addr / hbmStride < 8) && decide (addr % hbmStride < hbmSize) then
    if !found.reader && s.odGet 0x3300 1 = 0 then .next s
    else if found.symbols = 1 then .next (State.bump { s with wrong := fdel s.wrong (addr / 64) } 0x3300 2)
    else .next (State.eccFault { s with wrong := fput 0 s.wrong (addr / 64) found.symbols } addr)
  else if !found.reader then .next s
  else if slowBase ≤ addr then .next (if found.symbols = 1 || !s.inSlow addr 1 then s else s.eccFault addr)
  else .next (if found.symbols = 1 then s.bump 0x3300 3 else s.eccFault addr)

end Sys2Proof.Machine
end

