-- ==== Sys2Proof/Machine/Fusee.lean ====
section
/-! DEFINITION. The Fusee (09, 9.3 and 9.4): its queues, the compression steps, records and messages. -/

namespace Sys2Proof.Machine

/-! ### SFP16 data in the record layout (Table 9.6) -/

/-- Bytes of `n` elements: codes padded to 64 elements, then a scale per 64, padded to 64 bytes. -/
def sfpSize (n : Nat) : Nat := 2 * roundUp n 64 + roundUp (roundUp n 64 / 64) 64

/-- The bytes of FP32 values in the record layout (R71). -/
def sfpBytes (ws : List Nat) : List Byte :=
  let bs := rowCodes (ws.map dec32)
  padTo (2 * roundUp ws.length 64) (bs.flatMap (fun b => b.2.flatMap (toLe 2))) ++
  padTo (roundUp (roundUp ws.length 64 / 64) 64) (bs.flatMap (fun b => toLe 1 b.1))

/-- The values that `n` elements in the record layout decode to. -/
def sfpVals (n : Nat) (bs : List Byte) : List FV :=
  let codes := numsOf 2 (slice bs 0 (2 * n))
  let scales := numsOf 1 (bs.drop (2 * roundUp n 64))
  (List.range n).map (fun i => decSfp16 (scales.getD (i / 64) 0) (codes.getD i 0))

/-! ### FP64 sums -/

/-- A dot product of exact products, one FP64 rounding per addition, in ascending order. -/
def dot64 (a b : List FV) : Nat := (a.zip b).foldl (fun s q => enc64 ((dec64 s).add (q.1.mul q.2))) 0

/-- The FP64 square root. -/
def f64sqrt (x : Nat) : Nat := enc64 (dec64 x).sqrt

/-- A column of a row-major matrix of `r` columns. -/
def column (m : List FV) (r j : Nat) : List FV := (chunksOf r m).map (fun row => row.getD j (.fin false 0 0))

/-! ### ORTHO (R222) -/

/-- One classical pass of a column against the earlier ones: the FP64 products first, then the FP32 corrections. -/
def orthoPass (before : List (List Nat)) (c : List Nat) : List Nat :=
  let dots := before.map (fun p => enc32 (dec64 (dot64 (p.map dec32) (c.map dec32))))
  (before.zip dots).foldl (fun v q => (q.1.zip v).map (fun x => enc32 (((dec32 q.2).neg.mul (dec32 x.1)).add (dec32 x.2)))) c

/-- One column: two passes, then the scaling to norm 1, or zero where nothing is left of it. -/
def orthoCol (before : List (List Nat)) (c : List Nat) : List Nat :=
  let n0 := f64sqrt (dot64 (c.map dec32) (c.map dec32))
  let v := orthoPass before (orthoPass before c)
  let n := f64sqrt (dot64 (v.map dec32) (v.map dec32))
  let small := (dec64 n).isZero || (!(dec64 n).isNan && !(dec64 n0).isNan && !FV.lt ((dec64 n0).scale (-30)) (dec64 n))
  if small then c.map (fun _ => 0) else v.map (fun w => f32mul w (enc32 (oneV.div (dec64 n))))

/-- ORTHO of a row-major FP32 matrix of `r` columns. -/
def orthoMat (ws : List Nat) (r : Nat) : List Nat :=
  let rows := chunksOf r ws
  let cols := (List.range r).map (fun j => rows.map (fun x => x.getD j 0))
  let done := cols.foldl (fun acc c => acc ++ [orthoCol acc c]) []
  (List.range rows.length).flatMap (fun i => done.map (fun c => c.getD i 0))

/-! ### Norms (R224) -/

/-- An entry of a Gram matrix. -/
def gram (m : List FV) (r a b : Nat) : Nat := dot64 (column m r a) (column m r b)

/-- SUMSQ of a factor record. -/
def sumsqFactors (p q : List FV) (r : Nat) : Nat :=
  let s := ((List.range r).flatMap (fun a => (List.range r).map (fun b => f64mul (gram p r a b) (gram q r a b)))).foldl f64add 0
  if (dec64 s).sign && !(dec64 s).isNan then 0 else s

/-- SUMSQ of a vector record. -/
def sumsqVector (v : List FV) : Nat := dot64 v v

/-- A record of a message: its header fields and the bytes of its payload. -/
structure Rec where
  tensor : Nat
  kind : Nat
  rank : Nat
  rows : Nat
  cols : Nat
  bytes : Nat
  payload : List Byte
  deriving DecidableEq, Repr

/-- The record at an offset of a message. -/
def recAt (m : List Byte) (o : Nat) : Rec :=
  let h := slice m o 64
  { tensor := rdLe h 0 4, kind := rdLe h 4 1, rank := rdLe h 6 2, rows := rdLe h 8 4, cols := rdLe h 0xC 4,
    bytes := rdLe h 0x10 8, payload := slice m (o + 64) (min (rdLe h 0x10 8) (m.length - (o + 64))) }

/-- The records of a message, from offset `o` on; a record starts on a 64-byte boundary. -/
def recsFrom (m : List Byte) : Nat → Nat → List Rec
  | 0, _ => []
  | n + 1, o => if m.length ≤ o then [] else recAt m o :: recsFrom m n (o + 64 + roundUp (recAt m o).bytes 64)

/-- The records that a contribution message holds. -/
def msgRecs (m : List Byte) : List Rec := recsFrom m (rdLe m 6 2) 64

namespace Rec

/-- The values of the first part: P̂, or the vector. -/
def first (r : Rec) : List FV := sfpVals (if r.rank = 0 then r.cols else r.rows * r.rank) r.payload

/-- The values of Q̂. -/
def second (r : Rec) : List FV :=
  if r.rank = 0 then [] else sfpVals (r.cols * r.rank) (r.payload.drop (sfpSize (r.rows * r.rank)))

/-- SUMSQ recomputed. -/
def sumsq (r : Rec) : Nat := if r.rank = 0 then sumsqVector r.first else sumsqFactors r.first r.second r.rank

/-- Elements that are NaN or infinite. -/
def nonfinite (r : Rec) : Nat := ((r.first ++ r.second).filter (fun v => !v.isFin)).length

end Rec

/-- NORM of a message (R224). -/
def msgNorm (m : List Byte) : Nat := f64sqrt (((msgRecs m).map Rec.sumsq).foldl f64add 0)

/-- Non-finite elements of a message. -/
def msgNonfinite (m : List Byte) : Nat := ((msgRecs m).map Rec.nonfinite).sum

/-- The header of a record. -/
def recHeader (tensor rank rows cols bytes sumsq : Nat) : List Byte :=
  toLe 4 tensor ++ toLe 1 (if rank = 0 then 2 else 1) ++ [0] ++ toLe 2 rank ++ toLe 4 rows ++ toLe 4 cols ++ toLe 8 bytes ++
  toLe 8 sumsq ++ zeros 32

/-! ### Queues (R221) -/

/-- The queue of Fusee d. -/
def fqSpec (s : State) (d : Nat) : QSpec :=
  { key := 48 + d, base := s.odGet 0x7800 1 + d * 0x4000, door := s.odGet 0x7800 2 + d, done := s.odGet 0x7800 2 + 2 + d }

/-- The next entry of Fusee d. -/
def fqNext (s : State) (d : Nat) : W32 := fget 0 s.uqNext (48 + d)

/-- Go on to the next entry. -/
def fqStep (s : State) (d : Nat) : State :=
  State.freeHead ({ s with uqNext := fput 0 s.uqNext (48 + d) (fqNext s d + 1) }.post (fqSpec s d).done) (48 + d)

/-- An entry completes. -/
def fqFinish (s : State) (d post : Nat) : State := fqStep (s.postWord post) d

/-- An entry is refused: the reason is recorded as R120 says, and the refusal counted (R221). -/
def fqRefuse (s : State) (d kind reason : Nat) : State :=
  fqStep ((s.odSet 0x3400 0xA (kind * 2 ^ 24 + d * 2 ^ 20 + reason)).countNotify 0x7800 3) d

/-- Fields of a Fusee descriptor (Table 9.3). -/
def fRank (b : List Byte) : Nat := rdLe b 4 2
/-- ROWS. -/
def fRows (b : List Byte) : Nat := rdLe b 8 4
/-- COLS. -/
def fCols (b : List Byte) : Nat := rdLe b 0xC 4
/-- SRC0. -/
def fSrc0 (b : List Byte) : Nat := rdLe b 0x10 8
/-- SRC1. -/
def fSrc1 (b : List Byte) : Nat := rdLe b 0x18 8
/-- DST. -/
def fDst (b : List Byte) : Nat := rdLe b 0x20 8
/-- RESULT. -/
def fResult (b : List Byte) : Nat := rdLe b 0x28 8
/-- BYTES. -/
def fBytes (b : List Byte) : Nat := rdLe b 0x38 8

/-- Bytes of a record at DST of PACK. -/
def packSize (b : List Byte) : Nat :=
  64 + (if fRank b = 0 then sfpSize (fCols b) else sfpSize (fRows b * fRank b) + sfpSize (fCols b * fRank b))

/-- The ranges a kind reads and writes: address and length, SRC1 and DST where they are used. -/
def fRanges (kind : Nat) (b : List Byte) : List (Nat × Nat) :=
  let n := fRows b * fCols b
  let io := match kind with
    | 1 => [(fSrc0 b, 4 * n), (fSrc1 b, 4 * n), (fDst b, 4 * n + 2 * roundUp n 64 + roundUp n 64 / 64)]
    | 2 => [(fSrc0 b, 4 * fRows b * fRank b), (fDst b, sfpSize (fRows b * fRank b))]
    | 3 => [(fSrc0 b, 4 * n), (fSrc1 b, 4 * n), (fDst b, 4 * n)]
    | 4 =>
      if fRank b = 0 then [(fSrc0 b, 4 * fCols b), (fDst b, packSize b)]
      else [(fSrc0 b, sfpSize (fRows b * fRank b)), (fSrc1 b, 4 * fCols b * fRank b), (fDst b, packSize b)]
    | _ => [(fSrc0 b, fBytes b)]
  (fResult b, 64) :: io

/-- Is a field of a descriptor outside its range? -/
def fRange (kind : Nat) (b : List Byte) : Bool :=
  let r := fRank b
  let bytesKind := decide (5 ≤ kind)
  !postWordOk (rdLe b 0x30 4) || !zeroAt b 0x34 4 || (r != 0 && (decide (r < 4) || decide (256 < r) || r % 4 != 0)) ||
  (bytesKind && r != 0) || (!bytesKind && fBytes b != 0) || (kind == 2 && r == 0) ||
  (!bytesKind && (fRows b == 0 || fCols b == 0)) || (!bytesKind && r == 0 && fRows b != 1) ||
  (kind == 5 && decide (fBytes b < 64)) ||
  ((bytesKind || kind == 2 || (kind == 4 && r == 0)) && fSrc1 b != 0)

/-- Why the entry may not run (R120, R221). -/
def fReason (s : State) (kind : Nat) (b : List Byte) : Option Nat :=
  firstReason [(fRange kind b, 1), (!(fRanges kind b).all (fun q => hbmOk s q.1 q.2), 2), (rdLe b 6 2 != s.odGet 0x2010 1, 6)]

/-- A Fusee command: the head entry of Fusee d, if it may start and is of this kind; it waits (R250), is refused or runs. -/
def fuseeCommand (d kind : Nat) (body : State → List Byte → State) (s : State) : Host.Outcome State Fault Refusal :=
  if s.queuesStart && decide (d < 2) && s.rung (fqSpec s d).door (fqNext s d) then
    let en := s.ringEntry (fqSpec s d).base (fqNext s d).toNat
    let b := s.readBytes en.desc 64
    let odd := en.kind = 0 || decide (6 < en.kind)
    match s.wrongLine [((fqSpec s d).base + (fqNext s d).toNat % 1024 * 16, 16)] with
    | some a => .next (s.eccFault a)
    | none =>
    if !odd && en.kind ≠ kind then .next s
    else if hbmOk s en.desc 64 && s.epochWaits (rdLe b 6 2) then .next (s.holdHead (48 + d))
    else if odd || en.rsv ≠ 0 then .next (fqRefuse s d en.kind 1)
    else if !hbmOk s en.desc 64 then .next (fqRefuse s d kind 2)
    else match fReason s kind b with
      | some r => .next (fqRefuse s d kind r)
      | none =>
        match s.wrongLine ((en.desc, 64) :: (fRanges kind b).filter (fun q => q.1 != fDst b && q.1 != fResult b)) with
        | some a => .next (s.eccFault a)
        | none => .next (fqFinish (body s b) d (rdLe b 0x30 4))
  else .next s

/-- The result line (Table 9.3). -/
def resultLine (nonfinite value : Nat) (digest : List Byte) : List Byte :=
  toLe 8 nonfinite ++ toLe 8 value ++ padTo 16 digest ++ zeros 32

/-- FP32 words of a range. -/
def f32At (s : State) (a n : Nat) : List Nat := numsOf 4 (s.readBytes a (4 * n))

/-- How many FP32 words are not finite. -/
def badCount (ws : List Nat) : Nat := (ws.filter (fun w => !fin32 w)).length

/-! ### Own deltas (R222) -/

namespace State

/-- The shard of a tensor among the kept ones. -/
def shardOf (s : State) (tensor : Nat) : Option Nat :=
  (s.keptShards.find? (fun k => (s.planTensors k.1).any (fun t => t.tensor == tensor))).map (·.1)

/-- Change the outer-round state. -/
def outerMod (s : State) (f : Outer → Outer) : State := { s with outer := f s.outer }

/-- Write a buffer of the outer plan, in HBM or the mapped slow tier, and only where there is one. -/
def planWrite (s : State) (a : Nat) (bs : List Byte) : State :=
  if a ≠ 0 && (s.inHbm a bs.length || s.inSlow a bs.length) then s.writeBytes a bs else s

/-- The parameters of the keeper's copy of B of a tensor. -/
def baseVals (s : State) (t : Config.PlanTensor) : List FV :=
  let h := s.shard t.hdr
  (numsOf (paramW (shFmt h)) (s.readBytes (t.hdr + 64) (paramW (shFmt h) * shElems h))).map (decParam (shFmt h))

/-- Does the keeper hold a slice of θ of a tensor, under a header of a format that INNER takes (Table 9.2)? -/
def holdsTheta (s : State) (t : Config.PlanTensor) : Bool :=
  let h := s.shard t.theta
  t.theta != 0 && ruleFmt (shFmt h) && s.inHbm t.theta (64 + paramW (shFmt h) * shElems h)

/-- Write the words of a slice of θ; its header's VERSION and DIGEST follow. -/
def thetaWrite (s : State) (t : Config.PlanTensor) (ws : List Nat) : State :=
  (((s.writeBytes (t.theta + 64) (ws.flatMap (toLe (paramW (shFmt (s.shard t.theta)))))).bumpVersion t.theta).sealShard t.theta)

/-- θ of a tensor becomes B (R222, R235, R236, R242). -/
def thetaToBase (s : State) (t : Config.PlanTensor) : State :=
  let h := s.shard t.theta
  if s.holdsTheta t then
    s.thetaWrite t ((((s.baseVals t).drop t.first).take (shElems h)).map (fun v => (encParam (shFmt h) (enc32 v)).1))
  else s

/-- A holder of θ rebases from the parameters `old` of B to the new ones, less the sealed delta at `delta` (R235). -/
def rebase (s : State) (t : Config.PlanTensor) (old : List FV) (delta : Option Nat) : State :=
  let h := s.shard t.theta
  let fmt := shFmt h
  let n := shElems h
  if s.holdsTheta t then
    let moved := (((s.baseVals t).drop t.first).zip (old.drop t.first)).map (fun q => enc32 (q.1.add q.2.neg))
    let steps := match delta with
      | some a => (moved.zip (numsOf 4 (s.readBytes a (4 * n)))).map (fun q => f32sub q.1 q.2)
      | none => moved
    let theta := numsOf (paramW fmt) (s.readBytes (t.theta + 64) (paramW fmt * n))
    s.thetaWrite t ((theta.zip steps).map (fun q => (encParam fmt (enc32 ((decParam fmt q.1).add (dec32 q.2)))).1))
  else s

/-- The keeper's own delta of a shard is given up: θ is set to B and E to 0, and its unresolved seals and ready contribution are
discarded (R222, R235, R236). -/
def dropDelta (s : State) (shard : Nat) : State :=
  let s1 := (s.planTensors shard).foldl (fun a t => (a.thetaToBase t).planWrite t.resid (zeros (4 * t.rows * t.cols))) s
  s1.outerMod (fun o => { o with seals := fput [] o.seals shard [], ready := o.ready.filter (fun r => r.2.1 != shard) })

/-- EFADD or PACK has counted a non-finite value (R222): the shard sends nothing in the round of the latest stamp and is reset,
which is counted once a round. -/
def deltaBad (s : State) (tensor bad : Nat) : State :=
  match s.shardOf tensor with
  | some k =>
    let r := ((s.outer.stamped.head?).map (·.1)).getD 0
    if bad = 0 then s
    else if s.outer.spoiled.contains (k, r) then s.dropDelta k
    else ((s.dropDelta k).outerMod (fun o => { o with spoiled := (k, r) :: o.spoiled })).bump 0x7300 5
  | none => s

end State

/-! ### The kinds (Table 9.4) -/

/-- EFADD. -/
def execEfadd (d : Nat) (s : State) : Host.Outcome State Fault Refusal :=
  fuseeCommand d 1 (fun s b =>
    let n := fRows b * fCols b
    let x := ((f32At s (fSrc0 b) n).zip (f32At s (fSrc1 b) n)).map (fun q => f32add q.1 q.2)
    let bs := rowCodes (x.map dec32)
    let sfp := bs.flatMap (fun c => c.2.flatMap (toLe 2)) ++ bs.flatMap (fun c => toLe 1 c.1)
    ((s.writeBytes (fDst b) (x.flatMap (toLe 4) ++ sfp)).writeBytes (fResult b) (resultLine (badCount x) 0 [])).deltaBad
      (rdLe b 0 4) (badCount x)) s

/-- ORTHO. -/
def execOrtho (d : Nat) (s : State) : Host.Outcome State Fault Refusal :=
  fuseeCommand d 2 (fun s b =>
    let p := orthoMat (f32At s (fSrc0 b) (fRows b * fRank b)) (fRank b)
    (s.writeBytes (fDst b) (sfpBytes p)).writeBytes (fResult b) (resultLine 0 0 [])) s

/-- RESID. -/
def execResid (d : Nat) (s : State) : Host.Outcome State Fault Refusal :=
  fuseeCommand d 3 (fun s b =>
    let n := fRows b * fCols b
    let e := ((f32At s (fSrc0 b) n).zip (f32At s (fSrc1 b) n)).map (fun q => f32sub q.1 q.2)
    (s.writeBytes (fDst b) (e.flatMap (toLe 4))).writeBytes (fResult b) (resultLine (badCount e) 0 [])) s

/-- PACK. -/
def execPack (d : Nat) (s : State) : Host.Outcome State Fault Refusal :=
  fuseeCommand d 4 (fun s b =>
    let r := fRank b
    let payload :=
      if r = 0 then sfpBytes (f32At s (fSrc0 b) (fCols b))
      else s.readBytes (fSrc0 b) (sfpSize (fRows b * r)) ++ sfpBytes (f32At s (fSrc1 b) (fCols b * r))
    let rc : Rec := { tensor := rdLe b 0 4, kind := if r = 0 then 2 else 1, rank := r, rows := fRows b, cols := fCols b,
                      bytes := payload.length, payload := payload }
    let bytes := recHeader rc.tensor r rc.rows rc.cols rc.bytes rc.sumsq ++ payload
    ((s.writeBytes (fDst b) bytes).writeBytes (fResult b) (resultLine rc.nonfinite rc.sumsq [])).deltaBad rc.tensor
      rc.nonfinite) s

/-- FOLD. -/
def execFoldDigest (d : Nat) (s : State) : Host.Outcome State Fault Refusal :=
  fuseeCommand d 6 (fun s b =>
    s.writeBytes (fResult b) (resultLine 0 0 (foldDigest s (s.readBytes (fSrc0 b) (fBytes b))))) s

end Sys2Proof.Machine
end

