-- ==== Sys2Proof/Machine/Control.lean ====
section
/-! DEFINITION. Stream descriptors (R33, R34), hand switching (R51) and the control class (02, 2.10). -/

namespace Sys2Proof.Machine

/-! ### Stream descriptors -/

/-- The fields of a stream descriptor that step 2 of R33 checks. -/
def streamRangeOk (s : State) (port : Nat) (d : BitVec 256) : Bool :=
  let handB := fld d 16 8
  let load := Nat.testBit (fld d 24 8) 1
  let len := fld d 48 16
  let src := fld d 64 64
  let at_ := fld d 128 16
  let lo := if handB = 0 then 0 else 1024
  let srcOk := match s.region src (8 * len) with
    | .hbm _ => true
    | .slowTier => true
    | .instr _ => true
    | .data _ => true
    | _ => false
  s.portExists port && decide (handB ≤ 1) && fld d 26 6 == 0 && fld d 144 16 == 0 && decide (fld d 32 16 ≤ 2047) &&
    (!load || (decide (1 ≤ len) && decide (len ≤ 1024) && decide (lo ≤ at_) && decide (at_ + len ≤ lo + 1024) &&
      src % 8 == 0 && srcOk))

/-- The registers of a starting stream (R34). -/
def startRegs (p rank port : Nat) (d : BitVec 256) : FMap W32 :=
  fput 0 (fput 0 (fput 0 (fput 0 (fput 0 (fput 0 [] 1 (BitVec.ofNat 32 p)) 2 (BitVec.ofNat 32 rank)) 3 (BitVec.ofNat 32 port))
    4 (BitVec.ofNat 32 (fld d 160 32))) 5 (BitVec.ofNat 32 (fld d 192 32))) 6 (BitVec.ofNat 32 (fld d 224 32))

/-- The code image that a descriptor loads: the range it reads, if LOAD is set. -/
def loadReads (d : BitVec 256) : List (Nat × Nat) :=
  if Nat.testBit (fld d 24 8) 1 then [(fld d 64 64, 8 * fld d 48 16)] else []

/-- Start a stream on a hand (R34): its code image loaded if LOAD is set, its registers initialised, its vector registers,
restart record and settings 0. An uncorrectable error in the image is fatal, and nothing starts (R136). -/
def startStream (s : State) (p h port : Nat) (d : BitVec 256) : State :=
  let load := Nat.testBit (fld d 24 8) 1
  let n := 8 * fld d 48 16
  let src := fld d 64 64
  match s.wrongLine (loadReads d) with
  | some a => s.eccFault a
  | none =>
  let c := s.crossed (s.pinUnits p) (s.regionUnits (s.region src n))
  let s1 := if load && c.isEmpty then s.memWrite (iaAddr p + 8 * fld d 128 16) (s.readBytes src n) else s
  let s2 := s1.setHand p h {
    st := .ready, pc := fld d 32 16, sregs := startRegs p (s.rankIn port p) port d,
    stream := some { desc := d, port := port }, pend := none }
  if load && !c.isEmpty then ((s2.bump 0x9300 1).isolate c).takeFault p h (fld d 32 16) 0 fIsolated else s2

/-- Deliver a descriptor to one pinion: it starts on an idle hand, otherwise it waits in the pending slot (R33). -/
def deliver (s : State) (p h port : Nat) (d : BitVec 256) : State :=
  let x := s.hand p h
  if x.stream.isNone && x.pend.isNone then startStream s p h port d
  else s.setHand p h { x with pend := some (port, d) }

/-- The answer of an issue port: STATE, RANGE, BUSY, or accepted (R33). -/
def streamAnswer (s : State) (port : Nat) (d : BitVec 256) : IssueAns :=
  let ps := s.portPinions port
  if (s.modState ≠ stRunning && s.modState ≠ stHeld) || (s.portExists port && ps.isEmpty) then .state
  else if !streamRangeOk s port d then .range
  else if ps.any (fun p => (s.hand p (fld d 16 8)).pend.isSome) then .busy
  else .accepted

/-- STREAM_DESCRIPTOR (R33). -/
def execStreamDescriptor (port : Nat) (d : BitVec 256) (s : State) : Host.Outcome State Fault Refusal :=
  let a := streamAnswer s port d
  let s1 := s.emit (.issueStatus a)
  if a = .accepted then
    .next ((s.portPinions port).foldl (fun t p => deliver t p (fld d 16 8) port d)
      (s1.unitMod (port / 65536) (port % 65536) (fun u => { u with tag := fld d 0 16 })))
  else .next s1

/-- PENDING_STREAM_START (R34): the pending descriptor of a hand whose stream has ended starts. -/
def execPendingStreamStart (p h : Nat) (s : State) : Host.Outcome State Fault Refusal :=
  let x := s.hand p h
  match x.pend with
  | some (port, d) =>
    if (s.modState = stRunning || s.modState = stHeld) && s.inService p && x.stream.isNone && decide (h < 2) &&
        (s.pin p).stopping.isNone then
      .next (startStream s p h port d)
    else .next s
  | none => .next s

/-- Pass issue to the other hand and count it (R51). -/
def switchHand (s : State) (p : Nat) : State :=
  (s.pinMod p (fun x => { x with cur := 1 - x.cur })).pinCountBy p 0x2140 3 3 1

/-- Is the hand in a sync-class wait? -/
def inSyncWait (d : Hand) : Bool :=
  d.stream.isSome && (match d.st with
    | .syncWait => true
    | .released _ => true
    | _ => false)

/-- HAND_SWITCH (R51, R52): the current hand has waited on a sync-class wait for more than the gap threshold. -/
def execHandSwitch (p : Nat) (s : State) : Host.Outcome State Fault Refusal :=
  let x := s.pin p
  if s.modState == stRunning && s.inService p && !s.pinHeld p && s.odGet 0x2100 1 != 0 &&
      inSyncWait (x.hand x.cur) && (x.hand (1 - x.cur)).isReady then
    .next (switchHand s p)
  else .next s

/-! ### The control class -/

/-- NOP. -/
def execNop (p h : Nat) (s : State) : Host.Outcome State Fault Refusal :=
  .next (s.issueAs p h 0x00 (fun s _ _ => .done s))

/-- Is a job of this hand? -/
def jobOf (h : Nat) : DmJob → Bool
  | .xfer a _ _ _ _ _ _ _ _ => a == h
  | .barrel a _ _ _ _ _ _ _ => a == h

/-- Has a hand data moves or drains queued? -/
def handBusy (x : Pinion) (h : Nat) : Bool :=
  x.dmq0.any (jobOf h) || x.dmq1.any (jobOf h) ||
    x.tiles.any (fun c => match c.2.drain with
      | some r => r.hand == h
      | none => false)

/-- END: completes when the hand's queued data moves and drains have completed; held tiles stay held. -/
def execEndOp (p h : Nat) (s : State) : Host.Outcome State Fault Refusal :=
  .next (s.issueAs p h 0x01 (fun s d _ =>
    if handBusy (s.pin p) h then .stay s .ending
    else .ended (s.setHand p h { d with st := .idle, stream := none })))

/-- JMP. -/
def execJmp (p h : Nat) (s : State) : Host.Outcome State Fault Refusal :=
  .next (s.issueAs p h 0x02 (fun s _ w => .jump s (fld w 0 11)))

/-- LOOP: decrement, and branch while not zero. -/
def execLoop (p h : Nat) (s : State) : Host.Outcome State Fault Refusal :=
  .next (s.issueAs p h 0x03 (fun s d w =>
    let r := fld w 52 4
    let v := d.sreg r - 1
    let s1 := s.setHand p h (d.setSreg r v)
    if v ≠ 0 then .jump s1 (fld w 0 11) else .done s1))

/-- The branch conditions of BCC; none for an invalid FN. -/
def bccCond (fn : Nat) (a b : W32) : Option Bool :=
  match fn with
  | 0 => some (a == b)
  | 1 => some (a != b)
  | 2 => some (BitVec.slt a b)
  | 3 => some (!(BitVec.slt a b))
  | 4 => some (BitVec.ult a b)
  | 5 => some (!(BitVec.ult a b))
  | _ => none

/-- BCC. -/
def execBcc (p h : Nat) (s : State) : Host.Outcome State Fault Refusal :=
  .next (s.issueAs p h 0x04 (fun s d w =>
    match bccCond (fld w 40 4) (d.sreg (fld w 48 4)) (d.sreg (fld w 44 4)) with
    | none => .fault fIllegal
    | some true => .jump s (fld w 0 11)
    | some false => .done s))

/-- A directory slot of a T2's Barrel. -/
def bslot (s : State) (t2 slot : Nat) : BSlot := fget {} (fget {} s.barrels t2).slots slot

/-- The presence bit of a slot (R101): STATE is PRESENT. -/
def present (s : State) (t2 slot : Nat) : Bool := (bslot s t2 slot).state == 2

/-- BPR (R102): branch on the presence bit; a result that finds P clear is counted. -/
def execBpr (p h : Nat) (s : State) : Host.Outcome State Fault Refusal :=
  .next (s.issueAs p h 0x05 (fun s _ w =>
    let b := present s (s.t2Of p) (fld w 32 6)
    let s1 := if b then s else s.bump 0x2400 5
    if b == Nat.testBit w.toNat 38 then .jump s1 (fld w 0 11) else .done s1))

/-- LI. -/
def execLi (p h : Nat) (s : State) : Host.Outcome State Fault Refusal :=
  .next (s.issueAs p h 0x08 (fun s d w => .done (s.setHand p h (d.setSreg (fld w 52 4) (BitVec.ofNat 32 (fld w 0 32))))))

/-- ADDI. -/
def execAddi (p h : Nat) (s : State) : Host.Outcome State Fault Refusal :=
  .next (s.issueAs p h 0x09 (fun s d w =>
    .done (s.setHand p h (d.setSreg (fld w 52 4) (d.sreg (fld w 48 4) + BitVec.ofNat 32 (fld w 0 32))))))

/-- The register functions of ALU (Table 2.13, R338); none for an invalid FN. -/
def aluFn (fn : Nat) (a b : W32) : Option W32 :=
  let k := b.toNat % 32
  match fn with
  | 0 => some (a + b)
  | 1 => some (a - b)
  | 2 => some (a * b)
  | 3 => some (a &&& b)
  | 4 => some (a ||| b)
  | 5 => some (a ^^^ b)
  | 6 => some (a <<< k)
  | 7 => some (a >>> k)
  | 8 => some (BitVec.sshiftRight a k)
  | 9 => some (if BitVec.slt b a then b else a)
  | 10 => some (if BitVec.slt a b then b else a)
  | 11 => some (if BitVec.ult b a then b else a)
  | 12 => some (if BitVec.ult a b then b else a)
  | _ => none

/-- ALU. -/
def execAlu (p h : Nat) (s : State) : Host.Outcome State Fault Refusal :=
  .next (s.issueAs p h 0x0A (fun s d w =>
    match aluFn (fld w 40 4) (d.sreg (fld w 48 4)) (d.sreg (fld w 44 4)) with
    | none => .fault fIllegal
    | some v => .done (s.setHand p h (d.setSreg (fld w 52 4) v))))

/-- Is a 32-bit word of the data area aligned and in bounds (R55)? -/
def wordAddrOk (a : Nat) : Bool := a % 4 == 0 && State.inData a 4

/-- LDS. -/
def execLds (p h : Nat) (s : State) : Host.Outcome State Fault Refusal :=
  .next (s.issueAs p h 0x0B (fun s d w =>
    let a := regImm d w
    if wordAddrOk a then .done (s.setHand p h (d.setSreg (fld w 52 4) (BitVec.ofNat 32 (leNat (s.rdData p a 4)))))
    else .fault fAddr))

/-- STS. -/
def execSts (p h : Nat) (s : State) : Host.Outcome State Fault Refusal :=
  .next (s.issueAs p h 0x0C (fun s d w =>
    let a := regImm d w
    if wordAddrOk a then .done (s.wrData p a (toLe 4 (d.sreg (fld w 44 4)).toNat)) else .fault fAddr))

/-- SETV (R338). -/
def execSetv (p h : Nat) (s : State) : Host.Outcome State Fault Refusal :=
  .next (s.issueAs p h 0x10 (fun s d w =>
    let v := regImm d w
    if v % 64 = 0 then .done (s.setHand p h { d with setv := BitVec.ofNat 32 v }) else .fault fAddr))

/-- SETEB (R338). -/
def execSeteb (p h : Nat) (s : State) : Host.Outcome State Fault Refusal :=
  .next (s.issueAs p h 0x11 (fun s d w =>
    let v := regImm d w
    if v % 64 = 0 then .done (s.setHand p h { d with seteb := BitVec.ofNat 32 v }) else .fault fAddr))

/-- SETSTG (R338). -/
def execSetstg (p h : Nat) (s : State) : Host.Outcome State Fault Refusal :=
  .next (s.issueAs p h 0x12 (fun s d w =>
    let b := (d.sreg (fld w 48 4)).toNat
    let n := fld w 0 32
    if b % 64 = 0 && decide (b + n ≤ daSize) then
      .done (s.setHand p h { d with stgBase := BitVec.ofNat 32 b, stgSize := BitVec.ofNat 32 n })
    else .fault fAddr))

/-- YIELD (R51): issue passes to the other hand if it is ready. -/
def execYieldOp (p h : Nat) (s : State) : Host.Outcome State Fault Refusal :=
  .next (s.issueAs p h 0x13 (fun s _ _ =>
    .done (if ((s.pin p).hand (1 - h)).isReady then switchHand s p else s)))

/-- MARK (R338). -/
def execMarkOp (p h : Nat) (s : State) : Host.Outcome State Fault Refusal :=
  .next (s.issueAs p h 0x14 (fun s d _ =>
    .done (s.setHand p h { d with record := some {
      pc := d.pc + 1, sregs := d.sregs, setv := d.setv, seteb := d.seteb, stgBase := d.stgBase, stgSize := d.stgSize } })))

/-- Does a pinion run or hold back a pass? -/
def passesBusy (x : Pinion) : Bool :=
  [x.arr0, x.arr1].any (fun a => a.tail.isSome || a.running.isSome || a.queued.isSome)

/-- Are the units that a WAITQ selects idle for this pinion? -/
def waitqDone (x : Pinion) (fn : Nat) : Bool :=
  !(Nat.testBit fn 0 && !x.dmq0.isEmpty) && !(Nat.testBit fn 1 && !x.dmq1.isEmpty) &&
    !(Nat.testBit fn 2 && passesBusy x) && !(Nat.testBit fn 3 && x.tiles.any (fun c => c.2.drain.isSome))

/-- WAITQ: not a sync-class wait (R52). -/
def execWaitq (p h : Nat) (s : State) : Host.Outcome State Fault Refusal :=
  .next (s.issueAs p h 0x15 (fun s _ w =>
    if waitqDone (s.pin p) (fld w 40 4) then .done s else .stay s .waitq))

end Sys2Proof.Machine
end

