-- ==== Sys2Proof/Machine/BarrelOps.lean ====
section
/-! DEFINITION. The Barrel directory and the moves to and from a Barrel (04, R101 to R107; 02, Tables 2.22 and 2.23). -/

namespace Sys2Proof.Machine

/-- The Barrel of a T2. -/
def barrelOf (s : State) (t2 : Nat) : Barrel := fget {} s.barrels t2

/-- Replace the Barrel of a T2. -/
def setBarrel (s : State) (t2 : Nat) (b : Barrel) : State := { s with barrels := fput {} s.barrels t2 b }

namespace Barrel

/-- A slot. -/
def slot (b : Barrel) (i : Nat) : BSlot := fget {} b.slots i

/-- Change a slot. -/
def slotMod (b : Barrel) (i : Nat) (f : BSlot → BSlot) : Barrel := { b with slots := fmod {} b.slots i f }

/-- The allocation of a slot dies (R103). -/
def markDead (b : Barrel) (i : Nat) : Barrel :=
  { b with ring := b.ring.map (fun a => if a.slot = i then { a with dead := true } else a) }

/-- Dead allocations at the oldest end are dropped. -/
def reclaimOldest (ring : List BAlloc) (used : Nat) : List BAlloc × Nat :=
  match ring with
  | [] => ([], used)
  | a :: r => if a.dead then reclaimOldest r (used - a.lines) else (a :: r, used)

/-- Dead allocations at the newest end are dropped, newest first, and the head goes back to their base. -/
def reclaimNewest (ring : List BAlloc) (used head : Nat) : List BAlloc × Nat × Nat :=
  match ring with
  | [] => ([], used, head)
  | a :: r => if a.dead then reclaimNewest r (used - a.lines) a.base else (a :: r, used, head)

/-- reclaim() of R103. -/
def reclaim (b : Barrel) : Barrel :=
  let o := reclaimOldest b.ring b.used
  let n := reclaimNewest o.1.reverse o.2 b.head
  { b with ring := n.1.reverse, used := n.2.1, head := n.2.2 }

/-- Evict the oldest live allocation of another slot; the second part tells whether one was evicted. -/
def evictOne (b : Barrel) (slot : Nat) : Barrel × Bool :=
  match b.ring.find? (fun a => !a.dead && a.slot != slot) with
  | none => (b, false)
  | some a =>
    (reclaim (markDead ({ b.slotMod a.slot (fun x => { x with state := if x.state = 1 then 4 else 3 }) with
      evictions := (b.evictions + 1) % 2 ^ 64 }) a.slot), true)

/-- The eviction loop of an OPEN: the Barrel and the evictions made. -/
def evictFor (slot lines : Nat) : Nat → Barrel → Nat → Barrel × Nat
  | 0, b, n => (b, n)
  | k + 1, b, n =>
    if 65536 < b.used + lines then
      let r := b.evictOne slot
      if r.2 then evictFor slot lines k r.1 (n + 1) else (b, n)
    else (b, n)

/-- open() of R103: the Barrel, the evictions, and whether the slot was open before. -/
def openSlot (b : Barrel) (i lines : Nat) : Barrel × Nat × Bool :=
  let st := (b.slot i).state
  let re := st == 1 || st == 2
  let b1 := reclaim (if re then b.markDead i else b)
  let r := evictFor i lines 65 b1 0
  let b2 := r.1
  ({ b2.slotMod i (fun _ => { state := 1, lines := lines, base := b2.head, seq := b2.nextSeq }) with
      ring := b2.ring ++ [{ slot := i, seq := b2.nextSeq, base := b2.head, lines := lines, dead := false }],
      head := (b2.head + lines) % 65536, used := b2.used + lines, nextSeq := (b2.nextSeq + 1) % 65536 }, r.2, re)

/-- commit() of R103. -/
def commitSlot (b : Barrel) (i : Nat) : Barrel :=
  b.slotMod i (fun x => { x with state := if x.state = 1 then 2 else if x.state = 4 then 3 else x.state })

/-- free() of R103. -/
def freeSlot (b : Barrel) (i : Nat) : Barrel :=
  let b1 := if (b.slot i).state ≠ 0 then b.markDead i else b
  reclaim (b1.slotMod i (fun x => { x with state := 0 }))

/-- The image of a directory entry (Table 4.7). -/
def slotImage (x : BSlot) : Nat :=
  x.state <<< 61 ||| (if x.state = 2 then 1 else 0) <<< 60 ||| x.lines <<< 46 ||| x.base <<< 30 ||| x.seq <<< 14

/-- The ring state (Table 4.8). -/
def ringImage (b : Barrel) : Nat := b.nextSeq <<< 48 ||| b.head <<< 32 ||| b.used <<< 15

end Barrel

/-- A BDIR takes effect on the directory of a T2 (R103); OPEN counts its evictions and a slot that was open before. -/
def applyBdir (s : State) (t2 : Nat) (o : BdirOp) : State :=
  let b := barrelOf s t2
  match o with
  | .openSlot i lines =>
    let r := b.openSlot i lines
    let s1 := (setBarrel s t2 r.1).bumpBy 0x2400 1 r.2.1
    if r.2.2 then s1.bump 0x2400 4 else s1
  | .commit i => setBarrel s t2 (b.commitSlot i)
  | .free i => setBarrel s t2 (b.freeSlot i)

/-- The requester number of a pinion at its T2's directory: its rank among the in-service pinions of the T2 (R102). -/
def bdirRank (s : State) (t2 p : Nat) : Nat := s.rankIn (State.unitKey 2 t2) p

/-- The BDIRs that arrived at a directory in one cycle are applied one per cycle, in the order of the rotating-priority rule (R102). -/
def grantBdirs (n : Nat) : Nat → State → Nat → State
  | 0, s, _ => s
  | k + 1, s, t2 =>
    let b := barrelOf s t2
    match grant (b.waiting.map (fun r => bdirRank s t2 r.1)) b.ptr n with
    | none => s
    | some g =>
      let mine (r : Nat × BdirOp) : Bool := bdirRank s t2 r.1 == g
      let s1 := setBarrel s t2 { b with ptr := (g + 1) % n, waiting := b.waiting.eraseP mine }
      grantBdirs n k (match b.waiting.find? mine with
        | some r => applyBdir s1 t2 r.2
        | none => s1) t2

/-- A BDIR of a pinion arrives at its T2's directory. With `more`, another one arrives in the same cycle: it waits for that one
(R102). -/
def bdirArrives (s : State) (p : Nat) (o : BdirOp) (more : Bool) : State :=
  let t2 := s.t2Of p
  let b := barrelOf s t2
  if more || !b.waiting.isEmpty then
    let s1 := setBarrel s t2 { b with waiting := b.waiting ++ [(p, o)] }
    if more then s1 else grantBdirs (s.portPinions (State.unitKey 2 t2)).length (b.waiting.length + 1) s1 t2
  else
    let n := (s.portPinions (State.unitKey 2 t2)).length
    applyBdir (setBarrel s t2 { b with ptr := (bdirRank s t2 p + 1) % n }) t2 o

/-- OPEN (R103, R104): LINES 0 raises ILLEGAL_OP. -/
def execOpenOp (p : Nat) (h : Event) (s : State) : Host.Outcome State Fault Refusal :=
  .next (s.issueAs p h.unit 0xA300 (fun s _ w =>
    let lines := fld w 34 14
    if lines = 0 then .fault fIllegal
    else .done (bdirArrives s p (.openSlot (fld w 50 6) lines) h.tied)))

/-- COMMIT (R103): LINES is reserved. -/
def execCommitOp (p : Nat) (h : Event) (s : State) : Host.Outcome State Fault Refusal :=
  .next (s.issueAs p h.unit 0xA301 (fun s _ w =>
    if fld w 34 14 ≠ 0 then .fault fIllegal
    else .done (bdirArrives s p (.commit (fld w 50 6)) h.tied)))

/-- FREE (R103): LINES is reserved. -/
def execFreeOp (p : Nat) (h : Event) (s : State) : Host.Outcome State Fault Refusal :=
  .next (s.issueAs p h.unit 0xA302 (fun s _ w =>
    if fld w 34 14 ≠ 0 then .fault fIllegal
    else .done (bdirArrives s p (.free (fld w 50 6)) h.tied)))

/-- The address of line `i` behind offset `off` of a slot (R105): line (BASE + offset) modulo 65,536. -/
def barrelLine (t2 base off i : Nat) : Nat := barrelBase + t2 * barrelSize + 64 * ((base + off + i) % 65536)

/-- Copy lines one by one. -/
def copyLines (src dst : Nat → Nat) : Nat → State → Nat → State
  | 0, s, _ => s
  | n + 1, s, i =>
    copyLines src dst n (s.memWrite (dst i) ((List.range 64).map (fun k => s.memByte (src i + k)))) (i + 1)

/-- Lines of a BST or BLD move as they meet the slot (R105): moved while its STATE allows it, otherwise left out and counted. -/
def runBarrelJob (s : State) (p : Nat) (store : Bool) (slot addr lines off : Nat) : State :=
  let t2 := s.t2Of p
  let x := (barrelOf s t2).slot slot
  let data (i : Nat) := daAddr p + addr + 64 * i
  if store then
    (if x.state = 1 then copyLines data (barrelLine t2 x.base off) lines s 0 else s.bumpBy 0x2400 2 lines)
  else
    (if x.state = 2 then copyLines (barrelLine t2 x.base off) data lines s 0 else s.bumpBy 0x2400 3 lines)

/-- Issue of BST or BLD: checks, then the move takes its place on the queue 0 path, in order with the DMV descriptors (R105). -/
def barrelIssue (s : State) (p h row : Nat) (store : Bool) : State :=
  s.issueAs p h row (fun s d w =>
    let lines := fld w 24 14
    let addr := regOff d (fld w 46 4) (fld w 38 8) 64
    let off := (d.sreg (fld w 20 4)).toNat
    let slot := fld w 50 6
    let post := if Nat.testBit w.toNat 19 then some (32 * p + fld w 14 5) else none
    if lines = 0 then .fault fIllegal
    else if addr % 64 ≠ 0 || !State.inData addr (64 * lines) then .fault fAddr
    else if ((barrelOf s (s.t2Of p)).slot slot).lines < off + lines then .fault fAddr
    else
      .done (s.pinMod p (fun x => { x with dmq0 := x.dmq0 ++ [.barrel h d.pc store slot addr lines off post] })))

/-- BST. -/
def execBst (p h : Nat) (s : State) : Host.Outcome State Fault Refusal := .next (barrelIssue s p h 0xA1 true)

/-- BLD. -/
def execBld (p h : Nat) (s : State) : Host.Outcome State Fault Refusal := .next (barrelIssue s p h 0xA2 false)

end Sys2Proof.Machine
end

