-- ==== Sys2Proof/Machine/Certificate.lean ====
section
/-! DEFINITION. The certificate chain of OD 0xA010.02 (R314): two X.509 v3 certificates in DER with Ed25519 keys and signatures. -/

namespace Sys2Proof.Machine

/-- A DER length. -/
def derLen (n : Nat) : List Byte :=
  if n < 128 then toLe 1 n else if n < 256 then [0x81] ++ toLe 1 n else [0x82] ++ toBe 2 n

/-- A DER value. -/
def der (tag : Nat) (body : List Byte) : List Byte := toLe 1 tag ++ derLen body.length ++ body

/-- The algorithm of an Ed25519 key or signature (RFC 8410). -/
def derEd25519 : List Byte := der 0x30 (der 6 [0x2B, 0x65, 0x70])

/-- A public key. -/
def derKey (pub : List Byte) : List Byte := der 0x30 (derEd25519 ++ der 3 ([0] ++ pub))

/-- The relative name that carries a serial number (RFC 5280, attribute 2.5.4.5). -/
def derSerial (t : List Byte) : List Byte := der 0x31 (der 0x30 (der 6 [0x55, 4, 5] ++ der 0x13 t))

/-- A certificate of version 3, signed with a key. -/
def certificate (number issuer validity subject pub extensions signer : List Byte) : List Byte :=
  let tbs := der 0x30 (der 0xA0 (der 2 [2]) ++ number ++ derEd25519 ++ der 0x30 issuer ++ validity ++ der 0x30 subject ++ derKey pub ++ extensions)
  der 0x30 (tbs ++ derEd25519 ++ der 3 ([0] ++ edSign signer tbs))

/-- The signing key of the intermediate (0) or root (1) certificate. -/
def caKey (k : Nat) : List Byte := (List.range 32).map (Config.caByte k)

/-- The chain with given open parts: the device certificate, which carries the serial number and the identity key, and the
intermediate certificate, whose subject issued it. -/
def chainOf (part : Nat → Nat → List Byte) : List Byte :=
  certificate (part 0 0) (part 1 3) (part 0 2) (derSerial serial ++ part 0 3) identityPub (part 0 4) (caKey 0) ++
  certificate (part 1 0) (part 1 1) (part 1 2) (part 1 3) (edPub (caKey 0)) (part 1 4) (caKey 1)

/-- OD 0xA010.02, at most 4 KiB. -/
def certChain : List Byte :=
  if (chainOf Config.certPart).length ≤ 4096 then chainOf Config.certPart else chainOf (fun _ _ => [])

end Sys2Proof.Machine
end

