-- ==== Sys2Proof/Machine/OdRead.lean ====
section
/-! DEFINITION. Reading the object dictionary: the value of every entry, and of those that a select entry points at. -/

namespace Sys2Proof.Machine

/-- Status codes (Table 11.12). -/
def cOk : Nat := 0
/-- ACCESS. -/
def cAccess : Nat := 1
/-- STATE. -/
def cState : Nat := 2
/-- RANGE. -/
def cRange : Nat := 3
/-- TYPE. -/
def cType : Nat := 4
/-- NO_ENTRY. -/
def cNoEntry : Nat := 5
/-- BUSY. -/
def cBusy : Nat := 6
/-- BAD_SEQ. -/
def cBadSeq : Nat := 7
/-- TOO_LARGE. -/
def cTooLarge : Nat := 8
/-- BLOB_ORDER. -/
def cBlobOrder : Nat := 9
/-- REFUSED. -/
def cRefused : Nat := 10
/-- RIGHTS. -/
def cRights : Nat := 11

/-- A record of the error log (Table 12.13). -/
def errBytes (r : ErrRec) : List Byte :=
  toLe 8 (ftNat r.ft) ++ toLe 1 r.source ++ toLe 1 r.code ++ toLe 1 r.level ++ [0] ++ toLe 4 r.index ++ padTo 16 r.data

/-- The image of a sync object (Table 6.1). -/
def syncImage (o : SyncObj) : Nat := o.target.toNat <<< 48 ||| (if o.phase then 1 else 0) <<< 47 ||| o.count.toNat

namespace State

/-- `n` open bytes. -/
def drawBytes (s : State) (n : Nat) : List Byte × State :=
  let r := s.draw (8 * n)
  (toLe n r.1.toNat, r.2)

/-- The Movement Table as the window and OD 0x1100 show it: MAGIC 0 before the first publication (R29). -/
def tableShown (s : State) : List Byte := if s.table.isEmpty then zeros 64 else s.table

/-- The tile that OD 0xF200 selects. -/
def selTile (s : State) : Tile :=
  (s.pin (s.odGet 0xF200 1)).tile (s.odGet 0xF200 2 / 2) (s.odGet 0xF200 2 % 2)

/-- The counter of OD 0x2141 at a sub-index for the selected pinion: keys 1 to 10. -/
def selCount (s : State) (sub : Nat) : Nat := fget 0 (s.pin (s.odGet 0x2141 1)).cnt (sub - 1)

/-- OD 0x5010 for the selected near-link port. -/
def selPort (s : State) (sub : Nat) : Nat :=
  let p := s.nport (s.odGet 0x5010 1)
  match sub with
  | 2 => p.st
  | 3 => p.peer
  | 10 => sNat 32 p.asym
  | c => fget 0 p.cnt c

/-- OD 0x6010 for the selected peer. -/
def selPeer (s : State) (sub : Nat) : Nat :=
  let p := s.fpeer (s.odGet 0x6010 1)
  match sub with
  | 2 => p.st
  | 3 => p.epoch
  | 4 => p.srtt
  | 13 => p.maxRtt
  | c => fget 0 p.cnt c

/-- The value of a number entry as a read shows it. -/
def odNum (s : State) (index sub : Nat) : Nat :=
  match index, sub with
  | 0x1000, 4 => fwVersion (s.slotManifest s.store.running)
  | 0x1000, 6 => fieldMac
  | 0x1210, 1 => s.crown.sessions.length
  | 0x2401, 2 => (fget ({} : Barrel) s.barrels (s.odGet 0x2401 1)).evictions
  | 0x2401, 4 => (fget ({} : Barrel) s.barrels (s.odGet 0x2401 1)).ringImage
  | 0x4000, 1 => ftNat s.time.ft
  | 0x4200, 2 => syncImage (s.sync (s.odGet 0x4200 1))
  | 0x5430, 2 => fget 0 s.coll.drops (s.odGet 0x5430 1)
  | 0x6200, 2 => s.ringUsed.length
  | 0xA000, 1 => s.fuseRollback
  | 0xA000, 2 => s.fuseRevoked % 16
  | 0xA300, 3 => s.fwSlots
  | 0xA300, 6 => s.store.bootFail
  | 0xF201, 2 => (if s.selTile.held then 1 else 0) + (if s.selTile.isInt then 2 else 0) + (if s.selTile.sat then 4 else 0)
  | 0x2141, 1 => s.odGet 0x2141 1
  | 0x2141, k => s.selCount k
  | 0x5010, 1 => s.odGet 0x5010 1
  | 0x5010, k => s.selPort k
  | 0x6010, 1 => s.odGet 0x6010 1
  | 0x6010, k => s.selPeer k
  | i, k => s.odGet i k

/-- The value of a STR or BLOB entry as a read shows it. -/
def odText (s : State) (index sub : Nat) : List Byte :=
  match index, sub with
  | 0x1000, 3 => serial
  | 0x1001, 1 => odDirectory
  | 0x1100, 1 => s.tableShown
  | 0x2401, 3 =>
    let b := fget ({} : Barrel) s.barrels (s.odGet 0x2401 1)
    (List.range 64).flatMap (fun i => toLe 8 (Barrel.slotImage (b.slot i)))
  | 0x4300, 1 => tableBytes s
  | 0x4301, 2 => beatBytes (s.beat (s.odGet 0x4301 1))
  | 0x9500, 7 => s.errLog.flatMap errBytes
  | 0xA000, 3 => s.fuseImage
  | 0xA010, 1 => identityPub
  | 0xA010, 2 => certChain
  | 0xF201, 1 => padTo 1024 (s.selTile.acc.flatMap (fun w => toLe 4 w.toNat))
  | i, k => s.blobGet i k

/-- The bytes of an entry. -/
def odBytes (s : State) (r : OdRow) (sub : Nat) : List Byte :=
  if 11 ≤ r.typ then s.odText r.index sub else toLe r.size (s.odNum r.index sub)

/-- The receive lanes of a port (R335). -/
def prbsLanes (port : Nat) : Nat :=
  match port / 256 with
  | 1 => 2
  | 2 => 8
  | 3 => 24
  | _ => 0

/-- While a port runs PRBS, OD 0xF310.03 holds the errors counted so far on its lanes: open numbers. -/
def prbsSample (s : State) : State :=
  match s.test.prbs with
  | none => s
  | some p =>
    let d := s.drawBytes (8 * prbsLanes p)
    d.2.blobSet 0xF310 3 (padTo 192 d.1)

/-- R89: may the accumulators of the selected tile be read? -/
def accReadable (s : State) : Bool :=
  Nat.testBit (s.odGet 0xA500 3) 0 && decide (s.odGet 0xF200 1 < s.pinCount) && s.pinSt (s.odGet 0xF200 1) == 1

/-- Read an entry for a session with its rights (R276): the status, and the value where it is OK. A read of the debug
challenge draws a fresh one (R317), and one of the attestation report builds it for the session (R315). -/
def odRead (s : State) (rights session : Nat) (nonce : List Byte) (index sub : Nat) : State × Nat × OdRow × List Byte :=
  match odRow index sub with
  | none => (s, cNoEntry, default, [])
  | some r =>
    if !Nat.testBit rights 0 then (s, cRights, r, [])
    else if r.acc = 4 || (index = 0xF201 && !s.accReadable) then (s, cAccess, r, [])
    else if index = 0xA500 && sub == 1 then
      let d := s.drawBytes 32
      ({ d.2 with test := { d.2.test with challenge := d.1 } }, cOk, r, d.1)
    else if index = 0xF310 && sub == 3 then (s.prbsSample, cOk, r, s.prbsSample.odBytes r sub)
    else if index = 0xA020 then (s, cOk, r, s.attestReport session nonce)
    else (s, cOk, r, s.odBytes r sub)

end State

end Sys2Proof.Machine
end

