-- ==== Sys2Proof/Machine/Dump.lean ====
section
/-! DEFINITION. The fatal-error dump (R302 to R306): the header, the sections, and the stop after it. A part of a section whose layout
the spec does not give is spelt by a function that nothing constrains, of what Table 12.13 says it holds. -/

namespace Sys2Proof.Machine

/-- A section (Table 12.12): TYPE, LEVEL, INDEX, PATH, COUNT and body. -/
structure Section where
  typ : Nat
  level : Nat
  index : Nat
  path : Nat
  count : Nat
  body : List Byte
  deriving DecidableEq, Repr

/-- The bytes of a section, its LENGTH a multiple of 64, padded to where the next one starts. -/
def sectionBytes (x : Section) : List Byte :=
  let b := padTo (roundUp x.body.length 64) x.body
  let h := toLe 2 x.typ ++ toLe 1 x.level ++ [0] ++ toLe 4 x.index ++ toLe 8 b.length ++ toLe 4 x.count ++ toLe 4 (crc32c b) ++
    toLe 4 x.path ++ zeros 4
  padTo (roundUp (32 + b.length) 64) (h ++ b)

/-- The header of the END section. -/
def endSection : List Byte := toLe 2 0xFFFF ++ [0xFF, 0] ++ zeros 4 ++ zeros 8 ++ zeros 4 ++ toLe 4 (crc32c []) ++ toLe 4 0xFFFFFFFF ++ zeros 4

/-- The address of a dump offset (R303): eight pieces of 256 MiB. -/
def dumpAddr (x : Nat) : Nat := x / 0x10000000 * hbmStride + 0x1290400000 + x % 0x10000000

namespace State

/-- Write bytes of the dump area; a line with an uncorrectable error is skipped (R304). -/
def dumpWrite (s : State) (x : Nat) : List Byte → State
  | [] => s
  | b :: bs =>
    let a := dumpAddr x
    dumpWrite (if 2 ≤ fget 0 s.wrong (a / 64) then s else { s with mem := fput 0 s.mem a b }) (x + 1) bs

/-- PATH of a train's first pinion (Table 12.12). -/
def pathOf (s : State) (p : Nat) : Nat :=
  let t := s.t1Of p
  (t / 384) * 65536 + (t / 96 % 4) * 4096 + (t / 8 % 12) * 256 + (t % 8) * 16 + s.physSlot t (p % 8)

/-- The dump header (Table 12.10). -/
def dumpHeader (s : State) (st sections total crc : Nat) : List Byte :=
  let f := s.faultInfo.getD { code := 8, detail := 0, prior := stBoot, ft := ftUnset }
  ascii "DUMP" ++ [1] ++ toLe 1 st ++ toLe 2 f.code ++ toLe 4 s.plat.dumpNo ++ toLe 1 (if f.code = 5 then 6 else 8) ++
  toLe 1 f.prior ++ toLe 2 sections ++ toLe 8 (ftNat f.ft) ++ toLe 8 total ++ toLe 8 (s.odGet 0x1101 1) ++ toLe 8 f.detail ++
  toLe 4 (s.odNum 0x1000 4) ++ toLe 4 s.pinCount ++ toLe 2 (s.odGet 0x2010 1) ++ zeros 2 ++ toLe 4 crc ++ padTo 16 serial ++
  zeros 48

/-! ### Sections (Table 12.13) -/

/-- What a hand is doing, as numbers. -/
def handStNums : HandSt → List Nat
  | .idle => [0]
  | .ready => [1]
  | .syncWait => [2]
  | .released _ => [3]
  | .waitq => [4]
  | .interlock => [5]
  | .queueHold => [6]
  | .ending => [7]

/-- A restart record as numbers (Table 2.13, R338). -/
def recordNums (r : RestartRec) : List Nat :=
  [r.pc] ++ (List.range 16).map (fun i => (fget 0 r.sregs i).toNat) ++ [r.setv.toNat, r.seteb.toNat, r.stgBase.toNat, r.stgSize.toNat]

/-- The 2,304 bytes of a hand: state and PC, registers, restart record, pending descriptor and LAST_FAULT. -/
def handBytes (s : State) (p h : Nat) : List Byte :=
  let d := s.hand p h
  padTo 64 (Config.dumpPart 2 0 (handStNums d.st ++ [d.pc])) ++
  (List.range 16).flatMap (fun i => toLe 4 (d.sreg i).toNat) ++ (List.range 32).flatMap (fun i => toLe 64 (d.vreg i).toNat) ++
  padTo 64 (Config.dumpPart 2 1 ((d.record.map recordNums).getD [])) ++
  padTo 64 (Config.dumpPart 2 2 ((d.pend.map (fun q => [q.1, q.2.toNat])).getD [] ++ [s.odGet 0x2150 1]))

/-- The HAND section of a T2. -/
def handSection (s : State) (t2 : Nat) : Section :=
  let ps := s.trainPinions 2 t2
  { typ := 2, level := 2, index := t2, path := s.pathOf (ps.headD 0), count := 2 * ps.length,
    body := ps.flatMap (fun p => s.handBytes p 0 ++ s.handBytes p 1) }

/-- What the NEAR section of a port holds: state, FSEQ and ASEQ, credits, counters, and the routes in port 0's. -/
def nearNums (s : State) (k : Nat) : List Nat :=
  let p := s.nport k
  [p.st, p.txSeq, p.rxSeq] ++ p.used.flatMap (fun c => [c.1, c.2]) ++ p.held.flatMap (fun c => [c.1, c.2]) ++
  (List.range 9).map (fun i => fget 0 p.cnt (i + 1)) ++ (if k = 0 then (s.blobGet 0x5200 1).map (fun b => b.toNat) else [])

/-- What the FAR section of a peer holds: state, epoch, send and receive SEQ, SRTT, the slots held. -/
def farNums (s : State) (i : Nat) : List Nat :=
  let p := s.fpeer i
  [p.st, p.epoch, p.nextSeq, p.cum] ++ p.held ++ [p.srtt] ++ p.slots.map (fun x => x.slot)

/-- What the QUEUES section holds: base, doorbell and done count of every update-unit, Fusee and collective queue, and the running
collective entries. -/
def queueNums (s : State) : List Nat :=
  let of (q : QSpec) : List Nat := [q.base, (s.sync q.door).count.toNat, (s.sync q.done).count.toNat]
  (List.range 16).flatMap (fun u => of (uqSpec s u) ++ [(fget 0 s.uqNext u).toNat]) ++
  (List.range 2).flatMap (fun d => of (fqSpec s d) ++ [(fqNext s d).toNat]) ++
  (List.range 7).flatMap (fun v => of (s.cqSpec (v + 1)) ++ (s.cqueue (v + 1)).next.toNat :: (s.cqueue (v + 1)).run.map (fun e => e.idx))

/-- The value of an entry in the OD section: write-only keys and values made for a reading session are left out (R319). -/
def dumpEntry (s : State) (r : OdRow) (sub : Nat) : List Byte :=
  let v := if r.acc = 4 || (r.index = 0xA500 && sub == 1) || r.index == 0xA020 || (r.index = 0xF201 && !s.accReadable) then []
    else s.odBytes r sub
  toLe 2 r.index ++ toLe 1 sub ++ toLe 1 r.typ ++ toLe 4 v.length ++ padTo (roundUp v.length 8) v

/-- The image bytes of consecutive sync objects. -/
def syncBytes (s : State) (first n : Nat) : List Byte := (List.range n).flatMap (fun i => toLe 8 (syncImage (s.sync (first + i))))

/-- The T2s that hold pinions. -/
def liveT2s (s : State) : List Nat := (List.range 96).filter (fun t => !s.trainGone 2 t)

/-- The sections whose body the spec lays out, before the near-link ports: each is a function of the state alone. -/
def fixedSections (s : State) : List Section :=
  let none_ := 0xFFFFFFFF
  [{ typ := 0xA, level := 0xFF, index := 0, path := none_, count := odList.length, body := odList.flatMap (fun e => s.dumpEntry e.1 e.2) },
   { typ := 0xB, level := 0xFF, index := 0, path := none_, count := 1, body := s.tableShown },
   { typ := 3, level := 0xFF, index := 0, path := none_, count := 875 + s.pinCount,
     body := (List.range (875 + s.pinCount)).flatMap (fun n => toLe 8 (s.statusAt n)) }] ++
  s.liveT2s.map (fun t =>
    let ps := s.trainPinions 2 t
    { typ := 4, level := 2, index := 32 * ps.headD 0, path := s.pathOf (ps.headD 0), count := 32 * ps.length,
      body := s.syncBytes (32 * ps.headD 0) (32 * ps.length) }) ++
  [{ typ := 4, level := 0xFF, index := siteDieSid, path := none_, count := 65536, body := s.syncBytes siteDieSid 65536 }] ++
  s.liveT2s.map (fun t =>
    let b := fget ({} : Barrel) s.barrels t
    { typ := 5, level := 2, index := t, path := s.pathOf ((s.trainPinions 2 t).headD 0), count := 64,
      body := (List.range 64).flatMap (fun i => toLe 8 (Barrel.slotImage (b.slot i))) ++ toLe 8 b.ringImage })

/-- A section whose layout the spec does not give. -/
def openSection (typ index : Nat) (content : List Nat) : Section :=
  { typ := typ, level := 0xFF, index := index, path := 0xFFFFFFFF, count := Config.dumpCount typ content, body := Config.dumpPart typ 0 content }

/-- Every section but END, in write order. -/
def sections (s : State) : List Section :=
  let none_ := 0xFFFFFFFF
  let err : Section := { typ := 1, level := 0xFF, index := 0, path := none_, count := s.errLog.length, body := s.errLog.flatMap errBytes }
  let clocks := (odList.filter (fun e => e.1.index == 0x4400)).flatMap (fun e => s.odBytes e.1 e.2)
  let beats : Section := { typ := 9, level := 0xFF, index := 0, path := none_, count := 1024, body := tableBytes s ++ clocks }
  let sram := if s.odGet 0x9500 5 = 1 then (List.range s.pinCount).map (fun p =>
      ({ typ := 0xC, level := 0, index := p, path := s.pathOf p, count := 1, body := s.readBytes (iaAddr p) (iaSize + daSize) } : Section))
    else []
  err :: s.liveT2s.map s.handSection ++ s.fixedSections ++ (List.range 16).map (fun k => openSection 6 k (s.nearNums k)) ++
  s.otherSites.map (fun i => openSection 7 i (s.farNums i)) ++ [openSection 8 0 s.queueNums, beats] ++ sram

/-- The sections that fit below an offset limit: how many, and their bytes. -/
def fitSections (limit : Nat) : List (List Byte) → Nat → Nat × List Byte
  | [], _ => (0, [])
  | b :: bs, x =>
    if x + b.length + 32 ≤ limit then
      let r := fitSections limit bs (x + b.length)
      (r.1 + 1, b ++ r.2)
    else (0, [])

/-! ### The course of a dump -/

/-- The dump is written from its header on, with STATE 0; SECTIONS, TOTAL and CRC are open until the end (R304). So does a Crown that
returns from a self-reset (R305). -/
def restartDump (s : State) : State :=
  let n := State.draw { s with plat := { s.plat with dumpAt := s.time.now } } 16
  let t := n.2.draw 64
  let c := t.2.draw 32
  c.2.dumpWrite 0 (c.2.dumpHeader 0 n.1.toNat t.1.toNat c.1.toNat)

/-- The Crown enters DUMPING and writes the dump (R304). -/
def beginDump (s : State) : State :=
  if s.modState = stFaulted && !s.plat.dumpStopped && !s.crown.down then
    (State.setModState { s with plat := { s.plat with dumpNo := s.plat.dumpNo + 1 } } stDumping).restartDump
  else s


/-- END, the header with its CRC, and OD 0x9500 (R304): `keep` says how many sections were written where the limit ended the dump. -/
def writeDump (s : State) (keep : Option Nat) : State :=
  let all := s.sections.map sectionBytes
  let chosen := match keep with
    | some k => all.take k
    | none => all
  let fit := fitSections (s.odGet 0x3100 1) chosen 0x1000
  let short := keep.isSome || decide (fit.1 < all.length)
  let st := if short then 2 else 1
  let total := 0x1000 + fit.2.length + 32
  let h (crc : Nat) := s.dumpHeader st (fit.1 + 1) total crc
  let s1 := (s.dumpWrite 0x1000 (fit.2 ++ endSection)).dumpWrite 0 (h (crc32c (h 0)))
  let f := s.faultInfo.getD { code := 8, detail := 0, prior := stBoot, ft := ftUnset }
  (((s1.odSet 0x9500 1 st).odSet 0x9500 2 s.plat.dumpNo).odSet 0x9500 3 total).odSet 0x9500 4 (ftNat f.ft)

end State

end Sys2Proof.Machine
end

