-- ==== Sys2Proof/Machine/Time.lean ====
section
/-! DEFINITION. Federation time (06, 6.5 and 6.6): exchanges over near and far paths (R150, R151, R216), the servo (R147 to
R149) and the 1PPS (R153). -/

namespace Sys2Proof.Machine

namespace State

/-- May the servo step FT (R147)? -/
def mayStep (s : State) : Bool := decide (s.modState ≤ stQuiet)

/-- The largest rate correction, in the unit of FREQ_ADJ (OD 0x4020.04). -/
def slewMax (s : State) : Int := 1000 * s.odGet 0x4020 4

/-- TIME_STATE (Table 6.6). -/
def timeState (s : State) : Nat := s.odGet 0x4010 1
/-- TIME_ROLE: 0 slave, 1 site gateway, 2 grandmaster. -/
def timeRole (s : State) : Nat := s.odGet 0x4010 2

/-- Set the federation time. -/
def setFt (s : State) (t : Int) : State := { s with time := { s.time with ft := sInt 64 (ftNat t), frac := 0 } }

/-- The offset budget of the module against its time source (Table 6.9). -/
def timeBudget (s : State) : Int := if s.timeRole = 0 then 20 else 480

/-- An offset within or outside the budget counts toward LOCKED (Table 6.6, R149). -/
def countLock (s : State) (inBudget : Bool) : State :=
  let n := if inBudget then s.time.lockRun + 1 else 0
  let s1 := { s with time := { s.time with lockRun := min n 16 } }
  if 16 ≤ n && (s.timeState == 1 || s.timeState == 3) then s1.odSet 0x4010 1 2 else s1

/-- Half of an integer; an odd one rounds in an open direction. -/
def halve (s : State) (x : Int) : Int × State :=
  if x % 2 = 0 then (x / 2, s)
  else
    let r := s.draw 1
    (x / 2 + r.1.toNat, r.2)

/-- The servo (R147, R148, R151) takes one exchange: the filtered offset and the frequency correction are open within
SLEW_MAX; where FT may step, or is not yet established, it is set to the source's time, and the servo acquires anew (DESIGN CHOICE,
log 30: establishing FT from ARMED on is no step of it). -/
def servo (s : State) (t1 t2 t3 t4 asym : Int) : State :=
  let d := s.halve ((t2 - t1) + (t4 - t3))
  let o := d.2.halve (2 * (t2 - t1) - ((t2 - t1) + (t4 - t3)) - asym)
  let s1 := o.2.odSet 0x4010 4 (sNat 64 d.1)
  let limit : Int := s1.odGet 0x4020 5
  let steps := s1.mayStep || s1.timeState == 0
  if !steps && (decide (limit < o.1) || decide (o.1 < -limit)) then
    let s2 : State := { s1 with time := { s1.time with lockRun := 0 } }
    (s2.odSet 0x4010 1 3).countNotify 0x4020 6
  else
    let f := s1.draw 64
    let g := f.2.draw 32
    let s2 := (g.2.odSet 0x4010 3 f.1.toNat).odSet 0x4010 5 (sNat 32 (clampI (-g.2.slewMax) g.2.slewMax (sInt 32 g.1.toNat)))
    let s3 := if steps then s2.setFt (s2.clock - o.1) else s2
    let s4 := if s3.timeState = 0 || (s3.mayStep && s3.timeState == 3) then s3.odSet 0x4010 1 1 else s3
    s4.countLock (decide (o.1 ≤ s4.timeBudget) && decide (-s4.timeBudget ≤ o.1))

/-- Are the four stamps of an exchange present? -/
def exWhole (e : TimeEx) : Bool := e.t1.isSome && e.t2.isSome && e.t3.isSome && e.t4.isSome

/-- A whole exchange goes to the servo if it took at most 1 s (R216). -/
def exchange (s : State) (e : TimeEx) (asym : Int) : State :=
  match e.t1, e.t2, e.t3, e.t4 with
  | some t1, some t2, some t3, some t4 => if s.clock - t2 ≤ 1000000000 then s.servo t1 t2 t3 t4 asym else s
  | _, _, _, _ => s

/-! ### Near paths -/

/-- Send a TIME packet on a port, one hop (its payload: message, exchange number and stamp; DESIGN CHOICE). -/
def sendTime (s : State) (k msg num : Nat) (t : Int) : State :=
  let b := toLe 1 msg ++ zeros 3 ++ toLe 4 num ++ toLe 8 (ftNat t)
  s.nearSendPort k { vc := 0, cls := 0, bytes := pktHeader (s.nport k).peer s.smn 0x13 0 0 (s.odGet 0x2010 1) 16 0 0 0 [] ++ b }

end State

/-- TIME (R150): a message of a near exchange; `sub` is how many nanoseconds past the counter its first flit was stamped. -/
def execTimePacket (src sub : Nat) (s : State) : Host.Outcome State Fault Refusal :=
  match s.takeRx src 0x13 with
  | none => .next s
  | some (x, t) =>
    let b := x.body
    let num := rdLe b 4 4
    let v := sInt 64 (rdLe b 8 8)
    let now := t.clock + (sub % 100 : Nat)
    let parent := x.port == t.odGet 0x4020 1 && t.timeRole == 0
    match rdLe b 0 1 with
    | 1 => .next (if parent then
        State.sendTime { t with nearEx := { num := num, t2 := some now, t3 := some t.clock } } x.port 3 num 0 else t)
    | 2 => .next (if parent && t.nearEx.num == num then { t with nearEx := { t.nearEx with t1 := some v } } else t)
    | 3 => .next (if t.timeState = 0 then t else t.sendTime x.port 4 num now)
    | 4 => .next (if parent && t.nearEx.num == num then
        State.exchange { t with nearEx := {} } { t.nearEx with t4 := some v } (t.nport x.port).asym else t)
    | _ => .next (t.bump 0x5200 2)

/-! ### Far paths (R216) -/

/-- Is a peer the master of the own gateway's exchanges? -/
def isMaster (s : State) (i : Nat) : Bool := s.timeRole == 1 && i == s.odGet 0x7600 1

/-- A stamp joins the exchange with a peer. With its fourth the exchange is complete, in whichever order they came; the offsets of the
first 16 exchanges after a move between ports are discarded (R198). -/
def stampEx (s : State) (i : Nat) (e : TimeEx) : State :=
  if !State.exWhole e then s.fpeerMod i (fun p => { p with ex := e })
  else
    let s1 := s.fpeerMod i (fun p => { p with ex := {}, skip := p.skip - 1 })
    if 0 < (s.fpeer i).skip then s1 else s1.exchange e (sInt 32 (s1.odGet 0x4030 (i + 1)))

/-- TIME_SYNC. -/
def execTimeSync (port sub : Nat) (src bytes : List Byte) (s : State) : Host.Outcome State Fault Refusal :=
  let t2 := s.clock + (sub % 100 : Nat)
  match s.farOpen port src bytes 8 with
  | (t, none) => .next t
  | (t, some (i, _, b)) =>
    if b.length ≠ 8 || !zeroAt b 4 4 then .next (t.peerCount i 8 1)
    else if isMaster t i then
      let e : TimeEx := { num := rdLe b 0 4, t2 := some t2, t3 := some t.clock }
      .next ((t.fpeerMod i (fun p => { p with ex := e })).farSend i 0xA 0 (slice b 0 8) false).1
    else .next t

/-- TIME_FOLLOW. -/
def execTimeFollow (port : Nat) (src bytes : List Byte) (s : State) : Host.Outcome State Fault Refusal :=
  match s.farOpen port src bytes 9 with
  | (t, none) => .next t
  | (t, some (i, _, b)) =>
    if b.length ≠ 16 || !zeroAt b 4 4 then .next (t.peerCount i 8 1)
    else if isMaster t i && (t.fpeer i).ex.num == rdLe b 0 4 then
      .next (stampEx t i { (t.fpeer i).ex with t1 := some (sInt 64 (rdLe b 8 8)) })
    else .next t

/-- TIME_DREQ. -/
def execTimeDreq (port sub : Nat) (src bytes : List Byte) (s : State) : Host.Outcome State Fault Refusal :=
  let t4 := s.clock + (sub % 100 : Nat)
  match s.farOpen port src bytes 0xA with
  | (t, none) => .next t
  | (t, some (i, _, b)) =>
    if b.length ≠ 8 || !zeroAt b 4 4 then .next (t.peerCount i 8 1)
    else if t.timeRole = 2 then .next (t.farSend i 0xB 0 (slice b 0 8 ++ toLe 8 (ftNat t4)) false).1
    else .next t

/-- TIME_DRESP (R148, R151). -/
def execTimeDresp (port : Nat) (src bytes : List Byte) (s : State) : Host.Outcome State Fault Refusal :=
  match s.farOpen port src bytes 0xB with
  | (t, none) => .next t
  | (t, some (i, _, b)) =>
    if b.length ≠ 16 || !zeroAt b 4 4 then .next (t.peerCount i 8 1)
    else if isMaster t i && (t.fpeer i).ex.num == rdLe b 0 4 then
      .next (stampEx t i { (t.fpeer i).ex with t4 := some (sInt 64 (rdLe b 8 8)) })
    else .next t

/-- TIME_EXCHANGE (R150, R151): the master starts an exchange with the gateway of site `peer`, or, from 64 on, with the module
behind near port `peer - 64`. On the grandmaster each interval counts as an offset of 0. -/
def execTimeExchange (peer : Nat) (s : State) : Host.Outcome State Fault Refusal :=
  if s.timeState = 0 then .next s
  else
    let s1 := if s.timeRole = 2 then s.countLock true else s
    if peer < 64 then
      if s1.timeRole = 2 && s1.otherSites.contains peer then
        let n := (s1.fpeer peer).exch
        let t := s1.clock
        let r := s1.farSend peer 8 0 (toLe 4 n ++ zeros 4) false
        if r.2 then
          .next ((r.1.fpeerMod peer (fun p => { p with exch := (n + 1) % 2 ^ 32 })).farSend peer 9 0
            (toLe 4 n ++ zeros 4 ++ toLe 8 (ftNat t)) false).1
        else .next s1
      else .next s1
    else
      let k := peer - 64
      if k < 16 && s1.nearUp k && k != s1.odGet 0x4020 1 then
        let n := fget 0 s1.nearExch k
        let t := s1.clock
        let s2 := { s1 with nearExch := fput 0 s1.nearExch k ((n + 1) % 2 ^ 32) }
        .next ((s2.sendTime k 1 n 0).sendTime k 2 n t)
      else .next s1

/-- HOLDOVER_TIMEOUT (R149). -/
def execHoldoverTimeout (s : State) : Host.Outcome State Fault Refusal :=
  .next (if (s.timeState = 1 || s.timeState == 2) && s.timeRole != 2 then
      State.odSet { s with time := { s.time with lockRun := 0 } } 0x4010 1 3
    else s)

/-- PPS_IN (R153): the edge is stamped, `sub` nanoseconds past the counter. -/
def execPpsIn (sub : Nat) (s : State) : Host.Outcome State Fault Refusal :=
  .next (s.odSet 0x4040 2 (if s.time.ft = ftUnset then ftNat ftUnset else ftNat (s.time.ft + (sub % 100 : Nat))))

/-- PPS_OUT (R153): the output rises at a whole second of FT, if it is enabled. -/
def execPpsOut (s : State) : Host.Outcome State Fault Refusal :=
  .next (if s.odGet 0x4040 1 = 1 && s.time.ft != ftUnset && decide (s.time.ft % 1000000000 ≤ 100) then s.emit .pps else s)

end Sys2Proof.Machine
end

