-- ==== Sys2Proof/Machine/Rounds.lean ====
section
/-! DEFINITION. Outer rounds (09): the seal latch, kept shards, inbound slots, judgement and manifests at the anchor,
requests, base fetches, and the application of a manifest. -/

namespace Sys2Proof.Machine

/-! ### Messages -/

/-- "CTRB". -/
def magicCtrb : Nat := 0x42525443
/-- "MNFT". -/
def magicMnft : Nat := 0x54464E4D
/-- "BASE". -/
def magicBase : Nat := 0x45534142
/-- "ANCH". -/
def magicAnch : Nat := 0x48434E41

/-- ANCHOR of a manifest. -/
def mnAnchor (m : List Byte) : Nat := rdLe m 5 1
/-- TERM of a manifest. -/
def mnTerm (m : List Byte) : Nat := rdLe m 6 2
/-- SHARD of a manifest. -/
def mnShard (m : List Byte) : Nat := rdLe m 8 4
/-- ROUND of a manifest. -/
def mnRound (m : List Byte) : Nat := rdLe m 0xC 4
/-- PREV of a manifest. -/
def mnPrev (m : List Byte) : Nat := rdLe m 0x10 4
/-- The CONTRIB entries of a manifest. -/
def mnContribs (m : List Byte) : List (List Byte) := (List.range (rdLe m 0x14 1)).map (fun c => slice m (0x80 + 48 * c) 48)
/-- The TENSOR entries of a manifest. -/
def mnTensors (m : List Byte) : List (List Byte) :=
  (List.range (rdLe m 0x15 1)).map (fun e => slice m (0x80 + 48 * rdLe m 0x14 1 + 48 * e) 48)

/-- What the anchor's keeper signs of a manifest. -/
def mnSigned (m : List Byte) : List Byte := ascii "KRV round manifest" ++ m.take (m.length - 64)

/-- Are numbers strictly ascending? -/
def ascending : List Nat → Bool
  | a :: b :: l => decide (a < b) && ascending (b :: l)
  | _ => true

namespace State

/-! ### Kept shards -/

/-- Does the module keep a shard (OD 0x7500.01)? -/
def keeps (s : State) (shard : Nat) : Bool := s.keptShards.any (fun k => k.1 == shard)

/-- ROUND of a kept shard: that of its first tensor's header. -/
def shardRound (s : State) (shard : Nat) : Nat :=
  match s.planTensors shard with
  | t :: _ => rdLe (s.shard t.hdr) 0x14 4
  | [] => 0

/-- Does the keeper hold a base of a shard? -/
def hasBase (s : State) (shard : Nat) : Bool :=
  let ts := s.planTensors shard
  !ts.isEmpty && ts.all (fun t => rdLe (s.shard t.hdr) 0 4 == 0x44524853 && shValid (s.shard t.hdr))

/-- OD 0x7100.02: the lowest ROUND among the shards kept. -/
def showBase (s : State) : State :=
  match (s.keptShards.filter (fun k => s.hasBase k.1)).map (fun k => s.shardRound k.1) with
  | [] => s
  | r :: rs => s.odSetShown 0x7100 2 (rs.foldl min r)

/-- Momentum bytes of a tensor. -/
def momLen (s : State) (t : Config.PlanTensor) : Nat := shElems (s.shard t.hdr) + shElems (s.shard t.hdr) / 32

/-- The momentum of a tensor. -/
def momOf (s : State) (t : Config.PlanTensor) : List Byte := s.readBytes t.mom (s.momLen t)

/-- Unresolved seals of a shard, oldest first: the round, and which of the two deltas and pending residuals is its own. -/
def sealsOf (s : State) (shard : Nat) : List (Nat × Nat) := fget [] s.outer.seals shard

/-- Set the unresolved seals of a shard. -/
def setSeals (s : State) (shard : Nat) (l : List (Nat × Nat)) : State :=
  s.outerMod (fun o => { o with seals := fput [] o.seals shard l })

/-- Is the seal of a round unresolved? -/
def sealHeld (s : State) (shard round : Nat) : Bool := (s.sealsOf shard).any (fun q => q.1 == round)

/-- The warm-start factor Q̃ takes its initial value (R222), in SFP16 form. -/
def warmInit (s : State) (shard : Nat) : State :=
  ((s.planTensors shard).foldl (fun a t =>
    if t.rank = 0 then a
    else a.planWrite t.warm (sfpBytes ((List.range (t.cols * t.rank)).map (fun k =>
      if k % t.rank = (k / t.rank) % t.rank then one32 else 0)))) s).outerMod (fun o => { o with
        warmed := shard :: o.warmed.filter (· ≠ shard) })

/-- Seal a kept shard in a round (R220): only where it holds a base, and a late joiner only in the round after that base (R242). Before
its first seal Q̃ takes its initial value (R222). A third unresolved seal discards the oldest, whose delta and pending residual it
takes. -/
def sealShardIn (s : State) (round shard : Nat) : State :=
  if !s.hasBase shard || (s.outer.late.contains shard && round != s.shardRound shard + 1) then s
  else
    let s1 := if s.outer.warmed.contains shard then s else s.warmInit shard
    let old := (s1.sealsOf shard).drop ((s1.sealsOf shard).length - 1)
    (s1.setSeals shard (old ++ [(round, if old.any (fun q => q.2 == 0) then 1 else 0)])).outerMod (fun o => { o with
      late := o.late.filter (· ≠ shard) })

/-- The seal latch (R218, R220): the first ADD on the latch object since SEAL latches the stamp of the round and seals every
kept shard. -/
def sealLatch (s : State) (sid : Nat) (reached : List Req) : State :=
  match s.outer.armed with
  | none => s
  | some r =>
    if sid = s.odGet 0x7110 1 && reached.any (fun q => match q.op with
        | .add _ => true
        | _ => false) then
      let s1 := (s.odSet 0x7110 2 (ftNat s.time.ft)).outerMod (fun o => { o with
        armed := none, stamped := (r, s.time.ft) :: o.stamped.filter (fun q => q.1 != r) })
      s1.keptShards.foldl (fun a k => a.sealShardIn r k.1) s1
    else s

/-- R252: every ADD on REPLAY_SID of the layout adds to OD 0x2020.02. -/
def countReplays (s : State) (sid : Nat) (reached : List Req) : State :=
  if !s.layoutBytes.isEmpty && sid == rdLe s.layoutBytes 0x18 4 then
    reached.foldl (fun a q => match q.op with
      | .add v => a.bumpBy 0x2020 2 v.toNat
      | _ => a) s
  else s

/-! ### Contributions toward the relay (R218, R219) -/

/-- Hand one ready contribution to the relay. -/
def handContrib (s : State) (r : Nat × Nat × List Byte) : State :=
  let stamp := ((s.outer.stamped.find? (fun q => q.1 == r.1)).map (·.2)).getD ftUnset
  let h := dataHeader 1 s.smn r.2.1 r.1 (rdLe r.2.2 0x10 4) stamp r.2.2.length
  (s.handOver 0xFF h r.2.2).outerMod (fun o => { o with handed := (r.1, r.2.1) :: o.handed })

/-- The own CHECK has passed over a contribution of a round with a stamp: it is ready, with its NORM, and goes at once if SEND of its
round has executed. -/
def contribReady (s : State) (m : List Byte) (norm bad : Nat) : State :=
  let shard := rdLe m 8 4
  let round := rdLe m 0xC 4
  let known := s.outer.handed.contains (round, shard) || s.outer.ready.any (fun r => r.1 == round && r.2.1 == shard)
  let sealed := (!s.keeps shard || s.sealHeld shard round) && !s.outer.spoiled.contains (shard, round)
  if rdLe m 0 4 = magicCtrb && rdLe m 5 1 == s.ownSite && s.outer.stamped.any (fun q => q.1 == round) && bad == 0 && !known &&
      sealed then
    let r := (round, shard, patch m 0x20 (toLe 8 norm))
    if s.outer.sent.contains round then s.handContrib r else s.outerMod (fun o => { o with ready := o.ready ++ [r] })
  else s

/-! ### Beats -/

/-- SEAL(r) arms the latch; no SEND of that round has executed since, and nothing of it has gone. -/
def sealRound (s : State) (r : Nat) : State :=
  (s.odSetShown 0x7100 1 r).outerMod (fun o => { o with
    armed := some r, stamped := o.stamped.filter (fun q => q.1 != r), sent := o.sent.filter (· ≠ r),
    handed := o.handed.filter (fun q => q.1 != r), spoiled := o.spoiled.filter (fun q => q.2 != r),
    closed := o.closed.filter (· ≠ r) })

/-- SEND(r): what is ready of the round goes. -/
def sendRound (s : State) (r : Nat) : State :=
  let go := s.outer.ready.filter (fun x => x.1 == r)
  go.foldl handContrib (s.outerMod (fun o => { o with sent := r :: o.sent.filter (· ≠ r), ready := o.ready.filter (fun x => x.1 != r) }))

/-- CLOSE(r) disarms a latch that is still armed. -/
def closeRound (s : State) (r : Nat) : State :=
  s.outerMod (fun o => { o with armed := if o.armed = some r then none else o.armed })

/-! ### The own beat FTs (R227, R160) -/

/-- The valid entries that carry a round action. -/
def roundBeats (s : State) (action : Nat) : List Beat := (s.beats.map (·.2)).filter (fun e => e.valid && e.action == action)

/-- Does an entry carry another round at each repetition? -/
def beatCounts (e : Beat) : Bool := e.period != 0 && Nat.testBit e.flags 2

/-- The FT of a beat's action for round r, by the own beat table: an entry for that round alone, or else a periodic one that counts
its rounds up. -/
def roundFt (s : State) (action r : Nat) : Option Int :=
  let es := s.roundBeats action
  match es.find? (fun e => !beatCounts e && e.arg == r) with
  | some e => some e.ft
  | none => (es.find? beatCounts).map (fun e => e.ft + ((r : Int) - e.arg) * e.period)

/-- Does a stamp lie in the window of a round (R159)? -/
def inWindow (s : State) (r : Nat) (t : Int) : Bool :=
  match s.roundFt 1 r, s.roundFt 3 r with
  | some a, some c => decide (a ≤ t) && decide (t < c)
  | _, _ => false

/-- The round whose SEAL an entry carries last before a stamp; none below round 0. -/
def roundAt (t : Int) (e : Beat) : Option Nat :=
  let q := (e.arg : Int) + (t - e.ft) / e.period
  if beatCounts e then (if q < 0 then none else some q.toNat) else some e.arg

/-- Where a stamp lies: in the window of round r, in that of another round, or in none. -/
def stampIn (s : State) (r : Nat) (t : Int) : Option Bool :=
  if s.inWindow r t then some true
  else if ((s.roundBeats 1).filterMap (roundAt t)).any (fun q => s.inWindow q t) then some false
  else none

/-! ### Inbound slots (R225, R226) -/

/-- The place of a shard among the kept ones, with its entry. -/
def keptAt (s : State) (shard : Nat) : Option (Nat × Nat × Nat × Nat) :=
  ((List.range s.keptShards.length).zip s.keptShards).find? (fun k => k.2.1 == shard)

/-- The key of slot (p, i) of the kept shard at a place. -/
def slotKey (place p i : Nat) : Nat := (2 * place + p) * 65 + i

/-- A slot. -/
def kslot (s : State) (key : Nat) : KSlot := fget {} s.outer.slots key

/-- Set a slot. -/
def setKslot (s : State) (key : Nat) (v : KSlot) : State := s.outerMod (fun o => { o with slots := fput {} o.slots key v })

/-- Where the bytes of an inbound message go: the slot's key (none for the fetch area), address and size. -/
def inPlace (s : State) (site : Nat) (hdr : List Byte) : Option (Option Nat × Nat × Nat) :=
  if dhKind hdr = 4 then some (none, s.odGet 0x7500 2, s.odGet 0x7500 3)
  else match s.keptAt (dhShard hdr) with
    | none => none
    | some k =>
      let n := s.siteCount
      let p := dhRound hdr % 2
      let i := if dhKind hdr = 2 then n else site
      some (some (slotKey k.1 p i), k.2.2.2 + (p * (n + 1) + i) * k.2.2.1, k.2.2.1)

/-- What a slot or the fetch area holds. -/
def placeSlot (s : State) (key : Option Nat) : KSlot :=
  match key with
  | some k => s.kslot k
  | none => s.outer.fetchSlot

/-- Set what a slot or the fetch area holds. -/
def setPlace (s : State) (key : Option Nat) (v : KSlot) : State :=
  match key with
  | some k => s.setKslot k v
  | none => s.outerMod (fun o => { o with fetchSlot := v })

/-- A whole message waits to be judged or answered. -/
def inboxPut (s : State) (m : InMsg) : State := s.outerMod (fun o => { o with inbox := o.inbox ++ [m] })

/-- Take the first message of a kind from a site. -/
def inboxTake (s : State) (site kind : Nat) : Option (InMsg × State) :=
  let ok (m : InMsg) : Bool := m.site == site && dhKind m.hdr == kind
  (s.outer.inbox.find? ok).map (fun m => (m, s.outerMod (fun o => { o with inbox := o.inbox.eraseP ok })))

/-- The bytes of a message. -/
def inMsgBytes (s : State) (m : InMsg) : List Byte := if m.bytes.isEmpty then s.readBytes m.addr (dhLen m.hdr) else m.bytes

/-- Discard an inbound message under R226: counted once, and its slot left without a message. -/
def discardIn (s : State) (site : Nat) (hdr : List Byte) (key : Option (Option Nat)) : State :=
  let s1 := match key with
    | some k => if (s.placeSlot k).hdr = hdr then s.setPlace k {} else s
    | none => s
  (s1.outerMod (fun o => { o with
    dropped := (site, hdr) :: o.dropped, partials := o.partials.filter (fun m => m.hdr != hdr || m.site != site) })).countNotify
      0x7500 5

/-- Does a message go beside the slots: a request or notice, or one whose slot holds another whole message of its round? -/
def beside (s : State) (hdr : List Byte) (key : Option (Option Nat)) : Bool :=
  dhKind hdr == 3 || dhKind hdr == 5 || (match key with
    | some (some k) =>
      let v := s.kslot k
      v.complete && v.round1 == dhRound hdr + 1 && v.hdr != hdr
    | _ => false)

/-- Add bytes of a message that arrives beside the slots. -/
def partialPut (s : State) (site : Nat) (hdr : List Byte) (off : Nat) (bytes : List Byte) : State :=
  let old := (s.outer.partials.find? (fun m => m.site == site && m.hdr == hdr)).getD { site := site, hdr := hdr, addr := 0, bytes := [] }
  let b := padTo (max old.bytes.length (off + bytes.length)) old.bytes
  s.outerMod (fun o => { o with
    partials := { old with bytes := patch b off bytes } :: o.partials.filter (fun m => m.site != site || m.hdr != hdr) })

/-- The bytes of an inbound chunk are written, unless its slot holds a higher round, or R226 forbids it. -/
def relayBytes (s : State) (site : Nat) (hdr : List Byte) (off : Nat) (bytes : List Byte) : State :=
  if s.outer.dropped.contains (site, hdr) then s
  else if !s.keeps (dhShard hdr) then s.discardIn site hdr none
  else match s.inPlace site hdr with
    | none => s.discardIn site hdr none
    | some (key, addr, size) =>
      if s.beside hdr (some key) then
        (if (dhKind hdr == 1 || dhKind hdr == 2) && decide (size < off + bytes.length) then s.discardIn site hdr none
          else s.partialPut site hdr off bytes)
      else
        let v := s.placeSlot key
        if key.isSome && decide (dhRound hdr + 1 < v.round1) then s
        else if size < off + bytes.length then s.discardIn site hdr (some key)
        else if v.complete && v.hdr == hdr then s
        else
          let s1 := if v.hdr = hdr then s
            else (s.setPlace key { round1 := dhRound hdr + 1, hdr := hdr }).outerMod (fun o => { o with
              inbox := o.inbox.filter (fun m => m.addr != addr || !m.bytes.isEmpty) })
          if s1.inHbm addr size then s1.writeBytes (addr + off) bytes else s1

/-- The completing chunk of an inbound message (R206): it is complete. -/
def relayDone (s : State) (site : Nat) (hdr : List Byte) : State :=
  if s.outer.dropped.contains (site, hdr) then s.outerMod (fun o => { o with dropped := o.dropped.filter (· ≠ (site, hdr)) })
  else if !s.keeps (dhShard hdr) then s.discardIn site hdr none
  else match s.inPlace site hdr with
    | none => s
    | some (key, addr, size) =>
      match s.outer.partials.find? (fun m => m.site == site && m.hdr == hdr) with
      | some m =>
        let s1 := s.outerMod (fun o => { o with partials := o.partials.filter (fun x => x.site != site || x.hdr != hdr) })
        s1.inboxPut { m with bytes := slice m.bytes 0 (dhLen hdr) }
      | none =>
        let v := s.placeSlot key
        if v.hdr ≠ hdr || v.complete then s
        else if size < dhLen hdr then s.discardIn site hdr (some key)
        else (s.setPlace key { v with complete := true }).inboxPut { site := site, hdr := hdr, addr := addr, bytes := [] }

/-- A message is aborted (R208): its slot or the fetch area holds none. -/
def relayAbort (s : State) (site : Nat) (hdr : List Byte) : State :=
  let s1 := s.outerMod (fun o => { o with
    partials := o.partials.filter (fun m => m.site != site || m.hdr != hdr), dropped := o.dropped.filter (· ≠ (site, hdr)) })
  match s1.inPlace site hdr with
  | some (key, _, _) =>
    let v := s1.placeSlot key
    if v.hdr = hdr && !v.complete then s1.setPlace key {} else s1
  | none => s1

/-! ### Known manifests -/

/-- The manifest of a shard and round that is known here. -/
def manifestOf (s : State) (shard round : Nat) : Option Published :=
  s.outer.published.find? (fun p => p.shard == shard && p.round == round)

/-- Keep a manifest: those of the last 16 rounds, and contributions with the last RETAIN ones of a shard (R231); one that is not yet
applied keeps them until it is (R234). A manifest of a higher term takes the place of the one of its round. -/
def keepManifest (s : State) (p : Published) : State :=
  let others := s.outer.published.filter (fun q => q.shard != p.shard || q.round != p.round)
  let all := p :: others
  let newer (q : Published) : Nat := (all.filter (fun x => x.shard == q.shard && decide (q.round < x.round))).length
  let ahead (q : Published) : Bool := decide (s.shardRound q.shard < q.round)
  let kept := (all.filter (fun q => decide (p.round < q.round + 16) || q.shard != p.shard || ahead q)).map
    (fun q => if newer q < s.odGet 0x7100 3 || ahead q then q else { q with contribs := [] })
  s.outerMod (fun o => { o with published := kept })

/-- The grandmaster is the active gateway of the anchor's site (R150, R246). -/
def roleFromLayout (s : State) : State :=
  s.odSet 0x4010 2 (if !s.isGateway then 0 else if s.siteCount ≠ 0 && s.ownSite == s.odGet 0x7600 1 then 2 else 1)

/-- Adopt a higher term with its anchor (R232, R240). -/
def adoptTerm (s : State) (term anchor : Nat) : State :=
  if s.odGet 0x7600 2 < term then
    let s1 := ((s.odSet 0x7600 2 term).odSet 0x7600 1 anchor).bump 0x7600 8
    let s2 := if s1.isGateway then s1.odSet 0x4010 2 (if s1.ownSite = anchor then 2 else 1) else s1
    s2.outerMod (fun o => { o with claim := none, catchUp := if s2.ownSite = anchor then o.catchUp else none })
  else s

/-- R232: is a manifest right for this keeper? -/
def manifestOk (s : State) (m : List Byte) : Bool :=
  rdLe m 0 4 == magicMnft && rdLe m 4 1 == 1 && s.keeps (mnShard m) &&
  (match s.keeperKey (mnAnchor m) (mnShard m) with
   | some k => edVerify k (mnSigned m) (m.drop (m.length - 64))
   | none => false) &&
  !(decide (mnTerm m < s.odGet 0x7600 2) || (mnTerm m == s.odGet 0x7600 2 && mnAnchor m != s.odGet 0x7600 1)) &&
  ascending ((mnContribs m).map (fun c => rdLe c 0 1)) && rdLe m 0x14 1 != 0 && decide (mnPrev m < mnRound m)

/-- The norm window of a shard is that of its manifest of the highest round (R229). -/
def takeWindow (s : State) (m : List Byte) : State :=
  if s.outer.published.any (fun p => p.shard == mnShard m && decide (mnRound m < p.round)) then s
  else
    let w := (List.range (min 16 (rdLe m 0x16 1))).map (fun i => rdLe m (0x30 + 4 * i) 4)
    s.outerMod (fun o => { o with medians := fput [] o.medians (mnShard m) w })

/-- Take a valid manifest: its term, its norm window, and the manifest unless one of a higher term is known. -/
def takeManifest (s : State) (m : List Byte) : State :=
  let s1 := (s.adoptTerm (mnTerm m) (mnAnchor m)).takeWindow m
  match s1.manifestOf (mnShard m) (mnRound m) with
  | some p => if mnTerm p.bytes < mnTerm m then s1.keepManifest { p with bytes := m } else s1
  | none => s1.keepManifest { shard := mnShard m, round := mnRound m, bytes := m, contribs := [] }

/-! ### Requests (R234, R241) -/

/-- The body of a BASE_REQ. -/
def reqBody (f : Fetch) : List Byte := toLe 1 f.req ++ toLe 1 f.origin ++ zeros 2 ++ toLe 4 f.shard ++ toLe 4 f.round ++ zeros 20

/-- Send the outstanding request; each sending is counted (R226). -/
def sendReq (s : State) (f : Fetch) : State :=
  let s1 := s.bump 0x7700 (if f.req = 1 then 2 else 3)
  s1.handOver f.asked (dataHeader 3 s1.smn f.shard f.round 0 s1.time.ft 32) (reqBody f)

/-- Is a request for the same outstanding, or waiting? -/
def asksFor (s : State) (f : Fetch) : Bool :=
  (s.outer.fetch.toList ++ s.outer.wanted).any (fun g => g.req == f.req && g.origin == f.origin && g.shard == f.shard && g.round == f.round)

/-- Request, if there is another site to ask; while another request is outstanding, this one waits for it to end (R225). -/
def request (s : State) (f : Fetch) : State :=
  if !s.otherSites.contains f.asked || s.asksFor f then s
  else if s.outer.fetch.isSome then s.outerMod (fun o => { o with wanted := o.wanted ++ [f] })
  else (s.outerMod (fun o => { o with fetch := some f })).sendReq f

/-- The outstanding request has ended: the next that waits is sent. -/
def nextWanted (s : State) : State :=
  match s.outer.wanted with
  | [] => s.outerMod (fun o => { o with fetch := none })
  | f :: l => (s.outerMod (fun o => { o with fetch := some f, wanted := l })).sendReq f

/-- The fallback order (OD 0x7600.03). -/
def fallback (s : State) : List Nat := ((s.blobGet 0x7600 3).map (·.toNat)).takeWhile (· ≠ 0xFF)

/-- Is a site in the own group? -/
def inGroup (s : State) (i : Nat) : Bool := Nat.testBit (s.odGet 0x7600 6) i

/-- The first other site of the group in fallback order that keeps a shard (R241). -/
def baseFrom (s : State) (shard : Nat) : Option Nat :=
  s.fallback.find? (fun i => s.inGroup i && i != s.ownSite && (s.keeperKey i shard).isSome)

/-- Request a base: for a repair from the anchor, otherwise from the group. -/
def fetchBase (s : State) (shard : Nat) (repair drop : Bool) : State :=
  match if repair then some (s.odGet 0x7600 1) else s.baseFrom shard with
  | some i => s.request { req := 1, origin := 0, shard := shard, round := 0, asked := i, drop := drop }
  | none => s

/-- Whom requests for manifests and contributions go to: the anchor, or the endorser that a new anchor catches up from. -/
def askSite (s : State) : Nat :=
  match s.outer.catchUp with
  | some c => c.2
  | none => s.odGet 0x7600 1

/-- A contribution that a manifest entry lists: kept with the manifest, or whole in its slot with the listed digest. -/
def contribFor (s : State) (p : Published) (e : List Byte) : Option (List Byte) :=
  let site := rdLe e 0 1
  let right (m : List Byte) : Bool := foldDigest s m == slice e 32 16
  match p.contribs.find? (fun c => c.1 == site && right c.2) with
  | some c => some c.2
  | none =>
    match s.keptAt p.shard with
    | none => none
    | some k =>
      let q := p.round % 2
      let v := s.kslot (slotKey k.1 q site)
      let m := s.readBytes (k.2.2.2 + (q * (s.siteCount + 1) + site) * k.2.2.1) (dhLen v.hdr)
      if v.complete && v.round1 == p.round + 1 && right m then some m else none

/-- The known manifest that applies next to a shard: PREV is the shard's ROUND, of the highest term (R232, R233). -/
def nextManifest (s : State) (shard : Nat) : Option Published :=
  (s.outer.published.filter (fun p => p.shard == shard && mnPrev p.bytes == s.shardRound shard && decide (s.shardRound shard < p.round))).foldl
    (fun b p => match b with
      | none => some p
      | some q => if mnTerm q.bytes < mnTerm p.bytes then some p else some q) none

/-- A keeper seeks what it lacks of a shard (R234, R240, R242). -/
def seek (s : State) (shard : Nat) : State :=
  if !s.keeps shard || s.outer.fetch.isSome then s
  else if !s.hasBase shard then s.fetchBase shard false true
  else
    let ask := s.askSite
    match s.nextManifest shard with
    | some p =>
      match (mnContribs p.bytes).find? (fun e => (s.contribFor p e).isNone) with
      | some e => s.request { req := 2, origin := rdLe e 0 1, shard := shard, round := p.round, asked := ask, drop := false }
      | none => s
    | none =>
      let above := s.outer.published.filter (fun p => p.shard == shard && decide (s.shardRound shard < mnPrev p.bytes))
      match above.foldl (fun b p => match b with
          | none => some (mnPrev p.bytes)
          | some r => some (min r (mnPrev p.bytes))) (none : Option Nat) with
      | some r => s.request { req := 3, origin := 0, shard := shard, round := r, asked := ask, drop := false }
      | none =>
        match s.outer.catchUp with
        | some c =>
          if s.shardRound shard < c.1 then
            s.request { req := 3, origin := 0, shard := shard, round := c.1, asked := c.2, drop := false }
          else s
        | none => s

/-- Seek for every kept shard; a new anchor has caught up once none of its shards is behind. -/
def seekAll (s : State) : State :=
  let s1 := s.keptShards.foldl (fun a k => a.seek k.1) s
  match s1.outer.catchUp with
  | some c => if s1.keptShards.all (fun k => decide (c.1 ≤ s1.shardRound k.1)) then s1.outerMod (fun o => { o with catchUp := none }) else s1
  | none => s1

end State

end Sys2Proof.Machine
end

