-- ==== Sys2Proof/Machine/RoundOps.lean ====
section
/-! DEFINITION. The commands of the outer rounds (09): beats, CHECK, relay chunks, judgement at the anchor, manifests, requests
and answers, and the anchor messages. -/

namespace Sys2Proof.Machine

namespace State

/-! ### Judging (R227, R228) -/

/-- The weight w(s) of a staleness (OD 0x7200): 0 from 16 on. -/
def staleWeight (s : State) (k : Nat) : Nat := if k < 16 then s.odGet 0x7200 (k + 1) else 0

/-- Are the records of a message those of the outer plan? -/
def recordsOk (s : State) (shard : Nat) (m : List Byte) : Bool :=
  let ts := s.planTensors shard
  let rs := msgRecs m
  rdLe m 6 2 == ts.length && rs.length == ts.length && (ts.zip rs).all (fun q =>
    let size := if q.1.rank = 0 then sfpSize q.1.cols else sfpSize (q.1.rows * q.1.rank) + sfpSize (q.1.cols * q.1.rank)
    q.2.tensor == q.1.tensor && q.2.kind == (if q.1.rank = 0 then 2 else 1) && q.2.rank == q.1.rank && q.2.rows == q.1.rows &&
    q.2.cols == q.1.cols && q.2.bytes == size)

/-- Reason FORM of Table 9.7. -/
def formBad (s : State) (site : Nat) (h m : List Byte) : Bool :=
  rdLe m 0 4 != magicCtrb || rdLe m 4 1 != 1 || rdLe m 5 1 != site || rdLe m 8 4 != dhShard h || rdLe m 0xC 4 != dhRound h ||
  rdLe m 0x10 4 != dhBase h || sInt 64 (rdLe m 0x18 8) != dhStamp h || !s.recordsOk (dhShard h) m ||
  decide (dhRound h < dhBase h + 1) || s.stampIn (dhRound h) (dhStamp h) == some false

/-- Does a known manifest of the shard for a round above BASE list the site with the same BASE? -/
def overlapBad (s : State) (shard site base : Nat) : Bool :=
  s.outer.published.any (fun p => p.shard == shard && decide (base < p.round) &&
    (mnContribs p.bytes).any (fun e => rdLe e 0 1 == site && rdLe e 4 4 == base))

/-- The reason a complete contribution is rejected with, but for DUPLICATE (Table 9.7, in its order). -/
def judgeReason (s : State) (site : Nat) (h m : List Byte) : Option Nat :=
  let shard := dhShard h
  let r := dhRound h
  if s.formBad site h m then some 1
  else if s.stampIn r (dhStamp h) != some true || (s.manifestOf shard r).isSome || s.outer.closed.contains r then some 2
  else if (dec32 (s.staleWeight (r - 1 - dhBase h))).isZero then some 3
  else if msgNonfinite m ≠ 0 then some 4
  else if msgNorm m ≠ rdLe m 0x20 8 then some 5
  else if s.overlapBad shard site (dhBase h) then some 7
  else none

/-- The body of a REJECT_NOTICE. -/
def noticeBody (site reason shard round base : Nat) (stamp : Nat) : List Byte :=
  toLe 1 site ++ toLe 1 reason ++ zeros 2 ++ toLe 4 shard ++ toLe 4 round ++ toLe 4 base ++ toLe 8 stamp ++ zeros 8

/-- Send a notice to the keeper of a shard at a site; at the own site that keeper is this module. -/
def sendNotice (s : State) (to_ : Nat) (shard round base : Nat) (body : List Byte) : State :=
  let h := dataHeader 5 s.smn shard round base s.time.ft 32
  if to_ = s.ownSite then s.inboxPut { site := to_, hdr := h, addr := 0, bytes := body } else s.handOver to_ h body

/-- Reject a contribution (R228). -/
def rejectContrib (s : State) (site reason shard round base : Nat) (stamp : Int) : State :=
  (((s.bump 0x7300 1).odSet 0x7300 2 (reason * 2 ^ 56 + site * 2 ^ 48 + shard)).sendNotice site shard round base
    (noticeBody site reason shard round base (ftNat stamp)))

/-- Does a contribution count before another of its site, shard and round (R227)? -/
def later (a b : Cand) : Bool := decide (b.stamp < a.stamp) || (a.stamp == b.stamp && decide (b.base < a.base))

/-- Replace the contribution bytes of a slot by those that count. -/
def slotTake (s : State) (m : InMsg) : State × Nat :=
  match s.inPlace m.site m.hdr with
  | some (some k, addr, size) =>
    if m.bytes.isEmpty || decide (size < m.bytes.length) || !s.inHbm addr size then (s, m.addr)
    else ((s.setKslot k { round1 := dhRound m.hdr + 1, hdr := m.hdr, complete := true }).writeBytes addr m.bytes, addr)
  | _ => (s, m.addr)

/-- Judge one complete contribution at the anchor. -/
def judge (s : State) (m : InMsg) : State :=
  let h := m.hdr
  let b := s.inMsgBytes m
  let shard := dhShard h
  let r := dhRound h
  let s1 := s.outerMod (fun o => { o with judged := (shard, r, m.site) :: o.judged })
  match s.judgeReason m.site h b with
  | some why => s1.rejectContrib m.site why shard r (dhBase h) (dhStamp h)
  | none =>
    let c : Cand := { shard := shard, round := r, site := m.site, base := dhBase h, stamp := dhStamp h, norm := rdLe b 0x20 8,
                      digest := foldDigest s b, addr := m.addr, len := b.length }
    match s.outer.cands.find? (fun x => x.shard == shard && x.round == r && x.site == m.site) with
    | some old =>
      if later c old then
        let q := s1.slotTake m
        (q.1.outerMod (fun o => { o with cands := { c with addr := q.2 } :: o.cands.filter (· ≠ old) })).rejectContrib m.site 6 shard r
          old.base old.stamp
      else s1.rejectContrib m.site 6 shard r (dhBase h) (dhStamp h)
    | none =>
      let q := s1.slotTake m
      q.1.outerMod (fun o => { o with cands := { c with addr := q.2 } :: o.cands })

/-! ### The manifest (R229 to R231) -/

/-- Is this module a keeper of the anchor site? -/
def isAnchor (s : State) : Bool := decide (s.siteCount ≠ 0) && s.ownSite == s.odGet 0x7600 1

/-- The median of a window of FP32 norms; none of an empty one. -/
def medianOf (w : List Nat) : Option Nat := (w.mergeSort)[(w.length - 1) / 2]?

/-- CLIP of an unclipped norm (R229): the factor and whether it clips. -/
def clipFactor (k : Nat) (window : List Nat) (norm : Nat) : Nat × Bool :=
  match medianOf window with
  | none => (one32, false)
  | some med =>
    let km := f64mul (enc64 (dec32 k)) (enc64 (dec32 med))
    if 4 ≤ window.length && FV.lt (dec64 km) (dec64 norm) then (enc32 (dec64 (f64div km norm)), true) else (one32, false)

/-- A manifest's bytes without its signature. -/
def manifestBody (s : State) (shard round : Nat) (cs : List (Cand × Nat × Nat × Bool)) (window : List Nat) : List Byte :=
  let ts := s.planTensors shard
  toLe 4 magicMnft ++ toLe 1 1 ++ toLe 1 s.ownSite ++ toLe 2 (s.odGet 0x7600 2) ++ toLe 4 shard ++ toLe 4 round ++
  toLe 4 (s.shardRound shard) ++ toLe 1 cs.length ++ toLe 1 ts.length ++ toLe 1 window.length ++ [0] ++
  toLe 8 (s.odGet 0x7600 6) ++ toLe 8 (ftNat s.time.ft) ++ toLe 4 (s.odGet 0x7000 2) ++ toLe 4 (s.odGet 0x7000 3) ++
  padTo 64 (window.flatMap (toLe 4)) ++ zeros 16 ++
  cs.flatMap (fun c => toLe 1 c.1.site ++ toLe 1 (if c.2.2.2 then 1 else 0) ++ zeros 2 ++ toLe 4 c.1.base ++
    toLe 8 (ftNat c.1.stamp) ++ toLe 4 c.2.1 ++ toLe 4 c.2.2.1 ++ toLe 8 c.1.norm ++ padTo 16 c.1.digest) ++
  ts.flatMap (fun t => toLe 4 t.tensor ++ zeros 12 ++ slice (s.shard t.hdr) 0x30 16 ++ padTo 16 (foldDigest s (s.momOf t)))

/-- Has a new anchor yet to catch a shard up (R240)? -/
def catchingUp (s : State) (shard : Nat) : Bool := (s.outer.catchUp).any (fun c => decide (s.shardRound shard < c.1))

/-- Publish the manifest of a round for a kept shard, if the anchor may (R231, R239, R240). -/
def publishRound (s : State) (shard round : Nat) : State :=
  let cs := (s.outer.cands.filter (fun c => c.shard == shard && c.round == round)).mergeSort (fun a b => decide (a.site ≤ b.site))
  if !s.isAnchor || s.odGet 0x7600 7 = 0 || !s.keeps shard || cs.isEmpty || (s.manifestOf shard round).isSome ||
      s.catchingUp shard then s
  else
    let window := fget [] s.outer.medians shard
    let ws := cs.map (fun c => s.staleWeight (round - 1 - c.base))
    let total := (ws.drop 1).foldl f32add (ws.headD 0)
    let full := (cs.zip ws).map (fun q => (q.1, f32div q.2 total, clipFactor (s.odGet 0x7300 4) window q.1.norm))
    let win := window ++ cs.map (fun c => enc32 (dec64 c.norm))
    let win' := win.drop (win.length - 16)
    let body := s.manifestBody shard round (full.map (fun q => (q.1, q.2.1, q.2.2.1, q.2.2.2))) win'
    let bytes := body ++ edSign identityKey (ascii "KRV round manifest" ++ body)
    let kept := cs.map (fun c => (c.site, s.readBytes c.addr c.len))
    let s1 := (s.bumpBy 0x7300 3 (full.filter (·.2.2.2)).length).outerMod (fun o => { o with
      medians := fput [] o.medians shard win', cands := o.cands.filter (fun c => c.shard != shard || c.round != round) })
    let s2 := s1.keepManifest { shard := shard, round := round, bytes := bytes, contribs := kept }
    let h := dataHeader 2 s.smn shard round 0 s.time.ft bytes.length
    let s3 := s2.handOver 0xFF h bytes
    match s3.inPlace s3.ownSite h with
    | some (some k, addr, size) =>
      if decide (bytes.length ≤ size) && s3.inHbm addr size then
        (s3.setKslot k { round1 := round + 1, hdr := h, complete := true, checked := true }).writeBytes addr bytes
      else s3
    | _ => s3

/-- Has every roster site a judged contribution of a round (R231)? -/
def allJudged (s : State) (shard round : Nat) : Bool :=
  (List.range s.siteCount).all (fun i => s.outer.judged.contains (shard, round, i))

/-! ### Reconstruction and application (R233) -/

/-- The FP32 delta of a factor tensor: the contributions' scaled factors in one FP32 chain per element, sites ascending (R63,
R71). Each entry is a FP32 factor and the record. -/
def chainDelta (rows cols : Nat) (rs : List (Nat × Rec)) : List Nat :=
  let parts := rs.map (fun q =>
    let blocks := rowCodes ((q.2.first).map (fun v => dec32 (enc32 ((dec32 q.1).mul v))))
    (q.2.rank, blocks.flatMap (fun b => b.2.map (decSfp16 b.1)), q.2.second))
  (List.range rows).flatMap (fun m => (List.range cols).map (fun n =>
    parts.foldl (fun acc x =>
      (List.range x.1).foldl (fun a k =>
        enc32 (((x.2.1.getD (m * x.1 + k) (.fin false 0 0)).mul (x.2.2.getD (n * x.1 + k) (.fin false 0 0))).add (dec32 a))) acc) 0))

/-- The FP32 delta of a vector tensor. -/
def vectorDelta (cols : Nat) (rs : List (Nat × Rec)) : List Nat :=
  (List.range cols).map (fun n => rs.foldl (fun acc q =>
    enc32 (((dec32 q.1).mul (q.2.first.getD n (.fin false 0 0))).add (dec32 acc))) 0)

/-- OUTER over every tensor of a shard; the flag tells whether each completed. -/
def outerShard (s : State) (ts : List Config.PlanTensor) (m : List Byte) (cs : List (Nat × List Rec)) : State × Bool :=
  ((List.range ts.length).zip ts).foldl (fun a q =>
    if a.2 then
      let rs := cs.filterMap (fun c => (c.2[q.1]?).map (fun r => (c.1, r)))
      let delta := if q.2.rank = 0 then vectorDelta q.2.cols rs else chainDelta q.2.rows q.2.cols rs
      outerRule a.1 q.2.hdr delta q.2.mom (rdLe m 0x28 4) (rdLe m 0x2C 4) (mnRound m)
    else a) (s, true)

/-- The pending residual of a seal becomes E (R235). -/
def commitResid (s : State) (shard which : Nat) : State :=
  (s.planTensors shard).foldl (fun a t =>
    let from_ := if which = 0 then t.pend0 else t.pend1
    let n := 4 * t.rows * t.cols
    if t.rank = 0 || from_ = 0 || !a.inHbm from_ n then a else a.planWrite t.resid (a.readBytes from_ n)) s

/-- After a manifest (R235): θ rebases from the parameters `olds` of B, less the delta of a seal of that round that the manifest lists,
whose residual becomes E; where that seal is gone, the own delta is given up. Seals up to that round are resolved. -/
def afterManifest (s : State) (shard : Nat) (m : List Byte) (olds : List (List FV)) : State :=
  let r := mnRound m
  let listed := (mnContribs m).any (fun e => rdLe e 0 1 == s.ownSite)
  let own := if listed then ((s.sealsOf shard).find? (fun q => q.1 == r)).map (·.2) else none
  let s1 := ((s.planTensors shard).zip olds).foldl (fun a q =>
    a.rebase q.1 q.2 (own.map (fun n => if n = 0 then q.1.delta0 else q.1.delta1))) s
  let s2 := match own with
    | some n => s1.commitResid shard n
    | none => if listed then (s1.dropDelta shard).bump 0x7700 5 else s1
  s2.setSeals shard ((s2.sealsOf shard).filter (fun q => decide (r < q.1)))

/-- What an application of a manifest reads of a kept shard: parameters, momentum and contributions in their slots. -/
def outerReads (s : State) (shard : Nat) (p : Published) : List (Nat × Nat) :=
  (s.planTensors shard).flatMap (fun t => [(t.hdr, 64 + shBytes (s.shard t.hdr)), (t.mom, s.momLen t)]) ++
  (match s.keptAt shard with
   | none => []
   | some k => (mnContribs p.bytes).map (fun e =>
      let v := s.kslot (slotKey k.1 (p.round % 2) (rdLe e 0 1))
      (k.2.2.2 + (p.round % 2 * (s.siteCount + 1) + rdLe e 0 1) * k.2.2.1, if v.complete then dhLen v.hdr else 0)))

/-- Do the TENSOR entries match the own shard (R237)? -/
def digestsMatch (s : State) (shard : Nat) (m : List Byte) : Bool :=
  (mnTensors m).length == (s.planTensors shard).length && ((s.planTensors shard).zip (mnTensors m)).all (fun q =>
    rdLe q.2 0 4 == q.1.tensor && slice q.2 16 16 == slice (s.shard q.1.hdr) 0x30 16 &&
    slice q.2 32 16 == padTo 16 (foldDigest s (s.momOf q.1)))

/-- Repair a kept shard by a fetch from the anchor, counted (R237), unless that fetch is under way already. -/
def repairShard (s : State) (shard : Nat) : State :=
  if s.asksFor { req := 1, origin := 0, shard := shard, round := 0, asked := 0, drop := false } then s
  else (s.bump 0x7700 1).fetchBase shard true false

/-- Apply one manifest to a kept shard, if a step is possible (R233, R234, R237). The anchor compares nothing with its own replica,
which is the reference; an uncorrectable error in what is read is fatal (R136). -/
def applyOne (s : State) (shard beatRound : Nat) : State × Bool :=
  match s.nextManifest shard with
  | none => (s.seek shard, false)
  | some p =>
    let m := p.bytes
    if !s.hasBase shard then (s.seek shard, false)
    else match s.wrongLine (s.outerReads shard p) with
    | some a => (s.eccFault a, false)
    | none =>
    if mnAnchor m ≠ s.ownSite && !s.digestsMatch shard m then (s.repairShard shard, false)
    else
      let es := mnContribs m
      let got := es.filterMap (fun e => (s.contribFor p e).map (fun b => (f32mul (rdLe e 0x10 4) (rdLe e 0x14 4), msgRecs b)))
      if got.length ≠ es.length then (s.seek shard, false)
      else
        let r := s.outerShard (s.planTensors shard) m got
        if r.2 then
          let s1 := r.1.afterManifest shard m ((s.planTensors shard).map s.baseVals)
          (if p.round < beatRound then s1.bump 0x7700 4 else s1, true)
        else (r.1, false)

/-- Apply manifests to a kept shard for as long as a step is possible. -/
def applyShard : Nat → State → Nat → Nat → State
  | 0, s, _, _ => s
  | fuel + 1, s, shard, r =>
    let x := s.applyOne shard r
    if x.2 then applyShard fuel x.1 shard r else x.1

/-- The running exports of a checkpoint complete (R257); an APPLY beat has waited for them (R258). -/
def exportsEnd (s : State) (apply : Bool) : State :=
  if s.exporting then
    let s1 := State.countNotify { s with exporting := false } 0x2030 4
    if apply then s1.bump 0x2030 5 else s1
  else s

/-- The APPLY beat's outer actions, after the log and after any exports that run (R130, R233, R258). -/
def applyRound (s : State) (r : Nat) : State :=
  let s1 := (s.applyLog).exportsEnd true
  let s2 := s1.keptShards.foldl (fun a k => if a.modState = stFaulted then a else applyShard (a.outer.published.length + 1) a k.1 r) s1
  s2.showBase

end State

/-! ### Beats -/

/-- SEAL (R218); the noise estimates are taken at it (R191). -/
def execSealBeat (s : State) : Host.Outcome State Fault Refusal :=
  .next (s.runBeat 1 (fun s e => (noiseRollover (s.sealRound e.arg), true)))
/-- SEND (R219). -/
def execSendBeat (s : State) : Host.Outcome State Fault Refusal := .next (s.runBeat 2 (fun s e => (s.sendRound e.arg, true)))
/-- CLOSE (R218). -/
def execCloseBeat (s : State) : Host.Outcome State Fault Refusal := .next (s.runBeat 3 (fun s e => (s.closeRound e.arg, true)))
/-- APPLY (R130, R233). -/
def execApplyBeat (s : State) : Host.Outcome State Fault Refusal :=
  .next (s.runBeat 4 (fun s e => (s.applyRound e.arg, true)))

/-! ### CHECK (R224) -/

/-- CHECK: the norm, the non-finite elements and the fold digest of a message; an own contribution is ready after it. -/
def execCheck (d : Nat) (s : State) : Host.Outcome State Fault Refusal :=
  fuseeCommand d 5 (fun s b =>
    let m := s.readBytes (fSrc0 b) (fBytes b)
    let norm := msgNorm m
    let bad := msgNonfinite m
    (s.writeBytes (fResult b) (resultLine bad norm (foldDigest s m))).contribReady m norm bad) s

/-! ### RELAY (R200, R201, R206, R225, R226) -/

/-- A chunk of a member's message at the gateway: its first brings the data header; the whole message is held at its last. -/
def relayOut (s : State) (x : RxPkt) : State :=
  let stub : InStream := { src := x.src, coll := x.coll, epoch := x.epoch, stype := 8, rank := 0, vc := x.vc }
  let old := s.inStream x.src x.coll 8 0
  let fresh := x.seq == 0 && (match old with
    | some i => State.inDone i && i.chunks.isEmpty
    | none => true)
  let dest := x.arg1 % 256
  if fresh && !(dest == 0xFF || s.otherSites.contains dest) then s.sendCack stub x.seq
  else if old.isNone && !fresh then s
  else
    let i := if fresh then stub else old.getD stub
    let hdr := slice x.body 0 48
    let s1 := if fresh then s.farMod (fun f => { f with
        nextMsg := f.nextMsg + 1,
        msgs := f.msgs ++ [{ num := f.nextMsg, dest := dest, hdr := hdr, src := x.src, coll := x.coll, bytes := none }] })
      else s
    let r := s1.storeChunk i x false
    if r.2 then
      let bytes := (r.1.bytesIn x.src x.coll 8 0).drop 48
      let s2 := r.1.releaseIn x.coll (fun q => q.stype == 8 && q.src == x.src)
      match s2.far.msgs.find? (fun m => m.src == x.src && m.coll == x.coll && m.bytes.isNone) with
      | none => s2
      | some m =>
        let m' := { m with bytes := some bytes }
        let s3 := s2.farMod (fun f => { f with msgs := f.msgs.map (fun y => if y.num = m.num then m' else y) })
        let s4 := s3.gatewayHolds m' bytes
        if m.granted then (s4.msgPeers m').foldl (fun a p => a.fillSlots p m' bytes) s4 else s4
    else r.1

/-- A chunk of an inbound message at a keeper: SIDE holds the data header's first 32 bytes, ARG0 its OFFSET. -/
def relayIn (s : State) (x : RxPkt) : State :=
  let stub : InStream := { src := x.src, coll := x.coll, epoch := x.epoch, stype := 8, rank := 0, vc := x.vc }
  let old := s.inStream x.src x.coll 8 0
  let fresh := x.seq == 0 && (match old with
    | some i => State.inDone i
    | none => true)
  let i := if fresh then stub else old.getD stub
  let seen := !fresh && (decide (x.seq < i.next) || i.chunks.any (fun c => c.1 == x.seq))
  let site := x.arg1 % 256
  let hdr := x.side ++ zeros 16
  let r := s.storeChunk i { x with bytes := x.bytes.take 64 } false
  if seen then r.1
  else
    let s1 := if x.body.isEmpty then r.1 else r.1.relayBytes site hdr x.arg0 x.body
    if r.2 then s1.relayDone site hdr
    else if x.body.isEmpty && !x.isLast then
      (s1.relayAbort site hdr).collMod (fun c => { c with ins := c.ins.filter (fun j => !State.inIs j x.src x.coll 8 0) })
    else s1

/-- RELAY: at the gateway from a member, otherwise at a keeper from the gateway. -/
def execRelay (src : Nat) (s : State) : Host.Outcome State Fault Refusal :=
  match s.takeRx src 8 with
  | none => .next s
  | some (x, s1) =>
    if s1.isGateway && src != s1.smn then .next (relayOut s1 x)
    else if s1.gatewayOf = some src then .next (relayIn s1 x)
    else .next (s1.bump 0x5200 2)

/-! ### At the anchor -/

/-- CONTRIB_MESSAGE (R227, R228, R231): the anchor judges the next complete contribution of a site. Another keeper leaves it where
it is. -/
def execContribMessage (site : Nat) (s : State) : Host.Outcome State Fault Refusal :=
  if !s.isAnchor then .next s
  else match s.inboxTake site 1 with
    | none => .next s
    | some (m, s1) =>
      match (if m.bytes.isEmpty then s1.wrongLine [(m.addr, dhLen m.hdr)] else none) with
      | some a => .next (s1.eccFault a)
      | none =>
      let s2 := s1.judge m
      .next (if s2.allJudged (dhShard m.hdr) (dhRound m.hdr) then s2.publishRound (dhShard m.hdr) (dhRound m.hdr) else s2)

/-- ROUND_DEADLINE (R231): at CLOSE(r) plus the grace the anchor publishes what it has not published of the round. -/
def execRoundDeadline (round : Nat) (s : State) : Host.Outcome State Fault Refusal :=
  match s.roundFt 3 round with
  | none => .next s
  | some c =>
    if s.isAnchor && !s.outer.closed.contains round && s.time.ft != ftUnset &&
        decide (c + 1000000 * (s.odGet 0x7010 1 : Int) ≤ s.time.ft) then
      let shards := s.keptShards.map (·.1)
      let missing := shards.any (fun k => !s.allJudged k round)
      let s1 := if missing then s.bump 0x7010 2 else s
      let s2 := shards.foldl (fun a k => a.publishRound k round) s1
      .next (s2.outerMod (fun o => { o with closed := round :: o.closed }))
    else .next s

/-! ### At every keeper -/

/-- MANIFEST (R232). -/
def execManifest (site : Nat) (s : State) : Host.Outcome State Fault Refusal :=
  match s.inboxTake site 2 with
  | none => .next s
  | some (m, s1) =>
    let b := s1.inMsgBytes m
    if s1.manifestOk b then
      let s2 := s1.takeManifest b
      let s3 := match s2.inPlace m.site m.hdr with
        | some (some k, _, _) => if (s2.kslot k).hdr = m.hdr then s2.setKslot k { s2.kslot k with checked := true } else s2
        | _ => s2
      .next (s3.seek (mnShard b))
    else
      let s2 := s1.bump 0x7500 4
      match s2.inPlace m.site m.hdr with
      | some (some k, _, _) => .next (if (s2.kslot k).hdr = m.hdr then s2.setKslot k {} else s2)
      | _ => .next s2

/-- A KIND 4 message for a site. -/
def sendAnswer (s : State) (site shard round : Nat) (bytes : List Byte) : State :=
  s.handOver site (dataHeader 4 s.smn shard round 0 s.time.ft bytes.length) bytes

/-- The "BASE" message of a kept shard (R241). -/
def baseMessage (s : State) (shard : Nat) : List Byte :=
  let ts := s.planTensors shard
  toLe 4 magicBase ++ toLe 1 1 ++ toLe 1 s.ownSite ++ toLe 2 ts.length ++ toLe 4 shard ++ toLe 4 (s.shardRound shard) ++ zeros 48 ++
  ts.flatMap (fun t =>
    let img := s.readBytes t.hdr (imgSize (s.shard t.hdr))
    let mom := s.momOf t
    toLe 4 t.tensor ++ zeros 4 ++ toLe 8 img.length ++ toLe 8 mom.length ++ zeros 8 ++ padTo 16 (foldDigest s mom) ++ zeros 16 ++
      img ++ mom)

/-- The answer to a request; none where the data is no longer held. -/
def answerOf (s : State) (req origin shard round : Nat) : Option (List Byte) :=
  match req with
  | 1 => if s.keeps shard && s.hasBase shard then some (baseMessage s shard) else none
  | 2 =>
    match s.manifestOf shard round with
    | none => none
    | some p => ((mnContribs p.bytes).find? (fun e => rdLe e 0 1 == origin)).bind (fun e => s.contribFor p e)
  | 3 => (s.manifestOf shard round).map (·.bytes)
  | _ => none

/-- BASE_REQ (R234, R241): answered with KIND 4, or with GONE; BASE and STAMP of a GONE notice are open. -/
def execBaseReq (site : Nat) (s : State) : Host.Outcome State Fault Refusal :=
  match s.inboxTake site 3 with
  | none => .next s
  | some (m, s1) =>
    let b := m.bytes
    let shard := rdLe b 4 4
    let round := rdLe b 8 4
    let reads := if rdLe b 0 1 = 1 then (s1.planTensors shard).flatMap (fun t =>
      [(t.hdr, 64 + shBytes (s1.shard t.hdr)), (t.mom, s1.momLen t)]) else []
    match s1.wrongLine reads, answerOf s1 (rdLe b 0 1) (rdLe b 1 1) shard round with
    | some a, _ => .next (s1.eccFault a)
    | none, some bytes => .next (sendAnswer s1 site shard round bytes)
    | none, none =>
      let x := s1.draw 32
      let y := x.2.draw 64
      .next (y.2.sendNotice site shard round 0 (State.noticeBody (rdLe b 1 1) 8 shard round x.1.toNat y.1.toNat))

/-! ### The answers (R234, R237, R241, R242) -/

/-- A group of a "BASE" message: its record header, its image and its momentum. -/
structure BaseGroup where
  tensor : Nat
  momDigest : List Byte
  img : List Byte
  mom : List Byte
  deriving DecidableEq, Repr

/-- The groups of a "BASE" message from offset `o` on. -/
def baseGroups (m : List Byte) : Nat → Nat → List BaseGroup
  | 0, _ => []
  | n + 1, o =>
    let h := slice m o 64
    let a := min (rdLe h 8 8) m.length
    let b := min (rdLe h 16 8) m.length
    { tensor := rdLe h 0 4, momDigest := slice h 32 16, img := slice m (o + 64) a, mom := slice m (o + 64 + a) b } ::
      baseGroups m n (o + 64 + a + b)

/-- Are the digests of a "BASE" message right, and its tensors those of the plan? -/
def baseOk (s : State) (shard : Nat) (gs : List BaseGroup) : Bool :=
  let ts := s.planTensors shard
  gs.length == ts.length && (ts.zip gs).all (fun q =>
    let g := q.2
    g.tensor == q.1.tensor && rdLe g.img 0 4 == 0x44524853 && shValid g.img && g.img.length == imgSize g.img &&
    foldDigest s (g.img.drop 64) == slice g.img 0x30 16 && padTo 16 (foldDigest s g.mom) == g.momDigest)

/-- Copy one group into the own shard: payload, momentum, ROUND and DIGEST, with DIGEST_VALID set and VERSION plus 1. A keeper
without a header there takes the reply's. -/
def installGroup (s : State) (t : Config.PlanTensor) (round : Nat) (g : BaseGroup) : State :=
  let own := s.shard t.hdr
  let h := if rdLe own 0 4 = 0x44524853 && shBytes own == shBytes g.img then own else slice g.img 0 64
  let v := (rdLe own 0x20 8 + 1) % 2 ^ 64
  let h1 := patch (patch (patch (patch h 6 (toLe 1 (shFlags h ||| 1))) 0x14 (toLe 4 round)) 0x20 (toLe 8 v)) 0x30 (slice g.img 0x30 16)
  (s.planWrite t.hdr (h1 ++ g.img.drop 64)).planWrite t.mom g.mom

/-- Install a fetched base: the log first where a shard is SLOW (R130), then each tensor, whose θ rebases (R235). The shard of a late
joiner takes its initial values and joins in the round after the base (R242). -/
def installBase (s : State) (f : Fetch) (m : List Byte) (gs : List BaseGroup) : State :=
  let round := rdLe m 0xC 4
  let ts := s.planTensors f.shard
  let late := !s.hasBase f.shard
  let s0 := if ts.any (fun t => decide (slowBase ≤ t.hdr)) then s.applyLog else s
  let s1 := (ts.zip gs).foldl (fun a q => (installGroup a q.1 round q.2).rebase q.1 (a.baseVals q.1) none) s0
  let s2 := if f.drop || late then s1.dropDelta f.shard else s1
  let s3 := if late then (s2.warmInit f.shard).outerMod (fun o => { o with late := f.shard :: o.late.filter (· ≠ f.shard) }) else s2
  (s3.setSeals f.shard ((s3.sealsOf f.shard).filter (fun q => decide (round < q.1)))).showBase

/-- BASE_DATA (R234, R241): the answer to the outstanding request, by its MAGIC. -/
def execBaseData (site : Nat) (s : State) : Host.Outcome State Fault Refusal :=
  match s.inboxTake site 4 with
  | none => .next s
  | some (m, s1) =>
    match s1.outer.fetch with
    | none => .next s1
    | some f =>
      if f.asked ≠ site || dhShard m.hdr != f.shard then .next s1
      else
        let b := s1.inMsgBytes m
        let done := s1.nextWanted
        let magic := rdLe b 0 4
        if f.req = 1 && magic == magicBase && rdLe b 8 4 == f.shard then
          let gs := baseGroups b (rdLe b 6 2) 64
          if baseOk s1 f.shard gs then .next ((installBase done f b gs).seekAll) else .next (s1.sendReq f)
        else if f.req = 2 && magic == magicCtrb then
          match s1.manifestOf f.shard f.round with
          | none => .next done
          | some p =>
            let good := (mnContribs p.bytes).any (fun e => rdLe e 0 1 == f.origin && slice e 32 16 == foldDigest s1 b)
            .next (if good then (done.keepManifest { p with contribs := (f.origin, b) :: p.contribs }).seekAll else s1.sendReq f)
        else if f.req = 3 && magic == magicMnft then
          .next (if s1.manifestOk b && mnShard b == f.shard then (done.takeManifest b).seekAll else done.bump 0x7500 4)
        else .next s1

/-- REJECT_NOTICE (R236): the seal is resolved; NONFINITE and NORM end the own delta, STALE and GONE fetch the base. -/
def execRejectNotice (site : Nat) (s : State) : Host.Outcome State Fault Refusal :=
  match s.inboxTake site 5 with
  | none => .next s
  | some (m, s1) =>
    let b := m.bytes
    let shard := rdLe b 4 4
    let reason := rdLe b 1 1
    let s2 := s1.bump 0x7300 6
    if reason = 8 then
      let s3 := match s2.outer.fetch with
        | some f => if f.asked = site && f.shard == shard then s2.nextWanted else s2
        | none => s2
      .next (s3.fetchBase shard false false)
    else if rdLe b 0 1 ≠ s2.ownSite then .next s2
    else
      let s3 := s2.setSeals shard ((s2.sealsOf shard).filter (fun q => q.1 != rdLe b 8 4))
      if reason = 4 || reason = 5 then .next ((s3.dropDelta shard).bump 0x7300 5)
      else if reason = 3 then .next ((s3.bump 0x7300 5).fetchBase shard false true)
      else .next s3

/-- FETCH_RETRY (R226): the outstanding request of this REQ is sent again. -/
def execFetchRetry (req : Nat) (s : State) : Host.Outcome State Fault Refusal :=
  match s.outer.fetch with
  | none => .next s
  | some f => .next (if f.req = req then s.sendReq f else s)

/-! ### Majority and anchor (R238 to R240) -/

namespace State

/-- The reach set of the own gateway. -/
def reachSet (s : State) : Nat :=
  2 ^ s.ownSite + ((s.otherSites.filter (fun i => (s.fpeer i).st == 2)).map (2 ^ ·)).sum

/-- The reach set of a site: the own one, or that of its latest VIEW within three periods. -/
def reachOf (s : State) (i : Nat) : Nat :=
  if i = s.ownSite then s.reachSet
  else match fget none s.outer.views i with
    | some v => if s.time.now ≤ v.now + 3000000 * s.odGet 0x7600 5 then v.reach else 0
    | none => 0

/-- Do two sites list each other? -/
def linked (s : State) (a b : Nat) : Bool := Nat.testBit (s.reachOf a) b && Nat.testBit (s.reachOf b) a

/-- The sets of sites, each two of which list each other, that extend a set by some of the candidates, those with the lower site at
the first difference first. -/
def cliques (s : State) : List Nat → List Nat → List (List Nat)
  | [], have_ => [have_]
  | c :: cs, have_ =>
    if have_.all (fun h => s.linked c h) then cliques s cs (c :: have_) ++ cliques s cs have_ else cliques s cs have_

/-- Send a COP request without a session to a member over VC7 (R173). -/
def sendMgmt (s : State) (dst op : Nat) (body : List Byte) : State :=
  let f := copFrame op 0 0 0 0 body []
  s.nearSend { vc := 7, cls := 0, bytes := pktHeader dst s.smn 9 0 0 (s.odGet 0x2010 1) f.length 0 0 0 [] ++ f }

/-- Write a dictionary entry of a member over VC7: one WRITE, or a BLOB transfer where the value exceeds an item (R238, R254, R279). -/
def sendOdWrite (s : State) (dst index sub : Nat) (bytes : List Byte) : State :=
  let typ := match odRow index sub with
    | some r => r.typ
    | none => 0
  if bytes.length ≤ 1024 then s.sendMgmt dst 0x11 (copItem index sub typ 0 bytes)
  else
    let s1 := s.sendMgmt dst 0x18 (toLe 2 index ++ toLe 1 sub ++ [1] ++ toLe 4 bytes.length)
    let s2 := (List.range (ceilDiv bytes.length 3072)).foldl (fun a i =>
      let d := (bytes.drop (3072 * i)).take 3072
      a.sendMgmt dst 0x19 (toLe 4 (3072 * i) ++ toLe 2 d.length ++ zeros 2 ++ d)) s1
    s2.sendMgmt dst 0x1A (toLe 4 (crc32c bytes))

/-- The gateway publishes the group and the majority state to the members of its site (R238), as writes over VC7 (DESIGN CHOICE,
log 44: the rule names no carrier). -/
def publishGroup (s : State) : State :=
  (s.siteMembers.filter (· ≠ s.smn)).foldl (fun a d =>
    (a.sendOdWrite d 0x7600 6 (toLe 8 (s.odGet 0x7600 6))).sendOdWrite d 0x7600 7 (toLe 1 (s.odGet 0x7600 7))) s

/-- The group and the majority state anew (R238), published. Where two largest sets have the same sum, the one with the lower site
at the first difference is taken (R7). -/
def regroup (s : State) : State :=
  let all := s.cliques s.otherSites [s.ownSite]
  let size := (all.map List.length).foldl max 0
  let big := all.filter (fun c => c.length == size)
  let least := (big.map List.sum).foldl min ((big.headD []).sum)
  let g := ((big.filter (fun c => c.sum == least)).head?).getD []
  ((s.odSet 0x7600 6 ((g.map (2 ^ ·)).sum)).odSet 0x7600 7 (if s.siteCount < 2 * g.length then 1 else 0)).publishGroup

/-- Highest ROUND among the kept shards. -/
def maxRound (s : State) : Nat := (s.keptShards.map (fun k => s.shardRound k.1)).foldl max 0

/-- An anchor message (Table 9.9). -/
def anchorMsg (s : State) (typ term anchor maxr : Nat) : List Byte :=
  toLe 4 magicAnch ++ toLe 1 typ ++ toLe 1 s.ownSite ++ toLe 2 term ++ toLe 1 anchor ++ zeros 7 ++ toLe 8 s.reachSet ++
  toLe 4 maxr ++ zeros 4 ++ toLe 8 (ftNat s.time.ft) ++ zeros 24

/-- Send an anchor message to a site, or to every peer. -/
def sendAnchor (s : State) (dest typ term anchor maxr : Nat) : State :=
  s.handOver dest (dataHeader 2 s.smn 0xFFFFFFFF 0 0 s.time.ft 64) (s.anchorMsg typ term anchor maxr)

/-- VIEW to every peer. -/
def sendView (s : State) : State := s.sendAnchor 0xFF 1 (s.odGet 0x7600 2) (s.odGet 0x7600 1) 0

/-- Take the first anchor message of a site, if it is of a type. -/
def takeAnchor (s : State) (site typ : Nat) : Option (List Byte × State) :=
  match s.outer.anchorMsgs.find? (fun q => q.1 == site) with
  | none => none
  | some q =>
    let s1 := s.outerMod (fun o => { o with anchorMsgs := o.anchorMsgs.eraseP (fun x => x.1 == site) })
    if rdLe q.2 0 4 ≠ magicAnch || rdLe q.2 5 1 != site || rdLe q.2 4 1 == 0 || decide (3 < rdLe q.2 4 1) then some ([], s1)
    else if rdLe q.2 4 1 = typ then some (q.2, s1)
    else none

/-- The candidate (R240): the first site of the group that follows the anchor in the fallback order. -/
def candidate (s : State) : Option Nat :=
  let l := s.fallback
  let i := (l.findIdx? (· == s.odGet 0x7600 1)).getD 0
  ((l.drop (i + 1)) ++ l.take (i + 1)).find? (fun x => s.inGroup x && x != s.odGet 0x7600 1)

/-- Is the anchor of the adopted term absent from the own reach set? -/
def anchorAbsent (s : State) : Bool := !Nat.testBit s.reachSet (s.odGet 0x7600 1)

/-- May the own site endorse a claim (R240)? -/
def mayEndorse (s : State) (term claimant : Nat) : Bool :=
  s.odGet 0x7600 7 == 1 && s.anchorAbsent && s.candidate == some claimant &&
  !(s.outer.endorsed.any (fun e => e.1 == term && e.2 != claimant))

/-- Endorse a claimant of a term. -/
def endorse (s : State) (term claimant : Nat) : State :=
  s.outerMod (fun o => { o with endorsed := (term, claimant) :: o.endorsed.filter (· ≠ (term, claimant)) })

/-- A claimant with endorsements from more than half of the roster adopts the term (R240). It catches up from the endorser with the
highest MAX_ROUND, the lowest site among equals (R7). -/
def settleClaim (s : State) : State :=
  match s.outer.claim with
  | none => s
  | some c =>
    if s.siteCount < 2 * c.ends.length then
      let top := (c.ends.map (·.2)).foldl max 0
      let who := (((c.ends.filter (fun e => e.2 == top && e.1 != s.ownSite)).map (·.1)).min?).getD s.ownSite
      let behind := s.keptShards.any (fun k => decide (s.shardRound k.1 < top))
      let s1 := s.adoptTerm c.term s.ownSite
      let s2 := s1.outerMod (fun o => { o with claim := none, catchUp := if behind then some (top, who) else none })
      (s2.seekAll).sendView
    else s

end State

/-- VIEW_TIMER (R238). -/
def execViewTimer (s : State) : Host.Outcome State Fault Refusal :=
  .next (if s.isGateway && s.running && decide (s.siteCount ≠ 0) then (s.regroup).sendView else s)

/-- VIEW (R238, R240). -/
def execView (site : Nat) (s : State) : Host.Outcome State Fault Refusal :=
  match s.takeAnchor site 1 with
  | none => .next s
  | some (b, s1) =>
    if b.isEmpty then .next s1
    else
      let v : ViewRec := { reach := rdLe b 0x10 8, ft := sInt 64 (rdLe b 0x20 8), now := s1.time.now }
      let s2 := s1.outerMod (fun o => { o with views := fput none o.views site (some v) })
      .next ((s2.adoptTerm (rdLe b 6 2) (rdLe b 8 1)).regroup)

/-- CLAIM (R240). -/
def execClaim (site : Nat) (s : State) : Host.Outcome State Fault Refusal :=
  match s.takeAnchor site 2 with
  | none => .next s
  | some (b, s1) =>
    let term := rdLe b 6 2
    if !b.isEmpty && s1.mayEndorse term site then
      .next ((s1.endorse term site).sendAnchor site 3 term site s1.maxRound)
    else .next s1

/-- ENDORSE (R240). -/
def execEndorse (site : Nat) (s : State) : Host.Outcome State Fault Refusal :=
  match s.takeAnchor site 3 with
  | none => .next s
  | some (b, s1) =>
    match s1.outer.claim with
    | none => .next s1
    | some c =>
      if !b.isEmpty && rdLe b 6 2 == c.term && rdLe b 8 1 == s1.ownSite then
        let ends := (site, rdLe b 0x18 4) :: c.ends.filter (fun e => e.1 != site)
        .next (s1.outerMod (fun o => { o with claim := some { c with ends := ends } })).settleClaim
      else .next s1

/-- ANCHOR_TIMEOUT (R240): the candidate claims the next term. -/
def execAnchorTimeout (s : State) : Host.Outcome State Fault Refusal :=
  if s.isGateway && s.running && s.odGet 0x7600 7 == 1 && s.anchorAbsent && s.candidate == some s.ownSite &&
      s.outer.claim.isNone then
    let term := max (s.odGet 0x7600 2) s.outer.lastClaim + 1
    let own := s.mayEndorse term s.ownSite
    let s1 := if own then s.endorse term s.ownSite else s
    let s2 := s1.outerMod (fun o => { o with
      lastClaim := term, claim := some { term := term, ends := if own then [(s.ownSite, s.maxRound)] else [] } })
    let group := s.otherSites.filter s.inGroup
    .next (group.foldl (fun a i => a.sendAnchor i 2 term s.ownSite 0) s2).settleClaim
  else .next s

/-- CLAIM_TIMEOUT (R240): a claim not decided in time fails. -/
def execClaimTimeout (s : State) : Host.Outcome State Fault Refusal := .next (s.outerMod (fun o => { o with claim := none }))

end Sys2Proof.Machine
end

