-- ==== Sys2Proof/Machine/Job.lean ====
section
/-! DEFINITION. Job mapping (10): the layout checks (R245), what the layout sets (R246), re-shard and checkpoint beats (R249,
R257), and the stop and restart of a site job (R253 to R256). -/

namespace Sys2Proof.Machine

/-! ### The layout descriptor (R245) -/

/-- Members of a descriptor that take part: neither spare nor out of service. -/
def takeParts (ms : List LModule) : List LModule := ms.filter (fun m => LModule.active m)

/-- Are the stage entries numbered, contiguous, and named by every member (reason 4)? -/
def stagesOk (b : List Byte) (ms : List LModule) : Bool :=
  let n := rdLe b 0xA 1
  let at_ := 64 + 16 * rdLe b 5 1
  let es := (List.range n).map (fun i => slice b (at_ + 16 * i) 16)
  let r := ((List.range n).zip es).foldl (fun (a : Bool × Nat) q =>
    (a.1 && rdLe q.2 0 1 == q.1 && rdLe q.2 2 2 == a.2 && decide (1 ≤ rdLe q.2 4 2), a.2 + rdLe q.2 4 2)) (true, 0)
  r.1 && r.2 == rdLe b 8 2 && (takeParts ms).all (fun m => decide (m.stage < n))

/-- Are the reserved bytes of a descriptor zero? -/
def layoutRsvOk (b : List Byte) (ms : List LModule) : Bool :=
  (slice b 0x1D 35).all (· == 0) &&
  ((List.range ms.length).zip ms).all (fun q =>
    q.2.rsv == 0 && decide (q.2.roles < 32) &&
    (LModule.active q.2 || (slice b (64 + 16 * q.1 + 2) 14).all (· == 0))) &&
  (List.range (rdLe b 0xA 1)).all (fun i => (slice b (64 + 16 * ms.length + 16 * i + 8) 8).all (· == 0))

/-- Do two keeper ranges overlap? -/
def keeperOverlap : List LModule → Bool
  | [] => false
  | m :: l => l.any (fun x => overlaps m.keepFirst m.keepCount x.keepFirst x.keepCount) || keeperOverlap l

namespace State

/-- The reason of OD 0x2010.05 with which R245 refuses the layout descriptor in force; none if it is right. -/
def layoutReason (s : State) : Option Nat :=
  let b := s.layoutBytes
  let ms := s.lModules
  let act := takeParts ms
  let own := ms.filter (fun m => m.smn == s.smn)
  let tp := rdLe b 0xB 1
  let dp := rdLe b 0xC 1
  let ep := rdLe b 0xD 1
  let st := rdLe b 0xA 1
  let keeper := own.any (fun m => Nat.testBit m.roles 0)
  if rdLe b 0 4 ≠ 0x544F594C || rdLe b 4 1 != 1 || !layoutRsvOk b ms || rdLe b 6 2 != s.odGet 0x2010 1 ||
      decide (b.length < 64 + 16 * ms.length + 16 * st) then some 1
  else if own.length ≠ 1 then some 2
  else if tp * st * dp ≠ act.length || ep = 0 || tp * dp % ep != 0 then some 3
  else if !stagesOk b ms then some 4
  else if (ms.filter (fun m => Nat.testBit m.roles 1)).length ≠ 1 ||
      decide (1 < (ms.filter (fun m => Nat.testBit m.roles 2)).length) then some 5
  else if keeperOverlap (act.filter (fun m => Nat.testBit m.roles 0)) || keeper != !(s.blobGet 0x7500 1).isEmpty then some 6
  else none

/-- Does the own entry hold a gateway role? -/
def gatewayRole (s : State) : Bool := Nat.testBit s.ownRoles 1 || Nat.testBit s.ownRoles 2

/-- The far ports' settings from the layout (R246): in a gateway role both are in service and train, otherwise disabled by
role. A change of SERVICE publishes a table (Table 1.15). -/
def farFromLayout (s : State) : State :=
  let r := [0, 1].foldl (fun (a : State × List (Nat × Nat)) k =>
    let v := if s.gatewayRole then (if s.farSt k = 4 then 1 else s.farSt k) else 4
    let b := a.1.odSet 0x6000 (k + 1) v
    (b, if b.portService 2 k = s.portService 2 k then a.2 else a.2 ++ [(4, 0x200 + k)])) (s, [])
  r.1.publish r.2.length r.2

/-- What a write of the layout descriptor sets (R246). A module that is not the active gateway any more has no session (R210). -/
def layoutWritten (s : State) : State :=
  let s1 := s.farFromLayout.roleFromLayout
  if s1.isGateway then s1 else s1.dropSessions

end State

/-! ### Beats -/

/-- RESHARD_BEGIN (R249): an ignored one posts nothing. Epochs compare modulo 2^16 (R243). -/
def reshardBegin (s : State) (arg : Nat) : State × Bool :=
  let cur := s.odGet 0x2010 1
  if arg % 65536 = (cur + 1) % 65536 && s.odGet 0x2010 3 == cur then (s.odSet 0x2010 3 (arg % 65536), true)
  else (s.countNotify 0x2010 6, false)

/-- RESHARD_BEGIN. -/
def execReshardBegin (s : State) : Host.Outcome State Fault Refusal := .next (s.runBeat 6 (fun s e => reshardBegin s e.arg))

/-- The bytes that a checkpoint writes of one tensor: coordinate record, momentum header, momentum. -/
def ckptBytes (s : State) (t : Config.PlanTensor) : List Byte :=
  let h := s.shard t.hdr
  let mom := s.momOf t
  h ++ coordTail (toLe 4 0 ++ toLe 4 t.rows ++ toLe 4 0 ++ toLe 4 t.cols ++ toLe 4 t.rows ++ toLe 4 t.cols) s.time.ft ++
  s.readBytes (t.hdr + 64) (shBytes h) ++
  toLe 4 t.tensor ++ zeros 4 ++ toLe 8 mom.length ++ padTo 16 (foldDigest s mom) ++ zeros 32 ++ mom

/-- What the exports of a checkpoint read of the kept tensors. -/
def ckptReads (s : State) : List (Nat × Nat) :=
  s.keptShards.flatMap (fun k => (s.planTensors k.1).flatMap (fun t => [(t.hdr, 64 + shBytes (s.shard t.hdr)), (t.mom, s.momLen t)]))

/-- One export of a checkpoint (R133, R257): its bytes at their place, counted; a tensor with DIGEST_VALID clear is refused under R120,
with an open reason. -/
def exportOne (at_ : Nat) (acc : State × Bool) (q : Nat × Config.PlanTensor × List Byte) : State × Bool :=
  if shValid (acc.1.shard q.2.1.hdr) then ((acc.1.writeBytes (at_ + q.1) q.2.2).bump 0x3600 1, acc.2)
  else
    let o := acc.1.draw 3
    ((o.2.odSet 0x3400 0xA (7 * 2 ^ 24 + o.1.toNat + 1)).countNotify 0x3400 7, false)

/-- Where consecutive pieces start. -/
def offsetsOf : Nat → List (List Byte) → List Nat
  | _, [] => []
  | o, b :: bs => o :: offsetsOf (o + b.length) bs

/-- The records of a checkpoint are written (R257), with the ROUND recorded before them; each tensor's bytes start on a 64-byte
boundary. The exports then run until a tick or an APPLY beat finds them complete (R258). -/
def checkpointWrite (s : State) : State :=
  if s.keptShards.isEmpty then s
  else
    let ts := s.keptShards.flatMap (fun k => s.planTensors k.1)
    let pieces := ts.map (fun t =>
      let b := ckptBytes s t
      padTo (roundUp b.length 64) b)
    let size := (pieces.map List.length).sum
    let base := s.odGet 0x2030 1
    if s.odGet 0x2030 2 < size || !s.inSlow base size then s.countNotify 0x2030 6
    else
      let s1 := s.odSet 0x2030 3 ((s.keptShards.map (fun k => s.shardRound k.1)).foldl max 0)
      let r := ((offsetsOf 0 pieces).zip (ts.zip pieces)).foldl (exportOne base) (s1, true)
      { r.1 with exporting := r.2 }

/-- CHECKPOINT_MARK on a keeper (R257): earlier exports complete, a log that holds entries is applied first (R130), and an uncorrectable
error in what is read is fatal (R136). -/
def checkpoint (s : State) : State :=
  let s1 := s.exportsEnd false
  let s2 := if (ckptReads s1).any (fun q => decide (slowBase ≤ q.1)) then s1.applyLog else s1
  if s2.modState = stFaulted then s2
  else match s2.wrongLine (ckptReads s2) with
    | some a => s2.eccFault a
    | none => checkpointWrite s2

/-- CHECKPOINT_MARK. -/
def execCheckpointMark (s : State) : Host.Outcome State Fault Refusal := .next (s.runBeat 5 (fun s _ => (checkpoint s, true)))

/-! ### Stop and restart -/

/-- STOP_DRAIN (R253): what is still started is abandoned. -/
def execStopDrain (s : State) : Host.Outcome State Fault Refusal := .next (if s.siteStopping then s.enterQuiet else s)

/-- The bytes of a module entry. -/
def lEntryBytes (m : LModule) : List Byte :=
  toLe 1 m.smn ++ toLe 1 m.roles ++ toLe 1 m.stage ++ toLe 1 m.tpRank ++ toLe 1 m.dpRank ++ toLe 1 m.epRank ++ toLe 2 m.rsv ++
  toLe 4 m.keepFirst ++ toLe 4 m.keepCount

/-- One failed module gives its place to a spare (R254): coordinates, roles and keeper range. A failed active gateway makes the
standby active and the spare the standby (R6). -/
def substituteModule (ms : List LModule) (failed spare : Nat) : List LModule :=
  match ms.find? (fun m => m.smn == failed) with
  | none => ms
  | some f =>
    let gw := Nat.testBit f.roles 1
    let sb := ms.any (fun m => Nat.testBit m.roles 2 && m.smn != failed)
    let roles := if gw && sb then f.roles - 2 ||| 4 else f.roles
    ms.map (fun m =>
      if m.smn = failed then
        { smn := failed, roles := 16, stage := 0, tpRank := 0, dpRank := 0, epRank := 0, rsv := 0, keepFirst := 0, keepCount := 0 }
      else if m.smn = spare then { f with smn := spare, roles := roles }
      else if gw && Nat.testBit m.roles 2 then { m with roles := m.roles - 4 ||| 2 }
      else m)

/-- Replace a member in every group of OD 0x4100.01. -/
def groupsReplace (b : List Byte) (failed spare : Nat) : List Byte :=
  (chunksOf 32 b).flatMap (fun g =>
    let w := rdLe g 0 32
    if Nat.testBit w failed then toLe 32 ((w - 2 ^ failed) ||| 2 ^ spare) else g)

/-- R255 on this module, as it leaves a restart: the log is applied (R130), kept tensors are checked by their digests, what fails is
fetched, and on the substitute every tensor; E and Q̃ take their initial values and seals are discarded; the restart is counted. -/
def restoreKept (s : State) (substitute : Bool) : State :=
  let s1 := s.applyLog.keptShards.foldl (fun a k =>
    let good := !substitute && (a.planTensors k.1).all (fun t =>
      let h := a.shard t.hdr
      shValid h && foldDigest a (a.readBytes (t.hdr + 64) (shBytes h)) == slice h 0x30 16)
    let b := (a.dropDelta k.1).warmInit k.1
    if good then b else b.fetchBase k.1 false true) s.applyLog
  (s1.bump 0x2040 2).seekAll

/-- A restart that waits for its restore gets it (R254, step 5). -/
def State.restore (s : State) : State :=
  match s.restart with
  | none => s
  | some sub => restoreKept { s with restart := none, roleChange := false } sub

/-- A new layout makes this module the substitute where it was a spare and is none any more. -/
def becomesPart (old s : State) : Bool := Nat.testBit old.ownRoles 3 && !Nat.testBit s.ownRoles 3

/-- The new layout is in force on this module: its restore waits for the load of the program (R254, steps 4 and 5). -/
def restartWaits (old s : State) : State := { s with restart := some (becomesPart old s || old.restart == some true) }

/-- Exchange the active and the standby gateway role in the descriptor's entries (R267). -/
def exchangeGateway (ms : List LModule) : List LModule :=
  ms.map (fun m => { m with roles := m.roles - m.roles % 8 / 2 * 2 + 2 * (m.roles / 4 % 2) + 4 * (m.roles / 2 % 2) })

/-- The restart leader gives the members a descriptor with new entries and the epoch raised by 1, and the groups. -/
def giveLayout (s : State) (ms' : List LModule) (groups : List Byte) : State :=
  let epoch := (s.odGet 0x2010 1 + 1) % 65536
  let layout := patch (patch s.layoutBytes 6 (toLe 2 epoch)) 64 (ms'.flatMap lEntryBytes)
  let s1 := (((s.blobSet 0x2010 2 layout).odSetShown 0x2010 1 epoch).odSet 0x2010 3 epoch).blobSet 0x4100 1 groups
  let others := ((takeParts ms').filter (fun m => m.smn != s.smn)).map (·.smn)
  others.foldl (fun a d =>
    ((a.sendOdWrite d 0x2010 2 layout).sendOdWrite d 0x2010 1 (toLe 2 epoch)).sendOdWrite d 0x4100 1 groups) s1.layoutWritten

/-- SITE_RESTART (R254 to R256, R267), steps 1 to 3 at the restart leader: `failed` are the members that have failed, `spares` the
spare modules that answer COP; no failed member: the restart after a TAKEOVER. Without a spare the site stays in QUIET. The restore of
step 5 comes with ARM, once the companion has loaded the program. -/
def execSiteRestart (failed spares : List Nat) (s : State) : Host.Outcome State Fault Refusal :=
  let ms := s.lModules
  let alive := (takeParts ms).filter (fun m => !failed.contains m.smn)
  let leader := (alive.map (·.smn)).foldl min 256
  let lost := (takeParts ms).filter (fun m => failed.contains m.smn)
  let free := ms.filter (fun m => Nat.testBit m.roles 3 && spares.contains m.smn)
  if s.modState ≠ stQuiet || leader != s.smn || !s.inSiteJob then .next s
  else if failed.isEmpty then
    if s.roleChange && ms.any (fun m => Nat.testBit m.roles 2) then
      .next { restartWaits s (giveLayout s (exchangeGateway ms) (s.blobGet 0x4100 1)) with roleChange := false }
    else .next s
  else if lost.isEmpty then .next s
  else if free.length < lost.length then .next (s.countNotify 0x2040 3)
  else
    let pairs := lost.zip free
    .next (restartWaits s (giveLayout s (pairs.foldl (fun a q => substituteModule a q.1.smn q.2.smn) ms)
      (pairs.foldl (fun a q => groupsReplace a q.1.smn q.2.smn) (s.blobGet 0x4100 1))))

end Sys2Proof.Machine
end

