-- ==== Sys2Proof/Machine/Reset.lean ====
section
/-! DEFINITION. Reset sources and classes, what each reset clears, the release of Table 12.7, recovery, pins, and the end of a
dump (12, 13.1, R327, R328). -/

namespace Sys2Proof.Machine

namespace State

/-! ### What a reset clears (R292, Table 12.6) -/

/-- The spare map of a delivered T1: the slots other than the spare's, in ascending order (R336). -/
def deliveredMap (spare : Nat) : Nat :=
  (List.range 8).foldl (fun m k => m + (if k < spare then k else k + 1) * 2 ^ (4 * k)) 0

/-- Does the map or do the fuses retire a whole T1 (R298)? -/
def t1Whole (off word : Nat) : Bool :=
  Nat.testBit word 15 || decide (1 < ((List.range 9).filter (fun k => Nat.testBit (word % 512 ||| off) k)).length)

/-- A T1 as the fuses and a word of the retirement map give it (R298, R14): one retired or OFF slot is made good by the spare;
of a T1 retired whole no slot is. -/
def bootT1 (off spare word : Nat) : T1 :=
  let retired := word % 512
  let bad := retired ||| off
  let m := deliveredMap spare
  let base : T1 := { spareMap := m, spareSlot := spare, retired := retired, off := off }
  match (List.range 9).find? (fun k => Nat.testBit bad k) with
  | none => base
  | some b =>
    if t1Whole off word then (if Nat.testBit bad spare then { base with spareState := 2 } else base)
    else if b = spare then { base with spareState := 2 }
    else
      let k := if b < spare then b else b - 1
      { base with spareMap := m - b * 2 ^ (4 * k) + spare * 2 ^ (4 * k), spareState := 1 }

/-- Is a module address in HBM below the training area of its stack, and not in one of the stacks of a bit map? -/
def hbmKept (gone a : Nat) : Bool :=
  decide (a < barrelBase) && decide (a % hbmStride < hbmUse) && !Nat.testBit gone (a / hbmStride)

/-- A reset of a class is asserted and performed: the state of Table 12.6, RESET_CAUSE, RESET_FT and RESET_DETAIL (R290), and
the count of R268. `needPower` makes the release wait for the input, as it does while an earlier reset waits for it; while RST_N is
low the module is held in any case. -/
def doReset (s : State) (cause detail : Nat) (cls : ResetCls) (needPower : Bool) : State :=
  let po := cls == .powerOn
  let waits := needPower || s.plat.needPower
  let hbm := cls == .warm || cls == .thermal
  let s1 : State := {
    pending := s.pending, free := s.free, out := s.out,
    od := if po then [] else s.od.filter (fun c => odKeptWarm c.1),
    blob := if po then [] else s.blob.filter (fun c => odKeptWarm c.1),
    mem := if hbm then s.mem.filter (fun c => hbmKept s.test.bist c.1) else [],
    slow := s.slow,
    wrong := if hbm then s.wrong.filter (fun c => hbmKept s.test.bist (64 * c.1)) else [],
    t1s := s.t1s.foldl (fun m c => fput {} m c.1 (bootT1 c.2.off c.2.spareSlot 0)) [],
    time := { now := if po then 0 else s.time.now },
    store := { s.store with verified := none },
    plat := { step := if waits || s.plat.pinLow then 0 else 1, cls := cls, needPower := waits, pinLow := s.plat.pinLow,
              pinHolds := s.plat.pinLow, tripAt := s.time.now, sensors := s.plat.sensors, rails := s.plat.rails,
              ref10m := s.plat.ref10m, dumpNo := if po then 0 else s.plat.dumpNo },
    test := if po then {} else { ir := s.test.ir, byp := s.test.byp, cells := s.test.cells } }
  let s2 := if po then s1
    else ((s1.odSet 0x9001 1 cause).odSet 0x9001 2 (ftNat s.time.ft)).odSet 0x9001 3 detail
  let s3 := if cls = .cold then s2.odSet 0x9500 1 0 else s2
  let s4 := if cls = .warm && (cause == 6 || cause == 8) then s3.bump 0x1010 6 else s3
  if waits || (s.plat.pinLow && (cls == .cold || po)) then s4.odSet 0x1010 1 stCold else s4

/-- Is an earlier reset still in progress, before QUIET (R291)? -/
def resetting (s : State) : Bool := s.modState == stCold || s.modState == stBoot

/-- The rank of a cause among those that assert in the same 1 µs (R291). -/
def causeRank (cause : Nat) : Nat := [1, 2, 7, 3, 4, 6, 8, 5].findIdx (· == cause)

/-- Has a cause of higher rank asserted in this 1 µs (R291)? -/
def outranked (s : State) (cause : Nat) : Bool :=
  s.resetting && decide (s.plat.step ≤ 1) && (s.plat.cls != .powerOn || s.plat.needPower) &&
  decide (s.time.now < s.plat.tripAt + 1000) && decide (causeRank (s.odGet 0x9001 1) < causeRank cause)

/-- Perform a reset; one that asserts during DUMPING aborts the dump (R305). -/
def performReset (s : State) (cause detail : Nat) (cls : ResetCls) (needPower : Bool) : State :=
  (if s.modState = stDumping then s.odSet 0x9500 1 3 else s).doReset cause detail cls needPower

/-- A reset source asserts (R291): a warm one is absorbed by a power-on, cold or thermal reset in progress; every other one
replaces what is in progress, but for one that another outranks. The state of R268 is left by power-on, RST_N and WARM_RESET only. -/
def assertReset (s : State) (cause detail : Nat) (cls : ResetCls) (needPower : Bool) : State :=
  if (s.resetting && cls == .warm && s.plat.cls != .warm) || s.outranked cause ||
      (s.plat.dumpStopped && cause != 1 && cause != 3 && cause != 5) then s
  else s.performReset cause detail cls needPower

/-- RST_N holds the module in reset, the Crown included (R290), whatever reset is in progress. -/
def holdReset (s : State) : State :=
  let t : State := { s with crown := {}, plat := { s.plat with step := 0, pinHolds := true, recovery := false, released := [], image := [] } }
  if s.plat.cls = .warm || s.plat.cls == .thermal then t else t.odSet 0x1010 1 stCold

/-! ### Pins (R294, R328) -/

/-- What a pin of a signal group does: a fuse state, or its function. -/
inductive PinState where
  | fuse (code : Nat)
  | low
  | high
  | highZ
  | cells
  | function
  deriving DecidableEq, Repr

/-- ALERT_N is driven low (R328). -/
def alert (s : State) : Bool :=
  s.odGet 0x8010 5 == 1 || decide (4 ≤ s.odGet 0x8200 3) || s.modState == stFaulted || s.modState == stDumping || s.plat.recovery

/-- PWRGD_OUT is driven high (R328): from the end of BOOT to the next assertion of a reset. -/
def pwrgd (s : State) : Bool := decide (stQuiet ≤ s.modState) && s.plat.step == 0 && s.plat.released.contains 9

/-- Has the boundary register a cell for a group (14, 14.8)? -/
def hasCell (g : Nat) : Bool := (decide (6 ≤ g) && decide (g ≤ 11)) || (decide (17 ≤ g) && decide (g ≤ 19))

/-- The state of the output pins of a signal group 1 to 11 (R294, R328, R333): EXTEST, CLAMP and HIGHZ override all else. A far port
without the gateway role stays in electrical idle (R5). -/
def pinState (s : State) (g : Nat) : PinState :=
  if hasCell g && (s.test.ir == .extest || s.test.ir == .clamp) then .cells
  else if hasCell g && s.test.ir == .highz then .highZ
  else if g = 8 && s.plat.recovery then .low
  else if !s.plat.released.contains g then .fuse (fuseCode g)
  else if g = 6 then .high
  else if g = 8 then (if s.alert then .low else .fuse 3)
  else if g = 9 then (if s.pwrgd then .high else .low)
  else if (g = 4 || g == 5) && !s.gatewayRole then .fuse 0
  else .function

/-! ### The release (R293, Table 12.7) -/

/-- Release signal groups. -/
def release (s : State) (gs : List Nat) : State :=
  { s with plat := { s.plat with released := s.plat.released ++ gs.filter (fun g => !s.plat.released.contains g) } }

/-- Set the step under way. -/
def atStep (s : State) (n : Nat) : State := { s with plat := { s.plat with step := n } }

/-- Step 1 completes: the boot ROM has chosen a slot and the firmware runs, or the ROM is in recovery (R308, R309); VDL trains. -/
def bootRom (s : State) : State :=
  let r := s.romChoose
  let s1 := r.1.odSet 0x1220 1 1
  if r.2 then (s1.release [1, 7]).atStep 2
  else State.release { s1 with plat := { s1.plat with recovery := true } } [1]

/-- The FT counter's reference at BOOT (R324): without REF10M the loss is counted and announced. -/
def bootClock (s : State) : State :=
  if s.plat.ref10m then State.odSet { s with time := { s.time with onRefclk := false } } 0xF300 1 1
  else State.countNotify { s with time := { s.time with onRefclk := true } } 0xF300 2

/-- May the HBM step of a thermal reset start (R293)? -/
def coolEnough (s : State) : Bool :=
  s.plat.cls != .thermal ||
  (decide (s.plat.tripAt + 1000000000 ≤ s.time.now) && (List.range 17).all (fun k =>
    let t := dec32 (fget 0 s.plat.sensors k).toNat
    FV.lt t (FV.ofInt 85) || FV.eqv t (FV.ofInt 85)))

/-- The trains and ports from the fuses and the retirement map (R298, R13): a train whose every T1 is retired whole is retired. -/
def bootUnits (s : State) : State :=
  let gone := (List.range 768).filter (fun t => t1Whole (s.t1 t).off (s.mapWord t))
  let s1 : State := { s with
    t1s := (List.range 768).foldl (fun m t => fput {} m t (bootT1 (s.t1 t).off (s.t1 t).spareSlot (s.mapWord t))) [],
    bootRetired := gone,
    units := [1, 2, 3, 4].foldl (fun m l => ((List.range (trainCount l)).filter (fun i =>
      (List.range (trainWidth l)).all (fun k => gone.contains (i * trainWidth l + k)))).foldl (fun m i =>
        fput {} m (unitKey l i) { st := 3 }) m) [] }
  let w := rdLe (s.blobGet 0x9400 1) 1536 2
  let f := rdLe (s.blobGet 0x9400 1) 1538 1
  let s2 := ((List.range 16).filter (fun k => Nat.testBit w k)).foldl (fun a k => a.portSvcSet 1 k 3) s1
  ([0, 1].filter (fun k => Nat.testBit f k)).foldl (fun a k => a.portSvcSet 2 k 3) s2

/-- The end of BOOT (R293, R29, R310): units, ports, pins, the first table with GENERATION 1, the running slot confirmed, QUIET. -/
def bootEnd (s : State) : State :=
  let s1 := (s.bootUnits).farFromLayout
  let s2 := { s1 with near := (List.range 16).foldl (fun m k => fput {} m k
    { fget ({} : NearPort) m k with st := if s1.portSvc 1 k = 0 && decide (s1.smn < 64) then 1 else 0 }) s1.near }
  let s3 := ((s2.release [2, 3, 4, 5, 6, 8, 9, 10, 11]).atStep 0).odSetShown 0x1101 1 1
  let s4 := { s3 with table := s3.movementTable [] ftUnset }.notify 0x1101 1
  (s4.fwConfirm).setModState stQuiet

/-- A release step completes. -/
def bootStep (s : State) : State :=
  match s.plat.step with
  | 0 => s
  | 1 => if s.plat.recovery then s else s.bootRom
  | 2 => (s.bootClock).atStep 3
  | 3 => if s.coolEnough then s.atStep 4 else s
  | 9 => s.bootEnd
  | n => s.atStep (n + 1)

/-- Is a release step under way that could be late: not recovery, and not the wait of a thermal reset before step 3? -/
def stepRuns (s : State) : Bool :=
  s.modState == stBoot && s.plat.step != 0 && !s.plat.recovery && (s.plat.step != 3 || s.coolEnough)

/-- A block misses its time (R293): code 8, with a dump if the HBM step has completed, otherwise the warm reset at once. -/
def bootLate (s : State) : State :=
  if 4 ≤ s.plat.step then (s.atStep 0).enterFaulted 8 0
  else s.doReset 8 8 .warm false

/-! ### The end of a dump (R268, R302) -/

/-- A dump is complete: the stop of R268, or the warm reset. -/
def dumpDone (s : State) : State :=
  if s.odGet 0x1010 6 = s.odGet 0x1010 5 then
    State.setModState { s with plat := { s.plat with dumpStopped := true } } stFaulted
  else
    let code := (s.faultInfo.map (·.code)).getD 8
    s.doReset (if code = 5 then 6 else 8) code .warm false

/-- The release of Table 12.7 begins. -/
def beginRelease (s : State) : State := (s.odSetShown 0x1010 1 stBoot).atStep 1

end State

/-! ### Commands -/

/-- RESET_PIN (R327): RST_N has been low for 1 µs; the reset stays asserted while it is low. -/
def execResetPin (s : State) : Host.Outcome State Fault Refusal :=
  if s.plat.pinLow then .next s
  else .next (State.holdReset (State.assertReset { s with plat := { s.plat with pinLow := true } } 3 1 .warm false))

/-- RESET_PIN_HELD (R327): RST_N has stayed low for 100 ms, and the reset becomes cold. -/
def execResetPinHeld (s : State) : Host.Outcome State Fault Refusal :=
  if s.plat.pinLow then .next (s.performReset 3 2 .cold false) else .next s

/-- RESET_PIN_RELEASE (R327, R290): the rising edge of RST_N begins the release of Table 12.7. -/
def execResetPinRelease (s : State) : Host.Outcome State Fault Refusal :=
  let s1 := { s with plat := { s.plat with pinLow := false, pinHolds := false } }
  if s.plat.pinHolds && !s.plat.needPower then .next s1.beginRelease else .next s1

/-- VDL_LINK_RESET (R290): cause 0x4. -/
def execVdlLinkReset (s : State) : Host.Outcome State Fault Refusal := .next (s.assertReset 4 0 .warm false)

/-- SAG_RESET (R285): a cold reset with detail 1, until the input is back. -/
def execSagReset (s : State) : Host.Outcome State Fault Refusal := .next (s.assertReset 2 1 .cold true)

/-- RESET_DOMAIN_LOSS (R285): the reset domain is lost, and the next release is a power-on with cause 0x1. -/
def execResetDomainLoss (s : State) : Host.Outcome State Fault Refusal := .next (s.doReset 1 0 .powerOn true)

/-- POWER_ON (R285): the input has stayed in range for 100 ms, and the release begins, unless RST_N holds the module. -/
def execPowerOn (s : State) : Host.Outcome State Fault Refusal :=
  if s.plat.needPower then
    let s1 : State := { s with plat := { s.plat with needPower := false } }
    .next (if s.plat.pinHolds then s1 else s1.beginRelease)
  else .next s

/-- THERMAL_TRIP (R289): cause 0x7, detail the sensor. -/
def execThermalTrip (sensor : Nat) (s : State) : Host.Outcome State Fault Refusal :=
  if sensor < 17 then .next (s.assertReset 7 sensor .thermal false) else .next s

/-- BOOT_STEP_COMPLETE (R293). -/
def execBootStepComplete (s : State) : Host.Outcome State Fault Refusal :=
  if s.modState = stBoot then .next s.bootStep else .next s

/-- BOOT_STEP_TIMEOUT (R293). -/
def execBootStepTimeout (s : State) : Host.Outcome State Fault Refusal :=
  if s.stepRuns then .next s.bootLate else .next s

/-- RECOVERY_IMAGE (R309): a valid image goes to slot 0, which alone is confirmed, and a warm reset with cause 0x9 follows; any
other is discarded. -/
def execRecoveryImage (s : State) : Host.Outcome State Fault Refusal :=
  if s.plat.recovery then
    let s1 := s.romTake
    if s.fwFail s1.plat.image = 0 then
      .next (((s1.slotWrite 0 s1.plat.image).ctlWrite (fun _ => { confirmed := 1 })).doReset 9 0 .warm false)
    else .next { s1 with plat := { s1.plat with image := [] } }
  else .next s

/-- TRANSFER_SETTLE (R302): what is still under way is abandoned, and the Crown begins the dump. -/
def execTransferSettle (s : State) : Host.Outcome State Fault Refusal :=
  if s.modState = stFaulted && !s.plat.dumpStopped then
    .next (State.beginDump { s with
      pinions := s.pinions.foldl (fun m c => fput {} m c.1 { c.2 with dmq0 := [], dmq1 := [] }) [],
      coll := { s.coll with outs := [], ins := [] } })
  else .next s

/-- DUMP_COMPLETE (R304, R302, R268). -/
def execDumpComplete (s : State) : Host.Outcome State Fault Refusal :=
  if s.modState = stDumping && !s.crown.down then .next (s.writeDump none).dumpDone else .next s

/-- DUMP_LIMIT (R304): the dump ends truncated, after an open number of its sections. -/
def execDumpLimit (s : State) : Host.Outcome State Fault Refusal :=
  if s.modState = stDumping && !s.crown.down then
    let n := s.draw 16
    .next (n.2.writeDump (some n.1.toNat)).dumpDone
  else .next s

end Sys2Proof.Machine
end

