-- ==== Sys2Proof/Machine/Power.lean ====
section
/-! DEFINITION. The input, the rails, the cap controller, the thermal steps and the throttle level (12, 12.1 to 12.3), and REF10M
(R324). -/

namespace Sys2Proof.Machine

/-- A number of a unit in an exact value. -/
def natV (n : Nat) : FV := FV.ofInt n

/-- The sum of some FP32 samples, exact. -/
def sumV (ws : List W32) : FV := ws.foldl (fun a w => a.add (dec32 w.toNat)) (natV 0)

/-- Is a reading at or above a bound? -/
def atLeast (t b : FV) : Bool := FV.lt b t || FV.eqv b t

/-- The rails of Table 12.2: warning and reset level in mV. -/
def railLevels (rail : Nat) : Nat × Nat :=
  match rail with
  | 1 => (715, 690)
  | 2 => (765, 740)
  | 3 => (1010, 980)
  | _ => (865, 840)

/-- The steps of Table 12.4: thermal level and lower bound above W. -/
def thermalSteps : List (Nat × Nat) := [(4, 0), (6, 2), (8, 4), (10, 6), (12, 8)]

/-- The thermal level of a hottest sensor `t` after the level `cur` (R289): the highest step that is entered, or that `t` has not
left by falling 3 °C below its bound. -/
def thermalLevel (w cur : Nat) (t : FV) : Nat :=
  (thermalSteps.filter (fun k => atLeast t (natV (w + k.2)) || (decide (k.1 ≤ cur) && FV.lt (natV (w + k.2 - 3)) t))).foldl
    (fun m k => max m k.1) 0

namespace State

/-- Does the Crown read sensors and apply limits: not while the module is held in COLD? -/
def awake (s : State) : Bool := s.modState != stCold

/-- The throttle level that applies (R288): the highest of the cap level, the thermal level, the sag request and the rail
request. -/
def throttleNow (s : State) : Nat :=
  max (max (s.odGet 0x8200 2) (s.odGet 0x8200 3))
    (max (if s.odGet 0x8010 5 = 1 then s.odGet 0x8010 2 else 0) (if s.plat.rails.any (fun r => r == 1 || r == 2) then 12 else 0))

/-- Show the applied level. -/
def setThrottle (s : State) : State := s.odSet 0x8200 1 s.throttleNow

/-! ### The cap controller (R287) -/

/-- Samples of a full window: OD 0x8100.02 in samples of 100 µs. -/
def capWindow (s : State) : Nat := 10 * s.odGet 0x8100 2

/-- Change the platform record. -/
def platMod (s : State) (f : Plat → Plat) : State := { s with plat := f s.plat }

/-- One power sample (R287). -/
def powerSample (s : State) (vin iin pin : W32) : State :=
  let ws := (pin :: s.plat.samples).take s.capWindow
  let n := natV ws.length
  let sum := sumV ws
  let cap := s.odGet 0x8100 1
  let hard := FV.lt (natV 2750) (dec32 pin.toNat)
  let above := FV.lt (n.mul (natV cap)) sum
  let under := FV.lt (sum.mul (natV 100)) ((n.mul (natV cap)).mul (natV 97))
  let low := if under then s.plat.lowRun + 1 else 0
  let cur := s.odGet 0x8200 2
  let lvl := if hard then 12 else if above then min 12 (cur + 1) else if under && decide (10 ≤ low) then cur - 1 else cur
  let high := if cur = 12 && above then s.plat.highRun + 1 else 0
  let s1 := ((s.odSet 0x8000 1 vin.toNat).odSet 0x8000 2 iin.toNat).odSet 0x8000 3 (enc32 (sum.div n))
  let s2 := (s1.odSet 0x8200 2 lvl).platMod (fun p => { p with samples := ws, lowRun := low, highRun := high })
  let s3 := if cur = 0 && lvl != 0 then s2.bump 0x8100 3 else s2
  (if high = s.capWindow then s3.notify 0x8100 3 else s3).setThrottle

/-! ### Thermal steps (R289) -/

/-- The hottest of the 17 sensors, the lowest index among equals. -/
def hottest (s : State) : Nat × W32 :=
  (List.range 17).foldl (fun a k =>
    let t := fget 0 s.plat.sensors k
    if FV.lt (dec32 a.2.toNat) (dec32 t.toNat) then (k, t) else a) (0, fget 0 s.plat.sensors 0)

/-- One junction reading (R289). -/
def thermalSample (s : State) (sensor : Nat) (temp : W32) : State :=
  let s1 := s.platMod (fun p => { p with sensors := fput 0 p.sensors sensor temp })
  let h := s1.hottest
  let cur := s.odGet 0x8200 3
  let lvl := thermalLevel (s.odGet 0x8300 1) cur (dec32 h.2.toNat)
  let peak := if FV.lt (dec32 (s.odGet 0x8300 5)) (dec32 h.2.toNat) then h.2.toNat else s.odGet 0x8300 5
  let s2 := (((s1.odSet 0x8300 2 h.2.toNat).odSet 0x8300 3 h.1).odSet 0x8300 5 peak).odSet 0x8200 3 lvl
  (if cur = 0 && lvl != 0 then s2.countNotify 0x8300 4 else s2).setThrottle

end State

/-! ### Commands -/

/-- POWER_SAMPLE (R287). -/
def execPowerSample (vin iin pin : W32) (s : State) : Host.Outcome State Fault Refusal :=
  if s.awake then .next (s.powerSample vin iin pin) else .next s

/-- SAG_WARNING (R284). -/
def execSagWarning (s : State) : Host.Outcome State Fault Refusal :=
  if s.awake && s.odGet 0x8010 5 == 0 then
    .next ((((s.emit (.vdlIrq (s.odGet 0x8010 3))).odSet 0x8010 5 1).countNotify 0x8010 4).setThrottle)
  else .next s

/-- SAG_CLEAR (R284). -/
def execSagClear (s : State) : Host.Outcome State Fault Refusal :=
  if s.awake then .next ((s.odSet 0x8010 5 0).setThrottle) else .next s

/-- RAIL_WARNING (R286): the rail reads `mv`, below its warning level of Table 12.2. -/
def execRailWarning (rail mv : Nat) (s : State) : Host.Outcome State Fault Refusal :=
  if s.awake && decide (1 ≤ rail) && decide (rail ≤ 4) && decide (mv < (railLevels rail).1) then
    let s1 := s.odSet 0x8020 rail mv
    if s.plat.rails.contains rail then .next s1
    else .next (((s1.platMod (fun p => { p with rails := rail :: p.rails })).countNotify 0x8021 rail).setThrottle)
  else .next s

/-- RAIL_WARNING_CLEAR (R286). -/
def execRailWarningClear (rail mv : Nat) (s : State) : Host.Outcome State Fault Refusal :=
  if 1 ≤ rail && decide (rail ≤ 4) && decide ((railLevels rail).1 ≤ mv) then
    let s1 := s.platMod (fun p => { p with rails := p.rails.filter (· ≠ rail) })
    if s.awake then .next ((s1.odSet 0x8020 rail (mv % 65536)).setThrottle) else .next s1
  else .next s

/-- RAIL_RESET (R286): cause 0x2, detail 2 to 5 for the rail. -/
def execRailReset (rail mv : Nat) (s : State) : Host.Outcome State Fault Refusal :=
  if 1 ≤ rail && decide (rail ≤ 4) && decide (mv < (railLevels rail).2) then .next (s.assertReset 2 (rail + 1) .cold true)
  else .next s

/-- THERMAL_SAMPLE (R289). -/
def execThermalSample (sensor : Nat) (temp : W32) (s : State) : Host.Outcome State Fault Refusal :=
  if sensor < 17 then
    if s.awake then .next (s.thermalSample sensor temp)
    else .next (s.platMod (fun p => { p with sensors := fput 0 p.sensors sensor temp }))
  else .next s

/-- REF10M_LOSS (R324): the FT counter goes on from REFCLK divided by 10, phase-continuously. -/
def execRef10mLoss (s : State) : Host.Outcome State Fault Refusal :=
  let s1 := s.platMod (fun p => { p with ref10m := false })
  if s.plat.ref10m && s.awake && s.odGet 0xF300 1 == 1 then
    .next ((State.odSet { s1 with time := { s1.time with onRefclk := true } } 0xF300 1 0).countNotify 0xF300 2)
  else .next s1

/-- REF10M_RETURN (R324): REF10M has been present for 1 s, and the counter switches back to it. -/
def execRef10mReturn (s : State) : Host.Outcome State Fault Refusal :=
  let s1 := s.platMod (fun p => { p with ref10m := true })
  if !s.plat.ref10m && s.awake && s.time.onRefclk then
    .next (State.odSet { s1 with time := { s1.time with onRefclk := false } } 0xF300 1 1)
  else .next s1

end Sys2Proof.Machine
end

