-- ==== Sys2Proof/Machine/Vdl.lean ====
section
/-! DEFINITION. VDL: companion accesses (R20, R21), the link, and the Crown's self-reset (R261, Table 6.13). -/

namespace Sys2Proof.Machine

/-- The base of the HBM aperture among VDL offsets (Table 1.5). -/
def apertureBase : Nat := 0x010000000000

namespace State

/-- Is the VDL link up? -/
def vdlUp (s : State) : Bool := s.odGet 0x1220 1 == 2

/-- Does PRBS run on VDL (R335)? -/
def vdlPrbs (s : State) : Bool := s.test.prbs == some 0x300

/-! ### The configuration window (Table 1.6) -/

/-- Bytes of the status words (R21). -/
def statusBytes (s : State) (off n : Nat) : List Byte :=
  let count := 875 + s.pinCount
  let first := off / 8
  let last := min count ((off + n + 7) / 8)
  slice ((List.range (last - first)).flatMap (fun i => toLe 8 (s.statusAt (first + i)))) (off - 8 * first) n

/-- The part of a window that an access covers. -/
def cfgPart (off n base size : Nat) (f : Nat → Nat → List Byte) : List Byte :=
  let lo := max off base
  let hi := min (off + n) (base + size)
  if lo < hi then f (lo - base) (hi - lo) else []

/-- The content of the configuration window; reserved parts read 0. -/
def cfgRead (s : State) (off n : Nat) : List Byte :=
  cfgPart off n 0 0x100000 (slice s.tableShown) ++ cfgPart off n 0x100000 0x100000 s.statusBytes ++
  cfgPart off n 0x200000 0x100000 s.mbRead ++ cfgPart off n 0x300000 0x100000 (slice odDirectory) ++
  cfgPart off n 0x400000 0xC00000 (fun _ k => zeros k)

/-! ### Companion accesses (R20) -/

/-- A read completes with a VDL error completion. -/
def vdlReadError (s : State) : State := (s.bump 0x1103 3).emit .vdlError

/-- A write is discarded with a VDL error completion. -/
def vdlWriteError (s : State) : State := (s.bump 0x1103 2).emit .vdlError

/-- A companion read of `n` bytes at a VDL offset. -/
def vdlRead (s : State) (off n : Nat) : State :=
  if off + n ≤ 0x1000000 then s.emit (.vdlData (s.cfgRead off n))
  else if off < apertureBase then s.vdlReadError
  else
    let a := off - apertureBase
    if s.modState = stCold || s.modState == stBoot || !decide (a < barrelBase) || !s.inHbm a n then s.vdlReadError
    else
      match s.wrongLine [(a, n)] with
      | some x => s.vdlReadError.eccFault x
      | none => s.emit (.vdlData (s.readBytes a n))

/-- A reset whose answer had to wait for room in the ring asserts once the answer has gone (R264). -/
def dueResets (s : State) : State :=
  if s.crown.outQ.isEmpty then
    s.crown.resets.foldl (fun t c => t.assertReset c 0 .warm false) { s with crown := { s.crown with resets := [] } }
  else s

/-- The companion has written the mailbox: frames that waited for room in the outbound ring follow a new TAIL, and NOTIFY events after
them; in recovery the boot ROM takes the inbound records. -/
def mailWritten (s : State) : State :=
  if s.plat.recovery then s.romTake
  else if s.crown.down then s
  else (s.ringDrain s.crown.outQ).notifyFlush

/-- A companion write at a VDL offset: the mailbox, or the aperture in QUIET, ARMED and HELD. -/
def vdlWrite (s : State) (off : Nat) (bytes : List Byte) : State :=
  let n := bytes.length
  if 0x200000 ≤ off && decide (off + n ≤ 0x210000) then
    State.dueResets (((s.mbWrite (off - 0x200000) bytes).mailWritten).emit .vdlOk)
  else
    let a := off - apertureBase
    if apertureBase ≤ off && decide (a < barrelBase) && s.inHbm a n &&
        (s.modState == stQuiet || s.modState == stArmed || s.modState == stHeld) then
      (s.writeBytes a bytes).emit .vdlOk
    else s.vdlWriteError

/-! ### The Crown's self-reset (R261) -/

/-- The Crown returns: every session closes, and the NOTIFY events that waited or arose meanwhile are counted as lost. -/
def crownReturn (s : State) : State :=
  let lost := (s.crown.sessions.map (fun x => x.queue.length)).sum + s.crown.lostCount
  let s1 := State.bumpBy { s with crown := { s.crown with sessions := [], outQ := [], waiting := [], resets := [], down := false, holdNotify := false, lostCount := 0 } }
    0x1210 5 lost
  if s1.modState = stFaulted then s1.beginDump
  else if s1.modState = stDumping then s1.restartDump
  else s1

end State

/-! ### Commands -/

/-- CONFIG_READ (R20). -/
def execConfigRead (off len : Nat) (s : State) : Host.Outcome State Fault Refusal :=
  if s.vdlUp then .next (s.vdlRead off len) else .next s

/-- CONFIG_WRITE (R20). -/
def execConfigWrite (off : Nat) (bytes : List Byte) (s : State) : Host.Outcome State Fault Refusal :=
  if s.vdlUp then .next (s.vdlWrite off bytes) else .next s

/-- APERTURE_READ (R20). -/
def execApertureRead (off len : Nat) (s : State) : Host.Outcome State Fault Refusal :=
  if s.vdlUp then .next (s.vdlRead off len) else .next s

/-- APERTURE_WRITE (R20). -/
def execApertureWrite (off : Nat) (bytes : List Byte) (s : State) : Host.Outcome State Fault Refusal :=
  if s.vdlUp then .next (s.vdlWrite off bytes) else .next s

/-- VDL_TIMEOUT (Table 6.13): the link retrains. -/
def execVdlTimeout (_jobLost : Bool) (s : State) : Host.Outcome State Fault Refusal :=
  if s.vdlUp then .next (((s.bump 0x9110 7).bump 0x1220 2).odSet 0x1220 1 1) else .next s

/-- VDL_LINK_UP: the link has trained, its transmit group released (R294) and no PRBS on it (R335). -/
def execVdlLinkUp (s : State) : Host.Outcome State Fault Refusal :=
  if s.plat.released.contains 1 && !s.vdlPrbs then .next (s.odSet 0x1220 1 2) else .next s

/-- CROWN_HEARTBEAT (R261): the Crown resets itself. -/
def execCrownHeartbeat (s : State) : Host.Outcome State Fault Refusal :=
  if s.crown.down || s.modState == stCold || s.plat.recovery then .next s
  else .next { s.bump 0x9110 8 with crown := { s.crown with down := true } }

/-- CROWN_RETURN (R261). -/
def execCrownReturn (s : State) : Host.Outcome State Fault Refusal :=
  if s.crown.down then .next s.crownReturn else .next s

end Sys2Proof.Machine
end

