-- ==== Sys2Proof/Machine/OdWrite.lean ====
section
/-! DEFINITION. Writing the object dictionary: the checks of R269 with what each entry's table adds, and what an accepted write
does (R270). -/

namespace Sys2Proof.Machine

/-! ### Layouts of entries (R269, 6) -/

/-- A roster's header (R316, Table 13.4). -/
def rosterForm (b : List Byte) : Bool :=
  let n := rdLe b 5 1
  let k := rdLe b 6 2
  let keeper (i : Nat) := slice b (0x80 + 128 * n + 48 * i) 48
  let names := (slice b 0x20 64).takeWhile (fun x => x.toNat != 0xFF)
  rdLe b 0 4 == 0x52545352 && rdLe b 4 1 == 1 && decide (1 ≤ n) && decide (n ≤ 64) && b.length == 192 + 128 * n + 48 * k &&
  rdLe b 0xC 4 == b.length && zeroAt b 0x10 16 && zeroAt b 0x60 32 && names.all (fun x => decide (x.toNat < n)) &&
  (List.range n).all (fun i => zeroAt b (0x80 + 128 * i + 0x60) 32) &&
  (List.range k).all (fun i => zeroAt (keeper i) 1 3 && zeroAt (keeper i) 0xC 4 && decide (rdLe (keeper i) 0 1 < n)) &&
  (List.range (k - 1)).all (fun i =>
    let key (e : List Byte) := rdLe e 0 1 * 2 ^ 32 + rdLe e 4 4
    decide (key (keeper i) < key (keeper (i + 1))))

/-- The sites under which a roster lists the device key. -/
def rosterOwn (b : List Byte) : List Nat :=
  let n := rdLe b 5 1
  (List.range n).filter (fun i => slice b (0x80 + 128 * i + 0x20) 32 == identityPub || slice b (0x80 + 128 * i + 0x40) 32 == identityPub) ++
  ((List.range (rdLe b 6 2)).map (fun i => slice b (0x80 + 128 * n + 48 * i) 48)).filterMap (fun e =>
    if slice e 16 32 = identityPub then some (rdLe e 0 1) else none)

/-- A program manifest's header (R283). -/
def programForm (b : List Byte) : Bool :=
  rdLe b 0 4 == 0x464D4750 && rdLe b 4 1 == 1 && zeroAt b 5 3 && rdLe b 0xC 4 == b.length && zeroAt b 0x10 48

/-- A retirement map (R298). -/
def mapForm (b : List Byte) : Bool :=
  (List.range 768).all (fun t => bitsN (rdLe b (2 * t) 2) 9 6 == 0) && decide (rdLe b 1538 1 < 4) && zeroAt b 1539 5

/-- Operator keys (Table 11.18). -/
def keysForm (b : List Byte) : Bool :=
  b.length % 40 == 0 && (chunksOf 40 b).all (fun e => decide (rdLe e 32 1 < 16) && zeroAt e 33 7)

/-- Route entries (R167). -/
def routesForm (b : List Byte) : Bool :=
  (chunksOf 4 b).all (fun e => [0, 1, 2].all (fun k => decide (rdLe e k 1 < 16) || rdLe e k 1 == 0xFF))

/-- A layout descriptor's length (Tables 10.3 to 10.5); what it says is judged at ARM (R245). -/
def layoutForm (b : List Byte) : Bool :=
  b.isEmpty || (decide (64 ≤ b.length) && b.length == 64 + 16 * (rdLe b 5 1 + rdLe b 0xA 1))

namespace State

/-- Does a roster pass R316? -/
def rosterOk (s : State) (b : List Byte) : Bool :=
  let auth := s.blobGet 0xA400 1
  !auth.isEmpty && rosterForm b &&
  edVerify auth (ascii "KRV site roster" ++ b.take (b.length - 64)) (b.drop (b.length - 64)) &&
  (s.roster.isEmpty || decide (rdLe s.roster 8 4 ≤ rdLe b 8 4)) &&
  (rosterOwn b).all (fun i => i == s.odGet 0xA400 2)

/-- Does a debug token pass R317 and R318: scope bit 1 in QUIET only? -/
def tokenOk (s : State) (b : List Byte) : Bool :=
  let key := slice b 0x40 32
  let factory := sha512 key == Config.debugDigest
  let customer := !(s.blobGet 0xA500 4).isEmpty && key == s.blobGet 0xA500 4
  rdLe b 0 4 == 0x54474244 && decide (rdLe b 4 1 < 4) && zeroAt b 5 3 && decide (1 ≤ rdLe b 8 4) && decide (rdLe b 8 4 ≤ 86400) &&
  zeroAt b 0xC 4 && slice b 0x10 16 == padTo 16 serial && !s.test.challenge.isEmpty && slice b 0x20 32 == s.test.challenge &&
  edVerify key (ascii "KRV debug unlock" ++ b.take 0x60) (slice b 0x60 64) &&
  (factory || (customer && !Nat.testBit (rdLe b 4 1) 1)) && (!Nat.testBit (rdLe b 4 1) 1 || s.modState == stQuiet)

/-- Does a BLOB lie in the layout of its table? -/
def blobOk (s : State) (index sub : Nat) (b : List Byte) : Bool :=
  match index, sub with
  | 0x1300, 1 => programForm b
  | 0x2010, 2 => layoutForm b
  | 0x4100, 1 => zeroAt b 8160 32
  | 0x4300, 1 => tableWriteOk b
  | 0x4301, 2 => beatWriteOk s (s.odGet 0x4301 1) b
  | 0x5200, 1 => routesForm b
  | 0x6001, 1 => s.rosterOk b
  | 0x7500, 1 => b.length % 16 == 0 && (chunksOf 16 b).all (fun e => rdLe e 4 4 % 64 == 0)
  | 0x7600, 3 => b.all (fun x => decide (x.toNat < 64) || x.toNat == 0xFF)
  | 0x9400, 1 => mapForm b
  | 0xA100, 1 => keysForm b
  | 0xA300, 1 => s.fwFail b == 0
  | 0xA400, 1 => b.isEmpty || b.length == 32
  | 0xA500, 2 => s.tokenOk b
  | 0xA500, 4 => b.isEmpty || b.length == 32
  | _, _ => true

/-- Does a number lie in its entry's range (Table 11.5)? -/
def numOk (r : OdRow) (v : Nat) : Bool :=
  let i : Int := if r.typ = 6 || r.typ == 7 || r.typ == 10 then sInt (8 * r.size) v else v
  let dec (w : Nat) : FV := if r.typ = 8 then dec32 w else dec64 w
  if r.typ = 8 || r.typ == 9 then
    !(dec v).isNan && !FV.lt (dec v) (dec r.lo.toNat) && !FV.lt (dec r.hi.toNat) (dec v)
  else if r.typ = 10 && decide (i = ftUnset) then false
  else r.also == some v || (decide (r.lo ≤ i) && decide (i ≤ r.hi) && i % (r.mult : Int) == 0)

/-- Do the bits of a number entry name what its table says? -/
def fieldOk (s : State) (index sub v : Nat) : Bool :=
  match index, sub with
  | 0x6020, _ => decide (v % 256 < 2) && decide (bitsN v 8 2 < 3) && decide (v < 1024)
  | 0x9200, 1 => s.bezelTarget v != .bad
  | 0x9200, 2 => s.bezelCheck (s.odGet 0x9200 1) v != 3
  | 0xA300, 2 => s.store.verified.isSome
  | 0xA500, 3 => v == 0
  | 0xF310, 1 => Beat.portOk v
  | _, _ => true

/-! ### The checks of R269 -/

/-- The states in which Table 11.3 allows a command. -/
def cmdAllowed (v st : Nat) : Bool :=
  match v with
  | 1 => st == stQuiet
  | 2 => st == stArmed
  | 3 => st == stRunning
  | 4 => st == stHeld
  | 5 => decide (stArmed ≤ st) && decide (st ≤ stHeld)
  | 6 => decide (stBoot ≤ st)
  | 7 => decide (stQuiet ≤ st) && decide (st ≤ stHeld)
  | _ => decide (stArmed ≤ st) && decide (st ≤ stHeld)

/-- The rights that a write needs (R276). -/
def mayWrite (index sub rights : Nat) : Bool :=
  Nat.testBit rights 1 && (index != 0x1010 || sub != 2 || Nat.testBit rights 2) && (index / 4096 != 10 || Nat.testBit rights 3)

/-- WO entries whose meaning names QUIET (Table 11.6). -/
def woQuiet (index sub : Nat) : Bool :=
  [(0x4000, 2), (0xA200, 1), (0xA300, 1), (0xA300, 2), (0xA300, 4), (0xF320, 1)].contains (index, sub)

/-- May the entry be written in the state in force, whatever the value (Table 11.6)? -/
def stateOk (s : State) (r : OdRow) (sub : Nat) : Bool :=
  if r.index = 0x1010 && sub == 2 then true
  else if r.acc = 3 || woQuiet r.index sub then s.modState == stQuiet
  else decide (stQuiet ≤ s.modState) && decide (s.modState ≤ stHeld)

/-- May PRBS be switched on the selected port (R335)? `field` tells that the request came over the field network. -/
def prbsOk (s : State) (field : Bool) : Bool :=
  let p := s.odGet 0xF310 1
  if p = 0x300 then field else decide (p / 256 ≤ 2) && s.portSvc (p / 256) (p % 256) == 2

/-- Does the state allow this value (Table 11.3, R299, R311, R334, R335)? -/
def valueStateOk (s : State) (index sub v : Nat) (field : Bool) : Bool :=
  match index, sub with
  | 0x1010, 2 => cmdAllowed v s.modState
  | 0x9200, 2 => s.bezelCheck (s.odGet 0x9200 1) v != 2
  | 0xA300, 4 => s.confirmed s.store.running
  | 0xF310, 2 => s.prbsOk field
  | 0xF320, 1 => s.odGet 0xF320 2 != 1
  | _, _ => true

/-- The status of a write under R269, 0 where it is accepted; `typ` is none for a BLOB transfer, which names no type. The status
with which FT_SET is refused on a module that is not the grandmaster is open among the refusals. -/
def odCheck (s : State) (rights : Nat) (field : Bool) (index sub : Nat) (typ : Option Nat) (b : List Byte) : State × Nat :=
  match odRow index sub with
  | none => (s, cNoEntry)
  | some r =>
    let v := leNat b
    let text := decide (11 ≤ r.typ)
    if !mayWrite index sub rights then (s, cRights)
    else if r.acc = 1 then (s, cAccess)
    else if !s.stateOk r sub || !s.valueStateOk index sub v field then (s, cState)
    else if (typ.getD r.typ != r.typ) || (!text && b.length != r.size) then (s, cType)
    else if text && (decide ((b.length : Int) < r.lo) || decide (r.hi < (b.length : Int))) then (s, cRange)
    else if !text && !numOk r v then (s, cRange)
    else if !(if text then s.blobOk index sub b else s.fieldOk index sub v) then (s, cRange)
    else if index = 0x4000 && s.odGet 0x4010 2 != 2 then
      let d := s.draw 8
      (d.2, 1 + d.1.toNat % 11)
    else (s, cOk)

/-- What an attempt leaves whatever becomes of it: a debug challenge is consumed (R317); refused beats, images and tokens are
counted (R158, R312, R317). -/
def odAttempt (s : State) (index sub status : Nat) (b : List Byte) : State :=
  match index, sub with
  | 0x4300, 1 => if status = cRange && b.length == 32768 then s.bump 0x4420 4 else s
  | 0x4301, 2 => if status = cRange && b.length == 32 then s.bump 0x4420 4 else s
  | 0xA300, 1 => if status = cRange then s.bump 0xA300 5 else s
  | 0xA500, 2 =>
    if status = cOk || status == cRange then
      let s1 := { s with test := { s.test with challenge := [] } }
      if status = cRange then s1.bump 0xA500 5 else s1
    else s
  | _, _ => s

/-! ### What an accepted write does -/

/-- What of the Movement Table the settings drive: the slow tier's MEMORY entry, with the companion base it maps (R110), and the
PARTITION entries. -/
def drivenParts (s : State) : List ((Nat × Nat) × List Nat) :=
  ((2, 5), [s.odGet 0x3000 1, s.odGet 0x3000 2]) :: [1, 2, 3, 4].map (fun c => ((8, c), [s.carveSize c, if s.carveSize c = 0 then s.carveOff 3 else s.carveOff c]))

/-- The entries of the table that a change of settings changes. -/
def drivenChanged (s t : State) : List (Nat × Nat) :=
  ((s.drivenParts.zip t.drivenParts).filter (fun q => q.1 != q.2)).map (·.1.1)

/-- A roster is accepted (R316, R246). -/
def rosterWritten (s : State) (b : List Byte) : State :=
  (((s.blobSet 0x6001 1 b).odSet 0x6001 2 (s.odGet 0xA400 2)).odSet 0x7600 1 (rdLe b 0x20 1)).blobSet 0x7600 3 (slice b 0x20 64)
    |>.roleFromLayout

/-- FT_SET on the grandmaster (R149, Table 6.6). -/
def ftWritten (s : State) (v : Nat) : State :=
  let s1 := (s.setFt (sInt 64 v)).odSet 0x4010 1 1
  { s1 with time := { s1.time with lockRun := 0 } }

/-- FREQ_ADJ keeps within a lowered SLEW_MAX (R147). -/
def cutFreq (s : State) : State := s.odSet 0x4010 5 (sNat 32 (clampI (-s.slewMax) s.slewMax (sInt 32 (s.odGet 0x4010 5))))

/-- The job key is destroyed and every far session ends (R318). -/
def dropJobKey (s : State) : State := ((s.blobSet 0xA200 1 []).odSet 0xA200 2 0).dropSessions

/-- A debug unlock takes effect (R317, R318). -/
def unlock (s : State) (b : List Byte) : State :=
  let scope := rdLe b 4 1
  let s1 := if Nat.testBit scope 1 then s.dropJobKey else s
  State.odSet { s1 with test := { s1.test with debugSecs := rdLe b 8 4 } } 0xA500 3 scope

/-- A debug unlock ends (R318). -/
def lockDebug (s : State) : State := State.odSet { s with test := { s.test with debugSecs := 0 } } 0xA500 3 0

/-- HBM BIST starts (R334): the stacks' contents are gone, and so is the dump. -/
def startBist (s : State) (sel : Nat) : State :=
  let gone (a : Nat) : Bool := decide (a < barrelBase) && Nat.testBit sel (a / hbmStride)
  ((State.odSet { s with
    mem := s.mem.filter (fun c => !gone c.1), wrong := s.wrong.filter (fun c => !gone (64 * c.1)),
    test := { s.test with bist := sel } } 0xF320 2 1).odSet 0x9500 1 0)

/-- The mailbox sessions of a link under PRBS close (R335). -/
def closeMailbox (s : State) : State :=
  let c := s.crown
  { s with crown := { c with sessions := c.sessions.filter (fun x => x.peer != .mailbox), outQ := [] } }

/-- PRBS starts or stops on the selected port (R335). -/
def prbsWritten (s : State) (v : Nat) : State :=
  let p := s.odGet 0xF310 1
  let s1 := s.odSet 0xF310 2 v
  if v = 1 then
    let s2 := { s1 with test := { s1.test with prbs := some p } }
    if p = 0x300 then (s2.closeMailbox).odSet 0x1220 1 0 else s2
  else
    let s2 := State.prbsSample s1
    let s3 := { s2 with test := { s2.test with prbs := none } }
    if s.test.prbs == some 0x300 then (s3.bump 0x1220 2).odSet 0x1220 1 1 else s3

/-- A write of a binding (R198), from port `old` in use: the peer uses the bound port, unless only the other one is up. Where both are
up it is a move. -/
def bindingWritten (s : State) (i old : Nat) : State :=
  let s1 := s.fpeerMod i (fun p => { p with away := s.boundPort i != old && s.farUp old })
  if s1.farUp (s1.boundPort i) then s1.movePeer i (s1.boundPort i) else s1

/-- An accepted write of a number entry. -/
def numWrite (s : State) (index sub v : Nat) : State :=
  match index, sub with
  | 0x4000, 2 => s.ftWritten v
  | 0x4020, 4 => (s.odSet 0x4020 4 v).cutFreq
  | 0x2010, 1 => (s.odSetShown 0x2010 1 v).odSet 0x2010 3 v
  | 0x4100, 3 => (s.odSet 0x4100 3 v).reservedDown
  | 0x6020, k => (s.odSet 0x6020 k v).bindingWritten (k - 1) (s.peerPort (k - 1))
  | 0x7200, k => s.odSetShown 0x7200 k v
  | 0x9200, 2 => if s.bezelCheck (s.odGet 0x9200 1) v = 0 then s.bezelDo (s.odGet 0x9200 1) v else s
  | 0xA300, 2 => (s.store.verified.map s.fwActivate).getD s
  | 0xA300, 4 => s.fwCommit
  | 0xA500, 3 => s.lockDebug
  | 0xF310, 2 => s.prbsWritten v
  | 0xF320, 1 => s.startBist v
  | 0x8010, 2 => (s.odSet 0x8010 2 v).setThrottle
  | i, k => s.odSet i k v

/-- An accepted write of a STR or BLOB entry. -/
def textWrite (s : State) (index sub : Nat) (b : List Byte) : State :=
  match index, sub with
  | 0x1300, 1 => ((s.blobSet 0x1300 1 b).blobSet 0x1300 2 (sha512 b)).odSet 0x1300 3 (rdLe b 8 4)
  | 0x2010, 2 => (s.blobSet 0x2010 2 b).layoutWritten
  | 0x4300, 1 => Sys2Proof.Machine.writeTable s b
  | 0x4301, 2 => Sys2Proof.Machine.writeBeat s (s.odGet 0x4301 1) b
  | 0x6001, 1 => s.rosterWritten b
  | 0x6002, 4 => (s.blobSet 0x6002 4 b).forgetHops
  | 0x7500, 1 => (s.blobSet 0x7500 1 b).outerMod (fun o => { o with slots := [] })
  | 0x9400, 1 => if s.blobGet 0x9400 1 = b then s else (s.blobSet 0x9400 1 b).notify 0x9400 1
  | 0xA200, 1 => (s.blobSet 0xA200 1 b).odSet 0xA200 2 1
  | 0xA300, 1 => s.fwStore b
  | 0xA500, 2 => s.unlock b
  | i, k => s.blobSet i k b

/-- An accepted write of an entry, before the table that it changes is published. -/
def odDo (s : State) (index sub : Nat) (b : List Byte) : State :=
  match odRow index sub with
  | none => s
  | some r => if 11 ≤ r.typ then s.textWrite index sub b else s.numWrite index sub (leNat b)

/-- Apply accepted writes together, in order, and publish one table for those that drive it (R270, R279, R30). Writes that change the
table in another way (the layout's ports, a FENCE) publish a table of their own (DESIGN CHOICE, log 49: R30 does not say whether
the items of one WRITE_MULTI share a table). -/
def odApply (s : State) (ws : List (Nat × Nat × List Byte)) : State :=
  let r := ws.foldl (fun (a : State × Nat × List (Nat × Nat)) w =>
    let t := a.1.odDo w.1 w.2.1 w.2.2
    let ch := drivenChanged a.1 t
    (t, a.2.1 + (if ch.isEmpty then 0 else 1), a.2.2 ++ ch)) (s, 0, [])
  r.1.publish r.2.1 r.2.2

end State

end Sys2Proof.Machine
end

