-- ==== Sys2Proof/Machine/Commands.lean ====
section
/-! DEFINITION. The commands of OD 0x1010.02 (Table 11.3): their refusal reasons (Table 11.4) and their effects. -/

namespace Sys2Proof.Machine.State

/-! ### Refusals (R265) -/

/-- Do the queue rings lie as R117 asks: the update units' base set, and each block of rings in the HBM of one stack? -/
def ringsOk (s : State) : Bool :=
  s.odGet 0x3200 1 != 0 && s.inHbm (s.odGet 0x3200 1) 0x40000 && s.inHbm (s.odGet 0x5400 1) 0x14000 &&
    s.inHbm (s.odGet 0x7800 1) 0x8000

/-- Does every member group that the map uses contain the module's own number (R143)? -/
def groupsHoldSelf (s : State) : Bool :=
  (s.blobGet 0x4100 2).all (fun g => g.toNat == 0xFF || Nat.testBit (rdLe (s.blobGet 0x4100 1) (32 * g.toNat) 32) s.smn)

/-- The first of checks 1 to 7 of Table 11.4 that fails, 0 if none does. -/
def armReason (s : State) : Nat :=
  if s.layoutReason.isSome then 1
  else if s.odGet 0xA200 2 = 0 then 2
  else if !s.ringsOk then 3
  else if !s.groupsHoldSelf then 4
  else if s.gatewayRole && decide (s.odGet 0x3100 2 < 0x40000000) then 5
  else if (s.blobGet 0x1300 1).isEmpty then 6
  else if s.odGet 0x1300 3 ≠ s.pinCount then 7
  else 0

/-- The reason with which a command is refused (Table 11.4), 0 if it is not. -/
def cmdReason (s : State) (v : Nat) : Nat :=
  match v with
  | 1 => s.armReason
  | 2 => if s.odGet 0x4010 1 ≤ 1 then 8 else 0
  | 8 => if Nat.testBit s.ownRoles 2 then 0 else 9
  | _ => 0

/-- A refused command leaves its reason in OD 0x1010.03; a layout fault leaves its detail and is counted (R245). -/
def cmdRefused (s : State) (reason : Nat) : State :=
  let s1 := s.odSet 0x1010 3 reason
  if reason = 1 then (s1.odSet 0x2010 5 (s.layoutReason.getD 0)).bump 0x2010 4 else s1

/-! ### ARM -/

/-- The sync objects of a queue take the value 0. -/
def zeroObj (s : State) (sid : Nat) : State := s.syncMod sid (fun o => { o with count := 0, target := 0, phase := false })

/-- The queues of the update units and the Fusees restart at entry 0 (R118, R221). -/
def resetQueues (s : State) : State :=
  let door := s.odGet 0x3200 2
  let s1 := (List.range 32).foldl (fun a k => a.zeroObj (door + k)) s
  let s2 := (List.range 4).foldl (fun a k => a.zeroObj (s.odGet 0x7800 2 + k)) s1
  { s2 with uqNext := [], qWait := [] }

/-- Each collective queue restarts at the entry whose number its done counter gives (R179). -/
def restartColl (s : State) : State :=
  (List.range 5).foldl (fun a k =>
    a.collMod (fun c => { c with
      queues := fput {} c.queues (k + 1) { next := (s.sync (s.odGet 0x5400 2 + 8 + k)).count, run := [] } })) s

/-- ARM: a restart gets its restore first (R254, step 5), the queues restart (R118, R179, R221), the layout sets the far ports (R246), the TAP rests (R333), and the module is ARMED. -/
def armDo (s : State) : State :=
  let s1 := (s.restore).resetQueues.restartColl.farFromLayout
  State.setModState { s1 with stopSent := false, roleChange := false, test := { s1.test with ir := .testLogicReset } } stArmed

/-! ### The others -/

/-- QUIESCE (R266): the site job stops under R253, or the pinions stop and started entries complete. -/
def quiesceDo (s : State) : State :=
  if s.inSiteJob then s.stopJob 3 s.smn else State.stopSettle { s with siteStopping := true }

/-- A HOLD or RELEASE beat on the module. -/
def moduleBeat (act : Nat) : Beat := { action := act }

/-- The effect of a command that is not refused. WARM_RESET has its effect after its answer (R264). -/
def cmdDo (s : State) (v : Nat) : State :=
  match v with
  | 1 => s.armDo
  | 2 => s.enterRunning
  | 3 => s.holdTarget (moduleBeat 7) true
  | 4 => s.holdTarget (moduleBeat 8) false
  | 5 => s.quiesceDo
  | 7 => s.enterFaulted 7 0
  | 8 => State.quiesceDo { s with roleChange := true }
  | _ => s

/-- Does a command wait for a change that an event has begun (R263)? A stop under way ends in QUIET first; FAULTED and a reset
come before it. -/
def cmdWaits (s : State) (v : Nat) : Bool := s.siteStopping && v != 6 && v != 7

/-- Does a command's answer wait for the entry into QUIET (R264)? -/
def cmdPends (s : State) (v : Nat) : Bool := (v == 5 || v == 8) && s.siteStopping

/-- Run an allowed command (R264): the state after it, and the status of its answer. -/
def cmdRun (s : State) (v : Nat) : State × Nat :=
  if s.cmdReason v = 0 then (s.cmdDo v, cOk) else (s.cmdRefused (s.cmdReason v), cRefused)

end Sys2Proof.Machine.State
end

