-- ==== Sys2Proof/Machine/Cop.lean ====
section
/-! DEFINITION. The Crown Object Protocol (11.4): frames and their carriage (R272, R273), sessions (R274 to R278), requests (R279),
BLOB transfers (R280). -/

namespace Sys2Proof.Machine

/-! ### Frames (Tables 11.10, 11.11, 11.14) -/

/-- OP of a frame. -/
def fOp (f : List Byte) : Nat := rdLe f 1 1
/-- SESSION of a frame. -/
def fSession (f : List Byte) : Nat := rdLe f 4 4
/-- SEQ of a frame. -/
def fSeq (f : List Byte) : Nat := rdLe f 8 4
/-- The body of a frame. -/
def fBody (f : List Byte) : List Byte := (f.drop 16).take (f.length - 32)
/-- The MAC of a frame. -/
def fMac (f : List Byte) : List Byte := f.drop (f.length - 16)

/-- The operations that a client may send (Table 11.11). -/
def copOps : List Nat := [0x01, 0x02, 0x03, 0x10, 0x11, 0x12, 0x13, 0x18, 0x19, 0x1A, 0x21]

/-- Has a frame the header of a request (Table 11.10)? -/
def headForm (f : List Byte) : Bool :=
  decide (32 ≤ f.length) && rdLe f 0 1 == 1 && zeroAt f 2 2 && rdLe f 0xC 2 + 32 == f.length && zeroAt f 0xE 2

/-- Has a frame the form of a request: its header, and a listed operation? Frames of another form are discarded. -/
def frameForm (f : List Byte) : Bool := headForm f && copOps.contains (fOp f)

/-- Is the MAC of a frame right under a key (R275)? -/
def macOk (key f : List Byte) : Bool := (hmac512 key (f.take (f.length - 16))).take 16 == fMac f

/-- An item of a request. -/
structure Item where
  index : Nat
  sub : Nat
  typ : Nat
  value : List Byte
  deriving DecidableEq, Repr

/-- The first item of a body and what follows it; none where it is malformed. -/
def parseItem (b : List Byte) : Option (Item × List Byte) :=
  let n := rdLe b 4 2
  let m := roundUp n 8
  if 8 + m ≤ b.length && zeroAt b 6 2 && zeroAt b (8 + n) (m - n) then
    some ({ index := rdLe b 0 2, sub := rdLe b 2 1, typ := rdLe b 3 1, value := slice b 8 n }, b.drop (8 + m))
  else none

/-- The `n` items that fill a body. -/
def parseItems : Nat → List Byte → Option (List Item)
  | 0, b => if b.isEmpty then some [] else none
  | n + 1, b =>
    match parseItem b with
    | none => none
    | some (i, r) => (parseItems n r).map (fun l => i :: l)

/-- The items of a READ, WRITE, READ_MULTI or WRITE_MULTI body; a read's items name no type and carry no value. -/
def bodyItems (op : Nat) (b : List Byte) : Option (List Item) :=
  let r := if op = 0x10 || op == 0x11 then parseItems 1 b else if zeroAt b 1 7 && decide (8 ≤ b.length) then parseItems (rdLe b 0 1) (b.drop 8) else none
  if op = 0x10 || op == 0x12 then r.bind (fun l => if l.all (fun i => i.typ == 0 && i.value.isEmpty) then some l else none) else r

/-- Is it the command entry? -/
def Item.isCmd (i : Item) : Bool := i.index == 0x1010 && i.sub == 2

/-- Is it a transport of the same kind? -/
def Peer.sameKind : Peer → Peer → Bool
  | .mailbox, .mailbox => true
  | .field _ _, .field _ _ => true
  | _, _ => false

/-- Is it the field network? -/
def Peer.isField (p : Peer) : Bool := p != .mailbox

/-- The frame limit of a transport (R272, R273). -/
def Peer.limit (p : Peer) : Nat := if p.isField then 1400 else 4096

/-- The data bytes a segment may carry on a transport (R280). -/
def Peer.segment (p : Peer) : Nat := if p.isField then 1024 else 3072

/-! ### BLOB transfers (R280) -/

/-- How far the segments reach from 0 without a gap, `n` passes over them. -/
def segReach (segs : List (Nat × List Byte)) : Nat → Nat → Nat
  | 0, r => r
  | n + 1, r => segReach segs n (segs.foldl (fun a g => if g.1 ≤ a then max a (g.1 + g.2.length) else a) r)

/-- The value that a write transfer has collected; none where a byte is missing. -/
def BlobXfer.value (x : BlobXfer) : Option (List Byte) :=
  if x.total ≤ segReach x.segs x.segs.length 0 then
    some (x.segs.foldl (fun b g => patch b g.1 g.2) (zeros x.total))
  else none

/-- The value that a write transfer gives at BLOB_END with its CRC; none: BLOB_ORDER. -/
def BlobXfer.complete (x : BlobXfer) (crc : Nat) : Option (List Byte) :=
  x.value.bind (fun b => if crc32c b = crc then some b else none)

/-- A write transfer takes a segment; none: it lies outside TOTAL. -/
def BlobXfer.take (x : BlobXfer) (off : Nat) (data : List Byte) : Option BlobXfer :=
  if off + data.length ≤ x.total then some { x with segs := x.segs ++ [(off, data)] } else none

/-- What follows an answer: nothing; it waits for a transition; the session closes; resets with their causes. -/
inductive After where
  | done
  | pend
  | close
  | resets (causes : List Nat)
  deriving DecidableEq, Repr

/-- What a request comes to: the state, the status and body of the answer, and what follows. -/
structure Reply where
  st : State
  status : Nat
  body : List Byte
  after : After

namespace State

/-- A refusal whose status the spec leaves open: that of a malformed request. -/
def openRefusal (s : State) : Reply :=
  let d := s.draw 8
  { st := d.2, status := 1 + d.1.toNat % 11, body := [], after := .done }

/-! ### Carriage -/

/-- Does the Crown run (Table 11.1): its firmware is up (BOOT step 2 on), and it is not resetting itself? -/
def crownUp (s : State) : Bool :=
  s.modState != stCold && !s.crown.down && !s.plat.recovery && (s.modState != stBoot || decide (2 ≤ s.plat.step))

/-- Does the Crown serve requests: it runs, and after a fault it dumps or has stopped (Table 11.1)? -/
def crownServes (s : State) : Bool := s.crownUp && (s.modState != stFaulted || s.plat.dumpStopped)

/-- The rotating priority between the mailbox (0) and the field network (1) moves on (R145, R260). -/
def crownTurn (s : State) (k : Nat) : State := { s with crown := { s.crown with turn := k } }

/-- A frame of an unlisted operation is discarded; it is counted where its session is none or pending, or its MAC fails (R275). -/
def discardFrame (s : State) (f : List Byte) : State :=
  if (s.session (fSession f)).any (fun x => x.isOpen && macOk x.keyIn f) then s else s.bump 0x1210 4

/-- The inbound TAIL. -/
def mbTail (s : State) : Nat := leNat (s.mbRead 4 4) % mbArea

/-- The record at the inbound TAIL: its frame and the TAIL after it. None: the ring is empty or what lies there is no record. -/
def mbRecord (s : State) : Option (List Byte × Nat) :=
  let tail := s.mbTail
  let len := leNat (s.mbRead (0x40 + tail) 4)
  if tail = leNat (s.mbRead 0 4) % mbArea || decide (mbArea < tail + 4 + len) then none
  else some (s.mbRead (0x44 + tail) len, (tail + roundUp (4 + len) 8) % mbArea)

/-- The Crown drops what is no request in front of the ring, and follows the mark of a record that did not fit. -/
def mbSkip : Nat → State → State
  | 0, s => s
  | n + 1, s =>
    if s.mbTail = leNat (s.mbRead 0 4) % mbArea then s
    else if leNat (s.mbRead (0x40 + s.mbTail) 4) = 0xFFFFFFFF then mbSkip n (s.mbWrite 4 (zeros 4))
    else
      match s.mbRecord with
      | none => s.mbWrite 4 (s.mbRead 0 4)
      | some (f, next) =>
        if frameForm f then s
        else
          let t := s.mbWrite 4 (toLe 4 next)
          mbSkip n (if headForm f then t.discardFrame f else t)

/-! ### Answers -/

/-- NOTIFY frames that waited for the answer go out (R270). -/
def releaseNotify (s : State) : State := State.notifyFlush { s with crown := { s.crown with holdNotify := false } }

/-- An answer that is not stored: BUSY or BAD_SEQ. -/
def answer (s : State) (x : Session) (p : Peer) (f : List Byte) (status : Nat) : State :=
  s.copSend p (copFrame (fOp f) 1 status x.id (fSeq f) [] x.keyOut)

/-- Close a session. -/
def dropSession (s : State) (id : Nat) : State :=
  let gone := s.crown.sessions.any (fun x => x.id == id && x.waitingAnswer)
  let s1 := s.setSessions (s.crown.sessions.filter (fun x => x.id != id))
  if gone then s1.releaseNotify else s1

/-- Resets follow an answer: at once, or once the answer has gone where it waits for room in the ring (R264). -/
def resetsAfter (s : State) (p : Peer) (cs : List Nat) : State :=
  if p == .mailbox && !s.crown.outQ.isEmpty then { s with crown := { s.crown with resets := cs } }
  else cs.foldl (fun t c => t.assertReset c 0 .warm false) s

/-- A request has been served: its answer is stored and sent, or waits (R264, R277). -/
def reply (x : Session) (p : Peer) (f : List Byte) (r : Reply) : State :=
  let a := copFrame (fOp f) 1 r.status x.id (fSeq f) r.body x.keyOut
  let s1 := (r.st.bump 0x1210 6).sesMod x.id (fun y => { y with lastSeq := fSeq f, lastAnswer := a })
  match r.after with
  | .pend => s1.sesMod x.id (fun y => { y with waitingAnswer := true })
  | .done => (s1.copSend p a).releaseNotify
  | .close => ((s1.copSend p a).dropSession x.id).releaseNotify
  | .resets cs => (s1.copSend p a).releaseNotify.resetsAfter p cs

/-! ### Sessions -/

/-- The rights of an operator key; none where it is not listed. -/
def keyRights (s : State) (key : List Byte) : Option Nat :=
  ((chunksOf 40 (s.blobGet 0xA100 1)).find? (fun e => e.take 32 == key)).map (fun e => rdLe e 32 1)

/-- R278: while no key is installed, sessions come in on the mailbox and in QUIET only. -/
def openAdmits (s : State) (p : Peer) : Bool := !p.isField && s.modState == stQuiet

/-- Does R278 forbid an OPEN? -/
def openForbidden (s : State) (p : Peer) : Bool := (s.blobGet 0xA100 1).isEmpty && !s.openAdmits p

/-- A number that no session has: open, never 0. -/
def newSessionId (s : State) (d : Nat) : Nat :=
  (((List.range 9).map (fun k => (d + k) % 0xFFFFFFFF + 1)).find? (fun i => (s.session i).isNone)).getD 1

/-- A new pending session with its challenge and its keys (R274, R275). -/
def newSession (s : State) (p : Peer) (b : List Byte) : State × Session :=
  let n := s.drawBytes 16
  let k := n.2.drawBytes 32
  let d := k.2.draw 32
  let id := s.newSessionId d.1.toNat
  let chal := n.1 ++ x25519 k.1 x25519Base ++ identityPub ++ toLe 4 id ++ zeros 12
  let full := chal ++ edSign identityKey (ascii "KRV COP challenge" ++ b ++ chal)
  let mk := hkdf512 (b.take 16 ++ n.1) (x25519 k.1 (slice b 0x10 32)) (ascii "KRV COP v1" ++ toLe 4 id) 128
  (d.2, {
    id := id, isOpen := false, peer := p, key := slice b 0x30 32, want := rdLe b 0x50 1, rights := 0, notify := rdLe b 0x51 1 == 1,
    openBody := b, challenge := full, keyIn := mk.take 64, keyOut := mk.drop 64, lastSeq := 0, lastAnswer := [],
    waitingAnswer := false, blob := none, nseq := 1, queue := [], sent := [], lost := false })

/-- OPEN (R274). -/
def openDo (s : State) (p : Peer) (f : List Byte) : State :=
  let b := fBody f
  let refuse (st : Nat) : State := (s.bump 0x1210 3).copSend p (copFrame 1 1 st 0 0 [] [])
  if fMac f != zeros 16 || fSession f != 0 then s.bump 0x1210 4
  else if fSeq f != 0 || b.length != 96 || !zeroAt b 0x52 14 || decide (15 < rdLe b 0x50 1) || decide (1 < rdLe b 0x51 1) then s
  else
    match s.crown.sessions.find? (fun x => !x.isOpen && x.peer.sameKind p && x.openBody.take 16 == b.take 16) with
    | some x => s.copSend p (copFrame 1 1 0 x.id 0 x.challenge [])
    | none =>
      if 8 ≤ s.crown.sessions.length then refuse cBusy
      else if s.openForbidden p then refuse cRights
      else
        let r := s.newSession p b
        (r.1.setSessions (r.1.crown.sessions ++ [r.2])).copSend p (copFrame 1 1 0 r.2.id 0 r.2.challenge [])

/-- PROVE of a pending session (R274, R276). -/
def proveDo (s : State) (x : Session) (p : Peer) (f : List Byte) : State :=
  let allowed : Option Nat :=
    if (s.blobGet 0xA100 1).isEmpty then (if s.openAdmits p then some 15 else none) else s.keyRights x.key
  let sig := (fBody f).length == 64 && edVerify x.key (ascii "KRV COP prove" ++ x.openBody ++ x.challenge) (fBody f)
  if fSeq f ≠ 1 then s.answer x p f cBadSeq
  else
    match allowed, sig with
    | some k, true =>
      let rights := x.want &&& k
      if rights = 0 then ((s.bump 0x1210 3).answer x p f cRights).dropSession x.id
      else
        let body := toLe 1 rights ++ toLe 1 (if x.notify then 1 else 0) ++ toLe 2 p.limit ++ toLe 4 (s.odGet 0x1200 6) ++ zeros 8
        let y := { x with isOpen := true, peer := p, rights := rights, notify := x.notify && Nat.testBit rights 0 }
        let s1 := (s.bump 0x1210 2).sesMod x.id (fun _ => y)
        reply y p f { st := s1, status := cOk, body := body, after := .done }
    | _, _ => (s.bump 0x1210 3).dropSession x.id

/-- NOTIFY_ACK (R281): the frames up to NSEQ have arrived. -/
def ackDo (s : State) (x : Session) (b : List Byte) : State :=
  if b.length = 4 then
    (s.sesMod x.id (fun y => { y with sent := y.sent.filter (fun n => decide (leNat b < n.nseq)) })).notifyFlush
  else s

/-! ### Requests (R279) -/

/-- Read one item. -/
def readItem (s : State) (x : Session) (i : Item) : State × Nat × List Byte :=
  let r := s.odRead x.rights x.id (x.openBody.take 16) i.index i.sub
  if r.2.1 ≠ cOk then (r.1, r.2.1, copItem i.index i.sub 0 r.2.1 [])
  else if 1024 < r.2.2.2.length then (s, cTooLarge, copItem i.index i.sub 0 cTooLarge [])
  else (r.1, cOk, copItem i.index i.sub r.2.2.1.typ cOk r.2.2.2)

/-- READ. -/
def readReq (s : State) (x : Session) (b : List Byte) : Reply :=
  match bodyItems 0x10 b with
  | some [i] =>
    let r := s.readItem x i
    { st := r.1, status := r.2.1, body := r.2.2, after := .done }
  | _ => s.openRefusal

/-- READ_MULTI: one snapshot. -/
def readMultiReq (s : State) (x : Session) (p : Peer) (b : List Byte) : Reply :=
  if rdLe b 0 1 = 0 || decide (64 < rdLe b 0 1) then { st := s, status := cRange, body := [], after := .done }
  else
    match bodyItems 0x12 b with
    | none => s.openRefusal
    | some l =>
      let r := l.foldl (fun (a : State × List Byte) i =>
        let q := a.1.readItem x i
        (q.1, a.2 ++ q.2.2)) (s, [])
      if p.limit < 40 + r.2.length then { st := s, status := cTooLarge, body := [], after := .done }
      else { st := r.1, status := cOk, body := toLe 1 l.length ++ zeros 7 ++ r.2, after := .done }

/-- The checks of R269 and R279 on the items of a write, made with the values in force before it: a status for each. -/
def checkItems (s : State) (rights : Nat) (field typed : Bool) (l : List Item) : State × List Nat :=
  let many := decide (1 < (l.filter Item.isCmd).length)
  ((List.range l.length).zip l).foldl (fun (a : State × List Nat) q =>
    let i := q.2
    if i.isCmd && (many || q.1 + 1 != l.length) then (a.1, a.2 ++ [cRange])
    else
      let c := a.1.odCheck rights field i.index i.sub (if typed then some i.typ else none) i.value
      (c.1, a.2 ++ [c.2])) (s, [])

/-- What items leave whatever becomes of the request. -/
def attemptItems (s : State) (l : List Item) (sts : List Nat) : State :=
  (l.zip sts).foldl (fun a q => a.odAttempt q.1.index q.1.sub q.2 q.1.value) s

/-- Write items together (R279): the state, a status for each item, the status of the whole, and what follows; none where a command
waits (R263). -/
def writeItems (s : State) (rights : Nat) (field typed : Bool) (l : List Item) : Option (State × List Nat × Nat × After) :=
  if l.any (fun i => i.isCmd && s.cmdWaits (leNat i.value)) then none
  else
    let c := s.checkItems rights field typed l
    let s1 := c.1.attemptItems l c.2
    match c.2.find? (· ≠ cOk) with
    | some st => some (s1, c.2, st, .done)
    | none =>
      let plain := l.filter (fun i => !i.isCmd)
      let s2 := s1.odApply (plain.map (fun i => (i.index, i.sub, i.value)))
      let act := if plain.any (fun i => i.index == 0xA300 && i.sub == 2) then [9] else []
      match l.getLast? with
      | none => some (s2, [], cOk, .done)
      | some i =>
        if i.isCmd then
          let v := leNat i.value
          let r := s2.cmdRun v
          let sts := c.2.dropLast ++ [r.2]
          if r.2 = cOk && v == 6 then some (r.1, sts, cOk, .resets (act ++ [5]))
          else if r.2 = cOk && cmdPends r.1 v then some (r.1, sts, cOk, .pend)
          else some (r.1, sts, r.2, if act.isEmpty then .done else .resets act)
        else some (s2, c.2, cOk, if act.isEmpty then .done else .resets act)

/-- The items of an answer to a write. -/
def writtenBody (l : List Item) (sts : List Nat) : List Byte :=
  (l.zip sts).flatMap (fun q => copItem q.1.index q.1.sub q.1.typ q.2 [])

/-- WRITE. -/
def writeReq (s : State) (x : Session) (p : Peer) (b : List Byte) : Option Reply :=
  match bodyItems 0x11 b with
  | some [i] =>
    if 1024 < i.value.length then
      some { st := s, status := cTooLarge, body := writtenBody [i] [cTooLarge], after := .done }
    else (s.writeItems x.rights p.isField true [i]).map (fun r => { st := r.1, status := r.2.2.1, body := writtenBody [i] r.2.1, after := r.2.2.2 })
  | _ => some s.openRefusal

/-- WRITE_MULTI. -/
def writeMultiReq (s : State) (x : Session) (p : Peer) (b : List Byte) : Option Reply :=
  if rdLe b 0 1 = 0 || decide (64 < rdLe b 0 1) then some { st := s, status := cRange, body := [], after := .done }
  else
    match bodyItems 0x13 b with
    | none => some s.openRefusal
    | some l =>
      if l.any (fun i => decide (1024 < i.value.length)) then some { st := s, status := cTooLarge, body := [], after := .done }
      else (s.writeItems x.rights p.isField true l).map (fun r =>
        { st := r.1, status := r.2.2.1, body := b.take 8 ++ writtenBody l r.2.1, after := r.2.2.2 })

/-- An answer with an empty body. -/
def plainReply (s : State) (status : Nat) : Reply := { st := s, status := status, body := [], after := .done }

/-- BLOB_BEGIN (R280). A write of a firmware image waits for another session's (R312). -/
def blobBeginReq (s : State) (x : Session) (b : List Byte) : Reply :=
  let index := rdLe b 0 2
  let sub := rdLe b 2 1
  let total := rdLe b 4 4
  let start (t : State) (v : BlobXfer) (body : List Byte) : Reply :=
    { st := t.sesMod x.id (fun y => { y with blob := some v }), status := cOk, body := body, after := .done }
  if b.length ≠ 8 || decide (1 < rdLe b 3 1) || (rdLe b 3 1 == 0 && total != 0) then s.openRefusal
  else if x.blob.isSome then s.plainReply cBusy
  else if rdLe b 3 1 = 0 then
    let r := s.odRead x.rights x.id (x.openBody.take 16) index sub
    if r.2.1 ≠ cOk then r.1.plainReply r.2.1
    else
      let v := r.2.2.2
      start r.1 { index := index, sub := sub, writing := false, total := v.length, snapshot := v, segs := [] }
        (toLe 4 v.length ++ toLe 4 (crc32c v))
  else if index = 0xA300 && sub == 1 && s.crown.sessions.any (fun y => y.id != x.id && y.blob.any (fun t => t.writing && t.index == 0xA300 && t.sub == 1)) then
    s.plainReply cBusy
  else start s { index := index, sub := sub, writing := true, total := total, snapshot := [], segs := [] } (toLe 4 total ++ zeros 4)

/-- BLOB_SEG (R280). -/
def blobSegReq (s : State) (x : Session) (p : Peer) (b : List Byte) : Reply :=
  let off := rdLe b 0 4
  let len := rdLe b 4 2
  if b.length < 8 || !zeroAt b 6 2 then s.openRefusal
  else
    match x.blob with
    | none => s.plainReply cBlobOrder
    | some t =>
      if b.length ≠ (if t.writing then 8 + len else 8) then s.openRefusal
      else if p.segment < len then s.plainReply cTooLarge
      else if t.total < off + len then s.plainReply cBlobOrder
      else if t.writing then
        { st := s.sesMod x.id (fun y => { y with blob := t.take off (b.drop 8) }), status := cOk, body := b.take 8, after := .done }
      else { st := s, status := cOk, body := b.take 8 ++ slice t.snapshot off len, after := .done }

/-- BLOB_END (R280). -/
def blobEndReq (s : State) (x : Session) (p : Peer) (b : List Byte) : Option Reply :=
  if b.length ≠ 4 then some s.openRefusal
  else
    match x.blob with
    | none => some (s.plainReply cBlobOrder)
    | some t =>
      let s1 := s.sesMod x.id (fun y => { y with blob := none })
      if !t.writing then some (s1.plainReply cOk)
      else
        match t.complete (leNat b) with
        | none => some (s1.plainReply cBlobOrder)
        | some v =>
          (s1.writeItems x.rights p.isField false [{ index := t.index, sub := t.sub, typ := 0, value := v }]).map (fun r =>
            { st := r.1, status := r.2.2.1, body := [], after := r.2.2.2 })

/-- Execute a request of an open session; none where it waits (R263). A frame above the limit is not executed (R279). -/
def serveReq (s : State) (x : Session) (p : Peer) (f : List Byte) : Option Reply :=
  let b := fBody f
  if p.limit < f.length then some (s.plainReply cTooLarge)
  else
    match fOp f with
    | 0x03 => if b.isEmpty then some { st := s, status := cOk, body := [], after := .close } else some s.openRefusal
    | 0x10 => some (s.readReq x b)
    | 0x11 => s.writeReq x p b
    | 0x12 => some (s.readMultiReq x p b)
    | 0x13 => s.writeMultiReq x p b
    | 0x18 => some (s.blobBeginReq x b)
    | 0x19 => some (s.blobSegReq x p b)
    | 0x1A => s.blobEndReq x p b
    | _ => some s.openRefusal

/-- A frame of a session (R275, R277): none where it waits. -/
def sessionFrame (s : State) (x : Session) (p : Peer) (f : List Byte) : Option State :=
  let waiting := s.crown.sessions.any (fun y => y.waitingAnswer)
  if !x.peer.sameKind p || (!x.isOpen && fOp f != 2) || !macOk x.keyIn f then some (s.bump 0x1210 4)
  else
    let s1 := s.sesMod x.id (fun y => { y with peer := p })
    if fOp f = 0x21 then some (s1.ackDo x (fBody f))
    else if x.waitingAnswer then some (s1.answer x p f cBusy)
    else if waiting then none
    else if !x.isOpen then some (s1.proveDo x p f)
    else if fSeq f = x.lastSeq then some (s1.copSend p x.lastAnswer)
    else if fSeq f ≠ (x.lastSeq + 1) % 2 ^ 32 then some (s1.answer x p f cBadSeq)
    else (State.serveReq { s1 with crown := { s1.crown with holdNotify := true } } x p f).map (reply x p f)

/-- The Crown takes a frame (R260): none where it must wait. -/
def copFrameDo (s : State) (p : Peer) (f : List Byte) : Option State :=
  if fOp f = 1 then (if s.crown.sessions.any (fun y => y.waitingAnswer) then none else some (s.openDo p f))
  else
    match s.session (fSession f) with
    | none => some (s.bump 0x1210 4)
    | some x => s.sessionFrame x p f

/-- A datagram waits its turn. -/
def waitFrame (s : State) (a p : Nat) (f : List Byte) : State :=
  { s with crown := { s.crown with waiting := s.crown.waiting ++ [(a, p, f)] } }

/-- The Crown takes the request in front of the mailbox; none where there is none or it must wait. -/
def takeMailbox (s : State) : Option State :=
  match (mbSkip 8192 s).mbRecord with
  | none => none
  | some (f, next) => (((mbSkip 8192 s).mbWrite 4 (toLe 4 next)).crownTurn 1).copFrameDo .mailbox f

/-- The Crown takes the datagram that has waited longest; none where it must wait on. -/
def takeField (s : State) : Option State :=
  match s.crown.waiting with
  | [] => none
  | (a, p, f) :: l => State.copFrameDo ({ s with crown := { s.crown with waiting := l } }.crownTurn 0) (.field a p) f

/-- The Crown takes what has waited, at most `n` requests: between the transports the rotating priority chooses (R260). -/
def crownRest : Nat → State → State
  | 0, s => s
  | n + 1, s =>
    if s.crown.waiting.isEmpty || !s.crownServes then s
    else
      match (if s.crown.turn = 0 then (s.takeMailbox).orElse (fun _ => s.takeField) else (s.takeField).orElse (fun _ => s.takeMailbox)) with
      | none => s
      | some t => crownRest n t

/-- A frame arrives, from the mailbox or the field network: the Crown serves it, or has it wait, if it is of the row that `row` tells.
A datagram to another port than OD 0x1200.03 is discarded (R272). What has waited longer comes first. -/
def copServe (s : State) (src : FrameSrc) (row : State → List Byte → Bool) : State :=
  match src with
  | .field a p target f =>
    if !s.crownUp || !s.plat.released.contains 7 || target != s.odGet 0x1200 3 || !headForm f then s
    else if !frameForm f then s.discardFrame f
    else if !row s f then s
    else
      let s1 := crownRest 1024 s
      if !s1.crownServes || !s1.crown.waiting.isEmpty then s1.waitFrame a p f
      else ((s1.crownTurn 0).copFrameDo (.field a p) f).getD (s1.waitFrame a p f)
  | .mailbox =>
    if !s.crownServes then s
    else
      let s0 := if s.crown.turn = 1 then (s.takeField).getD s else s
      let s1 := mbSkip 8192 s0
      match s1.mbRecord with
      | none => s1
      | some (f, next) => if row s1 f then (((s1.mbWrite 4 (toLe 4 next)).crownTurn 1).copFrameDo .mailbox f).getD s1 else s1

end State

end Sys2Proof.Machine
end

