-- ==== Sys2Proof/Machine/CopOps.lean ====
section
/-! DEFINITION. The commands that carry a frame of the Crown Object Protocol, the timers of sessions and transfers (R274, R277, R280,
R281), and management traffic over VC7 (R173, R254). -/

namespace Sys2Proof.Machine

/-! ### What a frame carries -/

/-- Has a frame an operation? -/
def isOp (op : Nat) (_ : State) (f : List Byte) : Bool := fOp f == op

/-- Has a write's entry the value asked for? -/
def valueIs (v : Option Nat) (b : List Byte) : Bool :=
  match v with
  | none => true
  | some n => leNat b == n

/-- Does a frame write an entry, with a value where one is asked for: as an item, or as the transfer that it ends? -/
def writesEntry (index sub : Nat) (v : Option Nat) (s : State) (f : List Byte) : Bool :=
  if fOp f = 0x11 || fOp f == 0x13 then
    ((bodyItems (fOp f) (fBody f)).getD []).any (fun i => i.index == index && i.sub == sub && valueIs v i.value)
  else
    fOp f == 0x1A && (s.session (fSession f)).any (fun x => x.blob.any (fun t =>
      t.writing && t.index == index && t.sub == sub && (v.isNone || (t.value).any (valueIs v))))

/-- Does a frame read an entry: as an item, or as the transfer that it begins? -/
def readsEntry (index sub : Nat) (_ : State) (f : List Byte) : Bool :=
  if fOp f = 0x10 || fOp f == 0x12 then
    ((bodyItems (fOp f) (fBody f)).getD []).any (fun i => i.index == index && i.sub == sub)
  else fOp f == 0x18 && rdLe (fBody f) 0 2 == index && rdLe (fBody f) 2 1 == sub && rdLe (fBody f) 3 1 == 0

/-! ### Frames -/

/-- OPEN (R274). -/
def execOpenSession (src : FrameSrc) (s : State) : Host.Outcome State Fault Refusal :=
  .next (s.copServe src (isOp 0x01))

/-- PROVE (R274, R276). -/
def execProve (src : FrameSrc) (s : State) : Host.Outcome State Fault Refusal :=
  .next (s.copServe src (isOp 0x02))

/-- CLOSE (R277). -/
def execCopClose (src : FrameSrc) (s : State) : Host.Outcome State Fault Refusal :=
  .next (s.copServe src (isOp 0x03))

/-- READ (R269, R276). -/
def execRead (src : FrameSrc) (s : State) : Host.Outcome State Fault Refusal :=
  .next (s.copServe src (isOp 0x10))

/-- WRITE (R269, R270). -/
def execWrite (src : FrameSrc) (s : State) : Host.Outcome State Fault Refusal :=
  .next (s.copServe src (isOp 0x11))

/-- READ_MULTI (R279). -/
def execReadMulti (src : FrameSrc) (s : State) : Host.Outcome State Fault Refusal :=
  .next (s.copServe src (isOp 0x12))

/-- WRITE_MULTI (R279). -/
def execWriteMulti (src : FrameSrc) (s : State) : Host.Outcome State Fault Refusal :=
  .next (s.copServe src (isOp 0x13))

/-- BLOB_BEGIN (R280). -/
def execBlobBegin (src : FrameSrc) (s : State) : Host.Outcome State Fault Refusal :=
  .next (s.copServe src (isOp 0x18))

/-- BLOB_SEG (R280). -/
def execBlobSeg (src : FrameSrc) (s : State) : Host.Outcome State Fault Refusal :=
  .next (s.copServe src (isOp 0x19))

/-- BLOB_END (R280). -/
def execBlobEnd (src : FrameSrc) (s : State) : Host.Outcome State Fault Refusal :=
  .next (s.copServe src (isOp 0x1a))

/-- NOTIFY_ACK (R281). -/
def execNotifyAck (src : FrameSrc) (s : State) : Host.Outcome State Fault Refusal :=
  .next (s.copServe src (isOp 0x21))

/-! ### Frames that write or read an entry of their own -/

/-- ARM (R265). -/
def execArm (src : FrameSrc) (s : State) : Host.Outcome State Fault Refusal :=
  .next (s.copServe src (writesEntry 0x1010 2 (some 1)))

/-- RUN (R264, R265). -/
def execRun (src : FrameSrc) (s : State) : Host.Outcome State Fault Refusal :=
  .next (s.copServe src (writesEntry 0x1010 2 (some 2)))

/-- HOLD (R156). -/
def execHold (src : FrameSrc) (s : State) : Host.Outcome State Fault Refusal :=
  .next (s.copServe src (writesEntry 0x1010 2 (some 3)))

/-- RELEASE (R156). -/
def execRelease (src : FrameSrc) (s : State) : Host.Outcome State Fault Refusal :=
  .next (s.copServe src (writesEntry 0x1010 2 (some 4)))

/-- QUIESCE (R266). -/
def execQuiesce (src : FrameSrc) (s : State) : Host.Outcome State Fault Refusal :=
  .next (s.copServe src (writesEntry 0x1010 2 (some 5)))

/-- WARM_RESET (R264). -/
def execWarmReset (src : FrameSrc) (s : State) : Host.Outcome State Fault Refusal :=
  .next (s.copServe src (writesEntry 0x1010 2 (some 6)))

/-- FORCE_FAULT (R264). -/
def execForceFault (src : FrameSrc) (s : State) : Host.Outcome State Fault Refusal :=
  .next (s.copServe src (writesEntry 0x1010 2 (some 7)))

/-- TAKEOVER (R267). -/
def execTakeover (src : FrameSrc) (s : State) : Host.Outcome State Fault Refusal :=
  .next (s.copServe src (writesEntry 0x1010 2 (some 8)))

/-- FENCE (R295). -/
def execFence (src : FrameSrc) (s : State) : Host.Outcome State Fault Refusal :=
  .next (s.copServe src (writesEntry 0x9200 2 (some 1)))

/-- RETIRE (R299). -/
def execRetire (src : FrameSrc) (s : State) : Host.Outcome State Fault Refusal :=
  .next (s.copServe src (writesEntry 0x9200 2 (some 2)))

/-- READMIT (R300). -/
def execReadmit (src : FrameSrc) (s : State) : Host.Outcome State Fault Refusal :=
  .next (s.copServe src (writesEntry 0x9200 2 (some 3)))

/-- FT_SET (R149). -/
def execFtSet (src : FrameSrc) (s : State) : Host.Outcome State Fault Refusal :=
  .next (s.copServe src (writesEntry 0x4000 2 none))

/-- The beat table (R158). -/
def execBeatTable (src : FrameSrc) (s : State) : Host.Outcome State Fault Refusal :=
  .next (s.copServe src (writesEntry 0x4300 1 none))

/-- One beat entry (R158). -/
def execBeatEntry (src : FrameSrc) (s : State) : Host.Outcome State Fault Refusal :=
  .next (s.copServe src (writesEntry 0x4301 2 none))

/-- The layout descriptor (R246). -/
def execLayout (src : FrameSrc) (s : State) : Host.Outcome State Fault Refusal :=
  .next (s.copServe src (writesEntry 0x2010 2 none))

/-- The roster (R316). -/
def execRoster (src : FrameSrc) (s : State) : Host.Outcome State Fault Refusal :=
  .next (s.copServe src (writesEntry 0x6001 1 none))

/-- The program manifest (R283). -/
def execProgramManifest (src : FrameSrc) (s : State) : Host.Outcome State Fault Refusal :=
  .next (s.copServe src (writesEntry 0x1300 1 none))

/-- The retirement map (R298). -/
def execRetireMap (src : FrameSrc) (s : State) : Host.Outcome State Fault Refusal :=
  .next (s.copServe src (writesEntry 0x9400 1 none))

/-- The operator keys (R278). -/
def execOperatorKeys (src : FrameSrc) (s : State) : Host.Outcome State Fault Refusal :=
  .next (s.copServe src (writesEntry 0xa100 1 none))

/-- The job key (R117). -/
def execJobKey (src : FrameSrc) (s : State) : Host.Outcome State Fault Refusal :=
  .next (s.copServe src (writesEntry 0xa200 1 none))

/-- A firmware image (R312). -/
def execFwImage (src : FrameSrc) (s : State) : Host.Outcome State Fault Refusal :=
  .next (s.copServe src (writesEntry 0xa300 1 none))

/-- FW_ACTIVATE (R312). -/
def execFwActivate (src : FrameSrc) (s : State) : Host.Outcome State Fault Refusal :=
  .next (s.copServe src (writesEntry 0xa300 2 none))

/-- ROLLBACK_COMMIT (R311). -/
def execRollbackCommit (src : FrameSrc) (s : State) : Host.Outcome State Fault Refusal :=
  .next (s.copServe src (writesEntry 0xa300 4 none))

/-- A debug token (R317). -/
def execDebugToken (src : FrameSrc) (s : State) : Host.Outcome State Fault Refusal :=
  .next (s.copServe src (writesEntry 0xa500 2 none))

/-- The end of a debug unlock (R318). -/
def execDebugScope (src : FrameSrc) (s : State) : Host.Outcome State Fault Refusal :=
  .next (s.copServe src (writesEntry 0xa500 3 (some 0)))

/-- HBM_BIST_START (R334). -/
def execHbmBistStart (src : FrameSrc) (s : State) : Host.Outcome State Fault Refusal :=
  .next (s.copServe src (writesEntry 0xf320 1 none))

/-- PRBS_MODE (R335). -/
def execPrbsMode (src : FrameSrc) (s : State) : Host.Outcome State Fault Refusal :=
  .next (s.copServe src (writesEntry 0xf310 2 none))

/-- A read of the debug challenge (R317). -/
def execDebugChallenge (src : FrameSrc) (s : State) : Host.Outcome State Fault Refusal :=
  .next (s.copServe src (readsEntry 0xa500 1))

/-- A read of the attestation report (R315). -/
def execAttestReport (src : FrameSrc) (s : State) : Host.Outcome State Fault Refusal :=
  .next (s.copServe src (readsEntry 0xa020 1))

/-- A read of the accumulator image (R89). -/
def execAccImage (src : FrameSrc) (s : State) : Host.Outcome State Fault Refusal :=
  .next (s.copServe src (readsEntry 0xf201 1))

/-! ### Timers -/

namespace State

/-- Is there a session of this number, the Crown serving its timers, of which `f` holds? -/
def sessionIs (s : State) (id : Nat) (f : Session → Bool) : Bool :=
  !s.crown.down && s.crown.sessions.any (fun x => x.id == id && f x)

/-- The unacknowledged NOTIFY `nseq` of a session is sent once more, at most 8 times, and then dropped as lost (R281). -/
def notifyAgain (s : State) (x : Session) (nseq : Nat) : State :=
  match x.sent.find? (fun n => n.nseq == nseq) with
  | none => s
  | some n =>
    if n.resends < 8 then
      (s.sesMod x.id (fun y => { y with
        sent := y.sent.map (fun m => if m.nseq = nseq then { m with resends := m.resends + 1 } else m) })).copSend x.peer n.frame
    else
      (s.sesMod x.id (fun y => { y with sent := y.sent.filter (fun m => m.nseq != nseq), lost := true })).bumpBy 0x1210 5
        (rdLe n.frame 16 1)

end State

/-- NOTIFY_RESEND (R281): 500 ms have passed without an acknowledgement of this frame. -/
def execNotifyResend (session nseq : Nat) (s : State) : Host.Outcome State Fault Refusal :=
  if s.crown.down then .next s else .next (((s.session session).map (fun x => s.notifyAgain x nseq)).getD s)

/-- SESSION_IDLE (R277). -/
def execSessionIdle (session : Nat) (s : State) : Host.Outcome State Fault Refusal :=
  if s.sessionIs session (fun x => x.isOpen) then .next (s.dropSession session) else .next s

/-- PENDING_SESSION_EXPIRY (R274). -/
def execPendingSessionExpiry (session : Nat) (s : State) : Host.Outcome State Fault Refusal :=
  if s.sessionIs session (fun x => !x.isOpen) then .next (s.dropSession session) else .next s

/-- BLOB_ABANDON (R280). -/
def execBlobAbandon (session : Nat) (s : State) : Host.Outcome State Fault Refusal :=
  if s.crown.down then .next s else .next (s.sesMod session (fun y => { y with blob := none }))

/-! ### Management traffic (R173, R254) -/

namespace State

/-- The entries that the restart leader (R254) and the active gateway (R238) write over VC7. -/
def mgmtEntry (index sub : Nat) : Bool := [(0x2010, 1), (0x2010, 2), (0x4100, 1), (0x7600, 6), (0x7600, 7)].contains (index, sub)

/-- A value for one of these entries arrives. The group and the majority are what the gateway says; the others are written under R269,
and the descriptor, which comes first, begins the restart. -/
def mgmtWrite (s : State) (src index sub : Nat) (typ : Option Nat) (v : List Byte) : State :=
  let c := s.odCheck 2 false index sub typ v
  if index = 0x7600 then
    (if mgmtEntry index sub && s.gatewayOf == some src && v.length == (if sub = 6 then 8 else 1) then s.odSetShown index sub (leNat v)
      else s.bump 0x1210 4)
  else if !mgmtEntry index sub || s.modState != stQuiet || c.2 != cOk then s.bump 0x1210 4
  else
    let s1 := c.1.odApply [(index, sub, v)]
    if index = 0x2010 && sub == 2 then restartWaits s s1 else s1

/-- A frame of a member of the site job. -/
def mgmtFrame (s : State) (src : Nat) (f : List Byte) : State :=
  let b := fBody f
  let set (x : Option BlobXfer) : State := { s with vc7 := fput none s.vc7 src x }
  let bad := s.bump 0x1210 4
  match fOp f, fget none s.vc7 src with
  | 0x11, _ =>
    match bodyItems 0x11 b with
    | some [i] => s.mgmtWrite src i.index i.sub (some i.typ) i.value
    | _ => bad
  | 0x18, _ =>
    if b.length = 8 && rdLe b 3 1 == 1 && mgmtEntry (rdLe b 0 2) (rdLe b 2 1) then
      set (some { index := rdLe b 0 2, sub := rdLe b 2 1, writing := true, total := rdLe b 4 4, snapshot := [], segs := [] })
    else bad
  | 0x19, some t =>
    if 8 ≤ b.length && b.length == 8 + rdLe b 4 2 then
      match t.take (rdLe b 0 4) (b.drop 8) with
      | some u => set (some u)
      | none => bad
    else bad
  | 0x1A, some t =>
    match (if b.length = 4 then t.complete (leNat b) else none) with
    | some v => (set none).mgmtWrite src t.index t.sub none v
    | none => set none |>.bump 0x1210 4
  | _, _ => bad

end State

/-- MGMT (R173): a COP frame without a session from a member of the site job, or a dump read. -/
def execMgmt (src : Nat) (s : State) : Host.Outcome State Fault Refusal :=
  if !s.crownServes then .next s
  else match s.takeRx src 9 with
  | none => .next s
  | some (x, t) =>
    let f := x.body
    .next (if frameForm f && fSession f == 0 && fMac f == zeros 16 && t.siteMembers.contains src then t.mgmtFrame src f
      else t.bump 0x1210 4)

end Sys2Proof.Machine
end

