-- ==== Sys2Proof/Machine/Sync.lean ====
section
/-! DEFINITION. The sync class (02, 2.11) and the sync objects (06, 6.1 to 6.4). -/

namespace Sys2Proof.Machine

/-- The operand v of Table 2.15. -/
def syncV (d : Hand) (w : W64) : W32 := d.sreg (fld w 32 4) + BitVec.ofNat 32 (fld w 0 32)

/-- Issue of a sync operation that sends a request to the object its SID and MODE name. -/
def syncIssue (s : State) (p h row : Nat) (mk : State → Nat → W32 → ReqOp × Bool) : State :=
  s.issueAs p h row (fun s d w =>
    match s.sidOf p d (fld w 38 18) (fld w 36 2) with
    | .error c => .fault c
    | .ok sid =>
      let r := mk s sid (syncV d w)
      let s1 := s.syncSend sid { src := .hand p h d.pc row, op := r.1 }
      if r.2 then .wait s1 else .done s1)

/-- SADD: a combining ADD; the hand continues at once. -/
def execSadd (p h : Nat) (s : State) : Host.Outcome State Fault Refusal :=
  .next (syncIssue s p h 0x20 (fun _ _ v => (.add v, false)))

/-- SSET: an acquiring SET; the hand continues at once. -/
def execSset (p h : Nat) (s : State) : Host.Outcome State Fault Refusal :=
  .next (syncIssue s p h 0x21 (fun _ _ v => (.set v, false)))

/-- STGT: an acquiring target set; the hand continues at once. -/
def execStgt (p h : Nat) (s : State) : Host.Outcome State Fault Refusal :=
  .next (syncIssue s p h 0x22 (fun _ _ v => (.tgt v, false)))

/-- SWGE: WAIT_GE. -/
def execSwge (p h : Nat) (s : State) : Host.Outcome State Fault Refusal :=
  .next (syncIssue s p h 0x23 (fun _ _ v => (.waitGe v, true)))

/-- SWEQ: WAIT_EQ. -/
def execSweq (p h : Nat) (s : State) : Host.Outcome State Fault Refusal :=
  .next (syncIssue s p h 0x24 (fun _ _ v => (.waitEq v, true)))

/-- SARV: ARRIVE; with TARGET 0 the hand continues at once (R139). -/
def execSarv (p h : Nat) (s : State) : Host.Outcome State Fault Refusal :=
  .next (syncIssue s p h 0x25 (fun s sid _ =>
    let waits := decide ((s.sync sid).target ≠ 0)
    (.arrive waits, waits)))

/-- The conditions of SBR (Table 2.14, R137). -/
def sbrCond (c : Nat) (count v : W32) : Bool :=
  match c with
  | 0 => serialGe count v
  | 1 => count == v
  | 2 => !serialGe count v
  | _ => count != v

/-- SBR: branch on the current count, without waiting. -/
def execSbr (p h : Nat) (s : State) : Host.Outcome State Fault Refusal :=
  .next (s.issueAs p h 0x26 (fun s d w =>
    match s.sidOf p d (fld w 38 18) (fld w 36 2) with
    | .error c => .fault c
    | .ok sid =>
      if s.syncIsolated sid then .isolated (s.isolate (s.crossed (s.pinUnits p) (s.pinUnits (sid / 32))))
      else if sbrCond (fld w 34 2) (s.sync sid).count (BitVec.ofNat 32 (fld w 16 16)) then .jump s (fld w 0 11)
      else .done s))

/-! ### The application of requests at an object -/

/-- Do two requests come from one hand, or from one other module? -/
def sameSource (a b : ReqSrc) : Bool :=
  match a, b with
  | .hand p h _ _, .hand p' h' _ _ => p == p' && h == h'
  | .remote m, .remote m' => m == m'
  | _, _ => false

/-- Is the request at position `i` the first of its source on the way? The requests of a hand reach an object in issue order, and so
do the increments of another module (R144). -/
def firstOfSource (l : List Req) (i : Nat) : Bool :=
  match l[i]? with
  | none => false
  | some r => !((l.take i).any (fun q => sameSource q.src r.src))

/-- The requester number of an acquiring request: hand h of pinion p is 2p + h (R138). -/
def reqNum (r : Req) : Nat :=
  match r.src with
  | .hand p h _ _ => 2 * p + h
  | _ => 0

/-- Step 1 of R138: at most one acquiring operation, and the pointer past it. -/
def acquireOne (n : Nat) (o : SyncObj) : SyncObj :=
  match grant (o.acq.map reqNum) o.ptr n with
  | none => o
  | some k =>
    let o1 := { o with ptr := (k + 1) % n, acq := o.acq.eraseP (fun r => reqNum r == k) }
    match (o.acq.find? (fun r => reqNum r == k)).map Req.op with
    | some (.set v) => { o1 with count := v }
    | some (.tgt v) => { o1 with target := v.setWidth 16 }
    | _ => o1

/-- What a combining request adds. -/
def addend (r : Req) : W32 :=
  match r.op with
  | .add v => v
  | .arrive _ => 1
  | _ => 0

/-- Does a request wait at the object? -/
def waits (r : Req) : Bool :=
  match r.op with
  | .waitGe _ => true
  | .waitEq _ => true
  | .arrive w => w
  | _ => false

/-- Is a waiter's condition met by the object at the end of the cycle; `tripped` tells whether the barrier tripped in it? -/
def released (o : SyncObj) (tripped : Bool) (r : Req) : Bool :=
  match r.op with
  | .waitGe v => serialGe o.count v
  | .waitEq v => o.count == v
  | .arrive _ => tripped
  | _ => true

/-- One cycle of an object (R138, R139) in which some requests reach it: the object after it, and the released waiters. -/
def applyCycle (n : Nat) (o : SyncObj) (reached : List Req) : SyncObj × List Req :=
  let acq := reached.filter (fun r => match r.op with
    | .set _ => true
    | .tgt _ => true
    | _ => false)
  let o1 := acquireOne n { o with acq := o.acq ++ acq }
  let c := reached.foldl (fun a r => a + addend r) o1.count
  let trip := decide (o1.target ≠ 0) && serialGe c (o1.target.setWidth 32)
  let o2 := { o1 with
    count := if trip then c - o1.target.setWidth 32 else c,
    phase := if trip then !o1.phase else o1.phase,
    waiters := o1.waiters ++ reached.filter waits }
  ({ o2 with waiters := o2.waiters.filter (fun r => !released o2 trip r) }, o2.waiters.filter (released o2 trip))

/-- A waiter is released: its hand becomes ready after the fabric's release time (R141). -/
def releaseHand (s : State) (r : Req) : State :=
  match r.src with
  | .hand p h _ _ =>
    let d := s.hand p h
    if d.st = .syncWait then s.setHand p h { d with st := .released s.relStamp } else s
  | _ => s

/-- A sync operation answered ISOLATED (R142): a hand takes the fault, an engine's is counted, and the post of a queue entry
is counted and announced as Table 12.9 says. -/
def isolatedReq (s : State) (r : Req) : State :=
  match r.src with
  | .engine => s.bump 0x4200 3
  | .remote _ => s.bump 0x4200 3
  | .entry => (s.bump 0x4200 3).countNotify 0x9300 2
  | .hand p h pc op => s.takeFault p h pc op fIsolated

/-- The elements of a list at some positions. -/
def pick {α : Type} (l : List α) (idx : List Nat) : List α :=
  ((List.range l.length).filter (fun i => idx.contains i)).filterMap (fun i => l[i]?)

/-- The elements of a list at the other positions. -/
def leave {α : Type} (l : List α) (idx : List Nat) : List α :=
  ((List.range l.length).filter (fun i => !idx.contains i)).filterMap (fun i => l[i]?)

/-- SYNC_APPLY (R138): the requests on the way at the positions `reach` reach the object, in one cycle. An ADD may
latch the seal (R218), and counts on REPLAY_SID (R252). A closed Bezel in the way answers ISOLATED (R142, Table 1.7). -/
def execSyncApply (sid : Nat) (reach : List Nat) (s : State) : Host.Outcome State Fault Refusal :=
  let o := s.sync sid
  if decide (sid < 262144) && reach.all (firstOfSource o.onWay) then
    let reached := pick o.onWay reach
    let rest := leave o.onWay reach
    if s.syncIsolated sid then
      .next (reached.foldl isolatedReq ((s.syncMod sid (fun x => { x with onWay := rest })).isolate
        (reached.flatMap (fun r => s.crossed (match r.src with
          | .hand p _ _ _ => s.pinUnits p
          | _ => [(5, 0)]) (s.pinUnits (sid / 32))))))
    else
      let r := applyCycle (2 * s.pinCount) { o with onWay := rest } reached
      let s1 := r.2.foldl releaseHand (s.syncMod sid (fun _ => r.1))
      .next (State.countReplays (State.sealLatch { s1 with relStamp := s1.relStamp + 1 } sid reached) sid reached)
  else .next s

/-- The released hands of a pinion that become ready in the same cycle as hand `h`. -/
def sameRelease (a b : HandSt) : Bool :=
  match a, b with
  | .released i, .released j => i == j
  | _, _ => false

/-- Has an object let a hand's wait go? -/
def isReleased : HandSt → Bool
  | .released _ => true
  | _ => false

/-- WAIT_RELEASE (R141): a released wait becomes ready in its hand. If both hands of the pinion become ready in the same
cycle, which is so where one cycle of one object released both and otherwise where `h.tied` says it, issue goes to the hand of the
rotating-priority rule, hand A as requester 0 (R52). -/
def execWaitRelease (p : Nat) (h : Event) (s : State) : Host.Outcome State Fault Refusal :=
  let x := s.pin p
  let d := x.hand h.unit
  match d.st with
  | .released _ =>
    if decide (h.unit < 2) && d.stream.isSome && s.inService p then
      let e := x.hand (1 - h.unit)
      if sameRelease d.st e.st || (h.tied && isReleased e.st && e.stream.isSome) then
        let g := x.handPtr % 2
        let s1 := s.pinMod p (fun y => { y with cur := g, handPtr := (g + 1) % 2 })
        .next ((s1.resumeAt p h.unit d.pc).resumeAt p (1 - h.unit) e.pc)
      else .next (s.resumeAt p h.unit d.pc)
    else .next s
  | _ => .next s

end Sys2Proof.Machine
end

