-- ==== Sys2Proof/Machine/TestAccess.lean ====
section
/-! DEFINITION. Test access: the TAP (R333), the end of an HBM BIST (R334), and the end of a debug unlock (R318). -/

namespace Sys2Proof.Machine

namespace State

/-- The TAP takes an instruction. -/
def tapIr (s : State) (i : TapIr) : State := { s with test := { s.test with ir := i } }

/-- Bits pass through the bypass register, one bit long. -/
def bypassShift (s : State) (bits : List Bool) : State :=
  let all := s.test.byp :: bits
  State.emit { s with test := { s.test with ir := .bypass, byp := (all.getLast?).getD false } } (.scan all.dropLast)

/-- Does the TAP execute every instruction other than IDCODE as BYPASS (R333)? -/
def tapBypassed (s : State) : Bool := decide (stArmed ≤ s.modState) && decide (s.modState ≤ stHeld)

/-- Is the TAP without supply? -/
def tapDead (s : State) : Bool := s.plat.needPower

/-- `n` sampled pins: open. -/
def samplePins (s : State) (n : Nat) : List Bool × State :=
  let d := s.draw n
  ((List.range n).map (fun i => d.1.getLsbD i), d.2)

/-- The boundary register takes cells and gives the pins it sampled. -/
def boundaryShift (s : State) (i : TapIr) (cells : List Bool) : State :=
  if s.tapBypassed then s.bypassShift cells
  else
    let d := s.samplePins cells.length
    State.emit { d.2 with test := { d.2.test with ir := i, cells := cells } } (.scan d.1)

end State

/-- BYPASS: one bit. -/
def execBypass (tdi : Bool) (s : State) : Host.Outcome State Fault Refusal :=
  if s.tapDead then .next s else .next (s.bypassShift [tdi])

/-- IDCODE: 0x1096_0A4B, the least significant bit first. -/
def execIdcode (s : State) : Host.Outcome State Fault Refusal :=
  if s.tapDead then .next s
  else .next ((s.tapIr .idcode).emit (.scan ((List.range 32).map (fun i => Nat.testBit 0x10960A4B i))))

/-- SAMPLE/PRELOAD: the pins are sampled, and the cells preloaded. -/
def execSamplePreload (cells : List Bool) (s : State) : Host.Outcome State Fault Refusal :=
  if s.tapDead then .next s else .next (s.boundaryShift .sample cells)

/-- EXTEST: the cells drive their pins. -/
def execExtest (cells : List Bool) (s : State) : Host.Outcome State Fault Refusal :=
  if s.tapDead then .next s else .next (s.boundaryShift .extest cells)

/-- CLAMP: the cells hold their pins. -/
def execClamp (s : State) : Host.Outcome State Fault Refusal :=
  if s.tapDead then .next s else .next (if s.tapBypassed then s.tapIr .bypass else s.tapIr .clamp)

/-- HIGHZ: the cells put their pins in high-Z. -/
def execHighz (s : State) : Host.Outcome State Fault Refusal :=
  if s.tapDead then .next s else .next (if s.tapBypassed then s.tapIr .bypass else s.tapIr .highz)

/-- INTERNAL_TEST: not accepted while debug scope bit 1 is locked; unlocked, the spec gives the instruction no effect. -/
def execInternalTest (bits : List Bool) (s : State) : Host.Outcome State Fault Refusal :=
  if s.tapDead then .next s
  else if s.tapBypassed then .next (s.bypassShift bits)
  else if Nat.testBit (s.odGet 0xA500 3) 1 then .refused .testInstruction
  else .next s

/-- BIST_COMPLETE (R334): `failures` are the failing lines of each stack, those of a stack under test. -/
def execBistComplete (failures : List Nat) (s : State) : Host.Outcome State Fault Refusal :=
  if s.test.bist = 0 then .next s
  else
    let counts := (List.range 8).flatMap (fun k => toLe 8 (if Nat.testBit s.test.bist k then failures.getD k 0 else 0))
    .next (State.blobSet (State.odSet { s with test := { s.test with bist := 0 } } 0xF320 2 2) 0xF320 3 counts)

/-- DEBUG_EXPIRY (R318). -/
def execDebugExpiry (s : State) : Host.Outcome State Fault Refusal :=
  if s.odGet 0xA500 3 = 0 then .next s else .next s.lockDebug

end Sys2Proof.Machine
end

