-- ==== Sys2Proof/Machine/DataMove.lean ====
section
/-! DEFINITION. The data-move class and its engine (02, 2.12, R53, R57). -/

namespace Sys2Proof.Machine

/-- A post field: POST, SID and MODE at given places; none where POST is clear. MODE 11 is reserved. -/
def postField (s : State) (p : Nat) (d : Hand) (post : Bool) (sid mode : Nat) : Except Nat (Option Nat) :=
  if mode = 3 then .error fIllegal
  else if post then (s.sidOf p d sid mode).map some
  else .ok none

/-- Issue of DMV or DPF: the descriptors lie at s[DREG] + DOFF * 32, 32-byte aligned, in the data area. DEDUCED (log 17): the staging
area that bounds the descriptors of a DPF (R53) is the one set when it issues. -/
def dmIssue (s : State) (p h row q : Nat) : State :=
  s.issueAs p h row (fun s d w =>
    match postField s p d (Nat.testBit w.toNat 55) (fld w 37 18) (fld w 35 2) with
    | .error c => .fault c
    | .ok post =>
      let base := regOff d (fld w 31 4) (fld w 23 8) 32
      let n := if fld w 15 8 = 0 then 256 else fld w 15 8
      if base % 32 ≠ 0 || !State.inData base (32 * n) then .fault fAddr
      else
        let job := DmJob.xfer h d.pc row base n post d.stgBase.toNat d.stgSize.toNat (q == 1)
        .done (s.pinMod p (fun x => x.setDmq q (x.dmq q ++ [job]))))

/-- DMV: queue 0. -/
def execDmv (p h : Nat) (s : State) : Host.Outcome State Fault Refusal := .next (dmIssue s p h 0x40 0)

/-- DPF: queue 1, into the staging area. -/
def execDpf (p h : Nat) (s : State) : Host.Outcome State Fault Refusal := .next (dmIssue s p h 0x41 1)

/-- A transfer descriptor (Table 2.17). -/
structure XferDesc where
  src : Nat
  dst : Nat
  rows : Nat
  rowBytes : Nat
  srcStride : Nat
  dstStride : Nat
  flags : Nat
  tag : Nat
  rsv : Nat
  deriving DecidableEq, Repr

/-- Read the fields of a descriptor. -/
def xferDesc (b : List Byte) : XferDesc :=
  { src := rdLe b 0 8, dst := rdLe b 8 8, rows := rdLe b 0x10 2, rowBytes := rdLe b 0x12 2, srcStride := rdLe b 0x14 4,
    dstStride := rdLe b 0x18 4, flags := rdLe b 0x1C 1, tag := rdLe b 0x1D 1, rsv := rdLe b 0x1E 2 }

/-- The first address of a SRC or DST field: absolute, an offset in the own data area, or rank-relative. -/
def xferBase (p rank rows stride f : Nat) : Nat :=
  match f / 2 ^ 62 with
  | 1 => daAddr p + f % 2 ^ 48
  | 2 => f % 2 ^ 48 + rank * rows * stride
  | _ => f % 2 ^ 48

/-- May a row be a source (R57)? -/
def srcRowOk (s : State) (p a n : Nat) : Bool :=
  match s.region a n with
  | .hbm _ => true
  | .slowTier => true
  | .barrel t => t == s.t2Of p
  | .data _ => true
  | .instr _ => true
  | .shadow => true
  | .unmapped => false

/-- May a row be a destination (R57)? -/
def dstRowOk (s : State) (p a n : Nat) : Bool :=
  match s.region a n with
  | .hbm _ => true
  | .slowTier => true
  | .barrel t => t == s.t2Of p
  | .data _ => true
  | _ => false

/-- The closed Bezels that a row of a pinion's transfer crosses (R296). -/
def rowCrosses (s : State) (p a n : Nat) : List (Nat × Nat) := s.crossed (s.pinUnits p) (s.regionUnits (s.region a n))

/-- Does a row lie wholly in the data area of a pinion? -/
def inOwnData (s : State) (p a n : Nat) : Bool := s.region a n == .data p

/-- The checks of R57 on a whole descriptor; `src` and `dst` are its first addresses. -/
def xferOk (s : State) (p src dst : Nat) (x : XferDesc) : Bool :=
  let rowsOk (base stride : Nat) (f : Nat → Bool) := (List.range x.rows).all (fun i => f (base + i * stride))
  x.src / 2 ^ 48 % 2 ^ 14 == 0 && x.dst / 2 ^ 48 % 2 ^ 14 == 0 && decide (x.src / 2 ^ 62 ≠ 3) && decide (x.dst / 2 ^ 62 ≠ 3) &&
  decide (1 ≤ x.rows) && decide (64 ≤ x.rowBytes) && x.rowBytes % 64 == 0 &&
  decide (x.flags ≤ 1) && decide (x.tag < 64) && x.rsv == 0 &&
  rowsOk src x.srcStride (fun a => srcRowOk s p a x.rowBytes && (x.src / 2 ^ 62 != 1 || inOwnData s p a x.rowBytes)) &&
  rowsOk dst x.dstStride (fun a => dstRowOk s p a x.rowBytes && (x.dst / 2 ^ 62 != 1 || inOwnData s p a x.rowBytes)) &&
  (x.flags == 0 || rowsOk dst x.dstStride (fun a => inOwnData s p a x.rowBytes))

/-- Does a destination row lie in the staging area of a DPF (R53)? -/
def inStaging (s : State) (p base size a n : Nat) : Bool :=
  inOwnData s p a n && decide (base ≤ a - daAddr p) && decide (a - daAddr p + n ≤ base + size)

/-- Write a tag into the entries of the 1 KiB blocks a range of the data area touches (R94). -/
def setTags (s : State) (p off n tag : Nat) : State :=
  s.pinMod p (fun x => { x with tags :=
    ((List.range ((off + n - 1) / 1024 + 1 - off / 1024)).foldl (fun m i => fput 0 m (off / 1024 + i) tag) x.tags) })

/-- Move rows in ascending order; a row that crosses a closed Bezel stops the transfer there. True where all moved. -/
def moveRows (p : Nat) (x : XferDesc) : Nat → State → Nat → Nat → State × Bool
  | 0, s, _, _ => (s, true)
  | n + 1, s, src, dst =>
    let c := rowCrosses s p src x.rowBytes ++ rowCrosses s p dst x.rowBytes
    if !c.isEmpty then ((s.bump 0x9300 1).isolate c, false)
    else
      let s1 := s.writeBytes dst (s.readBytes src x.rowBytes)
      let s2 := if x.flags = 1 then setTags s1 p (dst - daAddr p) x.rowBytes x.tag else s1
      moveRows p x n s2 (src + x.srcStride) (dst + x.dstStride)

/-- Can the arrays and the epilogue of a pinion work: in service, and the module neither in reset nor dumping? -/
def engineOn (s : State) (p : Nat) : Bool :=
  s.inService p && decide (stQuiet ≤ s.modState) && decide (s.modState ≤ stFaulted)

/-- Can the data-move engine of a pinion work? Behind a closed Bezel of its own a pinion's transfers go on until they meet it
(R296). -/
def moveOn (s : State) (p : Nat) : Bool :=
  decide (p < s.pinCount) && decide (s.pinSt p ≤ 1) && decide (stQuiet ≤ s.modState) && decide (s.modState ≤ stFaulted)

/-- In FAULTED an engine ends the entry that is in flight and starts no other (R302). -/
def State.mayWork (s : State) (p k : Nat) : Bool := s.modState != stFaulted || !s.spent.contains (p, k)

/-- The entry in flight at an engine of a pinion has ended. -/
def State.headDone (s : State) (p k : Nat) : State := if s.modState = stFaulted then { s with spent := (p, k) :: s.spent } else s

/-- A transfer fault of a hand (DESC, ADDR or ISOLATED): the job ends; while the pinion is already stopping, or the hand has faulted
behind its closed Bezel, it only ends. -/
def xferFault (s : State) (p q h pc op code : Nat) (rest : List DmJob) : State :=
  let s1 := (s.pinMod p (fun y => y.setDmq q rest)).headDone p q
  if (s1.pin p).stopping.isSome then s1.tryStop p
  else if (s1.hand p h).stream.map (·.faulted) = some true then s1
  else s1.takeFault p h pc op code

/-- A job of a queue ends with its post. -/
def jobDone (s : State) (p q : Nat) (post : Option Nat) (rest : List DmJob) : State :=
  (((s.pinMod p (fun y => y.setDmq q rest)).postOpt post).headDone p q).tryStop p

/-- The next `n` lines of the BST or BLD at the head of queue 0 (R105); it posts after its last line. -/
def barrelLines (s : State) (p h pc : Nat) (store : Bool) (slot addr lines off n : Nat) (post : Option Nat) (rest : List DmJob) : State :=
  let k := min (max n 1) lines
  let c := s.crossed (s.pinUnits p) (s.regionUnits (.barrel (s.t2Of p)))
  if !c.isEmpty then xferFault ((s.bump 0x9300 1).isolate c) p 0 h pc (if store then 0xA1 else 0xA2) fIsolated rest
  else
    let s1 := runBarrelJob s p store slot addr k off
    if k < lines then s1.pinMod p (fun y => { y with dmq0 := .barrel h pc store slot (addr + 64 * k) (lines - k) (off + k) post :: rest })
    else jobDone s1 p 0 post rest

/-- DATA_MOVE_DESCRIPTOR (R53, R57): the descriptor at the head of a queue is read, checked whole, and its rows move; a row with an
uncorrectable error is not delivered (R136). Where a BST or BLD is at the head, its next `q.lines` lines move (R105). DEDUCED (log 17): s2
of a rank-relative address is the hand's when the descriptor executes. -/
def execDataMoveDescriptor (p : Nat) (q : MoveTurn) (s : State) : Host.Outcome State Fault Refusal :=
  if moveOn s p && decide (q.queue < 2) && s.mayWork p q.queue then
    match (s.pin p).dmq q.queue with
    | .xfer h pc op base left post sb sz pre :: rest =>
      let x := xferDesc (s.rdData p base 32)
      let rank := ((s.hand p h).sreg 2).toNat
      let src := xferBase p rank x.rows x.srcStride x.src
      let dst := xferBase p rank x.rows x.dstStride x.dst
      if !xferOk s p src dst x then .next (xferFault s p q.queue h pc op fDesc rest)
      else if pre && !((List.range x.rows).all (fun i => inStaging s p sb sz (dst + i * x.dstStride) x.rowBytes)) then
        .next (xferFault s p q.queue h pc op fAddr rest)
      else
        let rows := (List.range x.rows).map (fun i => (src + i * x.srcStride, x.rowBytes))
        let clean := rows.takeWhile (fun r => (s.wrongLine [r]).isNone)
        let r := moveRows p x clean.length s src dst
        if r.2 && decide (clean.length < x.rows) then
          .next ((r.1.eccFault ((s.wrongLine (rows.drop clean.length)).getD 0)).headDone p q.queue)
        else if !r.2 then .next (xferFault r.1 p q.queue h pc op fIsolated rest)
        else if left ≤ 1 then .next (jobDone r.1 p q.queue post rest)
        else
          .next ((r.1.pinMod p (fun y => y.setDmq q.queue (.xfer h pc op (base + 32) (left - 1) post sb sz pre :: rest))).headDone p q.queue)
    | .barrel h pc store slot addr lines off post :: rest => .next (barrelLines s p h pc store slot addr lines off q.lines post rest)
    | [] => .next s
  else .next s

end Sys2Proof.Machine
end

