-- ==== Sys2Proof/Machine/Matrix.lean ====
section
/-! DEFINITION. The arrays: passes, tiles, flip, chain, the interlock and the pass queue (02, 2.3 to 2.6 and 2.13; 03, 3.2;
04, 4.2 and 4.4). -/

namespace Sys2Proof.Machine

/-- The operand format group of a code (Table 2.20): 1 8-bit float, 2 4-bit float, 3 integer, 4 slice, 5 16-bit float. -/
def fmtGroup (f : Nat) : Option Nat :=
  match f with
  | 0 => some 1
  | 1 => some 1
  | 2 => some 1
  | 3 => some 2
  | 4 => some 3
  | 8 => some 4
  | 5 => some 5
  | 6 => some 5
  | 7 => some 5
  | _ => none

/-- Does a group accumulate INT32? -/
def groupInt (g : Nat) : Bool := g == 3 || g == 4

/-- Is a code an MX format, which has no transposed layout (R49)? -/
def isMx (f : Nat) : Bool := f == 2 || f == 3

/-- Bytes of an operand block with its scale line (Table 2.3). -/
def blockBytes (f : Nat) : Nat :=
  match f with
  | 2 => 1088
  | 3 => 1088
  | 5 => 512
  | 6 => 512
  | 7 => 576
  | _ => 1024

/-- K values of a pass (Table 2.4). -/
def passK (f : Nat) : Nat :=
  match f with
  | 3 => 128
  | 5 => 16
  | 6 => 16
  | 7 => 16
  | _ => 64

/-- One byte of a block. -/
def byteAt (b : List Byte) (i : Nat) : Nat := (b.getD i 0).toNat

/-- The value of element (m, k) of an operand block in layout N or T (Table 2.3), its block scale applied (R61). -/
def opElem (f : Nat) (t : Bool) (b : List Byte) (m k : Nat) : FV :=
  match f with
  | 2 => decMx false (byteAt b (1024 + 2 * m + k / 32)) (byteAt b (64 * m + k))
  | 3 =>
    let n := 128 * m + k
    let x := byteAt b (n / 2)
    decMx true (byteAt b (1024 + 4 * m + k / 32)) (if n % 2 = 0 then x % 16 else x / 16)
  | 5 => let o := if t then 32 * k + 2 * m else 32 * m + 2 * k
         decBf16 (byteAt b o + 256 * byteAt b (o + 1))
  | 6 => let o := if t then 32 * k + 2 * m else 32 * m + 2 * k
         decF16 (byteAt b o + 256 * byteAt b (o + 1))
  | 7 => let o := if t then 32 * k + 2 * m else 32 * m + 2 * k
         decSfp16 (byteAt b (512 + o / 128)) (byteAt b o + 256 * byteAt b (o + 1))
  | _ => decElem f (byteAt b (if t then 16 * k + m else 64 * m + k))

/-- The signed digit of element (m, k) of an integer or slice block. -/
def opInt (t : Bool) (b : List Byte) (m k : Nat) : Int := sInt 8 (byteAt b (if t then 16 * k + m else 64 * m + k))

/-- The exact product of A(i, k) and B(j, k). -/
def cellProd (r : Pass) (i j k : Nat) : FV := (opElem r.fmtA r.tA r.bytesA i k).mul (opElem r.fmtB r.tB r.bytesB j k)

/-- A float cell over a pass (R63): one rounding per K-step, in ascending K; MXFP4 adds two products exactly per step. -/
def cellFloat (r : Pass) (i j : Nat) (acc : W32) : W32 :=
  let steps := if r.fmtA = 3 then 64 else passK r.fmtA
  BitVec.ofNat 32 ((List.range steps).foldl (fun a q =>
    let p := if r.fmtA = 3 then (cellProd r i j (2 * q)).add (cellProd r i j (2 * q + 1)) else cellProd r i j q
    enc32 ((dec32 a).add p)) acc.toNat)

/-- A clamped integer cell over a pass (R65): the value and whether a clamp took place. -/
def cellInt (r : Pass) (i j : Nat) (acc : W32) : W32 × Bool :=
  let x := (List.range 64).foldl (fun (a : Int × Bool) q =>
    let v := a.1 + opInt r.tA r.bytesA i q * opInt r.tB r.bytesB j q
    let c := clampI (-2147483648) 2147483647 v
    (c, a.2 || decide (c ≠ v))) (acc.toInt, false)
  (BitVec.ofInt 32 x.1, x.2)

/-- The starting value of a cell of a non-chain pass (R39): zero, a bias line or a partial tile. -/
def initCell (r : Pass) (i j : Nat) : W32 :=
  match r.initMode with
  | 1 => BitVec.ofNat 32 (rdLe r.initBytes (4 * j) 4)
  | 2 => BitVec.ofNat 32 (rdLe r.initBytes (64 * i + 4 * j) 4)
  | _ => 0

/-- A tile after a pass over it. -/
def passTile (t : Tile) (r : Pass) : Tile :=
  let cells := (List.range 256).map (fun n =>
    let i := n / 16
    let j := n % 16
    let a := if r.chain then t.acc.getD n 0 else initCell r i j
    if t.isInt then cellInt r i j a else (cellFloat r i j a, false))
  { t with acc := cells.map (·.1), sat := (r.chain && t.sat) || cells.any (·.2) }

/-- Does an array hold a pass over a bank that is not complete? -/
def bankBusy (a : Arr) (b : Nat) : Bool :=
  [a.tail, a.running, a.queued].any (fun o => match o with
    | some r => r.bank == b
    | none => false)

/-- May the pass in the running slot start: a plain pass waits for the previous pass to complete (R42)? -/
def mayStart (a : Arr) : Bool :=
  match a.running with
  | some r => !r.started && (!r.plain || a.tail.isNone)
  | none => false

/-- A pass starts: it reads its operand and INIT bytes. -/
def startPass (s : State) (p : Nat) (r : Pass) : Pass :=
  { r with
    started := true,
    bytesA := s.rdData p r.addrA (blockBytes r.fmtA),
    bytesB := s.rdData p r.addrB (blockBytes r.fmtB),
    initBytes := if r.chain then [] else match r.initMode with
      | 1 => s.rdData p r.initAddr 64
      | 2 => s.rdData p r.initAddr 1024
      | _ => [] }

/-- Start the pass of an array. -/
def startArr (s : State) (p a : Nat) : State :=
  s.pinMod p (fun x => x.setArr a { x.arr a with running := (x.arr a).running.map (startPass s p) })

/-- Start every pass that may start; the two passes of an MTXB share cycle 0 (R58). In FAULTED none starts (R302). -/
def advance (s : State) (p : Nat) : State :=
  let x := s.pin p
  let pairedAt (a : Nat) : Bool := match (x.arr a).running with
    | some r => r.paired
    | none => false
  let ok (a : Nat) : Bool := mayStart (x.arr a) && (!pairedAt a || (pairedAt (1 - a) && mayStart (x.arr (1 - a))))
  if s.modState = stFaulted then s
  else
    let s1 := if ok 0 then startArr s p 0 else s
    if ok 1 then startArr s1 p 1 else s1

/-- Put a pass on an array: in the running slot if it is empty, otherwise in the queue. -/
def addPass (x : Pinion) (a : Nat) (r : Pass) : Pinion :=
  let y := x.arr a
  let z := if y.running.isNone then { y with running := some r } else { y with queued := some r }
  let w := x.setArr a { z with lastBank := some r.bank }
  if a = 0 then { w with handA := { w.handA with seen0 := true }, handB := { w.handB with seen0 := true } }
  else { w with handA := { w.handA with seen1 := true }, handB := { w.handB with seen1 := true } }

/-- A tile named by a pass of a group. -/
def nameTile (x : Pinion) (a : Nat) (r : Pass) (g : Nat) : Pinion :=
  let t := x.tile a r.bank
  x.setTile a r.bank (if r.chain then t else { t with held := true, isInt := groupInt g, sat := false })

/-- What the interlock says of a pass on a tile: issue, wait, or a fault (R40, R41, R44, R45). -/
inductive TileCheck where
  | ok
  | wait
  | fault (code : Nat)
  deriving DecidableEq, Repr

/-- The flip, chain and interlock rules for one pass. -/
def tileCheck (x : Pinion) (d : Hand) (a bank g : Nat) (flip chain : Bool) : TileCheck :=
  let t := x.tile a bank
  let seen := if a = 0 then d.seen0 else d.seen1
  if flip && (!seen || (x.arr a).lastBank == some bank) then .fault fFlipBank
  else if chain then
    (if !t.held || t.drain.isSome then .fault fTileEmpty
     else if t.isInt ≠ groupInt g then .fault fFormat else .ok)
  else if t.drain.isSome then .wait
  else if t.held then .fault fTileHeld
  else .ok

/-- A hand waits at the tile interlock; each wait counts once (R46). -/
def interlockWait (s : State) (p : Nat) (d : Hand) : IssueRes :=
  .stay (if d.st = .interlock then s else s.pinCountBy p 0x2140 2 2 1) .interlock

/-- Is a block address aligned to a line and its bytes in the data area? -/
def blockOk (a n : Nat) : Bool := a % 64 == 0 && State.inData a n

/-- The tag of the 1 KiB block that holds an address (R94). -/
def tagAt (x : Pinion) (a : Nat) : Nat := fget 0 x.tags (a / 1024)

/-- The pass that an MTX word makes, and its operand group. -/
def mtxPass (x : Pinion) (d : Hand) (w : W64) : Pass :=
  let bit (i : Nat) := Nat.testBit w.toNat i
  let addrA := regOff d (fld w 38 4) (fld w 30 8) 64
  let var := if bit 43 then tagAt x addrA * d.setv.toNat else 0
  { bank := fld w 50 1, chain := bit 48, plain := !bit 49 && !bit 48, initMode := fld w 46 2,
    initAddr := regOff d (fld w 14 4) (fld w 6 8) 64, fmtA := fld w 52 4, fmtB := fld w 2 4, tA := bit 45, tB := bit 44,
    addrA := addrA, addrB := (regOff d (fld w 26 4) (fld w 18 8) 64 + var) % 2 ^ 32, paired := false }

/-- Are the addresses of a pass aligned and in bounds? INIT counts only where it is used. -/
def passAddrOk (r : Pass) : Bool :=
  blockOk r.addrA (blockBytes r.fmtA) && blockOk r.addrB (blockBytes r.fmtB) &&
    (r.chain || r.initMode == 0 || blockOk r.initAddr (if r.initMode = 1 then 64 else 1024))

/-- MTX (Table 2.18). The reserved INIT value 11 raises ILLEGAL_OP, as a reserved field does (DEDUCED, log 17: no line of Table 2.10
names it); a chain pass ignores INIT (R41). -/
def execMtx (p h : Nat) (s : State) : Host.Outcome State Fault Refusal :=
  .next (s.issueAs p h 0x80 (fun s d w =>
    let x := s.pin p
    let a := fld w 51 1
    let r := mtxPass x d w
    let flip := Nat.testBit w.toNat 49
    if (r.chain && flip) || (!r.chain && r.initMode == 3) then .fault fIllegal
    else match fmtGroup r.fmtA with
    | none => .fault fFormat
    | some g =>
      if fmtGroup r.fmtB ≠ some g || (r.tA && isMx r.fmtA) || (r.tB && isMx r.fmtB) then .fault fFormat
      else if !passAddrOk r then .fault fAddr
      else match tileCheck x d a r.bank g flip r.chain with
      | .fault c => .fault c
      | .wait => interlockWait s p d
      | .ok =>
        if (x.arr a).queued.isSome then .stay s .queueHold
        else
          let s1 := s.setPin p (addPass (nameTile x a r g) a r)
          let s2 := if g = 5 && (r.tA || r.tB) then s1.pinCountBy p 0x2140 6 6 1 else s1
          .done (advance s2 p)))

/-- May the formats of an MTXB be used (R59, R90)? -/
def mtxbFormatsOk (adp : Bool) (y w x : Nat) : Bool :=
  match fmtGroup y with
  | none => false
  | some g =>
    fmtGroup w == some g && fmtGroup x == some g &&
      (if adp then (g == 1 || g == 3 || g == 5) && !isMx w else g == 5)

/-- The two passes of an MTXB word (Tables 2.19, 4.2 and 4.3). -/
def mtxbPasses (x : Pinion) (d : Hand) (w : W64) : Pass × Pass :=
  let bit (i : Nat) := Nat.testBit w.toNat i
  let adp := bit 47
  let addrY := regOff d (fld w 38 4) (fld w 30 8) 64
  let tag := if adp then tagAt x addrY * d.setv.toNat else 0
  let addrX := (regOff d (fld w 14 4) (fld w 6 8) 64 + tag) % 2 ^ 32
  let mk (bank : Nat) (chain : Bool) (fA fB : Nat) (tA tB : Bool) (aA aB : Nat) : Pass :=
    { bank := bank, chain := chain, plain := !chain && !bit 46, initMode := 0, initAddr := 0, fmtA := fA, fmtB := fB,
      tA := tA, tB := tB, addrA := aA, addrB := aB, paired := true }
  (mk (fld w 51 1) (bit 49) (fld w 52 4) (fld w 42 4) false true addrY (regOff d (fld w 26 4) (fld w 18 8) 64),
   mk (fld w 50 1) (bit 48) (fld w 2 4) (fld w 52 4) (!adp) (!adp) addrX addrY)

/-- MTXB (Table 2.19, R58, R90 to R93). -/
def execMtxb (p h : Nat) (s : State) : Host.Outcome State Fault Refusal :=
  .next (s.issueAs p h 0x81 (fun s d w =>
    let x := s.pin p
    let r := mtxbPasses x d w
    let flip := Nat.testBit w.toNat 46
    if !mtxbFormatsOk (Nat.testBit w.toNat 47) r.1.fmtA r.1.fmtB r.2.fmtA then .fault fFormat
    else if !passAddrOk r.1 || !passAddrOk r.2 then .fault fAddr
    else
      let g := (fmtGroup r.1.fmtA).getD 0
      match tileCheck x d 0 r.1.bank g (flip && !r.1.chain) r.1.chain, tileCheck x d 1 r.2.bank g (flip && !r.2.chain) r.2.chain with
      | .fault c, _ => .fault c
      | _, .fault c => .fault c
      | .wait, _ => interlockWait s p d
      | _, .wait => interlockWait s p d
      | .ok, .ok =>
        if x.arr0.queued.isSome || x.arr1.queued.isSome then .stay s .queueHold
        else
          let y := addPass (addPass (nameTile (nameTile x 0 r.1 g) 1 r.2 g) 0 r.1) 1 r.2
          let s1 := s.setPin p y
          .done (advance (if g = 5 then s1.pinCountBy p 0x2140 6 6 2 else s1) p)))

/-! ### Events of a pass -/

/-- The last K-step of the running pass has entered: the queued pass moves up behind it (R43). -/
def kStep (a : Arr) : Arr := { a with tail := a.running, running := a.queued, queued := none }

/-- Is the pass of an array's running slot started, with none before it incomplete? -/
def kReady (a : Arr) : Bool :=
  match a.running with
  | some r => r.started && a.tail.isNone
  | none => false

/-- Is a pass half of an MTXB? -/
def isPaired (o : Option Pass) : Bool :=
  match o with
  | some r => r.paired
  | none => false

/-- LAST_K_STEP_ENTERED (R40, R43): both halves of an MTXB enter it together. -/
def execLastKStepEntered (p arr : Nat) (s : State) : Host.Outcome State Fault Refusal :=
  let x := s.pin p
  let a := arr % 2
  if engineOn s p && decide (arr < 2) && kReady (x.arr a) then
    let y := x.setArr a (kStep (x.arr a))
    let z := if isPaired (x.arr a).running && kReady (x.arr (1 - a)) then y.setArr (1 - a) (kStep (x.arr (1 - a))) else y
    .next (advance (s.setPin p z) p)
  else .next s

/-- The drain of a tile asks for the epilogue, with the stamp `n` of the cycle, once its last pass is complete (R47). -/
def requestDrain (x : Pinion) (a b n : Nat) : Pinion :=
  let t := x.tile a b
  match t.drain with
  | some d => if d.request.isNone && !bankBusy (x.arr a) b then
      x.setTile a b { t with drain := some { d with request := some n } } else x
  | none => x

/-- The pass of an array completes, with the stamp `n` of the cycle: its tile takes the sums, and a queued drain may ask for the
epilogue. -/
def completeArr (x : Pinion) (a n : Nat) : Pinion :=
  match (x.arr a).tail with
  | none => x
  | some r =>
    let y := (x.setTile a r.bank { passTile (x.tile a r.bank) r with done := n }).setArr a { x.arr a with tail := none }
    requestDrain y a r.bank n

/-- PASS_COMPLETE (R38): cell (15, 15) performs the last K-step; both halves of an MTXB complete in the same cycle. With `arr.tied`, the
pinion's previous DRN or completion is of this cycle too, so that their requests are of one cycle (R47). -/
def execPassComplete (p : Nat) (arr : Event) (s : State) : Host.Outcome State Fault Refusal :=
  let x := s.pin p
  let a := arr.unit % 2
  if engineOn s p && decide (arr.unit < 2) && (x.arr a).tail.isSome then
    let n := if arr.tied then x.stamp - 1 else x.stamp
    let y := completeArr x a n
    let z := if isPaired (x.arr a).tail && isPaired (x.arr (1 - a)).tail then completeArr y (1 - a) n else y
    .next ((advance (s.setPin p { z with stamp := n + 1 }) p).tryStop p)
  else .next s

end Sys2Proof.Machine
end

