-- ==== Sys2Proof/Machine/Epilogue.lean ====
section
/-! DEFINITION. The epilogue: DRN and the service of a drain (03, R72 to R80; 02, Table 2.21). -/

namespace Sys2Proof.Machine

/-- An epilogue descriptor (Table 3.2). -/
structure EpiDesc where
  outFmt : Nat
  rescale : Nat
  bias : Bool
  raw : Bool
  outT : Bool
  sat : Bool
  amaxT : Bool
  amaxCh : Bool
  act : Nat
  fold : Int
  rows : Nat
  rowsField : Nat
  pair : Nat
  chReg : Nat
  statEn : Nat
  stride : Nat
  scaleOut : Nat
  scaleTab : Nat
  biasTab : Nat
  amaxTAddr : Nat
  amaxChTab : Nat
  statAddr : Nat
  rsv : Nat
  deriving DecidableEq, Repr

/-- Read the fields of a descriptor. -/
def epiDesc (b : List Byte) : EpiDesc :=
  let mode := rdLe b 1 1
  let rv := rdLe b 4 1
  { outFmt := rdLe b 0 1, rescale := mode % 4, bias := Nat.testBit mode 2, raw := Nat.testBit mode 3, outT := Nat.testBit mode 4,
    sat := Nat.testBit mode 5, amaxT := Nat.testBit mode 6, amaxCh := Nat.testBit mode 7, act := rdLe b 2 1,
    fold := sInt 8 (rdLe b 3 1), rows := if rv = 0 then 16 else rv, rowsField := rv, pair := rdLe b 5 1, chReg := rdLe b 6 1,
    statEn := rdLe b 7 1, stride := rdLe b 8 4, scaleOut := rdLe b 0xC 4, scaleTab := rdLe b 0x10 4, biasTab := rdLe b 0x14 4,
    amaxTAddr := rdLe b 0x18 4, amaxChTab := rdLe b 0x1C 4, statAddr := rdLe b 0x20 4, rsv := rdLe b 0x24 28 }

namespace EpiDesc

/-- Is the output an MX format? -/
def mx (e : EpiDesc) : Bool := !e.raw && isMx e.outFmt

/-- Is the output SFP16? -/
def sfp (e : EpiDesc) : Bool := !e.raw && e.outFmt == 7

/-- Bytes of an output row or column (Table 3.3). -/
def rowBytes (e : EpiDesc) : Nat :=
  if e.raw then 64
  else match e.outFmt with
    | 2 => 32
    | 3 => 16
    | 5 => 32
    | 6 => 32
    | 7 => 32
    | 9 => 64
    | _ => 16

/-- Bytes of one output element that is not MX. -/
def elemBytes (e : EpiDesc) : Nat := e.rowBytes / 16

/-- Channels whose table entries the drain uses. -/
def chans (e : EpiDesc) : Nat := if e.pair = 2 then 32 else 16

/-- Are the stages of R72 used (not RAW)? -/
def staged (e : EpiDesc) (on : Bool) : Bool := !e.raw && on

/-- Does the descriptor hold a reserved value or a forbidden combination (R74)? -/
def illegal (e : EpiDesc) : Bool :=
  (!e.raw && !(decide (e.outFmt ≤ 7) || e.outFmt == 9)) || e.rescale == 3 || (decide (7 ≤ e.act) && decide (e.act < 16)) ||
  decide (16 < e.rowsField) || decide (2 < e.pair) || decide (16 ≤ e.chReg) || decide (2 ≤ e.statEn) || e.rsv != 0 ||
  (e.mx && e.pair == 0) || (e.mx && e.outT) || (e.pair != 0 && !e.mx) || (e.pair != 0 && e.raw) ||
  e.stride % e.rowBytes != 0 || (e.sfp && e.stride != 32)

/-- The data-area ranges of the tables and words the drain uses, each an address and a length; `c` is the channel base. -/
def tables (e : EpiDesc) (c : Nat) : List (Nat × Nat) :=
  (if e.staged (e.rescale == 2) then [(e.scaleTab + 4 * c, 4 * e.chans)] else []) ++
  (if e.staged e.bias then [(e.biasTab + 4 * c, 4 * e.chans)] else [])

/-- The words and tables the drain updates. -/
def updates (e : EpiDesc) (c : Nat) : List (Nat × Nat) :=
  (if e.staged e.amaxT then [(e.amaxTAddr, 4)] else []) ++
  (if e.staged e.amaxCh then [(e.amaxChTab + 4 * c, 4 * e.chans)] else []) ++
  (if e.statEn = 1 then [(e.statAddr, 4)] else [])

/-- The output extent of R74, each range an address and a length. -/
def extent (e : EpiDesc) (out : Nat) : List (Nat × Nat) :=
  if e.pair = 1 then []
  else
    (if e.outT then (List.range 16).map (fun j => (out + j * e.stride, e.elemBytes * e.rows))
     else (List.range e.rows).map (fun i => (out + i * e.stride, e.rowBytes))) ++
    (if e.mx then [(e.scaleOut, e.rows)] else if e.sfp then [(e.scaleOut, 4)] else [])

/-- Is an enabled address not 4-byte aligned, or a range not wholly in the data area (R74, R82)? `eb` is the SETEB base. DEDUCED
(log 18): the descriptor's addresses alone are "enabled", so the DRN's own output address may have any alignment. -/
def badAddr (e : EpiDesc) (eb c out : Nat) : Bool :=
  let on : List (Nat × Bool) := [(e.scaleTab, e.staged (e.rescale == 2)), (e.biasTab, e.staged e.bias),
    (e.amaxTAddr, e.staged e.amaxT), (e.amaxChTab, e.staged e.amaxCh), (e.statAddr, e.statEn == 1),
    (e.scaleOut, (e.mx || e.sfp) && e.pair != 1)]
  on.any (fun x => x.2 && x.1 % 4 != 0) ||
  (e.tables c ++ e.updates c ++ e.extent out).any (fun x => !State.inData x.1 x.2) ||
  (e.staged (decide (16 ≤ e.act)) && !State.inData (eb + 0x1000 + (e.act - 16) * 256) 256)

end EpiDesc

/-- What a drain reads beside its descriptor: the table entries and the user activation record (R73). -/
def drainReads (s : State) (p : Nat) (e : EpiDesc) (eb c : Nat) : List Byte :=
  (e.tables c).flatMap (fun x => s.rdData p x.1 x.2) ++
    (if e.staged (decide (16 ≤ e.act)) then s.rdData p (eb + 0x1000 + (e.act - 16) * 256) 256 else [])

/-- DRN (Table 2.21, R45, R73, R74): the tile's state, then the checks of the descriptor at issue, then the drain is queued at the tile; it asks for the epilogue at once if the
tile's last pass is complete (R47). -/
def execDrn (p h : Nat) (s : State) : Host.Outcome State Fault Refusal :=
  .next (s.issueAs p h 0xA0 (fun s d w =>
    let x := s.pin p
    let a := fld w 55 1
    let b := fld w 54 1
    let eb := d.seteb.toNat
    let at_ := eb + fld w 48 6 * 64
    let out := regOff d (fld w 44 4) (fld w 36 8) 64
    match postField s p d (Nat.testBit w.toNat 29) (fld w 11 18) (fld w 9 2) with
    | .error c => .fault c
    | .ok post =>
      let t := x.tile a b
      if t.drain.isSome then interlockWait s p d
      else if !t.held then .fault fTileEmpty
      else if !State.inData at_ 64 then .fault fAddr
      else
        let bytes := s.rdData p at_ 64
        let e := epiDesc bytes
        let c := d.sreg (e.chReg % 16)
        if e.illegal then .fault fIllegal
        else if e.badAddr eb c.toNat out then .fault fAddr
        else
          let dr : Drain := { hand := h, epi := at_, chan := c, out := out, post := post,
                              desc := bytes ++ toLe 4 eb ++ drainReads s p e eb c.toNat }
          .done (s.setPin p { requestDrain (x.setTile a b { t with drain := some dr }) a b x.stamp with stamp := x.stamp + 1 })))

/-! ### The service of a drain -/

/-- The v3 values of a tile (R72, stages 1 to 4), row by row; `c` is the channel of column 0. -/
def drainV3 (s : State) (p : Nat) (e : EpiDesc) (eb c : Nat) (t : Tile) : List Nat :=
  let rec_ := s.rdData p (eb + 0x1000 + (e.act - 16) * 256) 256
  (List.range 256).map (fun n =>
    let j := n % 16
    let a := t.acc.getD n 0
    let v0 := if t.isInt then f32ofInt a.toInt else a.toNat
    let v1 := match e.rescale with
      | 1 => enc32 ((dec32 v0).scale e.fold)
      | 2 => f32mul v0 (leNat (s.rdData p (e.scaleTab + 4 * (c + j)) 4))
      | _ => v0
    let v2 := if e.bias then f32add v1 (leNat (s.rdData p (e.biasTab + 4 * (c + j)) 4)) else v1
    if 16 ≤ e.act then actUser rec_ v2 else actBuiltin e.act v2)

/-- Flags NAN_OUT and INF_OUT of a value (Table 3.4). -/
def nonfinFlags (v : FV) : Nat := (if v.isNan then flNan else 0) + (if v.isInf then flInf else 0)

/-- What the conversion of a drain gives: the writes (address and bytes), the flags, and the values that saturated. -/
structure DrainOut where
  writes : List (Nat × List Byte)
  flags : Nat
  sats : Nat
  deriving DecidableEq, Repr

/-- The values that a conversion saturated. -/
def satCount (l : List (Nat × Nat)) : Nat := (l.filter (fun x => Nat.testBit x.2 3)).length

/-- The bytes of element codes of `n` bytes each. -/
def codeBytes (n : Nat) (l : List (Nat × Nat)) : List Byte := l.flatMap (fun x => toLe n x.1)

/-- FP4 codes packed two to a byte, low nibble first. -/
def packNibbles : List (Nat × Nat) → List Byte
  | a :: b :: l => BitVec.ofNat 8 (a.1 % 16 + 16 * (b.1 % 16)) :: packNibbles l
  | [a] => [BitVec.ofNat 8 (a.1 % 16)]
  | [] => []

/-- The lines of an output that is not MX: row i, or column j under OUT_T, each with its valid elements. -/
def drainLines (e : EpiDesc) (v : List Nat) : List (List Nat) :=
  if e.outT then (List.range 16).map (fun j => (List.range e.rows).map (fun i => v.getD (16 * i + j) 0))
  else (List.range 16).map (fun i => if i < e.rows then (List.range 16).map (fun j => v.getD (16 * i + j) 0) else [])

/-- The output of a drain with an unscaled format, or RAW (R75). -/
def outPlain (e : EpiDesc) (out : Nat) (v : List Nat) : DrainOut :=
  let ls := (drainLines e v).map (fun l => l.map (fun x =>
    if e.raw then (x, 0) else convElem e.outFmt e.sat (dec32 x)))
  { writes := ((List.range 16).zip ls).filterMap (fun q =>
      if q.2.isEmpty then none else some (out + q.1 * e.stride, codeBytes e.elemBytes q.2)),
    flags := orFlags (ls.flatten.map (·.2)), sats := satCount ls.flatten }

/-- The output of an SFP16 drain: four storage blocks of four rows or columns, each with its scale (R71, R77). -/
def outSfp (e : EpiDesc) (out : Nat) (v : List Nat) : DrainOut :=
  let ls := drainLines e v
  let blocks := (List.range 4).map (fun q =>
    let mine := (List.range 4).map (fun r => ls.getD (4 * q + r) [])
    let r := convSfp16 e.sat (mine.flatten.map dec32)
    let cut (k : Nat) := ((mine.take k).map List.length).sum
    let rows := (List.range 4).filterMap (fun k =>
      let n := (mine.getD k []).length
      if n = 0 then none else some (out + (4 * q + k) * e.stride, codeBytes 2 ((r.2.1.drop (cut k)).take n)))
    (rows ++ [(e.scaleOut + q, toLe 1 r.1)], orFlags (r.2.1.map (·.2)) ||| r.2.2, satCount r.2.1))
  { writes := blocks.flatMap (·.1), flags := orFlags (blocks.map (·.2.1)), sats := (blocks.map (·.2.2)).sum }

/-- The output of an MX pair: each row's 32 elements and its scale byte (R70, R76). -/
def outMx (e : EpiDesc) (out : Nat) (held own : List Nat) : DrainOut :=
  let rows := (List.range e.rows).map (fun i =>
    let vs := ((List.range 16).map (fun j => held.getD (16 * i + j) 0)) ++ ((List.range 16).map (fun j => own.getD (16 * i + j) 0))
    let r := convMx (e.outFmt == 3) (vs.map dec32)
    ([(out + i * e.stride, if e.outFmt = 3 then packNibbles r.2.1 else codeBytes 1 r.2.1), (e.scaleOut + i, toLe 1 r.1)],
      orFlags (r.2.1.map (·.2)) ||| r.2.2, satCount r.2.1))
  { writes := rows.flatMap (·.1), flags := orFlags (rows.map (·.2.1)), sats := (rows.map (·.2.2)).sum }

/-- The amax rule of R79 on one word: the larger magnitude, NaN once any is NaN. -/
def amaxWord (w : Nat) (vs : List Nat) : Nat := enc32 (vs.foldl (fun a x => FV.vmax a (dec32 x).abs) (dec32 w))

/-- Update a 32-bit word of the data area. -/
def updWord (s : State) (p a : Nat) (f : Nat → Nat) : State := s.wrData p a (toLe 4 (f (leNat (s.rdData p a 4))))

/-- The amax updates (R79): per tensor over all valid values, per channel over each column. -/
def amaxUpdate (s : State) (p : Nat) (e : EpiDesc) (c : Nat) (cols : List (List Nat)) : State :=
  let s1 := if e.staged e.amaxT then updWord s p e.amaxTAddr (fun w => amaxWord w cols.flatten) else s
  if e.staged e.amaxCh then
    ((List.range cols.length).zip cols).foldl (fun a q => updWord a p (e.amaxChTab + 4 * (c + q.1)) (fun w => amaxWord w q.2)) s1
  else s1

/-- The valid values of each column. -/
def validCols (rows : Nat) (v : List Nat) : List (List Nat) :=
  (List.range 16).map (fun j => (List.range rows).map (fun i => v.getD (16 * i + j) 0))

/-- Apply writes to a pinion's data area. -/
def applyWrites (s : State) (p : Nat) (ws : List (Nat × List Byte)) : State := ws.foldl (fun a w => a.wrData p w.1 w.2) s

/-- Open bytes over a range of a data area. -/
def openBytes (p : Nat) : Nat → State → Nat → State
  | 0, s, _ => s
  | n + 1, s, a =>
    let r := s.draw 8
    openBytes p n (r.2.wrData p a [r.1]) (a + 1)


/-- The counters of a served drain (Table 3.10). -/
def countDrain (s : State) (p : Nat) (t : Tile) (flags sats : Nat) : State :=
  let s1 := if t.sat then s.pinCountBy p 0x2160 1 7 1 else s
  let s2 := if sats = 0 then s1 else s1.pinCountBy p 0x2160 2 8 sats
  if flags &&& (flNan + flInf) = 0 then s2 else s2.pinCountBy p 0x2160 3 9 1

/-- `n` open words of 32 bits. -/
def openWords : Nat → State → List W32 → List W32 × State
  | 0, s, l => (l, s)
  | n + 1, s, l =>
    let r := s.draw 32
    openWords n r.2 (r.1 :: l)

/-- The drain of a descriptor, table entry or record that changed since its issue (R73): every byte the descriptor `e`, as read
now, names is open, and so are the flags, the amax words and what is counted of the outputs; nothing reaches beyond the data area.
`pair` is PAIR as it was at issue: the old or the new one is read. The pair buffer is filled or emptied all the same, and the tile's
saturation counts, so that no other drain is affected. -/
def openDrain (s : State) (p : Nat) (t : Tile) (e : EpiDesc) (pair c out : Nat) : State :=
  let s1 := (e.extent out ++ e.updates c).foldl (fun a r => openBytes p (min r.2 (daSize - r.1)) a r.1) s
  let d := s1.draw 1
  let f := d.2.draw 7
  let k := f.2.draw 16
  let x := k.2.pin p
  let pr := if d.1 = 0 then pair else e.pair
  if pr = 1 then
    let v := openWords 256 k.2 []
    let s2 := v.2.setPin p { x with pair := some (v.1, f.1.toNat) }
    countDrain (if x.pair.isSome then s2.pinCountBy p 0x2160 4 10 1 else s2) p t 0 0
  else
    countDrain (if pr = 2 then k.2.setPin p { x with pair := none } else k.2) p t f.1.toNat
      (k.1.toNat % (if pr = 2 then 513 else 257))

/-- Serve a drain whose reads have not changed (R72 to R79). -/
def serveDrain (s : State) (p : Nat) (t : Tile) (d : Drain) (e : EpiDesc) (eb : Nat) : State :=
  let c := d.chan.toNat
  let satF := if t.sat then flAccSat else 0
  let stat (s : State) (f : Nat) : State :=
    if e.statEn = 1 then updWord s p e.statAddr (fun w => w ||| f) else s
  if e.raw then
    let v := t.acc.map (·.toNat)
    let v' := if v.isEmpty then List.replicate 256 0 else v
    let o := outPlain e d.out v'
    let nf := if t.isInt then 0 else orFlags ((validCols e.rows v').flatten.map (fun x => nonfinFlags (dec32 x)))
    countDrain (stat (applyWrites s p o.writes) (satF ||| nf)) p t nf 0
  else
    let v := drainV3 s p e eb (if e.pair = 2 then c + 16 else c) t
    if e.pair = 1 then
      let x := s.pin p
      let drop := if x.pair.isSome then flPairDrop else 0
      let s1 := s.setPin p { x with pair := some (v.map (BitVec.ofNat 32 ·), satF ||| drop) }
      let s2 := if x.pair.isSome then s1.pinCountBy p 0x2160 4 10 1 else s1
      countDrain s2 p t 0 0
    else if e.pair = 2 then
      let x := s.pin p
      let held := match x.pair with
        | some q => (q.1.map BitVec.toNat, q.2)
        | none => (List.replicate 256 0, 0)
      let o := outMx e d.out held.1 v
      let cols := validCols e.rows held.1 ++ validCols e.rows v
      let f := o.flags ||| held.2 ||| satF ||| orFlags (cols.flatten.map (fun x => nonfinFlags (dec32 x)))
      let s1 := applyWrites (s.setPin p { x with pair := none }) p o.writes
      countDrain (stat (amaxUpdate s1 p e c cols) f) p t f o.sats
    else
      let o := if e.sfp then outSfp e d.out v else outPlain e d.out v
      let cols := validCols e.rows v
      let f := o.flags ||| satF ||| orFlags (cols.flatten.map (fun x => nonfinFlags (dec32 x)))
      countDrain (stat (amaxUpdate (applyWrites s p o.writes) p e c cols) f) p t f o.sats

/-- The stamp of a tile's drain request. -/
def requestOf (x : Pinion) (a b : Nat) : Option Nat :=
  match (x.tile a b).drain with
  | some d => d.request
  | none => none

/-- The earlier of two stamps. -/
def minStamp (a b : Option Nat) : Option Nat :=
  match a, b with
  | some x, some y => some (min x y)
  | some x, none => some x
  | none, y => y

/-- The bank of an array whose drain asked at a stamp; of both its tiles, the one whose pass completed first (R47, item 2). -/
def bankAt (x : Pinion) (a n : Nat) : Option Nat :=
  let b0 := requestOf x a 0 == some n
  let b1 := requestOf x a 1 == some n
  if b0 && (!b1 || decide ((x.tile a 0).done ≤ (x.tile a 1).done)) then some 0 else if b1 then some 1 else none

/-- Mark that the order of a request within its cycle has been decided. -/
def settle (x : Pinion) (a b : Nat) : Pinion :=
  let t := x.tile a b
  x.setTile a b { t with drain := t.drain.map (fun d => { d with settled := true }) }

/-- Mark every request of a stamp. -/
def settleAll (x : Pinion) (n : Nat) : Pinion :=
  [(0, 0), (0, 1), (1, 0), (1, 1)].foldl (fun y c => if requestOf x c.1 c.2 = some n then settle y c.1 c.2 else y) x

/-- Has the order of the requests of a stamp been decided? -/
def settledAt (x : Pinion) (n : Nat) : Bool :=
  [(0, 0), (0, 1), (1, 0), (1, 1)].any (fun c => match (x.tile c.1 c.2).drain with
    | some d => d.request == some n && d.settled
    | none => false)

/-- Which tile the epilogue serves next (R47), and the pinion with its pointer moved: the earliest requests; of one cycle, first
those of the array that the pointer chooses, with which it moves once, then those of the other. -/
def nextDrain (x : Pinion) : Option (Nat × Nat × Pinion) :=
  match minStamp (minStamp (requestOf x 0 0) (requestOf x 0 1)) (minStamp (requestOf x 1 0) (requestOf x 1 1)) with
  | none => none
  | some n =>
    let old := settledAt x n
    let first := if old then 1 - x.epiPtr % 2
      else if (bankAt x 0 n).isSome && (bankAt x 1 n).isSome then x.epiPtr % 2
      else if (bankAt x 0 n).isSome then 0 else 1
    let y := if old then x else settleAll { x with epiPtr := 1 - first } n
    match bankAt x first n with
    | some b => some (first, b, y)
    | none => (bankAt x (1 - first) n).map (fun b => (1 - first, b, y))

/-- EPILOGUE_SERVICE (R47, R72): the epilogue serves the next drain request; the tile is empty after it, and POST follows. -/
def execEpilogueService (p : Nat) (s : State) : Host.Outcome State Fault Refusal :=
  if engineOn s p && s.mayWork p 2 then
    match nextDrain (s.pin p) with
    | none => .next s
    | some (a, b, x) =>
      let t := x.tile a b
      match t.drain with
      | none => .next s
      | some d =>
        let s1 := s.setPin p x
        let eb := leNat ((d.desc.drop 64).take 4)
        let bytes := s1.rdData p d.epi 64
        let e := epiDesc bytes
        let now := bytes ++ toLe 4 eb ++ drainReads s1 p e eb d.chan.toNat
        let s2 := if now = d.desc then serveDrain s1 p t d e eb else openDrain s1 p t e (epiDesc d.desc).pair d.chan.toNat d.out
        .next ((((s2.headDone p 2).pinMod p (fun y => y.setTile a b (State.emptyTile (y.tile a b)))).postOpt d.post).tryStop p)
  else .next s

end Sys2Proof.Machine
end

