-- ==== Sys2Proof/Machine/Vector.lean ====
section
/-! DEFINITION. The vector class (02, 2.15, R339; 03, R83 to R87). -/

namespace Sys2Proof.Machine

/-- The lanes of a vector register, `w` bits each, lowest first. -/
def lanes (w : Nat) (v : W512) : List Nat := (List.range (512 / w)).map (fun i => fld v (i * w) w)

/-- A vector register from lanes of `w` bits, lowest first; missing lanes are 0. -/
def ofLanes (w : Nat) (l : List Nat) : W512 :=
  BitVec.ofNat 512 (l.foldr (fun x a => x % 2 ^ w + a * 2 ^ w) 0)

/-- Bits of an element of FMT 0x9 (FP32) or 0xA (FP64). -/
def vBits (fmt : Nat) : Nat := if fmt = 9 then 32 else 64

/-- Decode an element of FMT 0x9 or 0xA. -/
def vDec (fmt w : Nat) : FV := if fmt = 9 then dec32 w else dec64 w

/-- Round to an element of FMT 0x9 or 0xA, NaN canonical (R62). -/
def vEnc (fmt : Nat) (v : FV) : Nat := if fmt = 9 then enc32 v else enc64 v

/-- The values of a register's lanes. -/
def vVals (fmt : Nat) (v : W512) : List FV := (lanes (vBits fmt) v).map (vDec fmt)

/-- Does arithmetic accept the format (R339)? -/
def vArith (fmt : Nat) : Bool := fmt == 9 || fmt == 10

/-- Issue of a vector operation with a FMT field: after the reserved fields, a FMT it does not accept raises FORMAT. -/
def vecIssue (s : State) (p h row : Nat) (ok : Nat → Bool) (body : State → Hand → W64 → Nat → IssueRes) : State :=
  s.issueAs p h row (fun s d w => if ok (fld w 52 4) then body s d w (fld w 52 4) else .fault fFormat)

/-- The register in a field of a vector word. -/
def vSrc (d : Hand) (w : W64) (lo : Nat) : W512 := d.vreg (fld w lo 5)

/-- The operation ends with VD written. -/
def vDone (s : State) (p h : Nat) (w : W64) (v : W512) : IssueRes :=
  .done (s.setHand p h ((s.hand p h).setVreg (fld w 47 5) v))

/-- The operation ends with the low `n` bits of VD written; the spec does not state the others, which are open. -/
def vDoneLow (s : State) (p h : Nat) (w : W64) (n : Nat) (v : Nat) : IssueRes :=
  let r := s.draw 512
  vDone r.2 p h w (BitVec.ofNat 512 (v % 2 ^ n + (r.1.toNat >>> n) <<< n))

/-- An operation of one result per lane from VA, VB and VC, rounded once. -/
def vMap (s : State) (p h row : Nat) (f : FV → FV → FV → FV) : State :=
  vecIssue s p h row vArith (fun s d w fmt =>
    let a := vVals fmt (vSrc d w 42)
    let b := vVals fmt (vSrc d w 37)
    let c := vVals fmt (vSrc d w 32)
    vDone s p h w (ofLanes (vBits fmt) ((List.range a.length).map (fun i =>
      vEnc fmt (f (a.getD i .nan) (b.getD i .nan) (c.getD i .nan))))))

/-! ### Loads and stores -/

/-- The address of a vector load or store: s[SREG] + OFF * 64, a 64-byte line of the data area (R55). -/
def vLine (d : Hand) (w : W64) : Nat := regOff d (fld w 28 4) (fld w 20 8) 64

/-- Is the line aligned and in bounds? -/
def vLineOk (a : Nat) : Bool := a % 64 == 0 && State.inData a 64

/-- VLD: a line into VD. -/
def execVld (p h : Nat) (s : State) : Host.Outcome State Fault Refusal :=
  .next (s.issueAs p h 0x60 (fun s d w =>
    let a := vLine d w
    if vLineOk a then vDone s p h w (BitVec.ofNat 512 (leNat (s.rdData p a 64))) else .fault fAddr))

/-- VST: VA into a line. -/
def execVst (p h : Nat) (s : State) : Host.Outcome State Fault Refusal :=
  .next (s.issueAs p h 0x61 (fun s d w =>
    let a := vLine d w
    if vLineOk a then .done (s.wrData p a (toLe 64 (vSrc d w 42).toNat)) else .fault fAddr))

/-- VLDS: element IMM of a line into every lane of VD; IMM[3] is reserved with FP64. -/
def execVlds (p h : Nat) (s : State) : Host.Outcome State Fault Refusal :=
  .next (vecIssue s p h 0x62 (fun _ => true) (fun s d w fmt =>
    let k := fld w 0 4
    let n := vBits fmt / 8
    let a := vLine d w
    if fmt = 10 && decide (8 ≤ k) then .fault fIllegal
    else if !vArith fmt then .fault fFormat
    else if vLineOk a then
      vDone s p h w (ofLanes (8 * n) (List.replicate (64 / n) (leNat (s.rdData p (a + k * n) n))))
    else .fault fAddr))

/-- VSTM: the lanes of VA that the mask in IMM selects; IMM[15:8] is reserved with FP64. -/
def execVstm (p h : Nat) (s : State) : Host.Outcome State Fault Refusal :=
  .next (vecIssue s p h 0x63 (fun _ => true) (fun s d w fmt =>
    let m := fld w 0 16
    let n := vBits fmt / 8
    let a := vLine d w
    if fmt = 10 && decide (256 ≤ m) then .fault fIllegal
    else if !vArith fmt then .fault fFormat
    else if vLineOk a then
      let l := lanes (8 * n) (vSrc d w 42)
      .done ((List.range l.length).foldl (fun s i =>
        if Nat.testBit m i then s.wrData p (a + i * n) (toLe n (l.getD i 0)) else s) s)
    else .fault fAddr))

/-! ### Arithmetic, compare and select -/

/-- VADD (R83). -/
def execVadd (p h : Nat) (s : State) : Host.Outcome State Fault Refusal :=
  .next (vMap s p h 0x64 (fun a b _ => a.add b))

/-- VMUL (R83). -/
def execVmul (p h : Nat) (s : State) : Host.Outcome State Fault Refusal :=
  .next (vMap s p h 0x65 (fun a b _ => a.mul b))

/-- VFMA (R83): VA * VB + VC, rounded once. -/
def execVfma (p h : Nat) (s : State) : Host.Outcome State Fault Refusal :=
  .next (vMap s p h 0x66 (fun a b c => (a.mul b).add c))

/-- VFNMA (Table 2.25): the negated fused multiply-add, -(VA * VB + VC), rounded once. DEDUCED from what the
opcode table says of the row: the spec gives no formula (log 23). -/
def execVfnma (p h : Nat) (s : State) : Host.Outcome State Fault Refusal :=
  .next (vMap s p h 0x67 (fun a b c => ((a.mul b).add c).neg))

/-- VMIN (R83). -/
def execVmin (p h : Nat) (s : State) : Host.Outcome State Fault Refusal :=
  .next (vMap s p h 0x68 (fun a b _ => FV.vmin a b))

/-- VMAX (R83). -/
def execVmax (p h : Nat) (s : State) : Host.Outcome State Fault Refusal :=
  .next (vMap s p h 0x69 (fun a b _ => FV.vmax a b))

/-- A mask with bit i for lane i. -/
def maskOf (l : List Bool) : Nat := l.foldr (fun b a => (if b then 1 else 0) + 2 * a) 0

/-- The conditions 0 EQ, 1 NE, 2 LT and 3 GE of BCC, read for floats. -/
def vCond (fn : Nat) (a b : FV) : Bool :=
  match fn with
  | 0 => FV.eqv a b
  | 1 => !FV.eqv a b
  | 2 => FV.lt a b
  | _ => FV.lt b a || FV.eqv a b

/-- VCMP: the lanes that meet the condition FN, as a mask in the low bits of VD, the bits above it 0. FN above 3 names no condition
on floats and is an invalid FN (Table 2.10; DEDUCED, log 20). -/
def execVcmp (p h : Nat) (s : State) : Host.Outcome State Fault Refusal :=
  .next (vecIssue s p h 0x6A vArith (fun s d w fmt =>
    let a := vVals fmt (vSrc d w 42)
    let b := vVals fmt (vSrc d w 37)
    let fn := fld w 16 4
    if fn < 4 then vDone s p h w (BitVec.ofNat 512 (maskOf ((a.zip b).map (fun q => vCond fn q.1 q.2))))
    else .fault fIllegal))

/-- VSEL: lanes of VA where the mask in the low bits of VC is set, of VB elsewhere. DEDUCED (log 20): a selection is no rounding
operation of R62, so a NaN's bits are copied as they are. -/
def execVsel (p h : Nat) (s : State) : Host.Outcome State Fault Refusal :=
  .next (vecIssue s p h 0x6B vArith (fun s d w fmt =>
    let a := lanes (vBits fmt) (vSrc d w 42)
    let b := lanes (vBits fmt) (vSrc d w 37)
    let m := (vSrc d w 32).toNat
    vDone s p h w (ofLanes (vBits fmt) ((List.range a.length).map (fun i =>
      if Nat.testBit m i then a.getD i 0 else b.getD i 0)))))

/-! ### Conversions -/

/-- Bits of an element of a narrow format. -/
def narrowBits (fmt : Nat) : Nat := if fmt = 3 then 4 else if fmt = 5 || fmt == 6 || fmt == 7 then 16 else 8

/-- VCVT (R83): the low 16 elements of VA, exactly, as FP32. No scale is an operand: an MX or SFP16 element gives its
unscaled value. DEDUCED (log 21): the narrow formats are codes 0x0 to 0x7, so ISLICE and every higher code raise FORMAT (R339). -/
def execVcvt (p h : Nat) (s : State) : Host.Outcome State Fault Refusal :=
  .next (vecIssue s p h 0x6C (fun f => decide (f < 8)) (fun s d w fmt =>
    vDone s p h w (ofLanes 32 (((lanes (narrowBits fmt) (vSrc d w 42)).take 16).map (fun x => enc32 (decElem fmt x))))))

/-- The values that VCVN converts: 16 from VA, 32 from VA and VB for MX, 64 from VA to VA + 3 for SFP16 (R83). DEDUCED (log 21): the
register after v31 is v0. -/
def vcvnIn (d : Hand) (w : W64) (fmt : Nat) : List FV :=
  let va := fld w 42 5
  let regs := if fmt = 7 then [va, (va + 1) % 32, (va + 2) % 32, (va + 3) % 32]
    else if isMx fmt then [va, fld w 37 5] else [va]
  regs.flatMap (fun r => vVals 9 (d.vreg r))

/-- VCVN (R83, R68 to R71, with SAT clear): the codes go to the low bytes of VD, for SFP16 to VD and VD + 1; the scale goes to
the low byte of VC. Bytes of VD above the codes are open. VB is reserved except for MX. -/
def execVcvn (p h : Nat) (s : State) : Host.Outcome State Fault Refusal :=
  .next (vecIssue s p h 0x6D (fun _ => true) (fun s d w fmt =>
    if !isMx fmt && fld w 37 5 ≠ 0 then .fault fIllegal
    else if 8 ≤ fmt then .fault fFormat
    else
      let vs := vcvnIn d w fmt
      let r := if fmt = 7 then convSfp16 false vs
        else if isMx fmt then convMx (fmt == 3) vs
        else (0, vs.map (convElem fmt false), 0)
      let sats := satCount r.2.1
      let s0 := if sats = 0 then s else s.pinCountBy p 0x2160 2 8 sats
      let bytes := if fmt = 3 then packNibbles r.2.1 else codeBytes (narrowBits fmt / 8) r.2.1
      let vd := fld w 47 5
      let vc := fld w 32 5
      let q := s0.draw 512
      let low := 8 * min 64 bytes.length
      let d1 := (q.2.hand p h).setVreg vd (BitVec.ofNat 512 (leNat (bytes.take 64) + (q.1.toNat >>> low) <<< low))
      let d2 := if fmt = 7 then d1.setVreg ((vd + 1) % 32) (BitVec.ofNat 512 (leNat (bytes.drop 64))) else d1
      let old := (d2.vreg vc).toNat
      let d3 := if fmt = 7 || isMx fmt then d2.setVreg vc (BitVec.ofNat 512 (old - old % 256 + r.1 % 256)) else d2
      .done (q.2.setHand p h d3)))

/-- VCVF (R83): FN[0] clear, the low 8 FP32 lanes of VA to FP64; set, the 8 FP64 lanes to the low 8 FP32 lanes of VD, whose
other lanes are open. -/
def execVcvf (p h : Nat) (s : State) : Host.Outcome State Fault Refusal :=
  .next (s.issueAs p h 0x6E (fun s d w =>
    let a := vSrc d w 42
    if fld w 16 1 = 0 then vDone s p h w (ofLanes 64 (((lanes 32 a).take 8).map (fun x => enc64 (dec32 x))))
    else vDoneLow s p h w 256 (ofLanes 32 ((lanes 64 a).map (fun x => enc32 (dec64 x)))).toNat))

/-- VSCL (R83): each lane times 2^IMM, IMM signed. -/
def execVscl (p h : Nat) (s : State) : Host.Outcome State Fault Refusal :=
  .next (vecIssue s p h 0x6F vArith (fun s d w fmt =>
    vDone s p h w (ofLanes (vBits fmt) ((vVals fmt (vSrc d w 42)).map (fun v =>
      vEnc fmt (v.scale (sInt 16 (fld w 0 16))))))))

/-! ### Reductions -/

/-- One level of the pairwise tree of R84, one rounding at each addition. -/
def pairAdd (fmt : Nat) : List FV → List FV
  | a :: b :: l => vDec fmt (vEnc fmt (a.add b)) :: pairAdd fmt l
  | l => l

/-- The whole tree over 2^n lanes. -/
def treeSum (fmt : Nat) : Nat → List FV → FV
  | 0, l => l.headD .nan
  | n + 1, l => treeSum fmt n (pairAdd fmt l)

/-- A reduction: the result in lane 0 of VD, the other lanes open. -/
def vReduce (s : State) (p h row : Nat) (f : Nat → List FV → FV) : State :=
  vecIssue s p h row vArith (fun s d w fmt =>
    vDoneLow s p h w (vBits fmt) (vEnc fmt (f fmt (vVals fmt (vSrc d w 42)))))

/-- VRSUM (R84). -/
def execVrsum (p h : Nat) (s : State) : Host.Outcome State Fault Refusal :=
  .next (vReduce s p h 0x70 (fun fmt l => treeSum fmt 4 l))

/-- VRSSQ (R84): each lane squared with one rounding before the tree. -/
def execVrssq (p h : Nat) (s : State) : Host.Outcome State Fault Refusal :=
  .next (vReduce s p h 0x71 (fun fmt l => treeSum fmt 4 (l.map (fun v => vDec fmt (vEnc fmt (v.mul v))))))

/-- VRAMX (R83): the largest magnitude, NaN if any lane is NaN. -/
def execVramx (p h : Nat) (s : State) : Host.Outcome State Fault Refusal :=
  .next (vReduce s p h 0x72 (fun _ l => l.foldl (fun a v => FV.vmax a v.abs) (.fin false 0 0)))

/-- VFIN: the finite lanes, as a mask in the low bits of VD, the bits above it 0. -/
def execVfin (p h : Nat) (s : State) : Host.Outcome State Fault Refusal :=
  .next (vecIssue s p h 0x73 vArith (fun s d w fmt =>
    vDone s p h w (BitVec.ofNat 512 (maskOf ((vVals fmt (vSrc d w 42)).map FV.isFin)))))

/-! ### Split-integer products -/

/-- The shared exponent of R85 over FP64 values: floor(log2) of the largest magnitude plus 1, or 0 for zeros. -/
def sharedExp (vs : List FV) : Int :=
  match blockLog2 vs with
  | none => 0
  | some l => l + 1

/-- Slice digit t of a finite value with shared exponent e (R85). -/
def sliceDigit (v : FV) (e : Int) (t : Nat) : Int :=
  let m := v.scale (-e)
  (m.scale (7 * (t + 1))).toIntTrunc - 128 * (m.scale (7 * t)).toIntTrunc

/-- VSEX (R85): the shared exponent of the 8 FP64 lanes of VA, INT32 in lane 0 of VD, whose other lanes are open. The
options of FN and the exponent of a non-finite lane are not stated: VD is open. -/
def execVsex (p h : Nat) (s : State) : Host.Outcome State Fault Refusal :=
  .next (s.issueAs p h 0x74 (fun s d w =>
    let vs := vVals 10 (vSrc d w 42)
    if fld w 16 4 = 0 && vs.all FV.isFin then vDoneLow s p h w 32 (sNat 32 (sharedExp vs))
    else vDoneLow s p h w 0 0))

/-- VSPL (R85): digit IMM of the 8 FP64 lanes of VA under the shared exponent in lane 0 of VB, one INT8 each in the low bytes
of VD, whose other bytes are open. The digit of a value that is not finite, or not below the shared exponent, and the options
of FN are not stated: VD is open. -/
def execVspl (p h : Nat) (s : State) : Host.Outcome State Fault Refusal :=
  .next (s.issueAs p h 0x75 (fun s d w =>
    let vs := vVals 10 (vSrc d w 42)
    let e := sInt 32 ((vSrc d w 37).toNat % 2 ^ 32)
    if fld w 16 4 = 0 && vs.all (fun v => v.isFin && (v.isZero || decide (v.floorLog2 < e))) then
      vDoneLow s p h w 64 (ofLanes 8 (vs.map (fun v => sNat 8 (sliceDigit v e (fld w 0 16))))).toNat
    else vDoneLow s p h w 0 0))

/-- VREC (R87): VC + x * 2^(y + IMM) for each of 8 FP64 lanes, rounded once; x and y from the halves of VA and VB that FN[0]
selects (DEDUCED for y, log 22: R87 names a half for x alone). An exponent beyond ±4,000 rounds as that bound does. -/
def execVrec (p h : Nat) (s : State) : Host.Outcome State Fault Refusal :=
  .next (s.issueAs p h 0x76 (fun s d w =>
    let half := 8 * fld w 16 1
    let xs := lanes 32 (vSrc d w 42)
    let ys := lanes 32 (vSrc d w 37)
    let cs := vVals 10 (vSrc d w 32)
    vDone s p h w (ofLanes 64 ((List.range 8).map (fun i =>
      let x := FV.ofInt (sInt 32 (xs.getD (half + i) 0))
      let y := sInt 32 (ys.getD (half + i) 0) + sInt 16 (fld w 0 16)
      enc64 ((cs.getD i .nan).add (x.scale (clampI (-4000) 4000 y))))))))

/-! ### Activation and integers -/

/-- VACT (R81, R82): entry IMM[7:0] on the 16 FP32 lanes of VA. -/
def execVact (p h : Nat) (s : State) : Host.Outcome State Fault Refusal :=
  .next (s.issueAs p h 0x78 (fun s d w =>
    let e := fld w 0 8
    let at_ := d.seteb.toNat + 0x1000 + (e - 16) * 256
    if 7 ≤ e && decide (e < 16) then .fault fIllegal
    else if 16 ≤ e && !State.inData at_ 256 then .fault fAddr
    else
      let rec_ := s.rdData p at_ 256
      vDone s p h w (ofLanes 32 ((lanes 32 (vSrc d w 42)).map (fun x => if 16 ≤ e then actUser rec_ x else actBuiltin e x)))))

/-- An integer operation on the 16 lanes of 32 bits. -/
def vInt (s : State) (p h row : Nat) (f : Nat → Nat → Nat) : State :=
  s.issueAs p h row (fun s d w =>
    vDone s p h w (ofLanes 32 (((lanes 32 (vSrc d w 42)).zip (lanes 32 (vSrc d w 37))).map (fun q => f q.1 q.2))))

/-- VIADD: modulo 2^32. -/
def execViadd (p h : Nat) (s : State) : Host.Outcome State Fault Refusal := .next (vInt s p h 0x7C (fun a b => a + b))

/-- VIMUL: modulo 2^32. -/
def execVimul (p h : Nat) (s : State) : Host.Outcome State Fault Refusal := .next (vInt s p h 0x7D (fun a b => a * b))

/-- VLOGIC: the bitwise function that FN selects; which one each FN selects is open. -/
def execVlogic (p h : Nat) (s : State) : Host.Outcome State Fault Refusal :=
  .next (s.issueAs p h 0x7E (fun s d w =>
    let a := (vSrc d w 42).toNat
    let b := (vSrc d w 37).toNat
    vDone s p h w (BitVec.ofNat 512 (maskOf ((List.range 512).map (fun i =>
      Config.logicBit (fld w 16 4) (Nat.testBit a i) (Nat.testBit b i)))))))

/-- VSHF: each 32-bit lane of VD from the lane of VA that IMM gives it; which one is open. -/
def execVshf (p h : Nat) (s : State) : Host.Outcome State Fault Refusal :=
  .next (s.issueAs p h 0x7F (fun s d w =>
    let a := lanes 32 (vSrc d w 42)
    vDone s p h w (ofLanes 32 ((List.range 16).map (fun i => a.getD (Config.shfLane (fld w 0 16) i).val 0)))))

end Sys2Proof.Machine
end

