-- ==== Sys2Proof/Machine/Watchdog.lean ====
section
/-! DEFINITION. The expiries of the watchdog ladder inside the compute dies and of the module (06, 6.9). Each command is an
expiry; the counting of cycles and milliseconds is left out. -/

namespace Sys2Proof.Machine

namespace State

/-- Does the hand-stall watchdog of a hand run (Table 6.13): a running stream that is not ready to issue, RUNNING, not held
(R156)? -/
def handStalled (s : State) (p h : Nat) : Bool :=
  let d := s.hand p h
  s.modState == stRunning && decide (p < s.pinCount) && decide (h < 2) && !s.pinHeld p && d.stream.isSome &&
  d.st != .ready && d.st != .idle

/-- Does an issue-port silence watchdog run: RUNNING, and a stream runs in an in-service pinion that is not held? -/
def silenceRuns (s : State) (level index : Nat) : Bool :=
  s.modState == stRunning && decide (index < trainCount level) &&
  (s.trainPinions level index).any (fun p => s.inService p && !s.pinHeld p &&
    ((s.hand p 0).stream.isSome || (s.hand p 1).stream.isSome))

/-- Does the expiry of a unit's watchdog only count, since the unit (STATE `st`) is out of service (R164)? The watchdogs of a fenced
unit stop (R295), so one expires there only in the cycle in which a higher one acts. -/
def onlyCounts (s : State) (st : Nat) (masked : Bool) : Bool :=
  s.modState == stRunning && st != 0 && (st != 1 || masked)

/-- What a pinion is to do that already stops or not, once a hand's watchdog has expired (R161). -/
def stopFor (s : State) (p h : Nat) : StopWhy :=
  if s.canRestart (s.hand p h) then
    match (s.pin p).stopping with
    | some .fence => .fence
    | some (.restart k) => if k = h then .restart h else .restartBoth
    | some .restartBoth => .restartBoth
    | none => .restart h
  else .fence

/-- A watchdog of a unit expires: its counter, and the sticky bit of its status word. -/
def expire (s : State) (k level index : Nat) : State :=
  (s.bump 0x9110 k).unitMod level index (fun u => { u with wdog := true })

end State

/-- HAND_STALL (R161): once its passes, drains and data moves have completed, the pinion restarts the hand or is fenced and
the expiry escalates. With `masked`, a higher watchdog expires in the same cycle: the expiry is only counted (R164), as it is
for a pinion that is out of service. DEDUCED (log 62): R164 counts the expiry of a fenced unit and R295 stops its watchdogs, so only
one masked by the fence itself is counted there. -/
def execHandStall (p h : Nat) (masked : Bool) (s : State) : Host.Outcome State Fault Refusal :=
  if decide (p < s.pinCount) && decide (h < 2) && s.onlyCounts (s.pinSt p) masked then .next (s.expire 1 0 p)
  else if s.handStalled p h && s.inService p then
    let s1 := s.expire 1 0 p
    if masked then .next s1
    else .next ((s1.pinMod p (fun x => { x with stopping := some (s.stopFor p h) })).tryStop p)
  else .next s

/-- T1_SILENCE (R162). -/
def execT1Silence (t : Nat) (masked : Bool) (s : State) : Host.Outcome State Fault Refusal :=
  if decide (t < State.trainCount 1) && s.onlyCounts (s.trainSt 1 t) masked then .next (s.expire 3 1 t)
  else if s.silenceRuns 1 t then
    let s1 := s.expire 3 1 t
    .next (if masked then s1 else s1.escT1 t none)
  else .next s

/-- T2_SILENCE (R162). -/
def execT2Silence (t : Nat) (masked : Bool) (s : State) : Host.Outcome State Fault Refusal :=
  if decide (t < State.trainCount 2) && s.onlyCounts (s.trainSt 2 t) masked then .next (s.expire 4 2 t)
  else if s.silenceRuns 2 t then
    let s1 := s.expire 4 2 t
    .next (if masked then s1 else s1.escT2 t (s1.runningHands (s1.trainPinions 2 t)))
  else .next s

/-- DIE_WATCHDOG (R163): the die's Bezel fences the die, and the module enters FAULTED. It does not run while the die is held
(R156). -/
def execDieWatchdog (d : Nat) (masked : Bool) (s : State) : Host.Outcome State Fault Refusal :=
  if s.dieEsc.contains d && !((s.unit 4 d).held || (s.unit 5 0).held) then
    let s1 := (s.expire 5 4 d)
    if masked then .next s1
    else .next (({ s1 with dieEsc := s1.dieEsc.filter (· ≠ d) }.fenceUnit 4 d).enterFaulted 4 (State.statusOff 4 d))
  else .next s

/-- MODULE_WATCHDOG (R163): the heartbeat object has not changed. It does not run while the module is held (R156). -/
def execModuleWatchdog (s : State) : Host.Outcome State Fault Refusal :=
  if s.modState = stRunning && !(s.unit 5 0).held then .next ((s.expire 6 5 0).enterFaulted 5 (State.statusOff 5 0)) else .next s

end Sys2Proof.Machine
end

