-- ==== Sys2Proof/Machine/Dispatch.lean ====
section
/-! DEFINITION. The effect of each command, one arm per row of the opcode table. -/

namespace Sys2Proof.Machine

/-- The effect of a command on everything but the queue. -/
def exec (i : Instr) (s : State) : Host.Outcome State Fault Refusal :=
  match i with
  | .streamDescriptor port d => Sys2Proof.Machine.execStreamDescriptor port d s
  | .pendingStreamStart p h => Sys2Proof.Machine.execPendingStreamStart p h s
  | .handSwitch p => Sys2Proof.Machine.execHandSwitch p s
  | .nop p h => Sys2Proof.Machine.execNop p h s
  | .endOp p h => Sys2Proof.Machine.execEndOp p h s
  | .jmp p h => Sys2Proof.Machine.execJmp p h s
  | .loop p h => Sys2Proof.Machine.execLoop p h s
  | .bcc p h => Sys2Proof.Machine.execBcc p h s
  | .bpr p h => Sys2Proof.Machine.execBpr p h s
  | .li p h => Sys2Proof.Machine.execLi p h s
  | .addi p h => Sys2Proof.Machine.execAddi p h s
  | .alu p h => Sys2Proof.Machine.execAlu p h s
  | .lds p h => Sys2Proof.Machine.execLds p h s
  | .sts p h => Sys2Proof.Machine.execSts p h s
  | .setv p h => Sys2Proof.Machine.execSetv p h s
  | .seteb p h => Sys2Proof.Machine.execSeteb p h s
  | .setstg p h => Sys2Proof.Machine.execSetstg p h s
  | .yieldOp p h => Sys2Proof.Machine.execYieldOp p h s
  | .markOp p h => Sys2Proof.Machine.execMarkOp p h s
  | .waitq p h => Sys2Proof.Machine.execWaitq p h s
  | .sadd p h => Sys2Proof.Machine.execSadd p h s
  | .sset p h => Sys2Proof.Machine.execSset p h s
  | .stgt p h => Sys2Proof.Machine.execStgt p h s
  | .swge p h => Sys2Proof.Machine.execSwge p h s
  | .sweq p h => Sys2Proof.Machine.execSweq p h s
  | .sarv p h => Sys2Proof.Machine.execSarv p h s
  | .sbr p h => Sys2Proof.Machine.execSbr p h s
  | .syncApply sid reach => Sys2Proof.Machine.execSyncApply sid reach s
  | .waitRelease p h => Sys2Proof.Machine.execWaitRelease p h s
  | .dmv p h => Sys2Proof.Machine.execDmv p h s
  | .dpf p h => Sys2Proof.Machine.execDpf p h s
  | .dataMoveDescriptor p q => Sys2Proof.Machine.execDataMoveDescriptor p q s
  | .mtx p h => Sys2Proof.Machine.execMtx p h s
  | .mtxb p h => Sys2Proof.Machine.execMtxb p h s
  | .passComplete p arr => Sys2Proof.Machine.execPassComplete p arr s
  | .drn p h => Sys2Proof.Machine.execDrn p h s
  | .epilogueService p => Sys2Proof.Machine.execEpilogueService p s
  | .bst p h => Sys2Proof.Machine.execBst p h s
  | .bld p h => Sys2Proof.Machine.execBld p h s
  | .openOp p h => Sys2Proof.Machine.execOpenOp p h s
  | .commitOp p h => Sys2Proof.Machine.execCommitOp p h s
  | .freeOp p h => Sys2Proof.Machine.execFreeOp p h s
  | .vld p h => Sys2Proof.Machine.execVld p h s
  | .vst p h => Sys2Proof.Machine.execVst p h s
  | .vlds p h => Sys2Proof.Machine.execVlds p h s
  | .vstm p h => Sys2Proof.Machine.execVstm p h s
  | .vadd p h => Sys2Proof.Machine.execVadd p h s
  | .vmul p h => Sys2Proof.Machine.execVmul p h s
  | .vfma p h => Sys2Proof.Machine.execVfma p h s
  | .vfnma p h => Sys2Proof.Machine.execVfnma p h s
  | .vmin p h => Sys2Proof.Machine.execVmin p h s
  | .vmax p h => Sys2Proof.Machine.execVmax p h s
  | .vcmp p h => Sys2Proof.Machine.execVcmp p h s
  | .vsel p h => Sys2Proof.Machine.execVsel p h s
  | .vcvt p h => Sys2Proof.Machine.execVcvt p h s
  | .vcvn p h => Sys2Proof.Machine.execVcvn p h s
  | .vcvf p h => Sys2Proof.Machine.execVcvf p h s
  | .vscl p h => Sys2Proof.Machine.execVscl p h s
  | .vrsum p h => Sys2Proof.Machine.execVrsum p h s
  | .vrssq p h => Sys2Proof.Machine.execVrssq p h s
  | .vramx p h => Sys2Proof.Machine.execVramx p h s
  | .vfin p h => Sys2Proof.Machine.execVfin p h s
  | .vsex p h => Sys2Proof.Machine.execVsex p h s
  | .vspl p h => Sys2Proof.Machine.execVspl p h s
  | .vrec p h => Sys2Proof.Machine.execVrec p h s
  | .vact p h => Sys2Proof.Machine.execVact p h s
  | .viadd p h => Sys2Proof.Machine.execViadd p h s
  | .vimul p h => Sys2Proof.Machine.execVimul p h s
  | .vlogic p h => Sys2Proof.Machine.execVlogic p h s
  | .vshf p h => Sys2Proof.Machine.execVshf p h s
  | .gapBeat => Sys2Proof.Machine.execGapBeat s
  | .sealBeat => Sys2Proof.Machine.execSealBeat s
  | .sendBeat => Sys2Proof.Machine.execSendBeat s
  | .closeBeat => Sys2Proof.Machine.execCloseBeat s
  | .applyBeat => Sys2Proof.Machine.execApplyBeat s
  | .checkpointMark => Sys2Proof.Machine.execCheckpointMark s
  | .reshardBegin => Sys2Proof.Machine.execReshardBegin s
  | .holdBeat => Sys2Proof.Machine.execHoldBeat s
  | .releaseBeat => Sys2Proof.Machine.execReleaseBeat s
  | .handStall p h masked => Sys2Proof.Machine.execHandStall p h masked s
  | .t1Silence t masked => Sys2Proof.Machine.execT1Silence t masked s
  | .t2Silence t masked => Sys2Proof.Machine.execT2Silence t masked s
  | .dieWatchdog d masked => Sys2Proof.Machine.execDieWatchdog d masked s
  | .moduleWatchdog => Sys2Proof.Machine.execModuleWatchdog s
  | .transferSettle => Sys2Proof.Machine.execTransferSettle s
  | .dumpComplete => Sys2Proof.Machine.execDumpComplete s
  | .dumpLimit => Sys2Proof.Machine.execDumpLimit s
  | .vdlTimeout jobLost => Sys2Proof.Machine.execVdlTimeout jobLost s
  | .crownHeartbeat => Sys2Proof.Machine.execCrownHeartbeat s
  | .crownReturn => Sys2Proof.Machine.execCrownReturn s
  | .flit port fec bytes => Sys2Proof.Machine.execFlit port fec bytes s
  | .replayLimit port again => Sys2Proof.Machine.execReplayLimit port again s
  | .portTrained port peerModule peerPort asym => Sys2Proof.Machine.execPortTrained port peerModule peerPort asym s
  | .trainingTimeout port => Sys2Proof.Machine.execTrainingTimeout port s
  | .syncInc src => Sys2Proof.Machine.execSyncInc src s
  | .cack src => Sys2Proof.Machine.execCack src s
  | .scalarPacket src => Sys2Proof.Machine.execScalarPacket src s
  | .timePacket src sub => Sys2Proof.Machine.execTimePacket src sub s
  | .siteStop src => Sys2Proof.Machine.execSiteStop src s
  | .regather src => Sys2Proof.Machine.execRegather src s
  | .putFault src => Sys2Proof.Machine.execPutFault src s
  | .passReady src => Sys2Proof.Machine.execPassReady src s
  | .permuteDone src => Sys2Proof.Machine.execPermuteDone src s
  | .contrib src => Sys2Proof.Machine.execContrib src s
  | .partialChunk src => Sys2Proof.Machine.execPartialChunk src s
  | .imageChunk src => Sys2Proof.Machine.execImageChunk src s
  | .putPacket src => Sys2Proof.Machine.execPutPacket src s
  | .dispatchPacket src => Sys2Proof.Machine.execDispatchPacket src s
  | .combinePacket src => Sys2Proof.Machine.execCombinePacket src s
  | .permutePacket src => Sys2Proof.Machine.execPermutePacket src s
  | .permutePass => Sys2Proof.Machine.execPermutePass s
  | .relay src => Sys2Proof.Machine.execRelay src s
  | .mgmt src => Sys2Proof.Machine.execMgmt src s
  | .chunkRetry stream => Sys2Proof.Machine.execChunkRetry stream s
  | .reduce q => Sys2Proof.Machine.execReduce q s
  | .gather q => Sys2Proof.Machine.execGather q s
  | .scalarEntry q => Sys2Proof.Machine.execScalarEntry q s
  | .put q => Sys2Proof.Machine.execPut q s
  | .dispatch q => Sys2Proof.Machine.execDispatch q s
  | .combine q => Sys2Proof.Machine.execCombine q s
  | .permute q => Sys2Proof.Machine.execPermute q s
  | .tiesum u => Sys2Proof.Machine.execTiesum u s
  | .normEntry u => Sys2Proof.Machine.execNormEntry u s
  | .inner u => Sys2Proof.Machine.execInner u s
  | .outer u => Sys2Proof.Machine.execOuter u s
  | .digest u => Sys2Proof.Machine.execDigest u s
  | .logApply u => Sys2Proof.Machine.execLogApply u s
  | .coordExport u => Sys2Proof.Machine.execCoordExport u s
  | .coordImport u => Sys2Proof.Machine.execCoordImport u s
  | .efadd d => Sys2Proof.Machine.execEfadd d s
  | .ortho d => Sys2Proof.Machine.execOrtho d s
  | .resid d => Sys2Proof.Machine.execResid d s
  | .pack d => Sys2Proof.Machine.execPack d s
  | .check d => Sys2Proof.Machine.execCheck d s
  | .foldDigest d => Sys2Proof.Machine.execFoldDigest d s
  | .scrub addr found => Sys2Proof.Machine.execScrub addr found s
  | .arp port bytes => Sys2Proof.Machine.execArp port bytes s
  | .neighborDiscovery port bytes => Sys2Proof.Machine.execNeighborDiscovery port bytes s
  | .dataFrame port src bytes => Sys2Proof.Machine.execDataFrame port src bytes s
  | .ackFrame port src bytes => Sys2Proof.Machine.execAckFrame port src bytes s
  | .retireFrame port src bytes => Sys2Proof.Machine.execRetireFrame port src bytes s
  | .confirm port src bytes => Sys2Proof.Machine.execConfirm port src bytes s
  | .timeSync port sub src bytes => Sys2Proof.Machine.execTimeSync port sub src bytes s
  | .timeFollow port src bytes => Sys2Proof.Machine.execTimeFollow port src bytes s
  | .timeDreq port sub src bytes => Sys2Proof.Machine.execTimeDreq port sub src bytes s
  | .timeDresp port src bytes => Sys2Proof.Machine.execTimeDresp port src bytes s
  | .timeExchange peer => Sys2Proof.Machine.execTimeExchange peer s
  | .holdoverTimeout => Sys2Proof.Machine.execHoldoverTimeout s
  | .hsInit port src bytes => Sys2Proof.Machine.execHsInit port src bytes s
  | .hsResp port src bytes => Sys2Proof.Machine.execHsResp port src bytes s
  | .hsResend peer => Sys2Proof.Machine.execHsResend peer s
  | .keyLifetime peer => Sys2Proof.Machine.execKeyLifetime peer s
  | .oldKeyRelease peer => Sys2Proof.Machine.execOldKeyRelease peer s
  | .ackTimer peer => Sys2Proof.Machine.execAckTimer peer s
  | .rtoExpiry peer seq => Sys2Proof.Machine.execRtoExpiry peer seq s
  | .peerDown peer => Sys2Proof.Machine.execPeerDown peer s
  | .portReturn peer => Sys2Proof.Machine.execPortReturn peer s
  | .relayGrant => Sys2Proof.Machine.execRelayGrant s
  | .contribMessage site => Sys2Proof.Machine.execContribMessage site s
  | .manifest site => Sys2Proof.Machine.execManifest site s
  | .baseReq site => Sys2Proof.Machine.execBaseReq site s
  | .baseData site => Sys2Proof.Machine.execBaseData site s
  | .rejectNotice site => Sys2Proof.Machine.execRejectNotice site s
  | .fetchRetry req => Sys2Proof.Machine.execFetchRetry req s
  | .roundDeadline round => Sys2Proof.Machine.execRoundDeadline round s
  | .viewTimer => Sys2Proof.Machine.execViewTimer s
  | .view site => Sys2Proof.Machine.execView site s
  | .claim site => Sys2Proof.Machine.execClaim site s
  | .endorse site => Sys2Proof.Machine.execEndorse site s
  | .anchorTimeout => Sys2Proof.Machine.execAnchorTimeout s
  | .claimTimeout => Sys2Proof.Machine.execClaimTimeout s
  | .stopDrain => Sys2Proof.Machine.execStopDrain s
  | .siteRestart failed spares => Sys2Proof.Machine.execSiteRestart failed spares s
  | .ppsIn sub => Sys2Proof.Machine.execPpsIn sub s
  | .ppsOut => Sys2Proof.Machine.execPpsOut s
  | .ref10mLoss => Sys2Proof.Machine.execRef10mLoss s
  | .ref10mReturn => Sys2Proof.Machine.execRef10mReturn s
  | .powerSample vin iin pin => Sys2Proof.Machine.execPowerSample vin iin pin s
  | .sagWarning => Sys2Proof.Machine.execSagWarning s
  | .sagClear => Sys2Proof.Machine.execSagClear s
  | .sagReset => Sys2Proof.Machine.execSagReset s
  | .powerOn => Sys2Proof.Machine.execPowerOn s
  | .railWarning rail mv => Sys2Proof.Machine.execRailWarning rail mv s
  | .railReset rail mv => Sys2Proof.Machine.execRailReset rail mv s
  | .thermalSample sensor temp => Sys2Proof.Machine.execThermalSample sensor temp s
  | .thermalTrip sensor => Sys2Proof.Machine.execThermalTrip sensor s
  | .resetPin => Sys2Proof.Machine.execResetPin s
  | .resetPinHeld => Sys2Proof.Machine.execResetPinHeld s
  | .resetPinRelease => Sys2Proof.Machine.execResetPinRelease s
  | .vdlLinkReset => Sys2Proof.Machine.execVdlLinkReset s
  | .bootStepComplete => Sys2Proof.Machine.execBootStepComplete s
  | .bootStepTimeout => Sys2Proof.Machine.execBootStepTimeout s
  | .recoveryImage => Sys2Proof.Machine.execRecoveryImage s
  | .bistComplete failures => Sys2Proof.Machine.execBistComplete failures s
  | .configRead off len => Sys2Proof.Machine.execConfigRead off len s
  | .configWrite off bytes => Sys2Proof.Machine.execConfigWrite off bytes s
  | .apertureRead off len => Sys2Proof.Machine.execApertureRead off len s
  | .apertureWrite off bytes => Sys2Proof.Machine.execApertureWrite off bytes s
  | .openSession src => Sys2Proof.Machine.execOpenSession src s
  | .prove src => Sys2Proof.Machine.execProve src s
  | .copClose src => Sys2Proof.Machine.execCopClose src s
  | .read src => Sys2Proof.Machine.execRead src s
  | .write src => Sys2Proof.Machine.execWrite src s
  | .readMulti src => Sys2Proof.Machine.execReadMulti src s
  | .writeMulti src => Sys2Proof.Machine.execWriteMulti src s
  | .blobBegin src => Sys2Proof.Machine.execBlobBegin src s
  | .blobSeg src => Sys2Proof.Machine.execBlobSeg src s
  | .blobEnd src => Sys2Proof.Machine.execBlobEnd src s
  | .notifyAck src => Sys2Proof.Machine.execNotifyAck src s
  | .notifyResend session nseq => Sys2Proof.Machine.execNotifyResend session nseq s
  | .sessionIdle session => Sys2Proof.Machine.execSessionIdle session s
  | .pendingSessionExpiry session => Sys2Proof.Machine.execPendingSessionExpiry session s
  | .blobAbandon session => Sys2Proof.Machine.execBlobAbandon session s
  | .arm src => Sys2Proof.Machine.execArm src s
  | .run src => Sys2Proof.Machine.execRun src s
  | .hold src => Sys2Proof.Machine.execHold src s
  | .release src => Sys2Proof.Machine.execRelease src s
  | .quiesce src => Sys2Proof.Machine.execQuiesce src s
  | .warmReset src => Sys2Proof.Machine.execWarmReset src s
  | .forceFault src => Sys2Proof.Machine.execForceFault src s
  | .takeover src => Sys2Proof.Machine.execTakeover src s
  | .fence src => Sys2Proof.Machine.execFence src s
  | .retire src => Sys2Proof.Machine.execRetire src s
  | .readmit src => Sys2Proof.Machine.execReadmit src s
  | .ftSet src => Sys2Proof.Machine.execFtSet src s
  | .beatTable src => Sys2Proof.Machine.execBeatTable src s
  | .beatEntry src => Sys2Proof.Machine.execBeatEntry src s
  | .layout src => Sys2Proof.Machine.execLayout src s
  | .roster src => Sys2Proof.Machine.execRoster src s
  | .programManifest src => Sys2Proof.Machine.execProgramManifest src s
  | .retireMap src => Sys2Proof.Machine.execRetireMap src s
  | .operatorKeys src => Sys2Proof.Machine.execOperatorKeys src s
  | .jobKey src => Sys2Proof.Machine.execJobKey src s
  | .fwImage src => Sys2Proof.Machine.execFwImage src s
  | .fwActivate src => Sys2Proof.Machine.execFwActivate src s
  | .rollbackCommit src => Sys2Proof.Machine.execRollbackCommit src s
  | .debugChallenge src => Sys2Proof.Machine.execDebugChallenge src s
  | .debugToken src => Sys2Proof.Machine.execDebugToken src s
  | .debugScope src => Sys2Proof.Machine.execDebugScope src s
  | .debugExpiry => Sys2Proof.Machine.execDebugExpiry s
  | .attestReport src => Sys2Proof.Machine.execAttestReport src s
  | .accImage src => Sys2Proof.Machine.execAccImage src s
  | .hbmBistStart src => Sys2Proof.Machine.execHbmBistStart src s
  | .prbsMode src => Sys2Proof.Machine.execPrbsMode src s
  | .bypass tdi => Sys2Proof.Machine.execBypass tdi s
  | .idcode => Sys2Proof.Machine.execIdcode s
  | .samplePreload cells => Sys2Proof.Machine.execSamplePreload cells s
  | .extest cells => Sys2Proof.Machine.execExtest cells s
  | .clamp => Sys2Proof.Machine.execClamp s
  | .highz => Sys2Proof.Machine.execHighz s
  | .internalTest bits => Sys2Proof.Machine.execInternalTest bits s
  | .lastKStepEntered p arr => Sys2Proof.Machine.execLastKStepEntered p arr s
  | .trainResetComplete level index => Sys2Proof.Machine.execTrainResetComplete level index s
  | .readmitScrubDone t1 slot uncorrectable => Sys2Proof.Machine.execReadmitScrubDone t1 slot uncorrectable s
  | .farPortUp port => Sys2Proof.Machine.execFarPortUp port s
  | .farPortDown port => Sys2Proof.Machine.execFarPortDown port s
  | .frameSend turn => Sys2Proof.Machine.execFrameSend turn s
  | .foreignFrame port bytes => Sys2Proof.Machine.execForeignFrame port bytes s
  | .resetDomainLoss => Sys2Proof.Machine.execResetDomainLoss s
  | .railWarningClear rail mv => Sys2Proof.Machine.execRailWarningClear rail mv s
  | .vdlLinkUp => Sys2Proof.Machine.execVdlLinkUp s

end Sys2Proof.Machine
end

