-- ==== Sys2Proof/Machine/Tick.lean ====
section
/-! DEFINITION. What one period of REF10M does: 100 ns of local time, 94 cycles of the arrays (06, 6.5; R43, R46, R47, R290). -/

namespace Sys2Proof.Machine.State

/-- Array cycles in one period of REF10M. -/
def tickCycles : Nat := 94

/-- What one period adds to FT, in units of 2^-32 ns (06, 6.5): 100 ns, corrected by FREQ_ADJ within SLEW_MAX (R147). -/
def addend (s : State) : Int :=
  let nominal : Int := 100 * 2 ^ 32
  nominal + (nominal * clampI (-s.slewMax) s.slewMax (sInt 32 (s.odGet 0x4010 5))).tdiv 1000000000000

/-- FT runs, once it is established (R146, R149). -/
def tickFt (s : State) : State :=
  if s.time.ft = ftUnset then s
  else
    let sum := (s.time.frac : Int) + s.addend
    let s1 : State := { s with time := { s.time with ft := sInt 64 (ftNat (s.time.ft + sum / 2 ^ 32)), frac := (sum % 2 ^ 32).toNat } }
    if s.timeState = 3 then s1.bumpBy 0x4010 6 100 else s1

/-- A pinion whose hands wait, or whose tiles wait for the epilogue, counts the cycles (R43, R46, R47). -/
def tickPinion (s : State) (p : Nat) : State :=
  let x := s.pin p
  let hands (f : HandSt → Bool) : Nat := if f x.handA.st || f x.handB.st then tickCycles else 0
  let add (t : State) (sub n : Nat) : State := if n = 0 then t else t.pinCountBy p 0x2140 sub sub n
  let drains := (x.tiles.filter (fun c => c.2.drain.any (fun d => d.request.isSome))).length
  add (add (add s 1 (hands (fun st => st == .interlock))) 4 (hands (fun st => st == .queueHold))) 5 (tickCycles * drains)

/-- One period of REF10M (DESIGN CHOICE: what a step does while no command waits). A request that has waited at the Crown is taken if it
need wait no longer. -/
def tick (s : State) : State :=
  let s1 := tickFt { s with time := { s.time with now := s.time.now + 100 } }
  let s2 := State.exportsEnd (if s1.odGet 0x8200 1 = 0 then s1 else s1.bumpBy 0x8200 4 tickCycles) false
  crownRest 1024 (if s2.modState = stRunning then (fkeys s2.pinions).foldl tickPinion s2 else s2)

end Sys2Proof.Machine.State
end

