-- ==== Sys2Proof/Safety.lean ====
section
/-! DEFINITION. What counts as a safe run, and the terms that statements about the module are made in. -/

namespace Sys2Proof.Machine

/-! ### Safe runs -/

/-- The memories hold their canonical form: addresses rising, and no byte listed that equals what an unlisted address reads as. -/
def Memory.wf (s : State) : Bool := fwf (0 : Byte) s.mem && fwf (0 : Byte) s.slow

/-- A state that the machine may be in: the memories in canonical form, the module state one of Table 11.1. -/
def Legal (s : State) : Prop := Memory.wf s = true ∧ s.modState ≤ 7

/-- A step that neither faults nor refuses. -/
def StepSafe (s : State) : Prop := ∃ t, step s = .next t

/-- `n` steps from a state, none of which stops. -/
def RunSafe (n : Nat) (s : State) : Prop := ∃ t, Sys2Proof.core.run n s = .next t

/-! ### Instructions -/

/-- A hand may issue (R51, R156, R262), and the word at its program counter is a listed word of a row of the opcode table, its
reserved fields 0 (R54). -/
def Issues (s : State) (p h row : Nat) (w : W64) : Prop :=
  s.canIssue p h = true ∧ s.fetchWord p (s.hand p h).pc = w ∧ wordRow w = some row ∧ wordOk w = true

/-- The state in which an instruction of a hand takes effect: issue is with that hand. -/
def issuing (s : State) (p h : Nat) : State := s.pinMod p (fun x => { x with cur := h })

/-- The state after an instruction of a hand has raised a fault. -/
def faulted (s : State) (p h op code : Nat) : State := (issuing s p h).takeFault p h (s.hand p h).pc op code

/-- `t` is `s` but for pinion p: its hand h is `d`, and hand h is the one that issues. -/
def HandStep (s t : State) (p h : Nat) (d : Hand) : Prop :=
  { t with pinions := s.pinions } = s ∧ (∀ r, r ≠ p → t.pin r = s.pin r) ∧ t.pin p = ({ s.pin p with cur := h } : Pinion).setHand h d

/-- A command takes `s` to `s'` but for the hand's program counter, which moves to the next word, with the hand's registers and
settings those of `d`. After the last word, 2,047, the hand then takes PC_RANGE (R56). -/
def RunsOn (c : Instr) (s s' : State) (p h : Nat) (d : Hand) : Prop :=
  ∃ t, HandStep s' t p h { d with pc := (s.hand p h).pc + 1, st := .ready } ∧
    exec c s = .next (if (s.hand p h).pc < 2047 then t else t.takeFault p h 2047 0 fPcRange)

/-- A command takes `s` to `s'` but for the hand's program counter, which goes to `target`. -/
def BranchesTo (c : Instr) (s s' : State) (p h target : Nat) (d : Hand) : Prop :=
  ∃ t, exec c s = .next t ∧ HandStep s' t p h { d with pc := target, st := .ready }

/-- The state in which a hand's sync instruction has sent its request. -/
def sends (s : State) (p h sid row : Nat) (op : ReqOp) : State :=
  (issuing s p h).syncSend sid { src := .hand p h (s.hand p h).pc row, op := op }

/-- The state in which a hand whose instruction stands at `pc` waits in the sync class. -/
def awaits (t : State) (p h pc : Nat) : State := t.setHand p h { t.hand p h with pc := pc + 1, st := .syncWait }

/-! ### Queue entries -/

/-- The entry at the head of update unit u's queue may run: it is of a kind, in order, its descriptor `d` passes its checks and
does not wait for a pending re-shard, and nothing it reads has an error (R118, R120, R136, R250). -/
def UnitRuns (s : State) (u kind : Nat) (d : List Byte) : Prop :=
  uqReady s u = true ∧ (uqEntry s u).kind = kind ∧ (uqEntry s u).rsv = 0 ∧ hbmOk s (uqEntry s u).desc 64 = true ∧
    s.readBytes (uqEntry s u).desc 64 = d ∧ (kind ≠ 6 → s.epochWaits (rdLe d 6 2) = false) ∧
    (if kind = 1 then tiesumReason s u (uqEntry s u).desc else unitReason s u kind d ((s.draw 3).1.toNat + 1)) = none ∧
    s.wrongLine [((uqSpec s u).base + (uqNextOf s u).toNat % 1024 * 16, 16)] = none ∧
    s.wrongLine (unitReads s kind d (uqEntry s u).desc) = none

/-- The entry at the head of Fusee f's queue may run: it is of a kind, in order, its descriptor `b` passes its checks, and nothing it
reads has an error (R221, R136, R250). -/
def FuseeRuns (s : State) (f kind : Nat) (b : List Byte) : Prop :=
  s.queuesStart = true ∧ f < 2 ∧ s.rung (fqSpec s f).door (fqNext s f) = true ∧
    (s.ringEntry (fqSpec s f).base (fqNext s f).toNat).kind = kind ∧ (s.ringEntry (fqSpec s f).base (fqNext s f).toNat).rsv = 0 ∧
    hbmOk s (s.ringEntry (fqSpec s f).base (fqNext s f).toNat).desc 64 = true ∧
    s.readBytes (s.ringEntry (fqSpec s f).base (fqNext s f).toNat).desc 64 = b ∧ s.epochWaits (rdLe b 6 2) = false ∧
    fReason s kind b = none ∧ s.wrongLine [((fqSpec s f).base + (fqNext s f).toNat % 1024 * 16, 16)] = none ∧
    s.wrongLine (((s.ringEntry (fqSpec s f).base (fqNext s f).toNat).desc, 64) ::
      (fRanges kind b).filter (fun q => q.1 != fDst b && q.1 != fResult b)) = none

/-! ### Requests of the Crown Object Protocol -/

/-- A frame `f` stands before the Crown, which serves it: a datagram of the field network, or the record at the mailbox's TAIL
(R272, R273), and no other waits. `t` is the state with the frame taken. -/
def Arrives (s : State) (src : FrameSrc) (p : Peer) (f : List Byte) (t : State) : Prop :=
  s.crownServes = true ∧ s.crown.waiting = [] ∧ frameForm f = true ∧
  match src with
  | .field a q d g => p = .field a q ∧ g = f ∧ d = s.odGet 0x1200 3 ∧ t = s.crownTurn 0 ∧ s.plat.released.contains 7 = true
  | .mailbox => p = .mailbox ∧ ∃ next, s.mbRecord = some (f, next) ∧ t = (s.mbWrite 4 (toLe 4 next)).crownTurn 1

/-- A frame of session `x` that the Crown takes (R275): it comes over the session's transport, under its key, and no request of the
session waits. -/
def OfSession (t : State) (x : Session) (p : Peer) (f : List Byte) : Prop :=
  t.session (fSession f) = some x ∧ fOp f ≠ 1 ∧ x.peer.sameKind p = true ∧ macOk x.keyIn f = true ∧
    ∀ y ∈ t.crown.sessions, y.waitingAnswer = false

/-- A request of an open session, the next in order and not above the limit of its transport (R277, R279). -/
def InOrder (t : State) (x : Session) (p : Peer) (f : List Byte) : Prop :=
  OfSession t x p f ∧ x.isOpen = true ∧ fSeq f = (x.lastSeq + 1) % 2 ^ 32 ∧ f.length ≤ p.limit

/-- The state in which a request of session `x` is served: its answers go to `p`, and NOTIFY waits for the answer (R270). -/
def serving (t : State) (x : Session) (p : Peer) : State :=
  let u := t.sesMod x.id (fun y => { y with peer := p })
  { u with crown := { u.crown with holdNotify := true } }

/-- A request that stands before the Crown in order, served in state `u`. -/
def Requests (s : State) (src : FrameSrc) (u : State) (x : Session) (p : Peer) (f : List Byte) : Prop :=
  ∃ t, Arrives s src p f t ∧ InOrder t x p f ∧ u = serving t x p

/-- A WRITE of one entry of the dictionary, in order and accepted (R269), served in state `u`. -/
def WritesEntry (s : State) (src : FrameSrc) (u : State) (x : Session) (p : Peer) (f : List Byte) (index sub typ : Nat)
    (v : List Byte) : Prop :=
  Requests s src u x p f ∧ fOp f = 0x11 ∧ fBody f = copItem index sub typ 0 v ∧ v.length ≤ 1024 ∧ index < 65536 ∧ sub < 256 ∧
    typ < 256 ∧ u.odCheck x.rights p.isField index sub (some typ) v = (u, cOk)

/-- A BLOB_END whose transfer has brought a whole value of an entry, in order and accepted (R269, R280), applied in state `u`. -/
def EndsTransfer (s : State) (src : FrameSrc) (u : State) (x : Session) (p : Peer) (f : List Byte) (index sub : Nat)
    (v : List Byte) : Prop :=
  ∃ u0 b, Requests s src u0 x p f ∧ fOp f = 0x1A ∧ (fBody f).length = 4 ∧ x.blob = some b ∧ b.writing = true ∧ b.index = index ∧
    b.sub = sub ∧ b.complete (leNat (fBody f)) = some v ∧ u = u0.sesMod x.id (fun y => { y with blob := none }) ∧
    u.odCheck x.rights p.isField index sub none v = (u, cOk)

/-- The answer to a WRITE of one entry. -/
def written (x : Session) (p : Peer) (f : List Byte) (index sub typ : Nat) (t : State) (status : Nat) (after : After) : State :=
  State.reply x p f { st := t, status := status, body := copItem index sub typ status [], after := after }

end Sys2Proof.Machine
end

