-- ==== Sys2Proof/Certificates/Slice0/Obligations.lean ====
section
/-! DEFINITION. The statements for the provers: what the commands and the machine do, by the rules of the spec. -/

section

open Sys2Proof Sys2Proof.Machine

/-- A step takes the command at the front of the queue and runs it on the state with the rest of the queue. -/
def Obligations.StepRunsFrontCommand : Prop :=
  ∀ (c : Instr) (cs : List Instr) (s : State), s.pending = c :: cs → step s = exec c { s with pending := cs }

/-- On an empty queue a step is one period of REF10M (the model's choice, log 4: the spec gives its commands no clock), and nothing waits.
While no exports run and no request waits at the Crown, 100 ns pass for the module's clock, federation time that is established advances
by 100 ns and FREQ_ADJ's correction within SLEW_MAX (R147), and no memory, sync object or output changes. -/
def Obligations.IdleStepIsOneTick : Prop :=
  ∀ s : State, s.pending = [] → step s = .next s.tick ∧ s.tick.pending = [] ∧
    (s.exporting = false → s.crown.waiting = [] →
      s.tick.time.now = s.time.now + 100 ∧ s.tick.mem = s.mem ∧ s.tick.slow = s.slow ∧ s.tick.syncs = s.syncs ∧ s.tick.out = s.out ∧
      (s.time.ft = ftUnset → s.tick.time.ft = ftUnset) ∧
      (s.time.ft ≠ ftUnset → s.tick.time.ft = sInt 64 (ftNat (s.time.ft + ((s.time.frac : Int) + s.addend) / 2 ^ 32)) ∧
        (s.tick.time.frac : Int) = ((s.time.frac : Int) + s.addend) % 2 ^ 32))

/-- The state right after the release of a power-on reset: BOOT at step 1 of Table 12.7 with RESET_CAUSE power-on, federation time not
established, every dictionary number at its default, every memory unwritten (what an unwritten byte of HBM reads as is the model's choice,
log 2), every pinion, object and port at its reset value, no command waiting; and this state is legal. -/
def Obligations.ResetState : Prop :=
 (State.reset.modState = stBoot ∧ State.reset.plat.step = 1 ∧ State.reset.odGet 0x9001 1 = 1 ∧
  State.reset.time.ft = ftUnset ∧ State.reset.pending = [] ∧ State.reset.mem = [] ∧ State.reset.slow = [] ∧
  (∀ i j, State.reset.odGet i j = odDfltKey (odKey i j)) ∧
  (∀ p, State.reset.pin p = {}) ∧ (∀ sid, State.reset.sync sid = {}) ∧ (∀ k, (State.reset.nport k) = {})) ∧
 (Legal State.reset)

/-- Every step keeps a state legal: the memories stay in canonical form and the module state stays one of Table 11.1, whatever command runs
and whatever a companion writes. -/
def Obligations.StepKeepsLegal : Prop :=
  ∀ s t : State, Legal s → step s = .next t → Legal t

/-- No command touches the queue of waiting commands: a step removes exactly the command at its front. -/
def Obligations.CommandsLeaveQueue : Prop :=
  (∀ (c : Instr) (s t : State), exec c s = .next t → t.pending = s.pending) ∧
  ∀ s t : State, step s = .next t → t.pending = s.pending.tail

/-- Every command but INTERNAL_TEST answers a next state in every state. A LOG_APPLY entry that runs on a log which software has overwritten
or whose shard is unmapped completes too: what it writes into the slow tier is open (R113), and nothing else of memory changes. -/
def Obligations.EveryCommandCompletes : Prop :=
 (∀ (c : Instr) (s : State), (∀ b, c ≠ .internalTest b) → ∃ t, exec c s = .next t) ∧
 (∀ (u : Nat) (s : State) (d : List Byte), UnitRuns s u 6 d → s.logWrong = none → s.logOk = false →
    exec (.logApply u) s = .next (uqFinish s.applyLog u (rdLe d 0x30 4)) ∧ s.applyLog.mem = s.mem ∧
      s.applyLog.odGet 0x3500 1 = s.odGet 0x3500 2 ∧ s.applyLog.odGet 0x3500 3 = 0)

/-- NOP goes to the next word. JMP goes to its target. LOOP takes 1 from a register and branches while the result is not 0. BCC branches on
the condition of its FN, an FN without one raising ILLEGAL_OP (R56), and BPR on the presence bit of a Barrel slot, counting a sample that
finds it clear (R102). Nothing else changes. -/
def Obligations.ControlFlow : Prop :=
  ∀ (s : State) (p h : Nat) (w : W64),
    (Issues s p h 0x00 w → RunsOn (.nop p h) s s p h (s.hand p h)) ∧
    (Issues s p h 0x02 w → BranchesTo (.jmp p h) s s p h (fld w 0 11) (s.hand p h)) ∧
    (Issues s p h 0x03 w → (s.hand p h).sreg (fld w 52 4) ≠ 1 →
      BranchesTo (.loop p h) s s p h (fld w 0 11) ((s.hand p h).setSreg (fld w 52 4) ((s.hand p h).sreg (fld w 52 4) - 1))) ∧
    (Issues s p h 0x03 w → (s.hand p h).sreg (fld w 52 4) = 1 → RunsOn (.loop p h) s s p h ((s.hand p h).setSreg (fld w 52 4) 0)) ∧
    (Issues s p h 0x04 w → bccCond (fld w 40 4) ((s.hand p h).sreg (fld w 48 4)) ((s.hand p h).sreg (fld w 44 4)) = some true →
      BranchesTo (.bcc p h) s s p h (fld w 0 11) (s.hand p h)) ∧
    (Issues s p h 0x04 w → bccCond (fld w 40 4) ((s.hand p h).sreg (fld w 48 4)) ((s.hand p h).sreg (fld w 44 4)) = some false →
      RunsOn (.bcc p h) s s p h (s.hand p h)) ∧
    (Issues s p h 0x04 w → bccCond (fld w 40 4) ((s.hand p h).sreg (fld w 48 4)) ((s.hand p h).sreg (fld w 44 4)) = none →
      exec (.bcc p h) s = .next (faulted s p h 0x04 fIllegal)) ∧
    (Issues s p h 0x05 w → present s (s.t2Of p) (fld w 32 6) = true → Nat.testBit w.toNat 38 = true →
      BranchesTo (.bpr p h) s s p h (fld w 0 11) (s.hand p h)) ∧
    (Issues s p h 0x05 w → present s (s.t2Of p) (fld w 32 6) = true → Nat.testBit w.toNat 38 = false →
      RunsOn (.bpr p h) s s p h (s.hand p h)) ∧
    (Issues s p h 0x05 w → present s (s.t2Of p) (fld w 32 6) = false → Nat.testBit w.toNat 38 = true →
      RunsOn (.bpr p h) s (s.bump 0x2400 5) p h (s.hand p h)) ∧
    (Issues s p h 0x05 w → present s (s.t2Of p) (fld w 32 6) = false → Nat.testBit w.toNat 38 = false →
      BranchesTo (.bpr p h) s (s.bump 0x2400 5) p h (fld w 0 11) (s.hand p h))

/-- LI, ADDI and ALU write one register and go on; register arithmetic wraps modulo 2^32, and s0 reads as zero and discards writes (R32). The
conditions of BCC: EQ, NE, signed LT and GE, unsigned LTU and GEU; no other FN is valid. The functions of ALU: sums, differences and
products modulo 2^32, logic, shifts by bits [4:0] of the second operand with zeros or copies of bit 31 (R338), and minima and maxima,
signed and unsigned; no other FN is valid, and ALU raises ILLEGAL_OP at one (R56). SETV and SETEB set a base that must be a multiple of
64, SETSTG the staging area, and MARK the restart record (R338); an operand that fails its check raises ADDR. -/
def Obligations.ScalarOperations : Prop :=
 ((∀ (s : State) (p h : Nat) (w : W64),
    (Issues s p h 0x08 w →
      RunsOn (.li p h) s s p h ((s.hand p h).setSreg (fld w 52 4) (BitVec.ofNat 32 (fld w 0 32)))) ∧
    (Issues s p h 0x09 w →
      RunsOn (.addi p h) s s p h ((s.hand p h).setSreg (fld w 52 4)
        (BitVec.ofNat 32 (((s.hand p h).sreg (fld w 48 4)).toNat + fld w 0 32)))) ∧
    (∀ v, Issues s p h 0x0A w →
      aluFn (fld w 40 4) ((s.hand p h).sreg (fld w 48 4)) ((s.hand p h).sreg (fld w 44 4)) = some v →
      RunsOn (.alu p h) s s p h ((s.hand p h).setSreg (fld w 52 4) v)) ∧
    (Issues s p h 0x0A w →
      aluFn (fld w 40 4) ((s.hand p h).sreg (fld w 48 4)) ((s.hand p h).sreg (fld w 44 4)) = none →
      exec (.alu p h) s = .next (faulted s p h 0x0A fIllegal))) ∧
  (∀ (d : Hand) (r k : Nat) (v : W32), (d.setSreg r v).sreg k = if k = r ∧ r ≠ 0 then v else d.sreg k) ∧
  ∀ (d : Hand) (v : W32), d.sreg 0 = 0 ∧ d.setSreg 0 v = d) ∧
 (∀ a b : W32, bccCond 0 a b = some (decide (a = b)) ∧ bccCond 1 a b = some (decide (a ≠ b)) ∧
    bccCond 2 a b = some (decide (a.toInt < b.toInt)) ∧ bccCond 3 a b = some (decide (b.toInt ≤ a.toInt)) ∧
    bccCond 4 a b = some (decide (a.toNat < b.toNat)) ∧ bccCond 5 a b = some (decide (b.toNat ≤ a.toNat)) ∧
    ∀ fn, 6 ≤ fn → bccCond fn a b = none) ∧
 (∀ a b : W32, aluFn 0 a b = some (BitVec.ofNat 32 (a.toNat + b.toNat)) ∧ aluFn 1 a b = some (BitVec.ofInt 32 (a.toInt - b.toInt)) ∧
    aluFn 2 a b = some (BitVec.ofNat 32 (a.toNat * b.toNat)) ∧ aluFn 3 a b = some (a &&& b) ∧ aluFn 4 a b = some (a ||| b) ∧
    aluFn 5 a b = some (a ^^^ b) ∧ aluFn 6 a b = some (BitVec.ofNat 32 (a.toNat * 2 ^ (b.toNat % 32))) ∧
    aluFn 7 a b = some (BitVec.ofNat 32 (a.toNat / 2 ^ (b.toNat % 32))) ∧
    aluFn 8 a b = some (BitVec.ofInt 32 (a.toInt / 2 ^ (b.toNat % 32))) ∧
    aluFn 9 a b = some (BitVec.ofInt 32 (min a.toInt b.toInt)) ∧ aluFn 10 a b = some (BitVec.ofInt 32 (max a.toInt b.toInt)) ∧
    aluFn 11 a b = some (BitVec.ofNat 32 (min a.toNat b.toNat)) ∧ aluFn 12 a b = some (BitVec.ofNat 32 (max a.toNat b.toNat)) ∧
    ∀ fn, 13 ≤ fn → aluFn fn a b = none) ∧
 (∀ (s : State) (p h : Nat) (w : W64),
    (Issues s p h 0x10 w → regImm (s.hand p h) w % 64 = 0 →
      RunsOn (.setv p h) s s p h { s.hand p h with setv := BitVec.ofNat 32 (regImm (s.hand p h) w) }) ∧
    (Issues s p h 0x11 w → regImm (s.hand p h) w % 64 = 0 →
      RunsOn (.seteb p h) s s p h { s.hand p h with seteb := BitVec.ofNat 32 (regImm (s.hand p h) w) }) ∧
    (Issues s p h 0x12 w → ((s.hand p h).sreg (fld w 48 4)).toNat % 64 = 0 →
      ((s.hand p h).sreg (fld w 48 4)).toNat + fld w 0 32 ≤ 0x14000 →
      RunsOn (.setstg p h) s s p h { s.hand p h with
        stgBase := (s.hand p h).sreg (fld w 48 4), stgSize := BitVec.ofNat 32 (fld w 0 32) }) ∧
    (Issues s p h 0x14 w → RunsOn (.markOp p h) s s p h { s.hand p h with record := some {
        pc := (s.hand p h).pc + 1, sregs := (s.hand p h).sregs, setv := (s.hand p h).setv, seteb := (s.hand p h).seteb,
        stgBase := (s.hand p h).stgBase, stgSize := (s.hand p h).stgSize } }) ∧
    (Issues s p h 0x10 w → regImm (s.hand p h) w % 64 ≠ 0 →
      exec (.setv p h) s = .next (faulted s p h 0x10 fAddr)) ∧
    (Issues s p h 0x11 w → regImm (s.hand p h) w % 64 ≠ 0 →
      exec (.seteb p h) s = .next (faulted s p h 0x11 fAddr)) ∧
    (Issues s p h 0x12 w → ((s.hand p h).sreg (fld w 48 4)).toNat % 64 ≠ 0 ∨
      0x14000 < ((s.hand p h).sreg (fld w 48 4)).toNat + fld w 0 32 →
      exec (.setstg p h) s = .next (faulted s p h 0x12 fAddr)))

/-- LDS loads and STS stores the 32-bit little-endian word at s[A] + imm, which must be aligned and in the data area (R55); otherwise they
raise ADDR. STS changes exactly its four bytes of memory, LDS none. -/
def Obligations.ScalarMemory : Prop :=
  (∀ (s : State) (p h : Nat) (w : W64),
    (Issues s p h 0x0B w → regImm (s.hand p h) w % 4 = 0 → regImm (s.hand p h) w + 4 ≤ 0x14000 →
      RunsOn (.lds p h) s s p h ((s.hand p h).setSreg (fld w 52 4)
        (BitVec.ofNat 32 (leNat (s.rdData p (regImm (s.hand p h) w) 4))))) ∧
    (Issues s p h 0x0C w → regImm (s.hand p h) w % 4 = 0 → regImm (s.hand p h) w + 4 ≤ 0x14000 →
      RunsOn (.sts p h) s (s.wrData p (regImm (s.hand p h) w) (toLe 4 ((s.hand p h).sreg (fld w 44 4)).toNat)) p h (s.hand p h)) ∧
    (Issues s p h 0x0B w → regImm (s.hand p h) w % 4 ≠ 0 ∨ 0x14000 < regImm (s.hand p h) w + 4 →
      exec (.lds p h) s = .next (faulted s p h 0x0B fAddr)) ∧
    (Issues s p h 0x0C w → regImm (s.hand p h) w % 4 ≠ 0 ∨ 0x14000 < regImm (s.hand p h) w + 4 →
      exec (.sts p h) s = .next (faulted s p h 0x0C fAddr))) ∧
  ∀ (s : State) (p a v : Nat), a + 4 ≤ 0x14000 →
    leNat ((s.wrData p a (toLe 4 v)).rdData p a 4) = v % 2 ^ 32 ∧
    ∀ b, (b < daAddr p + a ∨ daAddr p + a + 4 ≤ b) → (s.wrData p a (toLe 4 v)).memByte b = s.memByte b

/-- YIELD passes issue to the other hand if that is ready (R51); WAITQ goes on once the units it selects are idle and waits at issue until
then (R52); END ends the stream once the hand's moves and drains are done; HAND_SWITCH passes issue from a hand in a sync-class wait to a
ready one. A switch is counted in OD 0x2140.03 and in the pinion's own counter, and changes nothing else. -/
def Obligations.HandsShareIssue : Prop :=
 (∀ (s : State) (p h : Nat) (w : W64),
    (Issues s p h 0x13 w → (s.hand p (1 - h)).isReady = false → RunsOn (.yieldOp p h) s s p h (s.hand p h)) ∧
    (Issues s p h 0x13 w → (s.hand p (1 - h)).isReady = true →
      exec (.yieldOp p h) s = .next ((switchHand (issuing s p h) p).resumeAt p h ((s.hand p h).pc + 1))) ∧
    (Issues s p h 0x15 w → waitqDone (s.pin p) (fld w 40 4) = true →
      RunsOn (.waitq p h) s s p h (s.hand p h)) ∧
    (Issues s p h 0x15 w → waitqDone (s.pin p) (fld w 40 4) = false →
      ∃ t, exec (.waitq p h) s = .next t ∧ HandStep s t p h { s.hand p h with st := .waitq }) ∧
    (Issues s p h 0x01 w → handBusy (s.pin p) h = false →
      ∃ t, exec (.endOp p h) s = .next t ∧ HandStep s t p h { s.hand p h with st := .idle, stream := none }) ∧
    (Issues s p h 0x01 w → handBusy (s.pin p) h = true →
      ∃ t, exec (.endOp p h) s = .next t ∧ HandStep s t p h { s.hand p h with st := .ending }) ∧
    (s.modState = stRunning → s.inService p = true → s.pinHeld p = false → s.odGet 0x2100 1 ≠ 0 →
      inSyncWait ((s.pin p).hand (s.pin p).cur) = true → ((s.pin p).hand (1 - (s.pin p).cur)).isReady = true →
      exec (.handSwitch p) s = .next (switchHand s p))) ∧
  ∀ (s : State) (p : Nat), (switchHand s p).pin p = ({ s.pin p with cur := 1 - (s.pin p).cur } : Pinion).count 3 1 ∧
    (∀ q, q ≠ p → (switchHand s p).pin q = s.pin q) ∧ (switchHand s p).odGet 0x2140 3 = (s.odGet 0x2140 3 + 1) % 2 ^ 64 ∧
    (∀ i j, odKey i j ≠ odKey 0x2140 3 → (switchHand s p).odGet i j = s.odGet i j) ∧
    { switchHand s p with pinions := s.pinions, od := s.od } = s

/-- Instruction faults (R54, R56): a word that the chapter does not list, or a listed one with a reserved field that is not 0, raises
ILLEGAL_OP before any effect, whichever instruction it stands for. After the last word of its area a hand takes PC_RANGE before any
further fetch. A fault leaves its word, its count, its log record and a NOTIFY, and a pinion in service is to be fenced; while its engines
are busy nothing else changes yet. A pinion that is out of service is not fenced again. -/
def Obligations.InstructionFaults : Prop :=
  (∀ (s : State) (p h : Nat), s.canIssue p h = true →
    let w := s.fetchWord p (s.hand p h).pc
    let rows : List ((Nat → Nat → Instr) × Nat) :=
      [(.nop, 0x00), (.endOp, 0x01), (.jmp, 0x02), (.loop, 0x03), (.bcc, 0x04), (.bpr, 0x05), (.li, 0x08), (.addi, 0x09), (.alu, 0x0A),
       (.lds, 0x0B), (.sts, 0x0C), (.setv, 0x10), (.seteb, 0x11), (.setstg, 0x12), (.yieldOp, 0x13), (.markOp, 0x14), (.waitq, 0x15),
       (.sadd, 0x20), (.sset, 0x21), (.stgt, 0x22), (.swge, 0x23), (.sweq, 0x24), (.sarv, 0x25), (.sbr, 0x26), (.dmv, 0x40), (.dpf, 0x41),
       (.vld, 0x60), (.vst, 0x61), (.vlds, 0x62), (.vstm, 0x63), (.vadd, 0x64), (.vmul, 0x65), (.vfma, 0x66), (.vfnma, 0x67),
       (.vmin, 0x68), (.vmax, 0x69), (.vcmp, 0x6A), (.vsel, 0x6B), (.vcvt, 0x6C), (.vcvn, 0x6D), (.vcvf, 0x6E), (.vscl, 0x6F),
       (.vrsum, 0x70), (.vrssq, 0x71), (.vramx, 0x72), (.vfin, 0x73), (.vsex, 0x74), (.vspl, 0x75), (.vrec, 0x76), (.vact, 0x78),
       (.viadd, 0x7C), (.vimul, 0x7D), (.vlogic, 0x7E), (.vshf, 0x7F), (.mtx, 0x80), (.mtxb, 0x81), (.drn, 0xA0), (.bst, 0xA1),
       (.bld, 0xA2), (fun p h => .openOp p ⟨h, false⟩, 0xA300), (fun p h => .openOp p ⟨h, true⟩, 0xA300),
       (fun p h => .commitOp p ⟨h, false⟩, 0xA301), (fun p h => .commitOp p ⟨h, true⟩, 0xA301), (fun p h => .freeOp p ⟨h, false⟩, 0xA302),
       (fun p h => .freeOp p ⟨h, true⟩, 0xA302)]
    ∀ c row, (c, row) ∈ rows → wordRow w = none ∨ (wordRow w = some row ∧ wordOk w = false) →
      exec (c p h) s = .next (faulted s p h (fld w 56 8) fIllegal)) ∧
  (∀ (s : State) (p h : Nat) (w : W64), Issues s p h 0x00 w → (s.hand p h).pc = 2047 →
    ∃ t, HandStep s t p h { s.hand p h with pc := 2048, st := .ready } ∧ exec (.nop p h) s = .next (t.takeFault p h 2047 0 fPcRange)) ∧
  ∀ (s : State) (p h pc op code : Nat), s.inService p = false ∨ State.pinQuiet (s.pin p) = false →
    let w := p <<< 48 ||| (h % 2) <<< 47 ||| code <<< 32 ||| (pc % 2048) <<< 16 ||| op <<< 8
    let t := s.takeFault p h pc op code
    t.odGet 0x2150 1 = w ∧ t.odGet 0x2150 2 = (s.odGet 0x2150 2 + 1) % 2 ^ 32 ∧
      (t.pin p).stopping = (if s.inService p = true then some .fence else (s.pin p).stopping) ∧
      t.errLog.getLast? = some { ft := s.time.ft, source := 6, code := code, level := 0, index := p, data := padTo 16 (toLe 8 w) } ∧
      t.crown = ((s.odSet 0x2150 1 w).countNotify 0x2150 2).crown ∧ t.out = ((s.odSet 0x2150 1 w).countNotify 0x2150 2).out ∧
      (t.hand p h).pc = (s.hand p h).pc ∧ (t.hand p h).sregs = (s.hand p h).sregs ∧ (t.hand p h).vregs = (s.hand p h).vregs ∧
      t.mem = s.mem ∧ t.syncs = s.syncs ∧ t.barrels = s.barrels ∧ (∀ q, q ≠ p → t.pin q = s.pin q)

/-- An issue port accepts stream descriptors only in RUNNING and HELD; in every other state it answers STATE, and delivers nothing. -/
def Obligations.IssuePortsAcceptOnlyRunningOrHeld : Prop :=
  ∀ (s : State) (port : Nat) (d : BitVec 256),
    (s.modState ≠ stRunning → s.modState ≠ stHeld → exec (.streamDescriptor port d) s = .next (s.emit (.issueStatus .state))) ∧
    (streamAnswer s port d = .accepted → s.modState = stRunning ∨ s.modState = stHeld) ∧
    (streamAnswer s port d ≠ .accepted → exec (.streamDescriptor port d) s = .next (s.emit (.issueStatus (streamAnswer s port d))))

/-- A descriptor is accepted in RUNNING and HELD by a train with a pinion in service, if its fields pass the checks of R33 and no pending
slot is taken. An accepted descriptor starts on every in-service pinion of the train: its stream begins at START_PC with s1 to s6 set, every
other register, setting and record 0 (R34); a hand that runs a stream keeps it as pending (R33), and takes it up when that has ended. With
LOAD its code image is copied into the instruction area first, and no other byte of memory changes; an uncorrectable error in the image is
fatal and starts nothing (R136), and an image behind a closed Bezel raises ISOLATED (R296). -/
def Obligations.StreamsStart : Prop :=
  (∀ (s : State) (port : Nat) (d : BitVec 256), streamAnswer s port d = .accepted ↔
    (s.modState = stRunning ∨ s.modState = stHeld) ∧ s.portPinions port ≠ [] ∧ streamRangeOk s port d = true ∧
      ∀ q ∈ s.portPinions port, (s.hand q (fld d 16 8)).pend = none) ∧
  (∀ (s : State) (port : Nat) (d : BitVec 256), streamAnswer s port d = .accepted →
    exec (.streamDescriptor port d) s = .next ((s.portPinions port).foldl (fun t p => deliver t p (fld d 16 8) port d)
      ((s.emit (.issueStatus .accepted)).unitMod (port / 65536) (port % 65536) (fun u => { u with tag := fld d 0 16 })))) ∧
  (∀ (s : State) (p h port : Nat) (d : BitVec 256),
    ((s.hand p h).stream.isSome = true ∨ (s.hand p h).pend.isSome = true →
      deliver s p h port d = s.setHand p h { s.hand p h with pend := some (port, d) }) ∧
    ((s.hand p h).stream = none → (s.hand p h).pend = none → deliver s p h port d = startStream s p h port d) ∧
    ((s.hand p h).pend = some (port, d) → (s.hand p h).stream = none → s.modState = stRunning ∨ s.modState = stHeld →
      s.inService p = true → h < 2 → (s.pin p).stopping = none →
      exec (.pendingStreamStart p h) s = .next (startStream s p h port d))) ∧
  (∀ (s : State) (p h port : Nat) (d : BitVec 256), Nat.testBit (fld d 24 8) 1 = true →
    let n := 8 * fld d 48 16
    let src := fld d 64 64
    let at_ := iaAddr p + 8 * fld d 128 16
    let c := s.crossed (s.pinUnits p) (s.regionUnits (s.region src n))
    let t := startStream s p h port d
    (∀ a, s.wrongLine [(src, n)] = some a → t = s.eccFault a) ∧
    (s.wrongLine [(src, n)] = none → c = [] → (∀ i, i < n → t.memByte (at_ + i) = s.readByte (src + i)) ∧
      (∀ b, b < at_ ∨ at_ + n ≤ b → t.memByte b = s.memByte b) ∧ { t with mem := s.mem, pinions := s.pinions } = s) ∧
    (s.wrongLine [(src, n)] = none → c ≠ [] →
      ∃ u : State, t = ((u.bump 0x9300 1).isolate c).takeFault p h (fld d 32 16) 0 fIsolated ∧ { u with pinions := s.pinions } = s)) ∧
  ∀ (s : State) (p h port : Nat) (d : BitVec 256), Nat.testBit (fld d 24 8) 1 = false ∨
    (s.wrongLine [(fld d 64 64, 8 * fld d 48 16)] = none ∧
      s.crossed (s.pinUnits p) (s.regionUnits (s.region (fld d 64 64) (8 * fld d 48 16))) = []) →
    ((startStream s p h port d).hand p h).pc = fld d 32 16 ∧
    ((startStream s p h port d).hand p h).sreg 1 = BitVec.ofNat 32 p ∧
    ((startStream s p h port d).hand p h).sreg 2 = BitVec.ofNat 32 (s.rankIn port p) ∧
    ((startStream s p h port d).hand p h).sreg 3 = BitVec.ofNat 32 port ∧
    ((startStream s p h port d).hand p h).sreg 4 = BitVec.ofNat 32 (fld d 160 32) ∧
    ((startStream s p h port d).hand p h).sreg 5 = BitVec.ofNat 32 (fld d 192 32) ∧
    ((startStream s p h port d).hand p h).sreg 6 = BitVec.ofNat 32 (fld d 224 32) ∧
    (∀ k, 7 ≤ k → ((startStream s p h port d).hand p h).sreg k = 0) ∧
    (∀ k, ((startStream s p h port d).hand p h).vreg k = 0) ∧
    ((startStream s p h port d).hand p h).record = none ∧ ((startStream s p h port d).hand p h).pend = none ∧
    ((startStream s p h port d).hand p h).st = .ready ∧
    ((startStream s p h port d).hand p h).stream = some { desc := d, port := port } ∧
    ((startStream s p h port d).hand p h).setv = 0 ∧ ((startStream s p h port d).hand p h).seteb = 0 ∧
    ((startStream s p h port d).hand p h).stgBase = 0 ∧ ((startStream s p h port d).hand p h).stgSize = 0 ∧
    (Nat.testBit (fld d 24 8) 1 = false → { startStream s p h port d with pinions := s.pinions } = s)

/-- A sync instruction sends one request to the object it names. After SADD, SSET and STGT the hand goes on; after SWGE and SWEQ it waits;
after SARV it waits unless TARGET is 0 (R138, R139). SBR branches on the object's count without waiting (R137). The object that a sync
word names: absolute in MODE 00, one of the own pinion's 32 in MODE 01, one of the issuing train's in MODE 10; a number beyond them raises
ADDR, MODE 11 ILLEGAL_OP, and nothing is sent. -/
def Obligations.SyncInstructions : Prop :=
 (∀ (s : State) (p h sid : Nat) (w : W64), s.sidOf p (s.hand p h) (fld w 38 18) (fld w 36 2) = .ok sid →
    let v := syncV (s.hand p h) w
    let pc := (s.hand p h).pc
    (Issues s p h 0x20 w → exec (.sadd p h) s = .next ((sends s p h sid 0x20 (.add v)).resumeAt p h (pc + 1))) ∧
    (Issues s p h 0x21 w → exec (.sset p h) s = .next ((sends s p h sid 0x21 (.set v)).resumeAt p h (pc + 1))) ∧
    (Issues s p h 0x22 w → exec (.stgt p h) s = .next ((sends s p h sid 0x22 (.tgt v)).resumeAt p h (pc + 1))) ∧
    (Issues s p h 0x23 w → exec (.swge p h) s = .next (awaits (sends s p h sid 0x23 (.waitGe v)) p h pc)) ∧
    (Issues s p h 0x24 w → exec (.sweq p h) s = .next (awaits (sends s p h sid 0x24 (.waitEq v)) p h pc)) ∧
    (Issues s p h 0x25 w → (s.sync sid).target ≠ 0 →
      exec (.sarv p h) s = .next (awaits (sends s p h sid 0x25 (.arrive true)) p h pc)) ∧
    (Issues s p h 0x25 w → (s.sync sid).target = 0 →
      exec (.sarv p h) s = .next ((sends s p h sid 0x25 (.arrive false)).resumeAt p h (pc + 1)))) ∧
 (∀ (s : State) (p h c : Nat) (w : W64), s.sidOf p (s.hand p h) (fld w 38 18) (fld w 36 2) = .error c →
    ∀ i op, ((i, op) : (Nat → Nat → Instr) × Nat) ∈ [(.sadd, 0x20), (.sset, 0x21), (.stgt, 0x22), (.swge, 0x23), (.sweq, 0x24),
      (.sarv, 0x25), (.sbr, 0x26)] → Issues s p h op w → exec (i p h) s = .next (faulted s p h op c)) ∧
 (∀ (s : State) (p : Nat) (d : Hand) (k : Nat), s.sidOf p d k 0 = .ok k ∧
    (k < 32 → s.sidOf p d k 1 = .ok (p * 32 + k)) ∧ (32 ≤ k → s.sidOf p d k 1 = .error fAddr) ∧ s.sidOf p d k 3 = .error fIllegal ∧
    ∀ st : Stream, d.stream = some st →
      (k < 32 * (s.trainPinions (st.port / 65536) (st.port % 65536)).length →
        s.sidOf p d k 2 = .ok ((s.trainPinions (st.port / 65536) (st.port % 65536)).headD 0 * 32 + k)) ∧
      (32 * (s.trainPinions (st.port / 65536) (st.port % 65536)).length ≤ k → s.sidOf p d k 2 = .error fAddr))

/-- The comparisons of R137: GE and LT are serial, EQ and NE compare all 32 bits, and the counter counts modulo 2^32; a wait is released by
the count that meets it, a barrier trips by the same comparison, and SBR branches by it on its zero-extended 16-bit value. -/
def Obligations.SerialComparison : Prop :=
  (∀ a v : W32, (serialGe a v = true ↔ ((a.toNat : Int) - v.toNat) % 2 ^ 32 < 2 ^ 31) ∧
    (sbrCond 0 a v = true ↔ ((a.toNat : Int) - v.toNat) % 2 ^ 32 < 2 ^ 31) ∧ (sbrCond 1 a v = true ↔ a = v) ∧
    (sbrCond 2 a v = true ↔ ¬ ((a.toNat : Int) - v.toNat) % 2 ^ 32 < 2 ^ 31) ∧ (sbrCond 3 a v = true ↔ a ≠ v)) ∧
  (∀ (o : SyncObj) (b : Bool) (src : ReqSrc) (v : W32),
    (released o b { src := src, op := .waitGe v } = true ↔ ((o.count.toNat : Int) - v.toNat) % 2 ^ 32 < 2 ^ 31) ∧
    (released o b { src := src, op := .waitEq v } = true ↔ o.count = v)) ∧
  (∀ (n : Nat) (o : SyncObj) (src : ReqSrc) (v : W32), o.acq = [] →
    (o.target = 0 → (applyCycle n o [{ src := src, op := .add v }]).1.count.toNat = (o.count.toNat + v.toNat) % 2 ^ 32) ∧
    (o.target ≠ 0 → ((applyCycle n o [{ src := src, op := .arrive true }]).1.phase ≠ o.phase ↔
      ((o.count.toNat : Int) + 1 - o.target.toNat) % 2 ^ 32 < 2 ^ 31))) ∧
  ∀ (s : State) (p h sid : Nat) (w : W64), Issues s p h 0x26 w → s.sidOf p (s.hand p h) (fld w 38 18) (fld w 36 2) = .ok sid →
    let o := s.sync sid
    (s.syncIsolated sid = false → sbrCond (fld w 34 2) o.count (BitVec.ofNat 32 (fld w 16 16)) = true →
      BranchesTo (.sbr p h) s s p h (fld w 0 11) (s.hand p h)) ∧
    (s.syncIsolated sid = false → sbrCond (fld w 34 2) o.count (BitVec.ofNat 32 (fld w 16 16)) = false →
      RunsOn (.sbr p h) s s p h (s.hand p h)) ∧
    (s.syncIsolated sid = true → exec (.sbr p h) s = .next
      (((issuing s p h).isolate (s.crossed (s.pinUnits p) (s.pinUnits (sid / 32)))).takeFault p h (s.hand p h).pc 0x26 fIsolated))

/-- One cycle of an object (R138, R139): one acquiring operation, then the sum of the ADDs and ARRIVEs that reach it, then the barrier, which
subtracts TARGET once and toggles PHASE, then the waits; a waiter is released exactly if its condition holds then. The rotating-priority
rule of R145: the first asking requester at or after the pointer, counting upward modulo n; the pointer of an object goes just past the
requester it grants. -/
def Obligations.ObjectCycle : Prop :=
 (∀ (n : Nat) (o : SyncObj) (reached : List Req),
    let o1 := acquireOne n { o with acq := o.acq ++ reached.filter (fun r => match r.op with
      | .set _ => true
      | .tgt _ => true
      | _ => false) }
    let c := o1.count + (reached.map addend).sum
    let trip := decide (o1.target ≠ 0) && serialGe c (o1.target.setWidth 32)
    let r := applyCycle n o reached
    r.1.count = (if trip then c - o1.target.setWidth 32 else c) ∧ r.1.phase = (o.phase != trip) ∧
    r.1.target = o1.target ∧ r.1.acq = o1.acq ∧ r.1.onWay = o.onWay ∧
    (∀ q, q ∈ r.2 ↔ (q ∈ o.waiters ∨ q ∈ reached ∧ waits q = true) ∧ released r.1 trip q = true) ∧
    (∀ q, q ∈ r.1.waiters ↔ (q ∈ o.waiters ∨ q ∈ reached ∧ waits q = true) ∧ released r.1 trip q = false)) ∧
 ((∀ (asking : List Nat) (ptr n : Nat), ptr < n → (∀ k ∈ asking, k < n) →
    grant asking ptr n = ((List.range n).map (fun i => (ptr + i) % n)).find? (fun k => asking.contains k)) ∧
  ∀ (n k : Nat) (o : SyncObj), grant (o.acq.map reqNum) o.ptr n = some k → (acquireOne n o).ptr = (k + 1) % n)

/-- SYNC_APPLY carries out one cycle of an object in service on the requests that have reached it, and releases the hands that it lets go on;
an ADD may latch the seal (R218) or count as a replay (R252). An object behind a closed Bezel answers each of them ISOLATED (R142).
WAIT_RELEASE makes a released hand ready at its next word; of two hands that become ready in the same cycle the rotating-priority rule
chooses the one that issues (R52). -/
def Obligations.SyncApplies : Prop :=
  (∀ (sid : Nat) (reach : List Nat) (s : State), sid < 262144 → reach.all (firstOfSource (s.sync sid).onWay) = true →
    s.syncIsolated sid = false →
    let r := applyCycle (2 * s.pinCount) { s.sync sid with onWay := leave (s.sync sid).onWay reach } (pick (s.sync sid).onWay reach)
    let t := r.2.foldl releaseHand (s.syncMod sid (fun _ => r.1))
    exec (.syncApply sid reach) s = .next (State.countReplays (State.sealLatch { t with relStamp := t.relStamp + 1 } sid
      (pick (s.sync sid).onWay reach)) sid (pick (s.sync sid).onWay reach))) ∧
  (∀ (sid : Nat) (reach : List Nat) (s : State), sid < 262144 → reach.all (firstOfSource (s.sync sid).onWay) = true →
    s.syncIsolated sid = true →
    exec (.syncApply sid reach) s = .next ((pick (s.sync sid).onWay reach).foldl isolatedReq
      ((s.syncMod sid (fun x => { x with onWay := leave (s.sync sid).onWay reach })).isolate
        ((pick (s.sync sid).onWay reach).flatMap (fun r => s.crossed (match r.src with
          | .hand p _ _ _ => s.pinUnits p
          | _ => [(5, 0)]) (s.pinUnits (sid / 32))))))) ∧
  (∀ (s : State) (p h pc op : Nat) (o : ReqOp), (s.hand p h).st = .syncWait →
    releaseHand s { src := .hand p h pc op, op := o } = s.setHand p h { s.hand p h with st := .released s.relStamp }) ∧
  (∀ (s : State) (p h n : Nat) (both : Bool), h < 2 → (s.hand p h).st = .released n → (s.hand p h).stream.isSome = true →
    s.inService p = true →
    let ready := s.setHand p h { s.hand p h with st := .ready }
    ((s.hand p (1 - h)).st ≠ .released n →
      (both && isReleased (s.hand p (1 - h)).st && (s.hand p (1 - h)).stream.isSome) = false →
      exec (.waitRelease p ⟨h, both⟩) s = .next (if (s.hand p h).pc < 2048 then ready else ready.takeFault p h 2047 0 fPcRange)) ∧
    ((s.hand p (1 - h)).st = .released n ∨
        (both = true ∧ isReleased (s.hand p (1 - h)).st = true ∧ (s.hand p (1 - h)).stream.isSome = true) →
      let g := (s.pin p).handPtr % 2
      exec (.waitRelease p ⟨h, both⟩) s = .next (((s.pinMod p (fun y => { y with cur := g, handPtr := 1 - g })).resumeAt p h
        (s.hand p h).pc).resumeAt p (1 - h) (s.hand p (1 - h)).pc))) ∧
  ∀ (s : State) (p h pc : Nat), pc < 2048 → s.resumeAt p h pc = s.setHand p h { s.hand p h with pc := pc, st := .ready }

/-- DMV and DPF queue their descriptors on data-move queue 0 and 1 and the hand goes on (R57, R53); a misaligned or out-of-bounds list raises
ADDR, a reserved MODE of the post ILLEGAL_OP. DATA_MOVE_DESCRIPTOR moves the rows of a descriptor that passes its checks, in order, and takes
it off its queue; after the last one of a DMV or DPF it posts (R57). A descriptor that fails them raises DESC, a DPF's that leaves the staging
area ADDR (R53), a row that meets a closed Bezel ISOLATED (R296), and a row with an uncorrectable error is not delivered (R136). A row
arrives as it was read, and a move changes no byte of memory outside its rows. -/
def Obligations.DataMoves : Prop :=
 (∀ (s : State) (p h : Nat) (w : W64),
    let d := s.hand p h
    let base := ((d.sreg (fld w 31 4)).toNat + fld w 23 8 * 32) % 2 ^ 32
    let n := if fld w 15 8 = 0 then 256 else fld w 15 8
    let posts := postField s p d (Nat.testBit w.toNat 55) (fld w 37 18) (fld w 35 2)
    (∀ post, posts = .ok post →
      (Issues s p h 0x40 w → base % 32 = 0 → base + 32 * n ≤ 0x14000 →
        exec (.dmv p h) s = .next (((issuing s p h).pinMod p (fun x => { x with
          dmq0 := x.dmq0 ++ [.xfer h d.pc 0x40 base n post d.stgBase.toNat d.stgSize.toNat false] })).resumeAt p h (d.pc + 1))) ∧
      (Issues s p h 0x41 w → base % 32 = 0 → base + 32 * n ≤ 0x14000 →
        exec (.dpf p h) s = .next (((issuing s p h).pinMod p (fun x => { x with
          dmq1 := x.dmq1 ++ [.xfer h d.pc 0x41 base n post d.stgBase.toNat d.stgSize.toNat true] })).resumeAt p h (d.pc + 1))) ∧
      (Issues s p h 0x40 w → base % 32 ≠ 0 ∨ 0x14000 < base + 32 * n → exec (.dmv p h) s = .next (faulted s p h 0x40 fAddr)) ∧
      (Issues s p h 0x41 w → base % 32 ≠ 0 ∨ 0x14000 < base + 32 * n → exec (.dpf p h) s = .next (faulted s p h 0x41 fAddr))) ∧
    (∀ c, posts = .error c → (Issues s p h 0x40 w → exec (.dmv p h) s = .next (faulted s p h 0x40 c)) ∧
      (Issues s p h 0x41 w → exec (.dpf p h) s = .next (faulted s p h 0x41 c)))) ∧
 (∀ (s : State) (p q n h pc op base left sb sz : Nat) (post : Option Nat) (pre : Bool) (rest : List DmJob),
    moveOn s p = true → q < 2 → s.mayWork p q = true → (s.pin p).dmq q = .xfer h pc op base left post sb sz pre :: rest →
    let x := xferDesc (s.rdData p base 32)
    let rank := ((s.hand p h).sreg 2).toNat
    let src := xferBase p rank x.rows x.srcStride x.src
    let dst := xferBase p rank x.rows x.dstStride x.dst
    let inArea := pre = true → ∀ i < x.rows, inStaging s p sb sz (dst + i * x.dstStride) x.rowBytes = true
    let clean := fun k => ∀ i < k, s.wrongLine [(src + i * x.srcStride, x.rowBytes)] = none
    let r := moveRows p x x.rows s src dst
    (xferOk s p src dst x = true → inArea → clean x.rows → r.2 = true → left ≤ 1 → exec (.dataMoveDescriptor p ⟨q, n⟩) s =
      .next ((((r.1.pinMod p (fun y => y.setDmq q rest)).postOpt post).headDone p q).tryStop p)) ∧
    (xferOk s p src dst x = true → inArea → clean x.rows → r.2 = true → 1 < left → exec (.dataMoveDescriptor p ⟨q, n⟩) s =
      .next ((r.1.pinMod p (fun y => y.setDmq q (.xfer h pc op (base + 32) (left - 1) post sb sz pre :: rest))).headDone p q)) ∧
    (xferOk s p src dst x = false → exec (.dataMoveDescriptor p ⟨q, n⟩) s = .next (xferFault s p q h pc op fDesc rest)) ∧
    (xferOk s p src dst x = true → ¬ inArea → exec (.dataMoveDescriptor p ⟨q, n⟩) s = .next (xferFault s p q h pc op fAddr rest)) ∧
    (xferOk s p src dst x = true → inArea → clean x.rows → r.2 = false →
      exec (.dataMoveDescriptor p ⟨q, n⟩) s = .next (xferFault r.1 p q h pc op fIsolated rest)) ∧
    ∀ k a, xferOk s p src dst x = true → inArea → k < x.rows → clean k →
      s.wrongLine [(src + k * x.srcStride, x.rowBytes)] = some a → (moveRows p x k s src dst).2 = true →
      exec (.dataMoveDescriptor p ⟨q, n⟩) s = .next (((moveRows p x k s src dst).1.eccFault
        ((s.wrongLine ((List.range (x.rows - k)).map (fun i => (src + (k + i) * x.srcStride, x.rowBytes)))).getD 0)).headDone p q)) ∧
 (∀ (s : State) (p q h pc op code : Nat) (rest : List DmJob), (s.pin p).stopping = none →
    (s.hand p h).stream.map (·.faulted) ≠ some true →
    xferFault s p q h pc op code rest = ((s.pinMod p (fun y => y.setDmq q rest)).headDone p q).takeFault p h pc op code) ∧
 (∀ (p : Nat) (x : XferDesc) (s : State) (src dst i : Nat), (moveRows p x 1 s src dst).2 = true → i < x.rowBytes →
    (dst + x.rowBytes ≤ shadowBase → (moveRows p x 1 s src dst).1.memByte (dst + i) = s.readByte (src + i)) ∧
    (slowBase ≤ dst → (moveRows p x 1 s src dst).1.readByte (dst + i) = s.readByte (src + i))) ∧
  ∀ (p n : Nat) (x : XferDesc) (s : State) (src dst b : Nat),
    (∀ i < n, b < dst + i * x.dstStride ∨ dst + i * x.dstStride + x.rowBytes ≤ b) →
    (moveRows p x n s src dst).1.memByte b = s.memByte b

/-- BDIR: OPEN allocates a slot, COMMIT makes it present (OPEN_EVICTED becomes EVICTED), FREE frees it, by the procedures of R103; evictions
and slots opened again are counted, the other slots are left alone by COMMIT and FREE, and LINES 0 in an OPEN or another LINES in a COMMIT
or FREE raises ILLEGAL_OP. Of two BDIRs that arrive at a directory in one cycle the rotating-priority rule chooses the first (R102). BST and
BLD take their place in queue 0; a wrong operand raises ILLEGAL_OP or ADDR. Their lines move between the data area and an OPEN or PRESENT
slot as DATA_MOVE_DESCRIPTOR comes to them; lines that meet the slot in another state are counted instead (R105). They then post. -/
def Obligations.BarrelMoves : Prop :=
 (∀ (s : State) (p h : Nat) (w : W64),
    let d := s.hand p h
    let lines := fld w 24 14
    let addr := regOff d (fld w 46 4) (fld w 38 8) 64
    let off := (d.sreg (fld w 20 4)).toNat
    let slot := (barrelOf s (s.t2Of p)).slot (fld w 50 6)
    let post := if Nat.testBit w.toNat 19 then some (32 * p + fld w 14 5) else none
    (lines ≠ 0 → addr % 64 = 0 → addr + 64 * lines ≤ 0x14000 → off + lines ≤ slot.lines →
      (Issues s p h 0xA1 w → exec (.bst p h) s = .next (((issuing s p h).pinMod p (fun x => { x with
        dmq0 := x.dmq0 ++ [.barrel h d.pc true (fld w 50 6) addr lines off post] })).resumeAt p h (d.pc + 1))) ∧
      (Issues s p h 0xA2 w → exec (.bld p h) s = .next (((issuing s p h).pinMod p (fun x => { x with
        dmq0 := x.dmq0 ++ [.barrel h d.pc false (fld w 50 6) addr lines off post] })).resumeAt p h (d.pc + 1)))) ∧
    (lines = 0 → (Issues s p h 0xA1 w → exec (.bst p h) s = .next (faulted s p h 0xA1 fIllegal)) ∧
      (Issues s p h 0xA2 w → exec (.bld p h) s = .next (faulted s p h 0xA2 fIllegal))) ∧
    (lines ≠ 0 → addr % 64 ≠ 0 ∨ 0x14000 < addr + 64 * lines ∨ slot.lines < off + lines →
      (Issues s p h 0xA1 w → exec (.bst p h) s = .next (faulted s p h 0xA1 fAddr)) ∧
      (Issues s p h 0xA2 w → exec (.bld p h) s = .next (faulted s p h 0xA2 fAddr)))) ∧
 (∀ (s : State) (p n h pc slot addr lines off : Nat) (store : Bool) (post : Option Nat) (rest : List DmJob),
    moveOn s p = true → s.mayWork p 0 = true → (s.pin p).dmq 0 = .barrel h pc store slot addr lines off post :: rest →
    let t2 := s.t2Of p
    let x := (barrelOf s t2).slot slot
    let k := min (max n 1) lines
    let c := s.crossed (s.pinUnits p) (s.regionUnits (.barrel t2))
    let data := fun i => daAddr p + addr + 64 * i
    let t := if store then
        (if x.state = 1 then copyLines data (barrelLine t2 x.base off) k s 0 else s.bumpBy 0x2400 2 k)
      else if x.state = 2 then copyLines (barrelLine t2 x.base off) data k s 0 else s.bumpBy 0x2400 3 k
    (c = [] → k < lines → exec (.dataMoveDescriptor p ⟨0, n⟩) s = .next (t.pinMod p (fun y => { y with
      dmq0 := .barrel h pc store slot (addr + 64 * k) (lines - k) (off + k) post :: rest }))) ∧
    (c = [] → lines ≤ k → exec (.dataMoveDescriptor p ⟨0, n⟩) s =
      .next ((((t.pinMod p (fun y => { y with dmq0 := rest })).postOpt post).headDone p 0).tryStop p)) ∧
    (c ≠ [] → exec (.dataMoveDescriptor p ⟨0, n⟩) s =
      .next (xferFault ((s.bump 0x9300 1).isolate c) p 0 h pc (if store then 0xA1 else 0xA2) fIsolated rest))) ∧
 (∀ (src dst : Nat → Nat) (n i b : Nat) (s : State), (∀ k < n, b < dst (i + k) ∨ dst (i + k) + 64 ≤ b) →
    (copyLines src dst n s i).memByte b = s.memByte b) ∧
 (∀ (s : State) (p h : Nat) (w : W64) (more : Bool),
    (Issues s p h 0xA300 w → fld w 34 14 ≠ 0 →
      RunsOn (.openOp p ⟨h, more⟩) s (bdirArrives s p (.openSlot (fld w 50 6) (fld w 34 14)) more) p h (s.hand p h)) ∧
    (Issues s p h 0xA301 w → fld w 34 14 = 0 →
      RunsOn (.commitOp p ⟨h, more⟩) s (bdirArrives s p (.commit (fld w 50 6)) more) p h (s.hand p h)) ∧
    (Issues s p h 0xA302 w → fld w 34 14 = 0 →
      RunsOn (.freeOp p ⟨h, more⟩) s (bdirArrives s p (.free (fld w 50 6)) more) p h (s.hand p h)) ∧
    (Issues s p h 0xA300 w → fld w 34 14 = 0 → exec (.openOp p ⟨h, more⟩) s = .next (faulted s p h 0xA3 fIllegal)) ∧
    (Issues s p h 0xA301 w → fld w 34 14 ≠ 0 → exec (.commitOp p ⟨h, more⟩) s = .next (faulted s p h 0xA3 fIllegal)) ∧
    (Issues s p h 0xA302 w → fld w 34 14 ≠ 0 → exec (.freeOp p ⟨h, more⟩) s = .next (faulted s p h 0xA3 fIllegal))) ∧
 (∀ (s : State) (p : Nat) (o : BdirOp),
    let t2 := s.t2Of p
    let b := barrelOf s t2
    let n := (s.portPinions (State.unitKey 2 t2)).length
    let rank := bdirRank s t2
    (b.waiting = [] → bdirArrives s p o false = applyBdir (setBarrel s t2 { b with ptr := (rank p + 1) % n }) t2 o) ∧
    bdirArrives s p o true = setBarrel s t2 { b with waiting := b.waiting ++ [(p, o)] } ∧
    ∀ q o', b.waiting = [(q, o')] → rank q ≠ rank p →
      let first := if (rank p + n - b.ptr) % n < (rank q + n - b.ptr) % n then (p, o) else (q, o')
      let second := if (rank p + n - b.ptr) % n < (rank q + n - b.ptr) % n then (q, o') else (p, o)
      let u := applyBdir (setBarrel s t2 { b with ptr := (rank first.1 + 1) % n, waiting := [second] }) t2 first.2
      bdirArrives s p o false = applyBdir (setBarrel u t2 { barrelOf u t2 with ptr := (rank second.1 + 1) % n, waiting := [] }) t2 second.2) ∧
 (∀ (s : State) (t2 i lines : Nat),
    let r := (barrelOf s t2).openSlot i lines
    applyBdir s t2 (.openSlot i lines) = (if r.2.2 then ((setBarrel s t2 r.1).bumpBy 0x2400 1 r.2.1).bump 0x2400 4
      else (setBarrel s t2 r.1).bumpBy 0x2400 1 r.2.1) ∧
    applyBdir s t2 (.commit i) = setBarrel s t2 ((barrelOf s t2).commitSlot i) ∧
    applyBdir s t2 (.free i) = setBarrel s t2 ((barrelOf s t2).freeSlot i)) ∧
 (∀ (b : Barrel) (i lines : Nat), ((b.openSlot i lines).1.slot i).state = 1 ∧ ((b.openSlot i lines).1.slot i).lines = lines ∧
    ((b.openSlot i lines).1.slot i).seq = b.nextSeq ∧
    ((b.commitSlot i).slot i).state = (if (b.slot i).state = 1 then 2 else if (b.slot i).state = 4 then 3 else (b.slot i).state) ∧
    ((b.freeSlot i).slot i).state = 0 ∧ ∀ j, j ≠ i → (b.commitSlot i).slot j = b.slot j ∧ (b.freeSlot i).slot j = b.slot j)

/-- MTX and MTXB issue their passes when the operands, formats and tiles allow it (R41, R44, R58, R59): the tiles are named, the passes take
the running or queued slots, and the hand goes on. A reserved combination raises ILLEGAL_OP, a wrong format FORMAT, a wrong address ADDR. A
tile not yet free holds the hand at the interlock, each wait counted once (R46), a full queue at the queue (R43). The tile rules (R40, R41,
R44, R45): a chain needs a held tile of its own kind without a drain; another pass needs an empty one, waits for a drain, and may flip only
after a pass of the hand's stream and to the other bank. -/
def Obligations.MatrixIssues : Prop :=
 (∀ (s : State) (p h g : Nat) (w : W64),
    let d := s.hand p h
    let x : Pinion := { s.pin p with cur := h }
    let r := mtxPass x d w
    let rb := mtxbPasses x d w
    let a := fld w 51 1
    let flipA := Nat.testBit w.toNat 49
    let flip := Nat.testBit w.toNat 46
    let u := (issuing s p h).setPin p (addPass (nameTile x a r g) a r)
    let ub := (issuing s p h).setPin p (addPass (addPass (nameTile (nameTile x 0 rb.1 g) 1 rb.2 g) 0 rb.1) 1 rb.2)
    let legalA : Prop := (r.chain && flipA) = false ∧ (r.chain = false → r.initMode ≠ 3)
    let formatA : Prop := fmtGroup r.fmtA = some g ∧ fmtGroup r.fmtB = some g ∧ (r.tA && isMx r.fmtA) = false ∧ (r.tB && isMx r.fmtB) = false
    let formatB := mtxbFormatsOk (Nat.testBit w.toNat 47) rb.1.fmtA rb.1.fmtB rb.2.fmtA
    let checkA := tileCheck x d a r.bank g flipA r.chain
    let check0 := tileCheck x d 0 rb.1.bank g (flip && !rb.1.chain) rb.1.chain
    let check1 := tileCheck x d 1 rb.2.bank g (flip && !rb.2.chain) rb.2.chain
    let held := (if d.st = .interlock then issuing s p h else (issuing s p h).pinCountBy p 0x2140 2 2 1).setHand p h { d with st := .interlock }
    (Issues s p h 0x80 w →
      (¬ legalA → exec (.mtx p h) s = .next (faulted s p h 0x80 fIllegal)) ∧
      (legalA → (∀ k, ¬ (fmtGroup r.fmtA = some k ∧ fmtGroup r.fmtB = some k)) ∨ (r.tA && isMx r.fmtA) = true ∨ (r.tB && isMx r.fmtB) = true →
        exec (.mtx p h) s = .next (faulted s p h 0x80 fFormat)) ∧
      (legalA → formatA → passAddrOk r = false → exec (.mtx p h) s = .next (faulted s p h 0x80 fAddr)) ∧
      (legalA → formatA → passAddrOk r = true → checkA = .ok → (x.arr a).queued = none →
        exec (.mtx p h) s = .next ((advance (if g = 5 ∧ (r.tA = true ∨ r.tB = true) then u.pinCountBy p 0x2140 6 6 1 else u) p).resumeAt p h
          (d.pc + 1))) ∧
      (legalA → formatA → passAddrOk r = true → ∀ c, checkA = .fault c → exec (.mtx p h) s = .next (faulted s p h 0x80 c)) ∧
      (legalA → formatA → passAddrOk r = true → checkA = .wait → exec (.mtx p h) s = .next held) ∧
      (legalA → formatA → passAddrOk r = true → checkA = .ok → (x.arr a).queued ≠ none →
        ∃ t, exec (.mtx p h) s = .next t ∧ HandStep s t p h { d with st := .queueHold })) ∧
    (Issues s p h 0x81 w →
      (formatB = false → exec (.mtxb p h) s = .next (faulted s p h 0x81 fFormat)) ∧
      (formatB = true → (passAddrOk rb.1 && passAddrOk rb.2) = false → exec (.mtxb p h) s = .next (faulted s p h 0x81 fAddr)) ∧
      (formatB = true → passAddrOk rb.1 = true → passAddrOk rb.2 = true → fmtGroup rb.1.fmtA = some g →
        (check0 = .ok → check1 = .ok → x.arr0.queued = none → x.arr1.queued = none →
          exec (.mtxb p h) s = .next ((advance (if g = 5 then ub.pinCountBy p 0x2140 6 6 2 else ub) p).resumeAt p h (d.pc + 1))) ∧
        (∀ c, check0 = .fault c ∨ (check1 = .fault c ∧ ∀ k, check0 ≠ .fault k) → exec (.mtxb p h) s = .next (faulted s p h 0x81 c)) ∧
        ((∀ k, check0 ≠ .fault k) → (∀ k, check1 ≠ .fault k) → check0 = .wait ∨ check1 = .wait → exec (.mtxb p h) s = .next held) ∧
        (check0 = .ok → check1 = .ok → x.arr0.queued ≠ none ∨ x.arr1.queued ≠ none →
          ∃ t, exec (.mtxb p h) s = .next t ∧ HandStep s t p h { d with st := .queueHold })))) ∧
 (∀ (x : Pinion) (d : Hand) (a bank g : Nat),
    let t := x.tile a bank
    (t.held = false → tileCheck x d a bank g false true = .fault fTileEmpty) ∧
    (t.held = true → t.drain ≠ none → tileCheck x d a bank g false true = .fault fTileEmpty) ∧
    (t.held = true → t.drain = none → t.isInt ≠ groupInt g → tileCheck x d a bank g false true = .fault fFormat) ∧
    (t.held = true → t.drain = none → t.isInt = groupInt g → tileCheck x d a bank g false true = .ok) ∧
    (t.drain ≠ none → tileCheck x d a bank g false false = .wait) ∧
    (t.drain = none → t.held = true → tileCheck x d a bank g false false = .fault fTileHeld) ∧
    (t.drain = none → t.held = false → tileCheck x d a bank g false false = .ok) ∧
    ∀ chain, ((x.arr a).lastBank = some bank → tileCheck x d a bank g true chain = .fault fFlipBank) ∧
      ((if a = 0 then d.seen0 else d.seen1) = false → tileCheck x d a bank g true chain = .fault fFlipBank) ∧
      ((if a = 0 then d.seen0 else d.seen1) = true → (x.arr a).lastBank ≠ some bank →
        tileCheck x d a bank g true chain = tileCheck x d a bank g false chain))

/-- LAST_K_STEP_ENTERED lets the queued pass of an array move up (R43). PASS_COMPLETE writes the sums of the pass into its tile (R38). Both
halves of an MTXB do so together (R58). An integer cell adds 64 exact products in order, each sum clamped to 32 bits, and says whether it
clamped (R65). -/
def Obligations.PassesProceed : Prop :=
 ((∀ (s : State) (p a : Nat), engineOn s p = true → a < 2 → kReady ((s.pin p).arr a) = true →
    let x := s.pin p
    let y := x.setArr a (kStep (x.arr a))
    let both := isPaired (x.arr a).running && kReady (x.arr (1 - a))
    exec (.lastKStepEntered p a) s = .next (advance (s.setPin p (if both then y.setArr (1 - a) (kStep (x.arr (1 - a))) else y)) p)) ∧
  (∀ (s : State) (p a : Nat) (same : Bool) (r : Pass), engineOn s p = true → a < 2 → ((s.pin p).arr a).tail = some r →
    let x := s.pin p
    let n := if same then x.stamp - 1 else x.stamp
    let y := completeArr x a n
    let z := if r.paired && isPaired (x.arr (1 - a)).tail then completeArr y (1 - a) n else y
    exec (.passComplete p ⟨a, same⟩) s = .next ((advance (s.setPin p { z with stamp := n + 1 }) p).tryStop p) ∧
    (y.tile a r.bank).acc = (passTile (x.tile a r.bank) r).acc ∧ (y.tile a r.bank).sat = (passTile (x.tile a r.bank) r).sat ∧
    (y.arr a).tail = none ∧ ∀ b, b ≠ r.bank → b < 2 → r.bank < 2 → y.tile a b = x.tile a b) ∧
  (∀ a : Arr, (kStep a).tail = a.running ∧ (kStep a).running = a.queued ∧ (kStep a).queued = none) ∧
  ∀ (t : Tile) (r : Pass) (n : Nat), n < 256 →
    let start := if r.chain then t.acc.getD n 0 else initCell r (n / 16) (n % 16)
    (t.isInt = false → (passTile t r).acc.getD n 0 = cellFloat r (n / 16) (n % 16) start) ∧
    (t.isInt = true → (passTile t r).acc.getD n 0 = (cellInt r (n / 16) (n % 16) start).1)) ∧
 (∀ (r : Pass) (i j : Nat) (acc : W32), ∃ sum : Nat → Int,
    let term (q : Nat) := opInt r.tA r.bytesA i q * opInt r.tB r.bytesB j q
    sum 0 = acc.toInt ∧ (∀ q < 64, sum (q + 1) = max (-2147483648) (min 2147483647 (sum q + term q))) ∧
    (cellInt r i j acc).1.toInt = sum 64 ∧ ((cellInt r i j acc).2 = true ↔ ∃ q < 64, sum (q + 1) ≠ sum q + term q))

/-- DRN queues a drain at a held tile that has none, once its descriptor and addresses pass the checks (R73, R74); an empty tile raises
TILE_EMPTY, and a tile that is queued or draining holds the hand at the interlock (R45). EPILOGUE_SERVICE serves the earliest request (R47):
the outputs, flags and counts of R72 to R79, open ones where the descriptor or what it reads has changed since the issue (R73), the tile
empty after it, and the post. -/
def Obligations.DrainsQueueAndServe : Prop :=
  (∀ (s : State) (p h c : Nat) (w : W64), Issues s p h 0xA0 w →
    postField s p (s.hand p h) (Nat.testBit w.toNat 29) (fld w 11 18) (fld w 9 2) = .error c →
    exec (.drn p h) s = .next (faulted s p h 0xA0 c)) ∧
  (∀ (s : State) (p h : Nat) (w : W64) (post : Option Nat), Issues s p h 0xA0 w →
    postField s p (s.hand p h) (Nat.testBit w.toNat 29) (fld w 11 18) (fld w 9 2) = .ok post →
    let d := s.hand p h
    let x : Pinion := { s.pin p with cur := h }
    let a := fld w 55 1
    let b := fld w 54 1
    let eb := d.seteb.toNat
    let epi := eb + fld w 48 6 * 64
    let out := regOff d (fld w 44 4) (fld w 36 8) 64
    let bytes := s.rdData p epi 64
    let e := epiDesc bytes
    let c := d.sreg (e.chReg % 16)
    ((x.tile a b).drain ≠ none → exec (.drn p h) s = .next ((if d.st = .interlock then issuing s p h
      else (issuing s p h).pinCountBy p 0x2140 2 2 1).setHand p h { d with st := .interlock })) ∧
    ((x.tile a b).drain = none → (x.tile a b).held = false → exec (.drn p h) s = .next (faulted s p h 0xA0 fTileEmpty)) ∧
    ((x.tile a b).drain = none → (x.tile a b).held = true →
      (0x14000 < epi + 64 → exec (.drn p h) s = .next (faulted s p h 0xA0 fAddr)) ∧
      (epi + 64 ≤ 0x14000 → e.illegal = true → exec (.drn p h) s = .next (faulted s p h 0xA0 fIllegal)) ∧
      (epi + 64 ≤ 0x14000 → e.illegal = false → e.badAddr eb c.toNat out = true → exec (.drn p h) s = .next (faulted s p h 0xA0 fAddr)) ∧
      (epi + 64 ≤ 0x14000 → e.illegal = false → e.badAddr eb c.toNat out = false →
        let desc := bytes ++ toLe 4 eb ++ drainReads s p e eb c.toNat
        let dr : Drain := { hand := h, epi := epi, chan := c, out := out, post := post, desc := desc }
        let y := requestDrain (x.setTile a b { x.tile a b with drain := some dr }) a b x.stamp
        exec (.drn p h) s = .next (((issuing s p h).setPin p { y with stamp := x.stamp + 1 }).resumeAt p h (d.pc + 1))))) ∧
  (∀ (s : State) (p a b : Nat) (x : Pinion) (d : Drain), engineOn s p = true → s.mayWork p 2 = true →
    nextDrain (s.pin p) = some (a, b, x) → (x.tile a b).drain = some d →
    let s1 := s.setPin p x
    let eb := leNat ((d.desc.drop 64).take 4)
    let e := epiDesc (s1.rdData p d.epi 64)
    let same := s1.rdData p d.epi 64 ++ toLe 4 eb ++ drainReads s1 p e eb d.chan.toNat = d.desc
    let served := if same then serveDrain s1 p (x.tile a b) d e eb
      else openDrain s1 p (x.tile a b) e (epiDesc d.desc).pair d.chan.toNat d.out
    exec (.epilogueService p) s = .next ((((served.headDone p 2).pinMod p
      (fun y => y.setTile a b (State.emptyTile (y.tile a b)))).postOpt d.post).tryStop p)) ∧
  ∀ (x y : Pinion) (a b : Nat), nextDrain x = some (a, b, y) → ∃ n, requestOf x a b = some n ∧
    ∀ a' b' m, a' < 2 → b' < 2 → requestOf x a' b' = some m → n ≤ m

/-- Loads and stores of the vector class (R339, R55): VLD and VLDS write a vector register, VST and VSTM the lines or lanes they name; the
line must be aligned and in the data area, or they raise ADDR. A FMT other than FP32 and FP64 raises FORMAT, a lane number or mask beyond
the lanes of FP64 ILLEGAL_OP. -/
def Obligations.VectorMemory : Prop :=
  ∀ (s : State) (p h : Nat) (w : W64),
    let d := s.hand p h
    let a := ((d.sreg (fld w 28 4)).toNat + fld w 20 8 * 64) % 2 ^ 32
    let fmt := fld w 52 4
    let n := vBits fmt / 8
    (a % 64 = 0 → a + 64 ≤ 0x14000 →
      (Issues s p h 0x60 w → RunsOn (.vld p h) s s p h (d.setVreg (fld w 47 5) (BitVec.ofNat 512 (leNat (s.rdData p a 64))))) ∧
      (Issues s p h 0x61 w → RunsOn (.vst p h) s (s.wrData p a (toLe 64 (d.vreg (fld w 42 5)).toNat)) p h d) ∧
      (Issues s p h 0x62 w → fmt = 9 ∨ fmt = 10 ∧ fld w 0 4 < 8 →
        RunsOn (.vlds p h) s s p h (d.setVreg (fld w 47 5)
          (ofLanes (8 * n) (List.replicate (64 / n) (leNat (s.rdData p (a + fld w 0 4 * n) n)))))) ∧
      (Issues s p h 0x63 w → fmt = 9 ∨ fmt = 10 ∧ fld w 0 16 < 256 →
        RunsOn (.vstm p h) s ((List.range (64 / n)).foldl (fun t i => if Nat.testBit (fld w 0 16) i then
          t.wrData p (a + i * n) (toLe n (fld (d.vreg (fld w 42 5)) (i * (8 * n)) (8 * n))) else t) s) p h d)) ∧
    (a % 64 ≠ 0 ∨ 0x14000 < a + 64 →
      (Issues s p h 0x60 w → exec (.vld p h) s = .next (faulted s p h 0x60 fAddr)) ∧
      (Issues s p h 0x61 w → exec (.vst p h) s = .next (faulted s p h 0x61 fAddr)) ∧
      (Issues s p h 0x62 w → fmt = 9 ∨ fmt = 10 ∧ fld w 0 4 < 8 → exec (.vlds p h) s = .next (faulted s p h 0x62 fAddr)) ∧
      (Issues s p h 0x63 w → fmt = 9 ∨ fmt = 10 ∧ fld w 0 16 < 256 → exec (.vstm p h) s = .next (faulted s p h 0x63 fAddr))) ∧
    (Issues s p h 0x62 w → (fmt ≠ 9 → fmt ≠ 10 → exec (.vlds p h) s = .next (faulted s p h 0x62 fFormat)) ∧
      (fmt = 10 → 8 ≤ fld w 0 4 → exec (.vlds p h) s = .next (faulted s p h 0x62 fIllegal))) ∧
    (Issues s p h 0x63 w → (fmt ≠ 9 → fmt ≠ 10 → exec (.vstm p h) s = .next (faulted s p h 0x63 fFormat)) ∧
      (fmt = 10 → 256 ≤ fld w 0 16 → exec (.vstm p h) s = .next (faulted s p h 0x63 fIllegal)))

/-- The lane-wise operations of the vector class on FP32 or FP64 lanes, each result rounded once (R83); another FMT raises FORMAT. VFNMA as
the negated sum is the model's reading (log 23). -/
def Obligations.VectorArithmetic : Prop :=
  ∀ (s : State) (p h : Nat) (w : W64),
    let d := s.hand p h
    let fmt := fld w 52 4
    let b := vBits fmt
    let lane (r i : Nat) := vDec fmt (fld (d.vreg r) (i * b) b)
    let res (f : Nat → FV) := d.setVreg (fld w 47 5) (ofLanes b ((List.range (512 / b)).map (fun i => vEnc fmt (f i))))
    let va := lane (fld w 42 5)
    let vb := lane (fld w 37 5)
    let vc := lane (fld w 32 5)
    (fmt = 9 ∨ fmt = 10 →
      (Issues s p h 0x64 w → RunsOn (.vadd p h) s s p h (res (fun i => (va i).add (vb i)))) ∧
      (Issues s p h 0x65 w → RunsOn (.vmul p h) s s p h (res (fun i => (va i).mul (vb i)))) ∧
      (Issues s p h 0x66 w → RunsOn (.vfma p h) s s p h (res (fun i => ((va i).mul (vb i)).add (vc i)))) ∧
      (Issues s p h 0x67 w → RunsOn (.vfnma p h) s s p h (res (fun i => (((va i).mul (vb i)).add (vc i)).neg))) ∧
      (Issues s p h 0x68 w → RunsOn (.vmin p h) s s p h (res (fun i => FV.vmin (va i) (vb i)))) ∧
      (Issues s p h 0x69 w → RunsOn (.vmax p h) s s p h (res (fun i => FV.vmax (va i) (vb i)))) ∧
      (Issues s p h 0x6F w → RunsOn (.vscl p h) s s p h (res (fun i => (va i).scale (sInt 16 (fld w 0 16)))))) ∧
    (fmt ≠ 9 → fmt ≠ 10 → ∀ c row, ((c, row) : (Nat → Nat → Instr) × Nat) ∈ [(.vadd, 0x64), (.vmul, 0x65), (.vfma, 0x66), (.vfnma, 0x67),
      (.vmin, 0x68), (.vmax, 0x69), (.vscl, 0x6F)] → Issues s p h row w → exec (c p h) s = .next (faulted s p h row fFormat))

/-- VCMP and VFIN write a mask with one bit for each lane, VSEL takes each lane by a mask; VIADD and VIMUL work on integers modulo 2^32
(R339). A FMT other than FP32 and FP64 raises FORMAT. VLOGIC and VSHF apply the function and the permutation that the spec leaves open (log
25); that a VCMP whose FN names no condition of floats raises ILLEGAL_OP is the model's reading (log 20). -/
def Obligations.VectorMasksAndIntegers : Prop :=
  ∀ (s : State) (p h : Nat) (w : W64),
    let d := s.hand p h
    let fmt := fld w 52 4
    let b := vBits fmt
    let bits (r i n : Nat) := fld (d.vreg r) (i * n) n
    let va (i : Nat) := vDec fmt (bits (fld w 42 5) i b)
    let vb (i : Nat) := vDec fmt (bits (fld w 37 5) i b)
    let put (v : W512) := d.setVreg (fld w 47 5) v
    (fmt = 9 ∨ fmt = 10 →
      (Issues s p h 0x6A w → fld w 16 4 < 4 → ∃ m : W512, RunsOn (.vcmp p h) s s p h (put m) ∧
        ∀ i, m.toNat.testBit i = (decide (i < 512 / b) && vCond (fld w 16 4) (va i) (vb i))) ∧
      (Issues s p h 0x6A w → 4 ≤ fld w 16 4 → exec (.vcmp p h) s = .next (faulted s p h 0x6A fIllegal)) ∧
      (Issues s p h 0x6B w → RunsOn (.vsel p h) s s p h (put (ofLanes b ((List.range (512 / b)).map (fun i =>
        if (d.vreg (fld w 32 5)).toNat.testBit i then bits (fld w 42 5) i b else bits (fld w 37 5) i b))))) ∧
      (Issues s p h 0x73 w → ∃ m : W512, RunsOn (.vfin p h) s s p h (put m) ∧
        ∀ i, m.toNat.testBit i = (decide (i < 512 / b) && (va i).isFin))) ∧
    (fmt ≠ 9 → fmt ≠ 10 → ∀ c row, ((c, row) : (Nat → Nat → Instr) × Nat) ∈ [(.vcmp, 0x6A), (.vsel, 0x6B), (.vfin, 0x73)] →
      Issues s p h row w → exec (c p h) s = .next (faulted s p h row fFormat)) ∧
    (Issues s p h 0x7C w → RunsOn (.viadd p h) s s p h (put (ofLanes 32 ((List.range 16).map (fun i =>
      bits (fld w 42 5) i 32 + bits (fld w 37 5) i 32))))) ∧
    (Issues s p h 0x7D w → RunsOn (.vimul p h) s s p h (put (ofLanes 32 ((List.range 16).map (fun i =>
      bits (fld w 42 5) i 32 * bits (fld w 37 5) i 32))))) ∧
    (Issues s p h 0x7E w → ∃ m : W512, RunsOn (.vlogic p h) s s p h (put m) ∧ ∀ i < 512, m.toNat.testBit i =
      Config.logicBit (fld w 16 4) ((d.vreg (fld w 42 5)).toNat.testBit i) ((d.vreg (fld w 37 5)).toNat.testBit i)) ∧
    (Issues s p h 0x7F w → RunsOn (.vshf p h) s s p h (put (ofLanes 32 ((List.range 16).map (fun i =>
      bits (fld w 42 5) (Config.shfLane (fld w 0 16) i).val 32)))))

/-- VRSUM and VRSSQ reduce their lanes in the fixed pairwise tree of R84, one rounding at every addition, VRSSQ after one rounding of each
square. The other lanes of VD are open. A FMT other than FP32 and FP64 raises FORMAT. -/
def Obligations.VectorReductions : Prop :=
  ∀ (s : State) (p h : Nat) (w : W64),
    let d := s.hand p h
    let fmt := fld w 52 4
    let b := vBits fmt
    let lane (i : Nat) := vDec fmt (fld (d.vreg (fld w 42 5)) (i * b) b)
    let rnd (v : FV) := vDec fmt (vEnc fmt v)
    let sum2 (x y : FV) := rnd (x.add y)
    let sum8 (f : Nat → FV) := sum2 (sum2 (sum2 (f 0) (f 1)) (sum2 (f 2) (f 3))) (sum2 (sum2 (f 4) (f 5)) (sum2 (f 6) (f 7)))
    let all (f : Nat → FV) := if fmt = 9 then sum2 (sum8 f) (sum8 (fun i => f (i + 8))) else sum8 f
    (fmt = 9 ∨ fmt = 10 →
      (Issues s p h 0x70 w → ∃ v : W512, v.toNat % 2 ^ b = vEnc fmt (all lane) % 2 ^ b ∧
        RunsOn (.vrsum p h) s { s with free := s.free + 1 } p h (d.setVreg (fld w 47 5) v)) ∧
      (Issues s p h 0x71 w → ∃ v : W512, v.toNat % 2 ^ b = vEnc fmt (all (fun i => rnd ((lane i).mul (lane i)))) % 2 ^ b ∧
        RunsOn (.vrssq p h) s { s with free := s.free + 1 } p h (d.setVreg (fld w 47 5) v))) ∧
    (fmt ≠ 9 → fmt ≠ 10 →
      (Issues s p h 0x70 w → exec (.vrsum p h) s = .next (faulted s p h 0x70 fFormat)) ∧
      (Issues s p h 0x71 w → exec (.vrssq p h) s = .next (faulted s p h 0x71 fFormat)))

/-- The conversions of the vector class: VCVT exactly to FP32, VCVN to a narrow format with its scales and counts (R68 to R71), VCVF between
FP32 and FP64, VSEX and VSPL the shared exponent and the digits of R85 (open where R85 states none), VREC the recombination of R87, VACT an
activation of R81 or R82. VRAMX takes the largest magnitude of the lanes, NaN if one is NaN (R83). A format that the operation does not take
raises FORMAT, a reserved field or entry ILLEGAL_OP, an activation record out of bounds ADDR. -/
def Obligations.VectorConversions : Prop :=
 (∀ (s : State) (p h : Nat) (w : W64),
    let d := s.hand p h
    let fmt := fld w 52 4
    let va := d.vreg (fld w 42 5)
    let put (v : W512) := d.setVreg (fld w 47 5) v
    let vs := vVals 10 va
    let e := sInt 32 ((d.vreg (fld w 37 5)).toNat % 2 ^ 32)
    let half := 8 * fld w 16 1
    let open1 : State := { s with free := s.free + 1 }
    (Issues s p h 0x6C w → fmt < 8 → RunsOn (.vcvt p h) s s p h (put (ofLanes 32
      (((lanes (narrowBits fmt) va).take 16).map (fun x => enc32 (decElem fmt x)))))) ∧
    (Issues s p h 0x6C w → 8 ≤ fmt → exec (.vcvt p h) s = .next (faulted s p h 0x6C fFormat)) ∧
    (Issues s p h 0x6E w → fld w 16 1 = 0 → RunsOn (.vcvf p h) s s p h (put (ofLanes 64
      (((lanes 32 va).take 8).map (fun x => enc64 (dec32 x)))))) ∧
    (Issues s p h 0x6E w → fld w 16 1 = 1 → ∃ v : W512, v.toNat % 2 ^ 256 =
        (ofLanes 32 ((lanes 64 va).map (fun x => enc32 (dec64 x)))).toNat % 2 ^ 256 ∧
      RunsOn (.vcvf p h) s open1 p h (put v)) ∧
    (Issues s p h 0x74 w → ∃ v : W512,
      (fld w 16 4 = 0 → vs.all FV.isFin = true → v.toNat % 2 ^ 32 = sNat 32 (sharedExp vs) % 2 ^ 32) ∧
      RunsOn (.vsex p h) s open1 p h (put v)) ∧
    (Issues s p h 0x75 w → ∃ v : W512,
      (fld w 16 4 = 0 → vs.all (fun v => v.isFin && (v.isZero || decide (v.floorLog2 < e))) = true →
        v.toNat % 2 ^ 64 = (ofLanes 8 (vs.map (fun v => sNat 8 (sliceDigit v e (fld w 0 16))))).toNat % 2 ^ 64) ∧
      RunsOn (.vspl p h) s open1 p h (put v)) ∧
    (Issues s p h 0x76 w → RunsOn (.vrec p h) s s p h (put (ofLanes 64 ((List.range 8).map (fun i =>
      let x := FV.ofInt (sInt 32 (fld va (32 * (half + i)) 32))
      let y := sInt 32 (fld (d.vreg (fld w 37 5)) (32 * (half + i)) 32) + sInt 16 (fld w 0 16)
      enc64 ((dec64 (fld (d.vreg (fld w 32 5)) (64 * i) 64)).add (x.scale (clampI (-4000) 4000 y)))))))) ∧
    (let at_ := d.seteb.toNat + 0x1000 + (fld w 0 8 - 16) * 256;
      Issues s p h 0x78 w →
        (fld w 0 8 < 7 → RunsOn (.vact p h) s s p h (put (ofLanes 32 ((lanes 32 va).map (actBuiltin (fld w 0 8)))))) ∧
        (7 ≤ fld w 0 8 → fld w 0 8 < 16 → exec (.vact p h) s = .next (faulted s p h 0x78 fIllegal)) ∧
        (16 ≤ fld w 0 8 → at_ + 256 ≤ 0x14000 →
          RunsOn (.vact p h) s s p h (put (ofLanes 32 ((lanes 32 va).map (actUser (s.rdData p at_ 256)))))) ∧
        (16 ≤ fld w 0 8 → 0x14000 < at_ + 256 → exec (.vact p h) s = .next (faulted s p h 0x78 fAddr))) ∧
    (Issues s p h 0x6D w →
      let counted (l : List (Nat × Nat)) : State :=
        { (if satCount l = 0 then s else s.pinCountBy p 0x2160 2 8 (satCount l)) with free := s.free + 1 }
      let scaled (x : Hand) (b : Nat) : Hand :=
        let old := (x.vreg (fld w 32 5)).toNat
        x.setVreg (fld w 32 5) (BitVec.ofNat 512 (old - old % 256 + b % 256))
      let codes := (vVals 9 va).map (convElem fmt false)
      let n := narrowBits fmt / 8
      let r := convMx (fmt == 3) (vVals 9 va ++ vVals 9 (d.vreg (fld w 37 5)))
      let bytes := if fmt = 3 then packNibbles r.2.1 else codeBytes 1 r.2.1
      let q := convSfp16 false ([0, 1, 2, 3].flatMap (fun i => vVals 9 (d.vreg ((fld w 42 5 + i) % 32))))
      (fmt ∈ [0, 1, 4, 5, 6] → fld w 37 5 = 0 → ∃ v : W512,
        v.toNat % 2 ^ (8 * (16 * n)) = leNat (codeBytes n codes) % 2 ^ (8 * (16 * n)) ∧
        RunsOn (.vcvn p h) s (counted codes) p h (put v)) ∧
      (fmt = 2 ∨ fmt = 3 → ∃ v : W512, v.toNat % 2 ^ (8 * bytes.length) = leNat bytes ∧
        RunsOn (.vcvn p h) s (counted r.2.1) p h (scaled (put v) r.1)) ∧
      (fmt = 7 → fld w 37 5 = 0 → RunsOn (.vcvn p h) s (counted q.2.1) p h
        (scaled ((put (BitVec.ofNat 512 (leNat ((codeBytes 2 q.2.1).take 64)))).setVreg ((fld w 47 5 + 1) % 32)
          (BitVec.ofNat 512 (leNat ((codeBytes 2 q.2.1).drop 64)))) q.1)) ∧
      (fmt ≠ 2 → fmt ≠ 3 → fld w 37 5 ≠ 0 → exec (.vcvn p h) s = .next (faulted s p h 0x6D fIllegal)) ∧
      (8 ≤ fmt → fld w 37 5 = 0 → exec (.vcvn p h) s = .next (faulted s p h 0x6D fFormat)))) ∧
 (∀ (s : State) (p h : Nat) (w : W64), Issues s p h 0x72 w →
    let fmt := fld w 52 4
    let top := (vVals fmt ((s.hand p h).vreg (fld w 42 5))).foldl (fun a v => FV.vmax a v.abs) (.fin false 0 0)
    (fmt = 9 ∨ fmt = 10 → ∃ v : W512, v.toNat % 2 ^ vBits fmt = vEnc fmt top % 2 ^ vBits fmt ∧
      RunsOn (.vramx p h) s { s with free := s.free + 1 } p h ((s.hand p h).setVreg (fld w 47 5) v)) ∧
    (fmt ≠ 9 → fmt ≠ 10 → exec (.vramx p h) s = .next (faulted s p h 0x72 fFormat)))

/-- The entry that executes next (R154): a live entry with the least FT, and the lowest index among equals. The records of a beat (R154): with
no change pending and POST clear, a GAP beat leaves its FT, its index and its count in OD 0x4400, and is re-armed by its period or done;
memory and pinions stay as they are. -/
def Obligations.BeatRecords : Prop :=
 (∀ s : State, fwf ({} : Beat) s.beats = true →
    (∀ i, s.nextBeat = some i → State.beatLive (s.beat i) = true ∧ ∀ j, State.beatLive (s.beat j) = true →
      (s.beat i).ft < (s.beat j).ft ∨ ((s.beat i).ft = (s.beat j).ft ∧ i ≤ j)) ∧
    (s.nextBeat = none → ∀ j, State.beatLive (s.beat j) = false)) ∧
 (∀ (s : State) (i : Nat), s.modState = stRunning → s.dueBeat = some i → s.time.ft - (s.beat i).ft ≤ s.odGet 0x4302 1 →
    (s.beat i).action = 0 → (s.beat i).tkind = 0 → s.changes = [] → Nat.testBit (s.beat i).flags 1 = false →
    ∃ t, exec .gapBeat s = .next t ∧ t.odGet 0x4400 1 = ftNat (s.beat i).ft ∧ t.odGet 0x4400 2 = i ∧
      t.odGet 0x4400 3 = (s.odGet 0x4400 3 + 1) % 2 ^ 64 ∧
      ((s.beat i).period = 0 → (t.beat i).done = true) ∧
      ((s.beat i).period ≠ 0 → (t.beat i).ft = sInt 64 (ftNat ((s.beat i).ft + (s.beat i).period))) ∧
      (∀ j, j ≠ i → t.beat j = s.beat j) ∧ t.mem = s.mem ∧ t.pinions = s.pinions ∧ t.syncs = s.syncs)

/-- Each kind of beat, due in RUNNING (GAP, HOLD and RELEASE in HELD too), neither late nor fenced, takes its action after the pending
changes, then its post and its records (R154, R156, R157). A SEAL takes the noise estimates too (R191), an APPLY applies the update log
first and waits for exports that run (R130, R258), a RESHARD_BEGIN sets the pending epoch or is ignored, counted and posts nothing (R243,
R249), a HOLD or RELEASE holds or releases the module, a train or a port. A beat more than LATE_LIMIT in the past is skipped as often as it
lies that far behind, and counted (R155); a beat on a fenced target is re-armed and counted in OD 0x4420.01 with a NOTIFY (R16); in HELD a
beat other than GAP, HOLD and RELEASE is re-armed and counted. -/
def Obligations.BeatsExecute : Prop :=
 (∀ (s : State) (i : Nat), s.dueBeat = some i → s.time.ft - (s.beat i).ft ≤ s.odGet 0x4302 1 → s.beatFenced (s.beat i) = false →
    let e := s.beat i
    (s.modState = stRunning ∨ s.modState = stHeld →
      (e.action = 0 → exec .gapBeat s = .next (s.beatRuns i e (fun t _ => (t, true)))) ∧
      (e.action = 7 → exec .holdBeat s = .next (s.beatRuns i e (fun t e => (t.holdTarget e true, true)))) ∧
      (e.action = 8 → exec .releaseBeat s = .next (s.beatRuns i e (fun t e => (t.holdTarget e false, true))))) ∧
    (s.modState = stRunning →
      (e.action = 1 → exec .sealBeat s = .next (s.beatRuns i e (fun t e => (noiseRollover (t.sealRound e.arg), true)))) ∧
      (e.action = 2 → exec .sendBeat s = .next (s.beatRuns i e (fun t e => (t.sendRound e.arg, true)))) ∧
      (e.action = 3 → exec .closeBeat s = .next (s.beatRuns i e (fun t e => (t.closeRound e.arg, true)))) ∧
      (e.action = 4 → exec .applyBeat s = .next (s.beatRuns i e (fun t e => (t.applyRound e.arg, true)))) ∧
      (e.action = 5 → exec .checkpointMark s = .next (s.beatRuns i e (fun t _ => (checkpoint t, true)))) ∧
      (e.action = 6 → exec .reshardBegin s = .next (s.beatRuns i e (fun t e => reshardBegin t e.arg))))) ∧
 (∀ (s : State) (i a : Nat) (c : Instr), s.dueBeat = some i → (s.beat i).action = a → (a, c) ∈ [(0, Instr.gapBeat), (1, .sealBeat),
      (2, .sendBeat), (3, .closeBeat), (4, .applyBeat), (5, .checkpointMark), (6, .reshardBegin), (7, .holdBeat), (8, .releaseBeat)] →
    (s.modState = stRunning ∨ s.modState = stHeld → (s.odGet 0x4302 1 : Int) < s.time.ft - (s.beat i).ft → exec c s = .next (s.skipLate i)) ∧
    (s.modState = stHeld → a ∉ [0, 7, 8] → s.time.ft - (s.beat i).ft ≤ s.odGet 0x4302 1 →
      exec c s = .next ((s.rearm i 1).bump 0x4420 3)) ∧
    (s.modState = stRunning ∨ (s.modState = stHeld ∧ a ∈ [0, 7, 8]) → s.time.ft - (s.beat i).ft ≤ s.odGet 0x4302 1 →
      s.beatFenced (s.beat i) = true → exec c s = .next (((s.rearm i 1).bump 0x4420 1).notify 0x4420 1))) ∧
 (∀ (s : State) (r : Nat), s.applyRound r = State.showBase (((s.applyLog).exportsEnd true).keptShards.foldl (fun a k =>
    if a.modState = stFaulted then a else State.applyShard (a.outer.published.length + 1) a k.1 r) ((s.applyLog).exportsEnd true))) ∧
 (∀ (s : State) (arg : Nat),
    (arg % 65536 = (s.odGet 0x2010 1 + 1) % 65536 → s.odGet 0x2010 3 = s.odGet 0x2010 1 →
      reshardBegin s arg = (s.odSet 0x2010 3 (arg % 65536), true)) ∧
    (arg % 65536 ≠ (s.odGet 0x2010 1 + 1) % 65536 ∨ s.odGet 0x2010 3 ≠ s.odGet 0x2010 1 →
      reshardBegin s arg = (s.countNotify 0x2010 6, false))) ∧
  ∀ (s : State) (e : Beat) (on : Bool),
    (e.tkind = 0 → s.modState = stRunning → s.holdTarget e true = s.setModState stHeld) ∧
    (e.tkind = 0 → s.modState = stHeld → s.holdTarget e false = s.enterRunning) ∧
    (e.tkind = 1 → s.holdTarget e on = s.unitMod (e.target / 65536) (e.target % 65536) (fun u => { u with held := on })) ∧
    (e.tkind = 2 → (fget {} (s.holdTarget e true).units (State.portKey (e.target / 256) (e.target % 256))).held = true)

/-- The watchdog ladder (R161 to R164): an expiry is counted, and its unit's status word keeps it; a hand restarts at its record or its pinion
is to be fenced; a T1 or T2 resets and restarts its streams or escalates; a die is fenced, and with it or the module's own watchdog the
module enters FAULTED. A masked expiry, and one of a unit out of service, is only counted; the watchdogs of a fenced unit (R295) and of a
held one (R156) stop. A hand restarts at its record with the registers and settings it holds, its vector registers 0, one restart more
counted (R161). The dump (R302 to R305): after the settle time the moves and streams under way are dropped and the Crown enters DUMPING;
the dump ends complete or, at its limit, truncated, and the warm reset or the stop follows (R268). -/
def Obligations.WatchdogsAndDump : Prop :=
 ((∀ (s : State) (p h : Nat), p < s.pinCount → h < 2 →
    (s.handStalled p h = true → s.inService p = true →
      exec (.handStall p h true) s = .next (s.expire 1 0 p) ∧
      exec (.handStall p h false) s = .next (((s.expire 1 0 p).pinMod p (fun x => { x with
        stopping := some (s.stopFor p h) })).tryStop p)) ∧
    (s.modState = stRunning → s.pinSt p ≠ 0 → s.pinSt p ≠ 1 → ∀ m, exec (.handStall p h m) s = .next (s.expire 1 0 p)) ∧
    (s.modState = stRunning → s.pinSt p = 1 →
      exec (.handStall p h true) s = .next (s.expire 1 0 p) ∧ exec (.handStall p h false) s = .next s)) ∧
  (∀ (s : State) (t : Nat), t < State.trainCount 1 →
    (s.silenceRuns 1 t = true → s.trainSt 1 t = 0 →
      exec (.t1Silence t true) s = .next (s.expire 3 1 t) ∧ exec (.t1Silence t false) s = .next ((s.expire 3 1 t).escT1 t none)) ∧
    (s.modState = stRunning → s.trainSt 1 t ≠ 0 → ∀ m, (m = true ∨ s.trainSt 1 t ≠ 1) →
      exec (.t1Silence t m) s = .next (s.expire 3 1 t))) ∧
  (∀ (s : State) (t : Nat), t < State.trainCount 2 →
    (s.silenceRuns 2 t = true → s.trainSt 2 t = 0 →
      exec (.t2Silence t true) s = .next (s.expire 4 2 t) ∧
      exec (.t2Silence t false) s = .next ((s.expire 4 2 t).escT2 t ((s.expire 4 2 t).runningHands ((s.expire 4 2 t).trainPinions 2 t)))) ∧
    (s.modState = stRunning → s.trainSt 2 t ≠ 0 → ∀ m, (m = true ∨ s.trainSt 2 t ≠ 1) →
      exec (.t2Silence t m) s = .next (s.expire 4 2 t))) ∧
  (∀ (s : State) (t : Nat) (hands : List (Nat × Nat × Hand)), s.trainSt 2 t = 0 →
    (hands.all (fun x => s.canRestart x.2.2) = true → s.escT2 t hands = (s.resetTrain 2 t).addChange (.restart 2 t hands) false) ∧
    (hands.all (fun x => s.canRestart x.2.2) = false → s.escT2 t hands = (s.resetTrain 2 t).escDie (t / 48))) ∧
  (∀ (s : State) (d : Nat), s.dieEsc.contains d = true →
    ((s.unit 4 d).held = false → (s.unit 5 0).held = false → exec (.dieWatchdog d true) s = .next (s.expire 5 4 d) ∧
      exec (.dieWatchdog d false) s = .next ((({ s.expire 5 4 d with
        dieEsc := (s.expire 5 4 d).dieEsc.filter (· ≠ d) } : State).fenceUnit 4 d).enterFaulted 4 (State.statusOff 4 d))) ∧
    ((s.unit 4 d).held = true ∨ (s.unit 5 0).held = true → ∀ m, exec (.dieWatchdog d m) s = .next s)) ∧
  (∀ s : State, s.modState = stRunning →
    ((s.unit 5 0).held = false → exec .moduleWatchdog s = .next ((s.expire 6 5 0).enterFaulted 5 (State.statusOff 5 0))) ∧
    ((s.unit 5 0).held = true → exec .moduleWatchdog s = .next s))) ∧
 (∀ (s : State) (p h : Nat), let x := s.pin p
    (s.canRestart (s.hand p h) = false → s.stopFor p h = .fence) ∧
    (s.canRestart (s.hand p h) = true → x.stopping = none → s.stopFor p h = .restart h) ∧
    (s.canRestart (s.hand p h) = true → ∀ k, x.stopping = some (.restart k) → s.stopFor p h = if k = h then .restart h else .restartBoth) ∧
    (State.pinQuiet x = true → x.stopping = some .fence →
      s.tryStop p = ((s.setPin p { x with stopping := none }).fenceUnit 0 p).escT1 (s.t1Of p) (some p)) ∧
    (State.pinQuiet x = true → ∀ k, x.stopping = some (.restart k) → s.tryStop p = ((s.dropHand p k).setPin p
      ((State.emptyTiles { x with stopping := none }).setHand k (State.restartHand (x.hand k)))).bump 0x9110 2)) ∧
 (∀ (d : Hand) (st : Stream) (r : RestartRec), d.stream = some st → d.record = some r →
    (State.restartHand d).pc = r.pc ∧ (State.restartHand d).sregs = r.sregs ∧ (State.restartHand d).vregs = [] ∧
    (State.restartHand d).setv = r.setv ∧ (State.restartHand d).seteb = r.seteb ∧ (State.restartHand d).stgBase = r.stgBase ∧
    (State.restartHand d).stgSize = r.stgSize ∧ (State.restartHand d).st = .ready ∧
    (State.restartHand d).stream = some { st with restarts := st.restarts + 1 } ∧ (State.restartHand d).record = some r) ∧
 (∀ s : State,
    (s.modState = stFaulted → s.plat.dumpStopped = false → exec .transferSettle s = .next (State.beginDump { s with
      pinions := s.pinions.foldl (fun m c => fput {} m c.1 { c.2 with dmq0 := [], dmq1 := [] }) [],
      coll := { s.coll with outs := [], ins := [] } })) ∧
    (s.modState = stDumping → s.crown.down = false → exec .dumpComplete s = .next (s.writeDump none).dumpDone) ∧
    (s.modState = stDumping → s.crown.down = false →
      exec .dumpLimit s = .next ((s.draw 16).2.writeDump (some (s.draw 16).1.toNat)).dumpDone) ∧
    (s.modState = stFaulted → s.plat.dumpStopped = false → s.crown.down = false → s.beginDump.modState = stDumping) ∧
    (s.odGet 0x1010 6 = s.odGet 0x1010 5 → s.dumpDone.modState = stFaulted ∧ s.dumpDone.plat.dumpStopped = true) ∧
    (s.odGet 0x1010 6 ≠ s.odGet 0x1010 5 → s.dumpDone = s.doReset
      (if (s.faultInfo.map (·.code)).getD 8 = 5 then 6 else 8) ((s.faultInfo.map (·.code)).getD 8) .warm false))

/-- VDL and the Crown's own reset (R20, R261, Table 6.13): the link comes up once released, retrains at its timeout, and the Crown resets
itself at its heartbeat and returns with every session closed. Companion accesses over VDL (R20, R21): the configuration window and the
HBM aperture can be read, and an uncorrectable error met there is fatal (R136); the mailbox, and the aperture in QUIET, ARMED and HELD,
written; every other access completes with an error and is counted, and changes no memory. -/
def Obligations.VdlAndCrown : Prop :=
 (∀ s : State,
    (s.plat.released.contains 1 = true → s.vdlPrbs = false → exec .vdlLinkUp s = .next (s.odSet 0x1220 1 2)) ∧
    (s.vdlUp = true → ∀ b, exec (.vdlTimeout b) s = .next (((s.bump 0x9110 7).bump 0x1220 2).odSet 0x1220 1 1)) ∧
    (s.crown.down = false → s.modState ≠ stCold → s.plat.recovery = false →
      exec .crownHeartbeat s = .next { s.bump 0x9110 8 with crown := { s.crown with down := true } }) ∧
    (s.crown.down = true → ∃ t, exec .crownReturn s = .next t ∧ t = s.crownReturn ∧
      (s.modState ≠ stFaulted → s.modState ≠ stDumping → t.crown.sessions = [] ∧ t.crown.down = false ∧ t.mem = s.mem ∧
        t.pinions = s.pinions ∧ t.odGet 0x1210 5 =
          (s.odGet 0x1210 5 + (s.crown.sessions.map (fun x => x.queue.length)).sum + s.crown.lostCount) % 2 ^ 64))) ∧
 ((∀ (s : State) (off n : Nat), s.vdlUp = true → ∀ c, c = Instr.configRead off n ∨ c = .apertureRead off n →
    let a := off - apertureBase
    (off + n ≤ 0x1000000 → exec c s = .next (s.emit (.vdlData (s.cfgRead off n)))) ∧
    (0x1000000 < off + n → off < apertureBase → exec c s = .next ((s.bump 0x1103 3).emit .vdlError)) ∧
    (apertureBase ≤ off → stQuiet ≤ s.modState → a < barrelBase → s.inHbm a n = true →
      (s.wrongLine [(a, n)] = none → exec c s = .next (s.emit (.vdlData (s.readBytes a n)))) ∧
      ∀ x, s.wrongLine [(a, n)] = some x → exec c s = .next (((s.bump 0x1103 3).emit .vdlError).eccFault x)) ∧
    (apertureBase ≤ off → s.modState = stCold ∨ s.modState = stBoot ∨ barrelBase ≤ a ∨ s.inHbm a n = false →
      exec c s = .next ((s.bump 0x1103 3).emit .vdlError))) ∧
  ∀ (s : State) (off : Nat) (bytes : List Byte), s.vdlUp = true → ∀ c, c = Instr.configWrite off bytes ∨ c = .apertureWrite off bytes →
    let a := off - apertureBase
    (0x200000 ≤ off → off + bytes.length ≤ 0x210000 → exec c s = .next
      (State.dueResets (((s.mbWrite (off - 0x200000) bytes).mailWritten).emit .vdlOk))) ∧
    (off < 0x200000 ∨ 0x210000 < off + bytes.length → off < apertureBase → exec c s = .next ((s.bump 0x1103 2).emit .vdlError)) ∧
    (apertureBase ≤ off → a < barrelBase → s.inHbm a bytes.length = true → s.modState ∈ [stQuiet, stArmed, stHeld] →
      ∃ t, exec c s = .next t ∧
        (∀ b, t.memByte b = if a ≤ b ∧ b < a + bytes.length then bytes.getD (b - a) 0 else s.memByte b) ∧ t.od = s.od ∧
        t.pinions = s.pinions) ∧
    (apertureBase ≤ off → s.modState ∉ [stQuiet, stArmed, stHeld] ∨ barrelBase ≤ a ∨ s.inHbm a bytes.length = false →
      exec c s = .next ((s.bump 0x1103 2).emit .vdlError)))

/-- Near ports (R165, R166, R171, R172): training ends in service or, behind the wrong peer, MISWIRED, counted and announced, its traffic
taking other routes; a retrain ends in a replay of what is not acknowledged; a limit leaves the port down or takes it down; reaching the
replay limit starts a retrain or, a second time within the window, takes the port down, counted and announced. No port trains under a
reserved site module number, in BOOT or out of service; a command on a port it does not concern changes nothing. -/
def Obligations.NearPorts : Prop :=
  ∀ (s : State) (k m q : Nat) (asym : Int) (again : Bool),
    let named := s.nportMod k (fun p => { p with peer := (m % 256) * 256 + q % 256, asym := asym })
    let miswired := (named.nportMod k (fun p => { p with st := 5 })).nportCount k 9
    let down := (s.nportMod k (fun p => { p with st := 0, retrained := false })).nportCount k 9
    (k < 16 → s.smn < 64 → stBoot < s.modState →
      ((s.nport k).st ∉ [2, 3, 4] → wiredPeer s.smn k = (m, q) → exec (.portTrained k m q asym) s =
        .next ((named.nportMod k (fun p => { p with st := 2, retrained := false, txSeq := 0, rxSeq := 0 })).linkUp k)) ∧
      ((s.nport k).st = 3 → wiredPeer s.smn k = (m, q) → exec (.portTrained k m q asym) s =
        .next (((s.nport k).replay.foldl (fun a f => a.wireFlit k f)
          (named.nportMod k (fun p => { p with st := 2, retrained := true }))).linkUp k)) ∧
      ((s.nport k).st ∉ [2, 4] → wiredPeer s.smn k ≠ (m, q) → exec (.portTrained k m q asym) s =
        .next (((miswired.notifyVal 0x5010 9 (fget 0 (miswired.nport k).cnt 9)).reroute k).stopIfLost k))) ∧
    (16 ≤ k ∨ 64 ≤ s.smn ∨ s.modState ≤ stBoot ∨ (s.nport k).st = 2 ∨ (s.nport k).st = 4 → exec (.portTrained k m q asym) s = .next s) ∧
    (k < 16 →
      ((s.nport k).st = 1 → exec (.trainingTimeout k) s = .next (s.nportMod k (fun p => { p with st := 0 }))) ∧
      ((s.nport k).st = 3 → exec (.trainingTimeout k) s = .next (s.linkDown k)) ∧
      (s.nearUp k = true → again = false ∨ (s.nport k).retrained = false → exec (.replayLimit k again) s =
        .next ((((s.bump 0x5100 3).nportMod k (fun p => { p with st := 3 })).nportCount k 8).showPorts)) ∧
      (s.nearUp k = true → again = true → (s.nport k).retrained = true → exec (.replayLimit k again) s =
        .next ((s.bump 0x5100 3).linkDown k))) ∧
    (16 ≤ k ∨ (s.nport k).st ∉ [1, 3] → exec (.trainingTimeout k) s = .next s) ∧
    (16 ≤ k ∨ s.nearUp k = false → exec (.replayLimit k again) s = .next s) ∧
    s.linkDown k = ((down.notifyVal 0x5010 9 (fget 0 (down.nport k).cnt 9)).reroute k).stopIfLost k ∧
    (s.memberLost k = true → s.stopIfLost k = s.stopJob 2 s.smn) ∧ (s.memberLost k = false → s.stopIfLost k = s)

/-- FLIT (R168, R171): a sound flit with the number that the port expects is accepted; one with an old number only acknowledges; one ahead,
or damaged, is not accepted and a replay is asked for; while a replay is awaited a flit of another number does nothing. Codewords corrected
and not correctable are counted. A port that is not up takes no flit. A whole packet that arrives takes room in the ingress buffer (R174,
R170, R176): one with a wrong CRC is counted; for this module it is delivered; for another it goes on with its hop class raised by 1, but
from hop class 2, or of a type that its VC does not carry, it is discarded and counted in OD 0x5200.02; a discarded one gives its room
back. -/
def Obligations.FlitsArrive : Prop :=
 (∀ (s : State) (k fec : Nat) (bytes : List Byte), 16 ≤ k ∨ s.nearUp k = false → exec (.flit k fec bytes) s = .next s) ∧
 (∀ (s0 : State) (k fec : Nat) (bytes : List Byte), k < 16 → s0.nearUp k = true →
    let s := if fec = 1 then s0.nportCount k 4 else s0
    let h := rdLe bytes 0 8
    let body := slice bytes 8 248
    let ok : Prop := h % 65536 = crc16 (slice bytes 2 6 ++ body)
    let f := bitsN h 52 12
    let old : Prop := ((s.nport k).rxSeq + 4096 - f) % 4096 ≤ 2048
    (fec = 2 → exec (.flit k fec bytes) s0 = .next ((s0.nportCount k 5).askReplay k)) ∧
    (2 < fec → exec (.flit k fec bytes) s0 = .next s0) ∧
    (fec < 2 →
      (ok → bitN h 20 = false → f = (s.nport k).rxSeq → exec (.flit k fec bytes) s0 =
        .next ((((s.nportMod k (fun p => { p with resync := false })).acceptFlit k h body).flitAcks k h).wireIdle k false)) ∧
      (ok → bitN h 20 = true → exec (.flit k fec bytes) s0 = .next (s.flitAcks k h)) ∧
      (ok → bitN h 20 = false → f ≠ (s.nport k).rxSeq →
        ((s.nport k).resync = false → old → exec (.flit k fec bytes) s0 = .next (s.flitAcks k h)) ∧
        ((s.nport k).resync = false → ¬ old → exec (.flit k fec bytes) s0 = .next (s.askReplay k)) ∧
        ((s.nport k).resync = true → exec (.flit k fec bytes) s0 = .next s)) ∧
      (¬ ok → exec (.flit k fec bytes) s0 = .next (s.askReplay k))) ∧
    ((s.askReplay k).nport k).resync = true ∧ (s.askReplay k).mem = s.mem ∧ (s.askReplay k).rx = s.rx) ∧
 (∀ (s : State) (k vc cls : Nat) (raw : List Byte) (room : Room),
    let len := rdLe raw 8 2
    let b := slice raw 0 (64 + len)
    let x : RxPkt := { port := k, vc := vc, bytes := b, room := some room }
    let sound : Prop := len ≤ 4096 ∧ leNat (slice raw (64 + len) 8) = crc64 b
    (¬ sound → s.arrive k vc cls raw room = (s.nportCount k 7).returnRoom (some room)) ∧
    (sound → typeOnVc x.typ vc = false → s.arrive k vc cls raw room = (s.bump 0x5200 2).returnRoom (some room)) ∧
    (sound → typeOnVc x.typ vc = true →
      (rdLe b 0 1 = s.smn → s.arrive k vc cls raw room = s.deliverPkt x) ∧
      (rdLe b 0 1 ≠ s.smn → 2 ≤ cls ∨ x.typ = 0x13 → s.arrive k vc cls raw room = (s.bump 0x5200 2).returnRoom (some room)) ∧
      (rdLe b 0 1 ≠ s.smn → cls < 2 → x.typ ≠ 0x13 → s.arrive k vc cls raw room =
        s.nearSend { vc := vc, cls := cls + 1, bytes := b, room := some room })))

/-- The packets of VC0 that reach their destination act once each, in the order of their numbers (R178): increments reach the local copy,
those of a module in their order (R144), acknowledgements and grants their stream (R181), scalar records and notices of passes their
entries, a PUT that its destination refused fails (R184), an image is sent again to the member that asks (R188), a SITE_STOP stops the job,
one after a TAKEOVER telling of the role change (R253, R6). An ill-formed one is counted in OD 0x5200.02, and with nothing to consume
nothing changes. RELAY and MGMT packets reach the gateway, a keeper or the Crown (R206, R173); one from elsewhere is counted. -/
def Obligations.ControlPacketsAct : Prop :=
 ((∀ (s s1 : State) (src : Nat) (x : RxPkt), s.takeRx src 0x10 = some (x, s1) → exec (.syncInc src) s = .next
    ((incPairs (min 22 (x.body.length / 8)) x.body).foldl (fun a q => a.syncMod (q.1 % 2 ^ 18) (fun o => { o with
      onWay := o.onWay ++ [{ src := .remote src, op := .add (BitVec.ofNat 32 q.2) }] })) s1)) ∧
  (∀ (s s1 : State) (src : Nat) (x : RxPkt), s.takeRx src 0x11 = some (x, s1) →
    (x.body.length = 16 → 1 ≤ rdLe x.body 0 1 → rdLe x.body 0 1 ≤ 8 → exec (.cack src) s = .next (collAdvance (cackIn s1 src x))) ∧
    (x.body.length ≠ 16 ∨ rdLe x.body 0 1 = 0 ∨ 8 < rdLe x.body 0 1 → exec (.cack src) s = .next (s1.bump 0x5200 2))) ∧
  (∀ (s s1 : State) (src : Nat) (x : RxPkt), s.takeRx src 0x12 = some (x, s1) →
    (x.body.length = 32 → exec (.scalarPacket src) s =
      .next (collAdvance (s1.collMod (fun c => { c with scalars := c.scalars ++ [(src, x.coll, x.epoch, x.body)] })))) ∧
    (x.body.length ≠ 32 → exec (.scalarPacket src) s = .next (s1.bump 0x5200 2))) ∧
  (∀ (s s1 : State) (src : Nat) (x : RxPkt), s.takeRx src 0x14 = some (x, s1) → ctrlOk x = true →
    (rdLe x.body 0 1 = 1 →
      let standby := s1.lModules.any (fun m => m.smn == rdLe x.body 2 1 && Nat.testBit m.roles 2)
      (rdLe x.body 1 1 = 3 ∧ standby = true → exec (.siteStop src) s = .next (State.stopJob { s1 with roleChange := true } 4 (rdLe x.body 2 1))) ∧
      (¬ (rdLe x.body 1 1 = 3 ∧ standby = true) → exec (.siteStop src) s = .next (s1.stopJob 4 (rdLe x.body 2 1)))) ∧
    (rdLe x.body 0 1 = 2 →
      let running := s1.coll.queues.flatMap (fun c => (c.2.run.map (·.desc)).filter (fun d => rdLe d 0 1 == 2))
      let asked := (running ++ s1.coll.gathers).find? (fun d => rdLe d 2 2 == x.coll && rdLe d 4 2 == x.epoch)
      (asked = none → exec (.regather src) s = .next s1) ∧
      (∀ d v, asked = some d → v = (if s1.coll.queues.any (fun c => c.1 == 2 && c.2.run.any (fun e => e.desc == d)) then 2 else 1) →
        exec (.regather src) s = .next (s1.openOut { imgOut v 0 src x.coll x.epoch (rdLe d 0x28 4) (rdLe x.body 4 4)
          (s1.readBytes (rdLe d 8 8) (imgSize (s1.readBytes (rdLe d 8 8) 64))) with q := 0 } false))) ∧
    (rdLe x.body 0 1 = 3 →
      (s1.coll.outs.find? (fun o => State.outIs o src x.coll 4 0) = none → exec (.putFault src) s = .next s1) ∧
      (∀ o, s1.coll.outs.find? (fun o => State.outIs o src x.coll 4 0) = some o → exec (.putFault src) s = .next
        (((s1.collMod (fun c => { c with outs := c.outs.filter (fun p => !State.outIs p src x.coll 4 0) })).odSet 0x5400 8
          (4 * 2 ^ 24 + o.q * 2 ^ 20 + 8)).bump 0x5400 7 |>.finishEntry o.q o.idx true))) ∧
    (rdLe x.body 0 1 = 4 → exec (.passReady src) s = .next (collAdvance (s1.collMod (fun c => { c with
      passReady := (src, x.coll, rdLe x.body 4 4) :: c.passReady })))) ∧
    (rdLe x.body 0 1 = 5 → exec (.permuteDone src) s =
      .next (collAdvance (s1.collMod (fun c => { c with permDone := (src, x.coll) :: c.permDone }))))) ∧
  (∀ (s : State) (src ctype : Nat) (c : Instr), (ctype, c) ∈ [(1, Instr.siteStop src), (2, .regather src), (3, .putFault src),
      (4, .passReady src), (5, .permuteDone src)] →
    (s.takeRx src 0x14 = none → exec c s = .next s) ∧
    ∀ s1 x, s.takeRx src 0x14 = some (x, s1) → (ctrlOk x = false → exec c s = .next (s1.bump 0x5200 2)) ∧
      (ctrlOk x = true → rdLe x.body 0 1 ≠ ctype → exec c s = .next s)) ∧
  (∀ (s : State) (src typ : Nat) (c : Instr), (typ, c) ∈ [(0x10, Instr.syncInc src), (0x11, .cack src), (0x12, .scalarPacket src), (8, .relay src),
      (9, .mgmt src)] → s.takeRx src typ = none → exec c s = .next s) ∧
  ∀ (s s1 : State) (src typ : Nat) (x : RxPkt), s.takeRx src typ = some (x, s1) → x.ordered = true →
    x.seq = fget 0 s.vc0Rx src ∧ fget 0 s1.vc0Rx src = (x.seq + 1) % 2 ^ 32 ∧ s1.rx.length + 1 = s.rx.length) ∧
 (∀ (s s1 : State) (src : Nat) (x : RxPkt),
    (s.takeRx src 8 = some (x, s1) → (s1.isGateway = true → src ≠ s1.smn → exec (.relay src) s = .next (relayOut s1 x)) ∧
      (s1.isGateway = false ∨ src = s1.smn → s1.gatewayOf = some src → exec (.relay src) s = .next (relayIn s1 x)) ∧
      (s1.isGateway = false ∨ src = s1.smn → s1.gatewayOf ≠ some src → exec (.relay src) s = .next (s1.bump 0x5200 2))) ∧
    (s.crownServes = false → exec (.mgmt src) s = .next s) ∧
    (s.crownServes = true → s.takeRx src 9 = some (x, s1) →
      let valid : Prop := frameForm x.body = true ∧ fSession x.body = 0 ∧ fMac x.body = zeros 16 ∧ s1.siteMembers.contains src = true
      (valid → exec (.mgmt src) s = .next (s1.mgmtFrame src x.body)) ∧
      (¬ valid → exec (.mgmt src) s = .next (s1.bump 0x1210 4))))

/-- The chunks of collectives (R181, R195): a chunk of a stream that the module expects is stored once, and the collective goes on with it;
one of a stream not yet expected waits; a PERMUTE chunk is laid into the staging first (R194). A chunk of the previous epoch is remapped,
one of another epoch counted in OD 0x5420.03 and acknowledged. A PUT is written and posted when its last byte is in, or reported as a fault
and nothing written (R184); a first chunk sent again after its end opens no new PUT. The pass of a PERMUTE that has come and gone whole is
copied. A stream without progress sends every unacknowledged chunk again. -/
def Obligations.ChunksAct : Prop :=
  (∀ (s s1 : State) (src typ : Nat) (c : Instr) (x : RxPkt), (typ, c) ∈ [(1, Instr.contrib src), (2, .partialChunk src), (3, .imageChunk src),
      (5, .dispatchPacket src), (6, .combinePacket src)] →
    (s.takeRx src typ = none → exec c s = .next s) ∧
    (s.takeRx src typ = some (x, s1) →
      (x.epoch = s.odGet 0x2010 1 → s1.inStream src x.coll typ x.rank = none → exec c s = .next s) ∧
      (∀ i, x.epoch = s.odGet 0x2010 1 → s1.inStream src x.coll typ x.rank = some i →
        exec c s = .next (collAdvance (s1.storeChunk i x false).1)) ∧
      (x.epoch ≠ s.odGet 0x2010 1 → (x.epoch + 1) % 65536 = s.odGet 0x2010 1 → exec c s = .next (remapChunk s1 x)) ∧
      (x.epoch ≠ s.odGet 0x2010 1 → (x.epoch + 1) % 65536 ≠ s.odGet 0x2010 1 → exec c s = .next ((s1.countNotify 0x5420 3).sendCack
        { src := x.src, coll := x.coll, epoch := x.epoch, stype := x.typ, rank := x.rank, vc := x.vc } x.seq)))) ∧
  (∀ (s s1 s2 : State) (src : Nat) (x y : RxPkt) (i j : InStream),
    (s.takeRx src 7 = none → exec (.permutePacket src) s = .next s) ∧
    (s.takeRx src 7 = some (x, s1) → s.inStream src x.coll 7 x.rank = none → s1.inStream src x.coll 7 x.rank = none →
      exec (.permutePacket src) s = .next s) ∧
    (s.takeRx src 7 = some (x, s1) → s.inStream src x.coll 7 x.rank = some i → (stageChunk s x).takeRx src 7 = some (y, s2) →
      s2.inStream src y.coll 7 y.rank = some j → exec (.permutePacket src) s = .next (collAdvance (s2.storeChunk j y false).1))) ∧
  (∀ (s s1 : State) (src : Nat) (x : RxPkt),
    let fresh : InStream := { src := src, coll := x.coll, epoch := x.epoch, stype := 4, rank := x.rank, vc := x.vc }
    let held := (s1.inStream src x.coll 4 x.rank).getD fresh
    let opens : Bool := State.inDone held && x.seq == 0 && held.chunks.isEmpty && held.zeroth != x.bytes
    let k := if opens then fresh else held
    let j := if x.seq = 0 && k.zeroth.isEmpty then { k with zeroth := x.bytes } else k
    (s.takeRx src 4 = none → exec (.putPacket src) s = .next s) ∧
    (s.takeRx src 4 = some (x, s1) → x.epoch ≠ s.odGet 0x2010 1 →
      ((x.epoch + 1) % 65536 = s.odGet 0x2010 1 → exec (.putPacket src) s = .next (remapChunk s1 x)) ∧
      ((x.epoch + 1) % 65536 ≠ s.odGet 0x2010 1 → exec (.putPacket src) s = .next ((s1.countNotify 0x5420 3).sendCack fresh x.seq))) ∧
    (s.takeRx src 4 = some (x, s1) → x.epoch = s.odGet 0x2010 1 →
      (∀ r, s1.storeChunk j x true = (r, false) → exec (.putPacket src) s = .next r) ∧
      ∀ r e, s1.storeChunk j x true = (r, true) → r.inStream src x.coll 4 x.rank = some e →
        ∀ c, e.chunks.find? (fun c => c.1 == 0) = some c →
        let n := (State.inBytes e).length
        let done := r.releaseIn x.coll (fun q => q.stype == 4 && q.src == src)
        let written := (done.writeBytes c.2.1 (State.inBytes e)).sendCack e (e.next - 1)
        (putFaultReason r c.2.1 n = 0 → Nat.testBit x.arg1 31 = true → exec (.putPacket src) s = .next (written.post (x.arg1 % 2 ^ 18))) ∧
        (putFaultReason r c.2.1 n = 0 → Nat.testBit x.arg1 31 = false → exec (.putPacket src) s = .next written) ∧
        (putFaultReason r c.2.1 n ≠ 0 → exec (.putPacket src) s = .next
          ((done.bump 0x5400 7).sendCtrl src x.coll x.epoch 3 (putFaultReason r c.2.1 n) done.smn 0 c.2.1)))) ∧
  (∀ (s : State), (∀ e, (s.cqueue 5).run.find? (fun e => !e.finished && permReady s 5 e) = some e →
      exec .permutePass s = .next (collAdvance (permPass s 5 e))) ∧
    ((s.cqueue 5).run.find? (fun e => !e.finished && permReady s 5 e) = none → exec .permutePass s = .next s)) ∧
  ∀ (s : State) (n : Nat), (∀ o : OutStream, s.coll.outs[n]? = some o → o.acked ≠ 0 → exec (.chunkRetry n) s =
      .next ((List.range (o.sent + 1 - o.acked)).foldl (fun a i => a.nearSend (a.chunkPkt o (o.acked - 1 + i))) (s.bump 0x5400 5))) ∧
    ((∀ o, s.coll.outs[n]? = some o → o.acked = 0) → exec (.chunkRetry n) s = .next s)

/-- The entries of the collective queues (R179, R180): an entry of each kind at the head of a rung queue starts when its checks pass; one
that a check refuses is counted and retired, whatever its kind reads; one of the pending epoch, but a PERMUTE, waits unchecked and counted
once (R250); one whose entry or data hold an uncorrectable error faults the module (R136). A head of another kind, an idle queue and a full
engine change nothing. -/
def Obligations.CollectivesStart : Prop :=
  ∀ (s : State) (v kind : Nat) (c : Instr), (kind, c) ∈ [(1, Instr.reduce v), (2, .gather v), (3, .scalarEntry v), (4, .put v),
      (5, .dispatch v), (6, .combine v), (7, .permute v)] →
    let q := s.cqueue v
    let runs : Prop := s.queuesStart = true ∧ 1 ≤ v ∧ v ≤ 5 ∧ s.rung (s.cqSpec v).door q.next = true ∧
      (q.run.filter (fun e => !e.finished)).length < s.odGet 0x5400 3
    let en := s.ringEntry (s.cqSpec v).base q.next.toNat
    let line := s.wrongLine [((s.cqSpec v).base + q.next.toNat % 1024 * 16, 16)]
    let mine : Prop := en.kind = kind ∨ en.kind = 0 ∨ 7 < en.kind
    let waits : Prop := hbmOk s en.desc 64 = true ∧ en.kind ≠ 7 ∧ s.epochWaits (s.readNat (en.desc + 4) 2) = true
    let d := s.readBytes en.desc 64
    (¬ runs → exec c s = .next s) ∧
    (∀ a, runs → line = some a → exec c s = .next (s.eccFault a)) ∧
    (runs → line = none →
      (¬ mine → exec c s = .next s) ∧
      (mine → waits → exec c s = .next (s.holdHead (32 + v))) ∧
      (mine → ¬ waits →
        (∀ r, collReason s v kind en = some r → exec c s = .next ((s.freeHead (32 + v)).refuseEntry v en.kind r)) ∧
        (∀ a, collReason s v kind en = none → s.wrongLine ((en.desc, 64) :: collReads s kind d) = some a →
          exec c s = .next (s.eccFault a)) ∧
        (collReason s v kind en = none → s.wrongLine ((en.desc, 64) :: collReads s kind d) = none →
          exec c s = .next (startEntry s v kind d))))

/-- The messages of a near time exchange (R150, R151): the slave stamps t2 and asks, keeps T1, and ends the exchange with T4; the master
answers with its stamp; a message that is none of an exchange in progress changes nothing, one of no kind is counted. The master starts
exchanges with SYNC and FOLLOW, the grandmaster counting each interval toward LOCKED. A far time exchange (R216, R151): the slave stamps t2
and asks; its stamps may come in either order, and the fourth ends it; the grandmaster answers with its stamp; an ill-formed message is
counted. A whole exchange of at most 1 s goes to the servo, which enters HOLDOVER and counts where the offset is out of the limit while FT
may not step. HOLDOVER_TIMEOUT (R149) ends an acquisition or a lock. The 1PPS (R153): an edge at the input is stamped with FT, in
nanoseconds past the counter; the output rises at a whole second. REF10M (R324): at its loss the counter goes on from REFCLK, the loss is
shown, counted and announced; at its return it switches back. FT never steps at either. -/
def Obligations.TimeTransfer : Prop :=
 ((∀ (s t : State) (src sub : Nat) (x : RxPkt), (s.takeRx src 0x13 = none → exec (.timePacket src sub) s = .next s) ∧
   (s.takeRx src 0x13 = some (x, t) →
    let num := rdLe x.body 4 4
    let v := sInt 64 (rdLe x.body 8 8)
    let now := t.clock + (sub % 100 : Nat)
    let parent : Prop := x.port = t.odGet 0x4020 1 ∧ t.timeRole = 0
    (rdLe x.body 0 1 = 1 → (parent → exec (.timePacket src sub) s =
        .next (State.sendTime { t with nearEx := { num := num, t2 := some now, t3 := some t.clock } } x.port 3 num 0)) ∧
      (¬ parent → exec (.timePacket src sub) s = .next t)) ∧
    (rdLe x.body 0 1 = 2 → (parent → t.nearEx.num = num → exec (.timePacket src sub) s =
        .next { t with nearEx := { t.nearEx with t1 := some v } }) ∧
      (¬ parent ∨ t.nearEx.num ≠ num → exec (.timePacket src sub) s = .next t)) ∧
    (rdLe x.body 0 1 = 3 → (t.timeState ≠ 0 → exec (.timePacket src sub) s = .next (t.sendTime x.port 4 num now)) ∧
      (t.timeState = 0 → exec (.timePacket src sub) s = .next t)) ∧
    (rdLe x.body 0 1 = 4 → (parent → t.nearEx.num = num → exec (.timePacket src sub) s =
        .next (State.exchange { t with nearEx := {} } { t.nearEx with t4 := some v } (t.nport x.port).asym)) ∧
      (¬ parent ∨ t.nearEx.num ≠ num → exec (.timePacket src sub) s = .next t)) ∧
    (rdLe x.body 0 1 ∉ [1, 2, 3, 4] → exec (.timePacket src sub) s = .next (t.bump 0x5200 2)))) ∧
  (∀ (s : State) (k : Nat),
    let u := if s.timeRole = 2 then s.countLock true else s
    let n := fget 0 u.nearExch k
    let can : Prop := k < 16 ∧ u.nearUp k = true ∧ k ≠ u.odGet 0x4020 1
    (s.timeState = 0 → exec (.timeExchange (64 + k)) s = .next s) ∧
    (s.timeState ≠ 0 → can → exec (.timeExchange (64 + k)) s =
      .next ((State.sendTime { u with nearExch := fput 0 u.nearExch k ((n + 1) % 2 ^ 32) } k 1 n 0).sendTime k 2 n u.clock)) ∧
    (s.timeState ≠ 0 → ¬ can → exec (.timeExchange (64 + k)) s = .next u)) ∧
  (∀ s : State, (s.timeState = 1 ∨ s.timeState = 2 → s.timeRole ≠ 2 →
      exec .holdoverTimeout s = .next (State.odSet { s with time := { s.time with lockRun := 0 } } 0x4010 1 3)) ∧
    (s.timeState ∉ [1, 2] ∨ s.timeRole = 2 → exec .holdoverTimeout s = .next s))) ∧
 ((∀ (s t : State) (k i sub : Nat) (src bytes h b : List Byte),
    let sync := exec (.timeSync k sub src bytes) s
    let follow := exec (.timeFollow k src bytes) s
    let dreq := exec (.timeDreq k sub src bytes) s
    let dresp := exec (.timeDresp k src bytes) s
    let formed (n : Nat) : Prop := b.length = n ∧ zeroAt b 4 4 = true
    let mine : Prop := isMaster t i = true ∧ (t.fpeer i).ex.num = rdLe b 0 4
    ((s.farOpen k src bytes 8 = (t, none) → sync = .next t) ∧ (s.farOpen k src bytes 9 = (t, none) → follow = .next t) ∧
      (s.farOpen k src bytes 0xA = (t, none) → dreq = .next t) ∧ (s.farOpen k src bytes 0xB = (t, none) → dresp = .next t)) ∧
    (s.farOpen k src bytes 8 = (t, some (i, h, b)) → (¬ formed 8 → sync = .next (t.peerCount i 8 1)) ∧
      (formed 8 → isMaster t i = false → sync = .next t) ∧
      (formed 8 → isMaster t i = true →
        let e : TimeEx := { num := rdLe b 0 4, t2 := some (s.clock + (sub % 100 : Nat)), t3 := some t.clock }
        sync = .next ((t.fpeerMod i (fun p => { p with ex := e })).farSend i 0xA 0 (slice b 0 8) false).1)) ∧
    (s.farOpen k src bytes 9 = (t, some (i, h, b)) → (¬ formed 16 → follow = .next (t.peerCount i 8 1)) ∧
      (formed 16 → ¬ mine → follow = .next t) ∧
      (formed 16 → mine → follow = .next (stampEx t i { (t.fpeer i).ex with t1 := some (sInt 64 (rdLe b 8 8)) }))) ∧
    (s.farOpen k src bytes 0xA = (t, some (i, h, b)) → (¬ formed 8 → dreq = .next (t.peerCount i 8 1)) ∧
      (formed 8 → t.timeRole ≠ 2 → dreq = .next t) ∧
      (formed 8 → t.timeRole = 2 →
        dreq = .next (t.farSend i 0xB 0 (slice b 0 8 ++ toLe 8 (ftNat (s.clock + (sub % 100 : Nat)))) false).1)) ∧
    (s.farOpen k src bytes 0xB = (t, some (i, h, b)) → (¬ formed 16 → dresp = .next (t.peerCount i 8 1)) ∧
      (formed 16 → ¬ mine → dresp = .next t) ∧
      (formed 16 → mine → dresp = .next (stampEx t i { (t.fpeer i).ex with t4 := some (sInt 64 (rdLe b 8 8)) })))) ∧
  (∀ (s : State) (i : Nat) (e : TimeEx) (t1 t2 t3 t4 asym : Int),
    let closed := s.fpeerMod i (fun p => { p with ex := {}, skip := p.skip - 1 })
    let whole : TimeEx := { num := e.num, t1 := some t1, t2 := some t2, t3 := some t3, t4 := some t4 }
    (e.t1 = none ∨ e.t2 = none ∨ e.t3 = none ∨ e.t4 = none → stampEx s i e = s.fpeerMod i (fun p => { p with ex := e }) ∧
      s.exchange e asym = s) ∧
    ((s.fpeer i).skip = 0 → stampEx s i whole = closed.exchange whole (sInt 32 (closed.odGet 0x4030 (i + 1)))) ∧
    (0 < (s.fpeer i).skip → stampEx s i whole = closed) ∧
    s.exchange whole asym = (if s.clock - t2 ≤ 1000000000 then s.servo t1 t2 t3 t4 asym else s)) ∧
  ∀ (s : State) (i : Nat), i < 64 →
    let u := if s.timeRole = 2 then s.countLock true else s
    let n := (u.fpeer i).exch
    let r := u.farSend i 8 0 (toLe 4 n ++ zeros 4) false
    let can : Prop := u.timeRole = 2 ∧ u.otherSites.contains i = true ∧ r.2 = true
    (s.timeState = 0 → exec (.timeExchange i) s = .next s) ∧
    (s.timeState ≠ 0 → can → exec (.timeExchange i) s = .next ((r.1.fpeerMod i (fun p => { p with exch := (n + 1) % 2 ^ 32 })).farSend i 9 0
      (toLe 4 n ++ zeros 4 ++ toLe 8 (ftNat u.clock)) false).1) ∧
    (s.timeState ≠ 0 → ¬ can → exec (.timeExchange i) s = .next u)) ∧
 (∀ (s : State) (t1 t2 t3 t4 asym : Int),
    let d := s.halve ((t2 - t1) + (t4 - t3))
    let o := d.2.halve (2 * (t2 - t1) - ((t2 - t1) + (t4 - t3)) - asym)
    let shown := o.2.odSet 0x4010 4 (sNat 64 d.1)
    shown.mayStep = false → shown.timeState ≠ 0 → (shown.odGet 0x4020 5 : Int) < o.1 ∨ o.1 < -(shown.odGet 0x4020 5 : Int) →
      s.servo t1 t2 t3 t4 asym = (State.odSet { shown with time := { shown.time with lockRun := 0 } } 0x4010 1 3).countNotify 0x4020 6) ∧
 (∀ (s : State) (sub : Nat),
    (s.time.ft ≠ ftUnset → exec (.ppsIn sub) s = .next (s.odSet 0x4040 2 (ftNat (s.time.ft + (sub % 100 : Nat))))) ∧
    (s.time.ft = ftUnset → exec (.ppsIn sub) s = .next (s.odSet 0x4040 2 (2 ^ 63))) ∧
    (s.odGet 0x4040 1 = 1 → s.time.ft ≠ ftUnset → s.time.ft % 1000000000 ≤ 100 → exec .ppsOut s = .next (s.emit .pps)) ∧
    (s.odGet 0x4040 1 ≠ 1 ∨ s.time.ft = ftUnset ∨ 100 < s.time.ft % 1000000000 → exec .ppsOut s = .next s)) ∧
 (∀ s : State,
    let lost := s.platMod (fun p => { p with ref10m := false })
    let back := s.platMod (fun p => { p with ref10m := true })
    let loses : Prop := s.plat.ref10m = true ∧ s.awake = true ∧ s.odGet 0xF300 1 = 1
    let returns : Prop := s.plat.ref10m = false ∧ s.awake = true ∧ s.time.onRefclk = true
    (loses → ∃ t, exec .ref10mLoss s = .next t ∧ t.plat.ref10m = false ∧ t.time.onRefclk = true ∧
      t.odGet 0xF300 1 = 0 ∧ t.odGet 0xF300 2 = (s.odGet 0xF300 2 + 1) % 2 ^ 64 ∧ t.time.ft = s.time.ft ∧ t.mem = s.mem) ∧
    (¬ loses → exec .ref10mLoss s = .next lost) ∧
    (returns → ∃ t, exec .ref10mReturn s = .next t ∧ t.plat.ref10m = true ∧
      t.time.onRefclk = false ∧ t.odGet 0xF300 1 = 1 ∧ t.time.ft = s.time.ft ∧ t.mem = s.mem) ∧
    (¬ returns → exec .ref10mReturn s = .next back))

/-- TIESUM adds the buffers of a tensor in index order (R98), NORM writes the sum of squares, the non-finite count and the length (R122), and
both go on to the next entry. OUTER, DIGEST, LOG_APPLY, COORD_EXPORT and COORD_IMPORT (R126, R127, R130, R133), each of the first three
after the log where its shard lies in the slow tier, an error in the log being fatal (R136); an import whose record fails the first pass
writes nothing and is refused. An entry of any kind that is refused goes by without an effect: the reason is shown, the refusal counted and
announced, a tie-sum's also put in the error log, and the done counter rises (R99, R120); one of a pending epoch waits, unchecked, and is
counted once (R250); an error in what an entry reads is fatal (R136). -/
def Obligations.UpdateEntries : Prop :=
 (∀ (s : State) (u : Nat) (d : List Byte),
    (UnitRuns s u 1 d →
      let desc := (uqEntry s u).desc
      let b := s.readBytes desc 32
      let buf (i : Nat) := numsOf 4 (s.readBytes (s.readNat (desc + 0x20 + 8 * i) 8) (4 * rdLe b 8 8))
      let sum := (List.range (rdLe b 4 1 - 1)).foldl (fun a i => (a.zip (buf (i + 1))).map (fun q => f32add q.1 q.2)) (buf 0)
      exec (.tiesum u) s = .next (uqFinish ((s.writeBytes (rdLe b 0x10 8) (sum.flatMap (toLe 4))).bump 0x3400 1) u (rdLe b 0x18 4))) ∧
    (UnitRuns s u 2 d →
      let ws := numsOf 4 (s.readBytes (rdLe d 8 8) (4 * rdLe d 0x10 8))
      let record := toLe 8 (sumSq (ws.map dec32)) ++ toLe 8 ((ws.map dec32).filter (fun v => !v.isFin)).length ++ toLe 8 ws.length ++ zeros 8
      exec (.normEntry u) s = .next (uqFinish ((s.writeBytes (rdLe d 0x18 8) record).bump 0x3400 3) u (rdLe d 0x30 4)))) ∧
 (∀ (s : State) (u : Nat) (d : List Byte),
    let hdr := rdLe d 8 8
    let slow := shSlow (s.shard hdr)
    let b := if slow then s.applyLog else s
    let sound : Prop := slow = true → s.logWrong = none
    (UnitRuns s u 4 d → sound →
      let r := outerRule b hdr (numsOf 4 (b.readBytes (rdLe d 0x10 8) (4 * shElems (b.shard hdr)))) (rdLe d 0x18 8) (rdLe d 0x20 4)
        (rdLe d 0x24 4) (rdLe d 0x28 4)
      exec (.outer u) s = .next (if r.2 then uqFinish (r.1.bump 0x3400 5) u (rdLe d 0x30 4) else r.1)) ∧
    (UnitRuns s u 5 d → sound → rdLe d 4 1 = 0 → exec (.digest u) s = .next (uqFinish (b.sealShard hdr) u (rdLe d 0x30 4))) ∧
    (UnitRuns s u 5 d → sound → rdLe d 4 1 ≠ 0 →
      let h := b.shard hdr
      let verdict := if shValid h = false then 2
        else if foldDigest b (b.readBytes (hdr + 64) (shBytes h)) = slice h 0x30 16 then 0 else 1
      exec (.digest u) s = .next (uqFinish (b.writeBytes (rdLe d 0x10 8) (toLe 4 verdict)) u (rdLe d 0x30 4))) ∧
    (UnitRuns s u 6 d → s.logWrong = none → exec (.logApply u) s = .next (uqFinish s.applyLog u (rdLe d 0x30 4))) ∧
    (∀ a, s.logWrong = some a → (slow = true → (UnitRuns s u 4 d → exec (.outer u) s = .next (s.eccFault a)) ∧
        (UnitRuns s u 5 d → exec (.digest u) s = .next (s.eccFault a))) ∧
      (UnitRuns s u 6 d → exec (.logApply u) s = .next (s.eccFault a))) ∧
    (UnitRuns s u 7 d → rdLe d 4 1 = 0 → exec (.coordExport u) s =
      .next (uqFinish (exportRecord s hdr (rdLe d 0x10 8) (slice d 0x18 24)) u (rdLe d 0x30 4))) ∧
    (UnitRuns s u 7 d → rdLe d 4 1 = 1 → importOk s d = true →
      exec (.coordImport u) s = .next (uqFinish (importRecord s d) u (rdLe d 0x30 4))) ∧
    (UnitRuns s u 7 d → rdLe d 4 1 = 1 → importOk s d = false → exec (.coordImport u) s = .next (uqRefuse s u 7 8))) ∧
 (∀ (s : State) (u kind : Nat) (c : Instr), (kind, c) ∈ [(1, Instr.tiesum u), (2, .normEntry u), (3, .inner u), (4, .outer u), (5, .digest u),
      (6, .logApply u), (7, .coordExport u), (7, .coordImport u)] →
    let en := uqEntry s u
    let d := s.readBytes en.desc 64
    let o := s.draw 3
    let why := if kind = 1 then tiesumReason s u en.desc else unitReason s u kind d (o.1.toNat + 1)
    let line := s.wrongLine [((uqSpec s u).base + (uqNextOf s u).toNat % 1024 * 16, 16)]
    let waits : Prop := hbmOk s en.desc 64 = true ∧ en.kind ≠ 6 ∧ s.epochWaits (rdLe d 6 2) = true
    let mine : Prop := (c = .coordExport u → rdLe d 4 1 ≠ 1) ∧ (c = .coordImport u → rdLe d 4 1 ≠ 0)
    (uqReady s u = false → exec c s = .next s) ∧
    (∀ a, uqReady s u = true → line = some a → exec c s = .next (s.eccFault a)) ∧
    (uqReady s u = true → line = none →
      (en.kind ≠ kind → 1 ≤ en.kind → en.kind ≤ 7 → exec c s = .next s) ∧
      (en.kind = 0 ∨ 7 < en.kind → (waits → exec c s = .next (s.holdHead u)) ∧ (¬ waits → exec c s = .next (uqRefuse s u en.kind 1))) ∧
      (en.kind = kind →
        (waits → exec c s = .next (s.holdHead u)) ∧
        (¬ waits → en.rsv ≠ 0 → exec c s = .next (uqRefuse s u kind 1)) ∧
        (¬ waits → en.rsv = 0 → hbmOk s en.desc 64 = false → exec c s = .next (uqRefuse s u kind 2)) ∧
        (¬ waits → en.rsv = 0 → hbmOk s en.desc 64 = true → ¬ mine → exec c s = .next s) ∧
        (¬ waits → en.rsv = 0 → hbmOk s en.desc 64 = true → mine →
          (∀ r, why = some r → exec c s = .next (uqRefuse (if kind = 7 then o.2 else s) u kind r)) ∧
          (∀ a, why = none → s.wrongLine (unitReads s kind d en.desc) = some a → exec c s = .next (s.eccFault a))))) ∧
    (∀ (t : State) (r : Nat),
      let shown := (t.odSet 0x3400 0xA (kind * 2 ^ 24 + u * 2 ^ 20 + r)).countNotify 0x3400 (if kind = 1 then 2 else 7)
      let tensor := if hbmOk t (uqEntry t u).desc 64 then t.readBytes (uqEntry t u).desc 4 else zeros 4
      uqRefuse t u kind r = uqStep (if kind = 1 then shown.logErr 2 r 0xFF u tensor else shown) u ∧
      uqNextOf (uqStep t u) u = uqNextOf t u + 1) ∧
    (u ∉ s.qWait → s.holdHead u = ({ s with qWait := u :: s.qWait } : State).bump 0x2020 3) ∧ (u ∈ s.qWait → s.holdHead u = s))

/-- INNER (R123, R124, R125, R128): a failed gate skips the step; a shard in HBM takes the rule on every element and a new version and digest;
the rows of a slow shard go to the log; a non-finite gradient past the gate is counted and fatal, whole lines, or rows, before it being
written or not. -/
def Obligations.InnerSteps : Prop :=
  (∀ (s : State) (u : Nat) (d : List Byte), UnitRuns s u 3 d →
    let rule := rdLe d 4 1
    let c := s.readNat (rdLe d 0x20 8) 4
    let n := if rule = 2 then s.readNat (rdLe d 0x28 8) 4 else 0
    let a := ruleFactor rule (rdLe d 0x1C 4) c n
    let hdr := rdLe d 8 8
    let h := s.shard hdr
    let gs := (numsOf 4 (s.readBytes (rdLe d 0x10 8) (4 * shElems h))).map dec32
    let k := rowLen d
    let rows := (List.range (chunksOf k gs).length).zip (chunksOf k gs)
    let o := s.draw 64
    (gateFails rule c n = true → exec (.inner u) s = .next (uqFinish (s.bump 0x3400 6) u (rdLe d 0x30 4))) ∧
    (gateFails rule c n = false → shSlow h = false → firstBad gs = none → exec (.inner u) s = .next
      (uqFinish ((((innerRow s rule a (shFmt h) (hdr + 64) gs).bumpVersion hdr).sealShard hdr).bump 0x3400 4) u (rdLe d 0x30 4))) ∧
    (gateFails rule c n = false → shSlow h = false → ∀ e, firstBad gs = some e →
      let lines := o.1.toNat % (e * paramW (shFmt h) / 64 + 1)
      exec (.inner u) s = .next (lateNonfinite (innerRow o.2 rule a (shFmt h) (hdr + 64) (gs.take (lines * 64 / paramW (shFmt h)))))) ∧
    (gateFails rule c n = false → shSlow h = true → firstBad gs = none →
      let r := rows.foldl (innerLogRow d a k) (s, false)
      let t := r.1.bumpVersion hdr
      exec (.inner u) s = .next (uqFinish ((if r.2 then t.sealShard hdr else t.clearValid hdr).bump 0x3400 4) u (rdLe d 0x30 4))) ∧
    (gateFails rule c n = false → shSlow h = true → ∀ e, firstBad gs = some e → exec (.inner u) s =
      .next (lateNonfinite ((rows.take (o.1.toNat % (e / k + 1))).foldl (innerLogRow d a k) (o.2, false)).1))) ∧
  ∀ s : State, lateNonfinite s = (s.bump 0x3400 9).enterFaulted 2 0

/-- A Fusee's entries (R222, R224, R116): the sums, the orthonormal factor, the residual, the record, the check and the digest are written
where the descriptor says, with the result line, and the entry completes; a sum or a record with a non-finite value gives up the shard's
own delta. An entry that is refused goes by without an effect, the reason shown as R120 says and the refusal counted (R221); one of a
pending epoch waits and is counted once (R250); an error in what it reads is fatal (R136). -/
def Obligations.FuseesRun : Prop :=
  (∀ (s : State) (f : Nat) (b : List Byte),
    let n := fRows b * fCols b
    let x := ((f32At s (fSrc0 b) n).zip (f32At s (fSrc1 b) n)).map (fun q => f32add q.1 q.2)
    let e := ((f32At s (fSrc0 b) n).zip (f32At s (fSrc1 b) n)).map (fun q => f32sub q.1 q.2)
    let codes := rowCodes (x.map dec32)
    let message := s.readBytes (fSrc0 b) (fBytes b)
    let payload := if fRank b = 0 then sfpBytes (f32At s (fSrc0 b) (fCols b))
      else s.readBytes (fSrc0 b) (sfpSize (fRows b * fRank b)) ++ sfpBytes (f32At s (fSrc1 b) (fCols b * fRank b))
    let rc : Rec := { tensor := rdLe b 0 4, kind := if fRank b = 0 then 2 else 1, rank := fRank b, rows := fRows b, cols := fCols b,
                      bytes := payload.length, payload := payload }
    let ends (c : Instr) (t : State) : Prop := exec c s = .next (fqFinish t f (rdLe b 0x30 4))
    (FuseeRuns s f 1 b → ends (.efadd f) (((s.writeBytes (fDst b) (x.flatMap (toLe 4) ++ (codes.flatMap (fun c => c.2.flatMap (toLe 2)) ++
      codes.flatMap (fun c => toLe 1 c.1)))).writeBytes (fResult b) (resultLine (badCount x) 0 [])).deltaBad (rdLe b 0 4) (badCount x))) ∧
    (FuseeRuns s f 2 b → ends (.ortho f) ((s.writeBytes (fDst b) (sfpBytes (orthoMat (f32At s (fSrc0 b) (fRows b * fRank b))
      (fRank b)))).writeBytes (fResult b) (resultLine 0 0 []))) ∧
    (FuseeRuns s f 3 b → ends (.resid f) ((s.writeBytes (fDst b) (e.flatMap (toLe 4))).writeBytes (fResult b)
      (resultLine (badCount e) 0 []))) ∧
    (FuseeRuns s f 4 b → ends (.pack f) (((s.writeBytes (fDst b) (recHeader rc.tensor (fRank b) rc.rows rc.cols rc.bytes rc.sumsq ++
      payload)).writeBytes (fResult b) (resultLine rc.nonfinite rc.sumsq [])).deltaBad rc.tensor rc.nonfinite)) ∧
    (FuseeRuns s f 5 b → ends (.check f) ((s.writeBytes (fResult b) (resultLine (msgNonfinite message) (msgNorm message)
      (foldDigest s message))).contribReady message (msgNorm message) (msgNonfinite message))) ∧
    (FuseeRuns s f 6 b → ends (.foldDigest f) (s.writeBytes (fResult b) (resultLine 0 0 (foldDigest s message))))) ∧
  ∀ (s : State) (f kind : Nat) (c : Instr), (kind, c) ∈ [(1, Instr.efadd f), (2, .ortho f), (3, .resid f), (4, .pack f), (5, .check f),
      (6, .foldDigest f)] →
    let en := s.ringEntry (fqSpec s f).base (fqNext s f).toNat
    let b := s.readBytes en.desc 64
    let ready : Prop := s.queuesStart = true ∧ f < 2 ∧ s.rung (fqSpec s f).door (fqNext s f) = true
    let line := s.wrongLine [((fqSpec s f).base + (fqNext s f).toNat % 1024 * 16, 16)]
    let waits : Prop := hbmOk s en.desc 64 = true ∧ s.epochWaits (rdLe b 6 2) = true
    (¬ ready → exec c s = .next s) ∧
    (∀ a, ready → line = some a → exec c s = .next (s.eccFault a)) ∧
    (ready → line = none →
      (en.kind ≠ kind → 1 ≤ en.kind → en.kind ≤ 6 → exec c s = .next s) ∧
      (en.kind = kind ∨ en.kind = 0 ∨ 6 < en.kind → (waits → exec c s = .next (s.holdHead (48 + f))) ∧
        (¬ waits → en.kind ≠ kind ∨ en.rsv ≠ 0 → exec c s = .next (fqRefuse s f en.kind 1))) ∧
      (en.kind = kind → ¬ waits → en.rsv = 0 →
        (hbmOk s en.desc 64 = false → exec c s = .next (fqRefuse s f kind 2)) ∧
        (∀ r, hbmOk s en.desc 64 = true → fReason s kind b = some r → exec c s = .next (fqRefuse s f kind r)) ∧
        (∀ a, hbmOk s en.desc 64 = true → fReason s kind b = none →
          s.wrongLine ((en.desc, 64) :: (fRanges kind b).filter (fun q => q.1 != fDst b && q.1 != fResult b)) = some a →
          exec c s = .next (s.eccFault a)))) ∧
    (∀ (t : State) (r : Nat), fqRefuse t f kind r =
      fqStep ((t.odSet 0x3400 0xA (kind * 2 ^ 24 + f * 2 ^ 20 + r)).countNotify 0x7800 3) f) ∧
    (48 + f ∉ s.qWait → s.holdHead (48 + f) = ({ s with qWait := (48 + f) :: s.qWait } : State).bump 0x2020 3) ∧
    (48 + f ∈ s.qWait → s.holdHead (48 + f) = s)

/-- Memory keeps what is written (Table 1.4): a write into HBM, a Barrel or SRAM shows its bytes at their addresses and no byte elsewhere
changes. SCRUB (R134 to R136): a line with one wrong symbol is corrected and counted, one with more is recorded and fatal, and a sound one
is left as it is; a period of 0 stops the scrub, and nothing is scrubbed before QUIET. An error that a reader finds: in HBM as in a scrub;
in the slow tier one correctable is corrected uncounted, one uncorrectable fatal; in a Barrel, in SRAM or in a queue's or unit's own words
it is counted in OD 0x3300.03 or fatal (that SCRUB reports those is the model's choice, log 12). Data never changes. -/
def Obligations.MemoryKeeps : Prop :=
 (∀ (s : State) (a : Nat) (bs : List Byte), a < slowBase →
    (∀ b, (s.writeBytes a bs).memByte b = if a ≤ b ∧ b < a + bs.length then bs.getD (b - a) 0 else s.memByte b) ∧
    (s.writeBytes a bs).slow = s.slow ∧ (s.writeBytes a bs).od = s.od ∧ (s.writeBytes a bs).pinions = s.pinions ∧
    (a + bs.length ≤ shadowBase → (s.writeBytes a bs).readBytes a bs.length = bs)) ∧
 (∀ (s : State) (a k : Nat) (reader : Bool), stQuiet ≤ s.modState → a < barrelBase → a / hbmStride < 8 → a % hbmStride < hbmSize →
    exec (.scrub a ⟨0, reader⟩) s = .next s ∧
    (s.odGet 0x3300 1 = 0 → reader = false → exec (.scrub a ⟨k, reader⟩) s = .next s) ∧
    (s.odGet 0x3300 1 ≠ 0 ∨ reader = true →
      exec (.scrub a ⟨1, reader⟩) s = .next (State.bump { s with wrong := fdel s.wrong (a / 64) } 0x3300 2) ∧
      (2 ≤ k → exec (.scrub a ⟨k, reader⟩) s = .next (State.eccFault { s with wrong := fput 0 s.wrong (a / 64) k } a)))) ∧
 (∀ (s : State) (a k : Nat), stQuiet ≤ s.modState → barrelBase ≤ a ∨ 8 ≤ a / hbmStride ∨ hbmSize ≤ a % hbmStride →
    exec (.scrub a ⟨k, false⟩) s = .next s ∧ exec (.scrub a ⟨0, true⟩) s = .next s ∧
    (a < slowBase → exec (.scrub a ⟨1, true⟩) s = .next (s.bump 0x3300 3) ∧
      (2 ≤ k → exec (.scrub a ⟨k, true⟩) s = .next (s.eccFault a))) ∧
    (slowBase ≤ a → exec (.scrub a ⟨1, true⟩) s = .next s ∧
      (2 ≤ k → s.inSlow a 1 = true → exec (.scrub a ⟨k, true⟩) s = .next (s.eccFault a)) ∧
      (s.inSlow a 1 = false → exec (.scrub a ⟨k, true⟩) s = .next s))) ∧
 (∀ (s : State) (a k : Nat) (reader : Bool), s.modState < stQuiet → exec (.scrub a ⟨k, reader⟩) s = .next s) ∧
 (∀ (s : State) (a : Nat), s.eccFault a = (s.odSet 0x3300 4 a).enterFaulted 1 a ∧ (s.bump 0x3300 3).mem = s.mem)

/-- The timers, ports and sending of the far link (R198, R201 to R210, R213, R214): each timer acts on the peer that it names and on no
other; a port that comes up takes the peers without a working port and, on the active gateway, the first handshakes; one that goes down
gives its peers to the other; of the peers with a frame ready the rotating priority of the port chooses one (R145, R209), a CONFIRM that is
owed going first; the oldest waiting message is granted when the ring has room for all of it, a wait being counted once. What a port
receives beside frames of Remontoire (R196, R197, R272): a question for an own address is answered, the next hop of a far port is learned,
and every other frame is discarded and counted. -/
def Obligations.FarPeers : Prop :=
 (∀ (s : State) (i k q : Nat) (peers : List Nat),
    ((s.fpeer i).ackDue ≠ 0 → exec (.ackTimer i) s = .next (s.sendAck i)) ∧
    ((s.fpeer i).ackDue = 0 → exec (.ackTimer i) s = .next s) ∧
    (let due := (s.fpeer i).slots.any (fun x => x.seq == q && x.lastNo != 0 && !x.resend)
     (due = true → exec (.rtoExpiry i q) s =
      .next ((s.bump 0x6100 3).fpeerMod i (fun p => { p with slots := p.slots.map (fun x =>
        if x.seq = q then { x with resend := true, rto := min (1000000 * s.odGet 0x6100 2) (2 * x.rto) } else x) }))) ∧
     (due = false → exec (.rtoExpiry i q) s = .next s)) ∧
    ((s.fpeer i).st = 2 → exec (.peerDown i) s = .next (s.peerState i 3)) ∧
    ((s.fpeer i).st ≠ 2 → exec (.peerDown i) s = .next s) ∧
    (let back : Prop := s.isGateway = true ∧ s.otherSites.contains i = true ∧ s.farUp (s.boundPort i) = true
     (back → exec (.portReturn i) s = .next (s.movePeer i (s.boundPort i))) ∧ (¬ back → exec (.portReturn i) s = .next s)) ∧
    (s.peerPort i ≠ k → s.movePeer i k =
      ((s.fpeerMod i (fun p => { p with away := !p.away, skip := 16 })).bump 0x6000 4).sendConfirm i) ∧
    (s.peerPort i = k → s.movePeer i k = s) ∧
    (let turn := grant (s.otherSites.filter (fun i => peers.contains i && peerReady s k i)) (fget 0 s.far.turn k) 64
     (turn = none → exec (.frameSend ⟨k, peers⟩) s = .next s) ∧
     ∀ j, turn = some j →
      let u := s.farMod (fun f => { f with turn := fput 0 f.turn k ((j + 1) % 64) })
      ((u.fpeer j).owesConfirm = true → exec (.frameSend ⟨k, peers⟩) s = .next (u.sendConfirm j)) ∧
      (∀ x, (u.fpeer j).owesConfirm = false → u.nextFrame (u.fpeer j) = some x → exec (.frameSend ⟨k, peers⟩) s = .next (u.sendSlot j x)) ∧
      ((u.fpeer j).owesConfirm = false → u.nextFrame (u.fpeer j) = none → exec (.frameSend ⟨k, peers⟩) s = .next u)) ∧
    (s.isGateway = true → s.running = true → exec (.keyLifetime i) s = .next (s.wantKey i)) ∧
    (s.isGateway = false ∨ s.running = false → exec (.keyLifetime i) s = .next s) ∧
    (let again : Prop := s.isGateway = true ∧ s.running = true ∧ (s.fpeer i).hs.isSome = true
     (again → exec (.hsResend i) s = .next (s.sendInit i)) ∧
     (¬ again → s.running = true → s.otherSites.contains i = true → exec (.hsResend i) s = .next (s.firstHs i)) ∧
     (s.running = false ∨ (¬ again ∧ s.otherSites.contains i = false) → exec (.hsResend i) s = .next s)) ∧
    (let shown : Prop := (s.fpeer i).mayDrop = true ∧ (s.fpeer i).keys.head?.map (·.epoch) = some (s.fpeer i).heard
     (shown → exec (.oldKeyRelease i) s = .next (s.fpeerMod i (fun q => { q with
      keys := q.keys.take 1, mayDrop := false,
      txLog := q.txLog.filter (fun e => some e.1 == (s.fpeer i).keys.head?.map (·.epoch)) }))) ∧
     (¬ shown → exec (.oldKeyRelease i) s = .next s)) ∧
    (let rises : Prop := k < 2 ∧ s.running = true ∧ s.farSt k ≤ 1 ∧ s.portSvc 2 k = 0
     let u := s.odSet 0x6000 (k + 1) 2
     (rises → u.isGateway = false → exec (.farPortUp k) s = .next u) ∧
     (rises → u.isGateway = true → exec (.farPortUp k) s = .next (u.otherSites.foldl (fun a i =>
        let a1 := if a.farUp (a.peerPort i) then a.sendConfirm i else a.movePeer i k
        if a1.peerPort i = k then a1.firstHs i else a1) u)) ∧
     (¬ rises → exec (.farPortUp k) s = .next s)) ∧
    (let u := s.odSet 0x6000 (k + 1) 0
     (k < 2 → s.farSt k = 2 → exec (.farPortDown k) s = .next (u.otherSites.foldl (fun a i =>
        if a.peerPort i = k ∧ a.farUp (1 - k) = true then a.movePeer i (1 - k) else a)
        (u.farMod (fun f => { f with waiting := f.waiting.filter (fun w => w.1 != k) })))) ∧
     (2 ≤ k ∨ s.farSt k ≠ 2 → exec (.farPortDown k) s = .next s)) ∧
    (s.far.msgs.find? (fun m => !m.granted) = none ∨ s.isGateway = false → exec .relayGrant s = .next s) ∧
    (∀ m, s.far.msgs.find? (fun m => !m.granted) = some m → s.isGateway = true →
      let put (m' : FarMsg) := s.farMod (fun f => { f with msgs := f.msgs.map (fun x => if x.num = m.num then m' else x) })
      let fits : Prop := s.ringUsed.length + ((s.msgPeers m).map (fun i => s.framesOf i (dhLen m.hdr))).sum ≤ s.ringSlots
      let u := (s.msgPeers m).foldl (fun a i => a.sequence m i) (put { m with granted := true })
      (fits → (m.bytes.isSome = true → exec .relayGrant s = .next u) ∧
        (m.bytes = none → (u.inStream m.src m.coll 8 0 = none → exec .relayGrant s = .next u) ∧
          ∀ x, u.inStream m.src m.coll 8 0 = some x → exec .relayGrant s = .next (u.sendCack x (x.next - 1)))) ∧
      (¬ fits → (m.waited = true → exec .relayGrant s = .next s) ∧
        (m.waited = false → exec .relayGrant s = .next ((put { m with waited := true }).bump 0x6200 3))))) ∧
 (∀ (s : State) (k : Nat) (bytes : List Byte),
    (s.farUp k = true → exec (.foreignFrame k bytes) s = .next (s.bump 0x6000 3)) ∧
    (s.farUp k = false → exec (.foreignFrame k bytes) s = .next s) ∧
    (s.nbrUp k = false → exec (.arp k bytes) s = .next s ∧ exec (.neighborDiscovery k bytes) s = .next s)) ∧
 (∀ (s : State) (k : Nat) (bytes : List Byte), s.nbrUp k = true →
    let v4 (a : List Byte) : List Byte := zeros 10 ++ [0xFF, 0xFF] ++ a
    let learned := s.nbrLearn k (v4 (slice bytes 14 4)) (slice bytes 8 6)
    let form : Prop := bytes.length = 28 ∧ slice bytes 0 6 = toBe 2 1 ++ toBe 2 0x0800 ++ [6, 4]
    let asked : Prop := beNat (slice bytes 6 2) = 1 ∧ (s.nbrAddrs k).contains (v4 (slice bytes 24 4)) = true
    let src := slice bytes 8 16
    let m := bytes.drop 40
    let opt := slice m 24 8
    let own := slice m 8 16
    let sound : Prop := 72 ≤ bytes.length ∧ rdLe bytes 6 1 = 58 ∧ rdLe bytes 7 1 = 255 ∧ rdLe m 1 1 = 0 ∧
      inetSum (src ++ slice bytes 24 16 ++ toBe 4 m.length ++ toBe 4 58 ++ m) = 0
    let told := if rdLe opt 0 1 = 1 then s.nbrLearn k src (slice opt 2 6) else s
    (form → asked → exec (.arp k bytes) s = .next (learned.emit (.farNeighbour k
      (arpPacket 2 (nbrMac k) (slice bytes 24 4) (slice bytes 8 6) (slice bytes 14 4))))) ∧
    (form → ¬ asked → exec (.arp k bytes) s = .next learned) ∧
    (¬ form → exec (.arp k bytes) s = .next s) ∧
    (¬ sound → exec (.neighborDiscovery k bytes) s = .next s) ∧
    (sound →
      (rdLe m 0 1 = 136 → rdLe opt 0 1 = 2 → exec (.neighborDiscovery k bytes) s = .next (s.nbrLearn k own (slice opt 2 6))) ∧
      (rdLe m 0 1 = 136 → rdLe opt 0 1 ≠ 2 → exec (.neighborDiscovery k bytes) s = .next s) ∧
      (rdLe m 0 1 = 135 → (s.nbrAddrs k).contains own = false → exec (.neighborDiscovery k bytes) s = .next told) ∧
      (rdLe m 0 1 = 135 → (s.nbrAddrs k).contains own = true → src ≠ zeros 16 → exec (.neighborDiscovery k bytes) s =
        .next (told.emit (.farNeighbour k (icmp6Packet own src ([136, 0, 0, 0] ++ [0x60, 0, 0, 0] ++ own ++ [2, 1] ++ nbrMac k))))) ∧
      (rdLe m 0 1 = 135 → (s.nbrAddrs k).contains own = true → src = zeros 16 → exec (.neighborDiscovery k bytes) s =
        .next (told.emit (.farNeighbour k (icmp6Packet own ([0xFF, 2] ++ zeros 13 ++ [1])
          ([136, 0, 0, 0] ++ [0x20, 0, 0, 0] ++ own ++ [2, 1] ++ nbrMac k))))) ∧
      (rdLe m 0 1 ∉ [135, 136] → exec (.neighborDiscovery k bytes) s = .next s)) ∧
    (k = 2 → learned = s) ∧ (k ≠ 2 → learned = s.learnHop k (v4 (slice bytes 14 4)) (slice bytes 8 6)))

/-- Authenticated frames of a peer (R203, R204, R206, R208, R214): DATA is taken once and acknowledged, an ACK releases what it names and may
give an RTT sample, a RETIRE aborts the messages it names, whether their frames have come or not, and a CONFIRM has no effect beyond its
authentication; an ill-formed one is counted at its peer, and a frame that fails its authentication has no further effect. A sequence
number is accepted once (R203): an accepted frame is held or below CUM after it, so that the same number is refused from then on; a refused
one is counted and acknowledged again, and changes no held number. -/
def Obligations.FarFramesAct : Prop :=
 (∀ (s t : State) (k i : Nat) (src bytes h b : List Byte),
    let taken := t.seqArrives i h
    (s.farOpen k src bytes 1 = (t, some (i, h, b)) → (dataForm b = false → exec (.dataFrame k src bytes) s = .next (t.peerCount i 8 1)) ∧
      (dataForm b = true → taken.2 = true → exec (.dataFrame k src bytes) s =
        .next ((taken.1.farData i (rdLe h 0x10 6) b).ackAfter i (t.fpeer i) h)) ∧
      (dataForm b = true → taken.2 = false → exec (.dataFrame k src bytes) s = .next taken.1)) ∧
    (s.farOpen k src bytes 2 = (t, some (i, h, b)) →
      let n := rdLe b 0xE 1
      let formed : Prop := b.length = 24 + 16 * n ∧ n ≤ 8 ∧ zeroAt b 0xF 1 = true ∧ rdLe b 0xD 1 < 4
      let t1 := match (t.fpeer i).txLog.find? (fun e => e.1 == rdLe b 0xC 1 && e.2.1 == rdLe b 8 4) with
        | none => t
        | some e => t.fpeerMod i (fun q => State.rttSample q (t.time.now - e.2.2 - rdLe b 0x10 8))
      let newest := ((t.fpeer i).keys.head?.map (·.epoch)).getD 0
      let rs := (List.range n).map (fun j => (rdLe b (0x18 + 16 * j) 8, rdLe b (0x20 + 16 * j) 8))
      let held (x : Nat) : Bool := decide (x < rdLe b 0 6) || rs.any (fun q => decide (q.1 ≤ x) && decide (x < q.2))
      (formed → exec (.ackFrame k src bytes) s = .next (((t1.fpeerMod i (fun q => { q with
        mayDrop := q.mayDrop || (decide (1 < q.keys.length) && rdLe b 0xD 1 == newest) })).releaseSlots i held).dropMsgs)) ∧
      (¬ formed → exec (.ackFrame k src bytes) s = .next (t.peerCount i 8 1))) ∧
    (s.farOpen k src bytes 3 = (t, some (i, h, b)) →
      let formed : Prop := b.length % 16 = 0 ∧ b.length ≠ 0 ∧ b.length ≤ 1024
      let inR (x : Nat) : Bool := ((chunksOf 16 b).map (fun c => (rdLe c 0 8, rdLe c 8 8))).any (fun q => decide (q.1 ≤ x) && decide (x < q.2))
      let p := taken.1.fpeer i
      let marks := ((List.range (t.odGet 0x6200 1)).map (· + p.cum)).filter inR
      let hit (m : FarRx) : Bool := (List.range (t.framesOf i (dhLen m.hdr))).any (fun n => inR (m.first + n))
      (formed → taken.2 = true → exec (.retireFrame k src bytes) s = .next (((p.rx.filter hit).foldl (fun a m => a.farAbort i m)
        (taken.1.fpeerMod i (fun p => State.holdSeqs p marks))).ackAfter i (t.fpeer i) h)) ∧
      (formed → taken.2 = false → exec (.retireFrame k src bytes) s = .next taken.1) ∧
      (¬ formed → exec (.retireFrame k src bytes) s = .next (t.peerCount i 8 1))) ∧
    (s.farOpen k src bytes 4 = (t, some (i, h, b)) → exec (.confirm k src bytes) s = .next t) ∧
    (s.farOpen k src bytes 1 = (t, none) → exec (.dataFrame k src bytes) s = .next t) ∧
    (s.farOpen k src bytes 2 = (t, none) → exec (.ackFrame k src bytes) s = .next t) ∧
    (s.farOpen k src bytes 3 = (t, none) → exec (.retireFrame k src bytes) s = .next t) ∧
    (s.farOpen k src bytes 4 = (t, none) → exec (.confirm k src bytes) s = .next t)) ∧
 (∀ (s : State) (i : Nat) (h : List Byte),
    let p := s.fpeer i
    let q := rdLe h 0x10 6
    let echoed := s.fpeerMod i (fun p => { p with echo := some (rdLe h 8 4, rdLe h 2 1 % 4, s.time.now), ackDue := p.ackDue + 1 })
    (q < p.cum ∨ p.cum + s.odGet 0x6200 1 ≤ q ∨ q ∈ p.held → s.seqArrives i h = ((echoed.peerCount i 11 1).sendAck i, false)) ∧
    (p.cum ≤ q → q < p.cum + s.odGet 0x6200 1 → q ∉ p.held →
      s.seqArrives i h = (echoed.fpeerMod i (fun p => State.holdSeqs p [q]), true))) ∧
 (∀ (p : FarPeer) (q : Nat), p.cum ≤ q → q ∉ p.held →
    (q < (State.holdSeqs p [q]).cum ∨ q ∈ (State.holdSeqs p [q]).held) ∧ p.cum ≤ (State.holdSeqs p [q]).cum ∧
    ∀ x, x < p.cum ∨ x ∈ p.held → x < (State.holdSeqs p [q]).cum ∨ x ∈ (State.holdSeqs p [q]).held)

/-- Handshakes (R210 to R214): the responder answers a sound HS_INIT of a new session, or of the next epoch, with HS_RESP and new keys, and
repeats its answer to one it has answered; the initiator takes the keys of a sound HS_RESP, switches and owes CONFIRM as its first frame.
A frame that fails a check is counted and announced, one of a wrong form counted at its peer, and one that the module does not take has no
further effect. -/
def Obligations.Handshakes : Prop :=
  ∀ (s t : State) (k i : Nat) (src bytes : List Byte),
    let b := bytes.drop 32
    let p := t.fpeer i
    let session := rdLe bytes 0xC 4
    let init := exec (.hsInit k src bytes) s
    let resp := exec (.hsResp k src bytes) s
    (s.farAccept k src bytes 0x10 = (t, none) → init = .next t) ∧ (s.farAccept k src bytes 0x11 = (t, none) → resp = .next t) ∧
    (s.farAccept k src bytes 0x10 = (t, some i) →
      let body := slice b 0 192
      let known := p.answered.find? (fun a => a.1 == body && session == p.session)
      let fresh : Bool := session != p.session || p.st == 1
      let sound : Prop := t.initiates i = false ∧ hsChecks t i bytes [] = true ∧ session ≠ 0
      (hsForm bytes = false → init = .next (t.peerCount i 8 1)) ∧
      (hsForm bytes = true → ¬ sound → init = .next (t.countNotify 0x6400 3)) ∧
      (hsForm bytes = true → sound →
        (∀ a, known = some a → t.farReady i = true → init = .next (t.farEmit i a.2)) ∧
        (∀ a, known = some a → t.farReady i = false → init = .next t) ∧
        (known = none → rdLe b 0 1 ≠ (if fresh then 0 else (p.epoch + 1) % 4) → init = .next (t.countNotify 0x6400 3)) ∧
        (known = none → rdLe b 0 1 = (if fresh then 0 else (p.epoch + 1) % 4) →
          let t0 := if fresh then (t.farSession i session (rdLe b 2 2 == 1400 || t.mtuMode i == 2)).peerState i 1 else t
          let n := t0.randomBytes 16
          let e := n.2.randomBytes 32
          let okm := State.hsKeys (x25519 e.1 (slice b 0x18 32)) (slice b 8 16) n.1 session (rdLe b 0 1) i t.ownSite
          let f := e.2.hsFrame i 0x11 session (e.2.hsBody (rdLe b 0 1) (e.2.peerSmall i) n.1 (x25519 e.1 x25519Base)) body 0
          let u := e.2.fpeerMod i (fun q => { q with
            answered := (if session = p.session then p.answered else []) ++ [(body, f)],
            keys := State.addKey q.keys (State.hsKey (rdLe b 0 1) okm false), mayDrop := false })
          init = .next (if u.farReady i then u.farEmit i f else u)))) ∧
    (s.farAccept k src bytes 0x11 = (t, some i) →
      (hsForm bytes = false → resp = .next (t.peerCount i 8 1)) ∧
      (hsForm bytes = true → p.hs = none → resp = .next (t.countNotify 0x6400 3)) ∧
      ∀ h, hsForm bytes = true → p.hs = some h →
        let sound : Prop := session = p.session ∧ rdLe b 0 1 = h.epoch ∧ hsChecks t i bytes (slice h.frame 32 192) = true
        let okm := State.hsKeys (x25519 h.priv (slice b 0x18 32)) h.nonce (slice b 8 16) p.session h.epoch t.ownSite i
        let t1 := t.fpeerMod i (fun q => { q with
          hs := none, keys := State.addKey q.keys (State.hsKey h.epoch okm true), epoch := h.epoch, frameNo := 0, mayDrop := false,
          owesConfirm := true, small := q.small || (h.fresh && rdLe b 2 2 == 1400) })
        let t2 := if (t1.fpeer i).small = p.small then t1 else t1.renewSlots i
        (¬ sound → resp = .next (t.countNotify 0x6400 3)) ∧
        (sound → resp = .next (((t2.bump 0x6400 2).peerState i 2).sendConfirm i)))

/-- Sessions (R274 to R278, R281): OPEN gives a challenge under a new number, the same again where it repeats, and is refused BUSY at eight
sessions and RIGHTS where R278 forbids it; PROVE opens the session with the rights asked for that its key has; CLOSE removes it;
NOTIFY_ACK releases what has arrived. A wrong MAC, and a frame of no session, is counted and nothing else happens. A session whose answer
waits gets BUSY, and another frame waits meanwhile (R260). The timers resend or drop a NOTIFY, end idle and pending sessions and abandon
transfers; for a session that is not there, or with the Crown down, they do nothing. -/
def Obligations.SessionsServe : Prop :=
  (∀ (s t : State) (src : FrameSrc) (p : Peer) (f : List Byte), Arrives s src p f t → fOp f = 1 →
    (∀ y ∈ t.crown.sessions, y.waitingAnswer = false) →
    let b := fBody f
    let refused (st : Nat) : State := (t.bump 0x1210 3).copSend p (copFrame 1 1 st 0 0 [] [])
    let same (x : Session) : Bool := !x.isOpen && x.peer.sameKind p && x.openBody.take 16 == b.take 16
    let sound : Prop := fMac f = zeros 16 ∧ fSession f = 0 ∧ fSeq f = 0 ∧ b.length = 96 ∧ zeroAt b 0x52 14 = true ∧
      rdLe b 0x50 1 ≤ 15 ∧ rdLe b 0x51 1 ≤ 1
    (fMac f ≠ zeros 16 ∨ fSession f ≠ 0 → exec (.openSession src) s = .next (t.bump 0x1210 4)) ∧
    (fMac f = zeros 16 → fSession f = 0 → ¬ sound → exec (.openSession src) s = .next t) ∧
    (sound → ∀ x, t.crown.sessions.find? same = some x →
      exec (.openSession src) s = .next (t.copSend p (copFrame 1 1 0 x.id 0 x.challenge []))) ∧
    (sound → t.crown.sessions.find? same = none → 8 ≤ t.crown.sessions.length →
      exec (.openSession src) s = .next (refused cBusy)) ∧
    (sound → t.crown.sessions.find? same = none → t.crown.sessions.length < 8 → t.blobGet 0xA100 1 = [] →
      (p ≠ .mailbox ∨ t.modState ≠ stQuiet) → exec (.openSession src) s = .next (refused cRights)) ∧
    (sound → t.crown.sessions.find? same = none → t.crown.sessions.length < 8 →
      (t.blobGet 0xA100 1 ≠ [] ∨ (p = .mailbox ∧ t.modState = stQuiet)) → ∃ x : Session,
        x.id ≠ 0 ∧ t.session x.id = none ∧ x.isOpen = false ∧ x.openBody = b ∧ x.peer = p ∧ x.rights = 0 ∧ x.lastSeq = 0 ∧
        let cr : Crown := { t.crown with sessions := t.crown.sessions ++ [x] }
        exec (.openSession src) s =
          .next (State.copSend { t with free := t.free + 3, crown := cr } p (copFrame 1 1 0 x.id 0 x.challenge [])))) ∧
  (∀ (s t : State) (src : FrameSrc) (p : Peer) (f : List Byte), Arrives s src p f t → fOp f = 1 →
    (∃ y ∈ t.crown.sessions, y.waitingAnswer = true) →
    (∀ a q d g, src = .field a q d g → exec (.openSession src) s = .next (s.waitFrame a q f)) ∧
    (src = .mailbox → exec (.openSession src) s = .next s)) ∧
  (∀ (s t : State) (src : FrameSrc) (x : Session) (p : Peer) (f : List Byte), Arrives s src p f t → OfSession t x p f →
    x.isOpen = false → fOp f = 2 →
    let u := t.sesMod x.id (fun y => { y with peer := p })
    let proved : Prop := (fBody f).length = 64 ∧
      edVerify x.key (ascii "KRV COP prove" ++ x.openBody ++ x.challenge) (fBody f) = true
    let allowed : Option Nat := if u.blobGet 0xA100 1 = [] then (if p = .mailbox ∧ u.modState = stQuiet then some 15 else none)
      else u.keyRights x.key
    (fSeq f ≠ 1 → exec (.prove src) s = .next (u.answer x p f cBadSeq)) ∧
    (fSeq f = 1 → (¬ proved ∨ allowed = none) → exec (.prove src) s = .next ((u.bump 0x1210 3).dropSession x.id)) ∧
    (fSeq f = 1 → proved → ∀ k, allowed = some k → x.want &&& k = 0 →
      exec (.prove src) s = .next (((u.bump 0x1210 3).answer x p f cRights).dropSession x.id)) ∧
    (fSeq f = 1 → proved → ∀ k, allowed = some k → x.want &&& k ≠ 0 →
      let r := x.want &&& k
      let y : Session := { x with isOpen := true, peer := p, rights := r, notify := x.notify && Nat.testBit r 0 }
      let body := toLe 1 r ++ toLe 1 (if x.notify then 1 else 0) ++ toLe 2 p.limit ++ toLe 4 (u.odGet 0x1200 6) ++ zeros 8
      exec (.prove src) s = .next (State.reply y p f
        { st := (u.bump 0x1210 2).sesMod x.id (fun _ => y), status := cOk, body := body, after := .done }))) ∧
  (∀ (s u : State) (src : FrameSrc) (x : Session) (p : Peer) (f : List Byte), Requests s src u x p f → fOp f = 3 → fBody f = [] →
    ∃ t, exec (.copClose src) s = .next t ∧ t = State.reply x p f { st := u, status := cOk, body := [], after := .close } ∧
      t.session x.id = none ∧ t.mem = s.mem ∧ t.pinions = s.pinions) ∧
  (∀ (s t : State) (src : FrameSrc) (x : Session) (p : Peer) (f : List Byte), Arrives s src p f t → OfSession t x p f →
    x.isOpen = true → fOp f = 0x21 → (fBody f).length = 4 →
    exec (.notifyAck src) s = .next (State.notifyFlush ((t.sesMod x.id (fun y => { y with peer := p })).sesMod x.id
      (fun y => { y with sent := y.sent.filter (fun n => decide (leNat (fBody f) < n.nseq)) })))) ∧
  (∀ (s t : State) (src : FrameSrc) (x : Session) (p : Peer) (f : List Byte), Arrives s src p f t → fOp f = 0x10 →
    t.session (fSession f) = some x → x.peer.sameKind p = true → macOk x.keyIn f = true → x.isOpen = true → x.waitingAnswer = true →
    exec (.read src) s = .next ((t.sesMod x.id (fun y => { y with peer := p })).answer x p f cBusy)) ∧
  (∀ (s t : State) (src : FrameSrc) (p : Peer) (f : List Byte), Arrives s src p f t → fOp f = 0x10 →
    t.session (fSession f) = none → exec (.read src) s = .next (t.bump 0x1210 4)) ∧
  (∀ (s : State) (c : FrameSrc → Instr), c ∈ [Instr.openSession, .prove, .copClose, .read, .write, .readMulti, .writeMulti, .blobBegin,
      .blobSeg, .blobEnd, .notifyAck, .arm, .run, .hold, .release, .quiesce, .warmReset, .forceFault, .takeover, .fence, .retire, .readmit,
      .ftSet, .beatTable, .beatEntry, .layout, .roster, .programManifest, .retireMap, .operatorKeys, .jobKey, .fwImage, .fwActivate,
      .rollbackCommit, .debugToken, .debugScope, .hbmBistStart, .prbsMode, .debugChallenge, .attestReport, .accImage] →
    s.crownUp = false → ∀ src, exec (c src) s = .next s) ∧
  (∀ (s t : State) (src : FrameSrc) (x : Session) (p : Peer) (f : List Byte), Arrives s src p f t → fOp f = 0x10 →
    t.session (fSession f) = some x → macOk x.keyIn f = false → exec (.read src) s = .next (t.bump 0x1210 4)) ∧
  (∀ (s : State) (id n : Nat), s.crown.down = true ∨ s.session id = none →
    exec (.notifyResend id n) s = .next s ∧ exec (.sessionIdle id) s = .next s ∧ exec (.pendingSessionExpiry id) s = .next s ∧
      (s.crown.down = true → exec (.blobAbandon id) s = .next s)) ∧
  ∀ (s : State) (x : Session), s.crown.down = false → s.session x.id = some x →
    (∀ q, x.sent.find? (fun m => m.nseq == q) = none → exec (.notifyResend x.id q) s = .next s) ∧
    (∀ n, x.sent.find? (fun m => m.nseq == n.nseq) = some n → n.resends < 8 →
      let again (m : NSent) : NSent := if m.nseq = n.nseq then { m with resends := m.resends + 1 } else m
      exec (.notifyResend x.id n.nseq) s =
        .next ((s.sesMod x.id (fun y => { y with sent := y.sent.map again })).copSend x.peer n.frame)) ∧
    (∀ n, x.sent.find? (fun m => m.nseq == n.nseq) = some n → 8 ≤ n.resends →
      exec (.notifyResend x.id n.nseq) s = .next ((s.sesMod x.id (fun y => { y with
        sent := y.sent.filter (fun m => m.nseq != n.nseq), lost := true })).bumpBy 0x1210 5 (rdLe n.frame 16 1))) ∧
    (x.isOpen = true → exec (.sessionIdle x.id) s = .next (s.dropSession x.id)) ∧
    (x.isOpen = false → exec (.pendingSessionExpiry x.id) s = .next (s.dropSession x.id)) ∧
    (s.dropSession x.id).session x.id = none ∧
    exec (.blobAbandon x.id) s = .next (s.sesMod x.id (fun y => { y with blob := none }))

/-- Requests (R269, R277, R279, R280): a READ gives the entry's value, a READ_MULTI the values of one state, a WRITE is applied if its checks
pass and changes nothing otherwise, a WRITE_MULTI wholly or not at all; a BLOB transfer moves the bytes of a snapshot, or collects a value
that BLOB_END applies. A repeated SEQ is answered again without being executed, any other one with BAD_SEQ. Reads that have a command of
their own: the debug challenge is drawn anew (R317), the attestation report is built for the session (R315), and the accumulators of the
selected tile are shown under the unlock of R89. -/
def Obligations.RequestsServe : Prop :=
 ((∀ (s u : State) (src : FrameSrc) (x : Session) (p : Peer) (f : List Byte), Requests s src u x p f →
    let b := fBody f
    let answered (st : State) (status : Nat) (body : List Byte) : State :=
      State.reply x p f { st := st, status := status, body := body, after := .done }
    (∀ i k, fOp f = 0x10 → b = copItem i k 0 0 [] → i < 65536 → k < 256 →
      let r := u.odRead x.rights x.id (x.openBody.take 16) i k
      (r.2.1 = cOk → r.2.2.2.length ≤ 1024 →
        exec (.read src) s = .next (answered r.1 cOk (copItem i k r.2.2.1.typ cOk r.2.2.2))) ∧
      (r.2.1 = cOk → 1024 < r.2.2.2.length → exec (.read src) s = .next (answered u cTooLarge (copItem i k 0 cTooLarge []))) ∧
      (r.2.1 ≠ cOk → exec (.read src) s = .next (answered r.1 r.2.1 (copItem i k 0 r.2.1 [])))) ∧
    (fOp f = 0x10 → (∀ i, bodyItems 0x10 b ≠ some [i]) → exec (.read src) s = .next (State.reply x p f u.openRefusal)) ∧
    (fOp f = 0x12 → rdLe b 0 1 = 0 ∨ 64 < rdLe b 0 1 → exec (.readMulti src) s = .next (answered u cRange [])) ∧
    (∀ l, fOp f = 0x12 → 1 ≤ rdLe b 0 1 → rdLe b 0 1 ≤ 64 → bodyItems 0x12 b = some l →
      let r := l.foldl (fun (a : State × List Byte) i =>
        let q := a.1.odRead x.rights x.id (x.openBody.take 16) i.index i.sub
        if q.2.1 ≠ cOk then (q.1, a.2 ++ copItem i.index i.sub 0 q.2.1 [])
        else if 1024 < q.2.2.2.length then (a.1, a.2 ++ copItem i.index i.sub 0 cTooLarge [])
        else (q.1, a.2 ++ copItem i.index i.sub q.2.2.1.typ cOk q.2.2.2)) (u, [])
      (40 + r.2.length ≤ p.limit → exec (.readMulti src) s = .next (answered r.1 cOk (toLe 1 l.length ++ zeros 7 ++ r.2))) ∧
      (p.limit < 40 + r.2.length → exec (.readMulti src) s = .next (answered u cTooLarge []))) ∧
    (∀ i k typ v, fOp f = 0x11 → b = copItem i k typ 0 v → v.length ≤ 1024 → i < 65536 → k < 256 → typ < 256 → (i = 0x1010 → k ≠ 2) →
      ((i, k) ≠ (0xA300, 2)) →
      let c := u.odCheck x.rights p.isField i k (some typ) v
      (c.2 = cOk → exec (.write src) s =
        .next (written x p f i k typ ((c.1.odAttempt i k cOk v).odApply [(i, k, v)]) cOk .done)) ∧
      (c.2 ≠ cOk → exec (.write src) s = .next (written x p f i k typ (c.1.odAttempt i k c.2 v) c.2 .done))) ∧
    (fOp f = 0x13 → rdLe b 0 1 = 0 ∨ 64 < rdLe b 0 1 → exec (.writeMulti src) s = .next (answered u cRange [])) ∧
    (∀ l, fOp f = 0x13 → 1 ≤ rdLe b 0 1 → rdLe b 0 1 ≤ 64 → bodyItems 0x13 b = some l → (∃ i ∈ l, 1024 < i.value.length) →
      exec (.writeMulti src) s = .next (answered u cTooLarge [])) ∧
    (∀ l, fOp f = 0x13 → 1 ≤ rdLe b 0 1 → rdLe b 0 1 ≤ 64 → bodyItems 0x13 b = some l → (∀ i ∈ l, i.value.length ≤ 1024) →
      (∀ i ∈ l, i.isCmd = false ∧ (i.index, i.sub) ≠ (0xA300, 2)) →
      let c := u.checkItems x.rights p.isField true l
      (∀ st, c.2.find? (· ≠ cOk) = some st → exec (.writeMulti src) s =
        .next (answered (c.1.attemptItems l c.2) st (b.take 8 ++ State.writtenBody l c.2))) ∧
      (c.2.find? (· ≠ cOk) = none → exec (.writeMulti src) s = .next (answered
        ((c.1.attemptItems l c.2).odApply (l.map (fun i => (i.index, i.sub, i.value)))) cOk (b.take 8 ++ State.writtenBody l c.2)))) ∧
    (fOp f = 0x18 → b.length = 8 → x.blob = none →
      let i := rdLe b 0 2
      let k := rdLe b 2 1
      let start (t : State) (z : BlobXfer) : State := t.sesMod x.id (fun y => { y with blob := some z })
      (rdLe b 3 1 = 0 → rdLe b 4 4 = 0 →
        let r := u.odRead x.rights x.id (x.openBody.take 16) i k
        let z : BlobXfer := { index := i, sub := k, writing := false, total := r.2.2.2.length, snapshot := r.2.2.2, segs := [] }
        (r.2.1 = cOk → exec (.blobBegin src) s =
          .next (answered (start r.1 z) cOk (toLe 4 r.2.2.2.length ++ toLe 4 (crc32c r.2.2.2)))) ∧
        (r.2.1 ≠ cOk → exec (.blobBegin src) s = .next (answered r.1 r.2.1 []))) ∧
      (rdLe b 3 1 = 1 →
        let z : BlobXfer := { index := i, sub := k, writing := true, total := rdLe b 4 4, snapshot := [], segs := [] }
        let taken := u.crown.sessions.any (fun y => y.id != x.id && y.blob.any (fun t => t.writing && t.index == 0xA300 && t.sub == 1))
        ((i, k) ≠ (0xA300, 1) ∨ taken = false →
          exec (.blobBegin src) s = .next (answered (start u z) cOk (toLe 4 (rdLe b 4 4) ++ zeros 4))) ∧
        ((i, k) = (0xA300, 1) → taken = true → exec (.blobBegin src) s = .next (answered u cBusy [])))) ∧
    (fOp f = 0x18 → b.length = 8 → rdLe b 3 1 ≤ 1 → (rdLe b 3 1 = 0 → rdLe b 4 4 = 0) → x.blob.isSome = true →
      exec (.blobBegin src) s = .next (answered u cBusy [])) ∧
    (fOp f = 0x19 → 8 ≤ b.length → zeroAt b 6 2 = true → x.blob = none → exec (.blobSeg src) s = .next (answered u cBlobOrder [])) ∧
    (fOp f = 0x1A → b.length = 4 → x.blob = none → exec (.blobEnd src) s = .next (answered u cBlobOrder [])) ∧
    (∀ z, fOp f = 0x19 → 8 ≤ b.length → zeroAt b 6 2 = true → x.blob = some z → rdLe b 4 2 ≤ p.segment →
      (z.writing = false → b.length = 8 → rdLe b 0 4 + rdLe b 4 2 ≤ z.total → exec (.blobSeg src) s =
        .next (answered u cOk (b.take 8 ++ slice z.snapshot (rdLe b 0 4) (rdLe b 4 2)))) ∧
      (z.writing = true → b.length = 8 + rdLe b 4 2 → rdLe b 0 4 + rdLe b 4 2 ≤ z.total → exec (.blobSeg src) s =
        .next (answered (u.sesMod x.id (fun y => { y with blob := some { z with segs := z.segs ++ [(rdLe b 0 4, b.drop 8)] } })) cOk
          (b.take 8))) ∧
      (b.length = (if z.writing then 8 + rdLe b 4 2 else 8) → z.total < rdLe b 0 4 + rdLe b 4 2 →
        exec (.blobSeg src) s = .next (answered u cBlobOrder []))) ∧
    (∀ z, fOp f = 0x19 → 8 ≤ b.length → zeroAt b 6 2 = true → x.blob = some z → p.segment < rdLe b 4 2 →
      b.length = (if z.writing then 8 + rdLe b 4 2 else 8) → exec (.blobSeg src) s = .next (answered u cTooLarge [])) ∧
    (∀ z, fOp f = 0x1A → b.length = 4 → x.blob = some z → z.writing = true → z.complete (leNat b) = none →
      exec (.blobEnd src) s = .next (answered (u.sesMod x.id (fun y => { y with blob := none })) cBlobOrder [])) ∧
    (∀ z, fOp f = 0x1A → b.length = 4 → x.blob = some z → z.writing = false →
      exec (.blobEnd src) s = .next (answered (u.sesMod x.id (fun y => { y with blob := none })) cOk []))) ∧
  (∀ (s u : State) (src : FrameSrc) (x : Session) (p : Peer) (f : List Byte) (i k : Nat) (v : List Byte),
    EndsTransfer s src u x p f i k v → (i = 0x1010 → k ≠ 2) → (i, k) ≠ (0xA300, 2) → exec (.blobEnd src) s = .next
      (State.reply x p f { st := (u.odAttempt i k cOk v).odApply [(i, k, v)], status := cOk, body := [], after := .done })) ∧
  ∀ (s t : State) (src : FrameSrc) (x : Session) (p : Peer) (f : List Byte), Arrives s src p f t → OfSession t x p f →
    x.isOpen = true → fOp f = 0x11 →
    let u := t.sesMod x.id (fun y => { y with peer := p })
    (fSeq f = x.lastSeq → exec (.write src) s = .next (u.copSend p x.lastAnswer)) ∧
    (fSeq f ≠ x.lastSeq → fSeq f ≠ (x.lastSeq + 1) % 2 ^ 32 → exec (.write src) s = .next (u.answer x p f cBadSeq))) ∧
 (∀ (s u : State) (src : FrameSrc) (x : Session) (p : Peer) (f : List Byte), Requests s src u x p f → fOp f = 0x10 →
    Nat.testBit x.rights 0 = true →
    let answered (st : State) (body : List Byte) : State :=
      State.reply x p f { st := st, status := cOk, body := body, after := .done }
    let tb (c : List Byte) : TestBlk := { u.test with challenge := c }
    (fBody f = copItem 0xA500 1 0 0 [] → ∃ chal : List Byte, chal.length = 32 ∧ exec (.debugChallenge src) s = .next (answered
      { u with free := u.free + 1, test := tb chal } (copItem 0xA500 1 12 cOk chal))) ∧
    (fBody f = copItem 0xA020 1 0 0 [] → exec (.attestReport src) s = .next (answered u
      (copItem 0xA020 1 12 cOk (u.attestReport x.id (x.openBody.take 16))))) ∧
    (fBody f = copItem 0xF201 1 0 0 [] → u.accReadable = true → exec (.accImage src) s = .next (answered u
      (copItem 0xF201 1 12 cOk (padTo 1024 (u.selTile.acc.flatMap (fun w => toLe 4 w.toNat))))))  ∧
    (fBody f = copItem 0xF201 1 0 0 [] → u.accReadable = false → exec (.accImage src) s =
      .next (State.reply x p f { st := u, status := cAccess, body := copItem 0xF201 1 0 cAccess [], after := .done })))

/-- The commands of OD 0x1010.02 (R264 to R268, Table 11.3), written in a state that allows them while no stop is under way: one that a check
of Table 11.4 refuses leaves its reason and is answered REFUSED; the others act, and QUIESCE and TAKEOVER are answered on entry into
QUIET, TAKEOVER beginning a change of roles (R6). While a stop is under way all but WARM_RESET and FORCE_FAULT wait (R263). -/
def Obligations.CommandsRun : Prop :=
  (∀ (s u : State) (src : FrameSrc) (x : Session) (p : Peer) (f : List Byte) (typ : Nat) (v : List Byte),
    WritesEntry s src u x p f 0x1010 2 typ v →
    let ends (c : Instr) (t : State) (status : Nat) (after : After) : Prop :=
      exec c s = .next (written x p f 0x1010 2 typ t status after)
    let wait (t : State) : After := if t.siteStopping then .pend else .done
    (leNat v = 6 → ends (.warmReset src) u cOk (.resets [5])) ∧
    (leNat v = 7 → ends (.forceFault src) (u.enterFaulted 7 0) cOk .done) ∧
    (u.siteStopping = false →
      (leNat v = 1 → u.armReason = 0 → ends (.arm src) u.armDo cOk .done) ∧
      (leNat v = 1 → u.armReason ≠ 0 → ends (.arm src) (u.cmdRefused u.armReason) cRefused .done) ∧
      (leNat v = 2 → 2 ≤ u.odGet 0x4010 1 → ends (.run src) u.enterRunning cOk .done) ∧
      (leNat v = 2 → u.odGet 0x4010 1 ≤ 1 → ends (.run src) (u.odSet 0x1010 3 8) cRefused .done) ∧
      (leNat v = 3 → ends (.hold src) (u.setModState stHeld) cOk .done) ∧
      (leNat v = 4 → ends (.release src) u.enterRunning cOk .done) ∧
      (leNat v = 5 → ends (.quiesce src) u.quiesceDo cOk (wait u.quiesceDo)) ∧
      (leNat v = 8 → Nat.testBit u.ownRoles 2 = true →
        let w := State.quiesceDo { u with roleChange := true }
        ends (.takeover src) w cOk (wait w)) ∧
      (leNat v = 8 → Nat.testBit u.ownRoles 2 = false → ends (.takeover src) (u.odSet 0x1010 3 9) cRefused .done)) ∧
    (u.siteStopping = true → ∀ (c : FrameSrc → Instr) (k : Nat), (c, k) ∈ [(Instr.arm, 1), (.run, 2), (.hold, 3), (.release, 4),
        (.quiesce, 5), (.takeover, 8)] → leNat v = k →
      (∀ a q d g, src = .field a q d g → exec (c src) s = .next (s.waitFrame a q f)) ∧ (src = .mailbox → exec (c src) s = .next s))) ∧
  (∀ st, (State.cmdAllowed 1 st = true ↔ st = stQuiet) ∧ (State.cmdAllowed 2 st = true ↔ st = stArmed) ∧ (State.cmdAllowed 3 st = true ↔ st = stRunning) ∧
    (State.cmdAllowed 4 st = true ↔ st = stHeld) ∧ (State.cmdAllowed 5 st = true ↔ st = stArmed ∨ st = stRunning ∨ st = stHeld) ∧
    (State.cmdAllowed 6 st = true ↔ stBoot ≤ st) ∧ (State.cmdAllowed 7 st = true ↔ stQuiet ≤ st ∧ st ≤ stHeld) ∧
    (State.cmdAllowed 8 st = true ↔ st = stArmed ∨ st = stRunning ∨ st = stHeld)) ∧
  ∀ s : State, s.armDo.modState = stArmed ∧ s.armDo.test.ir = .testLogicReset ∧ s.armDo.uqNext = [] ∧ s.armDo.qWait = [] ∧
    s.armDo.roleChange = false ∧ s.armDo.stopSent = false ∧
    (s.restart = none → s.armDo.mem = s.mem ∧ s.armDo.pinions = s.pinions ∧
      ∀ k < 32, (s.armDo.sync (s.odGet 0x3200 2 + k)).count = 0)

/-- Each entry that a command of its own writes (FENCE to PRBS_MODE): an accepted WRITE, or the BLOB_END of a transfer, applies it and is
answered; the last clauses say what that does. FW_ACTIVATE is followed by its warm reset (R312). -/
def Obligations.EntriesWritten : Prop :=
  let rows : List ((FrameSrc → Instr) × Nat × Nat × Option Nat) :=
    [(.fence, 0x9200, 2, some 1), (.retire, 0x9200, 2, some 2), (.readmit, 0x9200, 2, some 3), (.ftSet, 0x4000, 2, none),
     (.beatTable, 0x4300, 1, none), (.beatEntry, 0x4301, 2, none), (.layout, 0x2010, 2, none), (.roster, 0x6001, 1, none),
     (.programManifest, 0x1300, 1, none), (.retireMap, 0x9400, 1, none), (.operatorKeys, 0xA100, 1, none), (.jobKey, 0xA200, 1, none),
     (.fwImage, 0xA300, 1, none), (.rollbackCommit, 0xA300, 4, none), (.debugToken, 0xA500, 2, none), (.debugScope, 0xA500, 3, some 0),
     (.hbmBistStart, 0xF320, 1, none), (.prbsMode, 0xF310, 2, none)]
  (∀ (c : FrameSrc → Instr) (i k : Nat) (n : Option Nat), (c, i, k, n) ∈ rows →
    ∀ (s u : State) (src : FrameSrc) (x : Session) (p : Peer) (f : List Byte) (v : List Byte), valueIs n v = true →
    (∀ typ, WritesEntry s src u x p f i k typ v → exec (c src) s =
      .next (written x p f i k typ ((u.odAttempt i k cOk v).odApply [(i, k, v)]) cOk .done)) ∧
    (EndsTransfer s src u x p f i k v → exec (c src) s = .next
      (State.reply x p f { st := (u.odAttempt i k cOk v).odApply [(i, k, v)], status := cOk, body := [], after := .done }))) ∧
  (∀ (s u : State) (src : FrameSrc) (x : Session) (p : Peer) (f : List Byte) (typ : Nat) (v : List Byte),
    WritesEntry s src u x p f 0xA300 2 typ v → exec (.fwActivate src) s =
      .next (written x p f 0xA300 2 typ (u.odApply [(0xA300, 2, v)]) cOk (.resets [9]))) ∧
  (∀ (c : FrameSrc → Instr) (i k : Nat) (n : Option Nat), (c, i, k, n) ∈ rows →
    ∀ (s t : State) (src : FrameSrc) (p : Peer) (f : List Byte), Arrives s src p f t → writesEntry i k n s f = true →
    exec (c src) s = if fOp f = 0x11 then exec (.write src) s else if fOp f = 0x13 then exec (.writeMulti src) s
      else exec (.blobEnd src) s) ∧
  (∀ (s : State) (i k : Nat) (v : List Byte), State.drivenChanged s (s.odDo i k v) = [] → s.odApply [(i, k, v)] = s.odDo i k v) ∧
  ∀ (s : State) (v : List Byte),
    s.odDo 0x4000 2 v = s.ftWritten (leNat v) ∧ s.odDo 0x4300 1 v = writeTable s v ∧
    s.odDo 0x4301 2 v = writeBeat s (s.odGet 0x4301 1) v ∧ s.odDo 0x6001 1 v = s.rosterWritten v ∧
    s.odDo 0x1300 1 v = ((s.blobSet 0x1300 1 v).blobSet 0x1300 2 (sha512 v)).odSet 0x1300 3 (rdLe v 8 4) ∧
    s.odDo 0x2010 2 v = (s.blobSet 0x2010 2 v).layoutWritten ∧
    s.odDo 0x9400 1 v = (if s.blobGet 0x9400 1 = v then s else (s.blobSet 0x9400 1 v).notify 0x9400 1) ∧
    s.odDo 0xA100 1 v = s.blobSet 0xA100 1 v ∧ s.odDo 0xA200 1 v = (s.blobSet 0xA200 1 v).odSet 0xA200 2 1 ∧
    s.odDo 0xA300 1 v = s.fwStore v ∧ s.odDo 0xA300 4 v = s.fwCommit ∧ s.odDo 0xA500 2 v = s.unlock v ∧
    s.odDo 0xA500 3 v = State.odSet { s with test := { s.test with debugSecs := 0 } } 0xA500 3 0 ∧
    s.odDo 0xF320 1 v = s.startBist (leNat v) ∧ s.odDo 0xF310 2 v = s.prbsWritten (leNat v) ∧
    (s.bezelCheck (s.odGet 0x9200 1) (leNat v) = 0 → s.odDo 0x9200 2 v = s.bezelDo (s.odGet 0x9200 1) (leNat v)) ∧
    (∀ k, s.store.verified = some k → s.odDo 0xA300 2 v = s.ctlWrite (fun c => { c with preferred := k, trial := true }))

/-- What the anchor does with a complete contribution (R227, R228, R231): it takes it from the inbox, judges it once, keeps it or rejects it
with the first reason of Table 9.7, of two of one site keeping the later and rejecting the other as DUPLICATE, and publishes once every site
is judged; an uncorrectable error in it is fatal (R136). A keeper of another site leaves it. At the deadline of a round the anchor
publishes what it has, counting a round with a site missing, once; before it, or once it is closed, nothing happens. -/
def Obligations.ContributionsJudged : Prop :=
  (∀ (s s1 : State) (site : Nat) (m : InMsg),
    (s.isAnchor = false → exec (.contribMessage site) s = .next s) ∧
    (s.inboxTake site 1 = none → exec (.contribMessage site) s = .next s) ∧
    (s.isAnchor = true → s.inboxTake site 1 = some (m, s1) →
      let shard := dhShard m.hdr
      let r := dhRound m.hdr
      let line := if m.bytes = [] then s1.wrongLine [(m.addr, dhLen m.hdr)] else none
      (∀ a, line = some a → exec (.contribMessage site) s = .next (s1.eccFault a)) ∧
      (line = none → exec (.contribMessage site) s =
        .next (if (s1.judge m).allJudged shard r then (s1.judge m).publishRound shard r else s1.judge m)))) ∧
  (∀ (s s1 : State) (site kind : Nat) (m : InMsg), s.inboxTake site kind = some (m, s1) → m ∈ s.outer.inbox ∧ m.site = site ∧
    dhKind m.hdr = kind ∧ s1.outer.inbox.length + 1 = s.outer.inbox.length ∧ s1.mem = s.mem ∧ s1.od = s.od ∧ s1.pinions = s.pinions) ∧
  (∀ (s : State) (m : InMsg),
    let shard := dhShard m.hdr
    let r := dhRound m.hdr
    let b := s.inMsgBytes m
    let seen : State := s.outerMod (fun o => { o with judged := (shard, r, m.site) :: o.judged })
    let held := s.outer.cands.find? (fun x => x.shard == shard && x.round == r && x.site == m.site)
    (∀ why, s.judgeReason m.site m.hdr b = some why →
      s.judge m = seen.rejectContrib m.site why shard r (dhBase m.hdr) (dhStamp m.hdr)) ∧
    (s.judgeReason m.site m.hdr b = none → held = none →
      m.bytes = [] → ∃ c : Cand, c.shard = shard ∧ c.round = r ∧ c.site = m.site ∧ c.base = dhBase m.hdr ∧ c.stamp = dhStamp m.hdr ∧
        c.norm = rdLe b 0x20 8 ∧ c.digest = foldDigest s b ∧ c.addr = m.addr ∧ c.len = b.length ∧
        s.judge m = seen.outerMod (fun o => { o with cands := c :: o.cands })) ∧
    (∀ old, s.judgeReason m.site m.hdr b = none → held = some old →
      let newer : Prop := old.stamp < dhStamp m.hdr ∨ (old.stamp = dhStamp m.hdr ∧ old.base < dhBase m.hdr)
      (¬ newer → s.judge m = seen.rejectContrib m.site 6 shard r (dhBase m.hdr) (dhStamp m.hdr)) ∧
      (newer → m.bytes = [] → ∃ c : Cand, c.site = m.site ∧ c.base = dhBase m.hdr ∧ c.stamp = dhStamp m.hdr ∧ c.addr = m.addr ∧
        s.judge m = State.rejectContrib (seen.outerMod (fun o => { o with cands := c :: o.cands.filter (· ≠ old) })) m.site 6 shard r
          old.base old.stamp)) ∧
    (s.formBad m.site m.hdr b = true → s.judgeReason m.site m.hdr b = some 1) ∧
    (s.formBad m.site m.hdr b = false → (s.manifestOf shard r).isSome = true → s.judgeReason m.site m.hdr b = some 2)) ∧
  ∀ (s : State) (round : Nat),
    (s.roundFt 3 round = none → exec (.roundDeadline round) s = .next s) ∧
    ∀ c : Int, s.roundFt 3 round = some c →
    let due : Prop := s.isAnchor = true ∧ round ∉ s.outer.closed ∧ s.time.ft ≠ ftUnset ∧ c + 1000000 * (s.odGet 0x7010 1 : Int) ≤ s.time.ft
    (due →
      let shards := s.keptShards.map (·.1)
      let counted := if shards.any (fun k => !s.allJudged k round) then s.bump 0x7010 2 else s
      exec (.roundDeadline round) s = .next ((shards.foldl (fun a k => a.publishRound k round) counted).outerMod
        (fun o => { o with closed := round :: o.closed }))) ∧
    (¬ due → exec (.roundDeadline round) s = .next s)

/-- Manifests, requests and notices at a keeper (R232, R234 to R237, R241): a manifest that passes R232 is adopted and its lacks are sought,
any other counted; a request is answered with the data or GONE, an error in the data being fatal (R136); a fetched base that is right is
installed, one that is not is asked for again, and then the next request goes; a rejection resolves the seal, NONFINITE and NORM drop the
own delta, STALE drops it with the base it fetches, GONE fetches the base. An outstanding request is sent again at its retry. With no such
message nothing changes. -/
def Obligations.KeepersExchange : Prop :=
  (∀ (s : State) (site : Nat), (s.inboxTake site 2 = none → exec (.manifest site) s = .next s) ∧
    (s.inboxTake site 3 = none → exec (.baseReq site) s = .next s) ∧ (s.inboxTake site 4 = none → exec (.baseData site) s = .next s) ∧
    (s.inboxTake site 5 = none → exec (.rejectNotice site) s = .next s)) ∧
  (∀ (s s1 : State) (site : Nat) (m : InMsg), s.inboxTake site 2 = some (m, s1) →
    let b := s1.inMsgBytes m
    let u := s1.takeManifest b
    let slot := (u.inPlace m.site m.hdr).bind (fun q => q.1)
    (s1.manifestOk b = true → slot = none → exec (.manifest site) s = .next (u.seek (mnShard b))) ∧
    (s1.manifestOk b = true → ∀ k, slot = some k →
      ((u.kslot k).hdr = m.hdr → exec (.manifest site) s = .next ((u.setKslot k { u.kslot k with checked := true }).seek (mnShard b))) ∧
      ((u.kslot k).hdr ≠ m.hdr → exec (.manifest site) s = .next (u.seek (mnShard b)))) ∧
    (s1.manifestOk b = false → ∃ t, exec (.manifest site) s = .next t ∧ t.odGet 0x7500 4 = (s.odGet 0x7500 4 + 1) % 2 ^ 64 ∧
      t.outer.published = s.outer.published ∧ t.mem = s.mem ∧ t.pinions = s.pinions ∧ t.syncs = s.syncs)) ∧
  (∀ (s s1 : State) (site : Nat) (m : InMsg), s.inboxTake site 3 = some (m, s1) →
    let b := m.bytes
    let shard := rdLe b 4 4
    let round := rdLe b 8 4
    let reads := if rdLe b 0 1 = 1 then (s1.planTensors shard).flatMap (fun t =>
      [(t.hdr, 64 + shBytes (s1.shard t.hdr)), (t.mom, s1.momLen t)]) else []
    (∀ a, s1.wrongLine reads = some a → exec (.baseReq site) s = .next (s1.eccFault a)) ∧
    (∀ bytes, s1.wrongLine reads = none → answerOf s1 (rdLe b 0 1) (rdLe b 1 1) shard round = some bytes →
      exec (.baseReq site) s = .next (s1.handOver site (dataHeader 4 s1.smn shard round 0 s1.time.ft bytes.length) bytes)) ∧
    (s1.wrongLine reads = none → answerOf s1 (rdLe b 0 1) (rdLe b 1 1) shard round = none → ∃ base stamp, exec (.baseReq site) s =
      .next (State.sendNotice { s1 with free := s1.free + 2 } site shard round 0 (State.noticeBody (rdLe b 1 1) 8 shard round base stamp)))) ∧
  (∀ (s s1 : State) (site : Nat) (m : InMsg), s.inboxTake site 4 = some (m, s1) →
    (s1.outer.fetch = none → exec (.baseData site) s = .next s1) ∧
    ∀ f : Fetch, s1.outer.fetch = some f →
    let b := s1.inMsgBytes m
    let done : State := s1.nextWanted
    let gs := baseGroups b (rdLe b 6 2) 64
    let asked : Prop := f.asked = site ∧ dhShard m.hdr = f.shard
    let isBase : Prop := f.req = 1 ∧ rdLe b 0 4 = magicBase ∧ rdLe b 8 4 = f.shard
    let isContrib : Prop := f.req = 2 ∧ rdLe b 0 4 = magicCtrb
    let isManifest : Prop := f.req = 3 ∧ rdLe b 0 4 = magicMnft
    (¬ asked → exec (.baseData site) s = .next s1) ∧
    (asked → isBase →
      (baseOk s1 f.shard gs = true → exec (.baseData site) s = .next ((installBase done f b gs).seekAll)) ∧
      (baseOk s1 f.shard gs = false → exec (.baseData site) s = .next (s1.sendReq f))) ∧
    (asked → isManifest →
      (s1.manifestOk b = true → mnShard b = f.shard → exec (.baseData site) s = .next ((done.takeManifest b).seekAll)) ∧
      (s1.manifestOk b = false ∨ mnShard b ≠ f.shard → exec (.baseData site) s = .next (done.bump 0x7500 4))) ∧
    (asked → isContrib →
      (s1.manifestOf f.shard f.round = none → exec (.baseData site) s = .next done) ∧
      ∀ p, s1.manifestOf f.shard f.round = some p →
        let good := (mnContribs p.bytes).any (fun e => rdLe e 0 1 == f.origin && slice e 32 16 == foldDigest s1 b)
        (good = true → exec (.baseData site) s =
          .next ((done.keepManifest { p with contribs := (f.origin, b) :: p.contribs }).seekAll)) ∧
        (good = false → exec (.baseData site) s = .next (s1.sendReq f))) ∧
    (asked → ¬ isBase → ¬ isContrib → ¬ isManifest → exec (.baseData site) s = .next s1)) ∧
  (∀ (s s1 : State) (site : Nat) (m : InMsg), s.inboxTake site 5 = some (m, s1) →
    let b := m.bytes
    let shard := rdLe b 4 4
    let reason := rdLe b 1 1
    let counted := s1.bump 0x7300 6
    let resolved := counted.setSeals shard ((counted.sealsOf shard).filter (fun q => q.1 != rdLe b 8 4))
    (reason ≠ 8 → rdLe b 0 1 ≠ counted.ownSite → exec (.rejectNotice site) s = .next counted) ∧
    (reason = 4 ∨ reason = 5 → rdLe b 0 1 = counted.ownSite →
      exec (.rejectNotice site) s = .next ((resolved.dropDelta shard).bump 0x7300 5)) ∧
    (reason = 3 → rdLe b 0 1 = counted.ownSite → exec (.rejectNotice site) s = .next ((resolved.bump 0x7300 5).fetchBase shard false true)) ∧
    (reason ∉ [3, 4, 5, 8] → rdLe b 0 1 = counted.ownSite → exec (.rejectNotice site) s = .next resolved) ∧
    (reason = 8 → (∀ f, counted.outer.fetch = some f → f.asked ≠ site ∨ f.shard ≠ shard) →
      exec (.rejectNotice site) s = .next (counted.fetchBase shard false false)) ∧
    (∀ f, reason = 8 → counted.outer.fetch = some f → f.asked = site → f.shard = shard →
      exec (.rejectNotice site) s = .next (counted.nextWanted.fetchBase shard false false))) ∧
  ∀ (s : State) (req : Nat), (s.outer.fetch = none → exec (.fetchRetry req) s = .next s) ∧
    ∀ f : Fetch, s.outer.fetch = some f →
    (f.req = req → exec (.fetchRetry req) s = .next (s.sendReq f)) ∧ (f.req ≠ req → exec (.fetchRetry req) s = .next s)

/-- Majority and anchor (R238 to R240): a gateway regroups and sends its VIEW at the timer, keeps the VIEWs of others, endorses at most one
claimant of a term, claims the next term when the anchor is absent and it is the candidate, endorsing itself if it may, and adopts it once
more than half of the roster endorses; a claim that is not decided in time fails. An ill-formed message, one that is not for the claim
under way, and a site without a message change nothing more. -/
def Obligations.AnchorsChange : Prop :=
  (∀ s : State,
    let gathers : Prop := s.isGateway = true ∧ s.running = true ∧ s.siteCount ≠ 0
    let claims : Prop := s.isGateway = true ∧ s.running = true ∧ s.odGet 0x7600 7 = 1 ∧ s.anchorAbsent = true ∧
      s.candidate = some s.ownSite ∧ s.outer.claim = none
    let term := max (s.odGet 0x7600 2) s.outer.lastClaim + 1
    (gathers → exec .viewTimer s = .next (s.regroup).sendView) ∧
    (¬ gathers → exec .viewTimer s = .next s) ∧
    exec .claimTimeout s = .next (s.outerMod (fun o => { o with claim := none })) ∧
    (claims → s.mayEndorse term s.ownSite = true → exec .anchorTimeout s = .next (State.settleClaim
        ((s.otherSites.filter s.inGroup).foldl (fun a i => a.sendAnchor i 2 term s.ownSite 0) ((s.endorse term s.ownSite).outerMod
          (fun o => { o with lastClaim := term, claim := some { term := term, ends := [(s.ownSite, s.maxRound)] } }))))) ∧
    (claims → s.mayEndorse term s.ownSite = false → exec .anchorTimeout s = .next (State.settleClaim
        ((s.otherSites.filter s.inGroup).foldl (fun a i => a.sendAnchor i 2 term s.ownSite 0) (s.outerMod
          (fun o => { o with lastClaim := term, claim := some { term := term, ends := [] } }))))) ∧
    (¬ claims → exec .anchorTimeout s = .next s) ∧
    (claims → (s.outer.endorsed.any (fun e => e.1 == term && e.2 != s.ownSite)) = false → s.mayEndorse term s.ownSite = true)) ∧
  (∀ (s s1 : State) (site : Nat),
    (s.takeAnchor site 1 = none → exec (.view site) s = .next s) ∧ (s.takeAnchor site 2 = none → exec (.claim site) s = .next s) ∧
    (s.takeAnchor site 3 = none → exec (.endorse site) s = .next s) ∧
    (s.takeAnchor site 1 = some ([], s1) → exec (.view site) s = .next s1) ∧
    (s.takeAnchor site 2 = some ([], s1) → exec (.claim site) s = .next s1) ∧
    (s.takeAnchor site 3 = some ([], s1) → exec (.endorse site) s = .next s1)) ∧
  (∀ (s s1 : State) (site : Nat) (b : List Byte), b ≠ [] →
    (s.takeAnchor site 1 = some (b, s1) →
      let v : ViewRec := { reach := rdLe b 0x10 8, ft := sInt 64 (rdLe b 0x20 8), now := s1.time.now }
      exec (.view site) s = .next (State.regroup (State.adoptTerm (s1.outerMod (fun o => { o with
        views := fput none o.views site (some v) })) (rdLe b 6 2) (rdLe b 8 1)))) ∧
    (s.takeAnchor site 2 = some (b, s1) → s1.mayEndorse (rdLe b 6 2) site = true →
      exec (.claim site) s = .next ((s1.endorse (rdLe b 6 2) site).sendAnchor site 3 (rdLe b 6 2) site s1.maxRound)) ∧
    (s.takeAnchor site 2 = some (b, s1) → s1.mayEndorse (rdLe b 6 2) site = false → exec (.claim site) s = .next s1) ∧
    (s.takeAnchor site 3 = some (b, s1) →
      (s1.outer.claim = none → exec (.endorse site) s = .next s1) ∧
      ∀ c, s1.outer.claim = some c →
        let mine : Prop := rdLe b 6 2 = c.term ∧ rdLe b 8 1 = s1.ownSite
        let ends := (site, rdLe b 0x18 4) :: c.ends.filter (fun e => e.1 != site)
        (mine → exec (.endorse site) s = .next (State.settleClaim (s1.outerMod (fun o => { o with claim := some { c with ends := ends } })))) ∧
        (¬ mine → exec (.endorse site) s = .next s1))) ∧
  (∀ (s : State) (term site : Nat), s.mayEndorse term site = true →
    s.odGet 0x7600 7 = 1 ∧ s.anchorAbsent = true ∧ s.candidate = some site ∧
    ∀ e ∈ (s.endorse term site).outer.endorsed, e.1 = term → e.2 = site) ∧
  (∀ (s : State) (c : ClaimRec), s.outer.claim = some c →
    (s.siteCount < 2 * c.ends.length → s.odGet 0x7600 2 < c.term → c.term < 65536 →
      (s.adoptTerm c.term s.ownSite).odGet 0x7600 2 = c.term ∧ (s.adoptTerm c.term s.ownSite).odGet 0x7600 1 = s.ownSite) ∧
    (2 * c.ends.length ≤ s.siteCount → s.settleClaim = s)) ∧
  ∀ (s : State) (term anchor : Nat), term ≤ s.odGet 0x7600 2 → s.adoptTerm term anchor = s

/-- The reset sources (R285, R286, R289 to R291, R327, Table 12.5): each asserts with its cause and detail and under its class, and replaces
what is in progress; a dump under way is aborted (R305). A warm source is absorbed by a cold, thermal or power-on reset in progress, a
source by one that outranks it in the same 1 µs, and the stop of R268 by all but power-on, RST_N and WARM_RESET. While RST_N is low the
module is held, and its release begins with the rising edge; without the input it waits for the input. What a reset leaves (Table 12.6,
R290): the cause, FT and detail are recorded; HBM below the training areas survives a warm and a thermal reset and is lost in the others;
fuses, fuse map, slow tier and queue of commands stay; every entry but those kept takes its default, and the pinions, Barrels, sync
objects, beats, sessions and far peers their reset values. A power-on clears the kept entries too. That the level of RST_N and the input
hold a reset of another cause as well is DEDUCED (log 56). -/
def Obligations.ResetsAct : Prop :=
 ((∀ (s : State) (c : Instr) (cause detail : Nat) (cls : ResetCls) (power : Bool),
    let sources : List (Instr × Nat × Nat × ResetCls × Bool) :=
      [(.vdlLinkReset, 4, 0, .warm, false), (.sagReset, 2, 1, .cold, true)] ++
      (List.range 17).map (fun k => (.thermalTrip k, 7, k, .thermal, false)) ++
      [(1, 690), (2, 740), (3, 980), (4, 840)].flatMap (fun r => (List.range r.2).map (fun mv => (.railReset r.1 mv, 2, r.1 + 1, .cold, true)))
    let dumping := if s.modState = stDumping then s.odSet 0x9500 1 3 else s
    let absorbed := (s.resetting = true ∧ cls = .warm ∧ s.plat.cls ≠ .warm) ∨ s.outranked cause = true ∨ s.plat.dumpStopped = true
    (c, cause, detail, cls, power) ∈ sources →
      (¬ absorbed → exec c s = .next (dumping.doReset cause detail cls power)) ∧ (absorbed → exec c s = .next s)) ∧
  (∀ (s : State) (k : Nat), 17 ≤ k → exec (.thermalTrip k) s = .next s) ∧
  (∀ (s : State) (rail mv : Nat), rail = 0 ∨ 4 < rail ∨ [0, 690, 740, 980, 840].getD rail 0 ≤ mv → exec (.railReset rail mv) s = .next s) ∧
  (∀ s : State,
    let low : State := { s with plat := { s.plat with pinLow := true } }
    let dumping (u : State) := if s.modState = stDumping then u.odSet 0x9500 1 3 else u
    let absorbed := (s.resetting = true ∧ s.plat.cls ≠ .warm) ∨ s.outranked 3 = true
    (s.plat.pinLow = false → ¬ absorbed → exec .resetPin s = .next ((dumping low).doReset 3 1 .warm false).holdReset) ∧
    (s.plat.pinLow = false → absorbed → exec .resetPin s = .next low.holdReset) ∧
    (s.plat.pinLow = true → exec .resetPin s = .next s ∧ exec .resetPinHeld s = .next ((dumping s).doReset 3 2 .cold false)) ∧
    (s.plat.pinLow = false → exec .resetPinHeld s = .next s) ∧
    s.holdReset.plat.step = 0 ∧ s.holdReset.plat.pinHolds = true ∧ s.holdReset.plat.released = [] ∧ s.holdReset.plat.recovery = false ∧
    s.holdReset.crown = {} ∧ s.holdReset.mem = s.mem ∧
    s.holdReset.modState = (if s.plat.cls = .warm ∨ s.plat.cls = .thermal then s.modState else stCold)) ∧
  (∀ s : State, s.plat.pinHolds = true → s.plat.needPower = false → ∃ t, exec .resetPinRelease s = .next t ∧ t.modState = stBoot ∧
    t.plat.step = 1 ∧ t.plat.pinLow = false ∧ t.plat.pinHolds = false ∧ t.mem = s.mem ∧ t.odGet 0x9001 1 = s.odGet 0x9001 1) ∧
  (∀ s : State, s.plat.pinHolds = false ∨ s.plat.needPower = true → exec .resetPinRelease s = .next
    { s with plat := { s.plat with pinLow := false, pinHolds := false } }) ∧
  (∀ s : State, s.plat.needPower = true → s.plat.pinHolds = false → ∃ t, exec .powerOn s = .next t ∧ t.modState = stBoot ∧ t.plat.step = 1 ∧
    t.plat.needPower = false ∧ t.mem = s.mem ∧ t.odGet 0x9001 1 = s.odGet 0x9001 1) ∧
  (∀ s : State, s.plat.needPower = true → s.plat.pinHolds = true → exec .powerOn s = .next
    { s with plat := { s.plat with needPower := false } }) ∧
  (∀ s : State, s.plat.needPower = false → exec .powerOn s = .next s) ∧
  (∀ s : State, exec .resetDomainLoss s = .next (s.doReset 1 0 .powerOn true)) ∧
  (∀ (s : State) (cause detail : Nat) (cls : ResetCls) (power : Bool) (other : Nat), cls ≠ .powerOn →
    let rank (k : Nat) := [1, 2, 7, 3, 4, 6, 8, 5].findIdx (· == k)
    (s.doReset cause detail cls power).outranked other = decide (rank cause < rank other)) ∧
  ∀ (s : State) (cause : Nat), s.resetting = false ∨ s.plat.tripAt + 1000 ≤ s.time.now → s.outranked cause = false) ∧
 ((∀ (s : State) (cause detail : Nat) (cls : ResetCls) (power : Bool),
    let t := s.doReset cause detail cls power
    let waits := power = true ∨ s.plat.needPower = true
    t.pinions = [] ∧ t.barrels = [] ∧ t.syncs = [] ∧ t.beats = [] ∧ t.units = [] ∧ t.changes = [] ∧ t.near = [] ∧ t.crown = {} ∧ t.far = {} ∧
    t.outer = {} ∧ t.coll = {} ∧ t.time.ft = ftUnset ∧ t.slow = s.slow ∧ t.pending = s.pending ∧ t.out = s.out ∧
    t.store = { s.store with verified := none } ∧ t.plat.released = [] ∧ t.plat.sensors = s.plat.sensors ∧
    (t.plat.needPower = true ↔ waits) ∧ t.plat.pinLow = s.plat.pinLow ∧ t.plat.step = (if waits ∨ s.plat.pinLow = true then 0 else 1) ∧
    t.modState = (if waits ∨ (s.plat.pinLow = true ∧ (cls = .cold ∨ cls = .powerOn)) then stCold else stBoot) ∧
    (cls = .powerOn → t.odGet 0x9001 1 = 1 ∧ t.odGet 0x9001 2 = 2 ^ 63 ∧ t.odGet 0x9001 3 = 0 ∧ t.test = {} ∧
      ∀ i k, (i, k) ≠ (0x1010, 1) → k < 256 → t.odGet i k = odDfltKey (odKey i k)) ∧
    (cls ≠ .powerOn → t.odGet 0x9001 1 = cause ∧ t.odGet 0x9001 2 = ftNat s.time.ft ∧ t.odGet 0x9001 3 = detail ∧ t.test.ir = s.test.ir ∧
      (cls = .cold → t.odGet 0x9500 1 = 0) ∧
      ∀ i k, k < 256 → i ≠ 0x9001 → (i, k) ≠ (0x1010, 1) → (i, k) ≠ (0x1010, 6) → (cls = .cold → (i, k) ≠ (0x9500, 1)) →
        t.odGet i k = if odKeptWarm (odKey i k) then s.odGet i k else odDfltKey (odKey i k)) ∧
    (cls = .warm ∨ cls = .thermal → ∀ a, a < barrelBase → a % hbmStride < hbmUse → Nat.testBit s.test.bist (a / hbmStride) = false →
      fget 0 t.mem a = fget 0 s.mem a) ∧
    (cls = .powerOn ∨ cls = .cold → t.mem = [])) ∧
  ∀ (s : State) (cause detail : Nat), (s.doReset cause detail .warm false).odGet 0x1010 6 =
    if cause = 6 ∨ cause = 8 then (s.odGet 0x1010 6 + 1) % 256 else s.odGet 0x1010 6)

/-- The release of Table 12.7 (R293, R308, R309): its steps follow one another; the thermal reset waits before the HBM step; a late block
resets the module, or faults it once the HBM step has completed; in recovery a valid image is taken to slot 0, any other is discarded.
Outside BOOT, in recovery, and where no step is under way the events of the release have no effect. -/
def Obligations.ReleaseSteps : Prop :=
  (∀ s : State, s.modState = stBoot →
    (∀ n, 4 ≤ n → n ≠ 9 → s.plat.step = n → exec .bootStepComplete s = .next (s.atStep (n + 1))) ∧
    (s.plat.step = 0 ∨ (s.plat.step = 1 ∧ s.plat.recovery = true) → exec .bootStepComplete s = .next s) ∧
    (s.plat.step = 1 → s.plat.recovery = false → ∀ a, s.romChoose = (a, true) → exec .bootStepComplete s =
      .next (((a.odSet 0x1220 1 1).release [1, 7]).atStep 2)) ∧
    (s.plat.step = 1 → s.plat.recovery = false → ∀ a, s.romChoose = (a, false) → ∃ t, exec .bootStepComplete s = .next t ∧
      t.plat.recovery = true ∧ t.modState = stBoot ∧ t.pwrgd = false ∧ t.alert = true ∧ t.mem = s.mem) ∧
    (s.plat.step = 2 → s.plat.ref10m = true → exec .bootStepComplete s =
      .next (State.atStep (State.odSet { s with time := { s.time with onRefclk := false } } 0xF300 1 1) 3)) ∧
    (s.plat.step = 2 → s.plat.ref10m = false → exec .bootStepComplete s =
      .next (State.atStep (State.countNotify { s with time := { s.time with onRefclk := true } } 0xF300 2) 3)) ∧
    (s.plat.step = 3 → exec .bootStepComplete s = .next (if s.plat.cls = .thermal ∧ s.coolEnough = false then s else s.atStep 4)) ∧
    (s.stepRuns = true → s.plat.step < 4 → exec .bootStepTimeout s = .next (s.doReset 8 8 .warm false)) ∧
    (s.stepRuns = true → 4 ≤ s.plat.step → exec .bootStepTimeout s = .next ((s.atStep 0).enterFaulted 8 0)) ∧
    (s.plat.step ≠ 0 → s.plat.step ≠ 3 → s.plat.recovery = false → s.stepRuns = true) ∧
    (s.plat.step = 0 ∨ s.plat.recovery = true → s.stepRuns = false)) ∧
  (∀ s : State, (s.modState ≠ stBoot → exec .bootStepComplete s = .next s) ∧ (s.stepRuns = false → exec .bootStepTimeout s = .next s) ∧
    (s.modState ≠ stBoot → s.stepRuns = false)) ∧
  (∀ s : State,
    let u := s.romTake
    (s.plat.recovery = true → u.fwFail u.plat.image = 0 → exec .recoveryImage s =
      .next (((u.slotWrite 0 u.plat.image).ctlWrite (fun _ => { confirmed := 1 })).doReset 9 0 .warm false)) ∧
    (s.plat.recovery = true → u.fwFail u.plat.image ≠ 0 → exec .recoveryImage s = .next { u with plat := { u.plat with image := [] } }) ∧
    (s.plat.recovery = false → exec .recoveryImage s = .next s)) ∧
  ∀ s : State,
    let p := s.ctl.preferred
    (s.ctl.trial = false → s.confirmed p = true → s.slotFail p = 0 → s.romChoose = (s.romRun p 0, true)) ∧
    (s.ctl.trial = false → s.confirmed p = false → s.confirmed (1 - p) = true → s.slotFail (1 - p) = 0 →
      s.romChoose = (s.romRun (1 - p) 6, true)) ∧
    (s.ctl.trial = true → s.slotFail p = 0 → s.romChoose = ((s.ctlWrite (fun c => { c with trial := false })).romRun p 0, true)) ∧
    (s.ctl.trial = true → s.slotFail p ≠ 0 → s.confirmed (1 - p) = true → s.slotFail (1 - p) = 0 →
      s.romChoose = ((s.ctlWrite (fun c => { c with trial := false })).romRun (1 - p) (s.slotFail p), true)) ∧
    (s.slotFail 0 ≠ 0 → s.slotFail 1 ≠ 0 → s.romChoose.2 = false)

/-- When BOOT is complete the module enters QUIET, and the running slot is marked CONFIRMED and PREFERRED in one control-block write, which
clears TRIAL. The fuses are not touched (R310). -/
def Obligations.BootConfirmsSlot : Prop :=
  ∀ s : State, s.modState = stBoot → s.plat.step = 9 → ∃ t, exec .bootStepComplete s = .next t ∧ t.modState = stQuiet ∧
    t.store.running = s.store.running ∧ t.confirmed s.store.running = true ∧ t.ctl.preferred = s.store.running ∧ t.ctl.trial = false ∧
    t.ctl.seq = s.ctl.seq + 1 ∧ (t.store.ctl0 = s.store.ctl0 ∨ t.store.ctl1 = s.store.ctl1) ∧
    t.fuseRollback = s.fuseRollback ∧ t.fuseRevoked = s.fuseRevoked ∧ t.store.slot0 = s.store.slot0 ∧ t.store.slot1 = s.store.slot1 ∧
    t.mem = s.mem ∧ t.plat.step = 0 ∧ t.odGet 0x9001 1 = s.odGet 0x9001 1

/-- Input, rails and sensors (R284, R286 to R289): while the Crown is up each event keeps the throttle level shown at the highest of the four
requests. The cap level follows the average of the window, the thermal level the hottest sensor with its hysteresis of 3 °C; warnings are
counted once for each time they assert. Nothing of memory, pinions and objects changes. While the module is held in COLD nothing reads the
sensors. The thermal level of R289 by Table 12.4, from level 0: the level that the hottest sensor's whole degrees give; a step that has
been entered is left only 3 °C below its bound. -/
def Obligations.PowerEvents : Prop :=
 (∀ s : State, s.modState ≠ stCold →
    let ends (c : Instr) (P : State → Prop) : Prop := ∃ t, exec c s = .next t ∧ t.odGet 0x8200 1 = t.throttleNow ∧
      t.mem = s.mem ∧ t.slow = s.slow ∧ t.pinions = s.pinions ∧ t.syncs = s.syncs ∧ t.modState = s.modState ∧ P t
    let cap := s.odGet 0x8100 1
    let cur := s.odGet 0x8200 2
    (∀ vin iin pin : W32,
      let ws := (pin :: s.plat.samples).take (10 * s.odGet 0x8100 2)
      let above := FV.lt ((natV ws.length).mul (natV cap)) (sumV ws) = true
      let under := FV.lt ((sumV ws).mul (natV 100)) (((natV ws.length).mul (natV cap)).mul (natV 97)) = true
      ends (.powerSample vin iin pin) (fun t => t.odGet 0x8000 1 = vin.toNat ∧ t.odGet 0x8000 2 = iin.toNat ∧
        t.odGet 0x8000 3 = enc32 ((sumV ws).div (natV ws.length)) ∧ t.plat.samples = ws ∧
        (FV.lt (natV 2750) (dec32 pin.toNat) = true → t.odGet 0x8200 2 = 12) ∧
        (FV.lt (natV 2750) (dec32 pin.toNat) = false → above → t.odGet 0x8200 2 = min 12 (cur + 1)) ∧
        (FV.lt (natV 2750) (dec32 pin.toNat) = false → ¬ above → under → 9 ≤ s.plat.lowRun → t.odGet 0x8200 2 = cur - 1) ∧
        (FV.lt (natV 2750) (dec32 pin.toNat) = false → ¬ above → ¬ under ∨ s.plat.lowRun < 9 → t.odGet 0x8200 2 = cur) ∧
        t.odGet 0x8100 3 = (if cur = 0 ∧ t.odGet 0x8200 2 ≠ 0 then (s.odGet 0x8100 3 + 1) % 2 ^ 64 else s.odGet 0x8100 3))) ∧
    (s.odGet 0x8010 5 = 0 → ends .sagWarning (fun t => t.odGet 0x8010 5 = 1 ∧ t.odGet 0x8010 4 = (s.odGet 0x8010 4 + 1) % 2 ^ 64 ∧
      ∃ l, t.out = l ++ .vdlIrq (s.odGet 0x8010 3) :: s.out)) ∧
    (s.odGet 0x8010 5 ≠ 0 → exec .sagWarning s = .next s) ∧
    ends .sagClear (fun t => t.odGet 0x8010 5 = 0) ∧
    (∀ rail mv level, (rail, level) ∈ [(1, 715), (2, 765), (3, 1010), (4, 865)] →
      (mv < level → s.plat.rails.contains rail = false → ends (.railWarning rail mv) (fun t => t.odGet 0x8020 rail = mv ∧
        t.odGet 0x8021 rail = (s.odGet 0x8021 rail + 1) % 2 ^ 64 ∧ t.plat.rails = rail :: s.plat.rails)) ∧
      (mv < level → s.plat.rails.contains rail = true → exec (.railWarning rail mv) s = .next (s.odSet 0x8020 rail mv)) ∧
      (level ≤ mv → ends (.railWarningClear rail mv) (fun t => t.odGet 0x8020 rail = mv % 65536 ∧
        t.plat.rails = s.plat.rails.filter (· ≠ rail)))) ∧
    ∀ (k : Nat) (temp : W32), k < 17 →
      let u := s.platMod (fun p => { p with sensors := fput 0 p.sensors k temp })
      let level := thermalLevel (s.odGet 0x8300 1) (s.odGet 0x8200 3) (dec32 u.hottest.2.toNat)
      ends (.thermalSample k temp) (fun t => t.plat.sensors = u.plat.sensors ∧ t.odGet 0x8300 2 = u.hottest.2.toNat ∧
        t.odGet 0x8300 3 = u.hottest.1 ∧ t.odGet 0x8200 3 = level ∧
        t.odGet 0x8300 4 = (if s.odGet 0x8200 3 = 0 ∧ level ≠ 0 then (s.odGet 0x8300 4 + 1) % 2 ^ 64 else s.odGet 0x8300 4))) ∧
 (∀ s : State,
    (s.modState = stCold → exec .sagWarning s = .next s ∧ exec .sagClear s = .next s ∧ (∀ v i p, exec (.powerSample v i p) s = .next s) ∧
      (∀ r mv, exec (.railWarning r mv) s = .next s) ∧
      (∀ r mv level, (r, level) ∈ [(1, 715), (2, 765), (3, 1010), (4, 865)] → level ≤ mv → exec (.railWarningClear r mv) s =
        .next (s.platMod (fun p => { p with rails := p.rails.filter (· ≠ r) }))) ∧
      ∀ k temp, k < 17 → exec (.thermalSample k temp) s = .next (s.platMod (fun p => { p with sensors := fput 0 p.sensors k temp }))) ∧
    (∀ r mv, r = 0 ∨ 4 < r → exec (.railWarning r mv) s = .next s ∧ exec (.railWarningClear r mv) s = .next s) ∧
    (∀ r mv level, (r, level) ∈ [(1, 715), (2, 765), (3, 1010), (4, 865)] →
      (level ≤ mv → exec (.railWarning r mv) s = .next s) ∧ (mv < level → exec (.railWarningClear r mv) s = .next s)) ∧
    ∀ k temp, 17 ≤ k → exec (.thermalSample k temp) s = .next s) ∧
 ((∀ w t : Nat, 3 ≤ w → thermalLevel w 0 (natV t) = if w + 8 ≤ t then 12 else if w + 6 ≤ t then 10 else if w + 4 ≤ t then 8
    else if w + 2 ≤ t then 6 else if w ≤ t then 4 else 0) ∧
  ∀ w t b cur : Nat, 3 ≤ w → (cur, b) ∈ thermalSteps → w + b - 3 < t → cur ≤ thermalLevel w cur (natV t))

/-- The test access port (R333). IDCODE, BYPASS, SAMPLE/PRELOAD, EXTEST, CLAMP and HIGHZ need no unlock; every other instruction is not
accepted without debug scope bit 1, and with it the module stops: the spec gives it no effect. In ARMED, RUNNING and HELD every
instruction but IDCODE executes as BYPASS. Power-on and the transition to ARMED place the TAP in Test-Logic-Reset, other resets leave it;
EXTEST, CLAMP and HIGHZ override the pins. -/
def Obligations.TestAccessPort : Prop :=
  ∀ s : State,
    let inst (t : State) (i : TapIr) : State := { t with test := { t.test with ir := i } }
    (s.plat.needPower = false →
      exec .idcode s = .next ((inst s .idcode).emit (.scan ((List.range 32).map (fun i => Nat.testBit 0x10960A4B i)))) ∧
      (∀ tdi, exec (.bypass tdi) s = .next (State.emit { s with test := { s.test with ir := .bypass, byp := tdi } } (.scan [s.test.byp]))) ∧
      (s.modState ∈ [stArmed, stRunning, stHeld] →
        exec .clamp s = .next (inst s .bypass) ∧ exec .highz s = .next (inst s .bypass) ∧
        ∀ cells, exec (.extest cells) s = .next (s.bypassShift cells) ∧ exec (.samplePreload cells) s = .next (s.bypassShift cells) ∧
          exec (.internalTest cells) s = .next (s.bypassShift cells)) ∧
      (s.modState ∉ [stArmed, stRunning, stHeld] →
        exec .clamp s = .next (inst s .clamp) ∧ exec .highz s = .next (inst s .highz) ∧
        ∀ cells, (∃ bits : List Bool, bits.length = cells.length ∧ exec (.extest cells) s = .next (State.emit
            { s with free := s.free + 1, test := { s.test with ir := .extest, cells := cells } } (.scan bits))) ∧
          (∃ bits : List Bool, bits.length = cells.length ∧ exec (.samplePreload cells) s = .next (State.emit
            { s with free := s.free + 1, test := { s.test with ir := .sample, cells := cells } } (.scan bits))) ∧
          (Nat.testBit (s.odGet 0xA500 3) 1 = false → exec (.internalTest cells) s = .next s) ∧
          (Nat.testBit (s.odGet 0xA500 3) 1 = true → exec (.internalTest cells) s = .refused .testInstruction))) ∧
    (s.plat.needPower = true → exec .idcode s = .next s ∧ exec .clamp s = .next s ∧ exec .highz s = .next s ∧
      (∀ b, exec (.bypass b) s = .next s) ∧ ∀ cells, exec (.extest cells) s = .next s ∧ exec (.samplePreload cells) s = .next s ∧
        exec (.internalTest cells) s = .next s) ∧
    (∀ (cause detail : Nat) (power : Bool), (s.doReset cause detail .powerOn power).test = {} ∧
      ∀ cls, cls ≠ ResetCls.powerOn → (s.doReset cause detail cls power).test =
        { ir := s.test.ir, byp := s.test.byp, cells := s.test.cells }) ∧
    s.armDo.test.ir = .testLogicReset ∧
    ∀ g, State.hasCell g = true → (s.test.ir = .extest ∨ s.test.ir = .clamp → s.pinState g = .cells) ∧ (s.test.ir = .highz → s.pinState g = .highZ)

/-- The ends of a train's reset and of the scrub before a re-admission (R297, R300, R162): the Bezel opens unless a READMIT still waits or the
unit is fenced or retired, what waited for the reset is ready; a failed scrub is counted and leaves the pinion retired, a passed one leaves
the swap for a beat, or for at once in QUIET and ARMED. The stop and the restart of a site job (R253 to R256, R267): at the end of the drain the
module enters QUIET; the restart leader gives the failed modules' places to spares, in descriptor order, raises the epoch and owes the
restore of R255; with no failed module it exchanges the gateway roles after a TAKEOVER only; without enough spares it counts the event and
stays. No other module acts. The end of an HBM BIST shows the failing lines of the stacks that it tested (R334); the end of a debug unlock
locks both scopes (R318). That the restore comes with ARM is DEDUCED (log 46). -/
def Obligations.UnitsReturn : Prop :=
 ((∀ (s : State) (l i : Nat),
    let u := s.unit l i
    let ends := u.st = 2 ∨ ∃ c ∈ s.changes, c.ready = false ∧ State.waitsFor l i c.kind = true
    let again := s.changes.any (fun c => c.kind == .openUnit l i)
    let st := if u.st = 2 then (if again then 4 else 0) else u.st
    (s.portExists (l * 65536 + i) = true → i < 65536 → ends → exec (.trainResetComplete l i) s =
      .next (((s.unitMod l i (fun v => { v with st := if v.st = 2 then (if again then 4 else 0) else v.st })).readyChanges
        (State.waitsFor l i)).dieResolve) ∧ ((s.unitMod l i (fun v => { v with st := st })).unit l i).st = st) ∧
    (s.portExists (l * 65536 + i) = false ∨ 65536 ≤ i ∨ ¬ ends → exec (.trainResetComplete l i) s = .next s)) ∧
  (∀ (s : State) (t k : Nat), (s.t1 t).readmit = some k →
    let u := s.t1Mod t (fun x => { x with readmit := none })
    exec (.readmitScrubDone t k true) s = .next (u.bump 0x9400 4) ∧
    ((∀ m, m < 8 → s.physSlot t m ≠ (s.t1 t).spareSlot) → exec (.readmitScrubDone t k false) s = .next u) ∧
    ∀ n, n < 8 → s.physSlot t n = (s.t1 t).spareSlot → (∀ m, m < n → s.physSlot t m ≠ (s.t1 t).spareSlot) →
      let v : State := { u with changes := u.changes ++ [{ kind := .swapBack t k n, ready := true }] }
      (s.modState ≠ stQuiet → s.modState ≠ stArmed → exec (.readmitScrubDone t k false) s = .next v) ∧
      (s.modState = stQuiet ∨ s.modState = stArmed → exec (.readmitScrubDone t k false) s = .next v.takeChanges)) ∧
  ∀ (s : State) (t k : Nat), (s.t1 t).readmit ≠ some k → ∀ b, exec (.readmitScrubDone t k b) s = .next s) ∧
 ((∀ s : State, (s.siteStopping = true → exec .stopDrain s = .next s.enterQuiet) ∧ (s.siteStopping = false → exec .stopDrain s = .next s)) ∧
  (∀ (s : State) (failed spares : List Nat), s.modState ≠ stQuiet ∨ s.inSiteJob = false → exec (.siteRestart failed spares) s = .next s) ∧
  (∀ (s : State) (failed spares : List Nat), s.modState = stQuiet → s.inSiteJob = true →
    let ms := s.lModules
    let part := takeParts ms
    let leader := ((part.filter (fun m => !failed.contains m.smn)).map (·.smn)).foldl min 256
    let lost := part.filter (fun m => failed.contains m.smn)
    let free := ms.filter (fun m => Nat.testBit m.roles 3 && spares.contains m.smn)
    let standby := ∃ m, m ∈ ms ∧ Nat.testBit m.roles 2 = true
    (leader ≠ s.smn → exec (.siteRestart failed spares) s = .next s) ∧
    (leader = s.smn → failed ≠ [] → lost = [] → exec (.siteRestart failed spares) s = .next s) ∧
    (leader = s.smn → lost ≠ [] → free.length < lost.length → exec (.siteRestart failed spares) s = .next (s.countNotify 0x2040 3)) ∧
    (leader = s.smn → lost ≠ [] → lost.length ≤ free.length → exec (.siteRestart failed spares) s = .next (restartWaits s (giveLayout s
      ((lost.zip free).foldl (fun a q => substituteModule a q.1.smn q.2.smn) ms)
      ((lost.zip free).foldl (fun a q => groupsReplace a q.1.smn q.2.smn) (s.blobGet 0x4100 1))))) ∧
    (leader = s.smn → failed = [] → s.roleChange = true → standby → exec (.siteRestart failed spares) s =
      .next { restartWaits s (giveLayout s (exchangeGateway ms) (s.blobGet 0x4100 1)) with roleChange := false }) ∧
    (leader = s.smn → failed = [] → s.roleChange = false ∨ ¬ standby → exec (.siteRestart failed spares) s = .next s)) ∧
  (∀ s : State, (s.restart = none → s.restore = s) ∧ ∀ b, s.restart = some b →
    s.restore = restoreKept { s with restart := none, roleChange := false } b) ∧
  ∀ m : LModule, ∃ n, exchangeGateway [m] = [n] ∧ n.smn = m.smn ∧
    Nat.testBit n.roles 1 = Nat.testBit m.roles 2 ∧ Nat.testBit n.roles 2 = Nat.testBit m.roles 1) ∧
 (∀ s : State,
    (∀ failures, s.test.bist ≠ 0 → ∃ t, exec (.bistComplete failures) s = .next t ∧ t.odGet 0xF320 2 = 2 ∧ t.test = { s.test with bist := 0 } ∧
      t.blobGet 0xF320 3 = (List.range 8).flatMap (fun k => toLe 8 (if Nat.testBit s.test.bist k then failures.getD k 0 else 0)) ∧
      t.mem = s.mem ∧ t.wrong = s.wrong ∧ t.pinions = s.pinions) ∧
    (∀ failures, s.test.bist = 0 → exec (.bistComplete failures) s = .next s) ∧
    (s.odGet 0xA500 3 ≠ 0 → exec .debugExpiry s = .next (State.odSet { s with test := { s.test with debugSecs := 0 } } 0xA500 3 0)) ∧
    (s.odGet 0xA500 3 = 0 → exec .debugExpiry s = .next s))

/-- LI, ADDI, ALU, SETV, SETEB, SETSTG and MARK complete (2.10, R32, R338): where a hand issues one of them, its operands as R338 asks and the
next word inside the area, the hand goes on at the next word, with the one register, setting or record of the instruction changed, the
functions of ALU those of Table 2.12 on 32-bit words. No other hand, no memory, object, slot or dictionary entry changes. -/
def Obligations.ScalarInstructionsComplete : Prop :=
  ∀ (s : State) (p h : Nat) (w : W64), (s.hand p h).pc < 2047 →
    let d := s.hand p h
    let imm := fld w 0 32
    let a := d.sreg (fld w 48 4)
    let b := d.sreg (fld w 44 4)
    let goes (c : Instr) (row : Nat) (d' : Hand) : Prop := Issues s p h row w → ∃ t, exec c s = .next t ∧
      t.hand p h = { d' with pc := d.pc + 1, st := .ready } ∧ (h < 2 → t.hand p (1 - h) = s.hand p (1 - h)) ∧
      (∀ q, q ≠ p → t.pin q = s.pin q) ∧ t.mem = s.mem ∧ t.slow = s.slow ∧ t.syncs = s.syncs ∧ t.barrels = s.barrels ∧ t.od = s.od ∧
      t.out = s.out
    let functions : List (Nat × W32) :=
      [(0, a + b), (1, a - b), (2, a * b), (3, a &&& b), (4, a ||| b), (5, a ^^^ b), (6, a <<< (b.toNat % 32)), (7, a >>> (b.toNat % 32)),
       (8, a.sshiftRight (b.toNat % 32)), (9, if a.slt b then a else b), (10, if a.slt b then b else a),
       (11, if a.ult b then a else b), (12, if a.ult b then b else a)]
    goes (.li p h) 0x08 (d.setSreg (fld w 52 4) (BitVec.ofNat 32 imm)) ∧
    goes (.addi p h) 0x09 (d.setSreg (fld w 52 4) (a + BitVec.ofNat 32 imm)) ∧
    (∀ v, (fld w 40 4, v) ∈ functions → goes (.alu p h) 0x0A (d.setSreg (fld w 52 4) v)) ∧
    (∀ v : W32, v = a + BitVec.ofNat 32 imm → v.toNat % 64 = 0 →
      goes (.setv p h) 0x10 { d with setv := v } ∧ goes (.seteb p h) 0x11 { d with seteb := v }) ∧
    (a.toNat % 64 = 0 → a.toNat + imm ≤ 0x14000 →
      goes (.setstg p h) 0x12 { d with stgBase := a, stgSize := BitVec.ofNat 32 imm }) ∧
    goes (.markOp p h) 0x14 { d with record := some {
      pc := d.pc + 1, sregs := d.sregs, setv := d.setv, seteb := d.seteb, stgBase := d.stgBase, stgSize := d.stgSize } }

/-- A stream enters its hands (R33, R34): a descriptor without LOAD that a train accepts while the hand is idle on every in-service pinion
of it starts on each of them, at START_PC with s1 to s6 set; and a pending descriptor without LOAD starts on its hand once that has ended,
on a pinion in service that is not about to stop. Only those hands change, the train's TAG, and the answer that the port gives. -/
def Obligations.StreamsEnter : Prop :=
  (∀ (s : State) (port : Nat) (d : BitVec 256), Nat.testBit (fld d 24 8) 1 = false → streamAnswer s port d = .accepted →
    (∀ q ∈ s.portPinions port, (s.hand q (fld d 16 8)).stream = none) →
    ∃ t, exec (.streamDescriptor port d) s = .next t ∧ t.out = .issueStatus .accepted :: s.out ∧ t.mem = s.mem ∧ t.od = s.od ∧
      t.syncs = s.syncs ∧ t.barrels = s.barrels ∧ (t.unit (port / 65536) (port % 65536)).tag = fld d 0 16 ∧
      (∀ q, q ∉ s.portPinions port → t.pin q = s.pin q) ∧
      ∀ q ∈ s.portPinions port, (t.hand q (fld d 16 8)).stream = some { desc := d, port := port } ∧
        (t.hand q (fld d 16 8)).st = .ready ∧ (t.hand q (fld d 16 8)).pc = fld d 32 16 ∧
        (t.hand q (fld d 16 8)).sreg 1 = BitVec.ofNat 32 q ∧ (t.hand q (fld d 16 8)).sreg 2 = BitVec.ofNat 32 (s.rankIn port q)) ∧
  ∀ (s : State) (p h port : Nat) (d : BitVec 256), Nat.testBit (fld d 24 8) 1 = false → h < 2 →
    (s.hand p h).pend = some (port, d) → (s.hand p h).stream = none → s.modState = stRunning ∨ s.modState = stHeld →
    s.inService p = true → (s.pin p).stopping = none →
    ∃ t, exec (.pendingStreamStart p h) s = .next t ∧ t.out = s.out ∧ t.mem = s.mem ∧ t.od = s.od ∧ (∀ q, q ≠ p → t.pin q = s.pin q) ∧
      t.hand p (1 - h) = s.hand p (1 - h) ∧ (t.hand p h).stream = some { desc := d, port := port } ∧ (t.hand p h).pend = none ∧
      (t.hand p h).st = .ready ∧ (t.hand p h).pc = fld d 32 16 ∧ (t.hand p h).sreg 1 = BitVec.ofNat 32 p ∧
      (t.hand p h).sreg 2 = BitVec.ofNat 32 (s.rankIn port p)

/-- The commands of OD 0x1010.02 and the writes with a row of their own complete, each with its effect, where R269 accepts the write and no stop
is under way (Table 11.3, R264 to R268; R149, R154, R246, R295, R298, R301, R311, R312, R316 to R318, R334, R335). The writes leave memory,
pinions, Barrels, objects and the module state alone but where the effect says otherwise. QUIESCE and TAKEOVER wait for what the queues have
started; a warm reset follows the answer over the field network at once. -/
def Obligations.CrownWritesComplete : Prop :=
  ∀ (s u : State) (src : FrameSrc) (x : Session) (p : Peer) (f : List Byte) (v : List Byte),
    let n := leNat v
    let done (c : FrameSrc → Instr) (i k : Nat) (P : State → Prop) : Prop :=
      ((∃ typ, WritesEntry s src u x p f i k typ v) ∨ ((i, k) ≠ (0x1010, 2) ∧ (i, k) ≠ (0xA300, 2) ∧ EndsTransfer s src u x p f i k v)) →
        ∃ t, exec (c src) s = .next t ∧ P t
    let kept (t : State) : Prop := t.mem = s.mem ∧ t.slow = s.slow ∧ t.pinions = s.pinions ∧ t.barrels = s.barrels ∧ t.syncs = s.syncs
    let stays (t : State) : Prop := kept t ∧ t.modState = s.modState
    let alone : Prop := (∀ m ∈ s.siteMembers, m = s.smn) ∧ s.changes = []
    let stops (role : Bool) (t : State) : Prop := alone → t.roleChange = role ∧ kept t ∧
      (s.collBusy = true → t.siteStopping = true ∧ t.modState = s.modState) ∧ (s.collBusy = false → t.siteStopping = false ∧ t.modState = stQuiet)
    let reset (cause : Nat) (t : State) : Prop := p ≠ .mailbox → s.modState ≠ stBoot → s.plat.needPower = false →
      (cause = 5 ∨ s.plat.dumpStopped = false) → t.modState = stBoot ∧ t.odGet 0x9001 1 = cause ∧ t.slow = s.slow
    (s.siteStopping = false →
      (n = 1 → u.armReason = 0 → done .arm 0x1010 2 (fun t => t.modState = stArmed ∧
        (s.restart = none → t.mem = s.mem ∧ t.slow = s.slow ∧ t.pinions = s.pinions ∧ t.barrels = s.barrels))) ∧
      (n = 2 → 2 ≤ s.odGet 0x4010 1 → done .run 0x1010 2 (fun t => t.modState = stRunning ∧ kept t)) ∧
      (n = 3 → done .hold 0x1010 2 (fun t => t.modState = stHeld ∧ kept t ∧ t.beats = s.beats)) ∧
      (n = 4 → done .release 0x1010 2 (fun t => t.modState = stRunning ∧ kept t)) ∧
      (n = 5 → done .quiesce 0x1010 2 (stops s.roleChange)) ∧
      (n = 8 → Nat.testBit s.ownRoles 2 = true → done .takeover 0x1010 2 (stops true))) ∧
    (n = 6 → done .warmReset 0x1010 2 (reset 5)) ∧
    (n = 7 → done .forceFault 0x1010 2 (fun t => s.inSiteJob = false → t.modState = stFaulted ∧ kept t ∧
      t.faultInfo = some { code := 7, detail := 0, prior := s.modState, ft := s.time.ft })) ∧
    (∀ l i, u.bezelTarget (u.odGet 0x9200 1) = .unit l i → u.bezelCheck (u.odGet 0x9200 1) n = 0 →
      (n = 1 → done .fence 0x9200 2 (fun t => t.mem = s.mem ∧ t.syncs = s.syncs ∧ t.modState = s.modState ∧
        ((s.unit l i).st = 0 → (t.unit l i).st = 1))) ∧
      (n = 2 → l ≠ 0 → done .retire 0x9200 2 (fun t => stays t ∧ t.blobGet 0x9400 1 = (u.mapTrain l i true).blobGet 0x9400 1)) ∧
      (n = 3 → l ≠ 0 → u.trainMarked l i = true →
        done .readmit 0x9200 2 (fun t => stays t ∧ t.blobGet 0x9400 1 = (u.mapTrain l i false).blobGet 0x9400 1))) ∧
    done .ftSet 0x4000 2 (fun t => stays t ∧ t.time.ft = sInt 64 (ftNat (sInt 64 n))) ∧
    done .beatTable 0x4300 1 (fun t => stays t ∧ ∀ i < 1024, t.beat i = beatOf (slice v (32 * i) 32)) ∧
    done .beatEntry 0x4301 2 (fun t => stays t ∧ t.beat (s.odGet 0x4301 1) = beatOf v) ∧
    (∀ (c : FrameSrc → Instr) (i k : Nat), (c, i, k) ∈ [(Instr.layout, 0x2010, 2), (.roster, 0x6001, 1), (.programManifest, 0x1300, 1),
        (.retireMap, 0x9400, 1), (.operatorKeys, 0xA100, 1), (.jobKey, 0xA200, 1)] →
      done c i k (fun t => stays t ∧ t.blobGet i k = v)) ∧
    done .fwImage 0xA300 1 (fun t => stays t ∧ t.store.verified = some (1 - s.store.running)) ∧
    (s.store.verified.isSome = true → done .fwActivate 0xA300 2 (reset 9)) ∧
    done .rollbackCommit 0xA300 4 (fun t => stays t ∧ t.fuseRollback = max s.fuseRollback (fwRollback (s.slotManifest s.store.running))) ∧
    done .debugToken 0xA500 2 (fun t => stays t ∧ t.odGet 0xA500 3 = rdLe v 4 1 ∧ t.test.debugSecs = rdLe v 8 4) ∧
    (n = 0 → done .debugScope 0xA500 3 (fun t => stays t ∧ t.odGet 0xA500 3 = 0)) ∧
    done .hbmBistStart 0xF320 1 (fun t => t.pinions = s.pinions ∧ t.syncs = s.syncs ∧ t.modState = s.modState ∧ t.odGet 0xF320 2 = 1 ∧ t.test.bist = n) ∧
    done .prbsMode 0xF310 2 (fun t => stays t ∧ t.odGet 0xF310 2 = n)

end
end

