-- ==== Sys2Proof/Laws/Bytes.lean ====
section
/-! SUPPORT. Lemmas about byte strings: the fields of a concatenation. -/

namespace Sys2Proof.Machine

/-- The length of a field. -/
theorem toLe_length (n v : Nat) : (toLe n v).length = n := by
  induction n generalizing v with
  | zero => rfl
  | succ n ih => simp [toLe, ih]

/-- A field reads as its number. -/
theorem leNat_toLe (n v : Nat) : leNat (toLe n v) = v % 256 ^ n := by
  induction n generalizing v with
  | zero => simp [toLe, leNat, Nat.mod_one]
  | succ n ih =>
    simp only [toLe, leNat, ih, BitVec.toNat_ofNat]
    rw [Nat.pow_succ 256 n, Nat.mul_comm (256 ^ n) 256, Nat.mod_mul]
    omega

/-- The length of a slice. -/
theorem slice_length (bs : List Byte) (o n : Nat) : (slice bs o n).length = n := by
  unfold slice; simp

/-- A slice of the first part. -/
theorem slice_left {a b : List Byte} {o n : Nat} (h : o + n ≤ a.length) : slice (a ++ b) o n = slice a o n := by
  unfold slice
  have h1 : ((a ++ b).drop o).take n = (a.drop o).take n := by
    rw [List.drop_append_of_le_length (by omega), List.take_append_of_le_length (by simp; omega)]
  rw [h1]

/-- A slice of the second part. -/
theorem slice_right {a b : List Byte} {o n : Nat} (h : a.length ≤ o) : slice (a ++ b) o n = slice b (o - a.length) n := by
  unfold slice
  have h1 : (a ++ b).drop o = b.drop (o - a.length) := by
    rw [List.drop_append]; simp [List.drop_eq_nil_of_le h]
  rw [h1]

/-- The whole list. -/
theorem slice_whole {a : List Byte} {n : Nat} (h : a.length = n) : slice a 0 n = a := by
  subst h; unfold slice; simp

/-- A slice of zeros. -/
theorem slice_zeros (a o n : Nat) : slice (zeros a) o n = zeros n := by
  unfold slice zeros
  simp only [List.drop_replicate, List.take_replicate, List.length_replicate]
  rw [← List.replicate_add]; congr 1; omega

/-- Zero bytes spell 0. -/
theorem leNat_zeros (n : Nat) : leNat (zeros n) = 0 := by
  induction n with
  | zero => rfl
  | succ n ih => unfold zeros at *; simp only [List.replicate_succ, leNat, ih]; rfl

/-- A field read where it stands. -/
theorem rdLe_toLe (n v : Nat) : rdLe (toLe n v) 0 n = v % 256 ^ n := by
  unfold rdLe; rw [slice_whole (toLe_length n v), leNat_toLe]

/-- A field of the first part. -/
theorem rdLe_left {a b : List Byte} {o n : Nat} (h : o + n ≤ a.length) : rdLe (a ++ b) o n = rdLe a o n := by
  unfold rdLe; rw [slice_left h]

/-- A field of the second part. -/
theorem rdLe_right {a b : List Byte} {o n : Nat} (h : a.length ≤ o) : rdLe (a ++ b) o n = rdLe b (o - a.length) n := by
  unfold rdLe; rw [slice_right h]

/-- Rounding up does not lower a number. -/
theorem le_roundUp (n : Nat) : n ≤ roundUp n 8 := by unfold roundUp ceilDiv; omega

/-- Padding with zeros. -/
theorem padTo_ge {v : List Byte} {n : Nat} (h : v.length ≤ n) : padTo n v = v ++ zeros (n - v.length) := by
  unfold padTo slice zeros; simp [List.take_of_length_le h]

end Sys2Proof.Machine
end

