-- ==== Sys2Proof/Laws/FMap.lean ====
section
/-! SUPPORT. The laws of the sparse arrays: read after write, and the canonical form. -/

namespace Sys2Proof.Machine

variable {α : Type}

theorem fget_fins_same (d : α) (m : FMap α) (i : Nat) (v : α) : fget d (fins m i v) i = v := by
  induction m with
  | nil => simp [fins, fget]
  | cons c m ih =>
    simp only [fins]
    split
    · simp [fget]
    · split
      · simp [fget]
      · rw [fget]
        split
        · omega
        · exact ih

theorem fget_fins_ne (d : α) (m : FMap α) {i j : Nat} (v : α) (h : j ≠ i) : fget d (fins m i v) j = fget d m j := by
  induction m with
  | nil => simp [fins, fget, Ne.symm h]
  | cons c m ih =>
    simp only [fins]
    split
    · simp [fget, Ne.symm h]
    · split
      · next e => subst e; simp [fget, Ne.symm h]
      · simp only [fget, ih]

theorem fget_fdel_same (d : α) (m : FMap α) (i : Nat) : fget d (fdel m i) i = d := by
  induction m with
  | nil => rfl
  | cons c m ih =>
    simp only [fdel, List.filter]
    split
    · next h =>
      have : c.1 ≠ i := by simpa using h
      rw [fget, if_neg this]; exact ih
    · exact ih

theorem fget_fdel_ne (d : α) (m : FMap α) {i j : Nat} (h : j ≠ i) : fget d (fdel m i) j = fget d m j := by
  induction m with
  | nil => rfl
  | cons c m ih =>
    simp only [fdel, List.filter]
    split
    · simp only [fget]; split
      · rfl
      · exact ih
    · next hc =>
      have : c.1 = i := by simpa using hc
      rw [fget, if_neg (by omega)]; exact ih

@[simp] theorem fget_fput_same [DecidableEq α] (d : α) (m : FMap α) (i : Nat) (v : α) : fget d (fput d m i v) i = v := by
  unfold fput
  split
  · next h => rw [fget_fdel_same, h]
  · exact fget_fins_same d m i v

theorem fget_fput_ne [DecidableEq α] (d : α) (m : FMap α) {i j : Nat} (v : α) (h : j ≠ i) :
    fget d (fput d m i v) j = fget d m j := by
  unfold fput
  split
  · exact fget_fdel_ne d m h
  · exact fget_fins_ne d m v h

/-- The defaults read and written may differ (a dictionary entry has its own default). -/
theorem fget_fput_other [DecidableEq α] (d e : α) (m : FMap α) {i j : Nat} (v : α) (h : j ≠ i) :
    fget d (fput e m i v) j = fget d m j := by
  unfold fput
  split
  · exact fget_fdel_ne d m h
  · exact fget_fins_ne d m v h

@[simp] theorem fget_fmod_same [DecidableEq α] (d : α) (m : FMap α) (i : Nat) (f : α → α) :
    fget d (fmod d m i f) i = f (fget d m i) := fget_fput_same d m i _

theorem fget_fmod_ne [DecidableEq α] (d : α) (m : FMap α) {i j : Nat} (f : α → α) (h : j ≠ i) :
    fget d (fmod d m i f) j = fget d m j := fget_fput_ne d m _ h

/-! ### The canonical form -/

theorem fwfFrom_filter [DecidableEq α] (d : α) (p : Nat × α → Bool) (m : FMap α) (lo : Option Nat)
    (h : fwfFrom d lo m = true) : fwfFrom d lo (m.filter p) = true := by
  induction m generalizing lo with
  | nil => rfl
  | cons c m ih =>
    obtain ⟨k, v⟩ := c
    simp only [fwfFrom, Bool.and_eq_true] at h
    simp only [List.filter]
    split
    · simp only [fwfFrom, Bool.and_eq_true]
      exact ⟨h.1, ih _ h.2⟩
    · refine ih _ ?_
      have h2 := h.2
      cases lo with
      | none =>
        cases m with
        | nil => rfl
        | cons c m =>
          simp only [fwfFrom, Bool.and_eq_true] at h2 ⊢
          exact ⟨⟨trivial, h2.1.2⟩, h2.2⟩
      | some l =>
        cases m with
        | nil => rfl
        | cons c m =>
          have h1 := h.1.1
          simp only [fwfFrom, Bool.and_eq_true, decide_eq_true_eq] at h1 h2 ⊢
          exact ⟨⟨by omega, h2.1.2⟩, h2.2⟩

theorem fwfFrom_fins [DecidableEq α] (d : α) (m : FMap α) (lo : Option Nat) (i : Nat) (v : α) (hv : v ≠ d)
    (hi : ∀ l, lo = some l → l < i) (h : fwfFrom d lo m = true) : fwfFrom d lo (fins m i v) = true := by
  induction m generalizing lo with
  | nil =>
    simp only [fins, fwfFrom, Bool.and_true, Bool.and_eq_true, decide_eq_true_eq]
    refine ⟨?_, hv⟩
    cases lo with
    | none => rfl
    | some l => exact decide_eq_true (hi l rfl)
  | cons c m ih =>
    obtain ⟨k, w⟩ := c
    simp only [fwfFrom, Bool.and_eq_true, decide_eq_true_eq] at h
    have hlo : (match (generalizing := false) lo with | none => true | some l => decide (l < i)) = true := by
      cases lo with
      | none => rfl
      | some l => exact decide_eq_true (hi l rfl)
    simp only [fins]
    split
    · simp only [fwfFrom, Bool.and_eq_true, decide_eq_true_eq]
      exact ⟨⟨hlo, hv⟩, ⟨by omega, h.1.2⟩, h.2⟩
    · split
      · next e =>
        subst e
        simp only [fwfFrom, Bool.and_eq_true, decide_eq_true_eq]
        exact ⟨⟨hlo, hv⟩, h.2⟩
      · simp only [fwfFrom, Bool.and_eq_true, decide_eq_true_eq]
        refine ⟨h.1, ih (some k) (fun l e => ?_) h.2⟩
        cases e; omega

/-- Deleting entries keeps the canonical form. -/
theorem fwf_filter [DecidableEq α] (d : α) (p : Nat × α → Bool) (m : FMap α) (h : fwf d m = true) :
    fwf d (m.filter p) = true := fwfFrom_filter d p m none h

/-- A write keeps the canonical form. -/
theorem fwf_fput [DecidableEq α] (d : α) (m : FMap α) (i : Nat) (v : α) (h : fwf d m = true) :
    fwf d (fput d m i v) = true := by
  unfold fput
  split
  · exact fwf_filter d _ m h
  · next hv => exact fwfFrom_fins d m none i v hv (fun _ e => by cases e) h

end Sys2Proof.Machine
end

