-- ==== Sys2Proof/Laws/State.lean ====
section
/-! SUPPORT. The fields of State under each update, and reads after writes. -/

namespace Sys2Proof.Machine

namespace State

/-! ### odSet -/

@[simp] theorem odSet_pending (s : State) (i j v : Nat) : (s.odSet i j v).pending = s.pending := rfl
@[simp] theorem odSet_free (s : State) (i j v : Nat) : (s.odSet i j v).free = s.free := rfl
@[simp] theorem odSet_out (s : State) (i j v : Nat) : (s.odSet i j v).out = s.out := rfl
@[simp] theorem odSet_blob (s : State) (i j v : Nat) : (s.odSet i j v).blob = s.blob := rfl
@[simp] theorem odSet_mem (s : State) (i j v : Nat) : (s.odSet i j v).mem = s.mem := rfl
@[simp] theorem odSet_slow (s : State) (i j v : Nat) : (s.odSet i j v).slow = s.slow := rfl
@[simp] theorem odSet_pinions (s : State) (i j v : Nat) : (s.odSet i j v).pinions = s.pinions := rfl
@[simp] theorem odSet_barrels (s : State) (i j v : Nat) : (s.odSet i j v).barrels = s.barrels := rfl
@[simp] theorem odSet_syncs (s : State) (i j v : Nat) : (s.odSet i j v).syncs = s.syncs := rfl
@[simp] theorem odSet_units (s : State) (i j v : Nat) : (s.odSet i j v).units = s.units := rfl
@[simp] theorem odSet_t1s (s : State) (i j v : Nat) : (s.odSet i j v).t1s = s.t1s := rfl
@[simp] theorem odSet_bootRetired (s : State) (i j v : Nat) : (s.odSet i j v).bootRetired = s.bootRetired := rfl
@[simp] theorem odSet_changes (s : State) (i j v : Nat) : (s.odSet i j v).changes = s.changes := rfl
@[simp] theorem odSet_table (s : State) (i j v : Nat) : (s.odSet i j v).table = s.table := rfl
@[simp] theorem odSet_dieEsc (s : State) (i j v : Nat) : (s.odSet i j v).dieEsc = s.dieEsc := rfl
@[simp] theorem odSet_relStamp (s : State) (i j v : Nat) : (s.odSet i j v).relStamp = s.relStamp := rfl
@[simp] theorem odSet_shadowSeq (s : State) (i j v : Nat) : (s.odSet i j v).shadowSeq = s.shadowSeq := rfl
@[simp] theorem odSet_errLog (s : State) (i j v : Nat) : (s.odSet i j v).errLog = s.errLog := rfl
@[simp] theorem odSet_faultInfo (s : State) (i j v : Nat) : (s.odSet i j v).faultInfo = s.faultInfo := rfl
@[simp] theorem odSet_time (s : State) (i j v : Nat) : (s.odSet i j v).time = s.time := rfl
@[simp] theorem odSet_crown (s : State) (i j v : Nat) : (s.odSet i j v).crown = s.crown := rfl
@[simp] theorem odSet_beats (s : State) (i j v : Nat) : (s.odSet i j v).beats = s.beats := rfl
@[simp] theorem odSet_near (s : State) (i j v : Nat) : (s.odSet i j v).near = s.near := rfl
@[simp] theorem odSet_rx (s : State) (i j v : Nat) : (s.odSet i j v).rx = s.rx := rfl
@[simp] theorem odSet_noRoute (s : State) (i j v : Nat) : (s.odSet i j v).noRoute = s.noRoute := rfl
@[simp] theorem odSet_vc0Tx (s : State) (i j v : Nat) : (s.odSet i j v).vc0Tx = s.vc0Tx := rfl
@[simp] theorem odSet_vc0Rx (s : State) (i j v : Nat) : (s.odSet i j v).vc0Rx = s.vc0Rx := rfl
@[simp] theorem odSet_altPort (s : State) (i j v : Nat) : (s.odSet i j v).altPort = s.altPort := rfl
@[simp] theorem odSet_stopSent (s : State) (i j v : Nat) : (s.odSet i j v).stopSent = s.stopSent := rfl
@[simp] theorem odSet_coll (s : State) (i j v : Nat) : (s.odSet i j v).coll = s.coll := rfl
@[simp] theorem odSet_uqNext (s : State) (i j v : Nat) : (s.odSet i j v).uqNext = s.uqNext := rfl
@[simp] theorem odSet_qWait (s : State) (i j v : Nat) : (s.odSet i j v).qWait = s.qWait := rfl
@[simp] theorem odSet_siteStopping (s : State) (i j v : Nat) : (s.odSet i j v).siteStopping = s.siteStopping := rfl
@[simp] theorem odSet_logAt (s : State) (i j v : Nat) : (s.odSet i j v).logAt = s.logAt := rfl
@[simp] theorem odSet_logFrom (s : State) (i j v : Nat) : (s.odSet i j v).logFrom = s.logFrom := rfl
@[simp] theorem odSet_far (s : State) (i j v : Nat) : (s.odSet i j v).far = s.far := rfl
@[simp] theorem odSet_outer (s : State) (i j v : Nat) : (s.odSet i j v).outer = s.outer := rfl
@[simp] theorem odSet_nearExch (s : State) (i j v : Nat) : (s.odSet i j v).nearExch = s.nearExch := rfl
@[simp] theorem odSet_nearEx (s : State) (i j v : Nat) : (s.odSet i j v).nearEx = s.nearEx := rfl
@[simp] theorem odSet_store (s : State) (i j v : Nat) : (s.odSet i j v).store = s.store := rfl
@[simp] theorem odSet_plat (s : State) (i j v : Nat) : (s.odSet i j v).plat = s.plat := rfl
@[simp] theorem odSet_test (s : State) (i j v : Nat) : (s.odSet i j v).test = s.test := rfl
@[simp] theorem odSet_vc7 (s : State) (i j v : Nat) : (s.odSet i j v).vc7 = s.vc7 := rfl
@[simp] theorem odSet_wrong (s : State) (i j v : Nat) : (s.odSet i j v).wrong = s.wrong := rfl
@[simp] theorem odSet_spent (s : State) (i j v : Nat) : (s.odSet i j v).spent = s.spent := rfl
@[simp] theorem odSet_foreign (s : State) (i j v : Nat) : (s.odSet i j v).foreign = s.foreign := rfl
@[simp] theorem odSet_exporting (s : State) (i j v : Nat) : (s.odSet i j v).exporting = s.exporting := rfl
@[simp] theorem odSet_roleChange (s : State) (i j v : Nat) : (s.odSet i j v).roleChange = s.roleChange := rfl
@[simp] theorem odSet_restart (s : State) (i j v : Nat) : (s.odSet i j v).restart = s.restart := rfl

/-! ### blobSet -/

@[simp] theorem blobSet_pending (s : State) (i j : Nat) (v : List Byte) : (s.blobSet i j v).pending = s.pending := rfl
@[simp] theorem blobSet_free (s : State) (i j : Nat) (v : List Byte) : (s.blobSet i j v).free = s.free := rfl
@[simp] theorem blobSet_out (s : State) (i j : Nat) (v : List Byte) : (s.blobSet i j v).out = s.out := rfl
@[simp] theorem blobSet_od (s : State) (i j : Nat) (v : List Byte) : (s.blobSet i j v).od = s.od := rfl
@[simp] theorem blobSet_mem (s : State) (i j : Nat) (v : List Byte) : (s.blobSet i j v).mem = s.mem := rfl
@[simp] theorem blobSet_slow (s : State) (i j : Nat) (v : List Byte) : (s.blobSet i j v).slow = s.slow := rfl
@[simp] theorem blobSet_pinions (s : State) (i j : Nat) (v : List Byte) : (s.blobSet i j v).pinions = s.pinions := rfl
@[simp] theorem blobSet_barrels (s : State) (i j : Nat) (v : List Byte) : (s.blobSet i j v).barrels = s.barrels := rfl
@[simp] theorem blobSet_syncs (s : State) (i j : Nat) (v : List Byte) : (s.blobSet i j v).syncs = s.syncs := rfl
@[simp] theorem blobSet_units (s : State) (i j : Nat) (v : List Byte) : (s.blobSet i j v).units = s.units := rfl
@[simp] theorem blobSet_t1s (s : State) (i j : Nat) (v : List Byte) : (s.blobSet i j v).t1s = s.t1s := rfl
@[simp] theorem blobSet_bootRetired (s : State) (i j : Nat) (v : List Byte) : (s.blobSet i j v).bootRetired = s.bootRetired := rfl
@[simp] theorem blobSet_changes (s : State) (i j : Nat) (v : List Byte) : (s.blobSet i j v).changes = s.changes := rfl
@[simp] theorem blobSet_table (s : State) (i j : Nat) (v : List Byte) : (s.blobSet i j v).table = s.table := rfl
@[simp] theorem blobSet_dieEsc (s : State) (i j : Nat) (v : List Byte) : (s.blobSet i j v).dieEsc = s.dieEsc := rfl
@[simp] theorem blobSet_relStamp (s : State) (i j : Nat) (v : List Byte) : (s.blobSet i j v).relStamp = s.relStamp := rfl
@[simp] theorem blobSet_shadowSeq (s : State) (i j : Nat) (v : List Byte) : (s.blobSet i j v).shadowSeq = s.shadowSeq := rfl
@[simp] theorem blobSet_errLog (s : State) (i j : Nat) (v : List Byte) : (s.blobSet i j v).errLog = s.errLog := rfl
@[simp] theorem blobSet_faultInfo (s : State) (i j : Nat) (v : List Byte) : (s.blobSet i j v).faultInfo = s.faultInfo := rfl
@[simp] theorem blobSet_time (s : State) (i j : Nat) (v : List Byte) : (s.blobSet i j v).time = s.time := rfl
@[simp] theorem blobSet_crown (s : State) (i j : Nat) (v : List Byte) : (s.blobSet i j v).crown = s.crown := rfl
@[simp] theorem blobSet_beats (s : State) (i j : Nat) (v : List Byte) : (s.blobSet i j v).beats = s.beats := rfl
@[simp] theorem blobSet_near (s : State) (i j : Nat) (v : List Byte) : (s.blobSet i j v).near = s.near := rfl
@[simp] theorem blobSet_rx (s : State) (i j : Nat) (v : List Byte) : (s.blobSet i j v).rx = s.rx := rfl
@[simp] theorem blobSet_noRoute (s : State) (i j : Nat) (v : List Byte) : (s.blobSet i j v).noRoute = s.noRoute := rfl
@[simp] theorem blobSet_vc0Tx (s : State) (i j : Nat) (v : List Byte) : (s.blobSet i j v).vc0Tx = s.vc0Tx := rfl
@[simp] theorem blobSet_vc0Rx (s : State) (i j : Nat) (v : List Byte) : (s.blobSet i j v).vc0Rx = s.vc0Rx := rfl
@[simp] theorem blobSet_altPort (s : State) (i j : Nat) (v : List Byte) : (s.blobSet i j v).altPort = s.altPort := rfl
@[simp] theorem blobSet_stopSent (s : State) (i j : Nat) (v : List Byte) : (s.blobSet i j v).stopSent = s.stopSent := rfl
@[simp] theorem blobSet_coll (s : State) (i j : Nat) (v : List Byte) : (s.blobSet i j v).coll = s.coll := rfl
@[simp] theorem blobSet_uqNext (s : State) (i j : Nat) (v : List Byte) : (s.blobSet i j v).uqNext = s.uqNext := rfl
@[simp] theorem blobSet_qWait (s : State) (i j : Nat) (v : List Byte) : (s.blobSet i j v).qWait = s.qWait := rfl
@[simp] theorem blobSet_siteStopping (s : State) (i j : Nat) (v : List Byte) : (s.blobSet i j v).siteStopping = s.siteStopping := rfl
@[simp] theorem blobSet_logAt (s : State) (i j : Nat) (v : List Byte) : (s.blobSet i j v).logAt = s.logAt := rfl
@[simp] theorem blobSet_logFrom (s : State) (i j : Nat) (v : List Byte) : (s.blobSet i j v).logFrom = s.logFrom := rfl
@[simp] theorem blobSet_far (s : State) (i j : Nat) (v : List Byte) : (s.blobSet i j v).far = s.far := rfl
@[simp] theorem blobSet_outer (s : State) (i j : Nat) (v : List Byte) : (s.blobSet i j v).outer = s.outer := rfl
@[simp] theorem blobSet_nearExch (s : State) (i j : Nat) (v : List Byte) : (s.blobSet i j v).nearExch = s.nearExch := rfl
@[simp] theorem blobSet_nearEx (s : State) (i j : Nat) (v : List Byte) : (s.blobSet i j v).nearEx = s.nearEx := rfl
@[simp] theorem blobSet_store (s : State) (i j : Nat) (v : List Byte) : (s.blobSet i j v).store = s.store := rfl
@[simp] theorem blobSet_plat (s : State) (i j : Nat) (v : List Byte) : (s.blobSet i j v).plat = s.plat := rfl
@[simp] theorem blobSet_test (s : State) (i j : Nat) (v : List Byte) : (s.blobSet i j v).test = s.test := rfl
@[simp] theorem blobSet_vc7 (s : State) (i j : Nat) (v : List Byte) : (s.blobSet i j v).vc7 = s.vc7 := rfl
@[simp] theorem blobSet_wrong (s : State) (i j : Nat) (v : List Byte) : (s.blobSet i j v).wrong = s.wrong := rfl
@[simp] theorem blobSet_spent (s : State) (i j : Nat) (v : List Byte) : (s.blobSet i j v).spent = s.spent := rfl
@[simp] theorem blobSet_foreign (s : State) (i j : Nat) (v : List Byte) : (s.blobSet i j v).foreign = s.foreign := rfl
@[simp] theorem blobSet_exporting (s : State) (i j : Nat) (v : List Byte) : (s.blobSet i j v).exporting = s.exporting := rfl
@[simp] theorem blobSet_roleChange (s : State) (i j : Nat) (v : List Byte) : (s.blobSet i j v).roleChange = s.roleChange := rfl
@[simp] theorem blobSet_restart (s : State) (i j : Nat) (v : List Byte) : (s.blobSet i j v).restart = s.restart := rfl

/-! ### emit -/

@[simp] theorem emit_pending (s : State) (o : Output) : (s.emit o).pending = s.pending := rfl
@[simp] theorem emit_free (s : State) (o : Output) : (s.emit o).free = s.free := rfl
@[simp] theorem emit_od (s : State) (o : Output) : (s.emit o).od = s.od := rfl
@[simp] theorem emit_blob (s : State) (o : Output) : (s.emit o).blob = s.blob := rfl
@[simp] theorem emit_mem (s : State) (o : Output) : (s.emit o).mem = s.mem := rfl
@[simp] theorem emit_slow (s : State) (o : Output) : (s.emit o).slow = s.slow := rfl
@[simp] theorem emit_pinions (s : State) (o : Output) : (s.emit o).pinions = s.pinions := rfl
@[simp] theorem emit_barrels (s : State) (o : Output) : (s.emit o).barrels = s.barrels := rfl
@[simp] theorem emit_syncs (s : State) (o : Output) : (s.emit o).syncs = s.syncs := rfl
@[simp] theorem emit_units (s : State) (o : Output) : (s.emit o).units = s.units := rfl
@[simp] theorem emit_t1s (s : State) (o : Output) : (s.emit o).t1s = s.t1s := rfl
@[simp] theorem emit_bootRetired (s : State) (o : Output) : (s.emit o).bootRetired = s.bootRetired := rfl
@[simp] theorem emit_changes (s : State) (o : Output) : (s.emit o).changes = s.changes := rfl
@[simp] theorem emit_table (s : State) (o : Output) : (s.emit o).table = s.table := rfl
@[simp] theorem emit_dieEsc (s : State) (o : Output) : (s.emit o).dieEsc = s.dieEsc := rfl
@[simp] theorem emit_relStamp (s : State) (o : Output) : (s.emit o).relStamp = s.relStamp := rfl
@[simp] theorem emit_shadowSeq (s : State) (o : Output) : (s.emit o).shadowSeq = s.shadowSeq := rfl
@[simp] theorem emit_errLog (s : State) (o : Output) : (s.emit o).errLog = s.errLog := rfl
@[simp] theorem emit_faultInfo (s : State) (o : Output) : (s.emit o).faultInfo = s.faultInfo := rfl
@[simp] theorem emit_time (s : State) (o : Output) : (s.emit o).time = s.time := rfl
@[simp] theorem emit_crown (s : State) (o : Output) : (s.emit o).crown = s.crown := rfl
@[simp] theorem emit_beats (s : State) (o : Output) : (s.emit o).beats = s.beats := rfl
@[simp] theorem emit_near (s : State) (o : Output) : (s.emit o).near = s.near := rfl
@[simp] theorem emit_rx (s : State) (o : Output) : (s.emit o).rx = s.rx := rfl
@[simp] theorem emit_noRoute (s : State) (o : Output) : (s.emit o).noRoute = s.noRoute := rfl
@[simp] theorem emit_vc0Tx (s : State) (o : Output) : (s.emit o).vc0Tx = s.vc0Tx := rfl
@[simp] theorem emit_vc0Rx (s : State) (o : Output) : (s.emit o).vc0Rx = s.vc0Rx := rfl
@[simp] theorem emit_altPort (s : State) (o : Output) : (s.emit o).altPort = s.altPort := rfl
@[simp] theorem emit_stopSent (s : State) (o : Output) : (s.emit o).stopSent = s.stopSent := rfl
@[simp] theorem emit_coll (s : State) (o : Output) : (s.emit o).coll = s.coll := rfl
@[simp] theorem emit_uqNext (s : State) (o : Output) : (s.emit o).uqNext = s.uqNext := rfl
@[simp] theorem emit_qWait (s : State) (o : Output) : (s.emit o).qWait = s.qWait := rfl
@[simp] theorem emit_siteStopping (s : State) (o : Output) : (s.emit o).siteStopping = s.siteStopping := rfl
@[simp] theorem emit_logAt (s : State) (o : Output) : (s.emit o).logAt = s.logAt := rfl
@[simp] theorem emit_logFrom (s : State) (o : Output) : (s.emit o).logFrom = s.logFrom := rfl
@[simp] theorem emit_far (s : State) (o : Output) : (s.emit o).far = s.far := rfl
@[simp] theorem emit_outer (s : State) (o : Output) : (s.emit o).outer = s.outer := rfl
@[simp] theorem emit_nearExch (s : State) (o : Output) : (s.emit o).nearExch = s.nearExch := rfl
@[simp] theorem emit_nearEx (s : State) (o : Output) : (s.emit o).nearEx = s.nearEx := rfl
@[simp] theorem emit_store (s : State) (o : Output) : (s.emit o).store = s.store := rfl
@[simp] theorem emit_plat (s : State) (o : Output) : (s.emit o).plat = s.plat := rfl
@[simp] theorem emit_test (s : State) (o : Output) : (s.emit o).test = s.test := rfl
@[simp] theorem emit_vc7 (s : State) (o : Output) : (s.emit o).vc7 = s.vc7 := rfl
@[simp] theorem emit_wrong (s : State) (o : Output) : (s.emit o).wrong = s.wrong := rfl
@[simp] theorem emit_spent (s : State) (o : Output) : (s.emit o).spent = s.spent := rfl
@[simp] theorem emit_foreign (s : State) (o : Output) : (s.emit o).foreign = s.foreign := rfl
@[simp] theorem emit_exporting (s : State) (o : Output) : (s.emit o).exporting = s.exporting := rfl
@[simp] theorem emit_roleChange (s : State) (o : Output) : (s.emit o).roleChange = s.roleChange := rfl
@[simp] theorem emit_restart (s : State) (o : Output) : (s.emit o).restart = s.restart := rfl

/-! ### draw -/

@[simp] theorem draw_pending (s : State) (w : Nat) : (s.draw w).2.pending = s.pending := rfl
@[simp] theorem draw_out (s : State) (w : Nat) : (s.draw w).2.out = s.out := rfl
@[simp] theorem draw_od (s : State) (w : Nat) : (s.draw w).2.od = s.od := rfl
@[simp] theorem draw_blob (s : State) (w : Nat) : (s.draw w).2.blob = s.blob := rfl
@[simp] theorem draw_mem (s : State) (w : Nat) : (s.draw w).2.mem = s.mem := rfl
@[simp] theorem draw_slow (s : State) (w : Nat) : (s.draw w).2.slow = s.slow := rfl
@[simp] theorem draw_pinions (s : State) (w : Nat) : (s.draw w).2.pinions = s.pinions := rfl
@[simp] theorem draw_barrels (s : State) (w : Nat) : (s.draw w).2.barrels = s.barrels := rfl
@[simp] theorem draw_syncs (s : State) (w : Nat) : (s.draw w).2.syncs = s.syncs := rfl
@[simp] theorem draw_units (s : State) (w : Nat) : (s.draw w).2.units = s.units := rfl
@[simp] theorem draw_t1s (s : State) (w : Nat) : (s.draw w).2.t1s = s.t1s := rfl
@[simp] theorem draw_bootRetired (s : State) (w : Nat) : (s.draw w).2.bootRetired = s.bootRetired := rfl
@[simp] theorem draw_changes (s : State) (w : Nat) : (s.draw w).2.changes = s.changes := rfl
@[simp] theorem draw_table (s : State) (w : Nat) : (s.draw w).2.table = s.table := rfl
@[simp] theorem draw_dieEsc (s : State) (w : Nat) : (s.draw w).2.dieEsc = s.dieEsc := rfl
@[simp] theorem draw_relStamp (s : State) (w : Nat) : (s.draw w).2.relStamp = s.relStamp := rfl
@[simp] theorem draw_shadowSeq (s : State) (w : Nat) : (s.draw w).2.shadowSeq = s.shadowSeq := rfl
@[simp] theorem draw_errLog (s : State) (w : Nat) : (s.draw w).2.errLog = s.errLog := rfl
@[simp] theorem draw_faultInfo (s : State) (w : Nat) : (s.draw w).2.faultInfo = s.faultInfo := rfl
@[simp] theorem draw_time (s : State) (w : Nat) : (s.draw w).2.time = s.time := rfl
@[simp] theorem draw_crown (s : State) (w : Nat) : (s.draw w).2.crown = s.crown := rfl
@[simp] theorem draw_beats (s : State) (w : Nat) : (s.draw w).2.beats = s.beats := rfl
@[simp] theorem draw_near (s : State) (w : Nat) : (s.draw w).2.near = s.near := rfl
@[simp] theorem draw_rx (s : State) (w : Nat) : (s.draw w).2.rx = s.rx := rfl
@[simp] theorem draw_noRoute (s : State) (w : Nat) : (s.draw w).2.noRoute = s.noRoute := rfl
@[simp] theorem draw_vc0Tx (s : State) (w : Nat) : (s.draw w).2.vc0Tx = s.vc0Tx := rfl
@[simp] theorem draw_vc0Rx (s : State) (w : Nat) : (s.draw w).2.vc0Rx = s.vc0Rx := rfl
@[simp] theorem draw_altPort (s : State) (w : Nat) : (s.draw w).2.altPort = s.altPort := rfl
@[simp] theorem draw_stopSent (s : State) (w : Nat) : (s.draw w).2.stopSent = s.stopSent := rfl
@[simp] theorem draw_coll (s : State) (w : Nat) : (s.draw w).2.coll = s.coll := rfl
@[simp] theorem draw_uqNext (s : State) (w : Nat) : (s.draw w).2.uqNext = s.uqNext := rfl
@[simp] theorem draw_qWait (s : State) (w : Nat) : (s.draw w).2.qWait = s.qWait := rfl
@[simp] theorem draw_siteStopping (s : State) (w : Nat) : (s.draw w).2.siteStopping = s.siteStopping := rfl
@[simp] theorem draw_logAt (s : State) (w : Nat) : (s.draw w).2.logAt = s.logAt := rfl
@[simp] theorem draw_logFrom (s : State) (w : Nat) : (s.draw w).2.logFrom = s.logFrom := rfl
@[simp] theorem draw_far (s : State) (w : Nat) : (s.draw w).2.far = s.far := rfl
@[simp] theorem draw_outer (s : State) (w : Nat) : (s.draw w).2.outer = s.outer := rfl
@[simp] theorem draw_nearExch (s : State) (w : Nat) : (s.draw w).2.nearExch = s.nearExch := rfl
@[simp] theorem draw_nearEx (s : State) (w : Nat) : (s.draw w).2.nearEx = s.nearEx := rfl
@[simp] theorem draw_store (s : State) (w : Nat) : (s.draw w).2.store = s.store := rfl
@[simp] theorem draw_plat (s : State) (w : Nat) : (s.draw w).2.plat = s.plat := rfl
@[simp] theorem draw_test (s : State) (w : Nat) : (s.draw w).2.test = s.test := rfl
@[simp] theorem draw_vc7 (s : State) (w : Nat) : (s.draw w).2.vc7 = s.vc7 := rfl
@[simp] theorem draw_wrong (s : State) (w : Nat) : (s.draw w).2.wrong = s.wrong := rfl
@[simp] theorem draw_spent (s : State) (w : Nat) : (s.draw w).2.spent = s.spent := rfl
@[simp] theorem draw_foreign (s : State) (w : Nat) : (s.draw w).2.foreign = s.foreign := rfl
@[simp] theorem draw_exporting (s : State) (w : Nat) : (s.draw w).2.exporting = s.exporting := rfl
@[simp] theorem draw_roleChange (s : State) (w : Nat) : (s.draw w).2.roleChange = s.roleChange := rfl
@[simp] theorem draw_restart (s : State) (w : Nat) : (s.draw w).2.restart = s.restart := rfl

/-! ### unitMod -/

@[simp] theorem unitMod_pending (s : State) (l i : Nat) (f : UnitSt → UnitSt) : (s.unitMod l i f).pending = s.pending := rfl
@[simp] theorem unitMod_free (s : State) (l i : Nat) (f : UnitSt → UnitSt) : (s.unitMod l i f).free = s.free := rfl
@[simp] theorem unitMod_out (s : State) (l i : Nat) (f : UnitSt → UnitSt) : (s.unitMod l i f).out = s.out := rfl
@[simp] theorem unitMod_od (s : State) (l i : Nat) (f : UnitSt → UnitSt) : (s.unitMod l i f).od = s.od := rfl
@[simp] theorem unitMod_blob (s : State) (l i : Nat) (f : UnitSt → UnitSt) : (s.unitMod l i f).blob = s.blob := rfl
@[simp] theorem unitMod_mem (s : State) (l i : Nat) (f : UnitSt → UnitSt) : (s.unitMod l i f).mem = s.mem := rfl
@[simp] theorem unitMod_slow (s : State) (l i : Nat) (f : UnitSt → UnitSt) : (s.unitMod l i f).slow = s.slow := rfl
@[simp] theorem unitMod_pinions (s : State) (l i : Nat) (f : UnitSt → UnitSt) : (s.unitMod l i f).pinions = s.pinions := rfl
@[simp] theorem unitMod_barrels (s : State) (l i : Nat) (f : UnitSt → UnitSt) : (s.unitMod l i f).barrels = s.barrels := rfl
@[simp] theorem unitMod_syncs (s : State) (l i : Nat) (f : UnitSt → UnitSt) : (s.unitMod l i f).syncs = s.syncs := rfl
@[simp] theorem unitMod_t1s (s : State) (l i : Nat) (f : UnitSt → UnitSt) : (s.unitMod l i f).t1s = s.t1s := rfl
@[simp] theorem unitMod_bootRetired (s : State) (l i : Nat) (f : UnitSt → UnitSt) : (s.unitMod l i f).bootRetired = s.bootRetired := rfl
@[simp] theorem unitMod_changes (s : State) (l i : Nat) (f : UnitSt → UnitSt) : (s.unitMod l i f).changes = s.changes := rfl
@[simp] theorem unitMod_table (s : State) (l i : Nat) (f : UnitSt → UnitSt) : (s.unitMod l i f).table = s.table := rfl
@[simp] theorem unitMod_dieEsc (s : State) (l i : Nat) (f : UnitSt → UnitSt) : (s.unitMod l i f).dieEsc = s.dieEsc := rfl
@[simp] theorem unitMod_relStamp (s : State) (l i : Nat) (f : UnitSt → UnitSt) : (s.unitMod l i f).relStamp = s.relStamp := rfl
@[simp] theorem unitMod_shadowSeq (s : State) (l i : Nat) (f : UnitSt → UnitSt) : (s.unitMod l i f).shadowSeq = s.shadowSeq := rfl
@[simp] theorem unitMod_errLog (s : State) (l i : Nat) (f : UnitSt → UnitSt) : (s.unitMod l i f).errLog = s.errLog := rfl
@[simp] theorem unitMod_faultInfo (s : State) (l i : Nat) (f : UnitSt → UnitSt) : (s.unitMod l i f).faultInfo = s.faultInfo := rfl
@[simp] theorem unitMod_time (s : State) (l i : Nat) (f : UnitSt → UnitSt) : (s.unitMod l i f).time = s.time := rfl
@[simp] theorem unitMod_crown (s : State) (l i : Nat) (f : UnitSt → UnitSt) : (s.unitMod l i f).crown = s.crown := rfl
@[simp] theorem unitMod_beats (s : State) (l i : Nat) (f : UnitSt → UnitSt) : (s.unitMod l i f).beats = s.beats := rfl
@[simp] theorem unitMod_near (s : State) (l i : Nat) (f : UnitSt → UnitSt) : (s.unitMod l i f).near = s.near := rfl
@[simp] theorem unitMod_rx (s : State) (l i : Nat) (f : UnitSt → UnitSt) : (s.unitMod l i f).rx = s.rx := rfl
@[simp] theorem unitMod_noRoute (s : State) (l i : Nat) (f : UnitSt → UnitSt) : (s.unitMod l i f).noRoute = s.noRoute := rfl
@[simp] theorem unitMod_vc0Tx (s : State) (l i : Nat) (f : UnitSt → UnitSt) : (s.unitMod l i f).vc0Tx = s.vc0Tx := rfl
@[simp] theorem unitMod_vc0Rx (s : State) (l i : Nat) (f : UnitSt → UnitSt) : (s.unitMod l i f).vc0Rx = s.vc0Rx := rfl
@[simp] theorem unitMod_altPort (s : State) (l i : Nat) (f : UnitSt → UnitSt) : (s.unitMod l i f).altPort = s.altPort := rfl
@[simp] theorem unitMod_stopSent (s : State) (l i : Nat) (f : UnitSt → UnitSt) : (s.unitMod l i f).stopSent = s.stopSent := rfl
@[simp] theorem unitMod_coll (s : State) (l i : Nat) (f : UnitSt → UnitSt) : (s.unitMod l i f).coll = s.coll := rfl
@[simp] theorem unitMod_uqNext (s : State) (l i : Nat) (f : UnitSt → UnitSt) : (s.unitMod l i f).uqNext = s.uqNext := rfl
@[simp] theorem unitMod_qWait (s : State) (l i : Nat) (f : UnitSt → UnitSt) : (s.unitMod l i f).qWait = s.qWait := rfl
@[simp] theorem unitMod_siteStopping (s : State) (l i : Nat) (f : UnitSt → UnitSt) : (s.unitMod l i f).siteStopping = s.siteStopping := rfl
@[simp] theorem unitMod_logAt (s : State) (l i : Nat) (f : UnitSt → UnitSt) : (s.unitMod l i f).logAt = s.logAt := rfl
@[simp] theorem unitMod_logFrom (s : State) (l i : Nat) (f : UnitSt → UnitSt) : (s.unitMod l i f).logFrom = s.logFrom := rfl
@[simp] theorem unitMod_far (s : State) (l i : Nat) (f : UnitSt → UnitSt) : (s.unitMod l i f).far = s.far := rfl
@[simp] theorem unitMod_outer (s : State) (l i : Nat) (f : UnitSt → UnitSt) : (s.unitMod l i f).outer = s.outer := rfl
@[simp] theorem unitMod_nearExch (s : State) (l i : Nat) (f : UnitSt → UnitSt) : (s.unitMod l i f).nearExch = s.nearExch := rfl
@[simp] theorem unitMod_nearEx (s : State) (l i : Nat) (f : UnitSt → UnitSt) : (s.unitMod l i f).nearEx = s.nearEx := rfl
@[simp] theorem unitMod_store (s : State) (l i : Nat) (f : UnitSt → UnitSt) : (s.unitMod l i f).store = s.store := rfl
@[simp] theorem unitMod_plat (s : State) (l i : Nat) (f : UnitSt → UnitSt) : (s.unitMod l i f).plat = s.plat := rfl
@[simp] theorem unitMod_test (s : State) (l i : Nat) (f : UnitSt → UnitSt) : (s.unitMod l i f).test = s.test := rfl
@[simp] theorem unitMod_vc7 (s : State) (l i : Nat) (f : UnitSt → UnitSt) : (s.unitMod l i f).vc7 = s.vc7 := rfl
@[simp] theorem unitMod_wrong (s : State) (l i : Nat) (f : UnitSt → UnitSt) : (s.unitMod l i f).wrong = s.wrong := rfl
@[simp] theorem unitMod_spent (s : State) (l i : Nat) (f : UnitSt → UnitSt) : (s.unitMod l i f).spent = s.spent := rfl
@[simp] theorem unitMod_foreign (s : State) (l i : Nat) (f : UnitSt → UnitSt) : (s.unitMod l i f).foreign = s.foreign := rfl
@[simp] theorem unitMod_exporting (s : State) (l i : Nat) (f : UnitSt → UnitSt) : (s.unitMod l i f).exporting = s.exporting := rfl
@[simp] theorem unitMod_roleChange (s : State) (l i : Nat) (f : UnitSt → UnitSt) : (s.unitMod l i f).roleChange = s.roleChange := rfl
@[simp] theorem unitMod_restart (s : State) (l i : Nat) (f : UnitSt → UnitSt) : (s.unitMod l i f).restart = s.restart := rfl

/-! ### t1Mod -/

@[simp] theorem t1Mod_pending (s : State) (i : Nat) (f : T1 → T1) : (s.t1Mod i f).pending = s.pending := rfl
@[simp] theorem t1Mod_free (s : State) (i : Nat) (f : T1 → T1) : (s.t1Mod i f).free = s.free := rfl
@[simp] theorem t1Mod_out (s : State) (i : Nat) (f : T1 → T1) : (s.t1Mod i f).out = s.out := rfl
@[simp] theorem t1Mod_od (s : State) (i : Nat) (f : T1 → T1) : (s.t1Mod i f).od = s.od := rfl
@[simp] theorem t1Mod_blob (s : State) (i : Nat) (f : T1 → T1) : (s.t1Mod i f).blob = s.blob := rfl
@[simp] theorem t1Mod_mem (s : State) (i : Nat) (f : T1 → T1) : (s.t1Mod i f).mem = s.mem := rfl
@[simp] theorem t1Mod_slow (s : State) (i : Nat) (f : T1 → T1) : (s.t1Mod i f).slow = s.slow := rfl
@[simp] theorem t1Mod_pinions (s : State) (i : Nat) (f : T1 → T1) : (s.t1Mod i f).pinions = s.pinions := rfl
@[simp] theorem t1Mod_barrels (s : State) (i : Nat) (f : T1 → T1) : (s.t1Mod i f).barrels = s.barrels := rfl
@[simp] theorem t1Mod_syncs (s : State) (i : Nat) (f : T1 → T1) : (s.t1Mod i f).syncs = s.syncs := rfl
@[simp] theorem t1Mod_units (s : State) (i : Nat) (f : T1 → T1) : (s.t1Mod i f).units = s.units := rfl
@[simp] theorem t1Mod_bootRetired (s : State) (i : Nat) (f : T1 → T1) : (s.t1Mod i f).bootRetired = s.bootRetired := rfl
@[simp] theorem t1Mod_changes (s : State) (i : Nat) (f : T1 → T1) : (s.t1Mod i f).changes = s.changes := rfl
@[simp] theorem t1Mod_table (s : State) (i : Nat) (f : T1 → T1) : (s.t1Mod i f).table = s.table := rfl
@[simp] theorem t1Mod_dieEsc (s : State) (i : Nat) (f : T1 → T1) : (s.t1Mod i f).dieEsc = s.dieEsc := rfl
@[simp] theorem t1Mod_relStamp (s : State) (i : Nat) (f : T1 → T1) : (s.t1Mod i f).relStamp = s.relStamp := rfl
@[simp] theorem t1Mod_shadowSeq (s : State) (i : Nat) (f : T1 → T1) : (s.t1Mod i f).shadowSeq = s.shadowSeq := rfl
@[simp] theorem t1Mod_errLog (s : State) (i : Nat) (f : T1 → T1) : (s.t1Mod i f).errLog = s.errLog := rfl
@[simp] theorem t1Mod_faultInfo (s : State) (i : Nat) (f : T1 → T1) : (s.t1Mod i f).faultInfo = s.faultInfo := rfl
@[simp] theorem t1Mod_time (s : State) (i : Nat) (f : T1 → T1) : (s.t1Mod i f).time = s.time := rfl
@[simp] theorem t1Mod_crown (s : State) (i : Nat) (f : T1 → T1) : (s.t1Mod i f).crown = s.crown := rfl
@[simp] theorem t1Mod_beats (s : State) (i : Nat) (f : T1 → T1) : (s.t1Mod i f).beats = s.beats := rfl
@[simp] theorem t1Mod_near (s : State) (i : Nat) (f : T1 → T1) : (s.t1Mod i f).near = s.near := rfl
@[simp] theorem t1Mod_rx (s : State) (i : Nat) (f : T1 → T1) : (s.t1Mod i f).rx = s.rx := rfl
@[simp] theorem t1Mod_noRoute (s : State) (i : Nat) (f : T1 → T1) : (s.t1Mod i f).noRoute = s.noRoute := rfl
@[simp] theorem t1Mod_vc0Tx (s : State) (i : Nat) (f : T1 → T1) : (s.t1Mod i f).vc0Tx = s.vc0Tx := rfl
@[simp] theorem t1Mod_vc0Rx (s : State) (i : Nat) (f : T1 → T1) : (s.t1Mod i f).vc0Rx = s.vc0Rx := rfl
@[simp] theorem t1Mod_altPort (s : State) (i : Nat) (f : T1 → T1) : (s.t1Mod i f).altPort = s.altPort := rfl
@[simp] theorem t1Mod_stopSent (s : State) (i : Nat) (f : T1 → T1) : (s.t1Mod i f).stopSent = s.stopSent := rfl
@[simp] theorem t1Mod_coll (s : State) (i : Nat) (f : T1 → T1) : (s.t1Mod i f).coll = s.coll := rfl
@[simp] theorem t1Mod_uqNext (s : State) (i : Nat) (f : T1 → T1) : (s.t1Mod i f).uqNext = s.uqNext := rfl
@[simp] theorem t1Mod_qWait (s : State) (i : Nat) (f : T1 → T1) : (s.t1Mod i f).qWait = s.qWait := rfl
@[simp] theorem t1Mod_siteStopping (s : State) (i : Nat) (f : T1 → T1) : (s.t1Mod i f).siteStopping = s.siteStopping := rfl
@[simp] theorem t1Mod_logAt (s : State) (i : Nat) (f : T1 → T1) : (s.t1Mod i f).logAt = s.logAt := rfl
@[simp] theorem t1Mod_logFrom (s : State) (i : Nat) (f : T1 → T1) : (s.t1Mod i f).logFrom = s.logFrom := rfl
@[simp] theorem t1Mod_far (s : State) (i : Nat) (f : T1 → T1) : (s.t1Mod i f).far = s.far := rfl
@[simp] theorem t1Mod_outer (s : State) (i : Nat) (f : T1 → T1) : (s.t1Mod i f).outer = s.outer := rfl
@[simp] theorem t1Mod_nearExch (s : State) (i : Nat) (f : T1 → T1) : (s.t1Mod i f).nearExch = s.nearExch := rfl
@[simp] theorem t1Mod_nearEx (s : State) (i : Nat) (f : T1 → T1) : (s.t1Mod i f).nearEx = s.nearEx := rfl
@[simp] theorem t1Mod_store (s : State) (i : Nat) (f : T1 → T1) : (s.t1Mod i f).store = s.store := rfl
@[simp] theorem t1Mod_plat (s : State) (i : Nat) (f : T1 → T1) : (s.t1Mod i f).plat = s.plat := rfl
@[simp] theorem t1Mod_test (s : State) (i : Nat) (f : T1 → T1) : (s.t1Mod i f).test = s.test := rfl
@[simp] theorem t1Mod_vc7 (s : State) (i : Nat) (f : T1 → T1) : (s.t1Mod i f).vc7 = s.vc7 := rfl
@[simp] theorem t1Mod_wrong (s : State) (i : Nat) (f : T1 → T1) : (s.t1Mod i f).wrong = s.wrong := rfl
@[simp] theorem t1Mod_spent (s : State) (i : Nat) (f : T1 → T1) : (s.t1Mod i f).spent = s.spent := rfl
@[simp] theorem t1Mod_foreign (s : State) (i : Nat) (f : T1 → T1) : (s.t1Mod i f).foreign = s.foreign := rfl
@[simp] theorem t1Mod_exporting (s : State) (i : Nat) (f : T1 → T1) : (s.t1Mod i f).exporting = s.exporting := rfl
@[simp] theorem t1Mod_roleChange (s : State) (i : Nat) (f : T1 → T1) : (s.t1Mod i f).roleChange = s.roleChange := rfl
@[simp] theorem t1Mod_restart (s : State) (i : Nat) (f : T1 → T1) : (s.t1Mod i f).restart = s.restart := rfl

/-! ### setPin -/

@[simp] theorem setPin_pending (s : State) (p : Nat) (x : Pinion) : (s.setPin p x).pending = s.pending := rfl
@[simp] theorem setPin_free (s : State) (p : Nat) (x : Pinion) : (s.setPin p x).free = s.free := rfl
@[simp] theorem setPin_out (s : State) (p : Nat) (x : Pinion) : (s.setPin p x).out = s.out := rfl
@[simp] theorem setPin_od (s : State) (p : Nat) (x : Pinion) : (s.setPin p x).od = s.od := rfl
@[simp] theorem setPin_blob (s : State) (p : Nat) (x : Pinion) : (s.setPin p x).blob = s.blob := rfl
@[simp] theorem setPin_mem (s : State) (p : Nat) (x : Pinion) : (s.setPin p x).mem = s.mem := rfl
@[simp] theorem setPin_slow (s : State) (p : Nat) (x : Pinion) : (s.setPin p x).slow = s.slow := rfl
@[simp] theorem setPin_barrels (s : State) (p : Nat) (x : Pinion) : (s.setPin p x).barrels = s.barrels := rfl
@[simp] theorem setPin_syncs (s : State) (p : Nat) (x : Pinion) : (s.setPin p x).syncs = s.syncs := rfl
@[simp] theorem setPin_units (s : State) (p : Nat) (x : Pinion) : (s.setPin p x).units = s.units := rfl
@[simp] theorem setPin_t1s (s : State) (p : Nat) (x : Pinion) : (s.setPin p x).t1s = s.t1s := rfl
@[simp] theorem setPin_bootRetired (s : State) (p : Nat) (x : Pinion) : (s.setPin p x).bootRetired = s.bootRetired := rfl
@[simp] theorem setPin_changes (s : State) (p : Nat) (x : Pinion) : (s.setPin p x).changes = s.changes := rfl
@[simp] theorem setPin_table (s : State) (p : Nat) (x : Pinion) : (s.setPin p x).table = s.table := rfl
@[simp] theorem setPin_dieEsc (s : State) (p : Nat) (x : Pinion) : (s.setPin p x).dieEsc = s.dieEsc := rfl
@[simp] theorem setPin_relStamp (s : State) (p : Nat) (x : Pinion) : (s.setPin p x).relStamp = s.relStamp := rfl
@[simp] theorem setPin_shadowSeq (s : State) (p : Nat) (x : Pinion) : (s.setPin p x).shadowSeq = s.shadowSeq := rfl
@[simp] theorem setPin_errLog (s : State) (p : Nat) (x : Pinion) : (s.setPin p x).errLog = s.errLog := rfl
@[simp] theorem setPin_faultInfo (s : State) (p : Nat) (x : Pinion) : (s.setPin p x).faultInfo = s.faultInfo := rfl
@[simp] theorem setPin_time (s : State) (p : Nat) (x : Pinion) : (s.setPin p x).time = s.time := rfl
@[simp] theorem setPin_crown (s : State) (p : Nat) (x : Pinion) : (s.setPin p x).crown = s.crown := rfl
@[simp] theorem setPin_beats (s : State) (p : Nat) (x : Pinion) : (s.setPin p x).beats = s.beats := rfl
@[simp] theorem setPin_near (s : State) (p : Nat) (x : Pinion) : (s.setPin p x).near = s.near := rfl
@[simp] theorem setPin_rx (s : State) (p : Nat) (x : Pinion) : (s.setPin p x).rx = s.rx := rfl
@[simp] theorem setPin_noRoute (s : State) (p : Nat) (x : Pinion) : (s.setPin p x).noRoute = s.noRoute := rfl
@[simp] theorem setPin_vc0Tx (s : State) (p : Nat) (x : Pinion) : (s.setPin p x).vc0Tx = s.vc0Tx := rfl
@[simp] theorem setPin_vc0Rx (s : State) (p : Nat) (x : Pinion) : (s.setPin p x).vc0Rx = s.vc0Rx := rfl
@[simp] theorem setPin_altPort (s : State) (p : Nat) (x : Pinion) : (s.setPin p x).altPort = s.altPort := rfl
@[simp] theorem setPin_stopSent (s : State) (p : Nat) (x : Pinion) : (s.setPin p x).stopSent = s.stopSent := rfl
@[simp] theorem setPin_coll (s : State) (p : Nat) (x : Pinion) : (s.setPin p x).coll = s.coll := rfl
@[simp] theorem setPin_uqNext (s : State) (p : Nat) (x : Pinion) : (s.setPin p x).uqNext = s.uqNext := rfl
@[simp] theorem setPin_qWait (s : State) (p : Nat) (x : Pinion) : (s.setPin p x).qWait = s.qWait := rfl
@[simp] theorem setPin_siteStopping (s : State) (p : Nat) (x : Pinion) : (s.setPin p x).siteStopping = s.siteStopping := rfl
@[simp] theorem setPin_logAt (s : State) (p : Nat) (x : Pinion) : (s.setPin p x).logAt = s.logAt := rfl
@[simp] theorem setPin_logFrom (s : State) (p : Nat) (x : Pinion) : (s.setPin p x).logFrom = s.logFrom := rfl
@[simp] theorem setPin_far (s : State) (p : Nat) (x : Pinion) : (s.setPin p x).far = s.far := rfl
@[simp] theorem setPin_outer (s : State) (p : Nat) (x : Pinion) : (s.setPin p x).outer = s.outer := rfl
@[simp] theorem setPin_nearExch (s : State) (p : Nat) (x : Pinion) : (s.setPin p x).nearExch = s.nearExch := rfl
@[simp] theorem setPin_nearEx (s : State) (p : Nat) (x : Pinion) : (s.setPin p x).nearEx = s.nearEx := rfl
@[simp] theorem setPin_store (s : State) (p : Nat) (x : Pinion) : (s.setPin p x).store = s.store := rfl
@[simp] theorem setPin_plat (s : State) (p : Nat) (x : Pinion) : (s.setPin p x).plat = s.plat := rfl
@[simp] theorem setPin_test (s : State) (p : Nat) (x : Pinion) : (s.setPin p x).test = s.test := rfl
@[simp] theorem setPin_vc7 (s : State) (p : Nat) (x : Pinion) : (s.setPin p x).vc7 = s.vc7 := rfl
@[simp] theorem setPin_wrong (s : State) (p : Nat) (x : Pinion) : (s.setPin p x).wrong = s.wrong := rfl
@[simp] theorem setPin_spent (s : State) (p : Nat) (x : Pinion) : (s.setPin p x).spent = s.spent := rfl
@[simp] theorem setPin_foreign (s : State) (p : Nat) (x : Pinion) : (s.setPin p x).foreign = s.foreign := rfl
@[simp] theorem setPin_exporting (s : State) (p : Nat) (x : Pinion) : (s.setPin p x).exporting = s.exporting := rfl
@[simp] theorem setPin_roleChange (s : State) (p : Nat) (x : Pinion) : (s.setPin p x).roleChange = s.roleChange := rfl
@[simp] theorem setPin_restart (s : State) (p : Nat) (x : Pinion) : (s.setPin p x).restart = s.restart := rfl

/-! ### pinMod -/

@[simp] theorem pinMod_pending (s : State) (p : Nat) (f : Pinion → Pinion) : (s.pinMod p f).pending = s.pending := rfl
@[simp] theorem pinMod_free (s : State) (p : Nat) (f : Pinion → Pinion) : (s.pinMod p f).free = s.free := rfl
@[simp] theorem pinMod_out (s : State) (p : Nat) (f : Pinion → Pinion) : (s.pinMod p f).out = s.out := rfl
@[simp] theorem pinMod_od (s : State) (p : Nat) (f : Pinion → Pinion) : (s.pinMod p f).od = s.od := rfl
@[simp] theorem pinMod_blob (s : State) (p : Nat) (f : Pinion → Pinion) : (s.pinMod p f).blob = s.blob := rfl
@[simp] theorem pinMod_mem (s : State) (p : Nat) (f : Pinion → Pinion) : (s.pinMod p f).mem = s.mem := rfl
@[simp] theorem pinMod_slow (s : State) (p : Nat) (f : Pinion → Pinion) : (s.pinMod p f).slow = s.slow := rfl
@[simp] theorem pinMod_barrels (s : State) (p : Nat) (f : Pinion → Pinion) : (s.pinMod p f).barrels = s.barrels := rfl
@[simp] theorem pinMod_syncs (s : State) (p : Nat) (f : Pinion → Pinion) : (s.pinMod p f).syncs = s.syncs := rfl
@[simp] theorem pinMod_units (s : State) (p : Nat) (f : Pinion → Pinion) : (s.pinMod p f).units = s.units := rfl
@[simp] theorem pinMod_t1s (s : State) (p : Nat) (f : Pinion → Pinion) : (s.pinMod p f).t1s = s.t1s := rfl
@[simp] theorem pinMod_bootRetired (s : State) (p : Nat) (f : Pinion → Pinion) : (s.pinMod p f).bootRetired = s.bootRetired := rfl
@[simp] theorem pinMod_changes (s : State) (p : Nat) (f : Pinion → Pinion) : (s.pinMod p f).changes = s.changes := rfl
@[simp] theorem pinMod_table (s : State) (p : Nat) (f : Pinion → Pinion) : (s.pinMod p f).table = s.table := rfl
@[simp] theorem pinMod_dieEsc (s : State) (p : Nat) (f : Pinion → Pinion) : (s.pinMod p f).dieEsc = s.dieEsc := rfl
@[simp] theorem pinMod_relStamp (s : State) (p : Nat) (f : Pinion → Pinion) : (s.pinMod p f).relStamp = s.relStamp := rfl
@[simp] theorem pinMod_shadowSeq (s : State) (p : Nat) (f : Pinion → Pinion) : (s.pinMod p f).shadowSeq = s.shadowSeq := rfl
@[simp] theorem pinMod_errLog (s : State) (p : Nat) (f : Pinion → Pinion) : (s.pinMod p f).errLog = s.errLog := rfl
@[simp] theorem pinMod_faultInfo (s : State) (p : Nat) (f : Pinion → Pinion) : (s.pinMod p f).faultInfo = s.faultInfo := rfl
@[simp] theorem pinMod_time (s : State) (p : Nat) (f : Pinion → Pinion) : (s.pinMod p f).time = s.time := rfl
@[simp] theorem pinMod_crown (s : State) (p : Nat) (f : Pinion → Pinion) : (s.pinMod p f).crown = s.crown := rfl
@[simp] theorem pinMod_beats (s : State) (p : Nat) (f : Pinion → Pinion) : (s.pinMod p f).beats = s.beats := rfl
@[simp] theorem pinMod_near (s : State) (p : Nat) (f : Pinion → Pinion) : (s.pinMod p f).near = s.near := rfl
@[simp] theorem pinMod_rx (s : State) (p : Nat) (f : Pinion → Pinion) : (s.pinMod p f).rx = s.rx := rfl
@[simp] theorem pinMod_noRoute (s : State) (p : Nat) (f : Pinion → Pinion) : (s.pinMod p f).noRoute = s.noRoute := rfl
@[simp] theorem pinMod_vc0Tx (s : State) (p : Nat) (f : Pinion → Pinion) : (s.pinMod p f).vc0Tx = s.vc0Tx := rfl
@[simp] theorem pinMod_vc0Rx (s : State) (p : Nat) (f : Pinion → Pinion) : (s.pinMod p f).vc0Rx = s.vc0Rx := rfl
@[simp] theorem pinMod_altPort (s : State) (p : Nat) (f : Pinion → Pinion) : (s.pinMod p f).altPort = s.altPort := rfl
@[simp] theorem pinMod_stopSent (s : State) (p : Nat) (f : Pinion → Pinion) : (s.pinMod p f).stopSent = s.stopSent := rfl
@[simp] theorem pinMod_coll (s : State) (p : Nat) (f : Pinion → Pinion) : (s.pinMod p f).coll = s.coll := rfl
@[simp] theorem pinMod_uqNext (s : State) (p : Nat) (f : Pinion → Pinion) : (s.pinMod p f).uqNext = s.uqNext := rfl
@[simp] theorem pinMod_qWait (s : State) (p : Nat) (f : Pinion → Pinion) : (s.pinMod p f).qWait = s.qWait := rfl
@[simp] theorem pinMod_siteStopping (s : State) (p : Nat) (f : Pinion → Pinion) : (s.pinMod p f).siteStopping = s.siteStopping := rfl
@[simp] theorem pinMod_logAt (s : State) (p : Nat) (f : Pinion → Pinion) : (s.pinMod p f).logAt = s.logAt := rfl
@[simp] theorem pinMod_logFrom (s : State) (p : Nat) (f : Pinion → Pinion) : (s.pinMod p f).logFrom = s.logFrom := rfl
@[simp] theorem pinMod_far (s : State) (p : Nat) (f : Pinion → Pinion) : (s.pinMod p f).far = s.far := rfl
@[simp] theorem pinMod_outer (s : State) (p : Nat) (f : Pinion → Pinion) : (s.pinMod p f).outer = s.outer := rfl
@[simp] theorem pinMod_nearExch (s : State) (p : Nat) (f : Pinion → Pinion) : (s.pinMod p f).nearExch = s.nearExch := rfl
@[simp] theorem pinMod_nearEx (s : State) (p : Nat) (f : Pinion → Pinion) : (s.pinMod p f).nearEx = s.nearEx := rfl
@[simp] theorem pinMod_store (s : State) (p : Nat) (f : Pinion → Pinion) : (s.pinMod p f).store = s.store := rfl
@[simp] theorem pinMod_plat (s : State) (p : Nat) (f : Pinion → Pinion) : (s.pinMod p f).plat = s.plat := rfl
@[simp] theorem pinMod_test (s : State) (p : Nat) (f : Pinion → Pinion) : (s.pinMod p f).test = s.test := rfl
@[simp] theorem pinMod_vc7 (s : State) (p : Nat) (f : Pinion → Pinion) : (s.pinMod p f).vc7 = s.vc7 := rfl
@[simp] theorem pinMod_wrong (s : State) (p : Nat) (f : Pinion → Pinion) : (s.pinMod p f).wrong = s.wrong := rfl
@[simp] theorem pinMod_spent (s : State) (p : Nat) (f : Pinion → Pinion) : (s.pinMod p f).spent = s.spent := rfl
@[simp] theorem pinMod_foreign (s : State) (p : Nat) (f : Pinion → Pinion) : (s.pinMod p f).foreign = s.foreign := rfl
@[simp] theorem pinMod_exporting (s : State) (p : Nat) (f : Pinion → Pinion) : (s.pinMod p f).exporting = s.exporting := rfl
@[simp] theorem pinMod_roleChange (s : State) (p : Nat) (f : Pinion → Pinion) : (s.pinMod p f).roleChange = s.roleChange := rfl
@[simp] theorem pinMod_restart (s : State) (p : Nat) (f : Pinion → Pinion) : (s.pinMod p f).restart = s.restart := rfl

/-! ### setHand -/

@[simp] theorem setHand_pending (s : State) (p h : Nat) (d : Hand) : (s.setHand p h d).pending = s.pending := rfl
@[simp] theorem setHand_free (s : State) (p h : Nat) (d : Hand) : (s.setHand p h d).free = s.free := rfl
@[simp] theorem setHand_out (s : State) (p h : Nat) (d : Hand) : (s.setHand p h d).out = s.out := rfl
@[simp] theorem setHand_od (s : State) (p h : Nat) (d : Hand) : (s.setHand p h d).od = s.od := rfl
@[simp] theorem setHand_blob (s : State) (p h : Nat) (d : Hand) : (s.setHand p h d).blob = s.blob := rfl
@[simp] theorem setHand_mem (s : State) (p h : Nat) (d : Hand) : (s.setHand p h d).mem = s.mem := rfl
@[simp] theorem setHand_slow (s : State) (p h : Nat) (d : Hand) : (s.setHand p h d).slow = s.slow := rfl
@[simp] theorem setHand_barrels (s : State) (p h : Nat) (d : Hand) : (s.setHand p h d).barrels = s.barrels := rfl
@[simp] theorem setHand_syncs (s : State) (p h : Nat) (d : Hand) : (s.setHand p h d).syncs = s.syncs := rfl
@[simp] theorem setHand_units (s : State) (p h : Nat) (d : Hand) : (s.setHand p h d).units = s.units := rfl
@[simp] theorem setHand_t1s (s : State) (p h : Nat) (d : Hand) : (s.setHand p h d).t1s = s.t1s := rfl
@[simp] theorem setHand_bootRetired (s : State) (p h : Nat) (d : Hand) : (s.setHand p h d).bootRetired = s.bootRetired := rfl
@[simp] theorem setHand_changes (s : State) (p h : Nat) (d : Hand) : (s.setHand p h d).changes = s.changes := rfl
@[simp] theorem setHand_table (s : State) (p h : Nat) (d : Hand) : (s.setHand p h d).table = s.table := rfl
@[simp] theorem setHand_dieEsc (s : State) (p h : Nat) (d : Hand) : (s.setHand p h d).dieEsc = s.dieEsc := rfl
@[simp] theorem setHand_relStamp (s : State) (p h : Nat) (d : Hand) : (s.setHand p h d).relStamp = s.relStamp := rfl
@[simp] theorem setHand_shadowSeq (s : State) (p h : Nat) (d : Hand) : (s.setHand p h d).shadowSeq = s.shadowSeq := rfl
@[simp] theorem setHand_errLog (s : State) (p h : Nat) (d : Hand) : (s.setHand p h d).errLog = s.errLog := rfl
@[simp] theorem setHand_faultInfo (s : State) (p h : Nat) (d : Hand) : (s.setHand p h d).faultInfo = s.faultInfo := rfl
@[simp] theorem setHand_time (s : State) (p h : Nat) (d : Hand) : (s.setHand p h d).time = s.time := rfl
@[simp] theorem setHand_crown (s : State) (p h : Nat) (d : Hand) : (s.setHand p h d).crown = s.crown := rfl
@[simp] theorem setHand_beats (s : State) (p h : Nat) (d : Hand) : (s.setHand p h d).beats = s.beats := rfl
@[simp] theorem setHand_near (s : State) (p h : Nat) (d : Hand) : (s.setHand p h d).near = s.near := rfl
@[simp] theorem setHand_rx (s : State) (p h : Nat) (d : Hand) : (s.setHand p h d).rx = s.rx := rfl
@[simp] theorem setHand_noRoute (s : State) (p h : Nat) (d : Hand) : (s.setHand p h d).noRoute = s.noRoute := rfl
@[simp] theorem setHand_vc0Tx (s : State) (p h : Nat) (d : Hand) : (s.setHand p h d).vc0Tx = s.vc0Tx := rfl
@[simp] theorem setHand_vc0Rx (s : State) (p h : Nat) (d : Hand) : (s.setHand p h d).vc0Rx = s.vc0Rx := rfl
@[simp] theorem setHand_altPort (s : State) (p h : Nat) (d : Hand) : (s.setHand p h d).altPort = s.altPort := rfl
@[simp] theorem setHand_stopSent (s : State) (p h : Nat) (d : Hand) : (s.setHand p h d).stopSent = s.stopSent := rfl
@[simp] theorem setHand_coll (s : State) (p h : Nat) (d : Hand) : (s.setHand p h d).coll = s.coll := rfl
@[simp] theorem setHand_uqNext (s : State) (p h : Nat) (d : Hand) : (s.setHand p h d).uqNext = s.uqNext := rfl
@[simp] theorem setHand_qWait (s : State) (p h : Nat) (d : Hand) : (s.setHand p h d).qWait = s.qWait := rfl
@[simp] theorem setHand_siteStopping (s : State) (p h : Nat) (d : Hand) : (s.setHand p h d).siteStopping = s.siteStopping := rfl
@[simp] theorem setHand_logAt (s : State) (p h : Nat) (d : Hand) : (s.setHand p h d).logAt = s.logAt := rfl
@[simp] theorem setHand_logFrom (s : State) (p h : Nat) (d : Hand) : (s.setHand p h d).logFrom = s.logFrom := rfl
@[simp] theorem setHand_far (s : State) (p h : Nat) (d : Hand) : (s.setHand p h d).far = s.far := rfl
@[simp] theorem setHand_outer (s : State) (p h : Nat) (d : Hand) : (s.setHand p h d).outer = s.outer := rfl
@[simp] theorem setHand_nearExch (s : State) (p h : Nat) (d : Hand) : (s.setHand p h d).nearExch = s.nearExch := rfl
@[simp] theorem setHand_nearEx (s : State) (p h : Nat) (d : Hand) : (s.setHand p h d).nearEx = s.nearEx := rfl
@[simp] theorem setHand_store (s : State) (p h : Nat) (d : Hand) : (s.setHand p h d).store = s.store := rfl
@[simp] theorem setHand_plat (s : State) (p h : Nat) (d : Hand) : (s.setHand p h d).plat = s.plat := rfl
@[simp] theorem setHand_test (s : State) (p h : Nat) (d : Hand) : (s.setHand p h d).test = s.test := rfl
@[simp] theorem setHand_vc7 (s : State) (p h : Nat) (d : Hand) : (s.setHand p h d).vc7 = s.vc7 := rfl
@[simp] theorem setHand_wrong (s : State) (p h : Nat) (d : Hand) : (s.setHand p h d).wrong = s.wrong := rfl
@[simp] theorem setHand_spent (s : State) (p h : Nat) (d : Hand) : (s.setHand p h d).spent = s.spent := rfl
@[simp] theorem setHand_foreign (s : State) (p h : Nat) (d : Hand) : (s.setHand p h d).foreign = s.foreign := rfl
@[simp] theorem setHand_exporting (s : State) (p h : Nat) (d : Hand) : (s.setHand p h d).exporting = s.exporting := rfl
@[simp] theorem setHand_roleChange (s : State) (p h : Nat) (d : Hand) : (s.setHand p h d).roleChange = s.roleChange := rfl
@[simp] theorem setHand_restart (s : State) (p h : Nat) (d : Hand) : (s.setHand p h d).restart = s.restart := rfl

/-! ### bumpBy -/

@[simp] theorem bumpBy_pending (s : State) (i j n : Nat) : (s.bumpBy i j n).pending = s.pending := rfl
@[simp] theorem bumpBy_free (s : State) (i j n : Nat) : (s.bumpBy i j n).free = s.free := rfl
@[simp] theorem bumpBy_out (s : State) (i j n : Nat) : (s.bumpBy i j n).out = s.out := rfl
@[simp] theorem bumpBy_blob (s : State) (i j n : Nat) : (s.bumpBy i j n).blob = s.blob := rfl
@[simp] theorem bumpBy_mem (s : State) (i j n : Nat) : (s.bumpBy i j n).mem = s.mem := rfl
@[simp] theorem bumpBy_slow (s : State) (i j n : Nat) : (s.bumpBy i j n).slow = s.slow := rfl
@[simp] theorem bumpBy_pinions (s : State) (i j n : Nat) : (s.bumpBy i j n).pinions = s.pinions := rfl
@[simp] theorem bumpBy_barrels (s : State) (i j n : Nat) : (s.bumpBy i j n).barrels = s.barrels := rfl
@[simp] theorem bumpBy_syncs (s : State) (i j n : Nat) : (s.bumpBy i j n).syncs = s.syncs := rfl
@[simp] theorem bumpBy_units (s : State) (i j n : Nat) : (s.bumpBy i j n).units = s.units := rfl
@[simp] theorem bumpBy_t1s (s : State) (i j n : Nat) : (s.bumpBy i j n).t1s = s.t1s := rfl
@[simp] theorem bumpBy_bootRetired (s : State) (i j n : Nat) : (s.bumpBy i j n).bootRetired = s.bootRetired := rfl
@[simp] theorem bumpBy_changes (s : State) (i j n : Nat) : (s.bumpBy i j n).changes = s.changes := rfl
@[simp] theorem bumpBy_table (s : State) (i j n : Nat) : (s.bumpBy i j n).table = s.table := rfl
@[simp] theorem bumpBy_dieEsc (s : State) (i j n : Nat) : (s.bumpBy i j n).dieEsc = s.dieEsc := rfl
@[simp] theorem bumpBy_relStamp (s : State) (i j n : Nat) : (s.bumpBy i j n).relStamp = s.relStamp := rfl
@[simp] theorem bumpBy_shadowSeq (s : State) (i j n : Nat) : (s.bumpBy i j n).shadowSeq = s.shadowSeq := rfl
@[simp] theorem bumpBy_errLog (s : State) (i j n : Nat) : (s.bumpBy i j n).errLog = s.errLog := rfl
@[simp] theorem bumpBy_faultInfo (s : State) (i j n : Nat) : (s.bumpBy i j n).faultInfo = s.faultInfo := rfl
@[simp] theorem bumpBy_time (s : State) (i j n : Nat) : (s.bumpBy i j n).time = s.time := rfl
@[simp] theorem bumpBy_crown (s : State) (i j n : Nat) : (s.bumpBy i j n).crown = s.crown := rfl
@[simp] theorem bumpBy_beats (s : State) (i j n : Nat) : (s.bumpBy i j n).beats = s.beats := rfl
@[simp] theorem bumpBy_near (s : State) (i j n : Nat) : (s.bumpBy i j n).near = s.near := rfl
@[simp] theorem bumpBy_rx (s : State) (i j n : Nat) : (s.bumpBy i j n).rx = s.rx := rfl
@[simp] theorem bumpBy_noRoute (s : State) (i j n : Nat) : (s.bumpBy i j n).noRoute = s.noRoute := rfl
@[simp] theorem bumpBy_vc0Tx (s : State) (i j n : Nat) : (s.bumpBy i j n).vc0Tx = s.vc0Tx := rfl
@[simp] theorem bumpBy_vc0Rx (s : State) (i j n : Nat) : (s.bumpBy i j n).vc0Rx = s.vc0Rx := rfl
@[simp] theorem bumpBy_altPort (s : State) (i j n : Nat) : (s.bumpBy i j n).altPort = s.altPort := rfl
@[simp] theorem bumpBy_stopSent (s : State) (i j n : Nat) : (s.bumpBy i j n).stopSent = s.stopSent := rfl
@[simp] theorem bumpBy_coll (s : State) (i j n : Nat) : (s.bumpBy i j n).coll = s.coll := rfl
@[simp] theorem bumpBy_uqNext (s : State) (i j n : Nat) : (s.bumpBy i j n).uqNext = s.uqNext := rfl
@[simp] theorem bumpBy_qWait (s : State) (i j n : Nat) : (s.bumpBy i j n).qWait = s.qWait := rfl
@[simp] theorem bumpBy_siteStopping (s : State) (i j n : Nat) : (s.bumpBy i j n).siteStopping = s.siteStopping := rfl
@[simp] theorem bumpBy_logAt (s : State) (i j n : Nat) : (s.bumpBy i j n).logAt = s.logAt := rfl
@[simp] theorem bumpBy_logFrom (s : State) (i j n : Nat) : (s.bumpBy i j n).logFrom = s.logFrom := rfl
@[simp] theorem bumpBy_far (s : State) (i j n : Nat) : (s.bumpBy i j n).far = s.far := rfl
@[simp] theorem bumpBy_outer (s : State) (i j n : Nat) : (s.bumpBy i j n).outer = s.outer := rfl
@[simp] theorem bumpBy_nearExch (s : State) (i j n : Nat) : (s.bumpBy i j n).nearExch = s.nearExch := rfl
@[simp] theorem bumpBy_nearEx (s : State) (i j n : Nat) : (s.bumpBy i j n).nearEx = s.nearEx := rfl
@[simp] theorem bumpBy_store (s : State) (i j n : Nat) : (s.bumpBy i j n).store = s.store := rfl
@[simp] theorem bumpBy_plat (s : State) (i j n : Nat) : (s.bumpBy i j n).plat = s.plat := rfl
@[simp] theorem bumpBy_test (s : State) (i j n : Nat) : (s.bumpBy i j n).test = s.test := rfl
@[simp] theorem bumpBy_vc7 (s : State) (i j n : Nat) : (s.bumpBy i j n).vc7 = s.vc7 := rfl
@[simp] theorem bumpBy_wrong (s : State) (i j n : Nat) : (s.bumpBy i j n).wrong = s.wrong := rfl
@[simp] theorem bumpBy_spent (s : State) (i j n : Nat) : (s.bumpBy i j n).spent = s.spent := rfl
@[simp] theorem bumpBy_foreign (s : State) (i j n : Nat) : (s.bumpBy i j n).foreign = s.foreign := rfl
@[simp] theorem bumpBy_exporting (s : State) (i j n : Nat) : (s.bumpBy i j n).exporting = s.exporting := rfl
@[simp] theorem bumpBy_roleChange (s : State) (i j n : Nat) : (s.bumpBy i j n).roleChange = s.roleChange := rfl
@[simp] theorem bumpBy_restart (s : State) (i j n : Nat) : (s.bumpBy i j n).restart = s.restart := rfl

/-! ### bump -/

@[simp] theorem bump_pending (s : State) (i j : Nat) : (s.bump i j).pending = s.pending := rfl
@[simp] theorem bump_free (s : State) (i j : Nat) : (s.bump i j).free = s.free := rfl
@[simp] theorem bump_out (s : State) (i j : Nat) : (s.bump i j).out = s.out := rfl
@[simp] theorem bump_blob (s : State) (i j : Nat) : (s.bump i j).blob = s.blob := rfl
@[simp] theorem bump_mem (s : State) (i j : Nat) : (s.bump i j).mem = s.mem := rfl
@[simp] theorem bump_slow (s : State) (i j : Nat) : (s.bump i j).slow = s.slow := rfl
@[simp] theorem bump_pinions (s : State) (i j : Nat) : (s.bump i j).pinions = s.pinions := rfl
@[simp] theorem bump_barrels (s : State) (i j : Nat) : (s.bump i j).barrels = s.barrels := rfl
@[simp] theorem bump_syncs (s : State) (i j : Nat) : (s.bump i j).syncs = s.syncs := rfl
@[simp] theorem bump_units (s : State) (i j : Nat) : (s.bump i j).units = s.units := rfl
@[simp] theorem bump_t1s (s : State) (i j : Nat) : (s.bump i j).t1s = s.t1s := rfl
@[simp] theorem bump_bootRetired (s : State) (i j : Nat) : (s.bump i j).bootRetired = s.bootRetired := rfl
@[simp] theorem bump_changes (s : State) (i j : Nat) : (s.bump i j).changes = s.changes := rfl
@[simp] theorem bump_table (s : State) (i j : Nat) : (s.bump i j).table = s.table := rfl
@[simp] theorem bump_dieEsc (s : State) (i j : Nat) : (s.bump i j).dieEsc = s.dieEsc := rfl
@[simp] theorem bump_relStamp (s : State) (i j : Nat) : (s.bump i j).relStamp = s.relStamp := rfl
@[simp] theorem bump_shadowSeq (s : State) (i j : Nat) : (s.bump i j).shadowSeq = s.shadowSeq := rfl
@[simp] theorem bump_errLog (s : State) (i j : Nat) : (s.bump i j).errLog = s.errLog := rfl
@[simp] theorem bump_faultInfo (s : State) (i j : Nat) : (s.bump i j).faultInfo = s.faultInfo := rfl
@[simp] theorem bump_time (s : State) (i j : Nat) : (s.bump i j).time = s.time := rfl
@[simp] theorem bump_crown (s : State) (i j : Nat) : (s.bump i j).crown = s.crown := rfl
@[simp] theorem bump_beats (s : State) (i j : Nat) : (s.bump i j).beats = s.beats := rfl
@[simp] theorem bump_near (s : State) (i j : Nat) : (s.bump i j).near = s.near := rfl
@[simp] theorem bump_rx (s : State) (i j : Nat) : (s.bump i j).rx = s.rx := rfl
@[simp] theorem bump_noRoute (s : State) (i j : Nat) : (s.bump i j).noRoute = s.noRoute := rfl
@[simp] theorem bump_vc0Tx (s : State) (i j : Nat) : (s.bump i j).vc0Tx = s.vc0Tx := rfl
@[simp] theorem bump_vc0Rx (s : State) (i j : Nat) : (s.bump i j).vc0Rx = s.vc0Rx := rfl
@[simp] theorem bump_altPort (s : State) (i j : Nat) : (s.bump i j).altPort = s.altPort := rfl
@[simp] theorem bump_stopSent (s : State) (i j : Nat) : (s.bump i j).stopSent = s.stopSent := rfl
@[simp] theorem bump_coll (s : State) (i j : Nat) : (s.bump i j).coll = s.coll := rfl
@[simp] theorem bump_uqNext (s : State) (i j : Nat) : (s.bump i j).uqNext = s.uqNext := rfl
@[simp] theorem bump_qWait (s : State) (i j : Nat) : (s.bump i j).qWait = s.qWait := rfl
@[simp] theorem bump_siteStopping (s : State) (i j : Nat) : (s.bump i j).siteStopping = s.siteStopping := rfl
@[simp] theorem bump_logAt (s : State) (i j : Nat) : (s.bump i j).logAt = s.logAt := rfl
@[simp] theorem bump_logFrom (s : State) (i j : Nat) : (s.bump i j).logFrom = s.logFrom := rfl
@[simp] theorem bump_far (s : State) (i j : Nat) : (s.bump i j).far = s.far := rfl
@[simp] theorem bump_outer (s : State) (i j : Nat) : (s.bump i j).outer = s.outer := rfl
@[simp] theorem bump_nearExch (s : State) (i j : Nat) : (s.bump i j).nearExch = s.nearExch := rfl
@[simp] theorem bump_nearEx (s : State) (i j : Nat) : (s.bump i j).nearEx = s.nearEx := rfl
@[simp] theorem bump_store (s : State) (i j : Nat) : (s.bump i j).store = s.store := rfl
@[simp] theorem bump_plat (s : State) (i j : Nat) : (s.bump i j).plat = s.plat := rfl
@[simp] theorem bump_test (s : State) (i j : Nat) : (s.bump i j).test = s.test := rfl
@[simp] theorem bump_vc7 (s : State) (i j : Nat) : (s.bump i j).vc7 = s.vc7 := rfl
@[simp] theorem bump_wrong (s : State) (i j : Nat) : (s.bump i j).wrong = s.wrong := rfl
@[simp] theorem bump_spent (s : State) (i j : Nat) : (s.bump i j).spent = s.spent := rfl
@[simp] theorem bump_foreign (s : State) (i j : Nat) : (s.bump i j).foreign = s.foreign := rfl
@[simp] theorem bump_exporting (s : State) (i j : Nat) : (s.bump i j).exporting = s.exporting := rfl
@[simp] theorem bump_roleChange (s : State) (i j : Nat) : (s.bump i j).roleChange = s.roleChange := rfl
@[simp] theorem bump_restart (s : State) (i j : Nat) : (s.bump i j).restart = s.restart := rfl

/-! ### shadowTouch -/

@[simp] theorem shadowTouch_pending (s : State) : (s.shadowTouch).pending = s.pending := rfl
@[simp] theorem shadowTouch_free (s : State) : (s.shadowTouch).free = s.free := rfl
@[simp] theorem shadowTouch_out (s : State) : (s.shadowTouch).out = s.out := rfl
@[simp] theorem shadowTouch_od (s : State) : (s.shadowTouch).od = s.od := rfl
@[simp] theorem shadowTouch_blob (s : State) : (s.shadowTouch).blob = s.blob := rfl
@[simp] theorem shadowTouch_mem (s : State) : (s.shadowTouch).mem = s.mem := rfl
@[simp] theorem shadowTouch_slow (s : State) : (s.shadowTouch).slow = s.slow := rfl
@[simp] theorem shadowTouch_pinions (s : State) : (s.shadowTouch).pinions = s.pinions := rfl
@[simp] theorem shadowTouch_barrels (s : State) : (s.shadowTouch).barrels = s.barrels := rfl
@[simp] theorem shadowTouch_syncs (s : State) : (s.shadowTouch).syncs = s.syncs := rfl
@[simp] theorem shadowTouch_units (s : State) : (s.shadowTouch).units = s.units := rfl
@[simp] theorem shadowTouch_t1s (s : State) : (s.shadowTouch).t1s = s.t1s := rfl
@[simp] theorem shadowTouch_bootRetired (s : State) : (s.shadowTouch).bootRetired = s.bootRetired := rfl
@[simp] theorem shadowTouch_changes (s : State) : (s.shadowTouch).changes = s.changes := rfl
@[simp] theorem shadowTouch_table (s : State) : (s.shadowTouch).table = s.table := rfl
@[simp] theorem shadowTouch_dieEsc (s : State) : (s.shadowTouch).dieEsc = s.dieEsc := rfl
@[simp] theorem shadowTouch_relStamp (s : State) : (s.shadowTouch).relStamp = s.relStamp := rfl
@[simp] theorem shadowTouch_errLog (s : State) : (s.shadowTouch).errLog = s.errLog := rfl
@[simp] theorem shadowTouch_faultInfo (s : State) : (s.shadowTouch).faultInfo = s.faultInfo := rfl
@[simp] theorem shadowTouch_time (s : State) : (s.shadowTouch).time = s.time := rfl
@[simp] theorem shadowTouch_crown (s : State) : (s.shadowTouch).crown = s.crown := rfl
@[simp] theorem shadowTouch_beats (s : State) : (s.shadowTouch).beats = s.beats := rfl
@[simp] theorem shadowTouch_near (s : State) : (s.shadowTouch).near = s.near := rfl
@[simp] theorem shadowTouch_rx (s : State) : (s.shadowTouch).rx = s.rx := rfl
@[simp] theorem shadowTouch_noRoute (s : State) : (s.shadowTouch).noRoute = s.noRoute := rfl
@[simp] theorem shadowTouch_vc0Tx (s : State) : (s.shadowTouch).vc0Tx = s.vc0Tx := rfl
@[simp] theorem shadowTouch_vc0Rx (s : State) : (s.shadowTouch).vc0Rx = s.vc0Rx := rfl
@[simp] theorem shadowTouch_altPort (s : State) : (s.shadowTouch).altPort = s.altPort := rfl
@[simp] theorem shadowTouch_stopSent (s : State) : (s.shadowTouch).stopSent = s.stopSent := rfl
@[simp] theorem shadowTouch_coll (s : State) : (s.shadowTouch).coll = s.coll := rfl
@[simp] theorem shadowTouch_uqNext (s : State) : (s.shadowTouch).uqNext = s.uqNext := rfl
@[simp] theorem shadowTouch_qWait (s : State) : (s.shadowTouch).qWait = s.qWait := rfl
@[simp] theorem shadowTouch_siteStopping (s : State) : (s.shadowTouch).siteStopping = s.siteStopping := rfl
@[simp] theorem shadowTouch_logAt (s : State) : (s.shadowTouch).logAt = s.logAt := rfl
@[simp] theorem shadowTouch_logFrom (s : State) : (s.shadowTouch).logFrom = s.logFrom := rfl
@[simp] theorem shadowTouch_far (s : State) : (s.shadowTouch).far = s.far := rfl
@[simp] theorem shadowTouch_outer (s : State) : (s.shadowTouch).outer = s.outer := rfl
@[simp] theorem shadowTouch_nearExch (s : State) : (s.shadowTouch).nearExch = s.nearExch := rfl
@[simp] theorem shadowTouch_nearEx (s : State) : (s.shadowTouch).nearEx = s.nearEx := rfl
@[simp] theorem shadowTouch_store (s : State) : (s.shadowTouch).store = s.store := rfl
@[simp] theorem shadowTouch_plat (s : State) : (s.shadowTouch).plat = s.plat := rfl
@[simp] theorem shadowTouch_test (s : State) : (s.shadowTouch).test = s.test := rfl
@[simp] theorem shadowTouch_vc7 (s : State) : (s.shadowTouch).vc7 = s.vc7 := rfl
@[simp] theorem shadowTouch_wrong (s : State) : (s.shadowTouch).wrong = s.wrong := rfl
@[simp] theorem shadowTouch_spent (s : State) : (s.shadowTouch).spent = s.spent := rfl
@[simp] theorem shadowTouch_foreign (s : State) : (s.shadowTouch).foreign = s.foreign := rfl
@[simp] theorem shadowTouch_exporting (s : State) : (s.shadowTouch).exporting = s.exporting := rfl
@[simp] theorem shadowTouch_roleChange (s : State) : (s.shadowTouch).roleChange = s.roleChange := rfl
@[simp] theorem shadowTouch_restart (s : State) : (s.shadowTouch).restart = s.restart := rfl

end State

end Sys2Proof.Machine
end

