-- ==== Sys2Proof/Laws/Reads.lean ====
section
/-! SUPPORT. Reads after writes: the dictionary, units, pinions, hands, registers and memory; and the issue of one instruction. -/

namespace Sys2Proof.Machine

/-! ### The dictionary -/

@[simp] theorem odGet_odSet_same (s : State) (i j v : Nat) : (s.odSet i j v).odGet i j = v := fget_fput_same _ _ _ _

theorem odGet_odSet_ne (s : State) {i j k l : Nat} (v : Nat) (h : odKey k l ≠ odKey i j) :
    (s.odSet i j v).odGet k l = s.odGet k l := fget_fput_other _ _ _ _ h

theorem odGet_bumpBy_ne (s : State) {i j k l : Nat} (n : Nat) (h : odKey k l ≠ odKey i j) :
    (s.bumpBy i j n).odGet k l = s.odGet k l := odGet_odSet_ne s _ h

theorem odGet_bump_ne (s : State) {i j k l : Nat} (h : odKey k l ≠ odKey i j) :
    (s.bump i j).odGet k l = s.odGet k l := odGet_odSet_ne s _ h

@[simp] theorem odGet_setPin (s : State) (p : Nat) (x : Pinion) (i j : Nat) : (s.setPin p x).odGet i j = s.odGet i j := rfl

@[simp] theorem odGet_setHand (s : State) (p h : Nat) (d : Hand) (i j : Nat) : (s.setHand p h d).odGet i j = s.odGet i j := rfl

@[simp] theorem odGet_emit (s : State) (o : Output) (i j : Nat) : (s.emit o).odGet i j = s.odGet i j := rfl

@[simp] theorem odGet_unitMod (s : State) (l k : Nat) (f : UnitSt → UnitSt) (i j : Nat) : (s.unitMod l k f).odGet i j = s.odGet i j := rfl

@[simp] theorem blobGet_blobSet_same (s : State) (i j : Nat) (v : List Byte) : (s.blobSet i j v).blobGet i j = v :=
  fget_fput_same _ _ _ _

/-! ### Units, pinions and hands -/

@[simp] theorem unit_unitMod_same (s : State) (l i : Nat) (f : UnitSt → UnitSt) : (s.unitMod l i f).unit l i = f (s.unit l i) :=
  fget_fmod_same _ _ _ _

theorem unit_unitMod_ne (s : State) {l i k j : Nat} (f : UnitSt → UnitSt) (h : State.unitKey k j ≠ State.unitKey l i) :
    (s.unitMod l i f).unit k j = s.unit k j := fget_fmod_ne _ _ _ h

@[simp] theorem pin_setPin_same (s : State) (p : Nat) (x : Pinion) : (s.setPin p x).pin p = x := fget_fput_same _ _ _ _

theorem pin_setPin_ne (s : State) {p r : Nat} (x : Pinion) (h : r ≠ p) : (s.setPin p x).pin r = s.pin r := fget_fput_ne _ _ _ h

@[simp] theorem pin_pinMod_same (s : State) (p : Nat) (f : Pinion → Pinion) : (s.pinMod p f).pin p = f (s.pin p) :=
  fget_fput_same _ _ _ _

theorem pin_pinMod_ne (s : State) {p r : Nat} (f : Pinion → Pinion) (h : r ≠ p) : (s.pinMod p f).pin r = s.pin r :=
  fget_fput_ne _ _ _ h

@[simp] theorem pin_setHand_same (s : State) (p h : Nat) (d : Hand) : (s.setHand p h d).pin p = (s.pin p).setHand h d :=
  fget_fput_same _ _ _ _

theorem pin_setHand_ne (s : State) {p r : Nat} (h : Nat) (d : Hand) (hr : r ≠ p) : (s.setHand p h d).pin r = s.pin r :=
  fget_fput_ne _ _ _ hr

@[simp] theorem pin_odSet (s : State) (i j v p : Nat) : (s.odSet i j v).pin p = s.pin p := rfl

@[simp] theorem pin_bump (s : State) (i j p : Nat) : (s.bump i j).pin p = s.pin p := rfl

@[simp] theorem hand_setHand_same (x : Pinion) (h : Nat) (d : Hand) : (x.setHand h d).hand h = d := by
  unfold Pinion.setHand Pinion.hand
  split <;> rfl

@[simp] theorem setHand_setHand (x : Pinion) (h : Nat) (d e : Hand) : (x.setHand h d).setHand h e = x.setHand h e := by
  unfold Pinion.setHand
  split <;> rfl

@[simp] theorem hand_cur (x : Pinion) (h k : Nat) : ({ x with cur := k } : Pinion).hand h = x.hand h := rfl

@[simp] theorem state_hand_setHand (s : State) (p h : Nat) (d : Hand) : (s.setHand p h d).hand p h = d := by
  unfold State.hand
  simp

@[simp] theorem state_hand_pinMod_cur (s : State) (p h k : Nat) :
    (s.pinMod p (fun x => { x with cur := k })).hand p h = s.hand p h := by
  unfold State.hand
  simp

/-! ### Registers (R32) -/

/-- s0 reads as zero. -/
@[simp] theorem sreg_zero (d : Hand) : d.sreg 0 = 0 := rfl

/-- A write of s0 is discarded. -/
@[simp] theorem setSreg_zero (d : Hand) (v : W32) : d.setSreg 0 v = d := rfl

theorem sreg_setSreg (d : Hand) (r k : Nat) (v : W32) :
    (d.setSreg r v).sreg k = if k = r ∧ r ≠ 0 then v else d.sreg k := by
  unfold Hand.setSreg Hand.sreg
  by_cases hr : r = 0
  · simp [hr]
  · by_cases hk : k = 0
    · simp [hk, Ne.symm hr]
    · by_cases e : k = r
      · subst e; simp [hr]
      · simp [hr, hk, e, fget_fput_ne _ _ _ e]

theorem vreg_setVreg (d : Hand) (r k : Nat) (v : W512) : (d.setVreg r v).vreg k = if k = r then v else d.vreg k := by
  unfold Hand.setVreg Hand.vreg
  by_cases e : k = r
  · subst e; simp
  · simp [e, fget_fput_ne _ _ _ e]

/-! ### Memory -/

/-- A write reaches exactly its bytes. -/
theorem memByte_memWrite (s : State) (a : Nat) (bs : List Byte) (b : Nat) :
    (s.memWrite a bs).memByte b = if a ≤ b ∧ b < a + bs.length then bs.getD (b - a) 0 else s.memByte b := by
  induction bs generalizing s a with
  | nil =>
    have : ¬(a ≤ b ∧ b < a + ([] : List Byte).length) := by simp
    rw [if_neg this]; rfl
  | cons c cs ih =>
    rw [State.memWrite, ih]
    simp only [List.length_cons]
    by_cases h1 : a + 1 ≤ b ∧ b < a + 1 + cs.length
    · rw [if_pos h1, if_pos (by omega)]
      have : b - a = (b - (a + 1)) + 1 := by omega
      rw [this, List.getD_cons_succ]
    · rw [if_neg h1]
      by_cases h2 : b = a
      · subst h2
        rw [if_pos (by omega), Nat.sub_self, List.getD_cons_zero]
        exact fget_fput_same _ _ _ _
      · rw [if_neg (by omega)]
        exact fget_fput_ne _ _ _ h2

end Sys2Proof.Machine
end

