-- ==== Sys2Proof/Laws/Crown.lean ====
section
/-! SUPPORT. What the Crown's sending, events and changes of the module state touch. -/

namespace Sys2Proof.Machine

/-- A write of the mailbox touches the mailbox. -/
theorem mbWrite_frame (s : State) (off : Nat) (bs : List Byte) : { s.mbWrite off bs with crown := s.crown } = s := by
  induction bs generalizing s off with
  | nil => rfl
  | cons b bs ih =>
    unfold State.mbWrite
    have h := ih { s with crown := { s.crown with mailbox := fput 0 s.crown.mailbox off b } } (off + 1)
    exact congrArg (fun t : State => { t with crown := s.crown }) h

/-- What the Crown's sending leaves alone: all but its own record, the wires, and the dictionary. -/
def CrownOnly (s t : State) : Prop := { t with crown := s.crown, out := s.out } = s

/-- Nothing changed. -/
theorem CrownOnly.refl (s : State) : CrownOnly s s := rfl

/-- One after the other. -/
theorem CrownOnly.trans {s t u : State} (h1 : CrownOnly s t) (h2 : CrownOnly t u) : CrownOnly s u := by
  unfold CrownOnly at *
  have := congrArg (fun x : State => { x with crown := s.crown, out := s.out }) h2
  exact this.trans h1

/-- A write of the mailbox. -/
theorem crownOnly_mbWrite (s : State) (off : Nat) (bs : List Byte) : CrownOnly s (s.mbWrite off bs) := by
  have h := mbWrite_frame s off bs
  have ho : (s.mbWrite off bs).out = s.out := by
    have h2 := congrArg State.out h
    exact h2
  unfold CrownOnly; rw [← ho]; exact h

/-- A signal on the wires. -/
theorem crownOnly_emit (s : State) (o : Output) : CrownOnly s (s.emit o) := rfl

/-- A change of the Crown's record. -/
theorem crownOnly_crown (s : State) (c : Crown) : CrownOnly s { s with crown := c } := rfl

/-- A record put into the outbound ring. -/
theorem crownOnly_ringPut {s t : State} {f : List Byte} (h : s.ringPut f = some t) : CrownOnly s t := by
  unfold State.ringPut at h
  dsimp only at h
  repeat' split at h
  all_goals first
    | (injection h with h; subst h
       refine CrownOnly.trans ?_ (crownOnly_emit _ _)
       repeat refine CrownOnly.trans ?_ (crownOnly_mbWrite _ _ _)
       exact CrownOnly.refl _)
    | exact absurd h (by simp)

/-- Waiting frames put into the outbound ring. -/
theorem crownOnly_ringDrain (s : State) (l : List (List Byte)) : CrownOnly s (s.ringDrain l) := by
  induction l generalizing s with
  | nil => exact crownOnly_crown _ _
  | cons f fs ih =>
    unfold State.ringDrain
    cases h : s.ringPut f with
    | none => exact crownOnly_crown _ _
    | some t => exact (crownOnly_ringPut h).trans (ih t)

/-- A frame sent. -/
theorem crownOnly_copSend (s : State) (p : Peer) (f : List Byte) : CrownOnly s (s.copSend p f) := by
  unfold State.copSend
  cases p with
  | mailbox => exact crownOnly_ringDrain _ _
  | field a q => exact crownOnly_emit _ _

/-- A change of a session. -/
theorem crownOnly_sesMod (s : State) (id : Nat) (f : Session → Session) : CrownOnly s (s.sesMod id f) := rfl

/-- One after the other, over a list. -/
theorem crownOnly_foldl {α : Type} (f : State → α → State) (hf : ∀ s a, CrownOnly s (f s a)) (l : List α) (s : State) : CrownOnly s (l.foldl f s) := by
  induction l generalizing s with
  | nil => exact .refl _
  | cons a l ih => exact (hf s a).trans (ih _)

/-- A frame sent where there is room for it. -/
theorem crownOnly_sendNow {s t : State} {p : Peer} {f : List Byte} (h : s.sendNow p f = some t) : CrownOnly s t := by
  unfold State.sendNow at h
  split at h
  · split at h
    · exact crownOnly_ringPut h
    · cases h
  · cases h; exact crownOnly_emit _ _

/-- A session's NOTIFY frames sent. -/
theorem crownOnly_notifySend (n : Nat) (s : State) (id : Nat) : CrownOnly s (State.notifySend n s id) := by
  induction n generalizing s with
  | zero => exact .refl _
  | succ n ih =>
    unfold State.notifySend
    split
    · exact .refl _
    · split
      · split
        · exact .refl _
        · exact ((crownOnly_sendNow ‹_›).trans (crownOnly_sesMod _ _ _)).trans (ih _)
      · exact .refl _

/-- What the sessions have queued is sent. -/
theorem crownOnly_notifyFlush (s : State) : CrownOnly s s.notifyFlush := by
  unfold State.notifyFlush
  split
  · exact .refl _
  · exact crownOnly_foldl _ (fun _ _ => crownOnly_notifySend _ _ _) _ _

/-- The dictionary stays. -/
theorem CrownOnly.od {s t : State} (h : CrownOnly s t) : t.od = s.od := by have := congrArg State.od h; exact this
/-- Every number entry stays. -/
theorem CrownOnly.odGet {s t : State} (h : CrownOnly s t) (i j : Nat) : t.odGet i j = s.odGet i j := by unfold State.odGet; rw [h.od]
/-- Memory stays. -/
theorem CrownOnly.mem {s t : State} (h : CrownOnly s t) : t.mem = s.mem := by have := congrArg State.mem h; exact this
/-- The sync objects stay. -/
theorem CrownOnly.syncs {s t : State} (h : CrownOnly s t) : t.syncs = s.syncs := by have := congrArg State.syncs h; exact this
/-- The pinions stay. -/
theorem CrownOnly.pinions {s t : State} (h : CrownOnly s t) : t.pinions = s.pinions := by have := congrArg State.pinions h; exact this

/-- An event names an entry: only the count of lost events may change in the dictionary. -/
theorem notifyVal_odGet (s : State) (i k v a b : Nat) (h : odKey a b ≠ odKey 0x1210 5) : (s.notifyVal i k v).odGet a b = s.odGet a b := by
  unfold State.notifyVal
  split
  · rfl
  · dsimp only
    rw [(crownOnly_notifyFlush _).odGet, odGet_bumpBy_ne _ _ h]; rfl

/-- An event names an entry: what it touches. -/
theorem notifyVal_frame (s : State) (i k v : Nat) : { s.notifyVal i k v with crown := s.crown, out := s.out, od := s.od } = s := by
  unfold State.notifyVal
  split
  · rfl
  · dsimp only
    refine Eq.trans (congrArg (fun t : State => { t with crown := s.crown, out := s.out, od := s.od }) (crownOnly_notifyFlush _)) rfl

/-- The module state after a change. -/
theorem setModState_modState (s : State) (st : Nat) : (s.setModState st).modState = st := by
  unfold State.setModState State.notify State.modState
  rw [notifyVal_odGet _ _ _ _ _ _ (by decide), odGet_odSet_ne _ _ (by decide), odGet_bump_ne _ (by decide)]
  unfold State.odSetShown
  split
  · assumption
  · exact odGet_odSet_same _ _ _ _

/-- What a change of the module state touches. -/
theorem setModState_frame (s : State) (st : Nat) :
    { s.setModState st with crown := s.crown, out := s.out, od := s.od, shadowSeq := s.shadowSeq } = s := by
  unfold State.setModState State.notify
  refine (congrArg (fun t : State => { t with crown := s.crown, out := s.out, od := s.od, shadowSeq := s.shadowSeq })
    (notifyVal_frame (((s.odSetShown 0x1010 1 st).bump 0x1010 4).odSet 0x1010 7 (ftNat s.time.ft)) 0x1010 1 _)).trans ?_
  unfold State.odSetShown
  split <;> rfl

/-- What a change of a shown entry touches. -/
theorem odSetShown_frame (s : State) (i k v : Nat) : { s.odSetShown i k v with od := s.od, shadowSeq := s.shadowSeq } = s := by
  unfold State.odSetShown; split <;> rfl

/-- What a publication touches. -/
theorem publish_frame (s : State) (n : Nat) (l : List (Nat × Nat)) :
    { s.publish n l with crown := s.crown, out := s.out, od := s.od, shadowSeq := s.shadowSeq, table := s.table } = s := by
  unfold State.publish
  split
  · rfl
  · dsimp only
    unfold State.notify
    refine (congrArg (fun t : State => { t with crown := s.crown, out := s.out, od := s.od, shadowSeq := s.shadowSeq, table := s.table })
      (notifyVal_frame _ _ _ _)).trans ?_
    exact congrArg (fun t : State => { t with crown := s.crown, out := s.out, table := s.table }) (odSetShown_frame s 0x1101 1 _)

/-- A publication changes GENERATION and the count of lost events. -/
theorem publish_odGet (s : State) (n : Nat) (l : List (Nat × Nat)) (a b : Nat) (h1 : odKey a b ≠ odKey 0x1210 5) (h2 : odKey a b ≠ odKey 0x1101 1) :
    (s.publish n l).odGet a b = s.odGet a b := by
  unfold State.publish
  split
  · rfl
  · dsimp only
    unfold State.notify
    rw [notifyVal_odGet _ _ _ _ _ _ h1]
    unfold State.odSetShown
    split
    · rfl
    · exact odGet_odSet_ne _ _ h2

/-- What the layout's setting of the far ports touches. -/
theorem farFromLayout_frame (s : State) :
    { s.farFromLayout with crown := s.crown, out := s.out, od := s.od, shadowSeq := s.shadowSeq, table := s.table } = s := by
  unfold State.farFromLayout
  dsimp only [List.foldl]
  refine (congrArg (fun t : State => { t with crown := s.crown, out := s.out, od := s.od, shadowSeq := s.shadowSeq, table := s.table })
    (publish_frame _ _ _)).trans ?_
  rfl

/-! ### Commands -/

/-- ARM's refusal. -/
theorem cmdReason_arm (u : State) : u.cmdReason 1 = u.armReason := rfl

/-- RUN's refusal. -/
theorem cmdReason_run (u : State) : u.cmdReason 2 = if u.odGet 0x4010 1 ≤ 1 then 8 else 0 := rfl

/-- TAKEOVER's refusal. -/
theorem cmdReason_takeover (u : State) : u.cmdReason 8 = if Nat.testBit u.ownRoles 2 then 0 else 9 := rfl

/-- The others are not refused. -/
theorem cmdReason_none (u : State) : u.cmdReason 3 = 0 ∧ u.cmdReason 4 = 0 ∧ u.cmdReason 5 = 0 ∧ u.cmdReason 6 = 0 ∧ u.cmdReason 7 = 0 :=
  ⟨rfl, rfl, rfl, rfl, rfl⟩

/-- ARM. -/
theorem cmdDo_arm (u : State) : u.cmdDo 1 = u.armDo := rfl

/-- RUN. -/
theorem cmdDo_run (u : State) : u.cmdDo 2 = u.enterRunning := rfl

/-- HOLD. -/
theorem cmdDo_hold (u : State) : u.cmdDo 3 = if u.modState = stRunning then u.setModState stHeld else u := rfl

/-- RELEASE. -/
theorem cmdDo_release (u : State) : u.cmdDo 4 = if u.modState = stHeld then u.enterRunning else u := rfl

/-- QUIESCE. -/
theorem cmdDo_quiesce (u : State) : u.cmdDo 5 = u.quiesceDo := rfl

/-- WARM_RESET. -/
theorem cmdDo_warmReset (u : State) : u.cmdDo 6 = u := rfl

/-- FORCE_FAULT. -/
theorem cmdDo_forceFault (u : State) : u.cmdDo 7 = u.enterFaulted 7 0 := rfl

/-- TAKEOVER. -/
theorem cmdDo_takeover (u : State) : u.cmdDo 8 = State.quiesceDo { u with roleChange := true } := rfl

/-- A command that is not refused. -/
theorem cmdRun_done {u t : State} {n : Nat} (h : u.cmdReason n = 0) (h2 : u.cmdDo n = t) : u.cmdRun n = (t, cOk) := by
  unfold State.cmdRun; rw [if_pos h, h2]

/-- A command that is refused. -/
theorem cmdRun_refused {u : State} {n r : Nat} (h : u.cmdReason n = r) (h2 : r ≠ 0) : u.cmdRun n = (u.cmdRefused r, cRefused) := by
  unfold State.cmdRun; rw [h, if_neg h2]

/-- Zeroing sync objects touches sync objects. -/
theorem zeroObj_frame (f : Nat → Nat) (l : List Nat) (s : State) :
    { (l.foldl (fun (x : State) k => x.zeroObj (f k)) s : State) with syncs := s.syncs } = s := by
  induction l generalizing s with
  | nil => rfl
  | cons k l ih =>
    have h1 : { s.zeroObj (f k) with syncs := s.syncs } = s := by unfold State.zeroObj State.syncMod; rfl
    have h2 := congrArg (fun t : State => { t with syncs := s.syncs }) (ih (s.zeroObj (f k)))
    exact h2.trans h1

/-- What is zeroed counts 0. -/
theorem zeroObj_count (f : Nat → Nat) (l : List Nat) (s : State) (i : Nat) (h : (s.sync i).count = 0 ∨ i ∈ l.map f) :
    ((l.foldl (fun (x : State) k => x.zeroObj (f k)) s).sync i).count = 0 := by
  induction l generalizing s with
  | nil => simpa using h
  | cons k l ih =>
    refine ih _ ?_
    by_cases hi : i = f k
    · left; subst hi; simp [State.zeroObj, State.syncMod, State.sync, fmod, fget_fput_same]
    · rcases h with h | h
      · left; simp only [State.zeroObj, State.syncMod, State.sync, fmod]; rw [fget_fput_ne _ _ _ hi]; exact h
      · right; simpa [hi] using h

/-- The state that `resetQueues` leaves, but for the numbers of the next entries. -/
def zeroQueues (s : State) : State :=
  (List.range 4).foldl (fun (x : State) k => x.zeroObj (s.odGet 0x7800 2 + k))
    ((List.range 32).foldl (fun (x : State) k => x.zeroObj (s.odGet 0x3200 2 + k)) s)

/-- The queues restart. -/
theorem resetQueues_eq (s : State) : s.resetQueues = { zeroQueues s with uqNext := [], qWait := [] } := by
  unfold State.resetQueues zeroQueues; rfl

/-- Two changes of sync objects. -/
theorem frame_trans {s a b : State} (h1 : { a with syncs := s.syncs } = s) (h2 : { b with syncs := a.syncs } = a) :
    { b with syncs := s.syncs } = s := (congrArg (fun t : State => { t with syncs := s.syncs }) h2).trans h1

/-- Restarting the queues touches sync objects. -/
theorem zeroQueues_frame (s : State) : { zeroQueues s with syncs := s.syncs } = s :=
  frame_trans (zeroObj_frame (fun k => s.odGet 0x3200 2 + k) (List.range 32) s)
    (zeroObj_frame (fun k => s.odGet 0x7800 2 + k) (List.range 4) _)

/-- What restarting the queues touches. -/
theorem resetQueues_frame (s : State) : { s.resetQueues with syncs := s.syncs, uqNext := s.uqNext, qWait := s.qWait } = s := by
  rw [resetQueues_eq]
  have h := zeroQueues_frame s
  generalize zeroQueues s = a at *
  exact congrArg (fun t : State => { t with uqNext := s.uqNext, qWait := s.qWait }) h

/-- What restarting the collective queues touches. -/
theorem restartColl_frame (s : State) : { s.restartColl with coll := s.coll } = s := by
  unfold State.restartColl
  have hc : ∀ (g : Nat → W32) (l : List Nat) (a : State), { (l.foldl (fun (a : State) k =>
      a.collMod (fun c => { c with queues := fput {} c.queues (k + 1) { next := g k, run := [] } })) a : State) with coll := a.coll } = a := by
    intro g l
    induction l with
    | nil => intro a; rfl
    | cons k l ih =>
      intro a
      have := ih (a.collMod (fun c => { c with queues := fput {} c.queues (k + 1) { next := g k, run := [] } }))
      exact congrArg (fun t : State => { t with coll := a.coll }) this
  exact hc _ _ s

/-- ARM ends in ARMED. -/
theorem armDo_modState (s : State) : s.armDo.modState = stArmed := by
  unfold State.armDo; exact setModState_modState _ _

/-- No restart waits for its restore. -/
theorem restore_none {s : State} (hr : s.restart = none) : s.restore = s := by unfold State.restore; rw [hr]

/-- What ARM touches. -/
theorem armDo_frame (s : State) (hr : s.restart = none) : { s.armDo with
    syncs := s.syncs, uqNext := s.uqNext, qWait := s.qWait, coll := s.coll, crown := s.crown, out := s.out, od := s.od,
    shadowSeq := s.shadowSeq, table := s.table, stopSent := s.stopSent, test := s.test, roleChange := s.roleChange } = s := by
  unfold State.armDo
  rw [restore_none hr]
  dsimp only
  generalize hb : s.resetQueues.restartColl.farFromLayout = b
  have e1 := setModState_frame { b with stopSent := false, roleChange := false, test := { b.test with ir := .testLogicReset } } stArmed
  generalize State.setModState { b with stopSent := false, roleChange := false, test := { b.test with ir := .testLogicReset } } stArmed = t at e1
  have e4 := farFromLayout_frame s.resetQueues.restartColl
  rw [hb] at e4
  generalize ha : s.resetQueues.restartColl = a at e4
  have e3 := restartColl_frame s.resetQueues
  rw [ha] at e3
  generalize hq : s.resetQueues = q at e3
  have e2 := resetQueues_frame s
  rw [hq] at e2
  have f1 := congrArg (fun t : State => { t with
    syncs := s.syncs, uqNext := s.uqNext, qWait := s.qWait, coll := s.coll, crown := s.crown, out := s.out, od := s.od,
    shadowSeq := s.shadowSeq, table := s.table, stopSent := s.stopSent, test := s.test, roleChange := s.roleChange }) e1
  have f2 := congrArg (fun t : State => { t with
    syncs := s.syncs, uqNext := s.uqNext, qWait := s.qWait, coll := s.coll, crown := s.crown, out := s.out, od := s.od,
    shadowSeq := s.shadowSeq, table := s.table, stopSent := s.stopSent, test := s.test, roleChange := s.roleChange }) e4
  have f3 := congrArg (fun t : State => { t with
    syncs := s.syncs, uqNext := s.uqNext, qWait := s.qWait, coll := s.coll, crown := s.crown, out := s.out, od := s.od,
    shadowSeq := s.shadowSeq, table := s.table, stopSent := s.stopSent, test := s.test, roleChange := s.roleChange }) e3
  have f4 := congrArg (fun t : State => { t with
    syncs := s.syncs, uqNext := s.uqNext, qWait := s.qWait, coll := s.coll, crown := s.crown, out := s.out, od := s.od,
    shadowSeq := s.shadowSeq, table := s.table, stopSent := s.stopSent, test := s.test, roleChange := s.roleChange }) e2
  exact f1.trans (f2.trans (f3.trans f4))

/-- What ARM leaves of the queues and the TAP. -/
theorem armDo_queues (s : State) (hr : s.restart = none) : s.armDo.uqNext = [] ∧ s.armDo.qWait = [] ∧ s.armDo.syncs = s.resetQueues.syncs ∧
    s.armDo.test.ir = .testLogicReset := by
  have e3 := restartColl_frame s.resetQueues
  have e4 := farFromLayout_frame s.resetQueues.restartColl
  unfold State.armDo
  rw [restore_none hr]
  dsimp only
  generalize s.resetQueues.restartColl.farFromLayout = b at *
  have e1 := setModState_frame { b with stopSent := false, roleChange := false, test := { b.test with ir := .testLogicReset } } stArmed
  generalize State.setModState { b with stopSent := false, roleChange := false, test := { b.test with ir := .testLogicReset } } stArmed = t at *
  generalize s.resetQueues.restartColl = a at *
  have hu : s.resetQueues.uqNext = [] := by rw [resetQueues_eq]
  have hw : s.resetQueues.qWait = [] := by rw [resetQueues_eq]
  generalize s.resetQueues = q at *
  have g1 := congrArg State.uqNext e1; have g2 := congrArg State.uqNext e4; have g3 := congrArg State.uqNext e3
  have k1 := congrArg State.qWait e1; have k2 := congrArg State.qWait e4; have k3 := congrArg State.qWait e3
  have l1 := congrArg State.syncs e1; have l2 := congrArg State.syncs e4; have l3 := congrArg State.syncs e3
  have m1 := congrArg (fun t : State => t.test.ir) e1
  dsimp only at *
  exact ⟨g1.trans (g2.trans (g3.trans hu)), k1.trans (k2.trans (k3.trans hw)), l1.trans (l2.trans l3), m1⟩

/-- ARM leaves the update units' doorbells at 0. -/
theorem armDo_count (s : State) (hr : s.restart = none) (k : Nat) (hk : k < 32) : (s.armDo.sync (s.odGet 0x3200 2 + k)).count = 0 := by
  unfold State.sync; rw [(armDo_queues s hr).2.2.1]
  rw [resetQueues_eq]
  have h1 : (((List.range 32).foldl (fun (x : State) k => x.zeroObj (s.odGet 0x3200 2 + k)) s).sync (s.odGet 0x3200 2 + k)).count = 0 :=
    zeroObj_count (fun k => s.odGet 0x3200 2 + k) (List.range 32) s _ (Or.inr (by simp; exact hk))
  have h2 : ((zeroQueues s).sync (s.odGet 0x3200 2 + k)).count = 0 := by
    unfold zeroQueues
    generalize (List.range 32).foldl (fun (x : State) k => x.zeroObj (s.odGet 0x3200 2 + k)) s = a at *
    exact zeroObj_count (fun k => s.odGet 0x7800 2 + k) (List.range 4) a _ (Or.inl h1)
  generalize zeroQueues s = a at *
  exact h2

end Sys2Proof.Machine
end

