-- ==== Sys2Proof/Laws/Cop.lean ====
section
/-! SUPPORT. What each frame of the Crown Object Protocol leads to, and items and their bytes. -/

namespace Sys2Proof.Machine

/-- The length of an item. -/
theorem copItem_length (i k t st : Nat) (v : List Byte) : (copItem i k t st v).length = 8 + roundUp v.length 8 := by
  unfold copItem padTo; simp [toLe_length, slice_length]; omega

/-- An item is read back from its bytes. -/
theorem parseItem_copItem {i k t : Nat} {v : List Byte} (hi : i < 65536) (hk : k < 256) (ht : t < 256) (hv : v.length < 65536)
    (r : List Byte) : parseItem (copItem i k t 0 v ++ r) = some ({ index := i, sub := k, typ := t, value := v }, r) := by
  have e : copItem i k t 0 v ++ r = toLe 2 i ++ (toLe 1 k ++ (toLe 1 t ++ (toLe 2 v.length ++ (zeros 2 ++
      (v ++ (zeros (roundUp v.length 8 - v.length) ++ r)))))) := by
    unfold copItem; rw [padTo_ge (le_roundUp _)]
    simp only [List.append_assoc]; rfl
  have l1 : ∀ n, (toLe 1 n).length = 1 := toLe_length 1
  have l2 : ∀ n, (toLe 2 n).length = 2 := toLe_length 2
  have lz : ∀ n, (zeros n).length = n := fun n => List.length_replicate
  have e4 : rdLe (copItem i k t 0 v ++ r) 4 2 = v.length := by
    rw [e, rdLe_right (by simp [l2]), rdLe_right (by simp [l2, l1]), rdLe_right (by simp [l2, l1]), rdLe_left (by simp [l2, l1])]
    simp only [l1, l2]
    rw [show 4 - 2 - 1 - 1 = 0 by rfl, rdLe_toLe]; omega
  have e0 : rdLe (copItem i k t 0 v ++ r) 0 2 = i := by
    rw [e, rdLe_left (by simp [l2]), rdLe_toLe]; omega
  have e2 : rdLe (copItem i k t 0 v ++ r) 2 1 = k := by
    rw [e, rdLe_right (by simp [l2]), rdLe_left (by simp [l2, l1])]
    simp only [l2]; rw [Nat.sub_self, rdLe_toLe]; omega
  have e3 : rdLe (copItem i k t 0 v ++ r) 3 1 = t := by
    rw [e, rdLe_right (by simp [l2]), rdLe_right (by simp [l2, l1]), rdLe_left (by simp [l2, l1])]
    simp only [l1, l2]; rw [show 3 - 2 - 1 = 0 by rfl, rdLe_toLe]; omega
  have e6 : slice (copItem i k t 0 v ++ r) 6 2 = zeros 2 := by
    rw [e, slice_right (by simp [l2]), slice_right (by simp [l2, l1]), slice_right (by simp [l2, l1]), slice_right (by simp [l2, l1]),
      slice_left (by simp [l2, l1, lz])]
    simp only [l1, l2]; exact slice_whole (lz 2)
  have e8 : slice (copItem i k t 0 v ++ r) 8 v.length = v := by
    rw [e, slice_right (by simp [l2]), slice_right (by simp [l2, l1]), slice_right (by simp [l2, l1]), slice_right (by simp [l2, l1]),
      slice_right (by simp [l2, l1, lz]), slice_left (by simp [l2, l1, lz])]
    simp only [l1, l2, lz]; exact slice_whole rfl
  have ep : slice (copItem i k t 0 v ++ r) (8 + v.length) (roundUp v.length 8 - v.length) = zeros (roundUp v.length 8 - v.length) := by
    rw [e, slice_right (by simp [l2]; omega), slice_right (by simp [l2, l1]; omega), slice_right (by simp [l2, l1]; omega),
      slice_right (by simp [l2, l1]; omega), slice_right (by simp [l2, l1, lz]; omega), slice_right (by simp [l2, l1, lz]; omega),
      slice_left (by simp [l2, l1, lz]; omega)]
    simp only [l1, l2, lz]
    exact slice_zeros _ _ _
  have ed : (copItem i k t 0 v ++ r).drop (8 + roundUp v.length 8) = r := by
    rw [List.drop_append, ← copItem_length i k t 0 v]; simp
  have el : 8 + roundUp v.length 8 ≤ (copItem i k t 0 v ++ r).length := by rw [List.length_append, copItem_length]; omega
  unfold parseItem
  simp only [e4, e0, e2, e3, e8, ed]
  have z6 : zeroAt (copItem i k t 0 v ++ r) 6 2 = true := by unfold zeroAt rdLe; rw [e6, leNat_zeros]; rfl
  have zp : zeroAt (copItem i k t 0 v ++ r) (8 + v.length) (roundUp v.length 8 - v.length) = true := by
    unfold zeroAt rdLe; rw [ep, leNat_zeros]; rfl
  rw [z6, zp, if_pos (by simp only [decide_eq_true el, Bool.and_self])]

/-- The body of a WRITE of one entry. -/
theorem bodyItems_copItem {i k t : Nat} {v : List Byte} (hi : i < 65536) (hk : k < 256) (ht : t < 256) (hv : v.length < 65536) :
    bodyItems 0x11 (copItem i k t 0 v) = some [{ index := i, sub := k, typ := t, value := v }] := by
  have h := parseItem_copItem hi hk ht hv []
  rw [List.append_nil] at h
  simp [bodyItems, parseItems, h]

/-- The body of a READ of one entry. -/
theorem bodyItems_read {i k : Nat} (hi : i < 65536) (hk : k < 256) :
    bodyItems 0x10 (copItem i k 0 0 []) = some [{ index := i, sub := k, typ := 0, value := [] }] := by
  have h := parseItem_copItem (v := []) hi hk (show 0 < 256 by decide) (by decide) []
  rw [List.append_nil] at h
  simp [bodyItems, parseItems, h]

/-- A frame that stands before the Crown is served by the command of its row. -/
theorem arrives_serves {s t u : State} {src : FrameSrc} {p : Peer} {f : List Byte} (h : Arrives s src p f t)
    (row : State → List Byte → Bool) (hr : row s f = true) (hu : t.copFrameDo p f = some u) : s.copServe src row = u := by
  obtain ⟨h1, hw, hf, h3⟩ := h
  have hup : s.crownUp = true := by
    unfold State.crownServes at h1; exact (Bool.and_eq_true_iff.1 h1).1
  unfold State.copServe
  cases src with
  | field a q d g =>
    obtain ⟨rfl, rfl, rfl, rfl, h4⟩ := h3
    have hh : headForm g = true := (Bool.and_eq_true_iff.1 hf).1
    have hc : State.crownRest 1024 s = s := by rw [State.crownRest, hw]; rfl
    simp only [hup, h4, hh, hf, hr, hc, h1, hw, hu, Bool.not_true, bne_self_eq_false, Bool.or_self, Bool.false_eq_true, if_false,
      List.isEmpty_nil, Option.getD_some]
  | mailbox =>
    obtain ⟨rfl, n, h4, rfl⟩ := h3
    have hk : (if s.crown.turn = 1 then (s.takeField).getD s else s) = s := by
      unfold State.takeField; rw [hw]; split <;> rfl
    have hs : State.mbSkip 8192 s = s := by
      have h5 := h4
      unfold State.mbRecord at h5
      dsimp only at h5
      split at h5
      · cases h5
      · rename_i h6
        simp only [Bool.or_eq_true, decide_eq_true_eq, not_or, Nat.not_lt] at h6
        have h7 : leNat (s.mbRead (0x40 + s.mbTail) 4) ≠ 0xFFFFFFFF := by
          intro hc; rw [hc] at h6; unfold mbArea at h6; omega
        unfold State.mbSkip
        rw [if_neg h6.1, if_neg h7, h4]
        dsimp only
        rw [if_pos hf]
    simp only [h1, hk, hs, h4, hr, hu, Bool.not_true, Bool.false_eq_true, if_false, if_true, Option.getD_some]

/-- A request in order is executed and answered. -/
theorem inOrder_serves {t : State} {x : Session} {p : Peer} {f : List Byte} (h : InOrder t x p f) (h21 : fOp f ≠ 0x21) :
    t.copFrameDo p f = (State.serveReq (serving t x p) x p f).map (State.reply x p f) := by
  obtain ⟨⟨h1, h2, h3, h4, h5⟩, h6, h7, h8⟩ := h
  have hx : x ∈ t.crown.sessions := by
    unfold State.session at h1; exact List.mem_of_find?_eq_some h1
  have hw := h5 x hx
  have hany : (t.crown.sessions.any fun y => y.waitingAnswer) = false := by
    simp only [List.any_eq_false]; intro y hy; rw [h5 y hy]; simp
  unfold State.copFrameDo
  rw [if_neg h2, h1]
  dsimp only
  unfold State.sessionFrame
  have hne : fSeq f ≠ x.lastSeq := by
    have : fSeq f < 2 ^ 32 := by rw [h7]; exact Nat.mod_lt _ (by decide)
    intro hc; rw [hc] at h7 this; omega
  simp only [h3, h4, h6, hany, hw, Bool.not_true, Bool.false_and, Bool.or_self, Bool.false_eq_true, if_false, h21,
    h7, ne_eq, not_true_eq_false]
  simp only [← h7, hne, if_false]
  rfl

/-- What a request in order leads to. -/
theorem requests_serves {s u : State} {src : FrameSrc} {x : Session} {p : Peer} {f : List Byte} (h : Requests s src u x p f)
    (row : State → List Byte → Bool) (hr : row s f = true) (h21 : fOp f ≠ 0x21) {r : Reply} (hq : u.serveReq x p f = some r) :
    s.copServe src row = State.reply x p f r := by
  obtain ⟨t, h1, h2, rfl⟩ := h
  refine arrives_serves h1 row hr ?_
  rw [inOrder_serves h2 h21, hq]
  rfl

/-- A request in order does not exceed the limit of its transport. -/
theorem requests_limit {s u : State} {src : FrameSrc} {x : Session} {p : Peer} {f : List Byte} (h : Requests s src u x p f) :
    ¬ p.limit < f.length := by
  obtain ⟨t, h1, h2, rfl⟩ := h
  exact Nat.not_lt.2 h2.2.2.2

/-- A round of SHA-512 keeps eight words. -/
theorem sha512Round_length (a : List Nat) (k : Nat × Nat) (h : a.length = 8) : (sha512Round a k).length = 8 := by
  match a, h with
  | [_, _, _, _, _, _, _, _], _ => rfl

/-- A digest of SHA-512 is 64 bytes long. -/
theorem sha512_length (bs : List Byte) : (sha512 bs).length = 64 := by
  have r : ∀ (l : List (Nat × Nat)) (a : List Nat), a.length = 8 → (l.foldl sha512Round a).length = 8 := by
    intro l; induction l with
    | nil => intro a h; exact h
    | cons x l ih => intro a h; exact ih _ (sha512Round_length a x h)
  have b : ∀ (l : List (List Byte)) (a : List Nat), a.length = 8 → (l.foldl sha512Block a).length = 8 := by
    intro l; induction l with
    | nil => intro a h; exact h
    | cons x l ih => intro a h; refine ih _ ?_; unfold sha512Block; simp [r _ a h, h]
  have c : ∀ w : List Nat, (w.flatMap (toBe 8)).length = 8 * w.length := by
    intro w; induction w with
    | nil => rfl
    | cons a w ih => rw [List.flatMap_cons, List.length_append, ih, List.length_cons]; unfold toBe; rw [List.length_reverse, toLe_length]; omega
  unfold sha512; dsimp only; rw [c, b _ _ rfl]

/-- The fields of a frame with a key. -/
theorem copFrame_fields (op fl st ses seq : Nat) (body key : List Byte) (hk : key ≠ []) (hb : body.length < 65536) :
    let f := copFrame op fl st ses seq body key
    f.length = 32 + body.length ∧ fOp f = op % 256 ∧ fSession f = ses % 2 ^ 32 ∧ fSeq f = seq % 2 ^ 32 ∧ fBody f = body ∧ macOk key f = true ∧
      (op ∈ copOps → fl = 0 → st = 0 → frameForm f = true) := by
  intro f
  obtain ⟨h, hf, hh, hp⟩ : ∃ h : List Byte, f = h ++ body ++ (hmac512 key (h ++ body)).take 16 ∧ h.length = 16 ∧
      h = toLe 1 1 ++ toLe 1 op ++ toLe 1 fl ++ toLe 1 st ++ toLe 4 ses ++ toLe 4 seq ++ toLe 2 body.length ++ zeros 2 := by
    refine ⟨_, ?_, ?_, rfl⟩
    · simp only [f, copFrame, List.isEmpty_iff, hk, if_false]
    · simp [toLe_length, zeros]
  have hl : ((hmac512 key (h ++ body)).take 16).length = 16 := by
    rw [List.length_take]; unfold hmac512; simp only [sha512_length]; rfl
  have fl_ : f.length = 32 + body.length := by rw [hf]; simp only [List.length_append, hh, hl]; omega
  have front : ∀ o n, o + n ≤ 16 → rdLe f o n = rdLe h o n := fun o n hn => by
    rw [hf, rdLe_left (by simp only [List.length_append, hh]; omega), rdLe_left (by omega)]
  have e1 : rdLe h 0 1 = 1 := by subst hp; rfl
  have e2 : rdLe h 1 1 = op % 256 := by
    rw [hp]; simp only [List.append_assoc]
    rw [rdLe_right (by simp [toLe_length]), rdLe_left (by simp [toLe_length])]; simp only [toLe_length]; exact rdLe_toLe 1 op
  have e3 : rdLe h 4 4 = ses % 2 ^ 32 := by
    rw [hp]; simp only [List.append_assoc]
    iterate 4 rw [rdLe_right (by simp [toLe_length])]
    rw [rdLe_left (by simp [toLe_length])]; simp only [toLe_length]; exact rdLe_toLe 4 ses
  have e4 : rdLe h 8 4 = seq % 2 ^ 32 := by
    rw [hp]; simp only [List.append_assoc]
    iterate 5 rw [rdLe_right (by simp [toLe_length])]
    rw [rdLe_left (by simp [toLe_length])]; simp only [toLe_length]; exact rdLe_toLe 4 seq
  have e5 : rdLe h 0xC 2 = body.length := by
    rw [hp]; simp only [List.append_assoc]
    iterate 6 rw [rdLe_right (by simp [toLe_length])]
    rw [rdLe_left (by simp [toLe_length])]; simp only [toLe_length]; rw [show 12 - 1 - 1 - 1 - 1 - 4 - 4 = 0 from rfl, rdLe_toLe]; omega
  have e6 : rdLe h 0xE 2 = 0 := by
    rw [hp]; simp only [List.append_assoc]
    iterate 7 rw [rdLe_right (by simp [toLe_length])]
    simp only [toLe_length]; rfl
  have e7 : fl = 0 → st = 0 → rdLe h 2 2 = 0 := by
    rintro rfl rfl
    rw [hp]; simp only [List.append_assoc]
    iterate 2 rw [rdLe_right (by simp [toLe_length])]
    simp only [toLe_length]; rfl
  have m16 : f.length - 16 = (h ++ body).length := by rw [fl_, List.length_append, hh]; omega
  refine ⟨fl_, ?_, ?_, ?_, ?_, ?_, ?_⟩
  · unfold fOp; rw [front 1 1 (by omega), e2]
  · unfold fSession; rw [front 4 4 (by omega), e3]
  · unfold fSeq; rw [front 8 4 (by omega), e4]
  · unfold fBody; rw [fl_, hf, List.append_assoc, List.drop_append_of_le_length (by omega), List.drop_of_length_le (by omega)]
    simp
  · unfold macOk fMac
    rw [m16, hf, List.take_left, List.drop_left]; simp
  · intro ho h1 h2
    unfold frameForm headForm zeroAt
    have hop : op % 256 = op := by revert ho; unfold copOps; intro ho; simp at ho; omega
    rw [front 0 1 (by omega), front 2 2 (by omega), front 0xC 2 (by omega), front 0xE 2 (by omega), e1, e5, e6, e7 h1 h2]
    unfold fOp; rw [front 1 1 (by omega), e2, hop, fl_]; simp [ho]; omega

/-- A signature is 64 bytes long. -/
theorem edSign_length (sk msg : List Byte) : (edSign sk msg).length = 64 := by
  unfold edSign; simp [toLe_length, edEnc]

/-- The attestation report fits an item. -/
theorem attestReport_length_le (s : State) (id : Nat) (nonce : List Byte) : (s.attestReport id nonce).length ≤ 1024 := by
  have hz : ∀ n, (zeros n).length = n := fun n => List.length_replicate
  have hp : ∀ n b, (padTo n b).length = n := fun n b => slice_length _ _ _
  have hi : identityPub.length = 32 := by unfold identityPub edPub edEnc; exact toLe_length _ _
  have ha : (ascii "ATST").length = 4 := by decide
  unfold State.attestReport
  simp only [List.length_append, edSign_length, hz, hp, hi, ha, toLe_length, List.length_cons, List.length_nil]
  have h1 := (sha512_length (s.slotManifest s.store.running)).le
  have h2 := (sha512_length s.fuseImage).le
  have h3 := (sha512_length (s.blobGet 0xA100 1)).le
  have h4 : (if s.roster.isEmpty = true then zeros 64 else sha512 s.roster).length ≤ 64 := by
    cases s.roster.isEmpty
    · exact (sha512_length _).le
    · exact Nat.le_of_eq (hz 64)
  generalize (if s.roster.isEmpty = true then zeros 64 else sha512 s.roster).length = n4 at *
  generalize (sha512 (s.slotManifest s.store.running)).length = n1 at *
  generalize (sha512 s.fuseImage).length = n2 at *
  generalize (sha512 (s.blobGet 0xA100 1)).length = n3 at *
  omega

/-- A request that is served in state `u` has touched the Crown's record alone. -/
theorem requests_crownOnly {s u : State} {src : FrameSrc} {x : Session} {p : Peer} {f : List Byte} (h : Requests s src u x p f) :
    CrownOnly s u := by
  obtain ⟨t, h1, _, rfl⟩ := h
  have h2 : CrownOnly s t := by
    obtain ⟨_, _, _, h3⟩ := h1
    cases src with
    | field a q d g => obtain ⟨_, _, _, rfl, _⟩ := h3; rfl
    | mailbox => obtain ⟨_, n, _, rfl⟩ := h3; exact (crownOnly_mbWrite _ _ _).trans (crownOnly_crown _ _)
  exact h2.trans rfl

/-- The end of a transfer. -/
theorem endsTransfer_crownOnly {s u : State} {src : FrameSrc} {x : Session} {p : Peer} {f : List Byte} {i k : Nat} {v : List Byte}
    (h : EndsTransfer s src u x p f i k v) : CrownOnly s u := by
  obtain ⟨u0, b, h1, _, _, _, _, _, _, _, rfl, _⟩ := h
  exact (requests_crownOnly h1).trans (crownOnly_sesMod _ _ _)

/-- An answer, at once or later, touches the Crown's record and the count of requests. -/
theorem crownOnly_reply (x : Session) (p : Peer) (f : List Byte) (r : Reply) (h : r.after = .done ∨ r.after = .pend) :
    CrownOnly (r.st.bump 0x1210 6) (State.reply x p f r) := by
  unfold State.reply
  rcases h with h | h <;> rw [h] <;> dsimp only
  · exact (crownOnly_sesMod _ _ _).trans ((crownOnly_copSend _ _ _).trans
      ((crownOnly_crown _ _).trans (crownOnly_notifyFlush _)))
  · exact (crownOnly_sesMod _ _ _).trans (crownOnly_sesMod _ _ _)

end Sys2Proof.Machine
end

