-- ==== Sys2Proof/Laws/Good.lean ====
section
/-! SUPPORT. The invariant that every operation keeps: the queue is untouched, the memories keep their canonical form, the
module state stays one of Table 11.1; and the operations that all others are made of. -/

namespace Sys2Proof.Machine

/-- The queue is `q`, the memories are in canonical form, and the module state is one of Table 11.1. -/
structure Good (q : List Instr) (s : State) : Prop where
  queue : s.pending = q
  mem : fwf (0 : Byte) s.mem = true
  slow : fwf (0 : Byte) s.slow = true
  mode : s.modState < 8

/-- An outcome is good when its next state is. -/
def GoodOut (q : List Instr) (o : Host.Outcome State Fault Refusal) : Prop := ∀ t, o = .next t → Good q t

/-- The state an instruction's issue leaves is good. -/
def GoodRes (q : List Instr) (r : IssueRes) : Prop :=
  match r with
  | .done s => Good q s
  | .jump s _ => Good q s
  | .stay s _ => Good q s
  | .wait s => Good q s
  | .ended s => Good q s
  | .isolated s => Good q s
  | .fault _ => True

/-- What an optional result holds. -/
def GoodOpt {β : Type} (P : β → Prop) (o : Option β) : Prop := ∀ z, o = some z → P z

variable {q : List Instr}

theorem goodOpt_none {β : Type} {P : β → Prop} : GoodOpt P none := by intro z e; cases e

theorem goodOpt_some {β : Type} {P : β → Prop} {b : β} (h : P b) : GoodOpt P (some b) := by intro z e; cases e; exact h

theorem goodOpt_map {β γ : Type} {P : γ → Prop} {f : β → γ} {o : Option β} (h : ∀ b, o = some b → P (f b)) :
    GoodOpt P (o.map f) := by
  intro z e
  obtain ⟨b, hb, rfl⟩ := Option.map_eq_some_iff.1 e
  exact h b hb

theorem goodOpt_foldl {α β : Type} {P : α → Prop} {f : Option α → β → Option α} (l : List β) {o : Option α} (ho : GoodOpt P o)
    (h : ∀ o b, GoodOpt P o → GoodOpt P (f o b)) : GoodOpt P (l.foldl f o) := by
  induction l generalizing o with
  | nil => exact ho
  | cons b l ih => exact ih (h o b ho)

theorem good_getD {o : Option State} {s : State} (hs : Good q s) (ho : GoodOpt (fun z => Good q z) o) : Good q (o.getD s) := by
  cases o with
  | none => exact hs
  | some t => exact ho t rfl

theorem goodOut_next {t : State} (h : Good q t) : GoodOut q (.next t) := by
  intro u e; cases e; exact h

theorem goodOut_fault {f : Fault} : GoodOut q (.fault f) := by intro u e; cases e

theorem goodOut_refused {r : Refusal} : GoodOut q (.refused r) := by intro u e; cases e

theorem goodRes_done {t : State} (h : Good q t) : GoodRes q (.done t) := h

theorem goodRes_jump {t : State} {n : Nat} (h : Good q t) : GoodRes q (.jump t n) := h

theorem goodRes_stay {t : State} {st : HandSt} (h : Good q t) : GoodRes q (.stay t st) := h

theorem goodRes_wait {t : State} (h : Good q t) : GoodRes q (.wait t) := h

theorem goodRes_ended {t : State} (h : Good q t) : GoodRes q (.ended t) := h

theorem goodRes_isolated {t : State} (h : Good q t) : GoodRes q (.isolated t) := h

theorem goodRes_fault {c : Nat} : GoodRes q (.fault c) := trivial

theorem goodOut_eq {o : Host.Outcome State Fault Refusal} {t : State} (h : GoodOut q o) (e : o = .next t) : Good q t := h t e

theorem good_foldl {β : Type} {f : State → β → State} (l : List β) {s : State} (hs : Good q s)
    (h : ∀ s b, Good q s → Good q (f s b)) : Good q (l.foldl f s) := by
  induction l generalizing s with
  | nil => exact hs
  | cons b l ih => exact ih (h s b hs)

theorem good_foldl_fst {β γ : Type} {f : State × γ → β → State × γ} (l : List β) {a : State × γ} (hs : Good q a.1)
    (h : ∀ a b, Good q a.1 → Good q (f a b).1) : Good q (l.foldl f a).1 := by
  induction l generalizing a with
  | nil => exact hs
  | cons b l ih => exact ih (h a b hs)

theorem good_foldl_snd {β γ : Type} {f : γ × State → β → γ × State} (l : List β) {a : γ × State} (hs : Good q a.2)
    (h : ∀ a b, Good q a.2 → Good q (f a b).2) : Good q (l.foldl f a).2 := by
  induction l generalizing a with
  | nil => exact hs
  | cons b l ih => exact ih (h a b hs)

/-- A record update that leaves the queue, the memories and the dictionary. -/
theorem good_mk {s : State} {free out blob pinions barrels syncs units t1s bootRetired changes table dieEsc relStamp shadowSeq
    errLog faultInfo time crown beats near rx noRoute vc0Tx vc0Rx altPort stopSent coll uqNext qWait siteStopping logAt logFrom
    far outer nearExch nearEx store plat test vc7 wrong spent foreign exporting roleChange restart} (h : Good q s) :
    Good q (State.mk s.pending free out s.od blob s.mem s.slow pinions barrels syncs units t1s bootRetired changes table dieEsc
      relStamp shadowSeq errLog faultInfo time crown beats near rx noRoute vc0Tx vc0Rx altPort stopSent coll uqNext qWait
      siteStopping logAt logFrom far outer nearExch nearEx store plat test vc7 wrong spent foreign exporting roleChange restart) :=
  ⟨h.1, h.2, h.3, h.4⟩

/-- A record update of the module's own memory. -/
theorem good_mem {s : State} {m : FMap Byte} (h : Good q s) (hm : fwf (0 : Byte) m = true) : Good q { s with mem := m } :=
  ⟨h.1, hm, h.3, h.4⟩

theorem fget_filter_gone {α : Type} (d : α) (m : FMap α) (i : Nat) (p : Nat × α → Bool) (h : ∀ v, p (i, v) = false) :
    fget d (m.filter p) i = d := by
  induction m with
  | nil => rfl
  | cons c m ih =>
    obtain ⟨k, v⟩ := c
    simp only [List.filter]
    split
    · next hp =>
      rw [fget, if_neg ?_]
      · exact ih
      · rintro rfl
        rw [h v] at hp
        cases hp
    · exact ih

theorem good_odSet {s : State} (hs : Good q s) {i j v : Nat} (h : odKey i j ≠ odKey 0x1010 1 ∨ v < 8) :
    Good q (s.odSet i j v) := by
  refine ⟨hs.1, hs.2, hs.3, ?_⟩
  have hm := hs.4
  unfold State.modState State.odGet State.odSet at *
  by_cases e : odKey i j = odKey 0x1010 1
  · rw [e]
    rw [fget_fput_same]
    exact h.resolve_left (fun h => h e)
  · rw [fget_fput_other _ _ _ _ (fun h => e h.symm)]
    exact hm

end Sys2Proof.Machine
end

