-- ==== Sys2Proof/Laws/GoodCore.lean ====
section
/-! SUPPORT. What keeps the invariant of Laws/Good.lean: the operations over the state, frames and notices, near-link packets, the Movement Table, the watchdog ladder, and the issue of an instruction. -/

set_option linter.unusedVariables false
set_option linter.unusedTactic false
set_option linter.unreachableTactic false

namespace Sys2Proof.Machine

variable {q : List Instr}

theorem good_nportMod {s a1 a2} (hs : Good q s) : Good q (State.nportMod s a1 a2) := by
  unfold State.nportMod
  repeat' (with_reducible first
      | assumption | fail_if_no_progress apply good_mk | split | dsimp only)

theorem good_emit {s a1} (hs : Good q s) : Good q (State.emit s a1) := by
  unfold State.emit
  repeat' (with_reducible first
      | assumption | fail_if_no_progress apply good_mk | split | dsimp only)

theorem good_wireIdle {s a1 a2} (hs : Good q s) : Good q (State.wireIdle s a1 a2) := by
  unfold State.wireIdle
  repeat' (with_reducible first
      | assumption | apply good_emit | fail_if_no_progress apply good_mk | split | dsimp only)

theorem good_returnRoom {s a1} (hs : Good q s) : Good q (State.returnRoom s a1) := by
  unfold State.returnRoom
  repeat' (with_reducible first
      | assumption | apply good_nportMod | apply good_wireIdle | fail_if_no_progress apply good_mk | split | dsimp only)

theorem good_nportCount {s a1 a2} (hs : Good q s) : Good q (State.nportCount s a1 a2) := by
  unfold State.nportCount
  repeat' (with_reducible first
      | assumption | apply good_nportMod | fail_if_no_progress apply good_mk | split | dsimp only)

theorem good_bumpBy {s : State} {i j n : Nat} (hs : Good q s) (h : odKey i j ≠ odKey 0x1010 1) : Good q (s.bumpBy i j n) :=
  good_odSet hs (Or.inl h)

theorem good_bump {s : State} {i j : Nat} (hs : Good q s) (h : odKey i j ≠ odKey 0x1010 1) : Good q (s.bump i j) :=
  good_bumpBy hs h

theorem good_routeTo {s a1} (hs : Good q s) : GoodOpt (fun z => Good q z.2) (State.routeTo s a1) := by
  unfold State.routeTo
  repeat' (with_reducible first
      | assumption | intro _ | exact goodOpt_none | apply goodOpt_some | apply goodOpt_map
      | refine good_bump ?_ (by unfold odKey; omega) | fail_if_no_progress apply good_mk | split | dsimp only)

theorem good_routeTo_eq {s a1} (hs : Good q s) {y z} (hz : (State.routeTo s a1) = some (y, z)) : Good q z :=
  good_routeTo hs _ hz

theorem good_wireFlit {s a1 a2} (hs : Good q s) : Good q (State.wireFlit s a1 a2) := by
  unfold State.wireFlit
  repeat' (with_reducible first
      | assumption | apply good_emit | fail_if_no_progress apply good_mk | split | dsimp only)

theorem good_sendFlits {a0 a1 a2 a3 a4 s a6} (hs : Good q s) : Good q (State.sendFlits a0 a1 a2 a3 a4 s a6) := by
  revert hs
  fun_induction State.sendFlits a0 a1 a2 a3 a4 s a6 <;> intro hs <;> (repeat' (with_reducible first
      | assumption | apply_assumption | apply good_nportMod | apply good_wireFlit | fail_if_no_progress apply good_mk | split | dsimp only))

theorem good_pump {a0 s a2} (hs : Good q s) : Good q (State.pump a0 s a2) := by
  revert hs
  fun_induction State.pump a0 s a2 <;> intro hs <;> (repeat' (with_reducible first
      | assumption | apply_assumption | apply good_nportMod | apply good_returnRoom | apply good_sendFlits
      | fail_if_no_progress apply good_mk | split | dsimp only))

theorem good_pumpPort {s a1} (hs : Good q s) : Good q (State.pumpPort s a1) := by
  unfold State.pumpPort
  repeat' (with_reducible first
      | assumption | apply good_pump | fail_if_no_progress apply good_mk | split | dsimp only)

theorem good_nearSendPort {s a1 a2} (hs : Good q s) : Good q (State.nearSendPort s a1 a2) := by
  unfold State.nearSendPort
  repeat' (with_reducible first
      | assumption | apply good_pumpPort | apply good_nportMod | fail_if_no_progress apply good_mk | split | dsimp only)

theorem good_nearSend {s a1} (hs : Good q s) : Good q (State.nearSend s a1) := by
  unfold State.nearSend
  repeat' (with_reducible first
      | assumption | apply goodOpt_map | apply good_routeTo | refine good_routeTo_eq ?_ ‹_› | apply good_nearSendPort
      | apply good_getD | fail_if_no_progress apply good_mk | split | dsimp only)

theorem good_draw {s a1} (hs : Good q s) : Good q (State.draw s a1).2 := by
  unfold State.draw
  repeat' (with_reducible first
      | assumption | fail_if_no_progress apply good_mk | split | dsimp only)

theorem good_slowWrite {s : State} {a : Nat} {bs : List Byte} (hs : Good q s) : Good q (s.slowWrite a bs) := by
  induction bs generalizing s a with
  | nil => exact hs
  | cons b bs ih => exact ih ⟨hs.queue, hs.mem, fwf_fput 0 _ _ _ hs.slow, hs.mode⟩

theorem good_memWrite {s : State} {a : Nat} {bs : List Byte} (hs : Good q s) : Good q (s.memWrite a bs) := by
  induction bs generalizing s a with
  | nil => exact hs
  | cons b bs ih => exact ih (good_mem hs (fwf_fput 0 _ _ _ hs.mem))

theorem good_writeBytes {s a1 a2} (hs : Good q s) : Good q (State.writeBytes s a1 a2) := by
  unfold State.writeBytes
  repeat' (with_reducible first
      | assumption | apply good_slowWrite | apply good_memWrite | fail_if_no_progress apply good_mk | split | dsimp only)

theorem good_mbWrite {s a1 a2} (hs : Good q s) : Good q (State.mbWrite s a1 a2) := by
  revert hs
  fun_induction State.mbWrite s a1 a2 <;> intro hs <;> (repeat' (with_reducible first
      | assumption | apply_assumption | fail_if_no_progress apply good_mk | split | dsimp only))

theorem good_ringPut {s a1} (hs : Good q s) : GoodOpt (fun z => Good q z) (State.ringPut s a1) := by
  unfold State.ringPut
  repeat' (with_reducible first
      | assumption | intro _ | exact goodOpt_none | apply goodOpt_some | apply goodOpt_map | apply good_emit
      | apply good_mbWrite | fail_if_no_progress apply good_mk | split | dsimp only)

theorem good_ringPut_eq {s a1} (hs : Good q s) {z} (hz : (State.ringPut s a1) = some z) : Good q z :=
  good_ringPut hs _ hz

theorem good_sendNow {s a1 a2} (hs : Good q s) : GoodOpt (fun z => Good q z) (State.sendNow s a1 a2) := by
  unfold State.sendNow
  repeat' (with_reducible first
      | assumption | intro _ | exact goodOpt_none | apply goodOpt_some | apply goodOpt_map | apply good_ringPut
      | refine good_ringPut_eq ?_ ‹_› | apply good_emit | fail_if_no_progress apply good_mk | split | dsimp only)

theorem good_sendNow_eq {s a1 a2} (hs : Good q s) {z} (hz : (State.sendNow s a1 a2) = some z) : Good q z :=
  good_sendNow hs _ hz

theorem good_setSessions {s a1} (hs : Good q s) : Good q (State.setSessions s a1) := by
  unfold State.setSessions
  repeat' (with_reducible first
      | assumption | fail_if_no_progress apply good_mk | split | dsimp only)

theorem good_sesMod {s a1 a2} (hs : Good q s) : Good q (State.sesMod s a1 a2) := by
  unfold State.sesMod
  repeat' (with_reducible first
      | assumption | apply good_setSessions | fail_if_no_progress apply good_mk | split | dsimp only)

theorem good_notifySend {a0 s a2} (hs : Good q s) : Good q (State.notifySend a0 s a2) := by
  revert hs
  fun_induction State.notifySend a0 s a2 <;> intro hs <;> (repeat' (with_reducible first
      | assumption | apply_assumption | apply goodOpt_map | apply good_sendNow | refine good_sendNow_eq ?_ ‹_› | apply good_sesMod
      | apply good_getD | fail_if_no_progress apply good_mk | split | dsimp only))

theorem good_notifyFlush {s} (hs : Good q s) : Good q (State.notifyFlush s) := by
  unfold State.notifyFlush
  repeat' (with_reducible first
      | assumption | intro _ | apply good_notifySend | apply good_foldl | apply good_foldl_fst | apply good_foldl_snd
      | fail_if_no_progress apply good_mk | split | dsimp only)

theorem good_notifyVal {s a1 a2 a3} (hs : Good q s) : Good q (State.notifyVal s a1 a2 a3) := by
  unfold State.notifyVal
  repeat' (with_reducible first
      | assumption | apply good_notifyFlush | refine good_bumpBy ?_ (by unfold odKey; omega) | apply good_setSessions
      | fail_if_no_progress apply good_mk | split | dsimp only)

theorem good_addChange {s a1 a2} (hs : Good q s) : Good q (State.addChange s a1 a2) := by
  unfold State.addChange
  repeat' (with_reducible first
      | assumption | fail_if_no_progress apply good_mk | split | dsimp only)

theorem good_ringDrain {s : State} {l : List (List Byte)} (hs : Good q s) : Good q (s.ringDrain l) := by
  induction l generalizing s with
  | nil => exact good_mk hs
  | cons f fs ih =>
    rw [State.ringDrain]
    split
    · exact ih (good_ringPut_eq hs ‹_›)
    · exact good_mk hs

theorem good_copSend {s a1 a2} (hs : Good q s) : Good q (State.copSend s a1 a2) := by
  unfold State.copSend
  repeat' (with_reducible first
      | assumption | apply good_ringDrain | apply good_emit | fail_if_no_progress apply good_mk | split | dsimp only)

theorem good_answerWaiting {s a1} (hs : Good q s) : Good q (State.answerWaiting s a1) := by
  unfold State.answerWaiting
  repeat' (with_reducible first
      | assumption | apply good_copSend | apply good_sesMod | apply good_notifyFlush | fail_if_no_progress apply good_mk
      | split | dsimp only)

theorem good_unitMod {s a1 a2 a3} (hs : Good q s) : Good q (State.unitMod s a1 a2 a3) := by
  unfold State.unitMod
  repeat' (with_reducible first
      | assumption | fail_if_no_progress apply good_mk | split | dsimp only)

theorem good_t1Mod {s a1 a2} (hs : Good q s) : Good q (State.t1Mod s a1 a2) := by
  unfold State.t1Mod
  repeat' (with_reducible first
      | assumption | fail_if_no_progress apply good_mk | split | dsimp only)

theorem good_setPin {s a1 a2} (hs : Good q s) : Good q (State.setPin s a1 a2) := by
  unfold State.setPin
  repeat' (with_reducible first
      | assumption | fail_if_no_progress apply good_mk | split | dsimp only)

theorem good_pinMod {s a1 a2} (hs : Good q s) : Good q (State.pinMod s a1 a2) := by
  unfold State.pinMod
  repeat' (with_reducible first
      | assumption | apply good_setPin | fail_if_no_progress apply good_mk | split | dsimp only)

theorem good_setHand {s a1 a2 a3} (hs : Good q s) : Good q (State.setHand s a1 a2 a3) := by
  unfold State.setHand
  repeat' (with_reducible first
      | assumption | apply good_pinMod | fail_if_no_progress apply good_mk | split | dsimp only)

theorem good_notify {s a1 a2} (hs : Good q s) : Good q (State.notify s a1 a2) := by
  unfold State.notify
  repeat' (with_reducible first
      | assumption | apply good_notifyVal | fail_if_no_progress apply good_mk | split | dsimp only)

theorem good_blobSet {s a1 a2 a3} (hs : Good q s) : Good q (State.blobSet s a1 a2 a3) := by
  unfold State.blobSet
  repeat' (with_reducible first
      | assumption | fail_if_no_progress apply good_mk | split | dsimp only)

theorem good_mapSet {s a1 a2 a3} (hs : Good q s) : Good q (State.mapSet s a1 a2 a3) := by
  unfold State.mapSet
  repeat' (with_reducible first
      | assumption | apply good_notify | apply good_blobSet | fail_if_no_progress apply good_mk | split | dsimp only)

theorem good_mapPort {s a1 a2 a3} (hs : Good q s) : Good q (State.mapPort s a1 a2 a3) := by
  unfold State.mapPort
  repeat' (with_reducible first
      | assumption | apply good_notify | apply good_blobSet | fail_if_no_progress apply good_mk | split | dsimp only)

theorem good_portSvcSet {s a1 a2 a3} (hs : Good q s) : Good q (State.portSvcSet s a1 a2 a3) := by
  unfold State.portSvcSet
  repeat' (with_reducible first
      | assumption | fail_if_no_progress apply good_mk | split | dsimp only)

theorem good_applyChange {s a1} (hs : Good q s) : Good q (State.applyChange s a1).1 := by
  unfold State.applyChange
  repeat' (with_reducible first
      | assumption | intro _ | apply good_unitMod | apply good_t1Mod | refine good_bump ?_ (by unfold odKey; omega)
      | apply good_setHand | apply good_mapSet | apply good_mapPort | apply good_portSvcSet | apply good_nportMod
      | refine good_odSet ?_ (Or.inl (by unfold odKey; omega)) | refine good_odSet ?_ (Or.inr (by decide))
      | apply good_foldl | apply good_foldl_fst | apply good_foldl_snd | fail_if_no_progress apply good_mk | split
      | dsimp only)

theorem good_logErr {s a1 a2 a3 a4 a5} (hs : Good q s) : Good q (State.logErr s a1 a2 a3 a4 a5) := by
  unfold State.logErr
  repeat' (with_reducible first
      | assumption | fail_if_no_progress apply good_mk | split | dsimp only)

theorem good_sendVc0 {s a1 a2 a3 a4 a5} (hs : Good q s) : Good q (State.sendVc0 s a1 a2 a3 a4 a5) := by
  unfold State.sendVc0
  repeat' (with_reducible first
      | assumption | apply good_nearSend | fail_if_no_progress apply good_mk | split | dsimp only)

theorem good_sendCtrl {s a1 a2 a3 a4 a5 a6 a7 a8} (hs : Good q s) : Good q (State.sendCtrl s a1 a2 a3 a4 a5 a6 a7 a8) := by
  unfold State.sendCtrl
  repeat' (with_reducible first
      | assumption | apply good_sendVc0 | fail_if_no_progress apply good_mk | split | dsimp only)

theorem good_siteStopSend {s a1 a2} (hs : Good q s) : Good q (State.siteStopSend s a1 a2) := by
  unfold State.siteStopSend
  repeat' (with_reducible first
      | assumption | intro _ | apply good_sendCtrl | apply good_foldl | apply good_foldl_fst | apply good_foldl_snd
      | fail_if_no_progress apply good_mk | split | dsimp only)

theorem good_shadowTouch {s} (hs : Good q s) : Good q (State.shadowTouch s) := by
  unfold State.shadowTouch
  repeat' (with_reducible first
      | assumption | fail_if_no_progress apply good_mk | split | dsimp only)

theorem good_odSetShown {s : State} {i j v : Nat} (hs : Good q s) (h : odKey i j ≠ odKey 0x1010 1 ∨ v < 8) :
    Good q (s.odSetShown i j v) := by
  unfold State.odSetShown
  split
  · exact hs
  · exact good_shadowTouch (good_odSet hs h)

theorem good_setModState {s : State} {v : Nat} (hs : Good q s) (h : v < 8) : Good q (s.setModState v) := by
  unfold State.setModState
  refine good_notify (good_odSet (good_bump (good_odSetShown hs (Or.inr h)) ?_) (Or.inl ?_)) <;> decide

theorem good_dropSessions {s} (hs : Good q s) : Good q (State.dropSessions s) := by
  unfold State.dropSessions
  repeat' (with_reducible first
      | assumption | intro _ | apply good_notifyVal | apply good_foldl | apply good_foldl_fst | apply good_foldl_snd
      | fail_if_no_progress apply good_mk | split | dsimp only)

theorem good_countStop {s} (hs : Good q s) : Good q (State.countStop s) := by
  unfold State.countStop
  repeat' (with_reducible first
      | assumption | refine good_bump ?_ (by unfold odKey; omega) | fail_if_no_progress apply good_mk | split | dsimp only)

theorem good_faultStop {s} (hs : Good q s) : Good q (State.faultStop s) := by
  unfold State.faultStop
  repeat' (with_reducible first
      | assumption | apply good_dropSessions | apply good_countStop | fail_if_no_progress apply good_mk | split
      | dsimp only)

theorem good_enterFaulted {s a1 a2} (hs : Good q s) : Good q (State.enterFaulted s a1 a2) := by
  unfold State.enterFaulted
  repeat' (with_reducible first
      | assumption | apply good_logErr | apply good_answerWaiting | apply good_siteStopSend
      | refine good_setModState ?_ (by decide) | apply good_faultStop | fail_if_no_progress apply good_mk | split
      | dsimp only)

theorem good_eccFault {s a1} (hs : Good q s) : Good q (State.eccFault s a1) := by
  unfold State.eccFault
  repeat' (with_reducible first
      | assumption | apply good_enterFaulted | refine good_odSet ?_ (Or.inl (by unfold odKey; omega))
      | refine good_odSet ?_ (Or.inr (by decide)) | fail_if_no_progress apply good_mk | split | dsimp only)

theorem good_publish {s a1 a2} (hs : Good q s) : Good q (State.publish s a1 a2) := by
  unfold State.publish
  repeat' (with_reducible first
      | assumption | refine good_odSetShown ?_ (Or.inl (by unfold odKey; omega))
      | refine good_odSetShown ?_ (Or.inr (by decide)) | apply good_notify | fail_if_no_progress apply good_mk | split
      | dsimp only)

theorem good_applyReady {s : State} {cs : List Change} {n : Nat} {es : List (Nat × Nat)} (hs : Good q s) :
    Good q (s.applyReady cs n es) := by
  induction cs generalizing s n es with
  | nil => exact good_publish hs
  | cons c cs ih =>
    rw [State.applyReady]
    dsimp only
    split
    · refine ih ?_
      split
      · exact good_mk (good_applyChange hs)
      · exact good_applyChange hs
    · exact ih (good_mk hs)

theorem good_countNotify {s : State} {i j : Nat} (hs : Good q s) (h : odKey i j ≠ odKey 0x1010 1) : Good q (s.countNotify i j) :=
  good_notify (good_bump hs h)

theorem good_syncMod {s a1 a2} (hs : Good q s) : Good q (State.syncMod s a1 a2) := by
  unfold State.syncMod
  repeat' (with_reducible first
      | assumption | fail_if_no_progress apply good_mk | split | dsimp only)

theorem good_dieResolve {s} (hs : Good q s) : Good q (State.dieResolve s) := by
  unfold State.dieResolve
  repeat' (with_reducible first
      | assumption | fail_if_no_progress apply good_mk | split | dsimp only)

theorem good_takeChanges {s} (hs : Good q s) : Good q (State.takeChanges s) := by
  unfold State.takeChanges
  repeat' (with_reducible first
      | assumption | apply good_dieResolve | apply good_applyReady | fail_if_no_progress apply good_mk | split
      | dsimp only)

theorem good_spanSend {s a1 a2} (hs : Good q s) : Good q (State.spanSend s a1 a2) := by
  unfold State.spanSend
  repeat' (with_reducible first
      | assumption | intro _ | apply good_sendVc0 | apply good_foldl | apply good_foldl_fst | apply good_foldl_snd
      | fail_if_no_progress apply good_mk | split | dsimp only)

theorem good_syncSend {s a1 a2} (hs : Good q s) : Good q (State.syncSend s a1 a2) := by
  unfold State.syncSend
  repeat' (with_reducible first
      | assumption | apply good_syncMod | apply good_spanSend | fail_if_no_progress apply good_mk | split | dsimp only)

theorem good_post {s a1} (hs : Good q s) : Good q (State.post s a1) := by
  unfold State.post
  repeat' (with_reducible first
      | assumption | apply good_syncSend | fail_if_no_progress apply good_mk | split | dsimp only)

theorem good_fenceUnit {s a1 a2} (hs : Good q s) : Good q (State.fenceUnit s a1 a2) := by
  unfold State.fenceUnit
  repeat' (with_reducible first
      | assumption | apply good_unitMod | fail_if_no_progress apply good_mk | split | dsimp only)

theorem good_resetObjs {s a1} (hs : Good q s) : Good q (State.resetObjs s a1) := by
  unfold State.resetObjs
  repeat' (with_reducible first
      | assumption | intro _ | apply good_foldl | apply good_foldl_fst | apply good_foldl_snd
      | fail_if_no_progress apply good_mk | split | dsimp only)

theorem good_dropWaitsOf {s a1} (hs : Good q s) : Good q (State.dropWaitsOf s a1) := by
  unfold State.dropWaitsOf
  repeat' (with_reducible first
      | assumption | intro _ | apply good_foldl | apply good_foldl_fst | apply good_foldl_snd
      | fail_if_no_progress apply good_mk | split | dsimp only)

theorem good_dropWaits {s a1} (hs : Good q s) : Good q (State.dropWaits s a1) := by
  unfold State.dropWaits
  repeat' (with_reducible first
      | assumption | apply good_dropWaitsOf | fail_if_no_progress apply good_mk | split | dsimp only)

theorem good_resetTrain {s a1 a2} (hs : Good q s) : Good q (State.resetTrain s a1 a2) := by
  unfold State.resetTrain
  repeat' (with_reducible first
      | assumption | intro _ | apply good_resetObjs | apply good_dropWaits | apply good_unitMod | apply good_foldl
      | apply good_foldl_fst | apply good_foldl_snd | fail_if_no_progress apply good_mk | split | dsimp only)

theorem good_escDie {s a1} (hs : Good q s) : Good q (State.escDie s a1) := by
  unfold State.escDie
  repeat' (with_reducible first
      | assumption | fail_if_no_progress apply good_mk | split | dsimp only)

theorem good_escT2 {s a1 a2} (hs : Good q s) : Good q (State.escT2 s a1 a2) := by
  unfold State.escT2
  repeat' (with_reducible first
      | assumption | apply good_resetTrain | apply good_addChange | apply good_escDie | fail_if_no_progress apply good_mk
      | split | dsimp only)

theorem good_escT1 {s a1 a2} (hs : Good q s) : Good q (State.escT1 s a1 a2) := by
  unfold State.escT1
  repeat' (with_reducible first
      | assumption | apply good_resetTrain | apply good_mapSet | apply good_addChange | apply good_unitMod
      | apply good_enterFaulted | apply good_t1Mod | apply good_escT2 | fail_if_no_progress apply good_mk | split
      | dsimp only)

theorem good_settleChanges {s} (hs : Good q s) : Good q (State.settleChanges s) := by
  unfold State.settleChanges
  repeat' (with_reducible first
      | assumption | apply good_takeChanges | fail_if_no_progress apply good_mk | split | dsimp only)

theorem good_dropHand {s a1 a2} (hs : Good q s) : Good q (State.dropHand s a1 a2) := by
  unfold State.dropHand
  repeat' (with_reducible first
      | assumption | apply good_dropWaitsOf | fail_if_no_progress apply good_mk | split | dsimp only)

theorem good_isolate {s a1} (hs : Good q s) : Good q (State.isolate s a1) := by
  unfold State.isolate
  repeat' (with_reducible first
      | assumption | intro _ | apply good_unitMod | apply good_foldl | apply good_foldl_fst | apply good_foldl_snd
      | fail_if_no_progress apply good_mk | split | dsimp only)

theorem good_tryStop {s a1} (hs : Good q s) : Good q (State.tryStop s a1) := by
  unfold State.tryStop
  repeat' (with_reducible first
      | assumption | apply good_escT1 | apply good_fenceUnit | apply good_setPin
      | refine good_bump ?_ (by unfold odKey; omega) | apply good_dropHand
      | refine good_bumpBy ?_ (by unfold odKey; omega) | fail_if_no_progress apply good_mk | split | dsimp only)

theorem good_takeFault {s a1 a2 a3 a4 a5} (hs : Good q s) : Good q (State.takeFault s a1 a2 a3 a4 a5) := by
  unfold State.takeFault
  repeat' (with_reducible first
      | assumption | apply good_logErr | refine good_countNotify ?_ (by unfold odKey; omega)
      | refine good_odSet ?_ (Or.inl (by unfold odKey; omega)) | refine good_odSet ?_ (Or.inr (by decide))
      | apply good_setHand | apply good_tryStop | apply good_pinMod | fail_if_no_progress apply good_mk | split
      | dsimp only)

theorem good_resumeAt {s a1 a2 a3} (hs : Good q s) : Good q (State.resumeAt s a1 a2 a3) := by
  unfold State.resumeAt
  repeat' (with_reducible first
      | assumption | apply good_setHand | apply good_takeFault | fail_if_no_progress apply good_mk | split | dsimp only)

theorem good_issueEnd {s : State} {p h pc op : Nat} {r : IssueRes} (hs : Good q s) (hr : GoodRes q r) :
    Good q (s.issueEnd p h pc op r) := by
  unfold State.issueEnd
  cases r with
  | done t => exact good_resumeAt hr
  | jump t x => exact good_setHand hr
  | stay t x => exact good_setHand hr
  | wait t => exact good_setHand hr
  | ended t => exact hr
  | isolated t => exact good_takeFault hr
  | fault c => exact good_takeFault hs

theorem good_issueAs {s a1 a2 a3 f4} (hs : Good q s) (hf4 : ∀ y0 y1 y2, Good q y0 → GoodRes q (f4 y0 y1 y2)) : Good q (State.issueAs s a1 a2 a3 f4) := by
  unfold State.issueAs
  repeat' (with_reducible first
      | assumption | trivial | intro _ | apply goodOut_next | exact goodOut_fault | exact goodOut_refused
      | exact goodOpt_none | apply goodOpt_some | apply goodOpt_map | apply good_pinMod | apply good_takeFault
      | apply good_issueEnd | exact goodRes_fault | apply goodRes_done | apply goodRes_jump | apply goodRes_stay
      | apply goodRes_wait | apply goodRes_ended | apply goodRes_isolated | apply hf4 | apply good_getD
      | fail_if_no_progress apply good_mk | split | dsimp only)

theorem good_ownWrite {s a1 a2} (hs : Good q s) : Good q (State.ownWrite s a1 a2) := by
  unfold State.ownWrite
  repeat' (with_reducible first
      | assumption | apply good_writeBytes | fail_if_no_progress apply good_mk | split | dsimp only)

theorem good_romTake {s} (hs : Good q s) : Good q (State.romTake s) := by
  unfold State.romTake
  repeat' (with_reducible first
      | assumption | apply good_mbWrite | fail_if_no_progress apply good_mk | split | dsimp only)

theorem good_ownRead {s a1 a2} (hs : Good q s) : Good q (State.ownRead s a1 a2).2 := by
  unfold State.ownRead
  repeat' (with_reducible first
      | assumption | apply good_draw | fail_if_no_progress apply good_mk | split | dsimp only)

theorem good_pinCountBy {s : State} {p i j k n : Nat} (hs : Good q s) (h : odKey i j ≠ odKey 0x1010 1) :
    Good q (s.pinCountBy p i j k n) := good_pinMod (good_bumpBy hs h)

theorem good_postOpt {s a1} (hs : Good q s) : Good q (State.postOpt s a1) := by
  unfold State.postOpt
  repeat' (with_reducible first
      | assumption | apply good_post | fail_if_no_progress apply good_mk | split | dsimp only)

theorem good_readyChanges {s a1} (hs : Good q s) : Good q (State.readyChanges s a1) := by
  unfold State.readyChanges
  repeat' (with_reducible first
      | assumption | apply good_settleChanges | fail_if_no_progress apply good_mk | split | dsimp only)

theorem good_wrData {s a1 a2 a3} (hs : Good q s) : Good q (State.wrData s a1 a2 a3) := by
  unfold State.wrData
  repeat' (with_reducible first
      | assumption | apply good_memWrite | fail_if_no_progress apply good_mk | split | dsimp only)

end Sys2Proof.Machine
end

