-- ==== Sys2Proof/Laws/GoodNear.lean ====
section
/-! SUPPORT. What keeps the invariant of Laws/Good.lean: the near links and the collectives. -/

set_option linter.unusedVariables false
set_option linter.unusedTactic false
set_option linter.unreachableTactic false

namespace Sys2Proof.Machine

variable {q : List Instr}

theorem good_deliverPkt {s a1} (hs : Good q s) : Good q (State.deliverPkt s a1) := by
  unfold State.deliverPkt
  repeat' (with_reducible first
      | assumption | apply good_returnRoom | fail_if_no_progress apply good_mk | split | dsimp only)

theorem good_arrive {s a1 a2 a3 a4 a5} (hs : Good q s) : Good q (State.arrive s a1 a2 a3 a4 a5) := by
  unfold State.arrive
  repeat' (with_reducible first
      | assumption | apply good_returnRoom | apply good_nportCount | refine good_bump ?_ (by unfold odKey; omega)
      | apply good_deliverPkt | apply good_nearSend | fail_if_no_progress apply good_mk | split | dsimp only)

theorem good_takeRoom {s a1} (hs : Good q s) : Good q (State.takeRoom s a1) := by
  unfold State.takeRoom
  repeat' (with_reducible first
      | assumption | apply good_nportMod | fail_if_no_progress apply good_mk | split | dsimp only)

theorem good_acceptFlit {s a1 a2 a3} (hs : Good q s) : Good q (State.acceptFlit s a1 a2 a3) := by
  unfold State.acceptFlit
  repeat' (with_reducible first
      | assumption | apply good_nportMod | apply good_arrive | apply good_takeRoom | fail_if_no_progress apply good_mk
      | split | dsimp only)

theorem good_collMod {s a1} (hs : Good q s) : Good q (State.collMod s a1) := by
  unfold State.collMod
  repeat' (with_reducible first
      | assumption | fail_if_no_progress apply good_mk | split | dsimp only)

theorem good_sendChunks {o : OutStream} {n : Nat} {s : State} {k : Nat} (hs : Good q s) : Good q (State.sendChunks o n s k) := by
  induction n generalizing s k with
  | zero => exact hs
  | succ n ih =>
    rw [State.sendChunks]
    split
    · exact ih (good_nearSend hs)
    · exact hs

theorem good_pumpOut {s a1} (hs : Good q s) : Good q (State.pumpOut s a1) := by
  unfold State.pumpOut
  repeat' (with_reducible first
      | assumption | apply good_collMod | apply good_sendChunks | fail_if_no_progress apply good_mk | split | dsimp only)

theorem good_askReplay {s a1} (hs : Good q s) : Good q (State.askReplay s a1) := by
  unfold State.askReplay
  repeat' (with_reducible first
      | assumption | apply good_wireIdle | apply good_nportCount | apply good_nportMod | fail_if_no_progress apply good_mk
      | split | dsimp only)

theorem good_enterQuiet {s} (hs : Good q s) : Good q (State.enterQuiet s) := by
  unfold State.enterQuiet
  repeat' (with_reducible first
      | assumption | apply good_answerWaiting | apply good_settleChanges | refine good_setModState ?_ (by decide)
      | apply good_countStop | fail_if_no_progress apply good_mk | split | dsimp only)

theorem good_stopSettle {s} (hs : Good q s) : Good q (State.stopSettle s) := by
  unfold State.stopSettle
  repeat' (with_reducible first
      | assumption | apply good_enterQuiet | fail_if_no_progress apply good_mk | split | dsimp only)

theorem good_stopJob {s a1 a2} (hs : Good q s) : Good q (State.stopJob s a1 a2) := by
  unfold State.stopJob
  repeat' (with_reducible first
      | assumption | apply good_stopSettle | apply good_dropSessions | apply good_siteStopSend
      | fail_if_no_progress apply good_mk | split | dsimp only)

theorem good_stopIfLost {s a1} (hs : Good q s) : Good q (State.stopIfLost s a1) := by
  unfold State.stopIfLost
  repeat' (with_reducible first
      | assumption | apply good_stopJob | fail_if_no_progress apply good_mk | split | dsimp only)

theorem good_dropRooms {s a1} (hs : Good q s) : Good q (State.dropRooms s a1) := by
  unfold State.dropRooms
  repeat' (with_reducible first
      | assumption | intro _ | apply good_foldl | apply good_foldl_fst | apply good_foldl_snd
      | fail_if_no_progress apply good_mk | split | dsimp only)

theorem good_showPorts {s} (hs : Good q s) : Good q (State.showPorts s) := by
  unfold State.showPorts
  repeat' (with_reducible first
      | assumption | refine good_odSet ?_ (Or.inl (by unfold odKey; omega)) | refine good_odSet ?_ (Or.inr (by decide))
      | fail_if_no_progress apply good_mk | split | dsimp only)

theorem good_reroute {s a1} (hs : Good q s) : Good q (State.reroute s a1) := by
  unfold State.reroute
  repeat' (with_reducible first
      | assumption | intro _ | apply good_dropRooms | apply good_nportMod | apply good_nearSend | apply good_showPorts
      | apply good_foldl | apply good_foldl_fst | apply good_foldl_snd | fail_if_no_progress apply good_mk | split
      | dsimp only)

theorem good_linkDown {s a1} (hs : Good q s) : Good q (State.linkDown s a1) := by
  unfold State.linkDown
  repeat' (with_reducible first
      | assumption | apply good_nportCount | apply good_nportMod | apply good_notifyVal | apply good_stopIfLost
      | apply good_reroute | fail_if_no_progress apply good_mk | split | dsimp only)

theorem good_reservedDown {s} (hs : Good q s) : Good q (State.reservedDown s) := by
  unfold State.reservedDown
  repeat' (with_reducible first
      | assumption | intro _ | apply good_linkDown | apply good_nportMod | apply good_foldl | apply good_foldl_fst
      | apply good_foldl_snd | fail_if_no_progress apply good_mk | split | dsimp only)

theorem good_cqueueMod {s a1 a2} (hs : Good q s) : Good q (State.cqueueMod s a1 a2) := by
  unfold State.cqueueMod
  repeat' (with_reducible first
      | assumption | apply good_collMod | fail_if_no_progress apply good_mk | split | dsimp only)

theorem good_centryMod {s a1 a2 a3} (hs : Good q s) : Good q (State.centryMod s a1 a2 a3) := by
  unfold State.centryMod
  repeat' (with_reducible first
      | assumption | apply good_cqueueMod | fail_if_no_progress apply good_mk | split | dsimp only)

theorem good_postEntry {s a1} (hs : Good q s) : Good q (State.postEntry s a1) := by
  unfold State.postEntry
  repeat' (with_reducible first
      | assumption | apply good_syncSend | fail_if_no_progress apply good_mk | split | dsimp only)

theorem good_postWord {s a1} (hs : Good q s) : Good q (State.postWord s a1) := by
  unfold State.postWord
  repeat' (with_reducible first
      | assumption | apply good_postEntry | fail_if_no_progress apply good_mk | split | dsimp only)

theorem good_retire {v n : Nat} {s : State} (hs : Good q s) : Good q (State.retire v n s) := by
  induction n generalizing s with
  | zero => exact hs
  | succ n ih =>
    rw [State.retire]
    split
    · split
      · refine ih (good_post ?_)
        split
        · exact good_collMod (good_cqueueMod hs)
        · exact good_cqueueMod hs
      · exact hs
    · exact hs

theorem good_finishEntry {s a1 a2 a3} (hs : Good q s) : Good q (State.finishEntry s a1 a2 a3) := by
  unfold State.finishEntry
  repeat' (with_reducible first
      | assumption | apply good_centryMod | apply good_postWord | apply good_stopSettle | apply good_retire
      | fail_if_no_progress apply good_mk | split | dsimp only)

theorem good_flitAcks {s a1 a2} (hs : Good q s) : Good q (State.flitAcks s a1 a2) := by
  unfold State.flitAcks
  repeat' (with_reducible first
      | assumption | intro _ | apply good_nportMod | apply good_wireFlit | apply good_pumpPort | apply good_foldl
      | apply good_foldl_fst | apply good_foldl_snd | fail_if_no_progress apply good_mk | split | dsimp only)

theorem good_freeHead {s a1} (hs : Good q s) : Good q (State.freeHead s a1) := by
  unfold State.freeHead
  repeat' (with_reducible first
      | assumption | fail_if_no_progress apply good_mk | split | dsimp only)

theorem good_openOut {s a1 a2} (hs : Good q s) : Good q (State.openOut s a1 a2) := by
  unfold State.openOut
  repeat' (with_reducible first
      | assumption | apply good_pumpOut | apply good_collMod | fail_if_no_progress apply good_mk | split | dsimp only)

theorem good_growOut {s a1 a2 a3} (hs : Good q s) : Good q (State.growOut s a1 a2 a3) := by
  unfold State.growOut
  repeat' (with_reducible first
      | assumption | apply good_pumpOut | apply good_collMod | apply good_openOut | fail_if_no_progress apply good_mk
      | split | dsimp only)

theorem good_holdHead {s a1} (hs : Good q s) : Good q (State.holdHead s a1) := by
  unfold State.holdHead
  repeat' (with_reducible first
      | assumption | refine good_bump ?_ (by unfold odKey; omega) | fail_if_no_progress apply good_mk | split | dsimp only)

theorem good_linkUp {s a1} (hs : Good q s) : Good q (State.linkUp s a1) := by
  unfold State.linkUp
  repeat' (with_reducible first
      | assumption | intro _ | apply good_pumpPort | apply good_nearSend | apply good_showPorts | apply good_foldl
      | apply good_foldl_fst | apply good_foldl_snd | fail_if_no_progress apply good_mk | split | dsimp only)

theorem good_markDid {s a1 a2 a3} (hs : Good q s) : Good q (State.markDid s a1 a2 a3) := by
  unfold State.markDid
  repeat' (with_reducible first
      | assumption | apply good_centryMod | fail_if_no_progress apply good_mk | split | dsimp only)

theorem good_sendCack {s a1 a2} (hs : Good q s) : Good q (State.sendCack s a1 a2) := by
  unfold State.sendCack
  repeat' (with_reducible first
      | assumption | apply good_sendVc0 | fail_if_no_progress apply good_mk | split | dsimp only)

theorem good_openIn {s a1 a2} (hs : Good q s) : Good q (State.openIn s a1 a2) := by
  unfold State.openIn
  repeat' (with_reducible first
      | assumption | apply good_collMod | apply good_sendCack | fail_if_no_progress apply good_mk | split | dsimp only)

theorem good_refuseEntry {s a1 a2 a3} (hs : Good q s) : Good q (State.refuseEntry s a1 a2 a3) := by
  unfold State.refuseEntry
  repeat' (with_reducible first
      | assumption | apply good_cqueueMod | apply good_retire | refine good_countNotify ?_ (by unfold odKey; omega)
      | refine good_odSet ?_ (Or.inl (by unfold odKey; omega)) | refine good_odSet ?_ (Or.inr (by decide))
      | fail_if_no_progress apply good_mk | split | dsimp only)

theorem good_releaseIn {s a1 a2} (hs : Good q s) : Good q (State.releaseIn s a1 a2) := by
  unfold State.releaseIn
  repeat' (with_reducible first
      | assumption | apply good_collMod | fail_if_no_progress apply good_mk | split | dsimp only)

theorem good_storeChunk {s a1 a2 a3} (hs : Good q s) : Good q (State.storeChunk s a1 a2 a3).1 := by
  unfold State.storeChunk
  repeat' (with_reducible first
      | assumption | apply good_sendCack | refine good_bump ?_ (by unfold odKey; omega) | apply good_openIn
      | fail_if_no_progress apply good_mk | split | dsimp only)

theorem good_takeRx {s a1 a2} (hs : Good q s) : GoodOpt (fun z => Good q z.2) (State.takeRx s a1 a2) := by
  unfold State.takeRx
  repeat' (with_reducible first
      | assumption | intro _ | exact goodOpt_none | apply goodOpt_some | apply goodOpt_map | apply good_returnRoom
      | fail_if_no_progress apply good_mk | split | dsimp only)

theorem good_takeRx_eq {s a1 a2} (hs : Good q s) {y z} (hz : (State.takeRx s a1 a2) = some (y, z)) : Good q z :=
  good_takeRx hs _ hz

theorem good_advCombine {s a1 a2} (hs : Good q s) : Good q (advCombine s a1 a2) := by
  unfold advCombine
  repeat' (with_reducible first
      | assumption | intro _ | apply good_writeBytes | apply good_finishEntry | apply good_releaseIn | apply good_foldl
      | apply good_foldl_fst | apply good_foldl_snd | fail_if_no_progress apply good_mk | split | dsimp only)

theorem good_landRows {s a1 a2 a3 a4 a5} (hs : Good q s) : Good q (landRows s a1 a2 a3 a4 a5) := by
  unfold landRows
  repeat' (with_reducible first
      | assumption | apply good_collMod | apply good_writeBytes | fail_if_no_progress apply good_mk | split | dsimp only)

theorem good_advDispatch {s a1 a2} (hs : Good q s) : Good q (advDispatch s a1 a2) := by
  unfold advDispatch
  repeat' (with_reducible first
      | assumption | intro _ | apply good_markDid | apply good_releaseIn | apply good_landRows | apply good_finishEntry
      | apply good_foldl | apply good_foldl_fst | apply good_foldl_snd | fail_if_no_progress apply good_mk | split
      | dsimp only)

theorem good_landChunk {s a1 a2 a3 a4 a5 a6 a7 a8} (hs : Good q s) : Good q (landChunk s a1 a2 a3 a4 a5 a6 a7 a8) := by
  unfold landChunk
  repeat' (with_reducible first
      | assumption | intro _ | apply good_writeBytes | apply good_growOut | apply good_foldl | apply good_foldl_fst
      | apply good_foldl_snd | fail_if_no_progress apply good_mk | split | dsimp only)

theorem good_landChunks {s a1 a2 a3 a4 a5 a6} (hs : Good q s) : Good q (landChunks s a1 a2 a3 a4 a5 a6) := by
  unfold landChunks
  repeat' (with_reducible first
      | assumption | intro _ | apply good_centryMod | apply good_landChunk | apply good_foldl | apply good_foldl_fst
      | apply good_foldl_snd | fail_if_no_progress apply good_mk | split | dsimp only)

theorem good_landImage {s a1 a2 a3 a4 a5} (hs : Good q s) : Good q (landImage s a1 a2 a3 a4 a5) := by
  unfold landImage
  repeat' (with_reducible first
      | assumption | apply good_centryMod | refine good_bump ?_ (by unfold odKey; omega) | apply good_writeBytes
      | apply good_enterFaulted | apply good_openIn | apply good_sendCtrl | apply good_markDid
      | fail_if_no_progress apply good_mk | split | dsimp only)

theorem good_advGather {s a1 a2} (hs : Good q s) : Good q (advGather s a1 a2) := by
  unfold advGather
  repeat' (with_reducible first
      | assumption | intro _ | apply good_landChunks | apply good_landImage | apply good_releaseIn
      | apply good_finishEntry | apply good_collMod | apply good_foldl | apply good_foldl_fst | apply good_foldl_snd
      | fail_if_no_progress apply good_mk | split | dsimp only)

theorem good_advReduce {s a1 a2} (hs : Good q s) : Good q (advReduce s a1 a2) := by
  unfold advReduce
  repeat' (with_reducible first
      | assumption | intro _ | apply good_openOut | apply good_markDid | apply good_writeBytes | apply good_finishEntry
      | apply good_releaseIn | apply good_foldl | apply good_foldl_fst | apply good_foldl_snd
      | fail_if_no_progress apply good_mk | split | dsimp only)

theorem good_noiseRollover {s} (hs : Good q s) : Good q (noiseRollover s) := by
  unfold noiseRollover
  repeat' (with_reducible first
      | assumption | refine good_odSet ?_ (Or.inl (by unfold odKey; omega)) | refine good_odSet ?_ (Or.inr (by decide))
      | fail_if_no_progress apply good_mk | split | dsimp only)

theorem good_advScalar {s a1 a2} (hs : Good q s) : Good q (advScalar s a1 a2) := by
  unfold advScalar
  repeat' (with_reducible first
      | assumption | apply good_writeBytes | refine good_bump ?_ (by unfold odKey; omega)
      | refine good_odSet ?_ (Or.inl (by unfold odKey; omega)) | refine good_odSet ?_ (Or.inr (by decide))
      | apply good_collMod | apply good_noiseRollover | apply good_finishEntry | fail_if_no_progress apply good_mk | split
      | dsimp only)

theorem good_permFinish {s a1 a2} (hs : Good q s) : Good q (permFinish s a1 a2) := by
  unfold permFinish
  repeat' (with_reducible first
      | assumption | apply good_collMod | apply good_finishEntry | refine good_odSet ?_ (Or.inl (by unfold odKey; omega))
      | refine good_odSet ?_ (Or.inr (by decide)) | refine good_odSetShown ?_ (Or.inl (by unfold odKey; omega))
      | refine good_odSetShown ?_ (Or.inr (by decide)) | fail_if_no_progress apply good_mk | split | dsimp only)

theorem good_permSend {s a1 a2} (hs : Good q s) : Good q (permSend s a1 a2) := by
  unfold permSend
  repeat' (with_reducible first
      | assumption | intro _ | apply good_openOut | apply good_markDid | apply good_foldl | apply good_foldl_fst
      | apply good_foldl_snd | fail_if_no_progress apply good_mk | split | dsimp only)

theorem good_advance1 {s a1 a2} (hs : Good q s) : Good q (advance1 s a1 a2) := by
  unfold advance1
  repeat' (with_reducible first
      | assumption | apply good_advReduce | apply good_advGather | apply good_advScalar | apply good_finishEntry
      | apply good_advDispatch | apply good_advCombine | apply good_permFinish | apply good_permSend
      | fail_if_no_progress apply good_mk | split | dsimp only)

theorem good_cackIn {s a1 a2} (hs : Good q s) : Good q (cackIn s a1 a2) := by
  unfold cackIn
  repeat' (with_reducible first
      | assumption | apply good_collMod | apply good_pumpOut | fail_if_no_progress apply good_mk | split | dsimp only)

theorem good_remapChunk {s a1} (hs : Good q s) : Good q (remapChunk s a1) := by
  unfold remapChunk
  repeat' (with_reducible first
      | assumption | apply good_sendCack | refine good_countNotify ?_ (by unfold odKey; omega)
      | refine good_bump ?_ (by unfold odKey; omega) | apply good_writeBytes | apply good_nearSend
      | fail_if_no_progress apply good_mk | split | dsimp only)

theorem good_collAdvance {s} (hs : Good q s) : Good q (collAdvance s) := by
  unfold collAdvance
  repeat' (with_reducible first
      | assumption | intro _ | apply good_advance1 | apply good_foldl | apply good_foldl_fst | apply good_foldl_snd
      | fail_if_no_progress apply good_mk | split | dsimp only)

theorem good_chunkIn {s a1 a2} (hs : Good q s) : Good q (chunkIn s a1 a2) := by
  unfold chunkIn
  repeat' (with_reducible first
      | assumption | apply goodOpt_map | apply good_takeRx | refine good_takeRx_eq ?_ ‹_› | apply good_remapChunk
      | apply good_sendCack | refine good_countNotify ?_ (by unfold odKey; omega) | apply good_collAdvance
      | apply good_storeChunk | apply good_getD | fail_if_no_progress apply good_mk | split | dsimp only)

theorem good_startReduce {s a1 a2 a3} (hs : Good q s) : Good q (startReduce s a1 a2 a3) := by
  unfold startReduce
  repeat' (with_reducible first
      | assumption | intro _ | apply good_centryMod | apply good_openIn | apply good_openOut | apply good_foldl
      | apply good_foldl_fst | apply good_foldl_snd | fail_if_no_progress apply good_mk | split | dsimp only)

theorem good_startGather {s a1 a2 a3} (hs : Good q s) : Good q (startGather s a1 a2 a3) := by
  unfold startGather
  repeat' (with_reducible first
      | assumption | intro _ | apply good_writeBytes | apply good_openOut | apply good_openIn | apply good_foldl
      | apply good_foldl_fst | apply good_foldl_snd | fail_if_no_progress apply good_mk | split | dsimp only)

theorem good_startScalar {s a1 a2 a3} (hs : Good q s) : Good q (startScalar s a1 a2 a3) := by
  unfold startScalar
  repeat' (with_reducible first
      | assumption | intro _ | apply good_sendVc0 | apply good_centryMod | apply good_collMod | apply good_foldl
      | apply good_foldl_fst | apply good_foldl_snd | fail_if_no_progress apply good_mk | split | dsimp only)

theorem good_startPut {s a1 a2 a3} (hs : Good q s) : Good q (startPut s a1 a2 a3) := by
  unfold startPut
  repeat' (with_reducible first
      | assumption | apply good_openOut | fail_if_no_progress apply good_mk | split | dsimp only)

theorem good_startDispatch {s a1 a2 a3} (hs : Good q s) : Good q (startDispatch s a1 a2 a3) := by
  unfold startDispatch
  repeat' (with_reducible first
      | assumption | intro _ | refine good_bumpBy ?_ (by unfold odKey; omega) | apply good_collMod | apply good_writeBytes
      | apply good_openIn | apply good_landRows | apply good_openOut | apply good_foldl | apply good_foldl_fst
      | apply good_foldl_snd | fail_if_no_progress apply good_mk | split | dsimp only)

theorem good_startCombine {s a1 a2 a3} (hs : Good q s) : Good q (startCombine s a1 a2 a3) := by
  unfold startCombine
  repeat' (with_reducible first
      | assumption | intro _ | apply good_openOut | apply good_openIn | apply good_foldl | apply good_foldl_fst
      | apply good_foldl_snd | fail_if_no_progress apply good_mk | split | dsimp only)

theorem good_permExpect {s a1 a2} (hs : Good q s) : Good q (permExpect s a1 a2) := by
  unfold permExpect
  repeat' (with_reducible first
      | assumption | intro _ | apply good_openIn | apply good_foldl | apply good_foldl_fst | apply good_foldl_snd
      | fail_if_no_progress apply good_mk | split | dsimp only)

theorem good_startEntry {s a1 a2 a3} (hs : Good q s) : Good q (startEntry s a1 a2 a3) := by
  unfold startEntry
  repeat' (with_reducible first
      | assumption | apply good_cqueueMod | apply good_freeHead | apply good_startReduce | apply good_startGather
      | apply good_startScalar | apply good_startPut | apply good_startDispatch | apply good_startCombine
      | apply good_permExpect | apply good_collAdvance | refine good_bumpBy ?_ (by unfold odKey; omega)
      | fail_if_no_progress apply good_mk | split | dsimp only)

theorem good_collHead {s a1 a2} (hs : Good q s) : Good q (collHead s a1 a2) := by
  unfold collHead
  repeat' (with_reducible first
      | assumption | apply good_eccFault | apply good_holdHead | apply good_refuseEntry | apply good_freeHead
      | apply good_startEntry | fail_if_no_progress apply good_mk | split | dsimp only)

theorem good_execFlit {a0 a1 a2 s} (hs : Good q s) : GoodOut q (execFlit a0 a1 a2 s) := by
  unfold execFlit
  repeat' (with_reducible first
      | assumption | apply goodOut_next | apply good_nportCount | apply good_askReplay | apply good_flitAcks
      | apply good_acceptFlit | apply good_nportMod | apply good_wireIdle | fail_if_no_progress apply good_mk | split
      | dsimp only)

theorem good_execReplayLimit {a0 a1 s} (hs : Good q s) : GoodOut q (execReplayLimit a0 a1 s) := by
  unfold execReplayLimit
  repeat' (with_reducible first
      | assumption | apply goodOut_next | refine good_bump ?_ (by unfold odKey; omega) | apply good_linkDown
      | apply good_showPorts | apply good_nportCount | apply good_nportMod | fail_if_no_progress apply good_mk | split
      | dsimp only)

theorem good_execPortTrained {a0 a1 a2 a3 s} (hs : Good q s) : GoodOut q (execPortTrained a0 a1 a2 a3 s) := by
  unfold execPortTrained
  repeat' (with_reducible first
      | assumption | intro _ | apply goodOut_next | apply good_nportMod | apply good_nportCount | apply good_stopIfLost
      | apply good_reroute | apply good_notifyVal | apply good_linkUp | apply good_wireFlit | apply good_foldl
      | apply good_foldl_fst | apply good_foldl_snd | fail_if_no_progress apply good_mk | split | dsimp only)

theorem good_execTrainingTimeout {a0 s} (hs : Good q s) : GoodOut q (execTrainingTimeout a0 s) := by
  unfold execTrainingTimeout
  repeat' (with_reducible first
      | assumption | apply goodOut_next | apply good_linkDown | apply good_nportMod | fail_if_no_progress apply good_mk
      | split | dsimp only)

theorem good_execSyncInc {a0 s} (hs : Good q s) : GoodOut q (execSyncInc a0 s) := by
  unfold execSyncInc
  repeat' (with_reducible first
      | assumption | intro _ | apply goodOut_next | apply goodOpt_map | apply good_takeRx | refine good_takeRx_eq ?_ ‹_›
      | apply good_syncMod | apply good_foldl | apply good_foldl_fst | apply good_foldl_snd | apply good_getD
      | fail_if_no_progress apply good_mk | split | dsimp only)

theorem good_execCack {a0 s} (hs : Good q s) : GoodOut q (execCack a0 s) := by
  unfold execCack
  repeat' (with_reducible first
      | assumption | apply goodOut_next | apply goodOpt_map | apply good_takeRx | refine good_takeRx_eq ?_ ‹_›
      | refine good_bump ?_ (by unfold odKey; omega) | apply good_collAdvance | apply good_cackIn | apply good_getD
      | fail_if_no_progress apply good_mk | split | dsimp only)

theorem good_execScalarPacket {a0 s} (hs : Good q s) : GoodOut q (execScalarPacket a0 s) := by
  unfold execScalarPacket
  repeat' (with_reducible first
      | assumption | apply goodOut_next | apply goodOpt_map | apply good_takeRx | refine good_takeRx_eq ?_ ‹_›
      | refine good_bump ?_ (by unfold odKey; omega) | apply good_collAdvance | apply good_collMod | apply good_getD
      | fail_if_no_progress apply good_mk | split | dsimp only)

theorem good_takeCtrl {s : State} {src ctype : Nat} (hs : Good q s) :
    GoodOpt (fun z => Good q z.2) (takeCtrl s src ctype).1 ∧ Good q (takeCtrl s src ctype).2 := by
  unfold takeCtrl
  split
  · exact ⟨goodOpt_none, hs⟩
  · have h := good_takeRx_eq hs ‹_›
    split
    · exact ⟨goodOpt_none, good_bump h (by decide)⟩
    · split
      · exact ⟨goodOpt_some h, hs⟩
      · exact ⟨goodOpt_none, hs⟩

theorem good_takeCtrl_some {s t u : State} {src ctype : Nat} {x : RxPkt} (hs : Good q s)
    (h : takeCtrl s src ctype = (some (x, t), u)) : Good q t := by
  have := (good_takeCtrl (src := src) (ctype := ctype) hs).1
  rw [h] at this
  exact this _ rfl

theorem good_takeCtrl_none {s u : State} {src ctype : Nat} {o : Option (RxPkt × State)} (hs : Good q s)
    (h : takeCtrl s src ctype = (o, u)) : Good q u := by
  have := (good_takeCtrl (src := src) (ctype := ctype) hs).2
  rw [h] at this
  exact this

theorem good_execSiteStop {a0 s} (hs : Good q s) : GoodOut q (execSiteStop a0 s) := by
  unfold execSiteStop
  repeat' (with_reducible first
      | assumption | apply goodOut_next | apply goodOpt_map | refine good_takeCtrl_some ?_ ‹_›
      | refine good_takeCtrl_none ?_ ‹_› | apply good_stopJob | apply good_getD | fail_if_no_progress apply good_mk
      | split | dsimp only)

theorem good_execRegather {a0 s} (hs : Good q s) : GoodOut q (execRegather a0 s) := by
  unfold execRegather
  repeat' (with_reducible first
      | assumption | apply goodOut_next | apply goodOpt_map | refine good_takeCtrl_some ?_ ‹_›
      | refine good_takeCtrl_none ?_ ‹_› | apply good_openOut | apply good_getD | fail_if_no_progress apply good_mk
      | split | dsimp only)

theorem good_execPutFault {a0 s} (hs : Good q s) : GoodOut q (execPutFault a0 s) := by
  unfold execPutFault
  repeat' (with_reducible first
      | assumption | apply goodOut_next | apply goodOpt_map | refine good_takeCtrl_some ?_ ‹_›
      | refine good_takeCtrl_none ?_ ‹_› | refine good_odSet ?_ (Or.inl (by unfold odKey; omega))
      | refine good_odSet ?_ (Or.inr (by decide)) | apply good_collMod | apply good_finishEntry
      | refine good_bump ?_ (by unfold odKey; omega) | apply good_getD | fail_if_no_progress apply good_mk | split
      | dsimp only)

theorem good_execPassReady {a0 s} (hs : Good q s) : GoodOut q (execPassReady a0 s) := by
  unfold execPassReady
  repeat' (with_reducible first
      | assumption | apply goodOut_next | apply goodOpt_map | refine good_takeCtrl_some ?_ ‹_›
      | refine good_takeCtrl_none ?_ ‹_› | apply good_collAdvance | apply good_collMod | apply good_getD
      | fail_if_no_progress apply good_mk | split | dsimp only)

theorem good_execPermuteDone {a0 s} (hs : Good q s) : GoodOut q (execPermuteDone a0 s) := by
  unfold execPermuteDone
  repeat' (with_reducible first
      | assumption | apply goodOut_next | apply goodOpt_map | refine good_takeCtrl_some ?_ ‹_›
      | refine good_takeCtrl_none ?_ ‹_› | apply good_collAdvance | apply good_collMod | apply good_getD
      | fail_if_no_progress apply good_mk | split | dsimp only)

theorem good_execContrib {a0 s} (hs : Good q s) : GoodOut q (execContrib a0 s) := by
  unfold execContrib
  repeat' (with_reducible first
      | assumption | apply goodOut_next | apply good_chunkIn | fail_if_no_progress apply good_mk | split | dsimp only)

theorem good_execPartialChunk {a0 s} (hs : Good q s) : GoodOut q (execPartialChunk a0 s) := by
  unfold execPartialChunk
  repeat' (with_reducible first
      | assumption | apply goodOut_next | apply good_chunkIn | fail_if_no_progress apply good_mk | split | dsimp only)

theorem good_execImageChunk {a0 s} (hs : Good q s) : GoodOut q (execImageChunk a0 s) := by
  unfold execImageChunk
  repeat' (with_reducible first
      | assumption | apply goodOut_next | apply good_chunkIn | fail_if_no_progress apply good_mk | split | dsimp only)

theorem good_execPutPacket {a0 s} (hs : Good q s) : GoodOut q (execPutPacket a0 s) := by
  unfold execPutPacket
  repeat' (with_reducible first
      | assumption | apply goodOut_next | apply goodOpt_map | apply good_takeRx | refine good_takeRx_eq ?_ ‹_›
      | apply good_remapChunk | apply good_sendCack | refine good_countNotify ?_ (by unfold odKey; omega)
      | apply good_storeChunk | apply good_releaseIn | apply good_sendCtrl | refine good_bump ?_ (by unfold odKey; omega)
      | apply good_writeBytes | apply good_post | apply good_getD | fail_if_no_progress apply good_mk | split | dsimp only)

theorem good_execDispatchPacket {a0 s} (hs : Good q s) : GoodOut q (execDispatchPacket a0 s) := by
  unfold execDispatchPacket
  repeat' (with_reducible first
      | assumption | apply goodOut_next | apply good_chunkIn | fail_if_no_progress apply good_mk | split | dsimp only)

theorem good_execCombinePacket {a0 s} (hs : Good q s) : GoodOut q (execCombinePacket a0 s) := by
  unfold execCombinePacket
  repeat' (with_reducible first
      | assumption | apply goodOut_next | apply good_chunkIn | fail_if_no_progress apply good_mk | split | dsimp only)

theorem good_stageWrite {s a1 a2} (hs : Good q s) : Good q (stageWrite s a1 a2) := by
  unfold stageWrite
  repeat' (with_reducible first
      | assumption | intro _ | apply good_ownWrite | apply good_foldl | apply good_foldl_fst | apply good_foldl_snd
      | fail_if_no_progress apply good_mk | split | dsimp only)

theorem good_stageChunk {s a1} (hs : Good q s) : Good q (stageChunk s a1) := by
  unfold stageChunk
  repeat' (with_reducible first
      | assumption | apply good_stageWrite | fail_if_no_progress apply good_mk | split | dsimp only)

theorem good_execPermutePacket {a0 s} (hs : Good q s) : GoodOut q (execPermutePacket a0 s) := by
  unfold execPermutePacket
  repeat' (with_reducible first
      | assumption | apply goodOut_next | apply goodOpt_map | apply good_takeRx | refine good_takeRx_eq ?_ ‹_›
      | apply good_stageChunk | apply good_chunkIn | apply good_getD | fail_if_no_progress apply good_mk | split
      | dsimp only)

theorem good_stageRead {s a1 a2} (hs : Good q s) : Good q (stageRead s a1 a2).2 := by
  unfold stageRead
  repeat' (with_reducible first
      | assumption | intro _ | apply good_ownRead | apply good_foldl | apply good_foldl_fst | apply good_foldl_snd
      | fail_if_no_progress apply good_mk | split | dsimp only)

theorem good_permPass {s a1 a2} (hs : Good q s) : Good q (permPass s a1 a2) := by
  unfold permPass
  repeat' (with_reducible first
      | assumption | intro _ | apply good_eccFault | apply good_stageRead | apply good_writeBytes | apply good_centryMod
      | apply good_releaseIn | apply good_permSend | apply good_sendCtrl | apply good_permExpect | apply good_permFinish
      | apply good_foldl | apply good_foldl_fst | apply good_foldl_snd | fail_if_no_progress apply good_mk | split
      | dsimp only)

theorem good_execPermutePass {s} (hs : Good q s) : GoodOut q (execPermutePass s) := by
  unfold execPermutePass
  repeat' (with_reducible first
      | assumption | apply goodOut_next | apply good_collAdvance | apply good_permPass | fail_if_no_progress apply good_mk
      | split | dsimp only)

theorem good_execChunkRetry {a0 s} (hs : Good q s) : GoodOut q (execChunkRetry a0 s) := by
  unfold execChunkRetry
  repeat' (with_reducible first
      | assumption | intro _ | apply goodOut_next | apply good_nearSend | refine good_bump ?_ (by unfold odKey; omega)
      | apply good_foldl | apply good_foldl_fst | apply good_foldl_snd | fail_if_no_progress apply good_mk | split
      | dsimp only)

theorem good_execReduce {a0 s} (hs : Good q s) : GoodOut q (execReduce a0 s) := by
  unfold execReduce
  repeat' (with_reducible first
      | assumption | apply goodOut_next | apply good_collHead | fail_if_no_progress apply good_mk | split | dsimp only)

theorem good_execGather {a0 s} (hs : Good q s) : GoodOut q (execGather a0 s) := by
  unfold execGather
  repeat' (with_reducible first
      | assumption | apply goodOut_next | apply good_collHead | fail_if_no_progress apply good_mk | split | dsimp only)

theorem good_execScalarEntry {a0 s} (hs : Good q s) : GoodOut q (execScalarEntry a0 s) := by
  unfold execScalarEntry
  repeat' (with_reducible first
      | assumption | apply goodOut_next | apply good_collHead | fail_if_no_progress apply good_mk | split | dsimp only)

theorem good_execPut {a0 s} (hs : Good q s) : GoodOut q (execPut a0 s) := by
  unfold execPut
  repeat' (with_reducible first
      | assumption | apply goodOut_next | apply good_collHead | fail_if_no_progress apply good_mk | split | dsimp only)

theorem good_execDispatch {a0 s} (hs : Good q s) : GoodOut q (execDispatch a0 s) := by
  unfold execDispatch
  repeat' (with_reducible first
      | assumption | apply goodOut_next | apply good_collHead | fail_if_no_progress apply good_mk | split | dsimp only)

theorem good_execCombine {a0 s} (hs : Good q s) : GoodOut q (execCombine a0 s) := by
  unfold execCombine
  repeat' (with_reducible first
      | assumption | apply goodOut_next | apply good_collHead | fail_if_no_progress apply good_mk | split | dsimp only)

theorem good_execPermute {a0 s} (hs : Good q s) : GoodOut q (execPermute a0 s) := by
  unfold execPermute
  repeat' (with_reducible first
      | assumption | apply goodOut_next | apply good_collHead | fail_if_no_progress apply good_mk | split | dsimp only)

end Sys2Proof.Machine
end

