-- ==== Sys2Proof/Laws/GoodUpdate.lean ====
section
/-! SUPPORT. What keeps the invariant of Laws/Good.lean: the update units and the update log. -/

set_option linter.unusedVariables false
set_option linter.unusedTactic false
set_option linter.unreachableTactic false

namespace Sys2Proof.Machine

variable {q : List Instr}

theorem good_sealShard {s a1} (hs : Good q s) : Good q (State.sealShard s a1) := by
  unfold State.sealShard
  repeat' (with_reducible first
      | assumption | apply good_writeBytes | fail_if_no_progress apply good_mk | split | dsimp only)

theorem good_bumpVersion {s a1} (hs : Good q s) : Good q (State.bumpVersion s a1) := by
  unfold State.bumpVersion
  repeat' (with_reducible first
      | assumption | apply good_writeBytes | fail_if_no_progress apply good_mk | split | dsimp only)

theorem good_innerRow {s a1 a2 a3 a4 a5} (hs : Good q s) : Good q (innerRow s a1 a2 a3 a4 a5) := by
  unfold innerRow
  repeat' (with_reducible first
      | assumption | refine good_bumpBy ?_ (by unfold odKey; omega) | apply good_writeBytes
      | fail_if_no_progress apply good_mk | split | dsimp only)

theorem good_applyEntry {s a1 a2} (hs : Good q s) : Good q (State.applyEntry s a1 a2) := by
  unfold State.applyEntry
  repeat' (with_reducible first
      | assumption | apply good_innerRow | fail_if_no_progress apply good_mk | split | dsimp only)

theorem good_applyHeld {s} (hs : Good q s) : Good q (State.applyHeld s) := by
  unfold State.applyHeld
  repeat' (with_reducible first
      | assumption | intro _ | apply good_applyEntry | apply good_sealShard | apply good_foldl | apply good_foldl_fst
      | apply good_foldl_snd | fail_if_no_progress apply good_mk | split | dsimp only)

theorem good_applyOpen {s} (hs : Good q s) : Good q (State.applyOpen s) := by
  unfold State.applyOpen
  repeat' (with_reducible first
      | assumption | intro _ | apply good_writeBytes | apply good_foldl | apply good_foldl_fst | apply good_foldl_snd
      | fail_if_no_progress apply good_mk | split | dsimp only)

theorem good_applyLog {s} (hs : Good q s) : Good q (State.applyLog s) := by
  unfold State.applyLog
  repeat' (with_reducible first
      | assumption | apply good_eccFault | apply good_applyHeld | apply good_applyOpen
      | refine good_odSet ?_ (Or.inl (by unfold odKey; omega)) | refine good_odSet ?_ (Or.inr (by decide))
      | fail_if_no_progress apply good_mk | split | dsimp only)

theorem good_lateNonfinite {s} (hs : Good q s) : Good q (lateNonfinite s) := by
  unfold lateNonfinite
  repeat' (with_reducible first
      | assumption | apply good_enterFaulted | refine good_bump ?_ (by unfold odKey; omega)
      | fail_if_no_progress apply good_mk | split | dsimp only)

theorem good_outerRule {s a1 a2 a3 a4 a5 a6} (hs : Good q s) : Good q (outerRule s a1 a2 a3 a4 a5 a6).1 := by
  unfold outerRule
  repeat' (with_reducible first
      | assumption | refine good_bumpBy ?_ (by unfold odKey; omega) | apply good_writeBytes | apply good_draw
      | apply good_lateNonfinite | apply good_sealShard | apply good_bumpVersion | fail_if_no_progress apply good_mk
      | split | dsimp only)

theorem good_clearValid {s a1} (hs : Good q s) : Good q (State.clearValid s a1) := by
  unfold State.clearValid
  repeat' (with_reducible first
      | assumption | apply good_writeBytes | fail_if_no_progress apply good_mk | split | dsimp only)

theorem good_logWrite {s a1 a2} (hs : Good q s) : Good q (State.logWrite s a1 a2) := by
  unfold State.logWrite
  repeat' (with_reducible first
      | assumption | apply good_ownWrite | refine good_odSet ?_ (Or.inl (by unfold odKey; omega))
      | refine good_odSet ?_ (Or.inr (by decide)) | fail_if_no_progress apply good_mk | split | dsimp only)

theorem good_logAppend {s a1 a2 a3 a4 a5 a6 a7 a8} (hs : Good q s) : GoodOpt (fun z => Good q z) (State.logAppend s a1 a2 a3 a4 a5 a6 a7 a8) := by
  unfold State.logAppend
  repeat' (with_reducible first
      | assumption | intro _ | exact goodOpt_none | apply goodOpt_some | apply goodOpt_map | apply good_logWrite
      | fail_if_no_progress apply good_mk | split | dsimp only)

theorem good_logAppend_eq {s a1 a2 a3 a4 a5 a6 a7 a8} (hs : Good q s) {z} (hz : (State.logAppend s a1 a2 a3 a4 a5 a6 a7 a8) = some z) : Good q z :=
  good_logAppend hs _ hz

theorem good_afterLog {s a1 f2} (hs : Good q s) (hf2 : ∀ y0, Good q y0 → Good q (f2 y0)) : GoodOut q (afterLog s a1 f2) := by
  unfold afterLog
  repeat' (with_reducible first
      | assumption | apply goodOut_next | exact goodOut_fault | exact goodOut_refused | apply good_applyLog | apply hf2
      | fail_if_no_progress apply good_mk | split | dsimp only)

theorem good_uqStep {s a1} (hs : Good q s) : Good q (uqStep s a1) := by
  unfold uqStep
  repeat' (with_reducible first
      | assumption | apply good_freeHead | apply good_post | fail_if_no_progress apply good_mk | split | dsimp only)

theorem good_uqRefuse {s a1 a2 a3} (hs : Good q s) : Good q (uqRefuse s a1 a2 a3) := by
  unfold uqRefuse
  repeat' (with_reducible first
      | assumption | refine good_countNotify ?_ (by unfold odKey; omega)
      | refine good_odSet ?_ (Or.inl (by unfold odKey; omega)) | refine good_odSet ?_ (Or.inr (by decide))
      | apply good_uqStep | apply good_logErr | fail_if_no_progress apply good_mk | split | dsimp only)

theorem good_unitCommand {a0 a1 a2 f3 s} (hf3 : ∀ y0 y1 y2, Good q y0 → GoodOut q (f3 y0 y1 y2)) (hs : Good q s) : GoodOut q (unitCommand a0 a1 a2 f3 s) := by
  unfold unitCommand
  repeat' (with_reducible first
      | assumption | apply goodOut_next | exact goodOut_fault | exact goodOut_refused | apply good_eccFault
      | apply good_holdHead | apply good_uqRefuse | apply good_draw | apply hf3 | fail_if_no_progress apply good_mk
      | split | dsimp only)

theorem good_uqFinish {s a1 a2} (hs : Good q s) : Good q (uqFinish s a1 a2) := by
  unfold uqFinish
  repeat' (with_reducible first
      | assumption | apply good_uqStep | apply good_postWord | fail_if_no_progress apply good_mk | split | dsimp only)

theorem good_runTiesum {s a1 a2} (hs : Good q s) : Good q (runTiesum s a1 a2) := by
  unfold runTiesum
  repeat' (with_reducible first
      | assumption | intro _ | apply good_uqFinish | refine good_bump ?_ (by unfold odKey; omega) | apply good_writeBytes
      | apply good_foldl | apply good_foldl_fst | apply good_foldl_snd | fail_if_no_progress apply good_mk | split
      | dsimp only)

theorem good_execTiesum {a0 s} (hs : Good q s) : GoodOut q (execTiesum a0 s) := by
  unfold execTiesum
  repeat' (with_reducible first
      | assumption | intro _ | apply goodOut_next | exact goodOut_fault | exact goodOut_refused | apply good_unitCommand
      | apply good_runTiesum | fail_if_no_progress apply good_mk | split | dsimp only)

theorem good_runNorm {s a1 a2} (hs : Good q s) : Good q (runNorm s a1 a2) := by
  unfold runNorm
  repeat' (with_reducible first
      | assumption | apply good_uqFinish | refine good_bump ?_ (by unfold odKey; omega) | apply good_writeBytes
      | fail_if_no_progress apply good_mk | split | dsimp only)

theorem good_execNormEntry {a0 s} (hs : Good q s) : GoodOut q (execNormEntry a0 s) := by
  unfold execNormEntry
  repeat' (with_reducible first
      | assumption | intro _ | apply goodOut_next | exact goodOut_fault | exact goodOut_refused | apply good_unitCommand
      | apply good_runNorm | fail_if_no_progress apply good_mk | split | dsimp only)

theorem good_innerLogRow {a0 a1 a2 a3 a4} (ha3 : Good q a3.1) : Good q (innerLogRow a0 a1 a2 a3 a4).1 := by
  unfold innerLogRow
  repeat' (with_reducible first
      | assumption | apply goodOpt_map | refine good_bump ?_ (by unfold odKey; omega) | apply good_innerRow
      | apply good_logAppend | refine good_logAppend_eq ?_ ‹_› | apply good_applyLog | apply good_getD
      | fail_if_no_progress apply good_mk | split | dsimp only)

theorem good_innerSlow {s a1 a2 a3} (hs : Good q s) : GoodOut q (innerSlow s a1 a2 a3) := by
  unfold innerSlow
  repeat' (with_reducible first
      | assumption | intro _ | apply goodOut_next | exact goodOut_fault | exact goodOut_refused | apply good_draw
      | apply good_lateNonfinite | apply good_innerLogRow | apply good_bumpVersion | apply good_uqFinish
      | refine good_bump ?_ (by unfold odKey; omega) | apply good_sealShard | apply good_clearValid | apply good_foldl
      | apply good_foldl_fst | apply good_foldl_snd | fail_if_no_progress apply good_mk | split | dsimp only)

theorem good_innerHbm {s a1 a2 a3} (hs : Good q s) : Good q (innerHbm s a1 a2 a3) := by
  unfold innerHbm
  repeat' (with_reducible first
      | assumption | apply good_draw | apply good_lateNonfinite | apply good_innerRow | apply good_uqFinish
      | refine good_bump ?_ (by unfold odKey; omega) | apply good_sealShard | apply good_bumpVersion
      | fail_if_no_progress apply good_mk | split | dsimp only)

theorem good_runInner {s a1 a2} (hs : Good q s) : GoodOut q (runInner s a1 a2) := by
  unfold runInner
  repeat' (with_reducible first
      | assumption | apply goodOut_next | exact goodOut_fault | exact goodOut_refused | apply good_uqFinish
      | refine good_bump ?_ (by unfold odKey; omega) | apply good_innerSlow | apply good_innerHbm
      | fail_if_no_progress apply good_mk | split | dsimp only)

theorem good_execInner {a0 s} (hs : Good q s) : GoodOut q (execInner a0 s) := by
  unfold execInner
  repeat' (with_reducible first
      | assumption | intro _ | apply goodOut_next | exact goodOut_fault | exact goodOut_refused | apply good_unitCommand
      | apply good_runInner | fail_if_no_progress apply good_mk | split | dsimp only)

theorem good_runOuter {s a1 a2} (hs : Good q s) : Good q (runOuter s a1 a2) := by
  unfold runOuter
  repeat' (with_reducible first
      | assumption | apply good_outerRule | apply good_uqFinish | refine good_bump ?_ (by unfold odKey; omega)
      | fail_if_no_progress apply good_mk | split | dsimp only)

theorem good_execOuter {a0 s} (hs : Good q s) : GoodOut q (execOuter a0 s) := by
  unfold execOuter
  repeat' (with_reducible first
      | assumption | intro _ | apply goodOut_next | exact goodOut_fault | exact goodOut_refused | apply good_unitCommand
      | apply good_afterLog | apply good_runOuter | fail_if_no_progress apply good_mk | split | dsimp only)

theorem good_runDigest {s a1 a2} (hs : Good q s) : Good q (runDigest s a1 a2) := by
  unfold runDigest
  repeat' (with_reducible first
      | assumption | apply good_sealShard | apply good_writeBytes | apply good_uqFinish
      | fail_if_no_progress apply good_mk | split | dsimp only)

theorem good_execDigest {a0 s} (hs : Good q s) : GoodOut q (execDigest a0 s) := by
  unfold execDigest
  repeat' (with_reducible first
      | assumption | intro _ | apply goodOut_next | exact goodOut_fault | exact goodOut_refused | apply good_unitCommand
      | apply good_afterLog | apply good_runDigest | fail_if_no_progress apply good_mk | split | dsimp only)

theorem good_execLogApply {a0 s} (hs : Good q s) : GoodOut q (execLogApply a0 s) := by
  unfold execLogApply
  repeat' (with_reducible first
      | assumption | intro _ | apply goodOut_next | exact goodOut_fault | exact goodOut_refused | apply good_unitCommand
      | apply good_afterLog | apply good_uqFinish | fail_if_no_progress apply good_mk | split | dsimp only)

theorem good_exportRecord {s a1 a2 a3} (hs : Good q s) : Good q (exportRecord s a1 a2 a3) := by
  unfold exportRecord
  repeat' (with_reducible first
      | assumption | refine good_bump ?_ (by unfold odKey; omega) | apply good_writeBytes
      | fail_if_no_progress apply good_mk | split | dsimp only)

theorem good_execCoordExport {a0 s} (hs : Good q s) : GoodOut q (execCoordExport a0 s) := by
  unfold execCoordExport
  repeat' (with_reducible first
      | assumption | intro _ | apply goodOut_next | exact goodOut_fault | exact goodOut_refused | apply good_unitCommand
      | apply good_uqFinish | apply good_exportRecord | fail_if_no_progress apply good_mk | split | dsimp only)

theorem good_importMomentum {s a1 a2 a3 a4} (hs : Good q s) : Good q (importMomentum s a1 a2 a3 a4) := by
  unfold importMomentum
  repeat' (with_reducible first
      | assumption | apply good_writeBytes | fail_if_no_progress apply good_mk | split | dsimp only)

theorem good_importRecord {s a1} (hs : Good q s) : Good q (importRecord s a1) := by
  unfold importRecord
  repeat' (with_reducible first
      | assumption | refine good_bump ?_ (by unfold odKey; omega) | apply good_writeBytes | apply good_importMomentum
      | fail_if_no_progress apply good_mk | split | dsimp only)

theorem good_execCoordImport {a0 s} (hs : Good q s) : GoodOut q (execCoordImport a0 s) := by
  unfold execCoordImport
  repeat' (with_reducible first
      | assumption | intro _ | apply goodOut_next | exact goodOut_fault | exact goodOut_refused | apply good_unitCommand
      | apply good_uqFinish | apply good_importRecord | apply good_uqRefuse | fail_if_no_progress apply good_mk | split
      | dsimp only)

theorem good_execScrub {a0 a1 s} (hs : Good q s) : GoodOut q (execScrub a0 a1 s) := by
  unfold execScrub
  repeat' (with_reducible first
      | assumption | apply goodOut_next | exact goodOut_fault | exact goodOut_refused
      | refine good_bump ?_ (by unfold odKey; omega) | apply good_eccFault | fail_if_no_progress apply good_mk | split
      | dsimp only)

end Sys2Proof.Machine
end

