-- ==== Sys2Proof/Laws/GoodFar.lean ====
section
/-! SUPPORT. What keeps the invariant of Laws/Good.lean: the far transport, time, the Fusees, the Escapement and the watchdogs. -/

set_option linter.unusedVariables false
set_option linter.unusedTactic false
set_option linter.unreachableTactic false

namespace Sys2Proof.Machine

variable {q : List Instr}

theorem good_farMod {s a1} (hs : Good q s) : Good q (State.farMod s a1) := by
  unfold State.farMod
  repeat' (with_reducible first
      | assumption | fail_if_no_progress apply good_mk | split | dsimp only)

theorem good_fpeerMod {s a1 a2} (hs : Good q s) : Good q (State.fpeerMod s a1 a2) := by
  unfold State.fpeerMod
  repeat' (with_reducible first
      | assumption | apply good_farMod | fail_if_no_progress apply good_mk | split | dsimp only)

theorem good_randomBytes {s a1} (hs : Good q s) : Good q (State.randomBytes s a1).2 := by
  unfold State.randomBytes
  repeat' (with_reducible first
      | assumption | apply good_draw | fail_if_no_progress apply good_mk | split | dsimp only)

theorem good_farRxDrop {s a1 a2} (hs : Good q s) : Good q (State.farRxDrop s a1 a2) := by
  unfold State.farRxDrop
  repeat' (with_reducible first
      | assumption | apply good_fpeerMod | fail_if_no_progress apply good_mk | split | dsimp only)

theorem good_relayAppend {s a1 a2 a3 a4} (hs : Good q s) : Good q (State.relayAppend s a1 a2 a3 a4) := by
  unfold State.relayAppend
  repeat' (with_reducible first
      | assumption | apply good_pumpOut | apply good_collMod | fail_if_no_progress apply good_mk | split | dsimp only)

theorem good_farAbort {s a1 a2} (hs : Good q s) : Good q (State.farAbort s a1 a2) := by
  unfold State.farAbort
  repeat' (with_reducible first
      | assumption | apply good_farRxDrop | apply good_relayAppend | fail_if_no_progress apply good_mk | split
      | dsimp only)

theorem good_fillSlots {s a1 a2 a3} (hs : Good q s) : Good q (State.fillSlots s a1 a2 a3) := by
  unfold State.fillSlots
  repeat' (with_reducible first
      | assumption | intro _ | apply good_writeBytes | apply good_fpeerMod | apply good_foldl | apply good_foldl_fst
      | apply good_foldl_snd | fail_if_no_progress apply good_mk | split | dsimp only)

theorem good_placeFrames {s a1 a2} (hs : Good q s) : Good q (State.placeFrames s a1 a2) := by
  unfold State.placeFrames
  repeat' (with_reducible first
      | assumption | apply good_fpeerMod | apply good_fillSlots | fail_if_no_progress apply good_mk | split | dsimp only)

theorem good_renewSlots {s a1} (hs : Good q s) : Good q (State.renewSlots s a1) := by
  unfold State.renewSlots
  repeat' (with_reducible first
      | assumption | intro _ | apply good_placeFrames | apply good_fpeerMod | apply good_foldl | apply good_foldl_fst
      | apply good_foldl_snd | fail_if_no_progress apply good_mk | split | dsimp only)

theorem good_farSession {s a1 a2 a3} (hs : Good q s) : Good q (State.farSession s a1 a2 a3) := by
  unfold State.farSession
  repeat' (with_reducible first
      | assumption | intro _ | apply good_farAbort | apply good_renewSlots | apply good_fpeerMod | apply good_foldl
      | apply good_foldl_fst | apply good_foldl_snd | fail_if_no_progress apply good_mk | split | dsimp only)

theorem good_peerCount {s a1 a2 a3} (hs : Good q s) : Good q (State.peerCount s a1 a2 a3) := by
  unfold State.peerCount
  repeat' (with_reducible first
      | assumption | apply good_fpeerMod | fail_if_no_progress apply good_mk | split | dsimp only)

theorem good_askHop {s a1} (hs : Good q s) : Good q (State.askHop s a1) := by
  unfold State.askHop
  repeat' (with_reducible first
      | assumption | apply good_emit | fail_if_no_progress apply good_mk | split | dsimp only)

theorem good_farPut {s a1 a2} (hs : Good q s) : Good q (State.farPut s a1 a2) := by
  unfold State.farPut
  repeat' (with_reducible first
      | assumption | apply good_farMod | apply good_askHop | apply good_emit | fail_if_no_progress apply good_mk | split
      | dsimp only)

theorem good_farEmit {s a1 a2} (hs : Good q s) : Good q (State.farEmit s a1 a2) := by
  unfold State.farEmit
  repeat' (with_reducible first
      | assumption | apply good_peerCount | apply good_farPut | fail_if_no_progress apply good_mk | split | dsimp only)

theorem good_sendInit {s a1} (hs : Good q s) : Good q (State.sendInit s a1) := by
  unfold State.sendInit
  repeat' (with_reducible first
      | assumption | apply good_renewSlots | apply good_fpeerMod | apply good_farEmit | fail_if_no_progress apply good_mk
      | split | dsimp only)

theorem good_peerState {s a1 a2} (hs : Good q s) : Good q (State.peerState s a1 a2) := by
  unfold State.peerState
  repeat' (with_reducible first
      | assumption | apply good_notifyVal | apply good_fpeerMod | fail_if_no_progress apply good_mk | split | dsimp only)

theorem good_startHs {s a1 a2} (hs : Good q s) : Good q (State.startHs s a1 a2) := by
  unfold State.startHs
  repeat' (with_reducible first
      | assumption | apply good_randomBytes | apply good_draw | apply good_fpeerMod | apply good_farSession
      | apply good_sendInit | apply good_peerState | fail_if_no_progress apply good_mk | split | dsimp only)

theorem good_wantKey {s a1} (hs : Good q s) : Good q (State.wantKey s a1) := by
  unfold State.wantKey
  repeat' (with_reducible first
      | assumption | apply good_startHs | fail_if_no_progress apply good_mk | split | dsimp only)

theorem good_keyWear {s a1} (hs : Good q s) : Good q (State.keyWear s a1) := by
  unfold State.keyWear
  repeat' (with_reducible first
      | assumption | apply good_wantKey | apply good_fpeerMod | fail_if_no_progress apply good_mk | split | dsimp only)

theorem good_sealFrame {s a1 a2 a3 a4 a5} (hs : Good q s) : Good q (State.sealFrame s a1 a2 a3 a4 a5) := by
  unfold State.sealFrame
  repeat' (with_reducible first
      | assumption | apply good_keyWear | apply good_fpeerMod | apply good_farEmit | fail_if_no_progress apply good_mk
      | split | dsimp only)

theorem good_sendConfirm {s a1} (hs : Good q s) : Good q (State.sendConfirm s a1) := by
  unfold State.sendConfirm
  repeat' (with_reducible first
      | assumption | apply good_fpeerMod | apply good_sealFrame | fail_if_no_progress apply good_mk | split | dsimp only)

theorem good_farSend {s a1 a2 a3 a4 a5} (hs : Good q s) : Good q (State.farSend s a1 a2 a3 a4 a5).1 := by
  unfold State.farSend
  repeat' (with_reducible first
      | assumption | apply good_sendConfirm | apply good_sealFrame | fail_if_no_progress apply good_mk | split
      | dsimp only)

theorem good_sendAck {s a1} (hs : Good q s) : Good q (State.sendAck s a1) := by
  unfold State.sendAck
  repeat' (with_reducible first
      | assumption | apply good_farSend | apply good_fpeerMod | fail_if_no_progress apply good_mk | split | dsimp only)

theorem good_ackAfter {s a1 a2 a3} (hs : Good q s) : Good q (State.ackAfter s a1 a2 a3) := by
  unfold State.ackAfter
  repeat' (with_reducible first
      | assumption | intro _ | apply good_sendAck | apply good_foldl | apply good_foldl_fst | apply good_foldl_snd
      | fail_if_no_progress apply good_mk | split | dsimp only)

theorem good_outerMod {s a1} (hs : Good q s) : Good q (State.outerMod s a1) := by
  unfold State.outerMod
  repeat' (with_reducible first
      | assumption | fail_if_no_progress apply good_mk | split | dsimp only)

theorem good_thetaWrite {s a1 a2} (hs : Good q s) : Good q (State.thetaWrite s a1 a2) := by
  unfold State.thetaWrite
  repeat' (with_reducible first
      | assumption | apply good_sealShard | apply good_bumpVersion | apply good_writeBytes
      | fail_if_no_progress apply good_mk | split | dsimp only)

theorem good_rebase {s a1 a2 a3} (hs : Good q s) : Good q (State.rebase s a1 a2 a3) := by
  unfold State.rebase
  repeat' (with_reducible first
      | assumption | apply good_thetaWrite | fail_if_no_progress apply good_mk | split | dsimp only)

theorem good_planWrite {s a1 a2} (hs : Good q s) : Good q (State.planWrite s a1 a2) := by
  unfold State.planWrite
  repeat' (with_reducible first
      | assumption | apply good_writeBytes | fail_if_no_progress apply good_mk | split | dsimp only)

theorem good_thetaToBase {s a1} (hs : Good q s) : Good q (State.thetaToBase s a1) := by
  unfold State.thetaToBase
  repeat' (with_reducible first
      | assumption | apply good_thetaWrite | fail_if_no_progress apply good_mk | split | dsimp only)

theorem good_dropDelta {s a1} (hs : Good q s) : Good q (State.dropDelta s a1) := by
  unfold State.dropDelta
  repeat' (with_reducible first
      | assumption | intro _ | apply good_planWrite | apply good_thetaToBase | apply good_outerMod | apply good_foldl
      | apply good_foldl_fst | apply good_foldl_snd | fail_if_no_progress apply good_mk | split | dsimp only)

theorem good_relayWhole {s a1 a2 a3} (hs : Good q s) : Good q (State.relayWhole s a1 a2 a3) := by
  unfold State.relayWhole
  repeat' (with_reducible first
      | assumption | apply good_relayAppend | apply good_farMod | fail_if_no_progress apply good_mk | split | dsimp only)

theorem good_gatewayHolds {s a1 a2} (hs : Good q s) : Good q (State.gatewayHolds s a1 a2) := by
  unfold State.gatewayHolds
  repeat' (with_reducible first
      | assumption | apply good_relayWhole | fail_if_no_progress apply good_mk | split | dsimp only)

theorem good_handOver {s a1 a2 a3} (hs : Good q s) : Good q (State.handOver s a1 a2 a3) := by
  unfold State.handOver
  repeat' (with_reducible first
      | assumption | apply good_farMod | apply good_gatewayHolds | apply good_pumpOut | apply good_nearSend
      | fail_if_no_progress apply good_mk | split | dsimp only)

theorem good_authentic {s a1 a2} (hs : Good q s) : Good q (State.authentic s a1 a2) := by
  unfold State.authentic
  repeat' (with_reducible first
      | assumption | apply good_fpeerMod | refine good_bump ?_ (by unfold odKey; omega) | apply good_peerState
      | fail_if_no_progress apply good_mk | split | dsimp only)

theorem good_setBeat {s a1 a2} (hs : Good q s) : Good q (State.setBeat s a1 a2) := by
  unfold State.setBeat
  repeat' (with_reducible first
      | assumption | fail_if_no_progress apply good_mk | split | dsimp only)

theorem good_rearm {s a1 a2} (hs : Good q s) : Good q (State.rearm s a1 a2) := by
  unfold State.rearm
  repeat' (with_reducible first
      | assumption | apply good_setBeat | fail_if_no_progress apply good_mk | split | dsimp only)

theorem good_beatRuns {s a1 a2 f3} (hs : Good q s) (hf3 : ∀ y0 y1, Good q y0 → Good q (f3 y0 y1).1) : Good q (State.beatRuns s a1 a2 f3) := by
  unfold State.beatRuns
  repeat' (with_reducible first
      | assumption | apply good_rearm | apply good_takeChanges | refine good_odSet ?_ (Or.inl (by unfold odKey; omega))
      | refine good_odSet ?_ (Or.inr (by decide)) | refine good_bump ?_ (by unfold odKey; omega)
      | refine good_odSetShown ?_ (Or.inl (by unfold odKey; omega)) | refine good_odSetShown ?_ (Or.inr (by decide))
      | apply good_post | apply hf3 | fail_if_no_progress apply good_mk | split | dsimp only)

theorem good_movePeer {s a1 a2} (hs : Good q s) : Good q (State.movePeer s a1 a2) := by
  unfold State.movePeer
  repeat' (with_reducible first
      | assumption | apply good_sendConfirm | refine good_bump ?_ (by unfold odKey; omega) | apply good_fpeerMod
      | fail_if_no_progress apply good_mk | split | dsimp only)

theorem good_leavePort {s a1} (hs : Good q s) : Good q (State.leavePort s a1) := by
  unfold State.leavePort
  repeat' (with_reducible first
      | assumption | intro _ | apply good_movePeer | apply good_farMod | apply good_foldl | apply good_foldl_fst
      | apply good_foldl_snd | fail_if_no_progress apply good_mk | split | dsimp only)

theorem good_writeTable {s a1} (hs : Good q s) : Good q (writeTable s a1) := by
  unfold writeTable
  repeat' (with_reducible first
      | assumption | intro _ | apply good_setBeat | apply good_foldl | apply good_foldl_fst | apply good_foldl_snd
      | fail_if_no_progress apply good_mk | split | dsimp only)

theorem good_writeBeat {s a1 a2} (hs : Good q s) : Good q (writeBeat s a1 a2) := by
  unfold writeBeat
  repeat' (with_reducible first
      | assumption | apply good_setBeat | fail_if_no_progress apply good_mk | split | dsimp only)

theorem good_forgetHops {s} (hs : Good q s) : Good q (State.forgetHops s) := by
  unfold State.forgetHops
  repeat' (with_reducible first
      | assumption | apply good_farMod | fail_if_no_progress apply good_mk | split | dsimp only)

theorem good_setFt {s a1} (hs : Good q s) : Good q (State.setFt s a1) := by
  unfold State.setFt
  repeat' (with_reducible first
      | assumption | fail_if_no_progress apply good_mk | split | dsimp only)

theorem good_skipLate {s a1} (hs : Good q s) : Good q (State.skipLate s a1) := by
  unfold State.skipLate
  repeat' (with_reducible first
      | assumption | apply good_notify | refine good_bumpBy ?_ (by unfold odKey; omega) | apply good_rearm
      | fail_if_no_progress apply good_mk | split | dsimp only)

theorem good_enterRunning {s} (hs : Good q s) : Good q (State.enterRunning s) := by
  unfold State.enterRunning
  repeat' (with_reducible first
      | assumption | intro _ | apply good_skipLate | refine good_setModState ?_ (by decide)
      | refine good_odSet ?_ (Or.inl (by unfold odKey; omega)) | refine good_odSet ?_ (Or.inr (by decide))
      | apply good_foldl | apply good_foldl_fst | apply good_foldl_snd | fail_if_no_progress apply good_mk | split
      | dsimp only)

theorem good_holdTarget {s a1 a2} (hs : Good q s) : Good q (State.holdTarget s a1 a2) := by
  unfold State.holdTarget
  repeat' (with_reducible first
      | assumption | refine good_setModState ?_ (by decide) | apply good_enterRunning | apply good_unitMod
      | apply good_pumpPort | fail_if_no_progress apply good_mk | split | dsimp only)

theorem good_countLock {s a1} (hs : Good q s) : Good q (State.countLock s a1) := by
  unfold State.countLock
  repeat' (with_reducible first
      | assumption | refine good_odSet ?_ (Or.inl (by unfold odKey; omega)) | refine good_odSet ?_ (Or.inr (by decide))
      | fail_if_no_progress apply good_mk | split | dsimp only)

theorem good_deltaBad {s a1 a2} (hs : Good q s) : Good q (State.deltaBad s a1 a2) := by
  unfold State.deltaBad
  repeat' (with_reducible first
      | assumption | apply good_dropDelta | refine good_bump ?_ (by unfold odKey; omega) | apply good_outerMod
      | fail_if_no_progress apply good_mk | split | dsimp only)

theorem good_dropMsgs {s} (hs : Good q s) : Good q (State.dropMsgs s) := by
  unfold State.dropMsgs
  repeat' (with_reducible first
      | assumption | apply good_farMod | fail_if_no_progress apply good_mk | split | dsimp only)

theorem good_halve {s a1} (hs : Good q s) : Good q (State.halve s a1).2 := by
  unfold State.halve
  repeat' (with_reducible first
      | assumption | apply good_draw | fail_if_no_progress apply good_mk | split | dsimp only)

theorem good_servo {s a1 a2 a3 a4 a5} (hs : Good q s) : Good q (State.servo s a1 a2 a3 a4 a5) := by
  unfold State.servo
  repeat' (with_reducible first
      | assumption | apply good_halve | refine good_odSet ?_ (Or.inl (by unfold odKey; omega))
      | refine good_odSet ?_ (Or.inr (by decide)) | refine good_countNotify ?_ (by unfold odKey; omega) | apply good_draw
      | apply good_setFt | apply good_countLock | fail_if_no_progress apply good_mk | split | dsimp only)

theorem good_exchange {s a1 a2} (hs : Good q s) : Good q (State.exchange s a1 a2) := by
  unfold State.exchange
  repeat' (with_reducible first
      | assumption | apply good_servo | fail_if_no_progress apply good_mk | split | dsimp only)

theorem good_expire {s a1 a2 a3} (hs : Good q s) : Good q (State.expire s a1 a2 a3) := by
  unfold State.expire
  repeat' (with_reducible first
      | assumption | apply good_unitMod | refine good_bump ?_ (by unfold odKey; omega) | fail_if_no_progress apply good_mk
      | split | dsimp only)

theorem good_farAccept {s a1 a2 a3 a4} (hs : Good q s) : Good q (State.farAccept s a1 a2 a3 a4).1 := by
  unfold State.farAccept
  repeat' (with_reducible first
      | assumption | refine good_bump ?_ (by unfold odKey; omega) | apply good_peerCount
      | fail_if_no_progress apply good_mk | split | dsimp only)

theorem good_farAccept_eq {s a1 a2 a3 a4} (hs : Good q s) {y z} (hz : (State.farAccept s a1 a2 a3 a4) = (z, y)) : Good q z := by
  have e := congrArg Prod.fst hz
  dsimp only at e
  subst e
  exact good_farAccept hs

theorem good_farRxPut {s a1 a2} (hs : Good q s) : Good q (State.farRxPut s a1 a2) := by
  unfold State.farRxPut
  repeat' (with_reducible first
      | assumption | apply good_fpeerMod | fail_if_no_progress apply good_mk | split | dsimp only)

theorem good_farData {s a1 a2 a3} (hs : Good q s) : Good q (State.farData s a1 a2 a3) := by
  unfold State.farData
  repeat' (with_reducible first
      | assumption | apply good_farMod | apply good_farRxDrop | apply good_farRxPut | apply good_relayAppend
      | fail_if_no_progress apply good_mk | split | dsimp only)

theorem good_farOpen {s a1 a2 a3 a4} (hs : Good q s) : Good q (State.farOpen s a1 a2 a3 a4).1 := by
  unfold State.farOpen
  repeat' (with_reducible first
      | assumption | apply good_farAccept | refine good_farAccept_eq ?_ ‹_› | apply good_peerCount | apply good_fpeerMod
      | apply good_authentic | apply good_wantKey | fail_if_no_progress apply good_mk | split | dsimp only)

theorem good_farOpen_eq {s a1 a2 a3 a4} (hs : Good q s) {y z} (hz : (State.farOpen s a1 a2 a3 a4) = (z, y)) : Good q z := by
  have e := congrArg Prod.fst hz
  dsimp only at e
  subst e
  exact good_farOpen hs

theorem good_firstHs {s a1} (hs : Good q s) : Good q (State.firstHs s a1) := by
  unfold State.firstHs
  repeat' (with_reducible first
      | assumption | apply good_startHs | fail_if_no_progress apply good_mk | split | dsimp only)

theorem good_learnHop {s a1 a2 a3} (hs : Good q s) : Good q (State.learnHop s a1 a2 a3) := by
  unfold State.learnHop
  repeat' (with_reducible first
      | assumption | intro _ | apply good_farMod | apply good_farPut | apply good_foldl | apply good_foldl_fst
      | apply good_foldl_snd | fail_if_no_progress apply good_mk | split | dsimp only)

theorem good_nbrLearn {s a1 a2 a3} (hs : Good q s) : Good q (State.nbrLearn s a1 a2 a3) := by
  unfold State.nbrLearn
  repeat' (with_reducible first
      | assumption | apply good_learnHop | fail_if_no_progress apply good_mk | split | dsimp only)

theorem good_releaseSlots {s a1 a2} (hs : Good q s) : Good q (State.releaseSlots s a1 a2) := by
  unfold State.releaseSlots
  repeat' (with_reducible first
      | assumption | apply good_peerCount | apply good_fpeerMod | fail_if_no_progress apply good_mk | split | dsimp only)

theorem good_runBeat {s a1 f2} (hs : Good q s) (hf2 : ∀ y0 y1, Good q y0 → Good q (f2 y0 y1).1) : Good q (State.runBeat s a1 f2) := by
  unfold State.runBeat
  repeat' (with_reducible first
      | assumption | intro _ | apply good_skipLate | refine good_bump ?_ (by unfold odKey; omega) | apply good_rearm
      | apply good_notify | apply good_beatRuns | apply hf2 | fail_if_no_progress apply good_mk | split | dsimp only)

theorem good_slotBody {s a1} (hs : Good q s) : Good q (State.slotBody s a1).2 := by
  unfold State.slotBody
  repeat' (with_reducible first
      | assumption | apply good_ownRead | fail_if_no_progress apply good_mk | split | dsimp only)

theorem good_sendSlot {s a1 a2} (hs : Good q s) : Good q (State.sendSlot s a1 a2) := by
  unfold State.sendSlot
  repeat' (with_reducible first
      | assumption | apply good_eccFault | apply good_slotBody | apply good_farSend | apply good_fpeerMod
      | apply good_peerCount | fail_if_no_progress apply good_mk | split | dsimp only)

theorem good_sendTime {s a1 a2 a3 a4} (hs : Good q s) : Good q (State.sendTime s a1 a2 a3 a4) := by
  unfold State.sendTime
  repeat' (with_reducible first
      | assumption | apply good_nearSendPort | fail_if_no_progress apply good_mk | split | dsimp only)

theorem good_seqArrives {s a1 a2} (hs : Good q s) : Good q (State.seqArrives s a1 a2).1 := by
  unfold State.seqArrives
  repeat' (with_reducible first
      | assumption | apply good_fpeerMod | apply good_sendAck | apply good_peerCount | fail_if_no_progress apply good_mk
      | split | dsimp only)

theorem good_supersede {s a1 a2} (hs : Good q s) : Good q (State.supersede s a1 a2) := by
  unfold State.supersede
  repeat' (with_reducible first
      | assumption | intro _ | apply good_peerCount | apply good_fpeerMod | apply good_foldl | apply good_foldl_fst
      | apply good_foldl_snd | fail_if_no_progress apply good_mk | split | dsimp only)

theorem good_sequence {s a1 a2} (hs : Good q s) : Good q (State.sequence s a1 a2) := by
  unfold State.sequence
  repeat' (with_reducible first
      | assumption | apply good_placeFrames | apply good_supersede | fail_if_no_progress apply good_mk | split
      | dsimp only)

theorem good_execGapBeat {s} (hs : Good q s) : GoodOut q (execGapBeat s) := by
  unfold execGapBeat
  repeat' (with_reducible first
      | assumption | intro _ | apply goodOut_next | apply good_runBeat | fail_if_no_progress apply good_mk | split
      | dsimp only)

theorem good_execHoldBeat {s} (hs : Good q s) : GoodOut q (execHoldBeat s) := by
  unfold execHoldBeat
  repeat' (with_reducible first
      | assumption | intro _ | apply goodOut_next | apply good_runBeat | apply good_holdTarget
      | fail_if_no_progress apply good_mk | split | dsimp only)

theorem good_execReleaseBeat {s} (hs : Good q s) : GoodOut q (execReleaseBeat s) := by
  unfold execReleaseBeat
  repeat' (with_reducible first
      | assumption | intro _ | apply goodOut_next | apply good_runBeat | apply good_holdTarget
      | fail_if_no_progress apply good_mk | split | dsimp only)

theorem good_execHandStall {a0 a1 a2 s} (hs : Good q s) : GoodOut q (execHandStall a0 a1 a2 s) := by
  unfold execHandStall
  repeat' (with_reducible first
      | assumption | apply goodOut_next | apply good_expire | apply good_tryStop | apply good_pinMod
      | fail_if_no_progress apply good_mk | split | dsimp only)

theorem good_execT1Silence {a0 a1 s} (hs : Good q s) : GoodOut q (execT1Silence a0 a1 s) := by
  unfold execT1Silence
  repeat' (with_reducible first
      | assumption | apply goodOut_next | apply good_expire | apply good_escT1 | fail_if_no_progress apply good_mk | split
      | dsimp only)

theorem good_execT2Silence {a0 a1 s} (hs : Good q s) : GoodOut q (execT2Silence a0 a1 s) := by
  unfold execT2Silence
  repeat' (with_reducible first
      | assumption | apply goodOut_next | apply good_expire | apply good_escT2 | fail_if_no_progress apply good_mk | split
      | dsimp only)

theorem good_execDieWatchdog {a0 a1 s} (hs : Good q s) : GoodOut q (execDieWatchdog a0 a1 s) := by
  unfold execDieWatchdog
  repeat' (with_reducible first
      | assumption | apply goodOut_next | apply good_expire | apply good_enterFaulted | apply good_fenceUnit
      | fail_if_no_progress apply good_mk | split | dsimp only)

theorem good_execModuleWatchdog {s} (hs : Good q s) : GoodOut q (execModuleWatchdog s) := by
  unfold execModuleWatchdog
  repeat' (with_reducible first
      | assumption | apply goodOut_next | apply good_enterFaulted | apply good_expire | fail_if_no_progress apply good_mk
      | split | dsimp only)

theorem good_execTimePacket {a0 a1 s} (hs : Good q s) : GoodOut q (execTimePacket a0 a1 s) := by
  unfold execTimePacket
  repeat' (with_reducible first
      | assumption | apply goodOut_next | apply goodOpt_map | apply good_takeRx | refine good_takeRx_eq ?_ ‹_›
      | apply good_sendTime | apply good_exchange | refine good_bump ?_ (by unfold odKey; omega) | apply good_getD
      | fail_if_no_progress apply good_mk | split | dsimp only)

theorem good_fqStep {s a1} (hs : Good q s) : Good q (fqStep s a1) := by
  unfold fqStep
  repeat' (with_reducible first
      | assumption | apply good_freeHead | apply good_post | fail_if_no_progress apply good_mk | split | dsimp only)

theorem good_fqRefuse {s a1 a2 a3} (hs : Good q s) : Good q (fqRefuse s a1 a2 a3) := by
  unfold fqRefuse
  repeat' (with_reducible first
      | assumption | apply good_fqStep | refine good_countNotify ?_ (by unfold odKey; omega)
      | refine good_odSet ?_ (Or.inl (by unfold odKey; omega)) | refine good_odSet ?_ (Or.inr (by decide))
      | fail_if_no_progress apply good_mk | split | dsimp only)

theorem good_fqFinish {s a1 a2} (hs : Good q s) : Good q (fqFinish s a1 a2) := by
  unfold fqFinish
  repeat' (with_reducible first
      | assumption | apply good_fqStep | apply good_postWord | fail_if_no_progress apply good_mk | split | dsimp only)

theorem good_fuseeCommand {a0 a1 f2 s} (hf2 : ∀ y0 y1, Good q y0 → Good q (f2 y0 y1)) (hs : Good q s) : GoodOut q (fuseeCommand a0 a1 f2 s) := by
  unfold fuseeCommand
  repeat' (with_reducible first
      | assumption | apply goodOut_next | apply good_eccFault | apply good_holdHead | apply good_fqRefuse
      | apply good_fqFinish | apply hf2 | fail_if_no_progress apply good_mk | split | dsimp only)

theorem good_execEfadd {a0 s} (hs : Good q s) : GoodOut q (execEfadd a0 s) := by
  unfold execEfadd
  repeat' (with_reducible first
      | assumption | intro _ | apply goodOut_next | apply good_fuseeCommand | apply good_deltaBad | apply good_writeBytes
      | fail_if_no_progress apply good_mk | split | dsimp only)

theorem good_execOrtho {a0 s} (hs : Good q s) : GoodOut q (execOrtho a0 s) := by
  unfold execOrtho
  repeat' (with_reducible first
      | assumption | intro _ | apply goodOut_next | apply good_fuseeCommand | apply good_writeBytes
      | fail_if_no_progress apply good_mk | split | dsimp only)

theorem good_execResid {a0 s} (hs : Good q s) : GoodOut q (execResid a0 s) := by
  unfold execResid
  repeat' (with_reducible first
      | assumption | intro _ | apply goodOut_next | apply good_fuseeCommand | apply good_writeBytes
      | fail_if_no_progress apply good_mk | split | dsimp only)

theorem good_execPack {a0 s} (hs : Good q s) : GoodOut q (execPack a0 s) := by
  unfold execPack
  repeat' (with_reducible first
      | assumption | intro _ | apply goodOut_next | apply good_fuseeCommand | apply good_deltaBad | apply good_writeBytes
      | fail_if_no_progress apply good_mk | split | dsimp only)

theorem good_execFoldDigest {a0 s} (hs : Good q s) : GoodOut q (execFoldDigest a0 s) := by
  unfold execFoldDigest
  repeat' (with_reducible first
      | assumption | intro _ | apply goodOut_next | apply good_fuseeCommand | apply good_writeBytes
      | fail_if_no_progress apply good_mk | split | dsimp only)

theorem good_execArp {a0 a1 s} (hs : Good q s) : GoodOut q (execArp a0 a1 s) := by
  unfold execArp
  repeat' (with_reducible first
      | assumption | apply goodOut_next | apply good_nbrLearn | apply good_emit | fail_if_no_progress apply good_mk
      | split | dsimp only)

theorem good_execNeighborDiscovery {a0 a1 s} (hs : Good q s) : GoodOut q (execNeighborDiscovery a0 a1 s) := by
  unfold execNeighborDiscovery
  repeat' (with_reducible first
      | assumption | apply goodOut_next | apply good_nbrLearn | apply good_emit | fail_if_no_progress apply good_mk
      | split | dsimp only)

theorem good_execDataFrame {a0 a1 a2 s} (hs : Good q s) : GoodOut q (execDataFrame a0 a1 a2 s) := by
  unfold execDataFrame
  repeat' (with_reducible first
      | assumption | apply goodOut_next | apply good_farOpen | refine good_farOpen_eq ?_ ‹_› | apply good_peerCount
      | apply good_seqArrives | apply good_ackAfter | apply good_farData | fail_if_no_progress apply good_mk | split
      | dsimp only)

theorem good_execAckFrame {a0 a1 a2 s} (hs : Good q s) : GoodOut q (execAckFrame a0 a1 a2 s) := by
  unfold execAckFrame
  repeat' (with_reducible first
      | assumption | apply goodOut_next | apply good_farOpen | refine good_farOpen_eq ?_ ‹_› | apply good_peerCount
      | apply good_fpeerMod | apply good_dropMsgs | apply good_releaseSlots | fail_if_no_progress apply good_mk | split
      | dsimp only)

theorem good_execRetireFrame {a0 a1 a2 s} (hs : Good q s) : GoodOut q (execRetireFrame a0 a1 a2 s) := by
  unfold execRetireFrame
  repeat' (with_reducible first
      | assumption | intro _ | apply goodOut_next | apply good_farOpen | refine good_farOpen_eq ?_ ‹_›
      | apply good_peerCount | apply good_seqArrives | apply good_fpeerMod | apply good_farAbort | apply good_ackAfter
      | apply good_foldl | apply good_foldl_fst | apply good_foldl_snd | fail_if_no_progress apply good_mk | split
      | dsimp only)

theorem good_execConfirm {a0 a1 a2 s} (hs : Good q s) : GoodOut q (execConfirm a0 a1 a2 s) := by
  unfold execConfirm
  repeat' (with_reducible first
      | assumption | apply goodOut_next | apply good_farOpen | refine good_farOpen_eq ?_ ‹_›
      | fail_if_no_progress apply good_mk | split | dsimp only)

theorem good_execTimeSync {a0 a1 a2 a3 s} (hs : Good q s) : GoodOut q (execTimeSync a0 a1 a2 a3 s) := by
  unfold execTimeSync
  repeat' (with_reducible first
      | assumption | apply goodOut_next | apply good_farOpen | refine good_farOpen_eq ?_ ‹_› | apply good_peerCount
      | apply good_farSend | apply good_fpeerMod | fail_if_no_progress apply good_mk | split | dsimp only)

theorem good_stampEx {s a1 a2} (hs : Good q s) : Good q (stampEx s a1 a2) := by
  unfold stampEx
  repeat' (with_reducible first
      | assumption | apply good_fpeerMod | apply good_exchange | fail_if_no_progress apply good_mk | split | dsimp only)

theorem good_execTimeFollow {a0 a1 a2 s} (hs : Good q s) : GoodOut q (execTimeFollow a0 a1 a2 s) := by
  unfold execTimeFollow
  repeat' (with_reducible first
      | assumption | apply goodOut_next | apply good_farOpen | refine good_farOpen_eq ?_ ‹_› | apply good_peerCount
      | apply good_stampEx | fail_if_no_progress apply good_mk | split | dsimp only)

theorem good_execTimeDreq {a0 a1 a2 a3 s} (hs : Good q s) : GoodOut q (execTimeDreq a0 a1 a2 a3 s) := by
  unfold execTimeDreq
  repeat' (with_reducible first
      | assumption | apply goodOut_next | apply good_farOpen | refine good_farOpen_eq ?_ ‹_› | apply good_peerCount
      | apply good_farSend | fail_if_no_progress apply good_mk | split | dsimp only)

theorem good_execTimeDresp {a0 a1 a2 s} (hs : Good q s) : GoodOut q (execTimeDresp a0 a1 a2 s) := by
  unfold execTimeDresp
  repeat' (with_reducible first
      | assumption | apply goodOut_next | apply good_farOpen | refine good_farOpen_eq ?_ ‹_› | apply good_peerCount
      | apply good_stampEx | fail_if_no_progress apply good_mk | split | dsimp only)

theorem good_execTimeExchange {a0 s} (hs : Good q s) : GoodOut q (execTimeExchange a0 s) := by
  unfold execTimeExchange
  repeat' (with_reducible first
      | assumption | apply goodOut_next | apply good_countLock | apply good_farSend | apply good_fpeerMod
      | apply good_sendTime | fail_if_no_progress apply good_mk | split | dsimp only)

theorem good_execHoldoverTimeout {s} (hs : Good q s) : GoodOut q (execHoldoverTimeout s) := by
  unfold execHoldoverTimeout
  repeat' (with_reducible first
      | assumption | apply goodOut_next | refine good_odSet ?_ (Or.inl (by unfold odKey; omega))
      | refine good_odSet ?_ (Or.inr (by decide)) | fail_if_no_progress apply good_mk | split | dsimp only)

theorem good_hsFails {s} (hs : Good q s) : Good q (hsFails s) := by
  unfold hsFails
  repeat' (with_reducible first
      | assumption | refine good_countNotify ?_ (by unfold odKey; omega) | fail_if_no_progress apply good_mk | split
      | dsimp only)

theorem good_execHsInit {a0 a1 a2 s} (hs : Good q s) : GoodOut q (execHsInit a0 a1 a2 s) := by
  unfold execHsInit
  repeat' (with_reducible first
      | assumption | apply goodOut_next | apply good_farAccept | refine good_farAccept_eq ?_ ‹_› | apply good_farEmit
      | apply good_peerCount | apply good_hsFails | apply good_peerState | apply good_farSession | apply good_randomBytes
      | apply good_fpeerMod | fail_if_no_progress apply good_mk | split | dsimp only)

theorem good_execHsResp {a0 a1 a2 s} (hs : Good q s) : GoodOut q (execHsResp a0 a1 a2 s) := by
  unfold execHsResp
  repeat' (with_reducible first
      | assumption | apply goodOut_next | apply good_farAccept | refine good_farAccept_eq ?_ ‹_› | apply good_peerCount
      | apply good_hsFails | apply good_fpeerMod | apply good_renewSlots | apply good_sendConfirm | apply good_peerState
      | refine good_bump ?_ (by unfold odKey; omega) | fail_if_no_progress apply good_mk | split | dsimp only)

theorem good_execHsResend {a0 s} (hs : Good q s) : GoodOut q (execHsResend a0 s) := by
  unfold execHsResend
  repeat' (with_reducible first
      | assumption | apply goodOut_next | apply good_sendInit | apply good_firstHs | fail_if_no_progress apply good_mk
      | split | dsimp only)

theorem good_execKeyLifetime {a0 s} (hs : Good q s) : GoodOut q (execKeyLifetime a0 s) := by
  unfold execKeyLifetime
  repeat' (with_reducible first
      | assumption | apply goodOut_next | apply good_wantKey | fail_if_no_progress apply good_mk | split | dsimp only)

theorem good_execOldKeyRelease {a0 s} (hs : Good q s) : GoodOut q (execOldKeyRelease a0 s) := by
  unfold execOldKeyRelease
  repeat' (with_reducible first
      | assumption | apply goodOut_next | apply good_fpeerMod | fail_if_no_progress apply good_mk | split | dsimp only)

theorem good_execAckTimer {a0 s} (hs : Good q s) : GoodOut q (execAckTimer a0 s) := by
  unfold execAckTimer
  repeat' (with_reducible first
      | assumption | apply goodOut_next | apply good_sendAck | fail_if_no_progress apply good_mk | split | dsimp only)

theorem good_execRtoExpiry {a0 a1 s} (hs : Good q s) : GoodOut q (execRtoExpiry a0 a1 s) := by
  unfold execRtoExpiry
  repeat' (with_reducible first
      | assumption | apply goodOut_next | apply good_fpeerMod | refine good_bump ?_ (by unfold odKey; omega)
      | fail_if_no_progress apply good_mk | split | dsimp only)

theorem good_execPeerDown {a0 s} (hs : Good q s) : GoodOut q (execPeerDown a0 s) := by
  unfold execPeerDown
  repeat' (with_reducible first
      | assumption | apply goodOut_next | apply good_peerState | fail_if_no_progress apply good_mk | split | dsimp only)

theorem good_execPortReturn {a0 s} (hs : Good q s) : GoodOut q (execPortReturn a0 s) := by
  unfold execPortReturn
  repeat' (with_reducible first
      | assumption | apply goodOut_next | apply good_movePeer | fail_if_no_progress apply good_mk | split | dsimp only)

theorem good_execRelayGrant {s} (hs : Good q s) : GoodOut q (execRelayGrant s) := by
  unfold execRelayGrant
  repeat' (with_reducible first
      | assumption | intro _ | apply goodOut_next | apply good_farMod | apply good_sequence | apply good_sendCack
      | refine good_bump ?_ (by unfold odKey; omega) | apply good_foldl | apply good_foldl_fst | apply good_foldl_snd
      | fail_if_no_progress apply good_mk | split | dsimp only)

theorem good_execPpsIn {a0 s} (hs : Good q s) : GoodOut q (execPpsIn a0 s) := by
  unfold execPpsIn
  repeat' (with_reducible first
      | assumption | apply goodOut_next | refine good_odSet ?_ (Or.inl (by unfold odKey; omega))
      | refine good_odSet ?_ (Or.inr (by decide)) | fail_if_no_progress apply good_mk | split | dsimp only)

theorem good_execPpsOut {s} (hs : Good q s) : GoodOut q (execPpsOut s) := by
  unfold execPpsOut
  repeat' (with_reducible first
      | assumption | apply goodOut_next | apply good_emit | fail_if_no_progress apply good_mk | split | dsimp only)

theorem good_execFarPortUp {a0 s} (hs : Good q s) : GoodOut q (execFarPortUp a0 s) := by
  unfold execFarPortUp
  repeat' (with_reducible first
      | assumption | intro _ | apply goodOut_next | refine good_odSet ?_ (Or.inl (by unfold odKey; omega))
      | refine good_odSet ?_ (Or.inr (by decide)) | apply good_sendConfirm | apply good_movePeer | apply good_firstHs
      | apply good_foldl | apply good_foldl_fst | apply good_foldl_snd | fail_if_no_progress apply good_mk | split
      | dsimp only)

theorem good_execFarPortDown {a0 s} (hs : Good q s) : GoodOut q (execFarPortDown a0 s) := by
  unfold execFarPortDown
  repeat' (with_reducible first
      | assumption | apply goodOut_next | apply good_leavePort | refine good_odSet ?_ (Or.inl (by unfold odKey; omega))
      | refine good_odSet ?_ (Or.inr (by decide)) | fail_if_no_progress apply good_mk | split | dsimp only)

theorem good_execFrameSend {a0 s} (hs : Good q s) : GoodOut q (execFrameSend a0 s) := by
  unfold execFrameSend
  repeat' (with_reducible first
      | assumption | apply goodOut_next | apply good_farMod | apply good_sendConfirm | apply good_sendSlot
      | fail_if_no_progress apply good_mk | split | dsimp only)

theorem good_execForeignFrame {a0 a1 s} (hs : Good q s) : GoodOut q (execForeignFrame a0 a1 s) := by
  unfold execForeignFrame
  repeat' (with_reducible first
      | assumption | apply goodOut_next | refine good_bump ?_ (by unfold odKey; omega) | fail_if_no_progress apply good_mk
      | split | dsimp only)

end Sys2Proof.Machine
end

