-- ==== Sys2Proof/Laws/GoodRounds.lean ====
section
/-! SUPPORT. What keeps the invariant of Laws/Good.lean: the outer rounds, the site job and the sync objects. -/

set_option linter.unusedVariables false
set_option linter.unusedTactic false
set_option linter.unreachableTactic false

namespace Sys2Proof.Machine

variable {q : List Instr}

theorem good_adoptTerm {s a1 a2} (hs : Good q s) : Good q (State.adoptTerm s a1 a2) := by
  unfold State.adoptTerm
  repeat' (with_reducible first
      | assumption | refine good_bump ?_ (by unfold odKey; omega) | refine good_odSet ?_ (Or.inl (by unfold odKey; omega))
      | refine good_odSet ?_ (Or.inr (by decide)) | apply good_outerMod | fail_if_no_progress apply good_mk | split
      | dsimp only)

theorem good_commitResid {s a1 a2} (hs : Good q s) : Good q (State.commitResid s a1 a2) := by
  unfold State.commitResid
  repeat' (with_reducible first
      | assumption | intro _ | apply good_planWrite | apply good_foldl | apply good_foldl_fst | apply good_foldl_snd
      | fail_if_no_progress apply good_mk | split | dsimp only)

theorem good_setSeals {s a1 a2} (hs : Good q s) : Good q (State.setSeals s a1 a2) := by
  unfold State.setSeals
  repeat' (with_reducible first
      | assumption | apply good_outerMod | fail_if_no_progress apply good_mk | split | dsimp only)

theorem good_afterManifest {s a1 a2 a3} (hs : Good q s) : Good q (State.afterManifest s a1 a2 a3) := by
  unfold State.afterManifest
  repeat' (with_reducible first
      | assumption | intro _ | apply good_rebase | apply good_commitResid | refine good_bump ?_ (by unfold odKey; omega)
      | apply good_dropDelta | apply good_setSeals | apply good_foldl | apply good_foldl_fst | apply good_foldl_snd
      | fail_if_no_progress apply good_mk | split | dsimp only)

theorem good_sendReq {s a1} (hs : Good q s) : Good q (State.sendReq s a1) := by
  unfold State.sendReq
  repeat' (with_reducible first
      | assumption | refine good_bump ?_ (by unfold odKey; omega) | apply good_handOver
      | fail_if_no_progress apply good_mk | split | dsimp only)

theorem good_request {s a1} (hs : Good q s) : Good q (State.request s a1) := by
  unfold State.request
  repeat' (with_reducible first
      | assumption | apply good_outerMod | apply good_sendReq | fail_if_no_progress apply good_mk | split | dsimp only)

theorem good_fetchBase {s a1 a2 a3} (hs : Good q s) : Good q (State.fetchBase s a1 a2 a3) := by
  unfold State.fetchBase
  repeat' (with_reducible first
      | assumption | apply good_request | fail_if_no_progress apply good_mk | split | dsimp only)

theorem good_seek {s a1} (hs : Good q s) : Good q (State.seek s a1) := by
  unfold State.seek
  repeat' (with_reducible first
      | assumption | intro _ | apply good_fetchBase | apply good_request | apply good_foldl | apply good_foldl_fst
      | apply good_foldl_snd | fail_if_no_progress apply good_mk | split | dsimp only)

theorem good_repairShard {s a1} (hs : Good q s) : Good q (State.repairShard s a1) := by
  unfold State.repairShard
  repeat' (with_reducible first
      | assumption | apply good_fetchBase | refine good_bump ?_ (by unfold odKey; omega)
      | fail_if_no_progress apply good_mk | split | dsimp only)

theorem good_outerShard {s a1 a2 a3} (hs : Good q s) : Good q (State.outerShard s a1 a2 a3).1 := by
  unfold State.outerShard
  repeat' (with_reducible first
      | assumption | intro _ | apply good_outerRule | apply good_foldl | apply good_foldl_fst | apply good_foldl_snd
      | fail_if_no_progress apply good_mk | split | dsimp only)

theorem good_applyOne {s a1 a2} (hs : Good q s) : Good q (State.applyOne s a1 a2).1 := by
  unfold State.applyOne
  repeat' (with_reducible first
      | assumption | apply good_seek | apply good_eccFault | apply good_repairShard | apply good_outerShard
      | apply good_afterManifest | refine good_bump ?_ (by unfold odKey; omega) | fail_if_no_progress apply good_mk
      | split | dsimp only)

theorem good_exportsEnd {s a1} (hs : Good q s) : Good q (State.exportsEnd s a1) := by
  unfold State.exportsEnd
  repeat' (with_reducible first
      | assumption | refine good_countNotify ?_ (by unfold odKey; omega) | refine good_bump ?_ (by unfold odKey; omega)
      | fail_if_no_progress apply good_mk | split | dsimp only)

theorem good_applyShard {n : Nat} {s : State} {k r : Nat} (hs : Good q s) : Good q (State.applyShard n s k r) := by
  induction n generalizing s with
  | zero => exact hs
  | succ n ih =>
    rw [State.applyShard]
    split
    · exact ih (good_applyOne hs)
    · exact good_applyOne hs

theorem good_showBase {s} (hs : Good q s) : Good q (State.showBase s) := by
  unfold State.showBase
  repeat' (with_reducible first
      | assumption | intro _ | refine good_odSetShown ?_ (Or.inl (by unfold odKey; omega))
      | refine good_odSetShown ?_ (Or.inr (by decide)) | apply good_foldl | apply good_foldl_fst | apply good_foldl_snd
      | fail_if_no_progress apply good_mk | split | dsimp only)

theorem good_applyRound {s a1} (hs : Good q s) : Good q (State.applyRound s a1) := by
  unfold State.applyRound
  repeat' (with_reducible first
      | assumption | intro _ | apply good_exportsEnd | apply good_applyLog | apply good_applyShard | apply good_showBase
      | apply good_foldl | apply good_foldl_fst | apply good_foldl_snd | fail_if_no_progress apply good_mk | split
      | dsimp only)

theorem good_farFromLayout {s} (hs : Good q s) : Good q (State.farFromLayout s) := by
  unfold State.farFromLayout
  repeat' (with_reducible first
      | assumption | intro _ | refine good_odSet ?_ (Or.inl (by unfold odKey; omega))
      | refine good_odSet ?_ (Or.inr (by decide)) | apply good_publish | apply good_foldl | apply good_foldl_fst
      | apply good_foldl_snd | fail_if_no_progress apply good_mk | split | dsimp only)

theorem good_warmInit {s a1} (hs : Good q s) : Good q (State.warmInit s a1) := by
  unfold State.warmInit
  repeat' (with_reducible first
      | assumption | intro _ | apply good_outerMod | apply good_planWrite | apply good_foldl | apply good_foldl_fst
      | apply good_foldl_snd | fail_if_no_progress apply good_mk | split | dsimp only)

theorem good_seekAll {s} (hs : Good q s) : Good q (State.seekAll s) := by
  unfold State.seekAll
  repeat' (with_reducible first
      | assumption | intro _ | apply good_seek | apply good_outerMod | apply good_foldl | apply good_foldl_fst
      | apply good_foldl_snd | fail_if_no_progress apply good_mk | split | dsimp only)

theorem good_restoreKept {s a1} (hs : Good q s) : Good q (restoreKept s a1) := by
  unfold restoreKept
  repeat' (with_reducible first
      | assumption | intro _ | apply good_warmInit | apply good_dropDelta | apply good_fetchBase | apply good_applyLog
      | apply good_seekAll | refine good_bump ?_ (by unfold odKey; omega) | apply good_foldl | apply good_foldl_fst
      | apply good_foldl_snd | fail_if_no_progress apply good_mk | split | dsimp only)

theorem good_restore {s} (hs : Good q s) : Good q (State.restore s) := by
  unfold State.restore
  repeat' (with_reducible first
      | assumption | apply good_restoreKept | fail_if_no_progress apply good_mk | split | dsimp only)

theorem good_roleFromLayout {s} (hs : Good q s) : Good q (State.roleFromLayout s) := by
  unfold State.roleFromLayout
  repeat' (with_reducible first
      | assumption | refine good_odSet ?_ (Or.inl (by unfold odKey; omega)) | refine good_odSet ?_ (Or.inr (by decide))
      | fail_if_no_progress apply good_mk | split | dsimp only)

theorem good_layoutWritten {s} (hs : Good q s) : Good q (State.layoutWritten s) := by
  unfold State.layoutWritten
  repeat' (with_reducible first
      | assumption | apply good_roleFromLayout | apply good_farFromLayout | apply good_dropSessions
      | fail_if_no_progress apply good_mk | split | dsimp only)

theorem good_closeRound {s a1} (hs : Good q s) : Good q (State.closeRound s a1) := by
  unfold State.closeRound
  repeat' (with_reducible first
      | assumption | apply good_outerMod | fail_if_no_progress apply good_mk | split | dsimp only)

theorem good_handContrib {s a1} (hs : Good q s) : Good q (State.handContrib s a1) := by
  unfold State.handContrib
  repeat' (with_reducible first
      | assumption | apply good_outerMod | apply good_handOver | fail_if_no_progress apply good_mk | split | dsimp only)

theorem good_contribReady {s a1 a2 a3} (hs : Good q s) : Good q (State.contribReady s a1 a2 a3) := by
  unfold State.contribReady
  repeat' (with_reducible first
      | assumption | apply good_handContrib | apply good_outerMod | fail_if_no_progress apply good_mk | split | dsimp only)

theorem good_countReplays {s a1 a2} (hs : Good q s) : Good q (State.countReplays s a1 a2) := by
  unfold State.countReplays
  repeat' (with_reducible first
      | assumption | intro _ | refine good_bumpBy ?_ (by unfold odKey; omega) | apply good_foldl | apply good_foldl_fst
      | apply good_foldl_snd | fail_if_no_progress apply good_mk | split | dsimp only)

theorem good_setKslot {s a1 a2} (hs : Good q s) : Good q (State.setKslot s a1 a2) := by
  unfold State.setKslot
  repeat' (with_reducible first
      | assumption | apply good_outerMod | fail_if_no_progress apply good_mk | split | dsimp only)

theorem good_setPlace {s a1 a2} (hs : Good q s) : Good q (State.setPlace s a1 a2) := by
  unfold State.setPlace
  repeat' (with_reducible first
      | assumption | apply good_setKslot | apply good_outerMod | fail_if_no_progress apply good_mk | split | dsimp only)

theorem good_discardIn {s a1 a2 a3} (hs : Good q s) : Good q (State.discardIn s a1 a2 a3) := by
  unfold State.discardIn
  repeat' (with_reducible first
      | assumption | apply good_setPlace | refine good_countNotify ?_ (by unfold odKey; omega) | apply good_outerMod
      | fail_if_no_progress apply good_mk | split | dsimp only)

theorem good_endorse {s a1 a2} (hs : Good q s) : Good q (State.endorse s a1 a2) := by
  unfold State.endorse
  repeat' (with_reducible first
      | assumption | apply good_outerMod | fail_if_no_progress apply good_mk | split | dsimp only)

theorem good_inboxPut {s a1} (hs : Good q s) : Good q (State.inboxPut s a1) := by
  unfold State.inboxPut
  repeat' (with_reducible first
      | assumption | apply good_outerMod | fail_if_no_progress apply good_mk | split | dsimp only)

theorem good_inboxTake {s a1 a2} (hs : Good q s) : GoodOpt (fun z => Good q z.2) (State.inboxTake s a1 a2) := by
  unfold State.inboxTake
  repeat' (with_reducible first
      | assumption | intro _ | exact goodOpt_none | apply goodOpt_some | apply goodOpt_map | apply good_outerMod
      | fail_if_no_progress apply good_mk | split | dsimp only)

theorem good_inboxTake_eq {s a1 a2} (hs : Good q s) {y z} (hz : (State.inboxTake s a1 a2) = some (y, z)) : Good q z :=
  good_inboxTake hs _ hz

theorem good_sendNotice {s a1 a2 a3 a4 a5} (hs : Good q s) : Good q (State.sendNotice s a1 a2 a3 a4 a5) := by
  unfold State.sendNotice
  repeat' (with_reducible first
      | assumption | apply good_inboxPut | apply good_handOver | fail_if_no_progress apply good_mk | split | dsimp only)

theorem good_rejectContrib {s a1 a2 a3 a4 a5 a6} (hs : Good q s) : Good q (State.rejectContrib s a1 a2 a3 a4 a5 a6) := by
  unfold State.rejectContrib
  repeat' (with_reducible first
      | assumption | apply good_sendNotice | refine good_odSet ?_ (Or.inl (by unfold odKey; omega))
      | refine good_odSet ?_ (Or.inr (by decide)) | refine good_bump ?_ (by unfold odKey; omega)
      | fail_if_no_progress apply good_mk | split | dsimp only)

theorem good_slotTake {s a1} (hs : Good q s) : Good q (State.slotTake s a1).1 := by
  unfold State.slotTake
  repeat' (with_reducible first
      | assumption | apply good_writeBytes | apply good_setKslot | fail_if_no_progress apply good_mk | split | dsimp only)

theorem good_judge {s a1} (hs : Good q s) : Good q (State.judge s a1) := by
  unfold State.judge
  repeat' (with_reducible first
      | assumption | apply good_outerMod | apply good_rejectContrib | apply good_slotTake
      | fail_if_no_progress apply good_mk | split | dsimp only)

theorem good_keepManifest {s a1} (hs : Good q s) : Good q (State.keepManifest s a1) := by
  unfold State.keepManifest
  repeat' (with_reducible first
      | assumption | apply good_outerMod | fail_if_no_progress apply good_mk | split | dsimp only)

theorem good_restartWaits {s a1} (hs : Good q s) (ha1 : Good q a1) : Good q (restartWaits s a1) := by
  unfold restartWaits
  repeat' (with_reducible first
      | assumption | fail_if_no_progress apply good_mk | split | dsimp only)

theorem good_nextWanted {s} (hs : Good q s) : Good q (State.nextWanted s) := by
  unfold State.nextWanted
  repeat' (with_reducible first
      | assumption | apply good_outerMod | apply good_sendReq | fail_if_no_progress apply good_mk | split | dsimp only)

theorem good_partialPut {s a1 a2 a3 a4} (hs : Good q s) : Good q (State.partialPut s a1 a2 a3 a4) := by
  unfold State.partialPut
  repeat' (with_reducible first
      | assumption | apply good_outerMod | fail_if_no_progress apply good_mk | split | dsimp only)

theorem good_sendMgmt {s a1 a2 a3} (hs : Good q s) : Good q (State.sendMgmt s a1 a2 a3) := by
  unfold State.sendMgmt
  repeat' (with_reducible first
      | assumption | apply good_nearSend | fail_if_no_progress apply good_mk | split | dsimp only)

theorem good_sendOdWrite {s a1 a2 a3 a4} (hs : Good q s) : Good q (State.sendOdWrite s a1 a2 a3 a4) := by
  unfold State.sendOdWrite
  repeat' (with_reducible first
      | assumption | intro _ | apply good_sendMgmt | apply good_foldl | apply good_foldl_fst | apply good_foldl_snd
      | fail_if_no_progress apply good_mk | split | dsimp only)

theorem good_publishGroup {s} (hs : Good q s) : Good q (State.publishGroup s) := by
  unfold State.publishGroup
  repeat' (with_reducible first
      | assumption | intro _ | apply good_sendOdWrite | apply good_foldl | apply good_foldl_fst | apply good_foldl_snd
      | fail_if_no_progress apply good_mk | split | dsimp only)

theorem good_publishRound {s a1 a2} (hs : Good q s) : Good q (State.publishRound s a1 a2) := by
  unfold State.publishRound
  repeat' (with_reducible first
      | assumption | intro _ | apply good_outerMod | refine good_bumpBy ?_ (by unfold odKey; omega)
      | apply good_keepManifest | apply good_handOver | apply good_writeBytes | apply good_setKslot | apply good_foldl
      | apply good_foldl_fst | apply good_foldl_snd | fail_if_no_progress apply good_mk | split | dsimp only)

theorem good_regroup {s} (hs : Good q s) : Good q (State.regroup s) := by
  unfold State.regroup
  repeat' (with_reducible first
      | assumption | intro _ | apply good_publishGroup | refine good_odSet ?_ (Or.inl (by unfold odKey; omega))
      | refine good_odSet ?_ (Or.inr (by decide)) | apply good_foldl | apply good_foldl_fst | apply good_foldl_snd
      | fail_if_no_progress apply good_mk | split | dsimp only)

theorem good_relayAbort {s a1 a2} (hs : Good q s) : Good q (State.relayAbort s a1 a2) := by
  unfold State.relayAbort
  repeat' (with_reducible first
      | assumption | apply good_outerMod | apply good_setPlace | fail_if_no_progress apply good_mk | split | dsimp only)

theorem good_relayBytes {s a1 a2 a3 a4} (hs : Good q s) : Good q (State.relayBytes s a1 a2 a3 a4) := by
  unfold State.relayBytes
  repeat' (with_reducible first
      | assumption | apply good_discardIn | apply good_partialPut | apply good_outerMod | apply good_setPlace
      | apply good_writeBytes | fail_if_no_progress apply good_mk | split | dsimp only)

theorem good_relayDone {s a1 a2} (hs : Good q s) : Good q (State.relayDone s a1 a2) := by
  unfold State.relayDone
  repeat' (with_reducible first
      | assumption | apply good_outerMod | apply good_discardIn | apply good_inboxPut | apply good_setPlace
      | fail_if_no_progress apply good_mk | split | dsimp only)

theorem good_sealShardIn {s a1 a2} (hs : Good q s) : Good q (State.sealShardIn s a1 a2) := by
  unfold State.sealShardIn
  repeat' (with_reducible first
      | assumption | apply good_warmInit | apply good_outerMod | apply good_setSeals | fail_if_no_progress apply good_mk
      | split | dsimp only)

theorem good_sealLatch {s a1 a2} (hs : Good q s) : Good q (State.sealLatch s a1 a2) := by
  unfold State.sealLatch
  repeat' (with_reducible first
      | assumption | intro _ | apply good_outerMod | refine good_odSet ?_ (Or.inl (by unfold odKey; omega))
      | refine good_odSet ?_ (Or.inr (by decide)) | apply good_sealShardIn | apply good_foldl | apply good_foldl_fst
      | apply good_foldl_snd | fail_if_no_progress apply good_mk | split | dsimp only)

theorem good_sealRound {s a1} (hs : Good q s) : Good q (State.sealRound s a1) := by
  unfold State.sealRound
  repeat' (with_reducible first
      | assumption | apply good_outerMod | refine good_odSetShown ?_ (Or.inl (by unfold odKey; omega))
      | refine good_odSetShown ?_ (Or.inr (by decide)) | fail_if_no_progress apply good_mk | split | dsimp only)

theorem good_sendAnchor {s a1 a2 a3 a4 a5} (hs : Good q s) : Good q (State.sendAnchor s a1 a2 a3 a4 a5) := by
  unfold State.sendAnchor
  repeat' (with_reducible first
      | assumption | apply good_handOver | fail_if_no_progress apply good_mk | split | dsimp only)

theorem good_sendRound {s a1} (hs : Good q s) : Good q (State.sendRound s a1) := by
  unfold State.sendRound
  repeat' (with_reducible first
      | assumption | intro _ | apply good_handContrib | apply good_outerMod | apply good_foldl | apply good_foldl_fst
      | apply good_foldl_snd | fail_if_no_progress apply good_mk | split | dsimp only)

theorem good_sendView {s} (hs : Good q s) : Good q (State.sendView s) := by
  unfold State.sendView
  repeat' (with_reducible first
      | assumption | apply good_sendAnchor | fail_if_no_progress apply good_mk | split | dsimp only)

theorem good_settleClaim {s} (hs : Good q s) : Good q (State.settleClaim s) := by
  unfold State.settleClaim
  repeat' (with_reducible first
      | assumption | intro _ | apply good_adoptTerm | apply good_outerMod | apply good_sendView | apply good_seekAll
      | apply good_foldl | apply good_foldl_fst | apply good_foldl_snd | fail_if_no_progress apply good_mk | split
      | dsimp only)

theorem good_takeAnchor {s a1 a2} (hs : Good q s) : GoodOpt (fun z => Good q z.2) (State.takeAnchor s a1 a2) := by
  unfold State.takeAnchor
  repeat' (with_reducible first
      | assumption | intro _ | exact goodOpt_none | apply goodOpt_some | apply goodOpt_map | apply good_outerMod
      | fail_if_no_progress apply good_mk | split | dsimp only)

theorem good_takeAnchor_eq {s a1 a2} (hs : Good q s) {y z} (hz : (State.takeAnchor s a1 a2) = some (y, z)) : Good q z :=
  good_takeAnchor hs _ hz

theorem good_takeWindow {s a1} (hs : Good q s) : Good q (State.takeWindow s a1) := by
  unfold State.takeWindow
  repeat' (with_reducible first
      | assumption | apply good_outerMod | fail_if_no_progress apply good_mk | split | dsimp only)

theorem good_takeManifest {s a1} (hs : Good q s) : Good q (State.takeManifest s a1) := by
  unfold State.takeManifest
  repeat' (with_reducible first
      | assumption | apply good_takeWindow | apply good_adoptTerm | apply good_keepManifest
      | fail_if_no_progress apply good_mk | split | dsimp only)

theorem good_exportOne {a0 a1 a2} (ha1 : Good q a1.1) : Good q (exportOne a0 a1 a2).1 := by
  unfold exportOne
  repeat' (with_reducible first
      | assumption | refine good_bump ?_ (by unfold odKey; omega) | apply good_writeBytes | apply good_draw
      | refine good_countNotify ?_ (by unfold odKey; omega) | refine good_odSet ?_ (Or.inl (by unfold odKey; omega))
      | refine good_odSet ?_ (Or.inr (by decide)) | fail_if_no_progress apply good_mk | split | dsimp only)

theorem good_checkpointWrite {s} (hs : Good q s) : Good q (checkpointWrite s) := by
  unfold checkpointWrite
  repeat' (with_reducible first
      | assumption | intro _ | refine good_countNotify ?_ (by unfold odKey; omega)
      | refine good_odSet ?_ (Or.inl (by unfold odKey; omega)) | refine good_odSet ?_ (Or.inr (by decide))
      | apply good_exportOne | apply good_foldl | apply good_foldl_fst | apply good_foldl_snd
      | fail_if_no_progress apply good_mk | split | dsimp only)

theorem good_checkpoint {s} (hs : Good q s) : Good q (checkpoint s) := by
  unfold checkpoint
  repeat' (with_reducible first
      | assumption | apply good_exportsEnd | apply good_applyLog | apply good_eccFault | apply good_checkpointWrite
      | fail_if_no_progress apply good_mk | split | dsimp only)

theorem good_syncIssue {s a1 a2 a3 a4} (hs : Good q s) : Good q (syncIssue s a1 a2 a3 a4) := by
  unfold syncIssue
  repeat' (with_reducible first
      | assumption | intro _ | apply good_issueAs | apply good_syncSend | exact goodRes_fault | apply goodRes_done
      | apply goodRes_jump | apply goodRes_stay | apply goodRes_wait | apply goodRes_ended | apply goodRes_isolated
      | split | dsimp only)

theorem good_execSadd {a0 a1 s} (hs : Good q s) : GoodOut q (execSadd a0 a1 s) := by
  unfold execSadd
  repeat' (with_reducible first
      | assumption | apply goodOut_next | apply good_syncIssue | fail_if_no_progress apply good_mk | split | dsimp only)

theorem good_execSset {a0 a1 s} (hs : Good q s) : GoodOut q (execSset a0 a1 s) := by
  unfold execSset
  repeat' (with_reducible first
      | assumption | apply goodOut_next | apply good_syncIssue | fail_if_no_progress apply good_mk | split | dsimp only)

theorem good_execStgt {a0 a1 s} (hs : Good q s) : GoodOut q (execStgt a0 a1 s) := by
  unfold execStgt
  repeat' (with_reducible first
      | assumption | apply goodOut_next | apply good_syncIssue | fail_if_no_progress apply good_mk | split | dsimp only)

theorem good_execSwge {a0 a1 s} (hs : Good q s) : GoodOut q (execSwge a0 a1 s) := by
  unfold execSwge
  repeat' (with_reducible first
      | assumption | apply goodOut_next | apply good_syncIssue | fail_if_no_progress apply good_mk | split | dsimp only)

theorem good_execSweq {a0 a1 s} (hs : Good q s) : GoodOut q (execSweq a0 a1 s) := by
  unfold execSweq
  repeat' (with_reducible first
      | assumption | apply goodOut_next | apply good_syncIssue | fail_if_no_progress apply good_mk | split | dsimp only)

theorem good_execSarv {a0 a1 s} (hs : Good q s) : GoodOut q (execSarv a0 a1 s) := by
  unfold execSarv
  repeat' (with_reducible first
      | assumption | apply goodOut_next | apply good_syncIssue | fail_if_no_progress apply good_mk | split | dsimp only)

theorem good_execSbr {a0 a1 s} (hs : Good q s) : GoodOut q (execSbr a0 a1 s) := by
  unfold execSbr
  repeat' (with_reducible first
      | assumption | intro _ | apply goodOut_next | apply good_issueAs | apply good_isolate | exact goodRes_fault
      | apply goodRes_done | apply goodRes_jump | apply goodRes_stay | apply goodRes_wait | apply goodRes_ended
      | apply goodRes_isolated | split | dsimp only)

theorem good_isolatedReq {s a1} (hs : Good q s) : Good q (isolatedReq s a1) := by
  unfold isolatedReq
  repeat' (with_reducible first
      | assumption | refine good_bump ?_ (by unfold odKey; omega) | refine good_countNotify ?_ (by unfold odKey; omega)
      | apply good_takeFault | fail_if_no_progress apply good_mk | split | dsimp only)

theorem good_releaseHand {s a1} (hs : Good q s) : Good q (releaseHand s a1) := by
  unfold releaseHand
  repeat' (with_reducible first
      | assumption | apply good_setHand | fail_if_no_progress apply good_mk | split | dsimp only)

theorem good_execSyncApply {a0 a1 s} (hs : Good q s) : GoodOut q (execSyncApply a0 a1 s) := by
  unfold execSyncApply
  repeat' (with_reducible first
      | assumption | intro _ | apply goodOut_next | apply good_isolatedReq | apply good_isolate | apply good_syncMod
      | apply good_releaseHand | apply good_countReplays | apply good_sealLatch | apply good_foldl | apply good_foldl_fst
      | apply good_foldl_snd | fail_if_no_progress apply good_mk | split | dsimp only)

theorem good_execWaitRelease {a0 a1 s} (hs : Good q s) : GoodOut q (execWaitRelease a0 a1 s) := by
  unfold execWaitRelease
  repeat' (with_reducible first
      | assumption | apply goodOut_next | apply good_pinMod | apply good_resumeAt | fail_if_no_progress apply good_mk
      | split | dsimp only)

theorem good_execSealBeat {s} (hs : Good q s) : GoodOut q (execSealBeat s) := by
  unfold execSealBeat
  repeat' (with_reducible first
      | assumption | intro _ | apply goodOut_next | apply good_runBeat | apply good_noiseRollover | apply good_sealRound
      | fail_if_no_progress apply good_mk | split | dsimp only)

theorem good_execSendBeat {s} (hs : Good q s) : GoodOut q (execSendBeat s) := by
  unfold execSendBeat
  repeat' (with_reducible first
      | assumption | intro _ | apply goodOut_next | apply good_runBeat | apply good_sendRound
      | fail_if_no_progress apply good_mk | split | dsimp only)

theorem good_execCloseBeat {s} (hs : Good q s) : GoodOut q (execCloseBeat s) := by
  unfold execCloseBeat
  repeat' (with_reducible first
      | assumption | intro _ | apply goodOut_next | apply good_runBeat | apply good_closeRound
      | fail_if_no_progress apply good_mk | split | dsimp only)

theorem good_execApplyBeat {s} (hs : Good q s) : GoodOut q (execApplyBeat s) := by
  unfold execApplyBeat
  repeat' (with_reducible first
      | assumption | intro _ | apply goodOut_next | exact goodOut_fault | exact goodOut_refused | apply good_runBeat
      | apply good_applyRound | fail_if_no_progress apply good_mk | split | dsimp only)

theorem good_execCheckpointMark {s} (hs : Good q s) : GoodOut q (execCheckpointMark s) := by
  unfold execCheckpointMark
  repeat' (with_reducible first
      | assumption | intro _ | apply goodOut_next | apply good_runBeat | apply good_checkpoint
      | fail_if_no_progress apply good_mk | split | dsimp only)

theorem good_reshardBegin {s a1} (hs : Good q s) : Good q (reshardBegin s a1).1 := by
  unfold reshardBegin
  repeat' (with_reducible first
      | assumption | refine good_odSet ?_ (Or.inl (by unfold odKey; omega)) | refine good_odSet ?_ (Or.inr (by decide))
      | refine good_countNotify ?_ (by unfold odKey; omega) | fail_if_no_progress apply good_mk | split | dsimp only)

theorem good_execReshardBegin {s} (hs : Good q s) : GoodOut q (execReshardBegin s) := by
  unfold execReshardBegin
  repeat' (with_reducible first
      | assumption | intro _ | apply goodOut_next | apply good_runBeat | apply good_reshardBegin
      | fail_if_no_progress apply good_mk | split | dsimp only)

theorem good_relayOut {s a1} (hs : Good q s) : Good q (relayOut s a1) := by
  unfold relayOut
  repeat' (with_reducible first
      | assumption | intro _ | apply good_sendCack | apply good_farMod | apply good_storeChunk | apply good_releaseIn
      | apply good_gatewayHolds | apply good_fillSlots | apply good_foldl | apply good_foldl_fst | apply good_foldl_snd
      | fail_if_no_progress apply good_mk | split | dsimp only)

theorem good_relayIn {s a1} (hs : Good q s) : Good q (relayIn s a1) := by
  unfold relayIn
  repeat' (with_reducible first
      | assumption | apply good_storeChunk | apply good_relayBytes | apply good_relayDone | apply good_collMod
      | apply good_relayAbort | fail_if_no_progress apply good_mk | split | dsimp only)

theorem good_execRelay {a0 s} (hs : Good q s) : GoodOut q (execRelay a0 s) := by
  unfold execRelay
  repeat' (with_reducible first
      | assumption | apply goodOut_next | apply goodOpt_map | apply good_takeRx | refine good_takeRx_eq ?_ ‹_›
      | apply good_relayOut | apply good_relayIn | refine good_bump ?_ (by unfold odKey; omega) | apply good_getD
      | fail_if_no_progress apply good_mk | split | dsimp only)

theorem good_execCheck {a0 s} (hs : Good q s) : GoodOut q (execCheck a0 s) := by
  unfold execCheck
  repeat' (with_reducible first
      | assumption | intro _ | apply goodOut_next | apply good_fuseeCommand | apply good_contribReady
      | apply good_writeBytes | fail_if_no_progress apply good_mk | split | dsimp only)

theorem good_execContribMessage {a0 s} (hs : Good q s) : GoodOut q (execContribMessage a0 s) := by
  unfold execContribMessage
  repeat' (with_reducible first
      | assumption | apply goodOut_next | apply goodOpt_map | apply good_inboxTake | refine good_inboxTake_eq ?_ ‹_›
      | apply good_eccFault | apply good_judge | apply good_publishRound | apply good_getD
      | fail_if_no_progress apply good_mk | split | dsimp only)

theorem good_execManifest {a0 s} (hs : Good q s) : GoodOut q (execManifest a0 s) := by
  unfold execManifest
  repeat' (with_reducible first
      | assumption | apply goodOut_next | apply goodOpt_map | apply good_inboxTake | refine good_inboxTake_eq ?_ ‹_›
      | apply good_takeManifest | apply good_setKslot | apply good_seek | refine good_bump ?_ (by unfold odKey; omega)
      | apply good_getD | fail_if_no_progress apply good_mk | split | dsimp only)

theorem good_sendAnswer {s a1 a2 a3 a4} (hs : Good q s) : Good q (sendAnswer s a1 a2 a3 a4) := by
  unfold sendAnswer
  repeat' (with_reducible first
      | assumption | apply good_handOver | fail_if_no_progress apply good_mk | split | dsimp only)

theorem good_execBaseReq {a0 s} (hs : Good q s) : GoodOut q (execBaseReq a0 s) := by
  unfold execBaseReq
  repeat' (with_reducible first
      | assumption | apply goodOut_next | apply goodOpt_map | apply good_inboxTake | refine good_inboxTake_eq ?_ ‹_›
      | apply good_eccFault | apply good_sendAnswer | apply good_draw | apply good_sendNotice | apply good_getD
      | fail_if_no_progress apply good_mk | split | dsimp only)

theorem good_installGroup {s a1 a2 a3} (hs : Good q s) : Good q (installGroup s a1 a2 a3) := by
  unfold installGroup
  repeat' (with_reducible first
      | assumption | apply good_planWrite | fail_if_no_progress apply good_mk | split | dsimp only)

theorem good_installBase {s a1 a2 a3} (hs : Good q s) : Good q (installBase s a1 a2 a3) := by
  unfold installBase
  repeat' (with_reducible first
      | assumption | intro _ | apply good_applyLog | apply good_rebase | apply good_installGroup | apply good_dropDelta
      | apply good_outerMod | apply good_warmInit | apply good_showBase | apply good_setSeals | apply good_foldl
      | apply good_foldl_fst | apply good_foldl_snd | fail_if_no_progress apply good_mk | split | dsimp only)

theorem good_execBaseData {a0 s} (hs : Good q s) : GoodOut q (execBaseData a0 s) := by
  unfold execBaseData
  repeat' (with_reducible first
      | assumption | apply goodOut_next | apply goodOpt_map | apply good_inboxTake | refine good_inboxTake_eq ?_ ‹_›
      | apply good_nextWanted | apply good_seekAll | apply good_installBase | apply good_sendReq | apply good_keepManifest
      | apply good_takeManifest | refine good_bump ?_ (by unfold odKey; omega) | apply good_getD
      | fail_if_no_progress apply good_mk | split | dsimp only)

theorem good_execRejectNotice {a0 s} (hs : Good q s) : GoodOut q (execRejectNotice a0 s) := by
  unfold execRejectNotice
  repeat' (with_reducible first
      | assumption | apply goodOut_next | apply goodOpt_map | apply good_inboxTake | refine good_inboxTake_eq ?_ ‹_›
      | refine good_bump ?_ (by unfold odKey; omega) | apply good_nextWanted | apply good_fetchBase | apply good_setSeals
      | apply good_dropDelta | apply good_getD | fail_if_no_progress apply good_mk | split | dsimp only)

theorem good_execFetchRetry {a0 s} (hs : Good q s) : GoodOut q (execFetchRetry a0 s) := by
  unfold execFetchRetry
  repeat' (with_reducible first
      | assumption | apply goodOut_next | apply good_sendReq | fail_if_no_progress apply good_mk | split | dsimp only)

theorem good_execRoundDeadline {a0 s} (hs : Good q s) : GoodOut q (execRoundDeadline a0 s) := by
  unfold execRoundDeadline
  repeat' (with_reducible first
      | assumption | intro _ | apply goodOut_next | refine good_bump ?_ (by unfold odKey; omega) | apply good_publishRound
      | apply good_outerMod | apply good_foldl | apply good_foldl_fst | apply good_foldl_snd
      | fail_if_no_progress apply good_mk | split | dsimp only)

theorem good_execViewTimer {s} (hs : Good q s) : GoodOut q (execViewTimer s) := by
  unfold execViewTimer
  repeat' (with_reducible first
      | assumption | apply goodOut_next | apply good_sendView | apply good_regroup | fail_if_no_progress apply good_mk
      | split | dsimp only)

theorem good_execView {a0 s} (hs : Good q s) : GoodOut q (execView a0 s) := by
  unfold execView
  repeat' (with_reducible first
      | assumption | apply goodOut_next | apply goodOpt_map | apply good_takeAnchor | refine good_takeAnchor_eq ?_ ‹_›
      | apply good_outerMod | apply good_regroup | apply good_adoptTerm | apply good_getD
      | fail_if_no_progress apply good_mk | split | dsimp only)

theorem good_execClaim {a0 s} (hs : Good q s) : GoodOut q (execClaim a0 s) := by
  unfold execClaim
  repeat' (with_reducible first
      | assumption | apply goodOut_next | apply goodOpt_map | apply good_takeAnchor | refine good_takeAnchor_eq ?_ ‹_›
      | apply good_sendAnchor | apply good_endorse | apply good_getD | fail_if_no_progress apply good_mk | split
      | dsimp only)

theorem good_execEndorse {a0 s} (hs : Good q s) : GoodOut q (execEndorse a0 s) := by
  unfold execEndorse
  repeat' (with_reducible first
      | assumption | apply goodOut_next | apply goodOpt_map | apply good_takeAnchor | refine good_takeAnchor_eq ?_ ‹_›
      | apply good_settleClaim | apply good_outerMod | apply good_getD | fail_if_no_progress apply good_mk | split
      | dsimp only)

theorem good_execAnchorTimeout {s} (hs : Good q s) : GoodOut q (execAnchorTimeout s) := by
  unfold execAnchorTimeout
  repeat' (with_reducible first
      | assumption | intro _ | apply goodOut_next | apply good_endorse | apply good_outerMod | apply good_settleClaim
      | apply good_sendAnchor | apply good_foldl | apply good_foldl_fst | apply good_foldl_snd
      | fail_if_no_progress apply good_mk | split | dsimp only)

theorem good_execClaimTimeout {s} (hs : Good q s) : GoodOut q (execClaimTimeout s) := by
  unfold execClaimTimeout
  repeat' (with_reducible first
      | assumption | apply goodOut_next | apply good_outerMod | fail_if_no_progress apply good_mk | split | dsimp only)

theorem good_execStopDrain {s} (hs : Good q s) : GoodOut q (execStopDrain s) := by
  unfold execStopDrain
  repeat' (with_reducible first
      | assumption | apply goodOut_next | apply good_enterQuiet | fail_if_no_progress apply good_mk | split | dsimp only)

theorem good_giveLayout {s a1 a2} (hs : Good q s) : Good q (giveLayout s a1 a2) := by
  unfold giveLayout
  repeat' (with_reducible first
      | assumption | intro _ | apply good_blobSet | refine good_odSet ?_ (Or.inl (by unfold odKey; omega))
      | refine good_odSet ?_ (Or.inr (by decide)) | refine good_odSetShown ?_ (Or.inl (by unfold odKey; omega))
      | refine good_odSetShown ?_ (Or.inr (by decide)) | apply good_sendOdWrite | apply good_layoutWritten
      | apply good_foldl | apply good_foldl_fst | apply good_foldl_snd | fail_if_no_progress apply good_mk | split
      | dsimp only)

theorem good_execSiteRestart {a0 a1 s} (hs : Good q s) : GoodOut q (execSiteRestart a0 a1 s) := by
  unfold execSiteRestart
  repeat' (with_reducible first
      | assumption | intro _ | apply goodOut_next | apply good_restartWaits | apply good_giveLayout
      | refine good_countNotify ?_ (by unfold odKey; omega) | apply good_foldl | apply good_foldl_fst
      | apply good_foldl_snd | fail_if_no_progress apply good_mk | split | dsimp only)

end Sys2Proof.Machine
end

