-- ==== Sys2Proof/Laws/GoodReset.lean ====
section
/-! SUPPORT. What keeps the invariant of Laws/Good.lean: firmware, reads of the dictionary, Bezels, dumps, resets, power and VDL. -/

set_option linter.unusedVariables false
set_option linter.unusedTactic false
set_option linter.unreachableTactic false

namespace Sys2Proof.Machine

variable {q : List Instr}

theorem mode_doReset (k : Nat) (d : Nat) (od : FMap Nat) (po : Bool) (hk : odKeptWarm k = false) :
    fget d (if po then [] else od.filter (fun c => odKeptWarm c.1)) k = d := by
  cases po with
  | true => rfl
  | false => exact fget_filter_gone d od k _ (fun _ => hk)

theorem good_doReset {s : State} {cause detail : Nat} {cls : ResetCls} {a : Bool} (hs : Good q s) :
    Good q (s.doReset cause detail cls a) := by
  unfold State.doReset
  have h1 : ∀ t : State, t.pending = s.pending → t.slow = s.slow →
      t.mem = (if (cls == .warm || cls == .thermal) then s.mem.filter (fun c => State.hbmKept s.test.bist c.1) else []) →
      t.od = (if (cls == .powerOn) = true then [] else s.od.filter (fun c => odKeptWarm c.1)) → Good q t := by
    intro t hp hsl hm ho
    refine ⟨hp.trans hs.queue, ?_, by rw [hsl]; exact hs.slow, ?_⟩
    · rw [hm]
      split
      · exact fwf_filter 0 _ _ hs.mem
      · rfl
    · unfold State.modState State.odGet
      rw [ho, mode_doReset _ _ _ _ (by decide)]
      decide
  extract_lets po wt hbm st s1 s2 s3 s4
  have g1 : Good q s1 := h1 s1 rfl rfl rfl rfl
  have g2 : Good q s2 := by
    show Good q (if po = true then s1 else _)
    split
    · exact g1
    · exact good_odSet (good_odSet (good_odSet g1 (Or.inl (by decide))) (Or.inl (by decide))) (Or.inl (by decide))
  have g3 : Good q s3 := by
    show Good q (if cls = .cold then _ else s2)
    split
    · exact good_odSet g2 (Or.inl (by decide))
    · exact g2
  have g4 : Good q s4 := by
    show Good q (if _ then _ else s3)
    split
    · exact good_bump g3 (by decide)
    · exact g3
  split
  · exact good_odSet g4 (Or.inr (by decide))
  · exact g4

theorem good_performReset {s a1 a2 a3 a4} (hs : Good q s) : Good q (State.performReset s a1 a2 a3 a4) := by
  unfold State.performReset
  repeat' (with_reducible first
      | assumption | apply good_doReset | refine good_odSet ?_ (Or.inl (by unfold odKey; omega))
      | refine good_odSet ?_ (Or.inr (by decide)) | fail_if_no_progress apply good_mk | split | dsimp only)

theorem good_assertReset {s a1 a2 a3 a4} (hs : Good q s) : Good q (State.assertReset s a1 a2 a3 a4) := by
  unfold State.assertReset
  repeat' (with_reducible first
      | assumption | apply good_performReset | fail_if_no_progress apply good_mk | split | dsimp only)

theorem good_atStep {s a1} (hs : Good q s) : Good q (State.atStep s a1) := by
  unfold State.atStep
  repeat' (with_reducible first
      | assumption | fail_if_no_progress apply good_mk | split | dsimp only)

theorem good_dumpWrite {s : State} {x : Nat} {l : List Byte} (hs : Good q s) : Good q (s.dumpWrite x l) := by
  induction l generalizing s x with
  | nil => exact hs
  | cons b l ih =>
    rw [State.dumpWrite]
    refine ih ?_
    split
    · exact hs
    · exact good_mem hs (fwf_fput 0 _ _ _ hs.mem)

theorem good_restartDump {s} (hs : Good q s) : Good q (State.restartDump s) := by
  unfold State.restartDump
  repeat' (with_reducible first
      | assumption | apply good_draw | apply good_dumpWrite | fail_if_no_progress apply good_mk | split | dsimp only)

theorem good_beginDump {s} (hs : Good q s) : Good q (State.beginDump s) := by
  unfold State.beginDump
  repeat' (with_reducible first
      | assumption | apply good_restartDump | refine good_setModState ?_ (by decide) | fail_if_no_progress apply good_mk
      | split | dsimp only)

theorem good_beginRelease {s} (hs : Good q s) : Good q (State.beginRelease s) := by
  unfold State.beginRelease
  repeat' (with_reducible first
      | assumption | apply good_atStep | refine good_odSetShown ?_ (Or.inl (by unfold odKey; omega))
      | refine good_odSetShown ?_ (Or.inr (by decide)) | fail_if_no_progress apply good_mk | split | dsimp only)

theorem good_fenceTrain {s a1 a2} (hs : Good q s) : Good q (State.fenceTrain s a1 a2) := by
  unfold State.fenceTrain
  repeat' (with_reducible first
      | assumption | intro _ | apply good_fenceUnit | apply good_foldl | apply good_foldl_fst | apply good_foldl_snd
      | fail_if_no_progress apply good_mk | split | dsimp only)

theorem good_retirePinion {s a1} (hs : Good q s) : Good q (State.retirePinion s a1) := by
  unfold State.retirePinion
  repeat' (with_reducible first
      | assumption | apply good_escT1 | apply good_resetTrain | apply good_unitMod | apply good_mapSet
      | apply good_addChange | apply good_enterFaulted | apply good_t1Mod | fail_if_no_progress apply good_mk | split
      | dsimp only)

theorem good_mapTrain {s a1 a2 a3} (hs : Good q s) : Good q (State.mapTrain s a1 a2 a3) := by
  unfold State.mapTrain
  repeat' (with_reducible first
      | assumption | intro _ | apply good_mapSet | apply good_foldl | apply good_foldl_fst | apply good_foldl_snd
      | fail_if_no_progress apply good_mk | split | dsimp only)

theorem good_readmitUnit {s a1 a2} (hs : Good q s) : Good q (State.readmitUnit s a1 a2) := by
  unfold State.readmitUnit
  repeat' (with_reducible first
      | assumption | apply good_resetTrain | apply good_addChange | fail_if_no_progress apply good_mk | split | dsimp only)

theorem good_fencePort {s a1 a2} (hs : Good q s) : Good q (State.fencePort s a1 a2) := by
  unfold State.fencePort
  repeat' (with_reducible first
      | assumption | apply good_publish | apply good_portSvcSet | apply good_stopIfLost | apply good_reroute
      | apply good_leavePort | fail_if_no_progress apply good_mk | split | dsimp only)

theorem good_bezelDo {s a1 a2} (hs : Good q s) : Good q (State.bezelDo s a1 a2) := by
  unfold State.bezelDo
  repeat' (with_reducible first
      | assumption | apply good_fenceTrain | apply good_retirePinion | apply good_mapTrain | apply good_readmitUnit
      | apply good_t1Mod | apply good_fencePort | apply good_settleChanges | apply good_addChange | apply good_mapPort
      | fail_if_no_progress apply good_mk | split | dsimp only)

theorem good_drawBytes {s a1} (hs : Good q s) : Good q (State.drawBytes s a1).2 := by
  unfold State.drawBytes
  repeat' (with_reducible first
      | assumption | apply good_draw | fail_if_no_progress apply good_mk | split | dsimp only)

theorem good_prbsSample {s} (hs : Good q s) : Good q (State.prbsSample s) := by
  unfold State.prbsSample
  repeat' (with_reducible first
      | assumption | apply good_drawBytes | apply good_blobSet | fail_if_no_progress apply good_mk | split | dsimp only)

theorem good_odRead {s a1 a2 a3 a4 a5} (hs : Good q s) : Good q (State.odRead s a1 a2 a3 a4 a5).1 := by
  unfold State.odRead
  repeat' (with_reducible first
      | assumption | apply good_drawBytes | apply good_prbsSample | fail_if_no_progress apply good_mk | split | dsimp only)

theorem good_ctlWrite {s a1} (hs : Good q s) : Good q (State.ctlWrite s a1) := by
  unfold State.ctlWrite
  repeat' (with_reducible first
      | assumption | fail_if_no_progress apply good_mk | split | dsimp only)

theorem good_slotWrite {s a1 a2} (hs : Good q s) : Good q (State.slotWrite s a1 a2) := by
  unfold State.slotWrite
  repeat' (with_reducible first
      | assumption | fail_if_no_progress apply good_mk | split | dsimp only)

theorem good_fwStore {s a1} (hs : Good q s) : Good q (State.fwStore s a1) := by
  unfold State.fwStore
  repeat' (with_reducible first
      | assumption | apply good_ctlWrite | apply good_slotWrite | fail_if_no_progress apply good_mk | split | dsimp only)

theorem good_fwActivate {s a1} (hs : Good q s) : Good q (State.fwActivate s a1) := by
  unfold State.fwActivate
  repeat' (with_reducible first
      | assumption | apply good_ctlWrite | fail_if_no_progress apply good_mk | split | dsimp only)

theorem good_fwCommit {s} (hs : Good q s) : Good q (State.fwCommit s) := by
  unfold State.fwCommit
  repeat' (with_reducible first
      | assumption | intro _ | apply good_ctlWrite | apply good_foldl | apply good_foldl_fst | apply good_foldl_snd
      | fail_if_no_progress apply good_mk | split | dsimp only)

theorem good_setThrottle {s} (hs : Good q s) : Good q (State.setThrottle s) := by
  unfold State.setThrottle
  repeat' (with_reducible first
      | assumption | refine good_odSet ?_ (Or.inl (by unfold odKey; omega)) | refine good_odSet ?_ (Or.inr (by decide))
      | fail_if_no_progress apply good_mk | split | dsimp only)

theorem good_bootClock {s} (hs : Good q s) : Good q (State.bootClock s) := by
  unfold State.bootClock
  repeat' (with_reducible first
      | assumption | refine good_odSet ?_ (Or.inl (by unfold odKey; omega)) | refine good_odSet ?_ (Or.inr (by decide))
      | refine good_countNotify ?_ (by unfold odKey; omega) | fail_if_no_progress apply good_mk | split | dsimp only)

theorem good_bootUnits {s} (hs : Good q s) : Good q (State.bootUnits s) := by
  unfold State.bootUnits
  repeat' (with_reducible first
      | assumption | intro _ | apply good_portSvcSet | apply good_foldl | apply good_foldl_fst | apply good_foldl_snd
      | fail_if_no_progress apply good_mk | split | dsimp only)

theorem good_release {s a1} (hs : Good q s) : Good q (State.release s a1) := by
  unfold State.release
  repeat' (with_reducible first
      | assumption | fail_if_no_progress apply good_mk | split | dsimp only)

theorem good_fwConfirm {s} (hs : Good q s) : Good q (State.fwConfirm s) := by
  unfold State.fwConfirm
  repeat' (with_reducible first
      | assumption | apply good_ctlWrite | fail_if_no_progress apply good_mk | split | dsimp only)

theorem good_bootEnd {s} (hs : Good q s) : Good q (State.bootEnd s) := by
  unfold State.bootEnd
  repeat' (with_reducible first
      | assumption | intro _ | apply good_farFromLayout | apply good_bootUnits
      | refine good_odSetShown ?_ (Or.inl (by unfold odKey; omega)) | refine good_odSetShown ?_ (Or.inr (by decide))
      | apply good_atStep | apply good_release | apply good_notify | refine good_setModState ?_ (by decide)
      | apply good_fwConfirm | apply good_foldl | apply good_foldl_fst | apply good_foldl_snd
      | fail_if_no_progress apply good_mk | split | dsimp only)

theorem good_bootLate {s} (hs : Good q s) : Good q (State.bootLate s) := by
  unfold State.bootLate
  repeat' (with_reducible first
      | assumption | apply good_enterFaulted | apply good_atStep | apply good_doReset | fail_if_no_progress apply good_mk
      | split | dsimp only)

theorem good_romRun {s a1 a2} (hs : Good q s) : Good q (State.romRun s a1 a2) := by
  unfold State.romRun
  repeat' (with_reducible first
      | assumption | fail_if_no_progress apply good_mk | split | dsimp only)

theorem good_romOther {s a1 a2} (hs : Good q s) : Good q (State.romOther s a1 a2).1 := by
  unfold State.romOther
  repeat' (with_reducible first
      | assumption | apply good_romRun | fail_if_no_progress apply good_mk | split | dsimp only)

theorem good_romChoose {s} (hs : Good q s) : Good q (State.romChoose s).1 := by
  unfold State.romChoose
  repeat' (with_reducible first
      | assumption | apply good_ctlWrite | apply good_romRun | apply good_romOther | fail_if_no_progress apply good_mk
      | split | dsimp only)

theorem good_bootRom {s} (hs : Good q s) : Good q (State.bootRom s) := by
  unfold State.bootRom
  repeat' (with_reducible first
      | assumption | apply good_romChoose | refine good_odSet ?_ (Or.inl (by unfold odKey; omega))
      | refine good_odSet ?_ (Or.inr (by decide)) | apply good_atStep | apply good_release
      | fail_if_no_progress apply good_mk | split | dsimp only)

theorem good_bootStep {s} (hs : Good q s) : Good q (State.bootStep s) := by
  unfold State.bootStep
  repeat' (with_reducible first
      | assumption | apply good_bootRom | apply good_atStep | apply good_bootClock | apply good_bootEnd
      | fail_if_no_progress apply good_mk | split | dsimp only)

theorem good_crownReturn {s} (hs : Good q s) : Good q (State.crownReturn s) := by
  unfold State.crownReturn
  repeat' (with_reducible first
      | assumption | refine good_bumpBy ?_ (by unfold odKey; omega) | apply good_beginDump | apply good_restartDump
      | fail_if_no_progress apply good_mk | split | dsimp only)

theorem good_dueResets {s} (hs : Good q s) : Good q (State.dueResets s) := by
  unfold State.dueResets
  repeat' (with_reducible first
      | assumption | intro _ | apply good_assertReset | apply good_foldl | apply good_foldl_fst | apply good_foldl_snd
      | fail_if_no_progress apply good_mk | split | dsimp only)

theorem good_dumpDone {s} (hs : Good q s) : Good q (State.dumpDone s) := by
  unfold State.dumpDone
  repeat' (with_reducible first
      | assumption | refine good_setModState ?_ (by decide) | apply good_doReset | fail_if_no_progress apply good_mk
      | split | dsimp only)

theorem good_holdReset {s} (hs : Good q s) : Good q (State.holdReset s) := by
  unfold State.holdReset
  repeat' (with_reducible first
      | assumption | refine good_odSet ?_ (Or.inl (by unfold odKey; omega)) | refine good_odSet ?_ (Or.inr (by decide))
      | fail_if_no_progress apply good_mk | split | dsimp only)

theorem good_mailWritten {s} (hs : Good q s) : Good q (State.mailWritten s) := by
  unfold State.mailWritten
  repeat' (with_reducible first
      | assumption | apply good_romTake | apply good_notifyFlush | apply good_ringDrain
      | fail_if_no_progress apply good_mk | split | dsimp only)

theorem good_platMod {s a1} (hs : Good q s) : Good q (State.platMod s a1) := by
  unfold State.platMod
  repeat' (with_reducible first
      | assumption | fail_if_no_progress apply good_mk | split | dsimp only)

theorem good_powerSample {s a1 a2 a3} (hs : Good q s) : Good q (State.powerSample s a1 a2 a3) := by
  unfold State.powerSample
  repeat' (with_reducible first
      | assumption | refine good_odSet ?_ (Or.inl (by unfold odKey; omega)) | refine good_odSet ?_ (Or.inr (by decide))
      | apply good_platMod | refine good_bump ?_ (by unfold odKey; omega) | apply good_setThrottle | apply good_notify
      | fail_if_no_progress apply good_mk | split | dsimp only)

theorem good_thermalSample {s a1 a2} (hs : Good q s) : Good q (State.thermalSample s a1 a2) := by
  unfold State.thermalSample
  repeat' (with_reducible first
      | assumption | apply good_platMod | refine good_odSet ?_ (Or.inl (by unfold odKey; omega))
      | refine good_odSet ?_ (Or.inr (by decide)) | apply good_setThrottle
      | refine good_countNotify ?_ (by unfold odKey; omega) | fail_if_no_progress apply good_mk | split | dsimp only)

theorem good_vdlReadError {s} (hs : Good q s) : Good q (State.vdlReadError s) := by
  unfold State.vdlReadError
  repeat' (with_reducible first
      | assumption | apply good_emit | refine good_bump ?_ (by unfold odKey; omega) | fail_if_no_progress apply good_mk
      | split | dsimp only)

theorem good_vdlRead {s a1 a2} (hs : Good q s) : Good q (State.vdlRead s a1 a2) := by
  unfold State.vdlRead
  repeat' (with_reducible first
      | assumption | apply good_emit | apply good_vdlReadError | apply good_eccFault | fail_if_no_progress apply good_mk
      | split | dsimp only)

theorem good_vdlWriteError {s} (hs : Good q s) : Good q (State.vdlWriteError s) := by
  unfold State.vdlWriteError
  repeat' (with_reducible first
      | assumption | apply good_emit | refine good_bump ?_ (by unfold odKey; omega) | fail_if_no_progress apply good_mk
      | split | dsimp only)

theorem good_vdlWrite {s a1 a2} (hs : Good q s) : Good q (State.vdlWrite s a1 a2) := by
  unfold State.vdlWrite
  repeat' (with_reducible first
      | assumption | apply good_dueResets | apply good_emit | apply good_mailWritten | apply good_mbWrite
      | apply good_writeBytes | apply good_vdlWriteError | fail_if_no_progress apply good_mk | split | dsimp only)

theorem good_writeDump {s a1} (hs : Good q s) : Good q (State.writeDump s a1) := by
  unfold State.writeDump
  repeat' (with_reducible first
      | assumption | apply good_dumpWrite | refine good_odSet ?_ (Or.inl (by unfold odKey; omega))
      | refine good_odSet ?_ (Or.inr (by decide)) | fail_if_no_progress apply good_mk | split | dsimp only)

theorem good_execTransferSettle {s} (hs : Good q s) : GoodOut q (execTransferSettle s) := by
  unfold execTransferSettle
  repeat' (with_reducible first
      | assumption | intro _ | apply goodOut_next | apply good_beginDump | apply good_foldl | apply good_foldl_fst
      | apply good_foldl_snd | fail_if_no_progress apply good_mk | split | dsimp only)

theorem good_execDumpComplete {s} (hs : Good q s) : GoodOut q (execDumpComplete s) := by
  unfold execDumpComplete
  repeat' (with_reducible first
      | assumption | apply goodOut_next | apply good_dumpDone | apply good_writeDump | fail_if_no_progress apply good_mk
      | split | dsimp only)

theorem good_execDumpLimit {s} (hs : Good q s) : GoodOut q (execDumpLimit s) := by
  unfold execDumpLimit
  repeat' (with_reducible first
      | assumption | apply goodOut_next | apply good_draw | apply good_dumpDone | apply good_writeDump
      | fail_if_no_progress apply good_mk | split | dsimp only)

theorem good_execVdlTimeout {a0 s} (hs : Good q s) : GoodOut q (execVdlTimeout a0 s) := by
  unfold execVdlTimeout
  repeat' (with_reducible first
      | assumption | apply goodOut_next | refine good_odSet ?_ (Or.inl (by unfold odKey; omega))
      | refine good_odSet ?_ (Or.inr (by decide)) | refine good_bump ?_ (by unfold odKey; omega)
      | fail_if_no_progress apply good_mk | split | dsimp only)

theorem good_execCrownHeartbeat {s} (hs : Good q s) : GoodOut q (execCrownHeartbeat s) := by
  unfold execCrownHeartbeat
  repeat' (with_reducible first
      | assumption | apply goodOut_next | refine good_bump ?_ (by unfold odKey; omega) | fail_if_no_progress apply good_mk
      | split | dsimp only)

theorem good_execCrownReturn {s} (hs : Good q s) : GoodOut q (execCrownReturn s) := by
  unfold execCrownReturn
  repeat' (with_reducible first
      | assumption | apply goodOut_next | apply good_crownReturn | fail_if_no_progress apply good_mk | split | dsimp only)

theorem good_execRef10mLoss {s} (hs : Good q s) : GoodOut q (execRef10mLoss s) := by
  unfold execRef10mLoss
  repeat' (with_reducible first
      | assumption | apply goodOut_next | apply good_platMod | refine good_countNotify ?_ (by unfold odKey; omega)
      | refine good_odSet ?_ (Or.inl (by unfold odKey; omega)) | refine good_odSet ?_ (Or.inr (by decide))
      | fail_if_no_progress apply good_mk | split | dsimp only)

theorem good_execRef10mReturn {s} (hs : Good q s) : GoodOut q (execRef10mReturn s) := by
  unfold execRef10mReturn
  repeat' (with_reducible first
      | assumption | apply goodOut_next | apply good_platMod | refine good_odSet ?_ (Or.inl (by unfold odKey; omega))
      | refine good_odSet ?_ (Or.inr (by decide)) | fail_if_no_progress apply good_mk | split | dsimp only)

theorem good_execPowerSample {a0 a1 a2 s} (hs : Good q s) : GoodOut q (execPowerSample a0 a1 a2 s) := by
  unfold execPowerSample
  repeat' (with_reducible first
      | assumption | apply goodOut_next | apply good_powerSample | fail_if_no_progress apply good_mk | split | dsimp only)

theorem good_execSagWarning {s} (hs : Good q s) : GoodOut q (execSagWarning s) := by
  unfold execSagWarning
  repeat' (with_reducible first
      | assumption | apply goodOut_next | apply good_setThrottle | refine good_countNotify ?_ (by unfold odKey; omega)
      | refine good_odSet ?_ (Or.inl (by unfold odKey; omega)) | refine good_odSet ?_ (Or.inr (by decide))
      | apply good_emit | fail_if_no_progress apply good_mk | split | dsimp only)

theorem good_execSagClear {s} (hs : Good q s) : GoodOut q (execSagClear s) := by
  unfold execSagClear
  repeat' (with_reducible first
      | assumption | apply goodOut_next | apply good_setThrottle | refine good_odSet ?_ (Or.inl (by unfold odKey; omega))
      | refine good_odSet ?_ (Or.inr (by decide)) | fail_if_no_progress apply good_mk | split | dsimp only)

theorem good_execSagReset {s} (hs : Good q s) : GoodOut q (execSagReset s) := by
  unfold execSagReset
  repeat' (with_reducible first
      | assumption | apply goodOut_next | apply good_assertReset | fail_if_no_progress apply good_mk | split | dsimp only)

theorem good_execPowerOn {s} (hs : Good q s) : GoodOut q (execPowerOn s) := by
  unfold execPowerOn
  repeat' (with_reducible first
      | assumption | apply goodOut_next | apply good_beginRelease | fail_if_no_progress apply good_mk | split | dsimp only)

theorem good_execRailWarning {a0 a1 s} (hs : Good q s) : GoodOut q (execRailWarning a0 a1 s) := by
  unfold execRailWarning
  repeat' (with_reducible first
      | assumption | apply goodOut_next | refine good_odSet ?_ (Or.inl (by unfold odKey; omega))
      | refine good_odSet ?_ (Or.inr (by decide)) | apply good_setThrottle
      | refine good_countNotify ?_ (by unfold odKey; omega) | apply good_platMod | fail_if_no_progress apply good_mk
      | split | dsimp only)

theorem good_execRailReset {a0 a1 s} (hs : Good q s) : GoodOut q (execRailReset a0 a1 s) := by
  unfold execRailReset
  repeat' (with_reducible first
      | assumption | apply goodOut_next | apply good_assertReset | fail_if_no_progress apply good_mk | split | dsimp only)

theorem good_execThermalSample {a0 a1 s} (hs : Good q s) : GoodOut q (execThermalSample a0 a1 s) := by
  unfold execThermalSample
  repeat' (with_reducible first
      | assumption | apply goodOut_next | apply good_thermalSample | apply good_platMod
      | fail_if_no_progress apply good_mk | split | dsimp only)

theorem good_execThermalTrip {a0 s} (hs : Good q s) : GoodOut q (execThermalTrip a0 s) := by
  unfold execThermalTrip
  repeat' (with_reducible first
      | assumption | apply goodOut_next | apply good_assertReset | fail_if_no_progress apply good_mk | split | dsimp only)

theorem good_execResetPin {s} (hs : Good q s) : GoodOut q (execResetPin s) := by
  unfold execResetPin
  repeat' (with_reducible first
      | assumption | apply goodOut_next | apply good_holdReset | apply good_assertReset
      | fail_if_no_progress apply good_mk | split | dsimp only)

theorem good_execResetPinHeld {s} (hs : Good q s) : GoodOut q (execResetPinHeld s) := by
  unfold execResetPinHeld
  repeat' (with_reducible first
      | assumption | apply goodOut_next | apply good_performReset | fail_if_no_progress apply good_mk | split | dsimp only)

theorem good_execResetPinRelease {s} (hs : Good q s) : GoodOut q (execResetPinRelease s) := by
  unfold execResetPinRelease
  repeat' (with_reducible first
      | assumption | apply goodOut_next | apply good_beginRelease | fail_if_no_progress apply good_mk | split | dsimp only)

theorem good_execVdlLinkReset {s} (hs : Good q s) : GoodOut q (execVdlLinkReset s) := by
  unfold execVdlLinkReset
  repeat' (with_reducible first
      | assumption | apply goodOut_next | apply good_assertReset | fail_if_no_progress apply good_mk | split | dsimp only)

theorem good_execBootStepComplete {s} (hs : Good q s) : GoodOut q (execBootStepComplete s) := by
  unfold execBootStepComplete
  repeat' (with_reducible first
      | assumption | apply goodOut_next | apply good_bootStep | fail_if_no_progress apply good_mk | split | dsimp only)

theorem good_execBootStepTimeout {s} (hs : Good q s) : GoodOut q (execBootStepTimeout s) := by
  unfold execBootStepTimeout
  repeat' (with_reducible first
      | assumption | apply goodOut_next | apply good_bootLate | fail_if_no_progress apply good_mk | split | dsimp only)

theorem good_execRecoveryImage {s} (hs : Good q s) : GoodOut q (execRecoveryImage s) := by
  unfold execRecoveryImage
  repeat' (with_reducible first
      | assumption | apply goodOut_next | apply good_romTake | apply good_doReset | apply good_ctlWrite
      | apply good_slotWrite | fail_if_no_progress apply good_mk | split | dsimp only)

theorem good_execConfigRead {a0 a1 s} (hs : Good q s) : GoodOut q (execConfigRead a0 a1 s) := by
  unfold execConfigRead
  repeat' (with_reducible first
      | assumption | apply goodOut_next | apply good_vdlRead | fail_if_no_progress apply good_mk | split | dsimp only)

theorem good_execConfigWrite {a0 a1 s} (hs : Good q s) : GoodOut q (execConfigWrite a0 a1 s) := by
  unfold execConfigWrite
  repeat' (with_reducible first
      | assumption | apply goodOut_next | apply good_vdlWrite | fail_if_no_progress apply good_mk | split | dsimp only)

theorem good_execApertureRead {a0 a1 s} (hs : Good q s) : GoodOut q (execApertureRead a0 a1 s) := by
  unfold execApertureRead
  repeat' (with_reducible first
      | assumption | apply goodOut_next | apply good_vdlRead | fail_if_no_progress apply good_mk | split | dsimp only)

theorem good_execApertureWrite {a0 a1 s} (hs : Good q s) : GoodOut q (execApertureWrite a0 a1 s) := by
  unfold execApertureWrite
  repeat' (with_reducible first
      | assumption | apply goodOut_next | apply good_vdlWrite | fail_if_no_progress apply good_mk | split | dsimp only)

theorem good_execTrainResetComplete {a0 a1 s} (hs : Good q s) : GoodOut q (execTrainResetComplete a0 a1 s) := by
  unfold execTrainResetComplete
  repeat' (with_reducible first
      | assumption | apply goodOut_next | apply good_unitMod | apply good_dieResolve | apply good_readyChanges
      | fail_if_no_progress apply good_mk | split | dsimp only)

theorem good_execReadmitScrubDone {a0 a1 a2 s} (hs : Good q s) : GoodOut q (execReadmitScrubDone a0 a1 a2 s) := by
  unfold execReadmitScrubDone
  repeat' (with_reducible first
      | assumption | apply goodOut_next | apply good_t1Mod | refine good_bump ?_ (by unfold odKey; omega)
      | apply good_settleChanges | apply good_addChange | fail_if_no_progress apply good_mk | split | dsimp only)

theorem good_execResetDomainLoss {s} (hs : Good q s) : GoodOut q (execResetDomainLoss s) := by
  unfold execResetDomainLoss
  repeat' (with_reducible first
      | assumption | apply goodOut_next | apply good_doReset | fail_if_no_progress apply good_mk | split | dsimp only)

theorem good_execRailWarningClear {a0 a1 s} (hs : Good q s) : GoodOut q (execRailWarningClear a0 a1 s) := by
  unfold execRailWarningClear
  repeat' (with_reducible first
      | assumption | apply goodOut_next | apply good_platMod | apply good_setThrottle
      | refine good_odSet ?_ (Or.inl (by unfold odKey; omega)) | refine good_odSet ?_ (Or.inr (by decide))
      | fail_if_no_progress apply good_mk | split | dsimp only)

theorem good_execVdlLinkUp {s} (hs : Good q s) : GoodOut q (execVdlLinkUp s) := by
  unfold execVdlLinkUp
  repeat' (with_reducible first
      | assumption | apply goodOut_next | refine good_odSet ?_ (Or.inl (by unfold odKey; omega))
      | refine good_odSet ?_ (Or.inr (by decide)) | fail_if_no_progress apply good_mk | split | dsimp only)

end Sys2Proof.Machine
end

