-- ==== Sys2Proof/Laws/GoodCrown.lean ====
section
/-! SUPPORT. What keeps the invariant of Laws/Good.lean: writes of the dictionary, commands, the Crown Object Protocol, test access and the tick. -/

set_option linter.unusedVariables false
set_option linter.unusedTactic false
set_option linter.unreachableTactic false

namespace Sys2Proof.Machine

variable {q : List Instr}

theorem good_st {a0} (ha0 : Good q a0.st) : Good q (Reply.st a0) := by
  unfold Reply.st
  repeat' (with_reducible first
      | assumption | fail_if_no_progress apply good_mk | split | dsimp only)

theorem good_ackDo {s a1 a2} (hs : Good q s) : Good q (State.ackDo s a1 a2) := by
  unfold State.ackDo
  repeat' (with_reducible first
      | assumption | apply good_notifyFlush | apply good_sesMod | fail_if_no_progress apply good_mk | split | dsimp only)

theorem good_answer {s a1 a2 a3 a4} (hs : Good q s) : Good q (State.answer s a1 a2 a3 a4) := by
  unfold State.answer
  repeat' (with_reducible first
      | assumption | apply good_copSend | fail_if_no_progress apply good_mk | split | dsimp only)

theorem good_restartColl {s} (hs : Good q s) : Good q (State.restartColl s) := by
  unfold State.restartColl
  repeat' (with_reducible first
      | assumption | intro _ | apply good_collMod | apply good_foldl | apply good_foldl_fst | apply good_foldl_snd
      | fail_if_no_progress apply good_mk | split | dsimp only)

theorem good_zeroObj {s a1} (hs : Good q s) : Good q (State.zeroObj s a1) := by
  unfold State.zeroObj
  repeat' (with_reducible first
      | assumption | apply good_syncMod | fail_if_no_progress apply good_mk | split | dsimp only)

theorem good_resetQueues {s} (hs : Good q s) : Good q (State.resetQueues s) := by
  unfold State.resetQueues
  repeat' (with_reducible first
      | assumption | intro _ | apply good_zeroObj | apply good_foldl | apply good_foldl_fst | apply good_foldl_snd
      | fail_if_no_progress apply good_mk | split | dsimp only)

theorem good_armDo {s} (hs : Good q s) : Good q (State.armDo s) := by
  unfold State.armDo
  repeat' (with_reducible first
      | assumption | apply good_farFromLayout | apply good_restartColl | apply good_resetQueues | apply good_restore
      | refine good_setModState ?_ (by decide) | fail_if_no_progress apply good_mk | split | dsimp only)

theorem good_odAttempt {s a1 a2 a3 a4} (hs : Good q s) : Good q (State.odAttempt s a1 a2 a3 a4) := by
  unfold State.odAttempt
  repeat' (with_reducible first
      | assumption | refine good_bump ?_ (by unfold odKey; omega) | fail_if_no_progress apply good_mk | split | dsimp only)

theorem good_attemptItems {s a1 a2} (hs : Good q s) : Good q (State.attemptItems s a1 a2) := by
  unfold State.attemptItems
  repeat' (with_reducible first
      | assumption | intro _ | apply good_odAttempt | apply good_foldl | apply good_foldl_fst | apply good_foldl_snd
      | fail_if_no_progress apply good_mk | split | dsimp only)

theorem good_bindingWritten {s a1 a2} (hs : Good q s) : Good q (State.bindingWritten s a1 a2) := by
  unfold State.bindingWritten
  repeat' (with_reducible first
      | assumption | apply good_fpeerMod | apply good_movePeer | fail_if_no_progress apply good_mk | split | dsimp only)

theorem good_openRefusal {s} (hs : Good q s) : Good q (State.openRefusal s).st := by
  unfold State.openRefusal
  repeat' (with_reducible first
      | assumption | apply good_draw | fail_if_no_progress apply good_mk | split | dsimp only)

theorem good_plainReply {s a1} (hs : Good q s) : Good q (State.plainReply s a1).st := by
  unfold State.plainReply
  repeat' (with_reducible first
      | assumption | fail_if_no_progress apply good_mk | split | dsimp only)

theorem good_blobBeginReq {s a1 a2} (hs : Good q s) : Good q (State.blobBeginReq s a1 a2).st := by
  unfold State.blobBeginReq
  repeat' (with_reducible first
      | assumption | apply good_sesMod | apply good_openRefusal | apply good_plainReply | apply good_odRead
      | fail_if_no_progress apply good_mk | split | dsimp only)

theorem good_odCheck {s a1 a2 a3 a4 a5 a6} (hs : Good q s) : Good q (State.odCheck s a1 a2 a3 a4 a5 a6).1 := by
  unfold State.odCheck
  repeat' (with_reducible first
      | assumption | apply good_draw | fail_if_no_progress apply good_mk | split | dsimp only)

theorem good_checkItems {s a1 a2 a3 a4} (hs : Good q s) : Good q (State.checkItems s a1 a2 a3 a4).1 := by
  unfold State.checkItems
  repeat' (with_reducible first
      | assumption | intro _ | apply good_odCheck | apply good_foldl | apply good_foldl_fst | apply good_foldl_snd
      | fail_if_no_progress apply good_mk | split | dsimp only)

theorem good_rosterWritten {s a1} (hs : Good q s) : Good q (State.rosterWritten s a1) := by
  unfold State.rosterWritten
  repeat' (with_reducible first
      | assumption | apply good_roleFromLayout | apply good_blobSet
      | refine good_odSet ?_ (Or.inl (by unfold odKey; omega)) | refine good_odSet ?_ (Or.inr (by decide))
      | fail_if_no_progress apply good_mk | split | dsimp only)

theorem good_dropJobKey {s} (hs : Good q s) : Good q (State.dropJobKey s) := by
  unfold State.dropJobKey
  repeat' (with_reducible first
      | assumption | apply good_dropSessions | refine good_odSet ?_ (Or.inl (by unfold odKey; omega))
      | refine good_odSet ?_ (Or.inr (by decide)) | apply good_blobSet | fail_if_no_progress apply good_mk | split
      | dsimp only)

theorem good_unlock {s a1} (hs : Good q s) : Good q (State.unlock s a1) := by
  unfold State.unlock
  repeat' (with_reducible first
      | assumption | apply good_dropJobKey | refine good_odSet ?_ (Or.inl (by unfold odKey; omega))
      | refine good_odSet ?_ (Or.inr (by decide)) | fail_if_no_progress apply good_mk | split | dsimp only)

theorem good_textWrite {s a1 a2 a3} (hs : Good q s) : Good q (State.textWrite s a1 a2 a3) := by
  unfold State.textWrite
  repeat' (with_reducible first
      | assumption | refine good_odSet ?_ (Or.inl (by unfold odKey; omega)) | refine good_odSet ?_ (Or.inr (by decide))
      | apply good_blobSet | apply good_layoutWritten | apply good_writeTable | apply good_writeBeat
      | apply good_rosterWritten | apply good_forgetHops | apply good_outerMod | apply good_notify | apply good_fwStore
      | apply good_unlock | fail_if_no_progress apply good_mk | split | dsimp only)

theorem good_ftWritten {s a1} (hs : Good q s) : Good q (State.ftWritten s a1) := by
  unfold State.ftWritten
  repeat' (with_reducible first
      | assumption | refine good_odSet ?_ (Or.inl (by unfold odKey; omega)) | refine good_odSet ?_ (Or.inr (by decide))
      | apply good_setFt | fail_if_no_progress apply good_mk | split | dsimp only)

theorem good_cutFreq {s} (hs : Good q s) : Good q (State.cutFreq s) := by
  unfold State.cutFreq
  repeat' (with_reducible first
      | assumption | refine good_odSet ?_ (Or.inl (by unfold odKey; omega)) | refine good_odSet ?_ (Or.inr (by decide))
      | fail_if_no_progress apply good_mk | split | dsimp only)

theorem good_lockDebug {s} (hs : Good q s) : Good q (State.lockDebug s) := by
  unfold State.lockDebug
  repeat' (with_reducible first
      | assumption | refine good_odSet ?_ (Or.inl (by unfold odKey; omega)) | refine good_odSet ?_ (Or.inr (by decide))
      | fail_if_no_progress apply good_mk | split | dsimp only)

theorem good_closeMailbox {s} (hs : Good q s) : Good q (State.closeMailbox s) := by
  unfold State.closeMailbox
  repeat' (with_reducible first
      | assumption | fail_if_no_progress apply good_mk | split | dsimp only)

theorem good_prbsWritten {s a1} (hs : Good q s) : Good q (State.prbsWritten s a1) := by
  unfold State.prbsWritten
  repeat' (with_reducible first
      | assumption | refine good_odSet ?_ (Or.inl (by unfold odKey; omega)) | refine good_odSet ?_ (Or.inr (by decide))
      | apply good_closeMailbox | apply good_prbsSample | refine good_bump ?_ (by unfold odKey; omega)
      | fail_if_no_progress apply good_mk | split | dsimp only)

theorem good_startBist {s : State} {sel : Nat} (hs : Good q s) : Good q (s.startBist sel) := by
  unfold State.startBist
  refine good_odSet (good_odSet ?_ (Or.inl (by decide))) (Or.inl (by decide))
  exact ⟨hs.queue, fwf_filter 0 _ _ hs.mem, hs.slow, hs.mode⟩

theorem good_numWrite {s : State} {i j v : Nat} (hs : Good q s) (h : odKey i j ≠ odKey 0x1010 1) : Good q (s.numWrite i j v) := by
  unfold State.numWrite
  split
  · exact good_ftWritten hs
  · exact good_cutFreq (good_odSet hs (Or.inl (by decide)))
  · exact good_odSet (good_odSetShown hs (Or.inl (by decide))) (Or.inl (by decide))
  · exact good_reservedDown (good_odSet hs (Or.inl (by decide)))
  · exact good_bindingWritten (good_odSet hs (Or.inl h))
  · exact good_odSetShown hs (Or.inl h)
  · split
    · exact good_bezelDo hs
    · exact hs
  · exact good_getD hs (goodOpt_map (fun _ _ => good_fwActivate hs))
  · exact good_fwCommit hs
  · exact good_lockDebug hs
  · exact good_prbsWritten hs
  · exact good_startBist hs
  · exact good_setThrottle (good_odSet hs (Or.inl (by decide)))
  · exact good_odSet hs (Or.inl h)

theorem good_odDo {s : State} {i j : Nat} {b : List Byte} (hs : Good q s) (h : odKey i j ≠ odKey 0x1010 1) :
    Good q (s.odDo i j b) := by
  unfold State.odDo
  split
  · exact hs
  · split
    · exact good_textWrite hs
    · exact good_numWrite hs h

theorem good_foldl_mem {β γ : Type} {f : State × γ → β → State × γ} (l : List β) {a : State × γ} (hs : Good q a.1)
    (h : ∀ a, ∀ b ∈ l, Good q a.1 → Good q (f a b).1) : Good q (l.foldl f a).1 := by
  induction l generalizing a with
  | nil => exact hs
  | cons b l ih =>
    exact ih (h a b List.mem_cons_self hs) (fun a b hb => h a b (List.mem_cons_of_mem _ hb))

theorem good_odApply {s : State} {ws : List (Nat × Nat × List Byte)} (hs : Good q s)
    (h : ∀ w ∈ ws, odKey w.1 w.2.1 ≠ odKey 0x1010 1) : Good q (s.odApply ws) := by
  unfold State.odApply
  exact good_publish (good_foldl_mem ws hs (fun a b hb ha => good_odDo ha (h b hb)))

theorem good_quiesceDo {s} (hs : Good q s) : Good q (State.quiesceDo s) := by
  unfold State.quiesceDo
  repeat' (with_reducible first
      | assumption | apply good_stopJob | apply good_stopSettle | fail_if_no_progress apply good_mk | split | dsimp only)

theorem good_cmdDo {s a1} (hs : Good q s) : Good q (State.cmdDo s a1) := by
  unfold State.cmdDo
  repeat' (with_reducible first
      | assumption | apply good_armDo | apply good_enterRunning | apply good_holdTarget | apply good_quiesceDo
      | apply good_enterFaulted | fail_if_no_progress apply good_mk | split | dsimp only)

theorem good_cmdRefused {s a1} (hs : Good q s) : Good q (State.cmdRefused s a1) := by
  unfold State.cmdRefused
  repeat' (with_reducible first
      | assumption | refine good_odSet ?_ (Or.inl (by unfold odKey; omega)) | refine good_odSet ?_ (Or.inr (by decide))
      | refine good_bump ?_ (by unfold odKey; omega) | fail_if_no_progress apply good_mk | split | dsimp only)

theorem good_cmdRun {s a1} (hs : Good q s) : Good q (State.cmdRun s a1).1 := by
  unfold State.cmdRun
  repeat' (with_reducible first
      | assumption | apply good_cmdDo | apply good_cmdRefused | fail_if_no_progress apply good_mk | split | dsimp only)

theorem odRows_last : ∀ r ∈ odRows, r.last < 256 := by decide +kernel

/-- No write that R269 accepts reaches the module state. -/
theorem odCheck_key {s : State} {rights : Nat} {field : Bool} {i j : Nat} {typ : Option Nat} {b : List Byte}
    (h : (s.odCheck rights field i j typ b).2 = cOk) : odKey i j ≠ odKey 0x1010 1 := by
  intro e
  unfold State.odCheck at h
  cases hr : odRow i j with
  | none =>
    rw [hr] at h
    have h' : cNoEntry = cOk := h
    exact absurd h' (by decide)
  | some r =>
    have hm : r ∈ odRows := List.mem_of_find?_eq_some hr
    have hp := List.find?_some hr
    simp only [Bool.and_eq_true, beq_iff_eq, decide_eq_true_eq] at hp
    have hl := odRows_last r hm
    unfold odKey at e
    have hi : i = 0x1010 := by omega
    have hj : j = 1 := by omega
    subst hi hj
    have hacc : (odRow 0x1010 1).map (·.acc) = some 1 := by decide
    rw [hr] at hacc h
    have ha : r.acc = 1 := by simpa using hacc
    simp only [ha, if_true] at h
    split at h
    · have h' : cRights = cOk := h
      exact absurd h' (by decide)
    · have h' : cAccess = cOk := h
      exact absurd h' (by decide)

theorem checkItems_key {rights : Nat} {field typed many : Bool} {n : Nat} (l : List (Nat × Item)) :
    ∀ a : State × List Nat,
    (l.foldl (fun (a : State × List Nat) q =>
      let i := q.2
      if i.isCmd && (many || q.1 + 1 != n) then (a.1, a.2 ++ [cRange])
      else
        let c := a.1.odCheck rights field i.index i.sub (if typed then some i.typ else none) i.value
        (c.1, a.2 ++ [c.2])) a).2.find? (· ≠ cOk) = none →
    a.2.find? (· ≠ cOk) = none ∧ ∀ c ∈ l, odKey c.2.index c.2.sub ≠ odKey 0x1010 1 := by
  induction l with
  | nil => intro a h; exact ⟨h, fun _ hc => by cases hc⟩
  | cons c l ih =>
    intro a h
    obtain ⟨h1, h2⟩ := ih _ h
    dsimp only at h1
    split at h1
    · rw [List.find?_append] at h1
      simp [cOk, cRange] at h1
    · rw [List.find?_append] at h1
      simp only [Option.or_eq_none_iff] at h1
      refine ⟨h1.1, ?_⟩
      intro d hd
      cases hd with
      | head =>
        refine odCheck_key (s := a.1) (rights := rights) (field := field) (typ := if typed then some c.2.typ else none)
          (b := c.2.value) ?_
        have := h1.2
        simpa using this
      | tail _ hd => exact h2 d hd

theorem mem_zip_range {α : Type} (l : List α) (b : α) (h : b ∈ l) : ∃ n, (n, b) ∈ (List.range l.length).zip l := by
  obtain ⟨n, hn, rfl⟩ := List.getElem_of_mem h
  refine ⟨n, ?_⟩
  refine List.mem_iff_getElem.2 ⟨n, by simp [hn], ?_⟩
  simp

theorem good_writeItems {s : State} {rights : Nat} {field typed : Bool} {l : List Item} (hs : Good q s) :
    GoodOpt (fun z => Good q z.1) (s.writeItems rights field typed l) := by
  unfold State.writeItems
  split
  · exact goodOpt_none
  · have h1 : Good q ((s.checkItems rights field typed l).1.attemptItems l (s.checkItems rights field typed l).2) :=
      good_attemptItems (good_checkItems hs)
    dsimp only
    split
    · exact goodOpt_some h1
    · next hf =>
      have hk : ∀ i ∈ l, odKey i.index i.sub ≠ odKey 0x1010 1 := by
        intro i hi
        obtain ⟨n, hn⟩ := mem_zip_range l i hi
        have hf' := hf
        unfold State.checkItems at hf'
        have h3 := (checkItems_key (rights := rights) (field := field) (typed := typed)
          (many := decide (1 < (l.filter Item.isCmd).length)) (n := l.length) _ _ hf').2 (n, i) hn
        exact h3
      have h2 := good_odApply (ws := (l.filter (fun i => !i.isCmd)).map (fun i => (i.index, i.sub, i.value))) h1 (by
        intro w hw
        obtain ⟨i, hi, rfl⟩ := List.mem_map.1 hw
        exact hk i (List.mem_filter.1 hi).1)
      split
      · exact goodOpt_some h2
      · split
        · split
          · exact goodOpt_some (good_cmdRun h2)
          · split
            · exact goodOpt_some (good_cmdRun h2)
            · exact goodOpt_some (good_cmdRun h2)
        · exact goodOpt_some h2

theorem good_writeItems_eq {s : State} {rights : Nat} {field typed : Bool} {l : List Item} (hs : Good q s) {y z}
    (h : s.writeItems rights field typed l = some (z, y)) : Good q z := good_writeItems hs _ h

theorem good_blobEndReq {s a1 a2 a3} (hs : Good q s) : GoodOpt (fun z => Good q z.st) (State.blobEndReq s a1 a2 a3) := by
  unfold State.blobEndReq
  repeat' (with_reducible first
      | assumption | intro _ | exact goodOpt_none | apply goodOpt_some | apply goodOpt_map | apply good_openRefusal
      | apply good_plainReply | apply good_sesMod | apply good_writeItems | refine good_writeItems_eq ?_ ‹_›
      | fail_if_no_progress apply good_mk | split | dsimp only)

theorem good_blobEndReq_eq {s a1 a2 a3} (hs : Good q s) {z} (hz : (State.blobEndReq s a1 a2 a3) = some z) : Good q z.st :=
  good_blobEndReq hs _ hz

theorem good_blobSegReq {s a1 a2 a3} (hs : Good q s) : Good q (State.blobSegReq s a1 a2 a3).st := by
  unfold State.blobSegReq
  repeat' (with_reducible first
      | assumption | apply good_openRefusal | apply good_plainReply | apply good_sesMod
      | fail_if_no_progress apply good_mk | split | dsimp only)

theorem good_bypassShift {s a1} (hs : Good q s) : Good q (State.bypassShift s a1) := by
  unfold State.bypassShift
  repeat' (with_reducible first
      | assumption | apply good_emit | fail_if_no_progress apply good_mk | split | dsimp only)

theorem good_samplePins {s a1} (hs : Good q s) : Good q (State.samplePins s a1).2 := by
  unfold State.samplePins
  repeat' (with_reducible first
      | assumption | apply good_draw | fail_if_no_progress apply good_mk | split | dsimp only)

theorem good_boundaryShift {s a1 a2} (hs : Good q s) : Good q (State.boundaryShift s a1 a2) := by
  unfold State.boundaryShift
  repeat' (with_reducible first
      | assumption | apply good_bypassShift | apply good_samplePins | apply good_emit | fail_if_no_progress apply good_mk
      | split | dsimp only)

theorem good_newSession {s a1 a2} (hs : Good q s) : Good q (State.newSession s a1 a2).1 := by
  unfold State.newSession
  repeat' (with_reducible first
      | assumption | apply good_drawBytes | apply good_draw | fail_if_no_progress apply good_mk | split | dsimp only)

theorem good_openDo {s a1 a2} (hs : Good q s) : Good q (State.openDo s a1 a2) := by
  unfold State.openDo
  repeat' (with_reducible first
      | assumption | apply good_copSend | refine good_bump ?_ (by unfold odKey; omega) | apply good_newSession
      | apply good_setSessions | fail_if_no_progress apply good_mk | split | dsimp only)

theorem good_releaseNotify {s} (hs : Good q s) : Good q (State.releaseNotify s) := by
  unfold State.releaseNotify
  repeat' (with_reducible first
      | assumption | apply good_notifyFlush | fail_if_no_progress apply good_mk | split | dsimp only)

theorem good_dropSession {s a1} (hs : Good q s) : Good q (State.dropSession s a1) := by
  unfold State.dropSession
  repeat' (with_reducible first
      | assumption | apply good_setSessions | apply good_releaseNotify | fail_if_no_progress apply good_mk | split
      | dsimp only)

theorem good_resetsAfter {s a1 a2} (hs : Good q s) : Good q (State.resetsAfter s a1 a2) := by
  unfold State.resetsAfter
  repeat' (with_reducible first
      | assumption | intro _ | apply good_assertReset | apply good_foldl | apply good_foldl_fst | apply good_foldl_snd
      | fail_if_no_progress apply good_mk | split | dsimp only)

theorem good_reply {a0 a1 a2 a3} (ha3 : Good q a3.st) : Good q (State.reply a0 a1 a2 a3) := by
  unfold State.reply
  repeat' (with_reducible first
      | assumption | apply good_sesMod | refine good_bump ?_ (by unfold odKey; omega) | apply good_st
      | apply good_releaseNotify | apply good_copSend | apply good_dropSession | apply good_resetsAfter
      | fail_if_no_progress apply good_mk | split | dsimp only)

theorem good_proveDo {s a1 a2 a3} (hs : Good q s) : Good q (State.proveDo s a1 a2 a3) := by
  unfold State.proveDo
  repeat' (with_reducible first
      | assumption | apply good_answer | apply good_dropSession | refine good_bump ?_ (by unfold odKey; omega)
      | apply good_sesMod | apply good_reply | fail_if_no_progress apply good_mk | split | dsimp only)

theorem good_readItem {s a1 a2} (hs : Good q s) : Good q (State.readItem s a1 a2).1 := by
  unfold State.readItem
  repeat' (with_reducible first
      | assumption | apply good_odRead | fail_if_no_progress apply good_mk | split | dsimp only)

theorem good_readReq {s a1 a2} (hs : Good q s) : Good q (State.readReq s a1 a2).st := by
  unfold State.readReq
  repeat' (with_reducible first
      | assumption | apply good_readItem | apply good_openRefusal | fail_if_no_progress apply good_mk | split | dsimp only)

theorem good_writeReq {s a1 a2 a3} (hs : Good q s) : GoodOpt (fun z => Good q z.st) (State.writeReq s a1 a2 a3) := by
  unfold State.writeReq
  repeat' (with_reducible first
      | assumption | intro _ | exact goodOpt_none | apply goodOpt_some | apply goodOpt_map | apply good_writeItems
      | refine good_writeItems_eq ?_ ‹_› | apply good_openRefusal | fail_if_no_progress apply good_mk | split | dsimp only)

theorem good_writeReq_eq {s a1 a2 a3} (hs : Good q s) {z} (hz : (State.writeReq s a1 a2 a3) = some z) : Good q z.st :=
  good_writeReq hs _ hz

theorem good_readMultiReq {s a1 a2 a3} (hs : Good q s) : Good q (State.readMultiReq s a1 a2 a3).st := by
  unfold State.readMultiReq
  repeat' (with_reducible first
      | assumption | intro _ | apply good_openRefusal | apply good_readItem | apply good_foldl | apply good_foldl_fst
      | apply good_foldl_snd | fail_if_no_progress apply good_mk | split | dsimp only)

theorem good_writeMultiReq {s a1 a2 a3} (hs : Good q s) : GoodOpt (fun z => Good q z.st) (State.writeMultiReq s a1 a2 a3) := by
  unfold State.writeMultiReq
  repeat' (with_reducible first
      | assumption | intro _ | exact goodOpt_none | apply goodOpt_some | apply goodOpt_map | apply good_openRefusal
      | apply good_writeItems | refine good_writeItems_eq ?_ ‹_› | fail_if_no_progress apply good_mk | split | dsimp only)

theorem good_writeMultiReq_eq {s a1 a2 a3} (hs : Good q s) {z} (hz : (State.writeMultiReq s a1 a2 a3) = some z) : Good q z.st :=
  good_writeMultiReq hs _ hz

theorem good_serveReq {s a1 a2 a3} (hs : Good q s) : GoodOpt (fun z => Good q z.st) (State.serveReq s a1 a2 a3) := by
  unfold State.serveReq
  repeat' (with_reducible first
      | assumption | intro _ | exact goodOpt_none | apply goodOpt_some | apply goodOpt_map | apply good_plainReply
      | apply good_openRefusal | apply good_readReq | apply good_writeReq | refine good_writeReq_eq ?_ ‹_›
      | apply good_readMultiReq | apply good_writeMultiReq | refine good_writeMultiReq_eq ?_ ‹_› | apply good_blobBeginReq
      | apply good_blobSegReq | apply good_blobEndReq | refine good_blobEndReq_eq ?_ ‹_›
      | fail_if_no_progress apply good_mk | split | dsimp only)

theorem good_serveReq_eq {s a1 a2 a3} (hs : Good q s) {z} (hz : (State.serveReq s a1 a2 a3) = some z) : Good q z.st :=
  good_serveReq hs _ hz

theorem good_sessionFrame {s a1 a2 a3} (hs : Good q s) : GoodOpt (fun z => Good q z) (State.sessionFrame s a1 a2 a3) := by
  unfold State.sessionFrame
  repeat' (with_reducible first
      | assumption | intro _ | exact goodOpt_none | apply goodOpt_some | apply goodOpt_map
      | refine good_bump ?_ (by unfold odKey; omega) | apply good_sesMod | apply good_ackDo | apply good_answer
      | apply good_proveDo | apply good_copSend | apply good_reply | apply good_serveReq | refine good_serveReq_eq ?_ ‹_›
      | fail_if_no_progress apply good_mk | split | dsimp only)

theorem good_sessionFrame_eq {s a1 a2 a3} (hs : Good q s) {z} (hz : (State.sessionFrame s a1 a2 a3) = some z) : Good q z :=
  good_sessionFrame hs _ hz

theorem good_copFrameDo {s a1 a2} (hs : Good q s) : GoodOpt (fun z => Good q z) (State.copFrameDo s a1 a2) := by
  unfold State.copFrameDo
  repeat' (with_reducible first
      | assumption | intro _ | exact goodOpt_none | apply goodOpt_some | apply goodOpt_map | apply good_openDo
      | refine good_bump ?_ (by unfold odKey; omega) | apply good_sessionFrame | refine good_sessionFrame_eq ?_ ‹_›
      | fail_if_no_progress apply good_mk | split | dsimp only)

theorem good_copFrameDo_eq {s a1 a2} (hs : Good q s) {z} (hz : (State.copFrameDo s a1 a2) = some z) : Good q z :=
  good_copFrameDo hs _ hz

theorem good_discardFrame {s a1} (hs : Good q s) : Good q (State.discardFrame s a1) := by
  unfold State.discardFrame
  repeat' (with_reducible first
      | assumption | refine good_bump ?_ (by unfold odKey; omega) | fail_if_no_progress apply good_mk | split | dsimp only)

theorem good_mbSkip {n : Nat} {s : State} (hs : Good q s) : Good q (State.mbSkip n s) := by
  induction n generalizing s with
  | zero => exact hs
  | succ n ih =>
    rw [State.mbSkip]
    split
    · exact hs
    · split
      · exact ih (good_mbWrite hs)
      · split
        · exact good_mbWrite hs
        · split
          · exact hs
          · refine ih ?_
            split
            · exact good_discardFrame (good_mbWrite hs)
            · exact good_mbWrite hs

theorem good_crownTurn {s a1} (hs : Good q s) : Good q (State.crownTurn s a1) := by
  unfold State.crownTurn
  repeat' (with_reducible first
      | assumption | fail_if_no_progress apply good_mk | split | dsimp only)

theorem good_takeMailbox {s} (hs : Good q s) : GoodOpt (fun z => Good q z) (State.takeMailbox s) := by
  unfold State.takeMailbox
  repeat' (with_reducible first
      | assumption | intro _ | exact goodOpt_none | apply goodOpt_some | apply goodOpt_map | apply good_mbSkip
      | apply good_copFrameDo | refine good_copFrameDo_eq ?_ ‹_› | apply good_crownTurn | apply good_mbWrite
      | fail_if_no_progress apply good_mk | split | dsimp only)

theorem good_takeMailbox_eq {s} (hs : Good q s) {z} (hz : (State.takeMailbox s) = some z) : Good q z :=
  good_takeMailbox hs _ hz

theorem good_takeField {s} (hs : Good q s) : GoodOpt (fun z => Good q z) (State.takeField s) := by
  unfold State.takeField
  repeat' (with_reducible first
      | assumption | intro _ | exact goodOpt_none | apply goodOpt_some | apply goodOpt_map | apply good_copFrameDo
      | refine good_copFrameDo_eq ?_ ‹_› | apply good_crownTurn | fail_if_no_progress apply good_mk | split | dsimp only)

theorem good_takeField_eq {s} (hs : Good q s) {z} (hz : (State.takeField s) = some z) : Good q z :=
  good_takeField hs _ hz

theorem good_crownRest {n : Nat} {s : State} (hs : Good q s) : Good q (State.crownRest n s) := by
  induction n generalizing s with
  | zero => exact hs
  | succ n ih =>
    have hm := good_takeMailbox hs
    have hf := good_takeField hs
    rw [State.crownRest]
    split
    · exact hs
    · have ho : GoodOpt (fun z => Good q z) (if s.crown.turn = 0 then (s.takeMailbox).orElse (fun _ => s.takeField)
          else (s.takeField).orElse (fun _ => s.takeMailbox)) := by
        cases h1 : s.takeMailbox <;> cases h2 : s.takeField <;> split <;> simp only [Option.orElse] <;>
          first | exact goodOpt_none | exact goodOpt_some (hm _ h1) | exact goodOpt_some (hf _ h2)
      split
      · exact hs
      · exact ih (ho _ ‹_›)

theorem good_waitFrame {s a1 a2 a3} (hs : Good q s) : Good q (State.waitFrame s a1 a2 a3) := by
  unfold State.waitFrame
  repeat' (with_reducible first
      | assumption | fail_if_no_progress apply good_mk | split | dsimp only)

theorem good_copServe {s a1 a2} (hs : Good q s) : Good q (State.copServe s a1 a2) := by
  unfold State.copServe
  repeat' (with_reducible first
      | assumption | apply goodOpt_map | apply good_discardFrame | apply good_crownRest | apply good_waitFrame
      | apply good_copFrameDo | refine good_copFrameDo_eq ?_ ‹_› | apply good_crownTurn | apply good_takeField
      | refine good_takeField_eq ?_ ‹_› | apply good_mbSkip | apply good_mbWrite | apply good_getD
      | fail_if_no_progress apply good_mk | split | dsimp only)

theorem good_mgmtWrite {s : State} {r i j : Nat} {typ : Option Nat} {v : List Byte} (hs : Good q s) :
    Good q (s.mgmtWrite r i j typ v) := by
  unfold State.mgmtWrite
  dsimp only
  split
  · next hi =>
    subst hi
    repeat' (first | exact good_odSetShown hs (Or.inl (by unfold odKey; omega)) | exact good_bump hs (by decide) | split)
  · split
    · exact good_bump hs (by decide)
    · next hc =>
      have hk : (s.odCheck 2 false i j typ v).2 = cOk := by
        simp only [Bool.or_eq_true, not_or, bne_iff_ne, Decidable.not_not] at hc
        exact hc.2
      have h1 := good_odApply (ws := [(i, j, v)]) (good_odCheck (a1 := 2) (a2 := false) (a3 := i) (a4 := j) (a5 := typ) (a6 := v) hs) (by
        intro w hw
        cases List.mem_singleton.1 hw
        exact odCheck_key hk)
      split
      · exact good_restartWaits hs h1
      · exact h1

theorem good_mgmtFrame {s a1 a2} (hs : Good q s) : Good q (State.mgmtFrame s a1 a2) := by
  unfold State.mgmtFrame
  repeat' (with_reducible first
      | assumption | refine good_bump ?_ (by unfold odKey; omega) | apply good_mgmtWrite
      | fail_if_no_progress apply good_mk | split | dsimp only)

theorem good_notifyAgain {s a1 a2} (hs : Good q s) : Good q (State.notifyAgain s a1 a2) := by
  unfold State.notifyAgain
  repeat' (with_reducible first
      | assumption | apply good_copSend | apply good_sesMod | refine good_bumpBy ?_ (by unfold odKey; omega)
      | fail_if_no_progress apply good_mk | split | dsimp only)

theorem good_tapIr {s a1} (hs : Good q s) : Good q (State.tapIr s a1) := by
  unfold State.tapIr
  repeat' (with_reducible first
      | assumption | fail_if_no_progress apply good_mk | split | dsimp only)

theorem good_tickFt {s} (hs : Good q s) : Good q (State.tickFt s) := by
  unfold State.tickFt
  repeat' (with_reducible first
      | assumption | refine good_bumpBy ?_ (by unfold odKey; omega) | fail_if_no_progress apply good_mk | split
      | dsimp only)

theorem good_tickPinion {s a1} (hs : Good q s) : Good q (State.tickPinion s a1) := by
  unfold State.tickPinion
  repeat' (with_reducible first
      | assumption | refine good_pinCountBy ?_ (by unfold odKey; omega) | fail_if_no_progress apply good_mk | split
      | dsimp only)

theorem good_tick {s} (hs : Good q s) : Good q (State.tick s) := by
  unfold State.tick
  repeat' (with_reducible first
      | assumption | intro _ | apply good_tickFt | apply good_exportsEnd | refine good_bumpBy ?_ (by unfold odKey; omega)
      | apply good_crownRest | apply good_tickPinion | apply good_foldl | apply good_foldl_fst | apply good_foldl_snd
      | fail_if_no_progress apply good_mk | split | dsimp only)

theorem good_execMgmt {a0 s} (hs : Good q s) : GoodOut q (execMgmt a0 s) := by
  unfold execMgmt
  repeat' (with_reducible first
      | assumption | apply goodOut_next | apply goodOpt_map | apply good_takeRx | refine good_takeRx_eq ?_ ‹_›
      | apply good_mgmtFrame | refine good_bump ?_ (by unfold odKey; omega) | apply good_getD
      | fail_if_no_progress apply good_mk | split | dsimp only)

theorem good_execBistComplete {a0 s} (hs : Good q s) : GoodOut q (execBistComplete a0 s) := by
  unfold execBistComplete
  repeat' (with_reducible first
      | assumption | apply goodOut_next | apply good_blobSet | refine good_odSet ?_ (Or.inl (by unfold odKey; omega))
      | refine good_odSet ?_ (Or.inr (by decide)) | fail_if_no_progress apply good_mk | split | dsimp only)

theorem good_execOpenSession {a0 s} (hs : Good q s) : GoodOut q (execOpenSession a0 s) := by
  unfold execOpenSession
  repeat' (with_reducible first
      | assumption | apply goodOut_next | apply good_copServe | fail_if_no_progress apply good_mk | split | dsimp only)

theorem good_execProve {a0 s} (hs : Good q s) : GoodOut q (execProve a0 s) := by
  unfold execProve
  repeat' (with_reducible first
      | assumption | apply goodOut_next | apply good_copServe | fail_if_no_progress apply good_mk | split | dsimp only)

theorem good_execCopClose {a0 s} (hs : Good q s) : GoodOut q (execCopClose a0 s) := by
  unfold execCopClose
  repeat' (with_reducible first
      | assumption | apply goodOut_next | apply good_copServe | fail_if_no_progress apply good_mk | split | dsimp only)

theorem good_execRead {a0 s} (hs : Good q s) : GoodOut q (execRead a0 s) := by
  unfold execRead
  repeat' (with_reducible first
      | assumption | apply goodOut_next | apply good_copServe | fail_if_no_progress apply good_mk | split | dsimp only)

theorem good_execWrite {a0 s} (hs : Good q s) : GoodOut q (execWrite a0 s) := by
  unfold execWrite
  repeat' (with_reducible first
      | assumption | apply goodOut_next | apply good_copServe | fail_if_no_progress apply good_mk | split | dsimp only)

theorem good_execReadMulti {a0 s} (hs : Good q s) : GoodOut q (execReadMulti a0 s) := by
  unfold execReadMulti
  repeat' (with_reducible first
      | assumption | apply goodOut_next | apply good_copServe | fail_if_no_progress apply good_mk | split | dsimp only)

theorem good_execWriteMulti {a0 s} (hs : Good q s) : GoodOut q (execWriteMulti a0 s) := by
  unfold execWriteMulti
  repeat' (with_reducible first
      | assumption | apply goodOut_next | apply good_copServe | fail_if_no_progress apply good_mk | split | dsimp only)

theorem good_execBlobBegin {a0 s} (hs : Good q s) : GoodOut q (execBlobBegin a0 s) := by
  unfold execBlobBegin
  repeat' (with_reducible first
      | assumption | apply goodOut_next | apply good_copServe | fail_if_no_progress apply good_mk | split | dsimp only)

theorem good_execBlobSeg {a0 s} (hs : Good q s) : GoodOut q (execBlobSeg a0 s) := by
  unfold execBlobSeg
  repeat' (with_reducible first
      | assumption | apply goodOut_next | apply good_copServe | fail_if_no_progress apply good_mk | split | dsimp only)

theorem good_execBlobEnd {a0 s} (hs : Good q s) : GoodOut q (execBlobEnd a0 s) := by
  unfold execBlobEnd
  repeat' (with_reducible first
      | assumption | apply goodOut_next | apply good_copServe | fail_if_no_progress apply good_mk | split | dsimp only)

theorem good_execNotifyAck {a0 s} (hs : Good q s) : GoodOut q (execNotifyAck a0 s) := by
  unfold execNotifyAck
  repeat' (with_reducible first
      | assumption | apply goodOut_next | apply good_copServe | fail_if_no_progress apply good_mk | split | dsimp only)

theorem good_execNotifyResend {a0 a1 s} (hs : Good q s) : GoodOut q (execNotifyResend a0 a1 s) := by
  unfold execNotifyResend
  repeat' (with_reducible first
      | assumption | trivial | intro _ | apply goodOut_next | exact goodOut_fault | exact goodOut_refused
      | exact goodOpt_none | apply goodOpt_some | apply goodOpt_map | apply good_notifyAgain | exact goodRes_fault
      | apply goodRes_done | apply goodRes_jump | apply goodRes_stay | apply goodRes_wait | apply goodRes_ended
      | apply goodRes_isolated | apply good_getD | fail_if_no_progress apply good_mk | split | dsimp only)

theorem good_execSessionIdle {a0 s} (hs : Good q s) : GoodOut q (execSessionIdle a0 s) := by
  unfold execSessionIdle
  repeat' (with_reducible first
      | assumption | apply goodOut_next | apply good_dropSession | fail_if_no_progress apply good_mk | split | dsimp only)

theorem good_execPendingSessionExpiry {a0 s} (hs : Good q s) : GoodOut q (execPendingSessionExpiry a0 s) := by
  unfold execPendingSessionExpiry
  repeat' (with_reducible first
      | assumption | apply goodOut_next | apply good_dropSession | fail_if_no_progress apply good_mk | split | dsimp only)

theorem good_execBlobAbandon {a0 s} (hs : Good q s) : GoodOut q (execBlobAbandon a0 s) := by
  unfold execBlobAbandon
  repeat' (with_reducible first
      | assumption | apply goodOut_next | apply good_sesMod | fail_if_no_progress apply good_mk | split | dsimp only)

theorem good_execArm {a0 s} (hs : Good q s) : GoodOut q (execArm a0 s) := by
  unfold execArm
  repeat' (with_reducible first
      | assumption | apply goodOut_next | apply good_copServe | fail_if_no_progress apply good_mk | split | dsimp only)

theorem good_execRun {a0 s} (hs : Good q s) : GoodOut q (execRun a0 s) := by
  unfold execRun
  repeat' (with_reducible first
      | assumption | apply goodOut_next | apply good_copServe | fail_if_no_progress apply good_mk | split | dsimp only)

theorem good_execHold {a0 s} (hs : Good q s) : GoodOut q (execHold a0 s) := by
  unfold execHold
  repeat' (with_reducible first
      | assumption | apply goodOut_next | apply good_copServe | fail_if_no_progress apply good_mk | split | dsimp only)

theorem good_execRelease {a0 s} (hs : Good q s) : GoodOut q (execRelease a0 s) := by
  unfold execRelease
  repeat' (with_reducible first
      | assumption | apply goodOut_next | apply good_copServe | fail_if_no_progress apply good_mk | split | dsimp only)

theorem good_execQuiesce {a0 s} (hs : Good q s) : GoodOut q (execQuiesce a0 s) := by
  unfold execQuiesce
  repeat' (with_reducible first
      | assumption | apply goodOut_next | apply good_copServe | fail_if_no_progress apply good_mk | split | dsimp only)

theorem good_execWarmReset {a0 s} (hs : Good q s) : GoodOut q (execWarmReset a0 s) := by
  unfold execWarmReset
  repeat' (with_reducible first
      | assumption | apply goodOut_next | apply good_copServe | fail_if_no_progress apply good_mk | split | dsimp only)

theorem good_execForceFault {a0 s} (hs : Good q s) : GoodOut q (execForceFault a0 s) := by
  unfold execForceFault
  repeat' (with_reducible first
      | assumption | apply goodOut_next | apply good_copServe | fail_if_no_progress apply good_mk | split | dsimp only)

theorem good_execTakeover {a0 s} (hs : Good q s) : GoodOut q (execTakeover a0 s) := by
  unfold execTakeover
  repeat' (with_reducible first
      | assumption | apply goodOut_next | apply good_copServe | fail_if_no_progress apply good_mk | split | dsimp only)

theorem good_execFence {a0 s} (hs : Good q s) : GoodOut q (execFence a0 s) := by
  unfold execFence
  repeat' (with_reducible first
      | assumption | apply goodOut_next | apply good_copServe | fail_if_no_progress apply good_mk | split | dsimp only)

theorem good_execRetire {a0 s} (hs : Good q s) : GoodOut q (execRetire a0 s) := by
  unfold execRetire
  repeat' (with_reducible first
      | assumption | apply goodOut_next | apply good_copServe | fail_if_no_progress apply good_mk | split | dsimp only)

theorem good_execReadmit {a0 s} (hs : Good q s) : GoodOut q (execReadmit a0 s) := by
  unfold execReadmit
  repeat' (with_reducible first
      | assumption | apply goodOut_next | apply good_copServe | fail_if_no_progress apply good_mk | split | dsimp only)

theorem good_execFtSet {a0 s} (hs : Good q s) : GoodOut q (execFtSet a0 s) := by
  unfold execFtSet
  repeat' (with_reducible first
      | assumption | apply goodOut_next | apply good_copServe | fail_if_no_progress apply good_mk | split | dsimp only)

theorem good_execBeatTable {a0 s} (hs : Good q s) : GoodOut q (execBeatTable a0 s) := by
  unfold execBeatTable
  repeat' (with_reducible first
      | assumption | apply goodOut_next | apply good_copServe | fail_if_no_progress apply good_mk | split | dsimp only)

theorem good_execBeatEntry {a0 s} (hs : Good q s) : GoodOut q (execBeatEntry a0 s) := by
  unfold execBeatEntry
  repeat' (with_reducible first
      | assumption | apply goodOut_next | apply good_copServe | fail_if_no_progress apply good_mk | split | dsimp only)

theorem good_execLayout {a0 s} (hs : Good q s) : GoodOut q (execLayout a0 s) := by
  unfold execLayout
  repeat' (with_reducible first
      | assumption | apply goodOut_next | apply good_copServe | fail_if_no_progress apply good_mk | split | dsimp only)

theorem good_execRoster {a0 s} (hs : Good q s) : GoodOut q (execRoster a0 s) := by
  unfold execRoster
  repeat' (with_reducible first
      | assumption | apply goodOut_next | apply good_copServe | fail_if_no_progress apply good_mk | split | dsimp only)

theorem good_execProgramManifest {a0 s} (hs : Good q s) : GoodOut q (execProgramManifest a0 s) := by
  unfold execProgramManifest
  repeat' (with_reducible first
      | assumption | apply goodOut_next | apply good_copServe | fail_if_no_progress apply good_mk | split | dsimp only)

theorem good_execRetireMap {a0 s} (hs : Good q s) : GoodOut q (execRetireMap a0 s) := by
  unfold execRetireMap
  repeat' (with_reducible first
      | assumption | apply goodOut_next | apply good_copServe | fail_if_no_progress apply good_mk | split | dsimp only)

theorem good_execOperatorKeys {a0 s} (hs : Good q s) : GoodOut q (execOperatorKeys a0 s) := by
  unfold execOperatorKeys
  repeat' (with_reducible first
      | assumption | apply goodOut_next | apply good_copServe | fail_if_no_progress apply good_mk | split | dsimp only)

theorem good_execJobKey {a0 s} (hs : Good q s) : GoodOut q (execJobKey a0 s) := by
  unfold execJobKey
  repeat' (with_reducible first
      | assumption | apply goodOut_next | apply good_copServe | fail_if_no_progress apply good_mk | split | dsimp only)

theorem good_execFwImage {a0 s} (hs : Good q s) : GoodOut q (execFwImage a0 s) := by
  unfold execFwImage
  repeat' (with_reducible first
      | assumption | apply goodOut_next | apply good_copServe | fail_if_no_progress apply good_mk | split | dsimp only)

theorem good_execFwActivate {a0 s} (hs : Good q s) : GoodOut q (execFwActivate a0 s) := by
  unfold execFwActivate
  repeat' (with_reducible first
      | assumption | apply goodOut_next | apply good_copServe | fail_if_no_progress apply good_mk | split | dsimp only)

theorem good_execRollbackCommit {a0 s} (hs : Good q s) : GoodOut q (execRollbackCommit a0 s) := by
  unfold execRollbackCommit
  repeat' (with_reducible first
      | assumption | apply goodOut_next | apply good_copServe | fail_if_no_progress apply good_mk | split | dsimp only)

theorem good_execDebugChallenge {a0 s} (hs : Good q s) : GoodOut q (execDebugChallenge a0 s) := by
  unfold execDebugChallenge
  repeat' (with_reducible first
      | assumption | apply goodOut_next | apply good_copServe | fail_if_no_progress apply good_mk | split | dsimp only)

theorem good_execDebugToken {a0 s} (hs : Good q s) : GoodOut q (execDebugToken a0 s) := by
  unfold execDebugToken
  repeat' (with_reducible first
      | assumption | apply goodOut_next | apply good_copServe | fail_if_no_progress apply good_mk | split | dsimp only)

theorem good_execDebugScope {a0 s} (hs : Good q s) : GoodOut q (execDebugScope a0 s) := by
  unfold execDebugScope
  repeat' (with_reducible first
      | assumption | apply goodOut_next | apply good_copServe | fail_if_no_progress apply good_mk | split | dsimp only)

theorem good_execDebugExpiry {s} (hs : Good q s) : GoodOut q (execDebugExpiry s) := by
  unfold execDebugExpiry
  repeat' (with_reducible first
      | assumption | apply goodOut_next | apply good_lockDebug | fail_if_no_progress apply good_mk | split | dsimp only)

theorem good_execAttestReport {a0 s} (hs : Good q s) : GoodOut q (execAttestReport a0 s) := by
  unfold execAttestReport
  repeat' (with_reducible first
      | assumption | apply goodOut_next | apply good_copServe | fail_if_no_progress apply good_mk | split | dsimp only)

theorem good_execAccImage {a0 s} (hs : Good q s) : GoodOut q (execAccImage a0 s) := by
  unfold execAccImage
  repeat' (with_reducible first
      | assumption | apply goodOut_next | apply good_copServe | fail_if_no_progress apply good_mk | split | dsimp only)

theorem good_execHbmBistStart {a0 s} (hs : Good q s) : GoodOut q (execHbmBistStart a0 s) := by
  unfold execHbmBistStart
  repeat' (with_reducible first
      | assumption | apply goodOut_next | apply good_copServe | fail_if_no_progress apply good_mk | split | dsimp only)

theorem good_execPrbsMode {a0 s} (hs : Good q s) : GoodOut q (execPrbsMode a0 s) := by
  unfold execPrbsMode
  repeat' (with_reducible first
      | assumption | apply goodOut_next | apply good_copServe | fail_if_no_progress apply good_mk | split | dsimp only)

theorem good_execBypass {a0 s} (hs : Good q s) : GoodOut q (execBypass a0 s) := by
  unfold execBypass
  repeat' (with_reducible first
      | assumption | apply goodOut_next | apply good_bypassShift | fail_if_no_progress apply good_mk | split | dsimp only)

theorem good_execIdcode {s} (hs : Good q s) : GoodOut q (execIdcode s) := by
  unfold execIdcode
  repeat' (with_reducible first
      | assumption | apply goodOut_next | apply good_emit | apply good_tapIr | fail_if_no_progress apply good_mk | split
      | dsimp only)

theorem good_execSamplePreload {a0 s} (hs : Good q s) : GoodOut q (execSamplePreload a0 s) := by
  unfold execSamplePreload
  repeat' (with_reducible first
      | assumption | apply goodOut_next | apply good_boundaryShift | fail_if_no_progress apply good_mk | split
      | dsimp only)

theorem good_execExtest {a0 s} (hs : Good q s) : GoodOut q (execExtest a0 s) := by
  unfold execExtest
  repeat' (with_reducible first
      | assumption | apply goodOut_next | apply good_boundaryShift | fail_if_no_progress apply good_mk | split
      | dsimp only)

theorem good_execClamp {s} (hs : Good q s) : GoodOut q (execClamp s) := by
  unfold execClamp
  repeat' (with_reducible first
      | assumption | apply goodOut_next | apply good_tapIr | fail_if_no_progress apply good_mk | split | dsimp only)

theorem good_execHighz {s} (hs : Good q s) : GoodOut q (execHighz s) := by
  unfold execHighz
  repeat' (with_reducible first
      | assumption | apply goodOut_next | apply good_tapIr | fail_if_no_progress apply good_mk | split | dsimp only)

theorem good_execInternalTest {a0 s} (hs : Good q s) : GoodOut q (execInternalTest a0 s) := by
  unfold execInternalTest
  repeat' (with_reducible first
      | assumption | apply goodOut_next | exact goodOut_fault | exact goodOut_refused | apply good_bypassShift
      | fail_if_no_progress apply good_mk | split | dsimp only)

end Sys2Proof.Machine
end

