-- ==== Sys2Proof/Laws/GoodPinion.lean ====
section
/-! SUPPORT. What keeps the invariant of Laws/Good.lean: the instructions of a pinion and the events of its engines. -/

set_option linter.unusedVariables false
set_option linter.unusedTactic false
set_option linter.unreachableTactic false

namespace Sys2Proof.Machine

variable {q : List Instr}

theorem good_headDone {s a1 a2} (hs : Good q s) : Good q (State.headDone s a1 a2) := by
  unfold State.headDone
  repeat' (with_reducible first
      | assumption | fail_if_no_progress apply good_mk | split | dsimp only)

theorem good_startArr {s a1 a2} (hs : Good q s) : Good q (startArr s a1 a2) := by
  unfold startArr
  repeat' (with_reducible first
      | assumption | apply good_pinMod | fail_if_no_progress apply good_mk | split | dsimp only)

theorem good_advance {s a1} (hs : Good q s) : Good q (advance s a1) := by
  unfold advance
  repeat' (with_reducible first
      | assumption | apply good_startArr | fail_if_no_progress apply good_mk | split | dsimp only)

theorem good_updWord {s a1 a2 a3} (hs : Good q s) : Good q (updWord s a1 a2 a3) := by
  unfold updWord
  repeat' (with_reducible first
      | assumption | apply good_wrData | fail_if_no_progress apply good_mk | split | dsimp only)

theorem good_amaxUpdate {s a1 a2 a3 a4} (hs : Good q s) : Good q (amaxUpdate s a1 a2 a3 a4) := by
  unfold amaxUpdate
  repeat' (with_reducible first
      | assumption | intro _ | apply good_updWord | apply good_foldl | apply good_foldl_fst | apply good_foldl_snd
      | fail_if_no_progress apply good_mk | split | dsimp only)

theorem good_setBarrel {s a1 a2} (hs : Good q s) : Good q (setBarrel s a1 a2) := by
  unfold setBarrel
  repeat' (with_reducible first
      | assumption | fail_if_no_progress apply good_mk | split | dsimp only)

theorem good_applyBdir {s a1 a2} (hs : Good q s) : Good q (applyBdir s a1 a2) := by
  unfold applyBdir
  repeat' (with_reducible first
      | assumption | refine good_bumpBy ?_ (by unfold odKey; omega) | apply good_setBarrel
      | refine good_bump ?_ (by unfold odKey; omega) | fail_if_no_progress apply good_mk | split | dsimp only)

theorem good_applyWrites {s a1 a2} (hs : Good q s) : Good q (applyWrites s a1 a2) := by
  unfold applyWrites
  repeat' (with_reducible first
      | assumption | intro _ | apply good_wrData | apply good_foldl | apply good_foldl_fst | apply good_foldl_snd
      | fail_if_no_progress apply good_mk | split | dsimp only)

theorem good_barrelIssue {s a1 a2 a3 a4} (hs : Good q s) : Good q (barrelIssue s a1 a2 a3 a4) := by
  unfold barrelIssue
  repeat' (with_reducible first
      | assumption | intro _ | apply good_issueAs | apply good_pinMod | exact goodRes_fault | apply goodRes_done
      | apply goodRes_jump | apply goodRes_stay | apply goodRes_wait | apply goodRes_ended | apply goodRes_isolated
      | split | dsimp only)

theorem good_xferFault {s a1 a2 a3 a4 a5 a6 a7} (hs : Good q s) : Good q (xferFault s a1 a2 a3 a4 a5 a6 a7) := by
  unfold xferFault
  repeat' (with_reducible first
      | assumption | apply good_headDone | apply good_pinMod | apply good_tryStop | apply good_takeFault
      | fail_if_no_progress apply good_mk | split | dsimp only)

theorem good_copyLines {a0 a1 a2 s a4} (hs : Good q s) : Good q (copyLines a0 a1 a2 s a4) := by
  revert hs
  fun_induction copyLines a0 a1 a2 s a4 <;> intro hs <;> (repeat' (with_reducible first
      | assumption | apply_assumption | apply good_memWrite | fail_if_no_progress apply good_mk | split | dsimp only))

theorem good_runBarrelJob {s a1 a2 a3 a4 a5 a6} (hs : Good q s) : Good q (runBarrelJob s a1 a2 a3 a4 a5 a6) := by
  unfold runBarrelJob
  repeat' (with_reducible first
      | assumption | apply good_copyLines | refine good_bumpBy ?_ (by unfold odKey; omega)
      | fail_if_no_progress apply good_mk | split | dsimp only)

theorem good_jobDone {s a1 a2 a3 a4} (hs : Good q s) : Good q (jobDone s a1 a2 a3 a4) := by
  unfold jobDone
  repeat' (with_reducible first
      | assumption | apply good_tryStop | apply good_headDone | apply good_postOpt | apply good_pinMod
      | fail_if_no_progress apply good_mk | split | dsimp only)

theorem good_barrelLines {s a1 a2 a3 a4 a5 a6 a7 a8 a9 a10 a11} (hs : Good q s) : Good q (barrelLines s a1 a2 a3 a4 a5 a6 a7 a8 a9 a10 a11) := by
  unfold barrelLines
  repeat' (with_reducible first
      | assumption | apply good_xferFault | apply good_isolate | refine good_bump ?_ (by unfold odKey; omega)
      | apply good_runBarrelJob | apply good_pinMod | apply good_jobDone | fail_if_no_progress apply good_mk | split
      | dsimp only)

theorem good_grantBdirs {a0 a1 s a3} (hs : Good q s) : Good q (grantBdirs a0 a1 s a3) := by
  revert hs
  fun_induction grantBdirs a0 a1 s a3 <;> intro hs <;> (repeat' (with_reducible first
      | assumption | apply_assumption | apply good_setBarrel | apply good_applyBdir | fail_if_no_progress apply good_mk | split | dsimp only))

theorem good_bdirArrives {s a1 a2 a3} (hs : Good q s) : Good q (bdirArrives s a1 a2 a3) := by
  unfold bdirArrives
  repeat' (with_reducible first
      | assumption | apply good_setBarrel | apply good_grantBdirs | apply good_applyBdir
      | fail_if_no_progress apply good_mk | split | dsimp only)

theorem good_countDrain {s a1 a2 a3 a4} (hs : Good q s) : Good q (countDrain s a1 a2 a3 a4) := by
  unfold countDrain
  repeat' (with_reducible first
      | assumption | refine good_pinCountBy ?_ (by unfold odKey; omega) | fail_if_no_progress apply good_mk | split
      | dsimp only)

theorem good_startStream {s a1 a2 a3 a4} (hs : Good q s) : Good q (startStream s a1 a2 a3 a4) := by
  unfold startStream
  repeat' (with_reducible first
      | assumption | apply good_eccFault | apply good_memWrite | apply good_setHand | apply good_takeFault
      | apply good_isolate | refine good_bump ?_ (by unfold odKey; omega) | fail_if_no_progress apply good_mk | split
      | dsimp only)

theorem good_deliver {s a1 a2 a3 a4} (hs : Good q s) : Good q (deliver s a1 a2 a3 a4) := by
  unfold deliver
  repeat' (with_reducible first
      | assumption | apply good_startStream | apply good_setHand | fail_if_no_progress apply good_mk | split | dsimp only)

theorem good_dmIssue {s a1 a2 a3 a4} (hs : Good q s) : Good q (dmIssue s a1 a2 a3 a4) := by
  unfold dmIssue
  repeat' (with_reducible first
      | assumption | intro _ | apply good_issueAs | apply good_pinMod | exact goodRes_fault | apply goodRes_done
      | apply goodRes_jump | apply goodRes_stay | apply goodRes_wait | apply goodRes_ended | apply goodRes_isolated
      | split | dsimp only)

theorem good_execStreamDescriptor {a0 a1 s} (hs : Good q s) : GoodOut q (execStreamDescriptor a0 a1 s) := by
  unfold execStreamDescriptor
  repeat' (with_reducible first
      | assumption | intro _ | apply goodOut_next | apply good_emit | apply good_deliver | apply good_unitMod
      | apply good_foldl | apply good_foldl_fst | apply good_foldl_snd | fail_if_no_progress apply good_mk | split
      | dsimp only)

theorem good_execPendingStreamStart {a0 a1 s} (hs : Good q s) : GoodOut q (execPendingStreamStart a0 a1 s) := by
  unfold execPendingStreamStart
  repeat' (with_reducible first
      | assumption | apply goodOut_next | apply good_startStream | fail_if_no_progress apply good_mk | split | dsimp only)

theorem good_switchHand {s a1} (hs : Good q s) : Good q (switchHand s a1) := by
  unfold switchHand
  repeat' (with_reducible first
      | assumption | refine good_pinCountBy ?_ (by unfold odKey; omega) | apply good_pinMod
      | fail_if_no_progress apply good_mk | split | dsimp only)

theorem good_execHandSwitch {a0 s} (hs : Good q s) : GoodOut q (execHandSwitch a0 s) := by
  unfold execHandSwitch
  repeat' (with_reducible first
      | assumption | apply goodOut_next | apply good_switchHand | fail_if_no_progress apply good_mk | split | dsimp only)

theorem good_execNop {a0 a1 s} (hs : Good q s) : GoodOut q (execNop a0 a1 s) := by
  unfold execNop
  repeat' (with_reducible first
      | assumption | intro _ | apply goodOut_next | apply good_issueAs | exact goodRes_fault | apply goodRes_done
      | apply goodRes_jump | apply goodRes_stay | apply goodRes_wait | apply goodRes_ended | apply goodRes_isolated
      | split | dsimp only)

theorem good_execEndOp {a0 a1 s} (hs : Good q s) : GoodOut q (execEndOp a0 a1 s) := by
  unfold execEndOp
  repeat' (with_reducible first
      | assumption | intro _ | apply goodOut_next | apply good_issueAs | apply good_setHand | exact goodRes_fault
      | apply goodRes_done | apply goodRes_jump | apply goodRes_stay | apply goodRes_wait | apply goodRes_ended
      | apply goodRes_isolated | split | dsimp only)

theorem good_execJmp {a0 a1 s} (hs : Good q s) : GoodOut q (execJmp a0 a1 s) := by
  unfold execJmp
  repeat' (with_reducible first
      | assumption | intro _ | apply goodOut_next | apply good_issueAs | exact goodRes_fault | apply goodRes_done
      | apply goodRes_jump | apply goodRes_stay | apply goodRes_wait | apply goodRes_ended | apply goodRes_isolated
      | split | dsimp only)

theorem good_execLoop {a0 a1 s} (hs : Good q s) : GoodOut q (execLoop a0 a1 s) := by
  unfold execLoop
  repeat' (with_reducible first
      | assumption | intro _ | apply goodOut_next | apply good_issueAs | apply good_setHand | exact goodRes_fault
      | apply goodRes_done | apply goodRes_jump | apply goodRes_stay | apply goodRes_wait | apply goodRes_ended
      | apply goodRes_isolated | split | dsimp only)

theorem good_execBcc {a0 a1 s} (hs : Good q s) : GoodOut q (execBcc a0 a1 s) := by
  unfold execBcc
  repeat' (with_reducible first
      | assumption | intro _ | apply goodOut_next | apply good_issueAs | exact goodRes_fault | apply goodRes_done
      | apply goodRes_jump | apply goodRes_stay | apply goodRes_wait | apply goodRes_ended | apply goodRes_isolated
      | split | dsimp only)

theorem good_execBpr {a0 a1 s} (hs : Good q s) : GoodOut q (execBpr a0 a1 s) := by
  unfold execBpr
  repeat' (with_reducible first
      | assumption | intro _ | apply goodOut_next | apply good_issueAs | refine good_bump ?_ (by unfold odKey; omega)
      | exact goodRes_fault | apply goodRes_done | apply goodRes_jump | apply goodRes_stay | apply goodRes_wait
      | apply goodRes_ended | apply goodRes_isolated | split | dsimp only)

theorem good_execLi {a0 a1 s} (hs : Good q s) : GoodOut q (execLi a0 a1 s) := by
  unfold execLi
  repeat' (with_reducible first
      | assumption | intro _ | apply goodOut_next | apply good_issueAs | apply good_setHand | exact goodRes_fault
      | apply goodRes_done | apply goodRes_jump | apply goodRes_stay | apply goodRes_wait | apply goodRes_ended
      | apply goodRes_isolated | split | dsimp only)

theorem good_execAddi {a0 a1 s} (hs : Good q s) : GoodOut q (execAddi a0 a1 s) := by
  unfold execAddi
  repeat' (with_reducible first
      | assumption | intro _ | apply goodOut_next | apply good_issueAs | apply good_setHand | exact goodRes_fault
      | apply goodRes_done | apply goodRes_jump | apply goodRes_stay | apply goodRes_wait | apply goodRes_ended
      | apply goodRes_isolated | split | dsimp only)

theorem good_execAlu {a0 a1 s} (hs : Good q s) : GoodOut q (execAlu a0 a1 s) := by
  unfold execAlu
  repeat' (with_reducible first
      | assumption | intro _ | apply goodOut_next | apply good_issueAs | apply good_setHand | exact goodRes_fault
      | apply goodRes_done | apply goodRes_jump | apply goodRes_stay | apply goodRes_wait | apply goodRes_ended
      | apply goodRes_isolated | split | dsimp only)

theorem good_execLds {a0 a1 s} (hs : Good q s) : GoodOut q (execLds a0 a1 s) := by
  unfold execLds
  repeat' (with_reducible first
      | assumption | intro _ | apply goodOut_next | apply good_issueAs | apply good_setHand | exact goodRes_fault
      | apply goodRes_done | apply goodRes_jump | apply goodRes_stay | apply goodRes_wait | apply goodRes_ended
      | apply goodRes_isolated | split | dsimp only)

theorem good_execSts {a0 a1 s} (hs : Good q s) : GoodOut q (execSts a0 a1 s) := by
  unfold execSts
  repeat' (with_reducible first
      | assumption | intro _ | apply goodOut_next | apply good_issueAs | apply good_wrData | exact goodRes_fault
      | apply goodRes_done | apply goodRes_jump | apply goodRes_stay | apply goodRes_wait | apply goodRes_ended
      | apply goodRes_isolated | split | dsimp only)

theorem good_execSetv {a0 a1 s} (hs : Good q s) : GoodOut q (execSetv a0 a1 s) := by
  unfold execSetv
  repeat' (with_reducible first
      | assumption | intro _ | apply goodOut_next | apply good_issueAs | apply good_setHand | exact goodRes_fault
      | apply goodRes_done | apply goodRes_jump | apply goodRes_stay | apply goodRes_wait | apply goodRes_ended
      | apply goodRes_isolated | split | dsimp only)

theorem good_execSeteb {a0 a1 s} (hs : Good q s) : GoodOut q (execSeteb a0 a1 s) := by
  unfold execSeteb
  repeat' (with_reducible first
      | assumption | intro _ | apply goodOut_next | apply good_issueAs | apply good_setHand | exact goodRes_fault
      | apply goodRes_done | apply goodRes_jump | apply goodRes_stay | apply goodRes_wait | apply goodRes_ended
      | apply goodRes_isolated | split | dsimp only)

theorem good_execSetstg {a0 a1 s} (hs : Good q s) : GoodOut q (execSetstg a0 a1 s) := by
  unfold execSetstg
  repeat' (with_reducible first
      | assumption | intro _ | apply goodOut_next | apply good_issueAs | apply good_setHand | exact goodRes_fault
      | apply goodRes_done | apply goodRes_jump | apply goodRes_stay | apply goodRes_wait | apply goodRes_ended
      | apply goodRes_isolated | split | dsimp only)

theorem good_execYieldOp {a0 a1 s} (hs : Good q s) : GoodOut q (execYieldOp a0 a1 s) := by
  unfold execYieldOp
  repeat' (with_reducible first
      | assumption | intro _ | apply goodOut_next | apply good_issueAs | apply good_switchHand | exact goodRes_fault
      | apply goodRes_done | apply goodRes_jump | apply goodRes_stay | apply goodRes_wait | apply goodRes_ended
      | apply goodRes_isolated | split | dsimp only)

theorem good_execMarkOp {a0 a1 s} (hs : Good q s) : GoodOut q (execMarkOp a0 a1 s) := by
  unfold execMarkOp
  repeat' (with_reducible first
      | assumption | intro _ | apply goodOut_next | apply good_issueAs | apply good_setHand | exact goodRes_fault
      | apply goodRes_done | apply goodRes_jump | apply goodRes_stay | apply goodRes_wait | apply goodRes_ended
      | apply goodRes_isolated | split | dsimp only)

theorem good_execWaitq {a0 a1 s} (hs : Good q s) : GoodOut q (execWaitq a0 a1 s) := by
  unfold execWaitq
  repeat' (with_reducible first
      | assumption | intro _ | apply goodOut_next | apply good_issueAs | exact goodRes_fault | apply goodRes_done
      | apply goodRes_jump | apply goodRes_stay | apply goodRes_wait | apply goodRes_ended | apply goodRes_isolated
      | split | dsimp only)

theorem good_execDmv {a0 a1 s} (hs : Good q s) : GoodOut q (execDmv a0 a1 s) := by
  unfold execDmv
  repeat' (with_reducible first
      | assumption | apply goodOut_next | apply good_dmIssue | fail_if_no_progress apply good_mk | split | dsimp only)

theorem good_execDpf {a0 a1 s} (hs : Good q s) : GoodOut q (execDpf a0 a1 s) := by
  unfold execDpf
  repeat' (with_reducible first
      | assumption | apply goodOut_next | apply good_dmIssue | fail_if_no_progress apply good_mk | split | dsimp only)

theorem good_setTags {s a1 a2 a3 a4} (hs : Good q s) : Good q (setTags s a1 a2 a3 a4) := by
  unfold setTags
  repeat' (with_reducible first
      | assumption | intro _ | apply good_pinMod | apply good_foldl | apply good_foldl_fst | apply good_foldl_snd
      | fail_if_no_progress apply good_mk | split | dsimp only)

theorem good_moveRows {p : Nat} {x : XferDesc} {n : Nat} {s : State} {a b : Nat} (hs : Good q s) :
    Good q (moveRows p x n s a b).1 := by
  induction n generalizing s a b with
  | zero => exact hs
  | succ n ih =>
    rw [moveRows]
    dsimp only
    split
    · exact good_isolate (good_bump hs (by decide))
    · refine ih ?_
      split
      · exact good_setTags (good_writeBytes hs)
      · exact good_writeBytes hs

theorem good_execDataMoveDescriptor {a0 a1 s} (hs : Good q s) : GoodOut q (execDataMoveDescriptor a0 a1 s) := by
  unfold execDataMoveDescriptor
  repeat' (with_reducible first
      | assumption | apply goodOut_next | apply good_xferFault | apply good_moveRows | apply good_headDone
      | apply good_eccFault | apply good_jobDone | apply good_pinMod | apply good_barrelLines
      | fail_if_no_progress apply good_mk | split | dsimp only)

theorem good_interlockWait {s a1 a2} (hs : Good q s) : GoodRes q (interlockWait s a1 a2) := by
  unfold interlockWait
  repeat' (with_reducible first
      | assumption | refine good_pinCountBy ?_ (by unfold odKey; omega) | exact goodRes_fault | apply goodRes_done
      | apply goodRes_jump | apply goodRes_stay | apply goodRes_wait | apply goodRes_ended | apply goodRes_isolated
      | split | dsimp only)

theorem good_execMtx {a0 a1 s} (hs : Good q s) : GoodOut q (execMtx a0 a1 s) := by
  unfold execMtx
  repeat' (with_reducible first
      | assumption | intro _ | apply goodOut_next | apply good_issueAs | apply good_interlockWait | apply good_setPin
      | refine good_pinCountBy ?_ (by unfold odKey; omega) | apply good_advance | exact goodRes_fault | apply goodRes_done
      | apply goodRes_jump | apply goodRes_stay | apply goodRes_wait | apply goodRes_ended | apply goodRes_isolated
      | split | dsimp only)

theorem good_execMtxb {a0 a1 s} (hs : Good q s) : GoodOut q (execMtxb a0 a1 s) := by
  unfold execMtxb
  repeat' (with_reducible first
      | assumption | intro _ | apply goodOut_next | apply good_issueAs | apply good_interlockWait | apply good_setPin
      | apply good_advance | refine good_pinCountBy ?_ (by unfold odKey; omega) | exact goodRes_fault | apply goodRes_done
      | apply goodRes_jump | apply goodRes_stay | apply goodRes_wait | apply goodRes_ended | apply goodRes_isolated
      | split | dsimp only)

theorem good_execPassComplete {a0 a1 s} (hs : Good q s) : GoodOut q (execPassComplete a0 a1 s) := by
  unfold execPassComplete
  repeat' (with_reducible first
      | assumption | apply goodOut_next | apply good_tryStop | apply good_advance | apply good_setPin
      | fail_if_no_progress apply good_mk | split | dsimp only)

theorem good_execDrn {a0 a1 s} (hs : Good q s) : GoodOut q (execDrn a0 a1 s) := by
  unfold execDrn
  repeat' (with_reducible first
      | assumption | intro _ | apply goodOut_next | apply good_issueAs | apply good_interlockWait | apply good_setPin
      | exact goodRes_fault | apply goodRes_done | apply goodRes_jump | apply goodRes_stay | apply goodRes_wait
      | apply goodRes_ended | apply goodRes_isolated | split | dsimp only)

theorem good_serveDrain {s a1 a2 a3 a4 a5} (hs : Good q s) : Good q (serveDrain s a1 a2 a3 a4 a5) := by
  unfold serveDrain
  repeat' (with_reducible first
      | assumption | apply good_updWord | apply good_countDrain | apply good_applyWrites | apply good_setPin
      | refine good_pinCountBy ?_ (by unfold odKey; omega) | apply good_amaxUpdate | fail_if_no_progress apply good_mk
      | split | dsimp only)

theorem good_openBytes {a0 a1 s a3} (hs : Good q s) : Good q (openBytes a0 a1 s a3) := by
  revert hs
  fun_induction openBytes a0 a1 s a3 <;> intro hs <;> (repeat' (with_reducible first
      | assumption | apply_assumption | apply good_draw | apply good_wrData | fail_if_no_progress apply good_mk | split | dsimp only))

theorem good_openWords {a0 s a2} (hs : Good q s) : Good q (openWords a0 s a2).2 := by
  revert hs
  fun_induction openWords a0 s a2 <;> intro hs <;> (repeat' (with_reducible first
      | assumption | apply_assumption | apply good_draw | fail_if_no_progress apply good_mk | split | dsimp only))

theorem good_openDrain {s a1 a2 a3 a4 a5 a6} (hs : Good q s) : Good q (openDrain s a1 a2 a3 a4 a5 a6) := by
  unfold openDrain
  repeat' (with_reducible first
      | assumption | intro _ | apply good_openBytes | apply good_draw | apply good_openWords | apply good_setPin
      | apply good_countDrain | refine good_pinCountBy ?_ (by unfold odKey; omega) | apply good_foldl
      | apply good_foldl_fst | apply good_foldl_snd | fail_if_no_progress apply good_mk | split | dsimp only)

theorem good_execEpilogueService {a0 s} (hs : Good q s) : GoodOut q (execEpilogueService a0 s) := by
  unfold execEpilogueService
  repeat' (with_reducible first
      | assumption | apply goodOut_next | apply good_setPin | apply good_serveDrain | apply good_openDrain
      | apply good_tryStop | apply good_postOpt | apply good_pinMod | apply good_headDone
      | fail_if_no_progress apply good_mk | split | dsimp only)

theorem good_execBst {a0 a1 s} (hs : Good q s) : GoodOut q (execBst a0 a1 s) := by
  unfold execBst
  repeat' (with_reducible first
      | assumption | apply goodOut_next | apply good_barrelIssue | fail_if_no_progress apply good_mk | split | dsimp only)

theorem good_execBld {a0 a1 s} (hs : Good q s) : GoodOut q (execBld a0 a1 s) := by
  unfold execBld
  repeat' (with_reducible first
      | assumption | apply goodOut_next | apply good_barrelIssue | fail_if_no_progress apply good_mk | split | dsimp only)

theorem good_execOpenOp {a0 a1 s} (hs : Good q s) : GoodOut q (execOpenOp a0 a1 s) := by
  unfold execOpenOp
  repeat' (with_reducible first
      | assumption | intro _ | apply goodOut_next | apply good_issueAs | apply good_bdirArrives | exact goodRes_fault
      | apply goodRes_done | apply goodRes_jump | apply goodRes_stay | apply goodRes_wait | apply goodRes_ended
      | apply goodRes_isolated | split | dsimp only)

theorem good_execCommitOp {a0 a1 s} (hs : Good q s) : GoodOut q (execCommitOp a0 a1 s) := by
  unfold execCommitOp
  repeat' (with_reducible first
      | assumption | intro _ | apply goodOut_next | apply good_issueAs | apply good_bdirArrives | exact goodRes_fault
      | apply goodRes_done | apply goodRes_jump | apply goodRes_stay | apply goodRes_wait | apply goodRes_ended
      | apply goodRes_isolated | split | dsimp only)

theorem good_execFreeOp {a0 a1 s} (hs : Good q s) : GoodOut q (execFreeOp a0 a1 s) := by
  unfold execFreeOp
  repeat' (with_reducible first
      | assumption | intro _ | apply goodOut_next | apply good_issueAs | apply good_bdirArrives | exact goodRes_fault
      | apply goodRes_done | apply goodRes_jump | apply goodRes_stay | apply goodRes_wait | apply goodRes_ended
      | apply goodRes_isolated | split | dsimp only)

theorem good_vDone {s a1 a2 a3 a4} (hs : Good q s) : GoodRes q (vDone s a1 a2 a3 a4) := by
  unfold vDone
  repeat' (with_reducible first
      | assumption | apply good_setHand | exact goodRes_fault | apply goodRes_done | split | dsimp only)

theorem good_execVld {a0 a1 s} (hs : Good q s) : GoodOut q (execVld a0 a1 s) := by
  unfold execVld
  repeat' (with_reducible first
      | assumption | intro _ | apply goodOut_next | apply good_issueAs | apply good_vDone | exact goodRes_fault
      | apply goodRes_done | split | dsimp only)

theorem good_execVst {a0 a1 s} (hs : Good q s) : GoodOut q (execVst a0 a1 s) := by
  unfold execVst
  repeat' (with_reducible first
      | assumption | intro _ | apply goodOut_next | apply good_issueAs | apply good_wrData | exact goodRes_fault
      | apply goodRes_done | split | dsimp only)

theorem good_vecIssue {s a1 a2 a3 a4 f5} (hs : Good q s) (hf5 : ∀ y0 y1 y2 y3, Good q y0 → GoodRes q (f5 y0 y1 y2 y3)) : Good q (vecIssue s a1 a2 a3 a4 f5) := by
  unfold vecIssue
  repeat' (with_reducible first
      | assumption | intro _ | apply good_issueAs | exact goodRes_fault | apply goodRes_done | apply hf5 | split
      | dsimp only)

theorem good_execVlds {a0 a1 s} (hs : Good q s) : GoodOut q (execVlds a0 a1 s) := by
  unfold execVlds
  repeat' (with_reducible first
      | assumption | intro _ | apply goodOut_next | apply good_vecIssue | apply good_vDone | exact goodRes_fault
      | apply goodRes_done | split | dsimp only)

theorem good_execVstm {a0 a1 s} (hs : Good q s) : GoodOut q (execVstm a0 a1 s) := by
  unfold execVstm
  repeat' (with_reducible first
      | assumption | intro _ | apply goodOut_next | apply good_vecIssue | apply good_wrData | exact goodRes_fault
      | apply goodRes_done | apply good_foldl | split | dsimp only)

theorem good_vMap {s a1 a2 a3 a4} (hs : Good q s) : Good q (vMap s a1 a2 a3 a4) := by
  unfold vMap
  repeat' (with_reducible first
      | assumption | intro _ | apply good_vecIssue | apply good_vDone | exact goodRes_fault | apply goodRes_done | split
      | dsimp only)

theorem good_execVadd {a0 a1 s} (hs : Good q s) : GoodOut q (execVadd a0 a1 s) := by
  unfold execVadd
  repeat' (with_reducible first
      | assumption | apply goodOut_next | apply good_vMap | exact goodRes_fault | apply goodRes_done | split | dsimp only)

theorem good_execVmul {a0 a1 s} (hs : Good q s) : GoodOut q (execVmul a0 a1 s) := by
  unfold execVmul
  repeat' (with_reducible first
      | assumption | apply goodOut_next | apply good_vMap | exact goodRes_fault | apply goodRes_done | split | dsimp only)

theorem good_execVfma {a0 a1 s} (hs : Good q s) : GoodOut q (execVfma a0 a1 s) := by
  unfold execVfma
  repeat' (with_reducible first
      | assumption | apply goodOut_next | apply good_vMap | exact goodRes_fault | apply goodRes_done | split | dsimp only)

theorem good_execVfnma {a0 a1 s} (hs : Good q s) : GoodOut q (execVfnma a0 a1 s) := by
  unfold execVfnma
  repeat' (with_reducible first
      | assumption | apply goodOut_next | apply good_vMap | exact goodRes_fault | apply goodRes_done | split | dsimp only)

theorem good_execVmin {a0 a1 s} (hs : Good q s) : GoodOut q (execVmin a0 a1 s) := by
  unfold execVmin
  repeat' (with_reducible first
      | assumption | apply goodOut_next | apply good_vMap | exact goodRes_fault | apply goodRes_done | split | dsimp only)

theorem good_execVmax {a0 a1 s} (hs : Good q s) : GoodOut q (execVmax a0 a1 s) := by
  unfold execVmax
  repeat' (with_reducible first
      | assumption | apply goodOut_next | apply good_vMap | exact goodRes_fault | apply goodRes_done | split | dsimp only)

theorem good_execVcmp {a0 a1 s} (hs : Good q s) : GoodOut q (execVcmp a0 a1 s) := by
  unfold execVcmp
  repeat' (with_reducible first
      | assumption | intro _ | apply goodOut_next | apply good_vecIssue | apply good_vDone | exact goodRes_fault
      | apply goodRes_done | split | dsimp only)

theorem good_execVsel {a0 a1 s} (hs : Good q s) : GoodOut q (execVsel a0 a1 s) := by
  unfold execVsel
  repeat' (with_reducible first
      | assumption | intro _ | apply goodOut_next | apply good_vecIssue | apply good_vDone | exact goodRes_fault
      | apply goodRes_done | split | dsimp only)

theorem good_execVcvt {a0 a1 s} (hs : Good q s) : GoodOut q (execVcvt a0 a1 s) := by
  unfold execVcvt
  repeat' (with_reducible first
      | assumption | intro _ | apply goodOut_next | apply good_vecIssue | apply good_vDone | exact goodRes_fault
      | apply goodRes_done | split | dsimp only)

theorem good_execVcvn {a0 a1 s} (hs : Good q s) : GoodOut q (execVcvn a0 a1 s) := by
  unfold execVcvn
  repeat' (with_reducible first
      | assumption | intro _ | apply goodOut_next | apply good_vecIssue
      | refine good_pinCountBy ?_ (by unfold odKey; omega) | apply good_draw | apply good_setHand | exact goodRes_fault
      | apply goodRes_done | split | dsimp only)

theorem good_vDoneLow {s a1 a2 a3 a4 a5} (hs : Good q s) : GoodRes q (vDoneLow s a1 a2 a3 a4 a5) := by
  unfold vDoneLow
  repeat' (with_reducible first
      | assumption | apply good_draw | apply good_vDone | exact goodRes_fault | apply goodRes_done | split | dsimp only)

theorem good_execVcvf {a0 a1 s} (hs : Good q s) : GoodOut q (execVcvf a0 a1 s) := by
  unfold execVcvf
  repeat' (with_reducible first
      | assumption | intro _ | apply goodOut_next | apply good_issueAs | apply good_vDone | apply good_vDoneLow
      | exact goodRes_fault | apply goodRes_done | split | dsimp only)

theorem good_execVscl {a0 a1 s} (hs : Good q s) : GoodOut q (execVscl a0 a1 s) := by
  unfold execVscl
  repeat' (with_reducible first
      | assumption | intro _ | apply goodOut_next | apply good_vecIssue | apply good_vDone | exact goodRes_fault
      | apply goodRes_done | split | dsimp only)

theorem good_vReduce {s a1 a2 a3 a4} (hs : Good q s) : Good q (vReduce s a1 a2 a3 a4) := by
  unfold vReduce
  repeat' (with_reducible first
      | assumption | intro _ | apply good_vecIssue | apply good_vDoneLow | exact goodRes_fault | apply goodRes_done
      | split | dsimp only)

theorem good_execVrsum {a0 a1 s} (hs : Good q s) : GoodOut q (execVrsum a0 a1 s) := by
  unfold execVrsum
  repeat' (with_reducible first
      | assumption | apply goodOut_next | apply good_vReduce | fail_if_no_progress apply good_mk | split | dsimp only)

theorem good_execVrssq {a0 a1 s} (hs : Good q s) : GoodOut q (execVrssq a0 a1 s) := by
  unfold execVrssq
  repeat' (with_reducible first
      | assumption | apply goodOut_next | apply good_vReduce | fail_if_no_progress apply good_mk | split | dsimp only)

theorem good_execVramx {a0 a1 s} (hs : Good q s) : GoodOut q (execVramx a0 a1 s) := by
  unfold execVramx
  repeat' (with_reducible first
      | assumption | intro _ | apply goodOut_next | apply good_vReduce | apply good_foldl | apply good_foldl_fst
      | apply good_foldl_snd | fail_if_no_progress apply good_mk | split | dsimp only)

theorem good_execVfin {a0 a1 s} (hs : Good q s) : GoodOut q (execVfin a0 a1 s) := by
  unfold execVfin
  repeat' (with_reducible first
      | assumption | intro _ | apply goodOut_next | apply good_vecIssue | apply good_vDone | exact goodRes_fault
      | apply goodRes_done | split | dsimp only)

theorem good_execVsex {a0 a1 s} (hs : Good q s) : GoodOut q (execVsex a0 a1 s) := by
  unfold execVsex
  repeat' (with_reducible first
      | assumption | intro _ | apply goodOut_next | apply good_issueAs | apply good_vDoneLow | exact goodRes_fault
      | apply goodRes_done | split | dsimp only)

theorem good_execVspl {a0 a1 s} (hs : Good q s) : GoodOut q (execVspl a0 a1 s) := by
  unfold execVspl
  repeat' (with_reducible first
      | assumption | intro _ | apply goodOut_next | apply good_issueAs | apply good_vDoneLow | exact goodRes_fault
      | apply goodRes_done | split | dsimp only)

theorem good_execVrec {a0 a1 s} (hs : Good q s) : GoodOut q (execVrec a0 a1 s) := by
  unfold execVrec
  repeat' (with_reducible first
      | assumption | intro _ | apply goodOut_next | apply good_issueAs | apply good_vDone | exact goodRes_fault
      | apply goodRes_done | split | dsimp only)

theorem good_execVact {a0 a1 s} (hs : Good q s) : GoodOut q (execVact a0 a1 s) := by
  unfold execVact
  repeat' (with_reducible first
      | assumption | intro _ | apply goodOut_next | apply good_issueAs | apply good_vDone | exact goodRes_fault
      | apply goodRes_done | split | dsimp only)

theorem good_vInt {s a1 a2 a3 a4} (hs : Good q s) : Good q (vInt s a1 a2 a3 a4) := by
  unfold vInt
  repeat' (with_reducible first
      | assumption | intro _ | apply good_issueAs | apply good_vDone | exact goodRes_fault | apply goodRes_done | split
      | dsimp only)

theorem good_execViadd {a0 a1 s} (hs : Good q s) : GoodOut q (execViadd a0 a1 s) := by
  unfold execViadd
  repeat' (with_reducible first
      | assumption | apply goodOut_next | apply good_vInt | fail_if_no_progress apply good_mk | split | dsimp only)

theorem good_execVimul {a0 a1 s} (hs : Good q s) : GoodOut q (execVimul a0 a1 s) := by
  unfold execVimul
  repeat' (with_reducible first
      | assumption | apply goodOut_next | apply good_vInt | fail_if_no_progress apply good_mk | split | dsimp only)

theorem good_execVlogic {a0 a1 s} (hs : Good q s) : GoodOut q (execVlogic a0 a1 s) := by
  unfold execVlogic
  repeat' (with_reducible first
      | assumption | intro _ | apply goodOut_next | apply good_issueAs | apply good_vDone | exact goodRes_fault
      | apply goodRes_done | split | dsimp only)

theorem good_execVshf {a0 a1 s} (hs : Good q s) : GoodOut q (execVshf a0 a1 s) := by
  unfold execVshf
  repeat' (with_reducible first
      | assumption | intro _ | apply goodOut_next | apply good_issueAs | apply good_vDone | exact goodRes_fault
      | apply goodRes_done | split | dsimp only)

theorem good_execLastKStepEntered {a0 a1 s} (hs : Good q s) : GoodOut q (execLastKStepEntered a0 a1 s) := by
  unfold execLastKStepEntered
  repeat' (with_reducible first
      | assumption | apply goodOut_next | apply good_advance | apply good_setPin | fail_if_no_progress apply good_mk
      | split | dsimp only)

end Sys2Proof.Machine
end

