-- ==== Sys2Proof/Laws/Issue.lean ====
section
/-! SUPPORT. The issue of an instruction: what the shared operation answers for each thing an instruction may lead to. -/

namespace Sys2Proof.Machine

@[simp] theorem hand_issuing (s : State) (p h k : Nat) : (issuing s p h).hand p k = s.hand p k := state_hand_pinMod_cur s p k h

theorem pin_issuing (s : State) (p h : Nat) : (issuing s p h).pin p = { s.pin p with cur := h } := pin_pinMod_same s p _

theorem issueAs_issues {s : State} {p h row : Nat} {w : W64} (hi : Issues s p h row w) (body : State → Hand → W64 → IssueRes) :
    s.issueAs p h row body = (issuing s p h).issueEnd p h (s.hand p h).pc (fld w 56 8) (body (issuing s p h) (s.hand p h) w) := by
  obtain ⟨hc, hw, hr, ho⟩ := hi
  unfold State.issueAs
  simp only [hc, if_true, hw, hr, ho]
  show (issuing s p h).issueEnd p h _ _ (body (issuing s p h) ((issuing s p h).hand p h) w) = _
  rw [hand_issuing]

theorem issueAs_illegal {s : State} {p h row : Nat} (body : State → Hand → W64 → IssueRes) (hc : s.canIssue p h = true)
    (hw : wordRow (s.fetchWord p (s.hand p h).pc) = none ∨
      (wordRow (s.fetchWord p (s.hand p h).pc) = some row ∧ wordOk (s.fetchWord p (s.hand p h).pc) = false)) :
    s.issueAs p h row body = (issuing s p h).takeFault p h (s.hand p h).pc (fld (s.fetchWord p (s.hand p h).pc) 56 8) fIllegal := by
  unfold State.issueAs
  rw [if_pos hc]
  dsimp only
  rcases hw with hw | ⟨hw, ho⟩
  · rw [hw]; rfl
  · rw [hw, ho]; simp [State.issueEnd]; rfl

/-- Changing only a hand of the pinion that issues. -/
theorem handStep_setHand {s t : State} {p h : Nat} {d : Hand} (h1 : { t with pinions := s.pinions } = s)
    (h2 : ∀ r, r ≠ p → t.pin r = s.pin r) (h3 : ∃ e, t.pin p = ({ s.pin p with cur := h } : Pinion).setHand h e) :
    HandStep s (t.setHand p h d) p h d := by
  refine ⟨h1, fun r hr => (pin_setHand_ne t h d hr).trans (h2 r hr), ?_⟩
  obtain ⟨e, he⟩ := h3
  rw [pin_setHand_same, he, setHand_setHand]

theorem hand_eq_self (x : Pinion) (h : Nat) : x.setHand h (x.hand h) = x := by
  unfold Pinion.setHand Pinion.hand
  split <;> rfl

theorem handStep_issuing (s : State) (p h : Nat) (d : Hand) : HandStep s ((issuing s p h).setHand p h d) p h d := by
  refine handStep_setHand rfl (fun r hr => pin_pinMod_ne s _ hr) ⟨({ s.pin p with cur := h } : Pinion).hand h, ?_⟩
  rw [pin_issuing, hand_eq_self]

theorem handStep_twice (s : State) (p h : Nat) (e d : Hand) :
    HandStep s (((issuing s p h).setHand p h e).setHand p h d) p h d := by
  refine handStep_setHand rfl (fun r hr => (pin_setHand_ne _ h e hr).trans (pin_pinMod_ne s _ hr)) ⟨e, ?_⟩
  rw [pin_setHand_same, pin_issuing]

theorem resumeAt_lt (t : State) (p h pc : Nat) (hp : pc < 2048) :
    t.resumeAt p h pc = t.setHand p h { t.hand p h with pc := pc, st := .ready } := by
  unfold State.resumeAt
  rw [if_pos hp]

theorem resumeAt_if (t : State) (p h pc : Nat) :
    t.resumeAt p h (pc + 1) = if pc < 2047 then t.setHand p h { t.hand p h with pc := pc + 1, st := .ready }
      else (t.setHand p h { t.hand p h with pc := pc + 1, st := .ready }).takeFault p h 2047 0 fPcRange := by
  unfold State.resumeAt
  exact if_congr (by omega) rfl rfl

/-- An instruction that completes and changes at most registers and settings of its hand. -/
theorem runsOn_setHand {c : Instr} {s : State} {p h row : Nat} {w : W64} {d : Hand} {body : State → Hand → W64 → IssueRes}
    (hi : Issues s p h row w) (he : exec c s = .next (s.issueAs p h row body))
    (hb : body (issuing s p h) (s.hand p h) w = .done ((issuing s p h).setHand p h d)) : RunsOn c s s p h d := by
  refine ⟨_, handStep_twice s p h d _, ?_⟩
  rw [he, issueAs_issues hi, hb]
  simp only [State.issueEnd, resumeAt_if, state_hand_setHand]

/-- An instruction that completes and leaves its hand's registers. -/
theorem runsOn_self {c : Instr} {s : State} {p h row : Nat} {w : W64} {body : State → Hand → W64 → IssueRes}
    (hi : Issues s p h row w) (he : exec c s = .next (s.issueAs p h row body))
    (hb : body (issuing s p h) (s.hand p h) w = .done (issuing s p h)) : RunsOn c s s p h (s.hand p h) := by
  refine ⟨_, handStep_issuing s p h _, ?_⟩
  rw [he, issueAs_issues hi, hb]
  simp only [State.issueEnd, resumeAt_if, hand_issuing]

/-- A taken branch. -/
theorem branchesTo_setHand {c : Instr} {s : State} {p h row x : Nat} {w : W64} {d : Hand} {body : State → Hand → W64 → IssueRes}
    (hi : Issues s p h row w) (he : exec c s = .next (s.issueAs p h row body))
    (hb : body (issuing s p h) (s.hand p h) w = .jump ((issuing s p h).setHand p h d) x) : BranchesTo c s s p h x d := by
  refine ⟨_, he, ?_⟩
  rw [issueAs_issues hi, hb]
  simp only [State.issueEnd]
  rw [state_hand_setHand]
  exact handStep_twice s p h d _

theorem branchesTo_self {c : Instr} {s : State} {p h row x : Nat} {w : W64} {body : State → Hand → W64 → IssueRes}
    (hi : Issues s p h row w) (he : exec c s = .next (s.issueAs p h row body))
    (hb : body (issuing s p h) (s.hand p h) w = .jump (issuing s p h) x) : BranchesTo c s s p h x (s.hand p h) := by
  refine ⟨_, he, ?_⟩
  rw [issueAs_issues hi, hb]
  simp only [State.issueEnd]
  rw [hand_issuing]
  exact handStep_issuing s p h _

end Sys2Proof.Machine
end

