-- ==== Sys2Proof/WellFormed.lean ====
section
/-! DEFINITION. The operands that name something the module has: the ranges of a command's operands. A command outside them is
absorbed by its meaning (log 3). -/

namespace Sys2Proof

/-- A frame's source: an IPv6 address, the UDP ports of its ends and a datagram of the field network (R272). -/
def FrameSrc.wf : FrameSrc → Bool
  | .mailbox => true
  | .field address port target bytes =>
    decide (address < 2 ^ 128) && decide (port < 65536) && decide (target < 65536) && decide (bytes.length ≤ 1472)

/-- Are a command's operands in their ranges: logical pinions below 6,144, hands, arrays and Fusees 0 and 1, update units below 16,
collective queues 1 to 5, near-link ports below 16, far ports below 2, sites below 64 (Tables 1.1, 1.14, 1.15)? -/
def Instr.wf : Instr → Bool
  | .streamDescriptor port _ => decide (port < 16777216)
  | .pendingStreamStart p h => decide (p < 6144) && decide (h < 2)
  | .handSwitch p => decide (p < 6144)
  | .nop p h => decide (p < 6144) && decide (h < 2)
  | .endOp p h => decide (p < 6144) && decide (h < 2)
  | .jmp p h => decide (p < 6144) && decide (h < 2)
  | .loop p h => decide (p < 6144) && decide (h < 2)
  | .bcc p h => decide (p < 6144) && decide (h < 2)
  | .bpr p h => decide (p < 6144) && decide (h < 2)
  | .li p h => decide (p < 6144) && decide (h < 2)
  | .addi p h => decide (p < 6144) && decide (h < 2)
  | .alu p h => decide (p < 6144) && decide (h < 2)
  | .lds p h => decide (p < 6144) && decide (h < 2)
  | .sts p h => decide (p < 6144) && decide (h < 2)
  | .setv p h => decide (p < 6144) && decide (h < 2)
  | .seteb p h => decide (p < 6144) && decide (h < 2)
  | .setstg p h => decide (p < 6144) && decide (h < 2)
  | .yieldOp p h => decide (p < 6144) && decide (h < 2)
  | .markOp p h => decide (p < 6144) && decide (h < 2)
  | .waitq p h => decide (p < 6144) && decide (h < 2)
  | .sadd p h => decide (p < 6144) && decide (h < 2)
  | .sset p h => decide (p < 6144) && decide (h < 2)
  | .stgt p h => decide (p < 6144) && decide (h < 2)
  | .swge p h => decide (p < 6144) && decide (h < 2)
  | .sweq p h => decide (p < 6144) && decide (h < 2)
  | .sarv p h => decide (p < 6144) && decide (h < 2)
  | .sbr p h => decide (p < 6144) && decide (h < 2)
  | .syncApply sid _ => decide (sid < 262144)
  | .waitRelease p h => decide (p < 6144) && decide (h.unit < 2)
  | .dmv p h => decide (p < 6144) && decide (h < 2)
  | .dpf p h => decide (p < 6144) && decide (h < 2)
  | .dataMoveDescriptor p q => decide (p < 6144) && decide (q.queue < 2)
  | .mtx p h => decide (p < 6144) && decide (h < 2)
  | .mtxb p h => decide (p < 6144) && decide (h < 2)
  | .passComplete p arr => decide (p < 6144) && decide (arr.unit < 2)
  | .drn p h => decide (p < 6144) && decide (h < 2)
  | .epilogueService p => decide (p < 6144)
  | .bst p h => decide (p < 6144) && decide (h < 2)
  | .bld p h => decide (p < 6144) && decide (h < 2)
  | .openOp p h => decide (p < 6144) && decide (h.unit < 2)
  | .commitOp p h => decide (p < 6144) && decide (h.unit < 2)
  | .freeOp p h => decide (p < 6144) && decide (h.unit < 2)
  | .vld p h => decide (p < 6144) && decide (h < 2)
  | .vst p h => decide (p < 6144) && decide (h < 2)
  | .vlds p h => decide (p < 6144) && decide (h < 2)
  | .vstm p h => decide (p < 6144) && decide (h < 2)
  | .vadd p h => decide (p < 6144) && decide (h < 2)
  | .vmul p h => decide (p < 6144) && decide (h < 2)
  | .vfma p h => decide (p < 6144) && decide (h < 2)
  | .vfnma p h => decide (p < 6144) && decide (h < 2)
  | .vmin p h => decide (p < 6144) && decide (h < 2)
  | .vmax p h => decide (p < 6144) && decide (h < 2)
  | .vcmp p h => decide (p < 6144) && decide (h < 2)
  | .vsel p h => decide (p < 6144) && decide (h < 2)
  | .vcvt p h => decide (p < 6144) && decide (h < 2)
  | .vcvn p h => decide (p < 6144) && decide (h < 2)
  | .vcvf p h => decide (p < 6144) && decide (h < 2)
  | .vscl p h => decide (p < 6144) && decide (h < 2)
  | .vrsum p h => decide (p < 6144) && decide (h < 2)
  | .vrssq p h => decide (p < 6144) && decide (h < 2)
  | .vramx p h => decide (p < 6144) && decide (h < 2)
  | .vfin p h => decide (p < 6144) && decide (h < 2)
  | .vsex p h => decide (p < 6144) && decide (h < 2)
  | .vspl p h => decide (p < 6144) && decide (h < 2)
  | .vrec p h => decide (p < 6144) && decide (h < 2)
  | .vact p h => decide (p < 6144) && decide (h < 2)
  | .viadd p h => decide (p < 6144) && decide (h < 2)
  | .vimul p h => decide (p < 6144) && decide (h < 2)
  | .vlogic p h => decide (p < 6144) && decide (h < 2)
  | .vshf p h => decide (p < 6144) && decide (h < 2)
  | .gapBeat => true
  | .sealBeat => true
  | .sendBeat => true
  | .closeBeat => true
  | .applyBeat => true
  | .checkpointMark => true
  | .reshardBegin => true
  | .holdBeat => true
  | .releaseBeat => true
  | .handStall p h _ => decide (p < 6144) && decide (h < 2)
  | .t1Silence t _ => decide (t < 768)
  | .t2Silence t _ => decide (t < 96)
  | .dieWatchdog d _ => decide (d < 2)
  | .moduleWatchdog => true
  | .transferSettle => true
  | .dumpComplete => true
  | .dumpLimit => true
  | .vdlTimeout _ => true
  | .crownHeartbeat => true
  | .crownReturn => true
  | .flit port fec bytes => decide (port < 16) && decide (fec < 4) && bytes.length == 256
  | .replayLimit port _ => decide (port < 16)
  | .portTrained port peerModule peerPort asym => decide (port < 16) && decide (peerModule < 65536) && decide (peerPort < 16) && decide (-2147483648 ≤ asym) && decide (asym < 2147483648)
  | .trainingTimeout port => decide (port < 16)
  | .syncInc src => decide (src < 256)
  | .cack src => decide (src < 256)
  | .scalarPacket src => decide (src < 256)
  | .timePacket src sub => decide (src < 256) && decide (sub < 100)
  | .siteStop src => decide (src < 256)
  | .regather src => decide (src < 256)
  | .putFault src => decide (src < 256)
  | .passReady src => decide (src < 256)
  | .permuteDone src => decide (src < 256)
  | .contrib src => decide (src < 256)
  | .partialChunk src => decide (src < 256)
  | .imageChunk src => decide (src < 256)
  | .putPacket src => decide (src < 256)
  | .dispatchPacket src => decide (src < 256)
  | .combinePacket src => decide (src < 256)
  | .permutePacket src => decide (src < 256)
  | .permutePass => true
  | .relay src => decide (src < 256)
  | .mgmt src => decide (src < 256)
  | .chunkRetry _ => true
  | .reduce q => decide (1 ≤ q) && decide (q < 6)
  | .gather q => decide (1 ≤ q) && decide (q < 6)
  | .scalarEntry q => decide (1 ≤ q) && decide (q < 6)
  | .put q => decide (1 ≤ q) && decide (q < 6)
  | .dispatch q => decide (1 ≤ q) && decide (q < 6)
  | .combine q => decide (1 ≤ q) && decide (q < 6)
  | .permute q => decide (1 ≤ q) && decide (q < 6)
  | .tiesum u => decide (u < 16)
  | .normEntry u => decide (u < 16)
  | .inner u => decide (u < 16)
  | .outer u => decide (u < 16)
  | .digest u => decide (u < 16)
  | .logApply u => decide (u < 16)
  | .coordExport u => decide (u < 16)
  | .coordImport u => decide (u < 16)
  | .efadd d => decide (d < 2)
  | .ortho d => decide (d < 2)
  | .resid d => decide (d < 2)
  | .pack d => decide (d < 2)
  | .check d => decide (d < 2)
  | .foldDigest d => decide (d < 2)
  | .scrub addr found => decide (addr < 4398046511104) && decide (found.symbols < 37)
  | .arp port bytes => decide (port < 3) && decide (bytes.length ≤ 9216)
  | .neighborDiscovery port bytes => decide (port < 3) && decide (bytes.length ≤ 9216)
  | .dataFrame port src bytes => decide (port < 2) && src.length == 16 && decide (bytes.length ≤ 9216)
  | .ackFrame port src bytes => decide (port < 2) && src.length == 16 && decide (bytes.length ≤ 9216)
  | .retireFrame port src bytes => decide (port < 2) && src.length == 16 && decide (bytes.length ≤ 9216)
  | .confirm port src bytes => decide (port < 2) && src.length == 16 && decide (bytes.length ≤ 9216)
  | .timeSync port sub src bytes => decide (port < 2) && decide (sub < 100) && src.length == 16 && decide (bytes.length ≤ 9216)
  | .timeFollow port src bytes => decide (port < 2) && src.length == 16 && decide (bytes.length ≤ 9216)
  | .timeDreq port sub src bytes => decide (port < 2) && decide (sub < 100) && src.length == 16 && decide (bytes.length ≤ 9216)
  | .timeDresp port src bytes => decide (port < 2) && src.length == 16 && decide (bytes.length ≤ 9216)
  | .timeExchange peer => decide (peer < 64)
  | .holdoverTimeout => true
  | .hsInit port src bytes => decide (port < 2) && src.length == 16 && decide (bytes.length ≤ 9216)
  | .hsResp port src bytes => decide (port < 2) && src.length == 16 && decide (bytes.length ≤ 9216)
  | .hsResend peer => decide (peer < 64)
  | .keyLifetime peer => decide (peer < 64)
  | .oldKeyRelease peer => decide (peer < 64)
  | .ackTimer peer => decide (peer < 64)
  | .rtoExpiry peer seq => decide (peer < 64) && decide (seq < 4294967296)
  | .peerDown peer => decide (peer < 64)
  | .portReturn peer => decide (peer < 64)
  | .relayGrant => true
  | .contribMessage site => decide (site < 64)
  | .manifest site => decide (site < 64)
  | .baseReq site => decide (site < 64)
  | .baseData site => decide (site < 64)
  | .rejectNotice site => decide (site < 64)
  | .fetchRetry req => decide (req < 4294967296)
  | .roundDeadline round => decide (round < 4294967296)
  | .viewTimer => true
  | .view site => decide (site < 64)
  | .claim site => decide (site < 64)
  | .endorse site => decide (site < 64)
  | .anchorTimeout => true
  | .claimTimeout => true
  | .stopDrain => true
  | .siteRestart failed spares => (failed.all (fun m => decide (m < 256))) && (spares.all (fun m => decide (m < 256)))
  | .ppsIn sub => decide (sub < 100)
  | .ppsOut => true
  | .ref10mLoss => true
  | .ref10mReturn => true
  | .powerSample _ _ _ => true
  | .sagWarning => true
  | .sagClear => true
  | .sagReset => true
  | .powerOn => true
  | .railWarning rail mv => decide (1 ≤ rail) && decide (rail < 5) && decide (mv < 65536)
  | .railReset rail mv => decide (1 ≤ rail) && decide (rail < 5) && decide (mv < 65536)
  | .thermalSample sensor _ => decide (sensor < 17)
  | .thermalTrip sensor => decide (sensor < 17)
  | .resetPin => true
  | .resetPinHeld => true
  | .resetPinRelease => true
  | .vdlLinkReset => true
  | .bootStepComplete => true
  | .bootStepTimeout => true
  | .recoveryImage => true
  | .bistComplete failures => failures.length == 8
  | .configRead off len => decide (off < 18446744073709551616) && decide (len < 4097)
  | .configWrite off bytes => decide (off < 18446744073709551616) && decide (bytes.length ≤ 4096)
  | .apertureRead off len => decide (off < 18446744073709551616) && decide (len < 4097)
  | .apertureWrite off bytes => decide (off < 18446744073709551616) && decide (bytes.length ≤ 4096)
  | .openSession src => src.wf
  | .prove src => src.wf
  | .copClose src => src.wf
  | .read src => src.wf
  | .write src => src.wf
  | .readMulti src => src.wf
  | .writeMulti src => src.wf
  | .blobBegin src => src.wf
  | .blobSeg src => src.wf
  | .blobEnd src => src.wf
  | .notifyAck src => src.wf
  | .notifyResend session nseq => decide (session < 4294967296) && decide (nseq < 4294967296)
  | .sessionIdle session => decide (session < 4294967296)
  | .pendingSessionExpiry session => decide (session < 4294967296)
  | .blobAbandon session => decide (session < 4294967296)
  | .arm src => src.wf
  | .run src => src.wf
  | .hold src => src.wf
  | .release src => src.wf
  | .quiesce src => src.wf
  | .warmReset src => src.wf
  | .forceFault src => src.wf
  | .takeover src => src.wf
  | .fence src => src.wf
  | .retire src => src.wf
  | .readmit src => src.wf
  | .ftSet src => src.wf
  | .beatTable src => src.wf
  | .beatEntry src => src.wf
  | .layout src => src.wf
  | .roster src => src.wf
  | .programManifest src => src.wf
  | .retireMap src => src.wf
  | .operatorKeys src => src.wf
  | .jobKey src => src.wf
  | .fwImage src => src.wf
  | .fwActivate src => src.wf
  | .rollbackCommit src => src.wf
  | .debugChallenge src => src.wf
  | .debugToken src => src.wf
  | .debugScope src => src.wf
  | .debugExpiry => true
  | .attestReport src => src.wf
  | .accImage src => src.wf
  | .hbmBistStart src => src.wf
  | .prbsMode src => src.wf
  | .bypass _ => true
  | .idcode => true
  | .samplePreload _ => true
  | .extest _ => true
  | .clamp => true
  | .highz => true
  | .internalTest _ => true
  | .lastKStepEntered p arr => decide (p < 6144) && decide (arr < 2)
  | .trainResetComplete level index => decide (1 ≤ level) && decide (level < 6) && decide (index < 768)
  | .readmitScrubDone t1 slot _ => decide (t1 < 768) && decide (slot < 9)
  | .farPortUp port => decide (port < 2)
  | .farPortDown port => decide (port < 2)
  | .frameSend turn => decide (turn.port < 2) && turn.peers.all (fun i => decide (i < 64))
  | .foreignFrame port bytes => decide (port < 2) && decide (bytes.length ≤ 9216)
  | .resetDomainLoss => true
  | .railWarningClear rail mv => decide (1 ≤ rail) && decide (rail < 5) && decide (mv < 65536)
  | .vdlLinkUp => true

end Sys2Proof
end

