-- ==== Sys2Proof/Tests/Slice0.lean ====
section
/-! SUPPORT. Tests: for each statement a witness whose hypotheses hold together, ill-formed operands that WellFormed refuses, values from
the spec's worked examples and from the published vectors of the algorithms it names, and single steps. -/

namespace Sys2Proof.Tests

-- One theorem at a time: the compile of the package as one text then needs far less memory.
set_option Elab.async false

open Sys2Proof Sys2Proof.Machine

/-! ### Helpers -/

/-- The bytes of a number as an array of memory from an address, without the zeros. -/
def cells (a n v : Nat) : FMap Byte := ((List.range n).map (fun i => (a + i, (toLe n v).getD i 0))).filter (fun c => c.2 != 0)

/-- A module in a module state, with other dictionary numbers. -/
def modIn (st : Nat) (od : List ((Nat × Nat) × Nat)) : State :=
  od.foldl (fun s e => s.odSet e.1.1 e.1.2 e.2) (State.reset.odSet 0x1010 1 st)

/-- RUNNING, hand A of pinion 0 ready at word 0 of its area, which holds `w`. -/
def running (w : Nat) : State :=
  { modIn stRunning [] with
    mem := cells (iaAddr 0) 8 w, pinions := [(0, { handA := { st := .ready, stream := some { desc := 0, port := 0 } } })] }

/-- A word: an opcode and its fields, each at its lowest bit. -/
def word (op : Nat) (fields : List (Nat × Nat)) : Nat := op * 2 ^ 56 + (fields.map (fun f => f.2 * 2 ^ f.1)).sum

/-- One case of a statement about an instruction: the row, the word, the change of the state, and the further hypotheses. -/
structure Case where
  row : Nat
  w : Nat
  upd : State → State := id
  also : State → W64 → Bool := fun _ _ => true

/-- Do the hypotheses of a case hold together? -/
def Case.holds (c : Case) : Bool :=
  let s := c.upd (running c.w)
  let w : W64 := BitVec.ofNat 64 c.w
  s.canIssue 0 0 && s.fetchWord 0 (s.hand 0 0).pc == w && wordRow w == some c.row && wordOk w && c.also s w

/-- A case that holds meets the hypothesis `Issues`, and its further hypotheses. -/
theorem Case.issues (c : Case) (h : c.holds = true) :
    Issues (c.upd (running c.w)) 0 0 c.row (BitVec.ofNat 64 c.w) ∧ c.also (c.upd (running c.w)) (BitVec.ofNat 64 c.w) = true := by
  simp only [Case.holds, Bool.and_eq_true, beq_iff_eq] at h
  exact ⟨⟨h.1.1.1.1, h.1.1.1.2, h.1.1.2, h.1.2⟩, h.2⟩

/-- Change hand A of pinion 0. -/
def withHand (f : Hand → Hand) (s : State) : State := s.pinMod 0 (fun x => { x with handA := f x.handA })

/-- Set register r of hand A of pinion 0. -/
def withReg (r v : Nat) : State → State := withHand (fun d => d.setSreg r (BitVec.ofNat 32 v))

/-- Hand A at the last word but one or at the last one, with the word of word 0 there. -/
def lastWord (pc : Nat) (s : State) : State :=
  withHand (fun d => { d with pc := pc }) { s with mem := s.mem.map (fun c => (c.1 + 8 * pc, c.2)) }

/-- A slot of Barrel 0. -/
def withSlot (k state lines : Nat) (s : State) : State := { s with barrels := [(0, { slots := [(k, { state := state, lines := lines })] })] }

/-- Hand B of pinion 0 runs a stream too. -/
def withHandB (s : State) : State := s.pinMod 0 (fun x => { x with handB := { st := .ready, stream := some { desc := 0, port := 0 } } })

/-- Something stands in data-move queue 0 of pinion 0. -/
def withMove (s : State) : State := s.pinMod 0 (fun x => { x with dmq0 := [.barrel 0 0 true 0 0 1 0 none] })

/-! ### Witnesses: the pinions (the hypotheses of each clause of the statement hold together) -/

/-- Hand A has a next word. -/
def hasNext (s : State) (_ : W64) : Bool := decide ((s.hand 0 0).pc < 2047)

theorem witness_ControlFlow : ([
    { row := 0x00, w := word 0 [], also := hasNext }, { row := 0x00, w := word 0 [], upd := lastWord 2046, also := hasNext },
    { row := 0x02, w := word 2 [(0, 2047)] },
    { row := 0x03, w := word 3 [(52, 1), (0, 3)], also := fun s _ => (s.hand 0 0).sreg 1 != 1 },
    { row := 0x03, w := word 3 [(52, 1), (0, 3)], upd := withReg 1 1, also := fun s w => (s.hand 0 0).sreg 1 == 1 && hasNext s w },
    { row := 0x04, w := word 4 [(0, 9)], also := fun _ w => bccCond (fld w 40 4) 0 0 == some true },
    { row := 0x04, w := word 4 [(40, 5), (44, 1), (0, 9)], upd := withReg 1 7,
      also := fun s w => bccCond (fld w 40 4) 0 ((s.hand 0 0).sreg 1) == some false && hasNext s w },
    { row := 0x04, w := word 4 [(40, 6)], also := fun _ w => bccCond (fld w 40 4) 0 0 == none },
    { row := 0x05, w := word 5 [(38, 1), (0, 9)], upd := withSlot 0 2 1, also := fun s w => present s 0 0 && Nat.testBit w.toNat 38 },
    { row := 0x05, w := word 5 [(32, 63), (0, 9)], upd := withSlot 63 2 1, also := fun s w => present s 0 63 && !Nat.testBit w.toNat 38 },
    { row := 0x05, w := word 5 [(38, 1), (0, 9)], also := fun s w => !present s 0 0 && Nat.testBit w.toNat 38 },
    { row := 0x05, w := word 5 [(0, 9)], also := fun s w => !present s 0 0 && !Nat.testBit w.toNat 38 }] : List Case).all Case.holds = true := by
  decide +kernel

/-- The address of a word's register and immediate. -/
def addrOf (s : State) (w : W64) : Nat := regImm (s.hand 0 0) w

theorem witness_ScalarOperations : ([
    { row := 0x08, w := word 8 [(52, 1), (0, 0xFFFFFFFF)], also := hasNext }, { row := 0x09, w := word 9 [(0, 1)], also := hasNext },
    { row := 0x0A, w := word 0xA [(52, 1)], also := fun _ w => (aluFn (fld w 40 4) 0 0).isSome },
    { row := 0x0A, w := word 0xA [(40, 12)], also := fun _ w => (aluFn (fld w 40 4) 0 0).isSome },
    { row := 0x0A, w := word 0xA [(40, 13)], also := fun _ w => aluFn (fld w 40 4) 0 0 == none },
    { row := 0x10, w := word 0x10 [(0, 64)], also := fun s w => addrOf s w % 64 == 0 },
    { row := 0x11, w := word 0x11 [(0, 64)], also := fun s w => addrOf s w % 64 == 0 },
    { row := 0x12, w := word 0x12 [(48, 1), (0, 0x13FC0)], upd := withReg 1 64,
      also := fun s w => ((s.hand 0 0).sreg 1).toNat % 64 == 0 && ((s.hand 0 0).sreg 1).toNat + fld w 0 32 == 0x14000 },
    { row := 0x14, w := word 0x14 [], also := hasNext },
    { row := 0x10, w := word 0x10 [(0, 63)], also := fun s w => addrOf s w % 64 != 0 },
    { row := 0x11, w := word 0x11 [(0, 1)], also := fun s w => addrOf s w % 64 != 0 },
    { row := 0x12, w := word 0x12 [(48, 1)], upd := withReg 1 1, also := fun s _ => ((s.hand 0 0).sreg 1).toNat % 64 != 0 },
    { row := 0x12, w := word 0x12 [(0, 0x14001)], also := fun s w => decide (0x14000 < ((s.hand 0 0).sreg 0).toNat + fld w 0 32) }]
      : List Case).all Case.holds = true := by
  decide +kernel

theorem witness_ScalarInstructionsComplete : ([
    { row := 0x08, w := word 8 [(52, 1), (0, 0xFFFFFFFF)], also := hasNext }, { row := 0x09, w := word 9 [(52, 15), (48, 1), (0, 1)], also := hasNext },
    { row := 0x0A, w := word 0xA [(52, 1), (40, 12)], also := fun s w => hasNext s w && fld w 40 4 == 12 },
    { row := 0x10, w := word 0x10 [(48, 1), (0, 32)], upd := withReg 1 32,
      also := fun s w => hasNext s w && ((s.hand 0 0).sreg 1 + BitVec.ofNat 32 (fld w 0 32)).toNat == 64 },
    { row := 0x11, w := word 0x11 [(48, 1), (0, 32)], upd := withReg 1 32,
      also := fun s w => hasNext s w && ((s.hand 0 0).sreg 1 + BitVec.ofNat 32 (fld w 0 32)).toNat == 64 },
    { row := 0x12, w := word 0x12 [(48, 1), (0, 0x13FC0)], upd := withReg 1 64, also := fun s w => hasNext s w &&
      ((s.hand 0 0).sreg 1).toNat == 64 && fld w 0 32 == 0x13FC0 },
    { row := 0x14, w := word 0x14 [], also := hasNext }] : List Case).all Case.holds = true := by
  decide +kernel

theorem witness_ScalarMemory : ([
    { row := 0x0B, w := word 0xB [(52, 1), (0, 0x13FFC)], also := fun s w => addrOf s w % 4 == 0 && addrOf s w + 4 == 0x14000 },
    { row := 0x0C, w := word 0xC [(0, 0x13FFC)], also := fun s w => addrOf s w % 4 == 0 && addrOf s w + 4 == 0x14000 },
    { row := 0x0B, w := word 0xB [(0, 3)], also := fun s w => addrOf s w % 4 != 0 },
    { row := 0x0B, w := word 0xB [(0, 0x14000)], also := fun s w => decide (0x14000 < addrOf s w + 4) },
    { row := 0x0C, w := word 0xC [(0, 3)], also := fun s w => addrOf s w % 4 != 0 },
    { row := 0x0C, w := word 0xC [(0, 0x14000)], also := fun s w => decide (0x14000 < addrOf s w + 4) }] : List Case).all Case.holds = true := by
  decide +kernel

theorem witness_HandsShareIssue : ([
    { row := 0x13, w := word 0x13 [], also := fun s _ => !(s.hand 0 1).isReady },
    { row := 0x13, w := word 0x13 [], upd := withHandB, also := fun s _ => (s.hand 0 1).isReady },
    { row := 0x15, w := word 0x15 [(40, 15)], also := fun s w => waitqDone (s.pin 0) (fld w 40 4) },
    { row := 0x15, w := word 0x15 [(40, 1)], upd := withMove, also := fun s w => !waitqDone (s.pin 0) (fld w 40 4) },
    { row := 0x01, w := word 1 [], also := fun s _ => !handBusy (s.pin 0) 0 },
    { row := 0x01, w := word 1 [], upd := withMove, also := fun s _ => handBusy (s.pin 0) 0 }] : List Case).all Case.holds = true := by
  decide +kernel

theorem witness_HandSwitch : let s := withHandB (withHand (fun d => { d with st := .syncWait }) (running 0))
    s.modState = stRunning ∧ s.inService 0 = true ∧ s.pinHeld 0 = false ∧ s.odGet 0x2100 1 ≠ 0 ∧
      inSyncWait ((s.pin 0).hand (s.pin 0).cur) = true ∧ ((s.pin 0).hand (1 - (s.pin 0).cur)).isReady = true := by
  decide +kernel

theorem witness_InstructionFaults :
    (let s := running (word 0xFF [])
     s.canIssue 0 0 = true ∧ wordRow (s.fetchWord 0 0) = none) ∧
    (let s := running (word 0 [(0, 1)])
     s.canIssue 0 0 = true ∧ wordRow (s.fetchWord 0 0) = some 0 ∧ wordOk (s.fetchWord 0 0) = false) ∧
    ({ row := 0x00, w := word 0 [], upd := lastWord 2047, also := fun s _ => (s.hand 0 0).pc == 2047 } : Case).holds = true ∧
    State.pinQuiet ((withMove (running 0)).pin 0) = false := by
  decide +kernel

/-- A stream descriptor for hand 0 that starts at word 0. -/
def streamOk (s : State) (port : Nat) : Bool := decide (streamAnswer s port 0 = .accepted)

theorem witness_IssuePorts : State.reset.modState ≠ stRunning ∧ State.reset.modState ≠ stHeld ∧
    streamAnswer State.reset 0 0 ≠ .accepted ∧ streamOk (modIn stHeld []) 0 = true := by
  decide +kernel

theorem witness_StreamsStart : streamOk (modIn stRunning []) 0x10000 = true ∧ ((running 0).hand 0 0).stream.isSome = true ∧
    (let d := (modIn stRunning []).hand 0 0
     d.stream = none ∧ d.pend = none) ∧
    (let s := withHand (fun d => { d with st := .idle, stream := none, pend := some (0, 0) }) (running 0)
     (s.hand 0 0).pend = some (0, 0) ∧ (s.hand 0 0).stream = none ∧ s.modState = stRunning ∧ s.inService 0 = true ∧
       (s.pin 0).stopping = none) ∧
    Nat.testBit (fld (0 : BitVec 256) 24 8) 1 = false := by
  decide +kernel

theorem witness_StreamsEnter : streamOk (modIn stHeld []) 0x10000 = true ∧
    (((modIn stHeld []).portPinions 0x10000).all (fun q => ((modIn stHeld []).hand q (fld (0 : BitVec 256) 16 8)).stream.isNone)) = true ∧
    (let s := withHand (fun d => { d with st := .idle, stream := none, pend := some (0, 0) }) (running 0)
     (s.hand 0 0).pend = some (0, 0) ∧ (s.hand 0 0).stream = none ∧ s.modState = stRunning ∧ s.inService 0 = true ∧
       (s.pin 0).stopping = none) := by
  decide +kernel

/-- Pinion 1 is fenced. -/
def fenced1 (s : State) : State := s.unitMod 0 1 (fun u => { u with st := 1 })

/-- A descriptor that loads one word of code from an address into word 0 of the area. -/
def loading (src : Nat) : BitVec 256 := BitVec.ofNat 256 (2 ^ 25 + 2 ^ 48 + src * 2 ^ 64)

/-- The closed Bezels that the load crosses. -/
def loadCrosses (s : State) (src : Nat) : List (Nat × Nat) := s.crossed (s.pinUnits 0) (s.regionUnits (s.region src 8))

theorem witness_CodeLoads : Nat.testBit (fld (loading 64) 24 8) 1 = true ∧ 8 * fld (loading 64) 48 16 = 8 ∧ fld (loading 64) 64 64 = 64 ∧
    (let s : State := { modIn stRunning [] with wrong := [(1, 2)] }
     s.wrongLine [(64, 8)] = some 64) ∧
    (modIn stRunning []).wrongLine [(64, 8)] = none ∧ loadCrosses (modIn stRunning []) 64 = [] ∧
    loadCrosses (fenced1 (modIn stRunning [])) (daAddr 1) = [(0, 1)] := by
  decide +kernel

/-- Sync object 0 has a target. -/
def withTarget (t : Nat) (s : State) : State := s.syncMod 0 (fun o => { o with target := BitVec.ofNat 16 t })

/-- The word names sync object `sid`. -/
def names (sid : Nat) (s : State) (w : W64) : Bool :=
  match s.sidOf 0 (s.hand 0 0) (fld w 38 18) (fld w 36 2) with
  | .ok k => k == sid
  | .error _ => false

/-- The word names no object, and raises a fault. -/
def failsWith (c : Nat) (s : State) (w : W64) : Bool :=
  match s.sidOf 0 (s.hand 0 0) (fld w 38 18) (fld w 36 2) with
  | .ok _ => false
  | .error k => k == c

theorem witness_SyncInstructions : ([
    { row := 0x20, w := word 0x20 [(38, 262143)], also := names 262143 }, { row := 0x21, w := word 0x21 [(36, 1), (38, 31)], also := names 31 },
    { row := 0x22, w := word 0x22 [(36, 2), (38, 0)], also := names 0 }, { row := 0x23, w := word 0x23 [], also := names 0 },
    { row := 0x24, w := word 0x24 [], also := names 0 },
    { row := 0x25, w := word 0x25 [], upd := withTarget 1, also := fun s w => names 0 s w && decide ((s.sync 0).target ≠ 0) },
    { row := 0x25, w := word 0x25 [], also := fun s w => names 0 s w && decide ((s.sync 0).target = 0) },
    { row := 0x20, w := word 0x20 [], also := fun s _ => (s.hand 0 0).stream.isSome },
    { row := 0x26, w := word 0x26 [(36, 3)], also := fun s w => failsWith fIllegal s w },
    { row := 0x20, w := word 0x20 [(36, 1), (38, 32)], also := fun s w => failsWith fAddr s w },
    { row := 0x25, w := word 0x25 [(36, 2), (38, 32)], also := fun s w => failsWith fAddr s w }] : List Case).all Case.holds = true := by
  decide +kernel

/-- The branch condition of an SBR on object `sid`. -/
def sbrHolds (sid : Nat) (s : State) (w : W64) : Bool := sbrCond (fld w 34 2) (s.sync sid).count (BitVec.ofNat 32 (fld w 16 16))

theorem witness_SerialComparison : ([
    { row := 0x26, w := word 0x26 [(0, 5)], also := fun s w => names 0 s w && !s.syncIsolated 0 && sbrHolds 0 s w },
    { row := 0x26, w := word 0x26 [(0, 5), (34, 2)], also := fun s w => names 0 s w && !s.syncIsolated 0 && !sbrHolds 0 s w && hasNext s w },
    { row := 0x26, w := word 0x26 [(38, 32)], upd := fenced1, also := fun s w => names 32 s w && s.syncIsolated 32 }] : List Case).all
      Case.holds = true ∧ ({} : SyncObj).acq = [] ∧ ({} : SyncObj).target = 0 ∧ ({ target := 1 } : SyncObj).target ≠ 0 := by
  decide +kernel

theorem witness_ObjectCycle : (0 < 2 ∧ ∀ k ∈ [1, 0], k < 2) ∧
    (let o : SyncObj := { acq := [{ src := .hand 0 1 0 0x21, op := .set 3 }] }
     grant (o.acq.map reqNum) o.ptr 1536 = some 1) := by
  decide +kernel

/-- Object 5 holds a request on its way. -/
def asked : State := State.reset.syncMod 5 (fun o => { o with onWay := [{ src := .hand 0 0 0 0x20, op := .add 1 }] })

/-- Hand A of pinion 0 released from a wait, and hand B in a state. -/
def released0 (st : HandSt) : State := (withHand (fun d => { d with st := .released 3 }) (running 0)).pinMod 0
  (fun x => { x with handB := { st := st, stream := some { desc := 0, port := 0 } } })

theorem witness_SyncApplies : [0].all (firstOfSource (asked.sync 5).onWay) = true ∧ asked.syncIsolated 5 = false ∧
    (let s := released0 .ready
     (s.hand 0 0).st = .released 3 ∧ (s.hand 0 0).stream.isSome = true ∧ s.inService 0 = true ∧ (s.hand 0 1).st ≠ .released 3 ∧
       (s.hand 0 0).pc < 2048) ∧
    (let s := released0 (.released 3)
     (s.hand 0 0).st = .released 3 ∧ (s.hand 0 0).stream.isSome = true ∧ s.inService 0 = true ∧ (s.hand 0 1).st = .released 3 ∧
       (s.hand 0 0).pc < 2048 ∧ (s.hand 0 1).pc < 2048) ∧
    (let s := released0 (.released 4)
     isReleased (s.hand 0 1).st = true ∧ (s.hand 0 1).stream.isSome = true ∧ (s.hand 0 1).st ≠ .released 3) ∧
    (let s := fenced1 (State.reset.syncMod 32 (fun o => { o with onWay := [{ src := .hand 0 0 0 0x20, op := .add 1 }] }))
     [0].all (firstOfSource (s.sync 32).onWay) = true ∧ s.syncIsolated 32 = true) ∧
    ((withHand (fun d => { d with st := .syncWait }) (running 0)).hand 0 0).st = .syncWait := by
  decide +kernel

/-- The post of a DMV or DPF is sound, and its descriptor list stands at `base`. -/
def moveAt (base : Nat) (s : State) (w : W64) : Bool :=
  (match postField s 0 (s.hand 0 0) (Nat.testBit w.toNat 55) (fld w 37 18) (fld w 35 2) with
   | .ok _ => true
   | .error _ => false) && ((s.hand 0 0).sreg (fld w 31 4)).toNat + fld w 23 8 * 32 == base

/-- The post of a DMV or DPF has the reserved MODE. -/
def postBad (s : State) (w : W64) : Bool :=
  match postField s 0 (s.hand 0 0) (Nat.testBit w.toNat 55) (fld w 37 18) (fld w 35 2) with
  | .ok _ => false
  | .error c => c == fIllegal

/-- A transfer of two rows of 64 bytes from HBM into the own data area, described at offset 0, at the head of a queue. -/
def moving (q left : Nat) (pre : Bool) : State :=
  let x : XferDesc := xferDesc (toLe 8 0x1000 ++ toLe 8 (2 ^ 62 + 0x400) ++ toLe 2 2 ++ toLe 2 64 ++ toLe 4 64 ++ toLe 4 64 ++ zeros 4)
  let b := toLe 8 x.src ++ toLe 8 x.dst ++ toLe 2 x.rows ++ toLe 2 x.rowBytes ++ toLe 4 x.srcStride ++ toLe 4 x.dstStride ++ zeros 4
  ((running 0).wrData 0 0 b).pinMod 0 (fun y => y.setDmq q [.xfer 0 7 0x40 0 left none 0 0x800 pre])

/-- The hypotheses of a transfer that moves. -/
def movesOk (q left : Nat) (pre : Bool) : Bool :=
  let s := moving q left pre
  let x := xferDesc (s.rdData 0 0 32)
  let src := xferBase 0 0 x.rows x.srcStride x.src
  let dst := xferBase 0 0 x.rows x.dstStride x.dst
  moveOn s 0 && s.mayWork 0 q && xferOk s 0 src dst x && s.wrong.isEmpty && (moveRows 0 x x.rows s src dst).2 && x.rows == 2 &&
    (!pre || (List.range x.rows).all (fun i => inStaging s 0 0 0x800 (dst + i * x.dstStride) x.rowBytes))

theorem witness_DataMoves : ([
    { row := 0x40, w := word 0x40 [(23, 1), (15, 1)], also := moveAt 32 }, { row := 0x41, w := word 0x41 [(15, 255)], also := moveAt 0 },
    { row := 0x40, w := word 0x40 [(31, 1)], upd := withReg 1 1, also := moveAt 1 },
    { row := 0x41, w := word 0x41 [(31, 1), (15, 1)], upd := withReg 1 0x14000, also := moveAt 0x14000 },
    { row := 0x40, w := word 0x40 [(55, 1), (35, 3)], also := postBad }, { row := 0x41, w := word 0x41 [(55, 1), (35, 3)], also := postBad }]
      : List Case).all Case.holds = true ∧
    movesOk 1 1 true = true ∧ movesOk 0 1 false = true ∧ movesOk 0 2 false = true := by
  decide +kernel

theorem witness_MovesFail :
    (let s := moving 0 1 true
     let x := xferDesc (s.rdData 0 0 32)
     let t : State := { s with wrong := [(0x1040 / 64, 2)] }
     let f := fenced1 s
     moveOn s 0 = true ∧ xferOk s 0 0x1000 (daAddr 0 + 0x400) { x with rows := 0 } = false ∧
     inStaging s 0 0 0x400 (daAddr 0 + 0x400) 64 = false ∧
     t.wrongLine [(0x1000, 64)] = none ∧ t.wrongLine [(0x1040, 64)] = some 0x1040 ∧ (moveRows 0 x 1 t 0x1000 (daAddr 0 + 0x400)).2 = true ∧
     xferOk f 0 (daAddr 1) (daAddr 0) x = true ∧ (moveRows 0 x x.rows f (daAddr 1) (daAddr 0)).2 = false ∧
     (moveRows 0 x 1 s 0x1000 slowBase).2 = true ∧ (s.pin 0).stopping = none ∧
     (s.hand 0 0).stream.map (·.faulted) = some false) := by
  decide +kernel

/-- A BST or BLD of lines of slot 0 that lie in the slot and in the data area. -/
def linesOk (s : State) (w : W64) : Bool :=
  decide (fld w 24 14 ≠ 0) && regOff (s.hand 0 0) (fld w 46 4) (fld w 38 8) 64 == 0 &&
    decide (((s.hand 0 0).sreg (fld w 20 4)).toNat + fld w 24 14 ≤ ((barrelOf s (s.t2Of 0)).slot (fld w 50 6)).lines)

theorem witness_BarrelMoves : ([
    { row := 0xA300, w := word 0xA3 [(50, 63), (34, 1)], also := fun _ w => fld w 34 14 != 0 },
    { row := 0xA301, w := word 0xA3 [(48, 1)], also := fun _ w => fld w 34 14 == 0 },
    { row := 0xA302, w := word 0xA3 [(48, 2)], also := fun _ w => fld w 34 14 == 0 }, { row := 0xA300, w := word 0xA3 [] },
    { row := 0xA301, w := word 0xA3 [(48, 1), (34, 1)] }, { row := 0xA302, w := word 0xA3 [(48, 2), (34, 1)] },
    { row := 0xA1, w := word 0xA1 [(24, 4)], upd := withSlot 0 1 4, also := fun s w => linesOk s w && (s.pin 0).dmq0.isEmpty },
    { row := 0xA2, w := word 0xA2 [(24, 4)], upd := withSlot 0 2 4, also := fun s w => linesOk s w && (s.pin 0).dmq0.isEmpty },
    { row := 0xA1, w := word 0xA1 [(24, 4)], upd := fun s => withMove (withSlot 0 1 4 s), also := fun s w => linesOk s w && !(s.pin 0).dmq0.isEmpty },
    { row := 0xA2, w := word 0xA2 [(24, 4)], upd := fun s => withMove (withSlot 0 2 4 s), also := fun s w => linesOk s w && !(s.pin 0).dmq0.isEmpty },
    { row := 0xA1, w := word 0xA1 [], also := fun _ w => fld w 24 14 == 0 }, { row := 0xA2, w := word 0xA2 [], also := fun _ w => fld w 24 14 == 0 },
    { row := 0xA1, w := word 0xA1 [(24, 1)], also := fun s w => decide (((barrelOf s (s.t2Of 0)).slot 0).lines < fld w 24 14) },
    { row := 0xA2, w := word 0xA2 [(24, 1), (46, 1)], upd := fun s => withReg 1 1 (withSlot 0 2 4 s),
      also := fun s w => regOff (s.hand 0 0) (fld w 46 4) (fld w 38 8) 64 % 64 != 0 }] : List Case).all Case.holds = true := by
  decide +kernel

/-- Lines of slot 0 wait at queue 0 of pinion 0. -/
def linesMove (state lines : Nat) : State := (withSlot 0 state 8 (running 0)).pinMod 0 (fun x =>
  { x with dmq0 := [.barrel 0 7 (state == 1) 0 0 lines 0 none] })

/-- Another pinion's BDIR has arrived at the directory. -/
def bdirWaits : State := setBarrel (running 0) 0 { waiting := [(1, .free 3)] }

theorem witness_LinesMove :
    ([linesMove 1 4, linesMove 2 4, linesMove 0 4].all (fun s => moveOn s 0 && s.mayWork 0 0 && decide ((s.pin 0).dmq 0 ≠ []) &&
      (s.crossed (s.pinUnits 0) (s.regionUnits (.barrel 0))).isEmpty)) = true ∧
    min (max 2 1) 4 < 4 ∧ 4 ≤ min (max 4 1) 4 ∧
    (let s := (linesMove 1 4).unitMod 0 0 (fun u => { u with st := 1 })
     moveOn s 0 = true ∧ s.mayWork 0 0 = true ∧ s.crossed (s.pinUnits 0) (s.regionUnits (.barrel 0)) ≠ []) ∧
    (barrelOf (running 0) 0).waiting = [] ∧ (barrelOf bdirWaits (bdirWaits.t2Of 0)).waiting = [(1, .free 3)] ∧
    bdirRank bdirWaits 0 1 ≠ bdirRank bdirWaits 0 0 := by
  decide +kernel

/-- An MTX whose operands and formats are sound, with a verdict on its tile. -/
def mtxIs (c : TileCheck) (s : State) (w : W64) : Bool :=
  let x := s.pin 0
  let r := mtxPass x (s.hand 0 0) w
  match fmtGroup r.fmtA with
  | none => false
  | some g => !(r.chain && Nat.testBit w.toNat 49) && (r.chain || r.initMode != 3) && fmtGroup r.fmtB == some g && !(r.tA && isMx r.fmtA) &&
    !(r.tB && isMx r.fmtB) && passAddrOk r && decide (tileCheck x (s.hand 0 0) (fld w 51 1) r.bank g (Nat.testBit w.toNat 49) r.chain = c)

/-- An MTXB that may issue. -/
def mtxbOk (s : State) (w : W64) : Bool :=
  let x := s.pin 0
  let r := mtxbPasses x (s.hand 0 0) w
  match fmtGroup r.1.fmtA with
  | none => false
  | some g => mtxbFormatsOk (Nat.testBit w.toNat 47) r.1.fmtA r.1.fmtB r.2.fmtA && passAddrOk r.1 && passAddrOk r.2 &&
    decide (tileCheck x (s.hand 0 0) 0 r.1.bank g (Nat.testBit w.toNat 46 && !r.1.chain) r.1.chain = .ok) &&
    decide (tileCheck x (s.hand 0 0) 1 r.2.bank g (Nat.testBit w.toNat 46 && !r.2.chain) r.2.chain = .ok)

/-- Change tile (0, 0) of pinion 0. -/
def withTile (t : Tile) (s : State) : State := s.pinMod 0 (fun x => x.setTile 0 0 t)

/-- A pass of array 0 on bank 0. -/
def aPass : Pass := { bank := 0, chain := false, plain := true, initMode := 0, initAddr := 0, fmtA := 0, fmtB := 0, tA := false, tB := false,
                      addrA := 0, addrB := 0, paired := false, started := true }

/-- A drain that waits at a tile. -/
def aDrain : Drain := { hand := 0, epi := 0, chan := 0, out := 0x400, post := none, desc := [] }

theorem witness_MatrixIssues : ([
    { row := 0x80, w := word 0x80 [], also := mtxIs .ok }, { row := 0x80, w := word 0x80 [], upd := withTile { held := true }, also := mtxIs (.fault fTileHeld) },
    { row := 0x80, w := word 0x80 [], upd := withTile { held := true, drain := some aDrain }, also := mtxIs .wait },
    { row := 0x80, w := word 0x80 [], upd := fun s => s.pinMod 0 (fun x => x.setArr 0 { queued := some aPass }),
      also := fun s w => mtxIs .ok s w && ((s.pin 0).arr 0).queued.isSome },
    { row := 0x81, w := word 0x81 [(52, 5), (42, 5), (2, 5)], also := mtxbOk },
    { row := 0x80, w := word 0x80 [(48, 1), (46, 3)], upd := withTile { held := true }, also := mtxIs .ok },
    { row := 0x80, w := word 0x80 [(48, 1)], also := mtxIs (.fault fTileEmpty) }, { row := 0x80, w := word 0x80 [(49, 1)], also := mtxIs (.fault fFlipBank) },
    { row := 0x80, w := word 0x80 [(46, 3)], also := fun s w => let r := mtxPass (s.pin 0) (s.hand 0 0) w; !r.chain && r.initMode == 3 },
    { row := 0x80, w := word 0x80 [(2, 5)], also := fun s w => let r := mtxPass (s.pin 0) (s.hand 0 0) w; fmtGroup r.fmtA != fmtGroup r.fmtB },
    { row := 0x80, w := word 0x80 [(38, 1)], upd := withReg 1 1, also := fun s w => !passAddrOk (mtxPass (s.pin 0) (s.hand 0 0) w) },
    { row := 0x81, w := word 0x81 [], also := fun s w => let r := mtxbPasses (s.pin 0) (s.hand 0 0) w
      !mtxbFormatsOk (Nat.testBit w.toNat 47) r.1.fmtA r.1.fmtB r.2.fmtA },
    { row := 0x81, w := word 0x81 [(52, 5), (42, 5), (2, 5), (26, 1)], upd := withReg 1 1, also := fun s w =>
      let r := mtxbPasses (s.pin 0) (s.hand 0 0) w
      mtxbFormatsOk (Nat.testBit w.toNat 47) r.1.fmtA r.1.fmtB r.2.fmtA && !(passAddrOk r.1 && passAddrOk r.2) }] : List Case).all Case.holds = true ∧
    ({ lastBank := some 0 } : Arr).lastBank = some 0 ∧ ({ held := true } : Tile).drain = none := by
  decide +kernel

/-- Array 0 of pinion 0. -/
def withArr (a : Arr) : State := (running 0).pinMod 0 (fun x => x.setArr 0 a)

theorem witness_PassesProceed :
    (let s := withArr { running := some aPass }
     engineOn s 0 = true ∧ kReady ((s.pin 0).arr 0) = true ∧ isPaired ((s.pin 0).arr 0).running = false) ∧
    (let s := withArr { tail := some aPass }
     engineOn s 0 = true ∧ ((s.pin 0).arr 0).tail = some aPass ∧ aPass.paired = false) ∧
    (let q : Pass := { aPass with paired := true }
     let s := (withArr { tail := some q }).pinMod 0 (fun x => x.setArr 1 { tail := some q })
     engineOn s 0 = true ∧ ((s.pin 0).arr 0).tail = some q ∧ ((s.pin 0).arr 1).tail = some q ∧ q.paired = true) ∧
    (∀ n ≤ 64, -2147483648 ≤ (0 : W32).toInt + ((List.range n).map (fun q => opInt false [] 0 q * opInt false [] 0 q)).sum ∧
      (0 : W32).toInt + ((List.range n).map (fun q => opInt false [] 0 q * opInt false [] 0 q)).sum ≤ 2147483647) ∧
    (let ones := List.replicate 4096 (0x7F : Byte)
     2147483647 < (0x7FFFFFFF : W32).toInt + ((List.range 1).map (fun q => opInt false ones 0 q * opInt false ones 0 q)).sum ∧
     (0x7FFFFFFF : W32).toInt + ((List.range 0).map (fun q => opInt false ones 0 q * opInt false ones 0 q)).sum ≤ 2147483647) := by
  decide +kernel

/-- The drain that a DRN of word 0 with its output at 0x400 leaves at a held tile whose pass is complete. -/
def drained : State :=
  match exec (.drn 0 0) (withTile { held := true } (withReg 1 0x400 (running (word 0xA0 [(44, 1)])))) with
  | .next t => t
  | _ => State.reset

theorem witness_DrainsQueueAndServe : ([
    { row := 0xA0, w := word 0xA0 [], also := fun s _ => ((s.pin 0).tile 0 0).drain.isNone && !((s.pin 0).tile 0 0).held },
    { row := 0xA0, w := word 0xA0 [(44, 1)], upd := fun s => withTile { held := true } (withReg 1 0x400 s), also := fun s w =>
      ((s.pin 0).tile 0 0).drain.isNone && ((s.pin 0).tile 0 0).held && State.inData 0 64 &&
        (let e := epiDesc (s.rdData 0 0 64)
         !e.illegal && !e.badAddr 0 ((s.hand 0 0).sreg (e.chReg % 16)).toNat (regOff (s.hand 0 0) (fld w 44 4) (fld w 36 8) 64)) }]
      : List Case).all Case.holds = true ∧
    (match nextDrain (drained.pin 0) with
     | some (a, b, x) => (match (x.tile a b).drain with
       | some d => decide (a = 0 ∧ b = 0) && engineOn drained 0 &&
           (let s1 := drained.setPin 0 x
            s1.rdData 0 d.epi 64 ++ toLe 4 (leNat ((d.desc.drop 64).take 4)) ++
              drainReads s1 0 (epiDesc (s1.rdData 0 d.epi 64)) (leNat ((d.desc.drop 64).take 4)) d.chan.toNat == d.desc)
       | none => false)
     | none => false) = true := by
  decide +kernel

/-- A line that a vector load or store names is aligned and in the data area. -/
def lineOk (s : State) (w : W64) : Bool :=
  let a := (((s.hand 0 0).sreg (fld w 28 4)).toNat + fld w 20 8 * 64) % 2 ^ 32
  a % 64 == 0 && decide (a + 64 ≤ 0x14000) && hasNext s w

theorem witness_VectorMemory : ([
    { row := 0x60, w := word 0x60 [(28, 1)], upd := withReg 1 0x13FC0, also := lineOk }, { row := 0x61, w := word 0x61 [(20, 255)], also := lineOk },
    { row := 0x62, w := word 0x62 [(52, 9), (0, 15)], also := lineOk }, { row := 0x62, w := word 0x62 [(52, 10), (0, 7)], also := lineOk },
    { row := 0x63, w := word 0x63 [(52, 9), (0, 0xFFFF)], also := lineOk }, { row := 0x63, w := word 0x63 [(52, 10), (0, 255)], also := lineOk },
    { row := 0x62, w := word 0x62 [(52, 8)] }, { row := 0x63, w := word 0x63 [(52, 8)] }, { row := 0x62, w := word 0x62 [(52, 10), (0, 8)] },
    { row := 0x63, w := word 0x63 [(52, 10), (0, 256)] }] ++ [0x60, 0x61, 0x62, 0x63].map (fun r => ({
      row := r, upd := withReg 1 1, w := word r (if r ≤ 0x61 then [(28, 1)] else [(28, 1), (52, 9)]),
      also := fun s w => !lineOk s w && hasNext s w } : Case))
      : List Case).all Case.holds = true := by
  decide +kernel

theorem witness_VectorArithmetic : (([0x64, 0x65, 0x66, 0x67, 0x68, 0x69, 0x6F].flatMap (fun r => [9, 10].map (fun f =>
    ({ row := r, w := word r [(52, f)], also := hasNext } : Case)))) ++ [0x64, 0x65, 0x66, 0x67, 0x68, 0x69, 0x6F].map (fun r =>
    ({ row := r, w := word r [(52, 8)], also := fun _ w => fld w 52 4 != 9 && fld w 52 4 != 10 } : Case))).all Case.holds = true := by
  decide +kernel

theorem witness_VectorMasksAndIntegers : (([9, 10].flatMap (fun f => [
    ({ row := 0x6A, w := word 0x6A [(52, f), (16, 3)], also := fun s w => decide (fld w 16 4 < 4) && hasNext s w } : Case),
    { row := 0x6A, w := word 0x6A [(52, f), (16, 4)], also := fun _ w => decide (4 ≤ fld w 16 4) },
    { row := 0x6B, w := word 0x6B [(52, f)], also := hasNext }, { row := 0x73, w := word 0x73 [(52, f)], also := hasNext }])) ++
    [0x6A, 0x6B, 0x73].map (fun r => ({ row := r, w := word r [(52, 8)], also := fun _ w => fld w 52 4 == 8 } : Case)) ++
    [0x7C, 0x7D, 0x7E, 0x7F].map (fun r => ({ row := r, w := word r [], also := hasNext } : Case))).all Case.holds = true := by
  decide +kernel

theorem witness_VectorReductions : ([0x70, 0x71].flatMap (fun r => [9, 10].map (fun f =>
    ({ row := r, w := word r [(52, f)], also := fun s w => (fld w 52 4 == 9 || fld w 52 4 == 10) && hasNext s w } : Case))) ++
    [0x70, 0x71].map (fun r => ({ row := r, w := word r [(52, 8)] } : Case))).all Case.holds = true := by
  decide +kernel

theorem witness_VectorConversions : (([0, 1, 2, 3, 4, 5, 6, 7].map (fun f => ({ row := 0x6C, w := word 0x6C [(52, f)], also := hasNext } : Case))) ++ ([
    { row := 0x6E, w := word 0x6E [] }, { row := 0x6E, w := word 0x6E [(16, 1)] },
    { row := 0x74, w := word 0x74 [], also := fun s w => (vVals 10 ((s.hand 0 0).vreg (fld w 42 5))).all FV.isFin },
    { row := 0x75, w := word 0x75 [], also := fun s w => (vVals 10 ((s.hand 0 0).vreg (fld w 42 5))).all (fun v =>
      v.isFin && (v.isZero || decide (v.floorLog2 < sInt 32 (((s.hand 0 0).vreg (fld w 37 5)).toNat % 2 ^ 32)))) },
    { row := 0x76, w := word 0x76 [(16, 1)] }, { row := 0x78, w := word 0x78 [(0, 6)] },
    { row := 0x78, w := word 0x78 [(0, 255)], also := fun s w => decide ((s.hand 0 0).seteb.toNat + 0x1000 + (fld w 0 8 - 16) * 256 + 256 ≤ 0x14000) },
    { row := 0x6D, w := word 0x6D [(52, 6)] }, { row := 0x6D, w := word 0x6D [(52, 2), (47, 1)] }, { row := 0x6D, w := word 0x6D [(52, 3)] },
    { row := 0x6D, w := word 0x6D [(52, 7), (47, 31), (32, 1)], also := fun _ w => fld w 32 5 != fld w 47 5 && fld w 32 5 != (fld w 47 5 + 1) % 32 },
    { row := 0x72, w := word 0x72 [(52, 9)] }, { row := 0x72, w := word 0x72 [(52, 10)] }, { row := 0x72, w := word 0x72 [(52, 8)] },
    { row := 0x6C, w := word 0x6C [(52, 8)] }, { row := 0x6D, w := word 0x6D [(52, 8)] }, { row := 0x6D, w := word 0x6D [(52, 0), (37, 1)] },
    { row := 0x78, w := word 0x78 [(0, 7)] },
    { row := 0x78, w := word 0x78 [(0, 255)], upd := withHand (fun d => { d with seteb := 0x8000 }),
      also := fun s w => decide (0x14000 < (s.hand 0 0).seteb.toNat + 0x1000 + (fld w 0 8 - 16) * 256 + 256) }] : List Case)).all Case.holds = true := by
  decide +kernel

/-! ### Witnesses: the Escapement, the watchdogs, VDL -/

/-- One entry of the beat table, due, of an action. -/
def beating (st act late : Nat) : State :=
  let e : Beat := { ft := 100, action := act, flags := 1 }
  { modIn st [] with beats := [(3, e)], time := { ft := 100 + late } }

theorem witness_BeatRecords : fwf ({} : Beat) (beating stRunning 0 0).beats = true ∧ (beating stRunning 0 0).nextBeat = some 3 ∧
    State.reset.nextBeat = none ∧ (beating stRunning 0 0).dueBeat = some 3 ∧ (beating stRunning 0 0).changes = [] ∧
    (let e := (beating stRunning 0 0).beat 3
     e.action = 0 ∧ e.tkind = 0 ∧ Nat.testBit e.flags 1 = false ∧ e.period = 0 ∧ { e with period := 7 }.period ≠ 0) ∧
    (beating stRunning 0 0).time.ft - ((beating stRunning 0 0).beat 3).ft ≤ (beating stRunning 0 0).odGet 0x4302 1 := by
  decide +kernel

/-- The beat of a state is due and within the limit. -/
def inTime (s : State) : Bool := s.dueBeat == some 3 && decide (s.time.ft - (s.beat 3).ft ≤ s.odGet 0x4302 1)

theorem witness_BeatsExecute : (∀ a ∈ [0, 1, 2, 3, 4, 5, 6, 7, 8], let s := beating stRunning a 1000000
      s.modState = stRunning ∧ inTime s = true ∧ s.beatFenced (s.beat 3) = false ∧ (s.beat 3).action = a) ∧
    (let s := beating stRunning 1 1000001
     s.dueBeat = some 3 ∧ (s.odGet 0x4302 1 : Int) < s.time.ft - (s.beat 3).ft) ∧ inTime (beating stHeld 1 0) = true ∧
    (let s := fenced1 { beating stRunning 1 0 with beats := [(3, { ft := 100, action := 1, flags := 1, tkind := 1, target := 1 })] }
     inTime s = true ∧ s.beatFenced (s.beat 3) = true) ∧
    (1 % 65536 = (State.reset.odGet 0x2010 1 + 1) % 65536 ∧ State.reset.odGet 0x2010 3 = State.reset.odGet 0x2010 1) ∧
    (let s := modIn stRunning [((0x2010, 1), 65535), ((0x2010, 3), 65535)]
     65536 % 65536 = (s.odGet 0x2010 1 + 1) % 65536 ∧ s.odGet 0x2010 3 = s.odGet 0x2010 1 ∧ 7 % 65536 ≠ (s.odGet 0x2010 1 + 1) % 65536) ∧
    (let e : Beat := { tkind := 2, target := 0x101 }
     e.tkind = 2 ∧ ({ tkind := 1 } : Beat).tkind = 1 ∧ ({} : Beat).tkind = 0) := by
  decide +kernel

theorem witness_WatchdogsAndDump :
    (let s := withHand (fun d => { d with st := .syncWait }) (running 0)
     0 < s.pinCount ∧ s.handStalled 0 0 = true ∧ s.inService 0 = true) ∧
    (let s := (running 0).unitMod 1 0 (fun u => { u with st := 2 })
     s.modState = stRunning ∧ s.pinSt 0 = 2 ∧ s.trainSt 1 0 = 2) ∧
    (let s := (running 0).unitMod 1 0 (fun u => { u with st := 1 })
     s.pinSt 0 = 1 ∧ s.trainSt 1 0 = 1) ∧
    (let s := (running 0).unitMod 2 0 (fun u => { u with st := 2 })
     s.modState = stRunning ∧ s.trainSt 2 0 = 2) ∧
    0 < State.trainCount 1 ∧ 0 < State.trainCount 2 ∧
    (running 0).silenceRuns 1 0 = true ∧ (running 0).silenceRuns 2 0 = true ∧ (running 0).trainSt 1 0 = 0 ∧ (running 0).trainSt 2 0 = 0 ∧
    (running 0).canRestart ((running 0).hand 0 0) = false ∧ (running 0).canRestart {} = true := by
  decide +kernel

/-- A hand with a restart record whose stream may restart. -/
def restartable (s : State) : State :=
  withHand (fun d => { d with
    stream := some { desc := BitVec.ofNat 256 (2 ^ 24), port := 0 },
    record := some { pc := 3, sregs := [], setv := 0, seteb := 0, stgBase := 0, stgSize := 0 } }) s

/-- Pinion 0 is about to stop. -/
def stopsFor (w : StopWhy) : State := (restartable (running 0)).pinMod 0 (fun x => { x with stopping := some w })

theorem witness_PinionsStop :
    (restartable (running 0)).canRestart ((restartable (running 0)).hand 0 0) = true ∧ ((restartable (running 0)).pin 0).stopping = none ∧
    ((stopsFor (.restart 1)).pin 0).stopping = some (.restart 1) ∧ State.pinQuiet ((stopsFor (.restart 1)).pin 0) = true ∧
    (stopsFor (.restart 1)).canRestart ((stopsFor (.restart 1)).hand 0 0) = true ∧
    State.pinQuiet ((stopsFor .fence).pin 0) = true ∧ ((stopsFor .fence).pin 0).stopping = some .fence ∧
    ((restartable (running 0)).hand 0 0).stream.isSome = true ∧ ((restartable (running 0)).hand 0 0).record.isSome = true := by
  decide +kernel

theorem witness_Dump :
    ({ State.reset with dieEsc := [1] } : State).dieEsc.contains 1 = true ∧ (State.reset.unit 4 1).held = false ∧
    (State.reset.unit 5 0).held = false ∧ ((State.reset.unitMod 4 1 (fun u => { u with held := true })).unit 4 1).held = true ∧
    (running 0).modState = stRunning ∧
    (let s := modIn stFaulted []
     s.modState = stFaulted ∧ s.plat.dumpStopped = false ∧ s.crown.down = false ∧ s.odGet 0x1010 6 ≠ s.odGet 0x1010 5) ∧
    (modIn stDumping []).modState = stDumping ∧
    (let s := modIn stDumping [((0x1010, 6), 3)]
     s.odGet 0x1010 6 = s.odGet 0x1010 5) := by
  decide +kernel

/-- VDL is up. -/
def linked (st : Nat) : State := modIn st [((0x1220, 1), 2)]

theorem witness_VdlAndCrown :
    (let s := { State.reset with plat := { State.reset.plat with released := [1] } }
     s.plat.released.contains 1 = true ∧ s.vdlPrbs = false ∧ s.crown.down = false ∧ s.modState ≠ stCold ∧ s.plat.recovery = false) ∧
    ({ State.reset with crown := { down := true } } : State).crown.down = true ∧ (linked stQuiet).vdlUp = true ∧ 0x1000000 < apertureBase ∧
    (linked stQuiet).inHbm 0 64 = true ∧ (linked stQuiet).wrong = [] ∧ (linked stQuiet).inHbm hbmUse 1 = false ∧
    (linked stRunning).vdlUp = true ∧ stRunning ∉ [stQuiet, stArmed, stHeld] ∧
    (let s : State := { linked stQuiet with wrong := [(0, 2)] }
     s.wrongLine [(0, 64)] = some 0 ∧ s.inHbm 0 64 = true) ∧ (linked stBoot).vdlUp = true ∧ (linked stBoot).modState = stBoot ∧
    0x1FFFFF < 0x200000 ∧ 0x200000 ≤ 0x20FFFF ∧ 0x210000 < 0x20FFFF + 2 := by
  decide +kernel

/-! ### Witnesses: near links and collectives -/

/-- Near port 5 of module 9 in a state of its training. -/
def port5 (st : Nat) (again : Bool) : State :=
  { modIn stQuiet [((0x4100, 3), 9)] with near := [(5, { st := st, retrained := again })] }

/-- A layout of two modules, 0 with some roles and 1 with others; this module is 0. -/
def siteOf (roles roles1 st : Nat) : State :=
  State.blobSet (modIn st [((0x4100, 3), 0)]) 0x2010 2 (toLe 4 0x544F594C ++ [1, 2] ++ zeros 58 ++ (toLe 1 0 ++ toLe 1 roles ++ zeros 14) ++
    (toLe 1 1 ++ toLe 1 roles1 ++ zeros 14))

theorem witness_NearPorts : (port5 1 false).smn < 64 ∧ stBoot < (port5 1 false).modState ∧ ((port5 1 false).nport 5).st ∉ [2, 3, 4] ∧
    ((port5 3 false).nport 5).st = 3 ∧ wiredPeer 9 5 ≠ (9, 5) ∧ (port5 2 true).nearUp 5 = true ∧ ((port5 2 true).nport 5).retrained = true ∧
    wiredPeer 9 5 = (15, 1) ∧ ((port5 1 false).nport 5).st = 1 ∧ ((port5 2 false).nport 5).retrained = false ∧
    ((port5 0 false).nport 5).st ∉ [1, 3] ∧ (port5 0 false).nearUp 5 = false ∧ State.reset.modState ≤ stBoot ∧
    64 ≤ (modIn stQuiet [((0x4100, 3), 64)]).smn ∧ (siteOf 1 1 stQuiet).memberLost 0 = true ∧
    ({ siteOf 1 1 stQuiet with near := [(0, { st := 2 })] } : State).memberLost 0 = false := by
  decide +kernel

/-- The header of a flit with a sound CRC over an empty body. -/
def flitHead (ack : Bool) (seq : Nat) : List Byte :=
  let rest := slice (toLe 8 ((if ack then 2 ^ 20 else 0) + seq * 2 ^ 52)) 2 6
  toLe 2 (crc16 (rest ++ zeros 248)) ++ rest ++ zeros 248

/-- A flit's CRC is right. -/
def flitOk (b : List Byte) : Bool := rdLe b 0 8 % 65536 == crc16 (slice b 2 6 ++ slice b 8 248)

/-- A whole packet with its CRC-64. -/
def rawPacket (dst typ : Nat) : List Byte :=
  let b := pktHeader dst 1 typ 0 0 0 0 0 0 0 []
  b ++ toLe 8 (crc64 b)

/-- A packet's CRC-64 is right, and its TYPE may travel on a channel. -/
def packetOk (raw : List Byte) (vc : Nat) : Bool :=
  leNat (slice raw 64 8) == crc64 (slice raw 0 64) && rdLe raw 8 2 == 0 && typeOnVc (rdLe raw 2 1) vc

theorem witness_FlitsArrive : flitOk (flitHead false 0) = true ∧ flitOk (flitHead true 7) = true ∧ flitOk (flitHead false 4095) = true ∧
    flitOk (flitHead false 1) = true ∧ flitOk (zeros 256) = false ∧ bitN (rdLe (flitHead true 7) 0 8) 20 = true ∧
    bitsN (rdLe (flitHead false 4095) 0 8) 52 12 = 4095 ∧ ((port5 2 false).nport 5).rxSeq = 0 ∧ ((port5 2 false).nport 5).resync = false ∧
    (0 + 4096 - 4095) % 4096 ≤ 2048 ∧ 2048 < (0 + 4096 - 1) % 4096 := by
  decide +kernel

theorem witness_PacketsHop : packetOk (rawPacket 9 0x10) 0 = true ∧ packetOk (zeros 72) 0 = false ∧ rdLe (rawPacket 9 0x10) 0 1 = (port5 2 false).smn ∧
    packetOk (rawPacket 10 0x10) 0 = true ∧ rdLe (rawPacket 10 0x10) 0 1 ≠ (port5 2 false).smn ∧ packetOk (rawPacket 10 0x13) 0 = true ∧
    (let b := rawPacket 9 1
     leNat (slice b 64 8) = crc64 (slice b 0 64) ∧ typeOnVc (rdLe b 2 1) 0 = false) := by
  decide +kernel

/-- A state in which a packet from module 1 has arrived, of a TYPE, COLL, EPOCH and ARG1, with a payload. -/
def received (vc typ coll epoch arg1 : Nat) (body : List Byte) (s : State) : State :=
  { s with rx := [{ port := 0, vc := vc, bytes := pktHeader 0 1 typ 1 coll epoch body.length 0 0 arg1 [] ++ body }] }

/-- The packet taken, and the state without it. -/
def taken (typ : Nat) (s : State) : Option (RxPkt × State) := s.takeRx 1 typ

/-- The packet that waits has a property, together with the state left. -/
def takes (typ : Nat) (P : RxPkt → State → Bool) (s : State) : Bool :=
  match taken typ s with
  | some (x, t) => P x t
  | none => false

/-- A CTRL packet of a type and reason is sound. -/
def ctrlBody (t r : Nat) : List Byte := toLe 1 t ++ toLe 1 r ++ zeros 30

theorem witness_ControlPacketsAct : takes 0x10 (fun x _ => x.ordered && x.seq == 0) (received 0 0x10 0 0 0 (zeros 8) State.reset) = true ∧
    takes 0x11 (fun x _ => x.body.length == 16 && rdLe x.body 0 1 == 8) (received 0 0x11 0 0 0 ([8] ++ zeros 15) State.reset) = true ∧
    takes 0x11 (fun x _ => rdLe x.body 0 1 == 9) (received 0 0x11 0 0 0 ([9] ++ zeros 15) State.reset) = true ∧
    takes 0x12 (fun x _ => x.body.length == 32) (received 0 0x12 0 0 0 (zeros 32) State.reset) = true ∧
    takes 0x12 (fun x _ => x.body.length != 32) (received 0 0x12 0 0 0 (zeros 31) State.reset) = true ∧
    takes 0x14 (fun x t => ctrlOk x && rdLe x.body 0 1 == 1 && rdLe x.body 1 1 == 3 &&
      t.lModules.any (fun m => m.smn == rdLe x.body 2 1 && Nat.testBit m.roles 2))
        (received 0 0x14 0 0 0 (toLe 1 1 ++ toLe 1 3 ++ toLe 1 1 ++ zeros 29) (siteOf 3 5 stRunning)) = true ∧
    takes 0x14 (fun x _ => !ctrlOk x) (received 0 0x14 0 0 0 (ctrlBody 6 0) State.reset) = true ∧
    takes 0x14 (fun x t => ctrlOk x && rdLe x.body 0 1 == 3 && (t.coll.outs.find? (fun o => State.outIs o 1 x.coll 4 0)).isNone)
      (received 0 0x14 7 0 0 (ctrlBody 3 1) State.reset) = true ∧ State.reset.takeRx 1 0x14 = none ∧ State.reset.takeRx 1 0x10 = none ∧
    (∀ q ∈ [(1, 1), (4, 0), (5, 0), (3, 2), (2, 0)], takes 0x14 (fun x _ => ctrlOk x && rdLe x.body 0 1 == q.1)
      (received 0 0x14 0 0 0 (ctrlBody q.1 q.2) State.reset) = true) ∧
    (let o : OutStream := { q := 2, idx := 0, dst := 1, vc := 3, coll := 7, epoch := 0, stype := 4, rank := 0, arg1 := 0, chunks := [] }
     takes 0x14 (fun x t => t.coll.outs.find? (fun o => State.outIs o 1 x.coll 4 0) == some o && rdLe x.body 0 1 == 3)
       (received 0 0x14 7 0 0 (ctrlBody 3 1) { State.reset with coll := { outs := [o] } }) = true) ∧
    (let e := zeros 2 ++ toLe 2 7 ++ zeros 60
     takes 0x14 (fun x t => t.coll.gathers == [e] && t.coll.queues.isEmpty && rdLe e 2 2 == x.coll && rdLe e 4 2 == x.epoch && rdLe x.body 0 1 == 2)
       (received 0 0x14 7 0 0 (ctrlBody 2 0) { State.reset with coll := { gathers := [e] } }) = true) ∧
    takes 8 (fun _ t => t.isGateway && decide (1 ≠ t.smn)) (received 5 8 0 0 0 [] (siteOf 3 0 stRunning)) = true ∧
    takes 8 (fun _ t => !t.isGateway && t.gatewayOf == some 1) (received 5 8 0 0 0 [] (siteOf 1 2 stRunning)) = true ∧
    takes 8 (fun _ t => !t.isGateway && t.gatewayOf != some 1) (received 5 8 0 0 0 [] (siteOf 1 1 stRunning)) = true ∧
    (∀ r ∈ [(1, true), (16, false)], let s := received 7 9 0 0 0 (copFrame 0x11 0 0 0 0 [] []) (siteOf 1 r.1 stQuiet)
      s.crownServes = true ∧ takes 9 (fun x t => frameForm x.body && fSession x.body == 0 && fMac x.body == zeros 16 &&
        t.siteMembers.contains 1 == r.2) s = true) := by
  decide +kernel

/-- A stream that this module expects from module 1. -/
def expects (typ epoch : Nat) : InStream := { src := 1, coll := 7, epoch := epoch, stype := typ, rank := 0, vc := 1 }

/-- A PUT of 64 bytes to an address, its only chunk. -/
def putting (a : Nat) : State :=
  { modIn stRunning [] with
    coll := { ins := [expects 4 0] },
    rx := [{ port := 0, vc := 1, bytes := pktHeader 0 1 4 1 7 0 64 0 a 0 [] ++ zeros 64 }] }

/-- The stream that a chunk of a PUT goes to. -/
def putStream (t : State) (x : RxPkt) : InStream :=
  let fresh : InStream := { src := 1, coll := x.coll, epoch := x.epoch, stype := 4, rank := x.rank, vc := x.vc }
  let held := (t.inStream 1 x.coll 4 x.rank).getD fresh
  let k := if State.inDone held && x.seq == 0 && held.chunks.isEmpty && held.zeroth != x.bytes then fresh else held
  if x.seq = 0 && k.zeroth.isEmpty then { k with zeroth := x.bytes } else k

/-- What the last chunk of a PUT meets, and the reason of its fault. -/
def putEnds (a why : Nat) : Bool :=
  takes 4 (fun x t => x.epoch == (putting a).odGet 0x2010 1 && (let r := t.storeChunk (putStream t x) x true
      r.2 && (match r.1.inStream 1 x.coll 4 x.rank with
        | some k => (match k.chunks.find? (fun c => c.1 == 0) with
          | some c => putFaultReason r.1 c.2.1 (State.inBytes k).length == why
          | none => false)
        | none => false))) (putting a)

/-- The same chunk again after its PUT has ended: nothing opens. -/
def putAgain : Bool :=
  let ended : InStream := { expects 4 0 with next := 1, last := some 0, zeroth := pktHeader 0 1 4 1 7 0 64 0 0x1000 0 [] ++ zeros 64 }
  takes 4 (fun x t => x.epoch == 0 && State.inDone (putStream t x) && !(t.storeChunk (putStream t x) x true).2)
    { putting 0x1000 with coll := { ins := [ended] } }

theorem witness_ChunksAct : (∀ typ ∈ [1, 2, 3, 5, 6, 7], takes typ (fun x t => t.inStream 1 x.coll typ x.rank == some (expects typ 0) && x.epoch == 0)
      (received 1 typ 7 0 0 [] { modIn stRunning [] with coll := { ins := [expects typ 0] } }) = true) ∧
    (∀ typ ∈ [1, 2, 3, 5, 6], takes typ (fun x t => x.epoch != t.odGet 0x2010 1 && (x.epoch + 1) % 65536 != t.odGet 0x2010 1)
      (received 1 typ 7 9 0 [] (modIn stRunning [])) = true) ∧
    (∀ typ ∈ [1, 2, 3, 4, 5, 6], takes typ (fun x t => x.epoch != t.odGet 0x2010 1 && (x.epoch + 1) % 65536 == t.odGet 0x2010 1)
      (received 1 typ 7 65535 0 [] (modIn stRunning [])) = true) ∧
    (∀ typ ∈ [1, 2, 3, 5, 6, 7], takes typ (fun x t => x.epoch == 0 && (t.inStream 1 x.coll typ x.rank).isNone)
      (received 1 typ 7 0 0 [] (modIn stRunning [])) = true) ∧
    (let s := received 1 7 7 0 0 [] { modIn stRunning [] with coll := { ins := [expects 7 0] } }
     takes 7 (fun x _ => takes 7 (fun y t => t.inStream 1 y.coll 7 y.rank == some (expects 7 0)) (stageChunk s x)) s = true) ∧
    putEnds 0x1000 0 = true ∧ putEnds hbmUse 2 = true ∧ putAgain = true ∧ State.reset.takeRx 1 4 = none ∧
    (State.reset.cqueue 5).run = [] ∧ State.reset.coll.outs[0]? = none ∧
    (let e : CEntry := { idx := 0, desc := zeros 6 ++ [1] ++ zeros 57 }
     let s : State := { State.reset with coll := { queues := [(5, { run := [e] })] } }
     (s.cqueue 5).run.find? (fun e => !e.finished && permReady s 5 e) = some e) ∧
    (let o : OutStream := { q := 1, idx := 0, dst := 1, vc := 1, coll := 7, epoch := 0, stype := 1, rank := 0, arg1 := 0, chunks := [(0, [])],
                            acked := 1, sent := 1 }
     let s : State := { State.reset with coll := { outs := [o] } }
     s.coll.outs[0]? = some o ∧ o.acked ≠ 0) := by
  decide +kernel

/-- Fields (offset, bytes, value) written at an address. -/
def place (a : Nat) (fs : List (Nat × Nat × Nat)) (s : State) : State :=
  fs.foldl (fun t f => t.memWrite (a + f.1) (toLe f.2.1 f.2.2)) s

/-- An entry of a kind at the head of collective queue v, rung, its descriptor at 0x200000; module 0 is alone in group 0. -/
def collEntry (v kind : Nat) (fs : List (Nat × Nat × Nat)) : State :=
  let s := (State.blobSet (modIn stArmed [((0x4100, 3), 0)]) 0x4100 1 ([1] ++ zeros 31)).syncMod (0x32020 + (v - 1)) (fun o => { o with count := 1 })
  place 0x200000 ((0, 1, kind) :: fs) (place ((v - 1) * 0x4000) [(0, 1, kind), (8, 8, 0x200000)] s)

/-- The entry may start, or is refused with a reason. -/
def collStarts (s : State) (v : Nat) (why : Option Nat) : Bool :=
  let en := s.ringEntry (s.cqSpec v).base (s.cqueue v).next.toNat
  s.queuesStart && s.rung (s.cqSpec v).door (s.cqueue v).next && decide (((s.cqueue v).run.filter (fun e => !e.finished)).length < s.odGet 0x5400 3) &&
    collReason s v en.kind en == why && s.wrong.isEmpty && (!s.epochWaits (s.readNat (en.desc + 4) 2) || en.kind == 7)

theorem witness_CollectivesStart :
    collStarts (collEntry 1 1 [(6, 1, 9), (8, 8, 0x1000000), (0x10, 8, 0x2000000), (0x18, 8, 2048), (0x20, 8, 0x3000000)]) 1 none = true ∧
    collStarts (place 0x1000000 [(0, 4, 0x44524853), (6, 1, 1)] (collEntry 1 2 [(8, 8, 0x1000000), (0x10, 8, 0x2000000), (0x18, 8, 2048)])) 1 none = true ∧
    collStarts (collEntry 2 3 [(8, 8, 0x1000000), (0x10, 8, 0x2000000), (0x18, 8, 1)]) 2 none = true ∧
    collStarts (collEntry 3 4 [(1, 1, 1), (8, 8, 0x1000000), (0x10, 8, 0x2000000), (0x18, 8, 64)]) 3 none = true ∧
    (∀ k ∈ [5, 6], collStarts (collEntry 4 k [(6, 1, 1), (8, 8, 0x1000000), (0x10, 8, 0x2000000), (0x18, 4, 1), (0x1C, 2, 64), (0x1E, 2, 1),
      (0x20, 8, 0x3000000), (0x28, 8, 0x4000000), (0x34, 4, 0x3F800000), (0x38, 8, if k = 5 then 0x5000000 else 0)]) 4 none = true) ∧
    collStarts (collEntry 5 7 [(4, 2, 1), (6, 1, 1), (8, 8, 0x1000000), (0x10, 8, 0x2000000)]) 5 none = true ∧
    (∀ q ∈ [(1, 1), (1, 2), (2, 3), (4, 5), (4, 6), (5, 7)], collStarts (collEntry q.1 q.2 [(1, 1, 0xFF)]) q.1 (some 4) = true) ∧
    collStarts (collEntry 3 4 [(4, 2, 9), (8, 8, 1)]) 3 (some 2) = true := by
  decide +kernel

/-- A REDUCE entry that passes its checks. -/
def aReduce (epoch : Nat) : State :=
  collEntry 1 1 [(4, 2, epoch), (6, 1, 9), (8, 8, 0x1000000), (0x10, 8, 0x2000000), (0x18, 8, 2048), (0x20, 8, 0x3000000)]

theorem witness_CollectivesWait :
    (let s := (aReduce 1).odSet 0x2010 3 1
     hbmOk s 0x200000 64 = true ∧ s.epochWaits (s.readNat 0x200004 2) = true) ∧ State.reset.queuesStart = false ∧
    (let s : State := { aReduce 0 with wrong := [(0, 2)] }
     s.wrongLine [((s.cqSpec 1).base, 16)] = some 0) ∧
    (let s : State := { aReduce 0 with wrong := [(0x1000000 / 64, 2)] }
     let en := s.ringEntry (s.cqSpec 1).base 0
     collReason s 1 1 en = none ∧ s.wrongLine [((s.cqSpec 1).base, 16)] = none ∧
       s.wrongLine ((en.desc, 64) :: collReads s 1 (s.readBytes en.desc 64)) = some 0x1000000) ∧
    ((aReduce 0).ringEntry ((aReduce 0).cqSpec 1).base 0).kind ≠ 2 := by
  decide +kernel

/-! ### Witnesses: the machine -/

theorem witness_StepRunsFrontCommand : ({ State.reset with pending := [.clamp, .idcode] } : State).pending = [Instr.clamp, .idcode] ∧
    State.reset.pending = [] := by
  decide +kernel

theorem witness_StepKeepsLegal : Memory.wf State.reset = true ∧ State.reset.modState ≤ 7 ∧ step State.reset = .next State.reset.tick := by
  refine ⟨by decide +kernel, by decide +kernel, rfl⟩

/-- A property of the next state that an outcome answers. -/
def nextIs (o : Host.Outcome State Fault Refusal) (P : State → Bool) : Bool :=
  match o with
  | .next t => P t
  | .fault _ => false
  | .refused _ => false

theorem witness_CommandsLeaveQueue : nextIs (exec (.bypass true) { State.reset with pending := [.clamp] }) (fun t => t.pending == [.clamp]) = true ∧
    nextIs (step { State.reset with pending := [.bypass true, .clamp] }) (fun t => t.pending == [.clamp]) = true ∧
    nextIs (exec .sagWarning State.reset) (fun t => t.pending == []) = true := by
  decide +kernel

/-! ### Witnesses: update units and Fusees -/

/-- The entry of a kind at the head of update unit 0, rung, its descriptor at 0x200000. -/
def unitEntry (kind : Nat) (fs : List (Nat × Nat × Nat)) : State :=
  let s := (modIn stArmed []).syncMod 0x32000 (fun o => { o with count := 1 })
  place 0x200000 fs (place 0 [(0, 1, kind), (8, 8, 0x200000)] s)

/-- Fields written at an address of any tier. -/
def placeAny (a : Nat) (fs : List (Nat × Nat × Nat)) (s : State) : State :=
  fs.foldl (fun t f => t.writeBytes (a + f.1) (toLe f.2.1 f.2.2)) s

/-- A shard of tensor 0 with 64 elements of FP32, with FLAGS. -/
def withShard (a flags : Nat) (s : State) : State :=
  placeAny a [(0, 4, 0x44524853), (4, 1, 1), (5, 1, 9), (6, 1, flags), (0x18, 8, 64), (0x28, 8, 256)] s

/-- The slow tier is mapped. -/
def withSlowTier (s : State) : State := s.odSet 0x3000 2 0x100000

/-- The descriptor at the head of update unit 0. -/
def head0 (s : State) : List Byte := s.readBytes (uqEntry s 0).desc 64

theorem witness_LogApplyOpen :
    let s := (unitEntry 6 []).odSet 0x3500 2 1
    UnitRuns s 0 6 (head0 s) ∧ s.logWrong = none ∧ s.logOk = false := by
  unfold UnitRuns; decide +kernel

/-- A TIESUM of two buffers, and a NORM. -/
def aTiesum : State := unitEntry 1 [(4, 1, 2), (5, 1, 9), (8, 8, 16), (0x10, 8, 0x300000), (0x20, 8, 0x300000), (0x28, 8, 0x310000)]
/-- A NORM of 16 values, of an epoch. -/
def aNorm (epoch : Nat) : State := unitEntry 2 [(6, 2, epoch), (8, 8, 0x300000), (0x10, 8, 16), (0x18, 8, 0x310000)]
/-- An INNER on a shard, of a rule with scalars c and n. -/
def anInner (a flags rule c : Nat) : State :=
  placeAny a [] (withShard a flags (place 0x330000 [(0, 4, c), (64, 4, 0x40000000)] (withSlowTier (unitEntry 3 [(4, 1, rule), (8, 8, a),
    (0x10, 8, 0x320000), (0x18, 4, 64), (0x20, 8, 0x330000), (0x28, 8, if rule = 2 then 0x330040 else 0)]))))

theorem witness_UpdateEntries : UnitRuns aTiesum 0 1 (head0 aTiesum) ∧ UnitRuns (aNorm 0) 0 2 (head0 (aNorm 0)) := by
  unfold UnitRuns; decide +kernel

/-- OUTER on a shard with its momentum at an address. -/
def anOuter (a flags m : Nat) : State := withShard a flags (withSlowTier (unitEntry 4 [(8, 8, a), (0x10, 8, 0x320000), (0x18, 8, m)]))
/-- DIGEST of a shard, of a mode. -/
def aDigest (a flags mode : Nat) : State := withShard a flags (withSlowTier (unitEntry 5 [(4, 1, mode), (8, 8, a), (0x10, 8, if mode = 1 then 0x320000 else 0)]))
/-- A coordinate record's entry, of a direction. -/
def aCoord (dir : Nat) : State := withShard 0x300000 1 (unitEntry 7 [(4, 1, dir), (8, 8, 0x300000), (0x10, 8, 0x320000), (0x1C, 4, 8), (0x24, 4, 8)])
/-- An import whose record is right: header, coordinates, zeros as the payload, its digest. -/
def goodImport : State :=
  let s := aCoord 1
  (withShard 0x320000 1 (place 0x320040 [(4, 4, 8), (0xC, 4, 8)] s)).writeBytes 0x320030 (foldDigest s (zeros 256))

theorem witness_UpdateShards : UnitRuns (anOuter 0x300000 1 0x330000) 0 4 (head0 (anOuter 0x300000 1 0x330000)) ∧
    (let s := anOuter slowBase 3 (slowBase + 0x1000)
     UnitRuns s 0 4 (head0 s) ∧ shSlow (s.shard slowBase) = true) ∧
    (∀ mode ∈ [0, 1], UnitRuns (aDigest 0x300000 1 mode) 0 5 (head0 (aDigest 0x300000 1 mode)) ∧ rdLe (head0 (aDigest 0x300000 1 mode)) 4 1 = mode) ∧
    UnitRuns (unitEntry 6 []) 0 6 (head0 (unitEntry 6 [])) := by
  unfold UnitRuns; decide +kernel

theorem witness_UpdateRecords : UnitRuns (aCoord 0) 0 7 (head0 (aCoord 0)) ∧ UnitRuns (aCoord 1) 0 7 (head0 (aCoord 1)) ∧ importOk (aCoord 1) (head0 (aCoord 1)) = false ∧
    UnitRuns goodImport 0 7 (head0 goodImport) ∧ importOk goodImport (head0 goodImport) = true := by
  unfold UnitRuns; decide +kernel

theorem witness_UpdateRefused : uqReady (aNorm 9) 0 = true ∧ (uqEntry (aNorm 9) 0).kind = 2 ∧ (uqEntry (aNorm 9) 0).rsv = 0 ∧
    hbmOk (aNorm 9) (uqEntry (aNorm 9) 0).desc 64 = true ∧ (aNorm 9).epochWaits (rdLe (head0 (aNorm 9)) 6 2) = false ∧
    unitReason (aNorm 9) 0 2 (head0 (aNorm 9)) 1 = some 6 ∧
    (let s := (aNorm 9).odSet 0x2010 3 9
     uqReady s 0 = true ∧ s.epochWaits (rdLe (head0 s) 6 2) = true ∧ 0 ∉ s.qWait ∧ 0 ∈ ({ s with qWait := [0] } : State).qWait) := by
  decide +kernel

/-- The line of the entry at the head of update unit 0 holds an error. -/
def headWrong (s : State) : State := { s with wrong := [(0, 2)] }

theorem witness_UpdateHeads : uqReady State.reset 0 = false ∧
    (headWrong (aNorm 0)).wrongLine [((uqSpec (aNorm 0) 0).base + (uqNextOf (aNorm 0) 0).toNat % 1024 * 16, 16)] = some 0 ∧
    (∀ k ∈ [0, 8], uqReady (unitEntry k []) 0 = true ∧ (uqEntry (unitEntry k []) 0).kind = k ∧
      (unitEntry k []).epochWaits (rdLe (head0 (unitEntry k [])) 6 2) = false) ∧
    (uqEntry (place 0 [(1, 1, 1)] (aNorm 0)) 0).rsv ≠ 0 ∧ hbmOk (place 0 [(8, 8, hbmUse)] (aNorm 0)) hbmUse 64 = false ∧
    rdLe (head0 (aCoord 1)) 4 1 = 1 ∧ rdLe (head0 (aCoord 0)) 4 1 = 0 ∧ rdLe (head0 (aCoord 2)) 4 1 = 2 ∧
    (let s : State := { aNorm 0 with wrong := [(0x300000 / 64, 2)] }
     unitReason s 0 2 (head0 s) 1 = none ∧ s.wrongLine (unitReads s 2 (head0 s) (uqEntry s 0).desc) = some 0x300000) ∧
    tiesumReason (place 0x200000 [(4, 1, 1)] aTiesum) 0 0x200000 = some 1 ∧
    (let s : State := { (unitEntry 6 []).odSet 0x3500 2 1 with wrong := [(logAddr (unitEntry 6 []) 0 / 64, 2)] }
     UnitRuns s 0 6 (head0 s) ∧ s.logWrong.isSome = true) := by
  unfold UnitRuns; decide +kernel

theorem witness_InnerSteps : (∀ q ∈ [(0x300000, 1, 0, 0x3F800000), (0x300000, 1, 2, 0x3F800000), (slowBase, 3, 1, 0x3F000000), (0x300000, 1, 0, 0)],
      UnitRuns (anInner q.1 q.2.1 q.2.2.1 q.2.2.2) 0 3 (head0 (anInner q.1 q.2.1 q.2.2.1 q.2.2.2))) ∧
    gateFails 0 0 0 = true ∧ gateFails 0 0x3F800000 0 = false ∧ gateFails 2 0x3F800000 0x40000000 = false ∧
    gateFails 1 0x3F000000 0 = false ∧ firstBad [dec32 0, dec32 0x3F800000] = none ∧ firstBad [dec32 0, dec32 0x7F800000] = some 1 ∧
    shSlow ((anInner slowBase 3 1 0).shard slowBase) = true := by
  unfold UnitRuns; decide +kernel

theorem witness_InnerLate :
    let s := (anInner 0x300000 1 0 0x3F800000).memWrite 0x320004 (toLe 4 0x7F800000)
    UnitRuns s 0 3 (head0 s) ∧ firstBad ((numsOf 4 (s.readBytes 0x320000 256)).map dec32) = some 1 := by
  unfold UnitRuns; decide +kernel

theorem witness_InnerLogs :
    let s := (anInner slowBase 3 1 0x3F800000).odSet 0x3100 3 0x100000
    let gs := (numsOf 4 (s.readBytes 0x320000 256)).map dec32
    UnitRuns s 0 3 (head0 s) ∧ (((List.range 1).zip (chunksOf 64 gs)).foldl (innerLogRow (head0 s) 0 64) (s, false)).2 = false := by
  unfold UnitRuns; decide +kernel

/-- The entry of a kind at the head of Fusee 0. -/
def fuseeEntry (kind : Nat) (fs : List (Nat × Nat × Nat)) : State :=
  let s := modIn stArmed []
  let door := s.odGet 0x7800 2
  place 0x200000 fs (place (s.odGet 0x7800 1) [(0, 1, kind), (8, 8, 0x200000)] (s.syncMod door (fun o => { o with count := 1 })))

/-- The descriptor at the head of Fusee 0. -/
def fHead (s : State) : List Byte := s.readBytes (s.ringEntry (fqSpec s 0).base (fqNext s 0).toNat).desc 64

theorem witness_FuseesRun : (∀ q ∈ [(1, [(8, 4, 1), (0xC, 4, 64), (0x10, 8, 0x300000), (0x18, 8, 0x310000), (0x20, 8, 0x320000), (0x28, 8, 0x330000)]),
      (2, [(4, 4, 4), (8, 4, 64), (0xC, 4, 64), (0x10, 8, 0x300000), (0x20, 8, 0x320000), (0x28, 8, 0x330000)]),
      (3, [(8, 4, 1), (0xC, 4, 64), (0x10, 8, 0x300000), (0x18, 8, 0x310000), (0x20, 8, 0x320000), (0x28, 8, 0x330000)]),
      (4, [(8, 4, 1), (0xC, 4, 64), (0x10, 8, 0x300000), (0x20, 8, 0x320000), (0x28, 8, 0x330000)]),
      (5, [(0x10, 8, 0x300000), (0x28, 8, 0x330000), (0x38, 8, 64)]),
      (6, [(0x10, 8, 0x300000), (0x28, 8, 0x330000), (0x38, 8, 64)])], FuseeRuns (fuseeEntry q.1 q.2) 0 q.1 (fHead (fuseeEntry q.1 q.2))) := by
  unfold FuseeRuns; decide +kernel

/-- A CHECK entry of an epoch. -/
def aCheck (epoch : Nat) : State := fuseeEntry 5 [(6, 2, epoch), (0x10, 8, 0x300000), (0x28, 8, 0x330000), (0x38, 8, 64)]

/-- Where the ring of Fusee 0 begins. -/
def fRing (s : State) : Nat := (fqSpec s 0).base + (fqNext s 0).toNat % 1024 * 16

theorem witness_FuseeHeads : State.reset.queuesStart = false ∧ (let s := (aCheck 1).odSet 0x2010 3 1
     hbmOk s (s.ringEntry (fqSpec s 0).base 0).desc 64 = true ∧ s.epochWaits (rdLe (fHead s) 6 2) = true ∧ 48 ∉ s.qWait) ∧
    (let s : State := { aCheck 0 with wrong := [(fRing (aCheck 0) / 64, 2)] }
     (s.wrongLine [(fRing s, 16)]).isSome = true) ∧
    (∀ k ∈ [0, 7], let s := fuseeEntry k []
     s.rung (fqSpec s 0).door (fqNext s 0) = true ∧ (s.ringEntry (fqSpec s 0).base 0).kind = k) ∧
    fReason (aCheck 9) 5 (fHead (aCheck 9)) = some 6 ∧
    (let s : State := { aCheck 0 with wrong := [(0x300000 / 64, 2)] }
     fReason s 5 (fHead s) = none ∧ s.wrongLine (((s.ringEntry (fqSpec s 0).base 0).desc, 64) ::
       (fRanges 5 (fHead s)).filter (fun q => q.1 != fDst (fHead s) && q.1 != fResult (fHead s))) = some 0x300000) := by
  decide +kernel

theorem witness_MemoryKeeps : State.reset.modState < stQuiet ∧ (let s := modIn stQuiet []
    s.odGet 0x3300 1 ≠ 0 ∧ stQuiet ≤ s.modState ∧ 0x1000 < barrelBase ∧ 0x1000 / hbmStride < 8 ∧ 0x1000 % hbmStride < hbmSize ∧
    (s.odSet 0x3300 1 0).odGet 0x3300 1 = 0 ∧ s.inSlow slowBase 1 = false ∧ (withSlowTier s).inSlow slowBase 1 = true) ∧
    barrelBase ≤ daAddr 0 ∧ daAddr 6143 < slowBase ∧ 0x1000 + 64 ≤ shadowBase := by
  decide +kernel

/-! ### Witnesses: the far link -/

/-- A roster of two sites: their addresses and one gateway key for both. -/
def roster2 (key : List Byte) : List Byte :=
  [0, 0, 0, 0, 1, 2] ++ zeros 122 ++ ([1] ++ zeros 31 ++ padTo 32 key ++ zeros 64) ++ ([2] ++ zeros 31 ++ padTo 32 key ++ zeros 64)

/-- The gateway of a site of the two, far port 0 up, with its peer, the other site. -/
def gateway (own : Nat) (p : FarPeer) (key : List Byte := []) : State :=
  let s := State.blobSet (siteOf 3 0 stQuiet) 0x6001 1 (roster2 key)
  ((s.odSet 0x6001 2 own).odSet 0x6000 1 2).fpeerMod (1 - own) (fun _ => p)

/-- A peer with a key of epoch 0 under session 5. -/
def keyed (st : Nat) : FarPeer :=
  { st := st, session := 5, keys := [{ epoch := 0, keyOut := zeros 32, saltOut := zeros 4, keyIn := zeros 32, saltIn := zeros 4 }] }

/-- The address of a site's port 0. -/
def addrOf16 (i : Nat) : List Byte := [BitVec.ofNat 8 (i + 1)] ++ zeros 15

/-- A frame of the other site, sealed under the peer's key. -/
def sealed (own typ no seq : Nat) (body : List Byte) : List Byte :=
  let h := farHeader typ 0 (1 - own) own body.length no 5 seq
  let c := gcmSeal (zeros 32) (zeros 4 ++ toLe 8 no) h body
  h ++ c.1 ++ c.2

/-- The frame opens, with a property of the state and what it brings. -/
def opens (s : State) (bytes : List Byte) (typ : Nat) (P : State → Nat → List Byte → List Byte → Bool) : Bool :=
  match s.farOpen 0 (addrOf16 (1 - s.ownSite)) bytes typ with
  | (t, some (i, h, b)) => P t i h b
  | (_, none) => false

/-- A data header of a kind, as the plain body of a DATA frame. -/
def aData (kind : Nat) : List Byte := dataHeader kind 1 0 1 0 0 16 ++ zeros 16

theorem witness_FarFramesAct :
    opens (gateway 0 (keyed 2)) (sealed 0 1 0 0 (aData 1)) 1 (fun t i h b => dataForm b && (t.seqArrives i h).2) = true ∧
    opens (gateway 0 { keyed 2 with cum := 1 }) (sealed 0 1 0 0 (aData 1)) 1 (fun t i h b => dataForm b && !(t.seqArrives i h).2) = true ∧
    opens (gateway 0 (keyed 2)) (sealed 0 2 0 0 (zeros 24)) 2 (fun _ _ _ b =>
      b.length == 24 + 16 * rdLe b 0xE 1 && decide (rdLe b 0xE 1 ≤ 8) && zeroAt b 0xF 1 && decide (rdLe b 0xD 1 < 4)) = true ∧
    opens (gateway 0 (keyed 2)) (sealed 0 3 0 0 (zeros 16)) 3 (fun t i h b =>
      b.length % 16 == 0 && b.length != 0 && decide (b.length ≤ 1024) && (t.seqArrives i h).2) = true ∧
    opens (gateway 0 (keyed 2)) (sealed 0 4 0 0 []) 4 (fun _ i _ b => i == 1 && b == []) = true ∧
    ((gateway 0 (keyed 2)).farOpen 0 (addrOf16 1) (sealed 0 1 0 0 (aData 1) ++ [0]) 1).2 = none ∧
    (keyed 2).cum ≤ 3 ∧ 3 ∉ (keyed 2).held := by
  decide +kernel

theorem witness_FarPeers :
    (({ keyed 2 with ackDue := 1 } : FarPeer).ackDue ≠ 0) ∧ (gateway 0 (keyed 2)).fpeer 1 = keyed 2 ∧
    (let x : FarSlot := { seq := 4, retire := false, msg := 0, kind := 1, shard := 0, round := 0, slot := 0, len := 64, ready := true, lastNo := 1 }
     ({ keyed 2 with slots := [x] } : FarPeer).slots.any (fun x => x.seq == 4 && x.lastNo != 0 && !x.resend) = true ∧
     (State.nextFrame (gateway 0 (keyed 2)) { keyed 2 with slots := [{ x with lastNo := 0 }] }).isSome = true) ∧
    (let s := gateway 0 (keyed 2)
     s.isGateway = true ∧ s.running = true ∧ s.otherSites.contains 1 = true ∧ s.farUp (s.boundPort 1) = true ∧ s.farSt 0 = 2 ∧ s.farSt 1 ≤ 1 ∧
      s.portSvc 2 1 = 0 ∧ (s.odSet 0x6000 2 2).isGateway = true) ∧
    (let s := modIn stQuiet []
     s.running = true ∧ s.farSt 0 ≤ 1 ∧ s.portSvc 2 0 = 0 ∧ (s.odSet 0x6000 1 2).isGateway = false) ∧
    (let s := gateway 0 { keyed 2 with owesConfirm := true }
     grant (s.otherSites.filter (fun i => [1].contains i && peerReady s 0 i)) 0 64 = some 1 ∧
       grant (s.otherSites.filter (fun i => [0].contains i && peerReady s 0 i)) 0 64 = none) ∧
    (gateway 0 (keyed 2)).peerPort 1 = 0 ∧ (gateway 0 (keyed 1)).peerPort 1 ≠ 1 ∧ ((gateway 0 (keyed 1)).fpeer 1).st ≠ 2 ∧
    ((gateway 0 (keyed 2)).fpeer 1).hs.isSome = false ∧ ((gateway 0 (keyed 2)).fpeer 1).mayDrop = false ∧
    (gateway 0 (keyed 2)).farUp 1 = false ∧ (modIn stCold []).running = false ∧
    (let p := { keyed 2 with mayDrop := true, hs := some { epoch := 1, nonce := [], priv := [], frame := [], sent := 0, fresh := false } }
     p.mayDrop = true ∧ p.keys.head?.map (·.epoch) = some p.heard ∧ p.hs.isSome = true) ∧
    (let m : FarMsg := { num := 0, dest := 1, hdr := dataHeader 1 0 0 1 0 0 16, src := 0, coll := 0, bytes := some (zeros 16) }
     let s := ((gateway 0 (keyed 2)).odSet 0x3100 2 0x100000).farMod (fun f => { f with msgs := [m] })
     let t := (gateway 0 (keyed 2)).farMod (fun f => { f with msgs := [m] })
     s.far.msgs.find? (fun m => !m.granted) = some m ∧ s.isGateway = true ∧ m.bytes = some (zeros 16) ∧ m.waited = false ∧
      t.ringSlots < t.ringUsed.length + ((t.msgPeers m).map (fun i => t.framesOf i (dhLen m.hdr))).sum ∧
      s.ringUsed.length + ((s.msgPeers m).map (fun i => s.framesOf i (dhLen m.hdr))).sum ≤ s.ringSlots) := by
  decide +kernel

/-- An IPv6 packet to nobody with a neighbour message. -/
def aNeighbour (typ : Nat) (target opt : List Byte) : List Byte :=
  icmp6Packet ([0xFE, 0x80] ++ zeros 14) (zeros 16) (toLe 1 typ ++ zeros 7 ++ target ++ padTo 8 opt)

theorem witness_FarNeighbours : (gateway 0 (keyed 2)).nbrUp 0 = true ∧ State.reset.nbrUp 0 = false ∧
    (State.reset.release [7]).nbrUp 2 = true ∧
    (let s := State.blobSet (gateway 0 (keyed 2)) 0x6002 4 (zeros 10 ++ [0xFF, 0xFF, 10, 0, 0, 1] ++ zeros 16)
     let b := arpPacket 1 (zeros 6) (zeros 4) (zeros 6) [10, 0, 0, 1]
     s.nbrUp 0 = true ∧ b.length = 28 ∧ slice b 0 6 = toBe 2 1 ++ toBe 2 0x0800 ++ [6, 4] ∧ beNat (slice b 6 2) = 1 ∧
      (s.nbrAddrs 0).contains (zeros 10 ++ [0xFF, 0xFF] ++ slice b 24 4) = true) ∧
    beNat (slice (arpPacket 2 (zeros 6) (zeros 4) (zeros 6) (zeros 4)) 6 2) ≠ 1 ∧
    (∀ q ∈ [(aNeighbour 136 (zeros 16) [2, 1], 136, 2), (aNeighbour 135 (zeros 16) [2, 1], 135, 2)],
      let m := q.1.drop 40
      72 ≤ q.1.length ∧ rdLe q.1 6 1 = 58 ∧ rdLe q.1 7 1 = 255 ∧ rdLe m 1 1 = 0 ∧
      inetSum (slice q.1 8 16 ++ slice q.1 24 16 ++ toBe 4 m.length ++ toBe 4 58 ++ m) = 0 ∧ rdLe m 0 1 = q.2.1 ∧
      rdLe (slice m 24 8) 0 1 = q.2.2 ∧ ((gateway 0 (keyed 2)).nbrAddrs 0).contains (slice m 8 16) = true ∧ slice q.1 8 16 ≠ zeros 16) := by
  decide +kernel

theorem witness_FieldNeighbour : (State.reset.nbrAddrs 2).contains fieldLinkLocal = true := by simp [State.nbrAddrs]

/-- The public key of the secret key of zeros (RFC 8032). -/
def testPub : List Byte := toLe 32 0x29DA598BA148C03AA643E21D77153265730D6F2AD0A8A3622DA4B6CEBC276A3B

/-- The gateway of a site where both sites hold the test key. -/
def handshaker (own : Nat) (p : FarPeer) : State := gateway own p testPub

/-- A handshake frame of the other site with a signature under the test key (RFC 8032). -/
def greeting (s : State) (typ session sig : Nat) : List Byte :=
  farHeader typ 0 (1 - s.ownSite) s.ownSite 192 0 session 0 ++
    (zeros 2 ++ toLe 2 8192 ++ zeros 4 ++ zeros 16 ++ zeros 32 ++ testPub ++ s.rosterTag ++ zeros 8) ++ toLe 64 sig

/-- Signatures of an HS_INIT of session 7 to site 1, and of an HS_RESP of it to site 0 whose HS_INIT body is all zeros. -/
def sigInit : Nat :=
  0xD58FDC8AA3671CBF55F1812028FDD09A27919C1C11555D7FECE7C6E7E49AF9D6FDC5022BDBA54B9E608B9C5ABB85137218BF725A2629F8878485AA388A882CE
/-- The HS_RESP's. -/
def sigResp : Nat :=
  0x55B3E3EC7A7F75CA18357D11DE2D12B4D4B3001E2A21E7D7D5F5D230B6C1880B6449A1D96069D863C6F51AB6E74DE36DE12D849F019B720E94D2821A90B3B2A

/-- The handshake that site 0 has under way. -/
def pendingHs : FarHs := { epoch := 0, nonce := zeros 16, priv := zeros 32, frame := zeros 224, sent := 1, fresh := true }

/-- A handshake frame is accepted, and is the responder's or the initiator's to judge. -/
def greets (s : State) (bytes : List Byte) (typ : Nat) (P : State → Nat → Bool) : Bool :=
  match s.farAccept 0 (addrOf16 (1 - s.ownSite)) bytes typ with
  | (t, some i) => P t i
  | (_, none) => false

theorem witness_HandshakeInit : (let s := handshaker 1 {}
     let f := greeting s 0x10 7 sigInit
     greets s f 0x10 (fun t i => hsForm f && !t.initiates i && hsChecks t i f [] && rdLe f 0xC 4 != 0 && rdLe f 0xC 4 != (t.fpeer i).session &&
       rdLe f 32 1 == 0 && (t.fpeer i).answered.isEmpty && t.farReady i) = true) := by
  decide +kernel

theorem witness_HandshakeAgain : (let f := greeting (handshaker 1 {}) 0x10 7 sigInit
     let s := handshaker 1 { session := 7, answered := [(slice f 32 192, [])] }
     greets s f 0x10 (fun t i => hsForm f && !t.initiates i && hsChecks t i f [] && rdLe f 0xC 4 == (t.fpeer i).session &&
       (t.fpeer i).answered.find? (fun a => a.1 == slice f 32 192) == some (slice f 32 192, [])) = true) ∧
    (let f := greeting (handshaker 1 {}) 0x10 7 sigInit
     let s := handshaker 1 { session := 7, st := 2, epoch := 1 }
     greets s f 0x10 (fun t i => hsForm f && !t.initiates i && hsChecks t i f [] && rdLe f 0xC 4 == (t.fpeer i).session && (t.fpeer i).st != 1 &&
       (t.fpeer i).answered.isEmpty && rdLe f 32 1 != ((t.fpeer i).epoch + 1) % 4) = true) ∧
    (let s := handshaker 0 {}
     greets s (greeting s 0x10 7 sigInit) 0x10 (fun t i => t.initiates i) = true) ∧
    (let s := handshaker 0 {}
     greets s (greeting s 0x11 7 sigResp) 0x11 (fun t i => (t.fpeer i).hs == none) = true) := by
  decide +kernel

theorem witness_HandshakeResp : (let s := handshaker 0 { session := 7, hs := some pendingHs }
     let f := greeting s 0x11 7 sigResp
     greets s f 0x11 (fun t i => (t.fpeer i).hs == some pendingHs && rdLe f 0xC 4 == (t.fpeer i).session && rdLe f 32 1 == pendingHs.epoch &&
       hsChecks t i f (slice pendingHs.frame 32 192)) = true) := by
  decide +kernel

/-! ### Witnesses: time -/

/-- A TIME packet from module 1 at port 5 of a module with a time role and state. -/
def timeFrom (typ role st : Nat) : State :=
  received 0 0x13 0 0 0 (toLe 4 typ ++ toLe 4 0 ++ zeros 8) (((modIn stQuiet []).odSet 0x4010 2 role).odSet 0x4010 1 st)

theorem witness_TimeTransferNear : (∀ typ ∈ [1, 2, 4], takes 0x13 (fun x t => rdLe x.body 0 1 == typ && x.port == t.odGet 0x4020 1 && t.timeRole == 0 &&
      t.nearEx.num == rdLe x.body 4 4) ((timeFrom typ 0 1).odSet 0x4020 1 0) = true) ∧
    takes 0x13 (fun x t => rdLe x.body 0 1 == 3 && t.timeState != 0) (timeFrom 3 0 1) = true ∧
    (let s := ((((port5 2 true).odSet 0x4010 1 2).odSet 0x4010 2 0).odSet 0x4020 1 0)
     s.timeState ≠ 0 ∧ s.timeRole ≠ 2 ∧ s.nearUp 5 = true ∧ 5 ≠ s.odGet 0x4020 1 ∧ (s.timeState = 1 ∨ s.timeState = 2)) ∧
    takes 0x13 (fun x t => rdLe x.body 0 1 == 1 && t.timeRole != 0) (timeFrom 1 2 1) = true ∧
    takes 0x13 (fun x t => rdLe x.body 0 1 == 3 && t.timeState == 0) (timeFrom 3 0 0) = true ∧
    takes 0x13 (fun x _ => rdLe x.body 0 1 == 5) (timeFrom 5 0 0) = true ∧ State.reset.takeRx 1 0x13 = none := by
  decide +kernel

/-- A gateway with a time role and state, the other site the anchor. -/
def timeGateway (role st : Nat) : State :=
  (((gateway 0 (keyed 2)).odSet 0x4010 2 role).odSet 0x4010 1 st).odSet 0x7600 1 1

theorem witness_TimeTransferFar :
    opens (timeGateway 1 2) (sealed 0 8 0 0 (zeros 8)) 8 (fun t i _ b => zeroAt b 4 4 && b.length == 8 && isMaster t i) = true ∧
    opens (timeGateway 1 2) (sealed 0 9 0 0 (zeros 16)) 9 (fun t i _ b => zeroAt b 4 4 && b.length == 16 && isMaster t i &&
      (t.fpeer i).ex.num == rdLe b 0 4) = true ∧
    opens (timeGateway 2 2) (sealed 0 0xA 0 0 (zeros 8)) 0xA (fun t _ _ b => zeroAt b 4 4 && b.length == 8 && t.timeRole == 2) = true ∧
    opens (timeGateway 1 2) (sealed 0 0xB 0 0 (zeros 16)) 0xB (fun t i _ b => zeroAt b 4 4 && b.length == 16 && isMaster t i &&
      (t.fpeer i).ex.num == rdLe b 0 4 && (t.fpeer i).skip == 0) = true ∧
    (let s := timeGateway 2 2
     let u := s.countLock true
     s.timeState ≠ 0 ∧ s.timeRole = 2 ∧ u.timeRole = 2 ∧ u.otherSites.contains 1 = true ∧ (u.farSend 1 8 0 (toLe 4 (u.fpeer 1).exch ++ zeros 4) false).2 = true) ∧
    opens (timeGateway 1 2) (sealed 0 8 0 0 (zeros 9)) 8 (fun _ _ _ b => b.length == 9) = true ∧
    opens (timeGateway 2 2) (sealed 0 9 0 0 (zeros 16)) 9 (fun t i _ b => zeroAt b 4 4 && b.length == 16 && !isMaster t i) = true ∧
    ((timeGateway 1 2).farOpen 0 (addrOf16 1) [] 8).2 = none ∧ ({ skip := 1 } : FarPeer).skip ≠ 0 ∧ ({} : FarPeer).skip = 0 ∧ ({} : TimeEx).t1 = none := by
  decide +kernel

theorem witness_ServoHolds :
    let s := ((modIn stRunning []).odSet 0x4010 1 2).odSet 0x4020 5 1000
    let d := s.halve (2000000 + 0)
    let o := d.2.halve (2 * 2000000 - (2000000 + 0) - 0)
    let shown := o.2.odSet 0x4010 4 (sNat 64 d.1)
    shown.mayStep = false ∧ shown.timeState ≠ 0 ∧ (shown.odGet 0x4020 5 : Int) < o.1 := by
  decide +kernel

theorem witness_TimeInputs :
    (let s : State := { (modIn stQuiet [((0x4040, 1), 1)]) with time := { ft := 3000000050 } }
     s.time.ft ≠ ftUnset ∧ s.odGet 0x4040 1 = 1 ∧ s.time.ft % 1000000000 ≤ 100) ∧ State.reset.time.ft = ftUnset ∧
    (let s := State.odSet { modIn stQuiet [] with plat := { State.reset.plat with ref10m := true } } 0xF300 1 1
     s.modState ≠ stCold ∧ s.plat.ref10m = true ∧ s.odGet 0xF300 1 = 1) ∧
    (let s : State := { modIn stQuiet [] with plat := { State.reset.plat with ref10m := false }, time := { onRefclk := true } }
     s.modState ≠ stCold ∧ s.plat.ref10m = false ∧ s.time.onRefclk = true) := by
  decide +kernel

/-! ### Witnesses: the Crown Object Protocol -/

/-- An open session over the field network with every right, and its keys. -/
def aSession : Session :=
  { id := 3, isOpen := true, peer := .field 1 2, key := zeros 32, want := 15, rights := 15, notify := false, openBody := zeros 96,
    challenge := zeros 32, keyIn := zeros 32, keyOut := zeros 32, lastSeq := 0, lastAnswer := [], waitingAnswer := false, blob := none,
    nseq := 0, queue := [], sent := [], lost := false }

/-- The Crown serves the field network, with one session. -/
def client (s : State) (x : Session) : State := { s with plat := { State.reset.plat with released := [7] }, crown := { sessions := [x] } }

/-- The same in a module state. -/
def served (st : Nat) (x : Session) : State := client (modIn st []) x

/-- A frame of the session. -/
def askAt (seq op : Nat) (body : List Byte) : List Byte := copFrame op 0 0 3 seq body (zeros 32)

/-- A request of the session with the next SEQ. -/
def ask (op : Nat) (body : List Byte) : List Byte := askAt 1 op body

/-- The Crown serves a session on the field network, none of whose requests waits. -/
abbrev Serves (s : State) (x : Session) : Prop :=
  s.crownServes = true ∧ s.plat.released.contains 7 = true ∧ s.session 3 = some x ∧ x.peer.sameKind (.field 1 2) = true ∧ x.keyIn = zeros 32 ∧
    s.crown.waiting = [] ∧ s.crown.turn = 0 ∧ ∀ y ∈ s.crown.sessions, y.waitingAnswer = false

/-- The session is open and has asked nothing yet. -/
abbrev AtRest (s : State) (x : Session) : Prop := Serves s x ∧ x.isOpen = true ∧ x.lastSeq = 0

/-- A frame of the session then arrives. -/
theorem serves_arrives {s : State} {x : Session} (h : Serves s x) {seq op : Nat} {body : List Byte} (hs : seq < 2 ^ 32) (ho : op ∈ copOps)
    (h1 : op ≠ 1) (hb : body.length ≤ 1368) : Arrives s (.field 1 2 (s.odGet 0x1200 3) (askAt seq op body)) (.field 1 2) (askAt seq op body) s ∧
      OfSession s x (.field 1 2) (askAt seq op body) ∧ fOp (askAt seq op body) = op ∧ fBody (askAt seq op body) = body ∧
      fSeq (askAt seq op body) = seq ∧ (askAt seq op body).length = 32 + body.length := by
  obtain ⟨a, b, c, d, e, w, u, g⟩ := h
  have ht : s = s.crownTurn 0 := by unfold State.crownTurn; rw [← u]
  obtain ⟨f1, f2, f3, f4, f5, f6, f7⟩ := copFrame_fields op 0 0 3 seq body (zeros 32) (by decide) (by omega)
  have hop : op % 256 = op := by revert ho; unfold copOps; intro ho; simp at ho; omega
  refine ⟨⟨a, w, f7 ho rfl rfl, rfl, rfl, rfl, ht, b⟩, ⟨by unfold askAt; rw [f3]; exact c, by unfold askAt; rw [f2, hop]; exact h1, d, ?_, g⟩, ?_, f5, ?_, f1⟩
  · rw [e]; exact f6
  · unfold askAt; rw [f2, hop]
  · unfold askAt; rw [f4]; exact Nat.mod_eq_of_lt hs

/-- It meets `Requests`. -/
theorem atRest_requests {s : State} {x : Session} (h : AtRest s x) {op : Nat} {body : List Byte} (ho : op ∈ copOps) (h1 : op ≠ 1)
    (hb : body.length ≤ 1368) : Requests s (.field 1 2 (s.odGet 0x1200 3) (ask op body)) (serving s x (.field 1 2)) x (.field 1 2) (ask op body) := by
  obtain ⟨f1, f2, f3, f4, f5, f6⟩ := serves_arrives h.1 (seq := 1) (by decide) ho h1 hb
  obtain ⟨_, i, j⟩ := h
  have hl : (Peer.field 1 2).limit = 1400 := rfl
  exact ⟨s, f1, ⟨f2, i, by unfold ask; rw [f5, j]; rfl, by unfold ask; rw [f6, hl]; omega⟩, rfl⟩

/-- The checks of a write pass and leave the state as it is. -/
abbrev writesOk (s : State) (x : Session) (i k typ : Nat) (v : List Byte) : Prop :=
  AtRest s x ∧ v.length ≤ 1024 ∧ i < 65536 ∧ k < 256 ∧ typ < 256 ∧
    (serving s x (.field 1 2)).odCheck x.rights true i k (some typ) v = (serving s x (.field 1 2), cOk)

/-- Such a write meets `WritesEntry`. -/
theorem writesOk_writes {s : State} {x : Session} {i k typ : Nat} {v : List Byte} (h : writesOk s x i k typ v) :
    WritesEntry s (.field 1 2 (s.odGet 0x1200 3) (ask 0x11 (copItem i k typ 0 v))) (serving s x (.field 1 2)) x (.field 1 2) (ask 0x11 (copItem i k typ 0 v)) i k
      typ v := by
  obtain ⟨a, b, c, d, e, g⟩ := h
  have hl : (copItem i k typ 0 v).length ≤ 1368 := by rw [copItem_length]; unfold roundUp ceilDiv; omega
  obtain ⟨_, _, f3, f4, _⟩ := serves_arrives a.1 (seq := 1) (op := 0x11) (by decide) (by decide) (by decide) hl
  exact ⟨atRest_requests a (by decide) (by decide) hl, f3, f4, b, c, d, e, g⟩

/-- A transfer of the session that has brought a value of an entry whole. -/
def aTransfer (i k : Nat) (v : List Byte) : BlobXfer :=
  { index := i, sub := k, writing := true, total := v.length, snapshot := [], segs := [(0, v)] }

/-- A CRC-32C has 32 bits. -/
theorem crc32c_lt (v : List Byte) : crc32c v < 2 ^ 32 := by
  have h1 : ∀ k c, c < 2 ^ 32 → crcRefl 0x82F63B78 k c < 2 ^ 32 := by
    intro k; induction k with
    | zero => intro c h; exact h
    | succ k ih =>
      intro c h; refine ih _ ?_
      split
      · exact Nat.xor_lt_two_pow (by omega) (by decide)
      · omega
  have h2 : ∀ (l : List Byte) c, c < 2 ^ 32 → l.foldl (fun c b => crcRefl 0x82F63B78 8 (c ^^^ b.toNat)) c < 2 ^ 32 := by
    intro l; induction l with
    | nil => intro c h; exact h
    | cons b l ih => intro c h; exact ih _ (h1 _ _ (Nat.xor_lt_two_pow h (by have := b.isLt; omega)))
  exact Nat.xor_lt_two_pow (h2 v _ (by decide)) (by decide)

/-- The transfer is complete. -/
theorem aTransfer_complete (i k : Nat) (v : List Byte) : (aTransfer i k v).complete (leNat (toLe 4 (crc32c v))) = some v := by
  have hc : leNat (toLe 4 (crc32c v)) = crc32c v := by rw [leNat_toLe]; exact Nat.mod_eq_of_lt (crc32c_lt v)
  rw [hc]
  simp [BlobXfer.complete, BlobXfer.value, aTransfer, segReach, patch, zeros]

/-- The state in which the end of the transfer is applied. -/
def ending (s : State) (x : Session) : State := (serving s x (.field 1 2)).sesMod x.id (fun y => { y with blob := none })

/-- The session with the transfer. -/
def mover (i k : Nat) (v : List Byte) : Session := { aSession with blob := some (aTransfer i k v) }

/-- The end of a transfer is accepted. -/
abbrev endsOk (s : State) (i k : Nat) (v : List Byte) : Prop :=
  (client s (mover i k v)).crownServes = true ∧
    (ending (client s (mover i k v)) (mover i k v)).odCheck 15 true i k none v = (ending (client s (mover i k v)) (mover i k v), cOk)

/-- It meets `EndsTransfer`. -/
theorem endsOk_ends {s : State} {i k : Nat} {v : List Byte} (h : endsOk s i k v) :
    ∃ s x u, x.blob = some (aTransfer i k v) ∧
      EndsTransfer s (.field 1 2 (s.odGet 0x1200 3) (ask 0x1A (toLe 4 (crc32c v)))) u x (.field 1 2) (ask 0x1A (toLe 4 (crc32c v))) i k v := by
  obtain ⟨a, b⟩ := h
  have hr : AtRest (client s (mover i k v)) (mover i k v) :=
    ⟨⟨a, rfl, rfl, rfl, rfl, rfl, rfl, by intro y hy; rw [List.mem_singleton.1 hy]; rfl⟩, rfl, rfl⟩
  have hl : (toLe 4 (crc32c v)).length ≤ 1368 := by rw [toLe_length]; omega
  obtain ⟨_, _, f3, f4, _⟩ := serves_arrives hr.1 (seq := 1) (op := 0x1A) (by decide) (by decide) (by decide) hl
  exact ⟨_, _, _, rfl, _, _, atRest_requests hr (by decide) (by decide) hl, f3, by unfold ask; rw [f4]; rfl, rfl, rfl, rfl, rfl,
    by unfold ask; rw [f4]; exact aTransfer_complete i k v, rfl, b⟩

/-- A BLOB entry passes the checks of R269. -/
theorem odCheck_blob {s : State} {r : OdRow} {rights i k : Nat} {field : Bool} {v : List Byte} {typ : Option Nat} (hr : odRow i k = some r)
    (h1 : State.mayWrite i k rights = true) (h2 : r.acc ≠ 1) (h3 : s.stateOk r k = true) (h4 : 11 ≤ r.typ)
    (h5 : r.lo ≤ v.length ∧ v.length ≤ r.hi) (h6 : ∀ n, s.valueStateOk i k n field = true) (h7 : s.blobOk i k v = true) (h8 : i ≠ 0x4000)
    (h9 : typ.getD r.typ = r.typ) : s.odCheck rights field i k typ v = (s, cOk) := by
  unfold State.odCheck
  have h5' : ¬ ((v.length : Int) < r.lo) ∧ ¬ (r.hi < (v.length : Int)) := ⟨by omega, by omega⟩
  simp [hr, h1, h2, h3, h4, h5'.1, h5'.2, h6, h7, h8, h9]

/-- A module that may be armed: a layout of one gateway, rings, a program manifest and a job key. -/
def armable (x : Session) : State :=
  let l : List Byte := toLe 4 0x544F594C ++ [1, 1, 0, 0, 1, 0, 1, 1, 1, 1] ++ zeros 50 ++ ([0, 2] ++ zeros 14) ++ (zeros 4 ++ [1] ++ zeros 11)
  ((((State.blobSet (State.blobSet (served stQuiet x) 0x2010 2 l) 0x1300 1 [1]).odSet 0x1300 3 6144).odSet 0xA200 2 1).odSet 0x3200 1 0x100000).odSet
    0x3100 2 0x40000000 |>.odSet 0x4100 3 0

theorem witness_CommandsRun : (∀ q ∈ ([(armable aSession, 1), (served stQuiet aSession, 1), ((served stArmed aSession).odSet 0x4010 1 2, 2),
      ((served stArmed aSession).odSet 0x4010 1 1, 2), (served stRunning aSession, 3), (served stHeld aSession, 4), (served stRunning aSession, 5),
      (served stRunning aSession, 6), (served stRunning aSession, 7), (served stRunning aSession, 8)] : List (State × Byte)),
      writesOk q.1 aSession 0x1010 2 2 [q.2]) ∧
    (serving (armable aSession) aSession (.field 1 2)).armReason = 0 ∧ (serving (served stQuiet aSession) aSession (.field 1 2)).armReason ≠ 0 ∧
    (serving (served stRunning aSession) aSession (.field 1 2)).siteStopping = false ∧
    Nat.testBit (serving (served stRunning aSession) aSession (.field 1 2)).ownRoles 2 = false ∧
    (serving ((served stArmed aSession).odSet 0x4010 1 1) aSession (.field 1 2)).odGet 0x4010 1 ≤ 1 := by
  decide +kernel

theorem witness_CommandsWait : writesOk { served stRunning aSession with siteStopping := true } aSession 0x1010 2 2 [3] ∧
    (serving { served stRunning aSession with siteStopping := true } aSession (.field 1 2)).siteStopping = true ∧ State.reset.restart = none := by
  decide +kernel

theorem witness_Takeover : let s := client (siteOf 4 2 stRunning) aSession
    writesOk s aSession 0x1010 2 2 [8] ∧ Nat.testBit (serving s aSession (.field 1 2)).ownRoles 2 = true ∧
      (serving s aSession (.field 1 2)).siteStopping = false := by
  decide +kernel

/-- The module with a Bezel target selected, its pinion 1 fenced or not. -/
def targeted (fenced : Bool) : State :=
  let s := (served stQuiet aSession).odSet 0x9200 1 0x1000001
  if fenced then fenced1 s else s

theorem witness_EntriesWritten : (∀ q ∈ ([
      (targeted false, 0x9200, 2, 2, [1]), (targeted true, 0x9200, 2, 2, [2]), (targeted true, 0x9200, 2, 2, [3]),
      ((served stQuiet aSession).odSet 0x4010 2 2, 0x4000, 2, 10, zeros 8), (served stQuiet aSession, 0x4301, 2, 12, zeros 32),
      (served stQuiet aSession, 0x2010, 2, 12, []), (served stQuiet aSession, 0xA100, 1, 12, zeros 40),
      (served stQuiet aSession, 0x1300, 1, 12, toLe 4 0x464D4750 ++ [1] ++ zeros 7 ++ toLe 4 64 ++ zeros 48),
      (served stQuiet aSession, 0xA200, 1, 12, zeros 32), (served stQuiet aSession, 0xA300, 4, 2, [1]), (served stQuiet aSession, 0xA500, 3, 2, [0]),
      (served stQuiet aSession, 0xF320, 1, 2, [1]), ((served stQuiet aSession).odSet 0xF310 1 0x300, 0xF310, 2, 2, [1]),
      ({ served stQuiet aSession with store := { State.reset.store with verified := some 1 } }, 0xA300, 2, 2, [1])] :
      List (State × Nat × Nat × Nat × List Byte)), writesOk q.1 aSession q.2.1 q.2.2.1 q.2.2.2.1 q.2.2.2.2) := by
  decide +kernel

theorem witness_EntryWritten : let s := targeted false
    let f := ask 0x11 (copItem 0x9200 2 2 0 [1])
    AtRest s aSession ∧ 0x11 ∈ copOps ∧ writesEntry 0x9200 2 (some 1) s f = true ∧ writesEntry 0x9200 2 (some 2) s f = false := by
  decide +kernel

theorem witness_TransfersEnd : endsOk (modIn stQuiet []) 0xA200 1 (zeros 32) ∧ endsOk (modIn stQuiet []) 0x2010 2 [] ∧
    endsOk (modIn stQuiet []) 0x1300 1 (toLe 4 0x464D4750 ++ [1] ++ zeros 7 ++ toLe 4 64 ++ zeros 48) := by
  decide +kernel

theorem witness_RetireMap : endsOk (modIn stQuiet []) 0x9400 1 (zeros 1544) := by
  refine ⟨by decide +kernel, odCheck_blob (r := (odRow 0x9400 1).getD default) ?_ ?_ ?_ ?_ ?_ ?_ (fun n => rfl) ?_ (by decide) rfl⟩
  · decide +kernel
  · decide +kernel
  · decide +kernel
  · decide +kernel
  · decide +kernel
  · rw [show (zeros 1544).length = 1544 from List.length_replicate]; decide +kernel
  · show mapForm (zeros 1544) = true
    unfold mapForm zeroAt rdLe; simp only [slice_zeros, leNat_zeros]; decide +kernel

theorem witness_BeatTable : endsOk (modIn stQuiet []) 0x4300 1 (zeros 32768) := by
  refine ⟨by decide +kernel, odCheck_blob (r := (odRow 0x4300 1).getD default) ?_ ?_ ?_ ?_ ?_ ?_ (fun n => rfl) ?_ (by decide) rfl⟩
  · decide +kernel
  · decide +kernel
  · decide +kernel
  · decide +kernel
  · decide +kernel
  · rw [show (zeros 32768).length = 32768 from List.length_replicate]; decide +kernel
  · show tableWriteOk (zeros 32768) = true
    unfold tableWriteOk; simp only [slice_zeros]; rw [List.all_eq_true]; intro i _; decide +kernel

/-- The module with train 1 of level 2 selected, fenced, and marked in the map or not. -/
def trainAt (marked : Bool) : State :=
  let s := (served stQuiet aSession).odSet 0x9200 1 0x1020001
  (if marked then s.mapTrain 2 1 true else s).unitMod 2 1 (fun u => { u with st := 1 })

theorem witness_CrownWritesComplete :
    (let s := served stQuiet aSession
     s.siteStopping = false ∧ s.inSiteJob = false ∧ s.plat.needPower = false ∧ s.plat.dumpStopped = false ∧ s.modState ≠ stBoot ∧
     (∀ m ∈ s.siteMembers, m = s.smn) ∧ s.changes = [] ∧ s.restart = none) ∧
    (targeted false).bezelTarget ((targeted false).odGet 0x9200 1) = .unit 0 1 ∧ ((targeted false).unit 0 1).st = 0 ∧
    (trainAt false).bezelTarget ((trainAt false).odGet 0x9200 1) = .unit 2 1 ∧ (trainAt false).bezelCheck ((trainAt false).odGet 0x9200 1) 2 = 0 ∧
    (trainAt true).bezelCheck ((trainAt true).odGet 0x9200 1) 3 = 0 ∧ (trainAt true).trainMarked 2 1 = true ∧
    writesOk (trainAt false) aSession 0x9200 2 2 [2] ∧ writesOk (trainAt true) aSession 0x9200 2 2 [3] ∧
    ((0x9200 : Nat), (2 : Nat)) ≠ (0x1010, 2) := by
  decide +kernel

theorem witness_BezelApplies :
    (targeted false).bezelCheck ((targeted false).odGet 0x9200 1) 1 = 0 ∧ State.drivenChanged State.reset (State.reset.odDo 0x9400 1 []) = [] := by
  decide +kernel

/-! ### A signature that needs no key: under the neutral point's key the one of the neutral point and 0 is right for every message -/

/-- The key that encodes the neutral point, and the signature. -/
def idKey : List Byte := 1 :: zeros 31
/-- The signature. -/
def idSig : List Byte := idKey ++ zeros 32

/-- A representation of the neutral point. -/
def Neutral (p : EdPoint) : Prop := p.x = 0 ∧ p.t = 0 ∧ p.y = p.z

/-- Sums of the neutral point. -/
theorem edAdd_neutral {d : Nat} {p q : EdPoint} (hp : Neutral p) (hq : Neutral q) : Neutral (edAdd d p q) := by
  obtain ⟨px, pt, py⟩ := hp
  obtain ⟨qx, qt, qy⟩ := hq
  have e : ∀ a, subF (a % p25519) (a % p25519) = 0 := by intro a; unfold subF; have := Nat.mod_lt a (show 0 < p25519 by decide); simp
  have s0 : ∀ a, subF a 0 = a % p25519 := by intro a; unfold subF; simp
  unfold edAdd Neutral
  simp only [px, qx, pt, qt, py, qy, s0, Nat.add_zero, Nat.mul_zero, Nat.zero_mul, Nat.zero_mod]
  have m : p.z % p25519 * (q.z % p25519) % p25519 = p.z * q.z % p25519 := (Nat.mul_mod _ _ _).symm
  rw [m, e]
  refine ⟨by simp, by simp, ?_⟩
  have h1 : (p.z * q.z % p25519 + p.z * q.z % p25519) % p25519 = 2 * p.z * q.z % p25519 := by
    rw [← Nat.two_mul, Nat.mul_mod_mod, Nat.mul_assoc]
  simp only [h1, Nat.mod_mod]

/-- Multiples of the neutral point. -/
theorem edMul_neutral (k : Nat) {p : EdPoint} (hp : Neutral p) : Neutral (edMul k p) := by
  have h : ∀ n r, Neutral r → Neutral (edMulGo edD k p n r) := by
    intro n; induction n with
    | zero => intro r h; exact h
    | succ n ih =>
      intro r h; refine ih _ ?_
      split
      · exact edAdd_neutral (edAdd_neutral h h) hp
      · exact edAdd_neutral h h
  exact h 256 _ ⟨rfl, rfl, rfl⟩

/-- The signature is right for every message. -/
theorem edVerify_id (msg : List Byte) : edVerify idKey msg idSig = true := by
  have hd : edDec idKey = some edZero := by decide +kernel
  have h0 : Neutral edZero := ⟨rfl, rfl, rfl⟩
  have hs : slice idSig 0 32 = idKey := by decide
  have hz : leNat (slice idSig 32 32) = 0 := by decide
  have hb : Neutral (edMul 0 edBase) := by
    have h : ∀ n r, Neutral r → Neutral (edMulGo edD 0 edBase n r) := by
      intro n; induction n with
      | zero => intro r h; exact h
      | succ n ih => intro r h; refine ih _ ?_; rw [Nat.zero_testBit, if_neg (by decide)]; exact edAdd_neutral h h
    exact h 256 _ h0
  unfold edVerify
  simp only [hs, hd, hz, Bool.and_eq_true, decide_eq_true_eq]
  refine ⟨⟨by decide, by decide⟩, ?_⟩
  obtain ⟨a, _, c⟩ := edMul_neutral 8 hb
  obtain ⟨d, _, f⟩ := edMul_neutral 8 (edAdd_neutral (d := edD) h0
    (edMul_neutral (leNat (sha512 (idKey ++ padTo 32 idKey ++ msg)) % edL) h0))
  unfold edSame
  rw [a, c, d, f]; simp [Nat.mul_comm]

/-- A roster of one site, signed. -/
def roster1 : List Byte :=
  toLe 4 0x52545352 ++ [1, 1, 0, 0] ++ zeros 4 ++ toLe 4 320 ++ zeros 16 ++ ([0] ++ List.replicate 63 0xFF) ++ zeros 32 ++ zeros 128 ++ idSig

/-- A module whose roster authority is that key, at site 0. -/
def rosterState : State := (State.blobSet (served stQuiet aSession) 0xA400 1 idKey).odSet 0xA400 2 0

/-- Its only site can be its own. -/
theorem rosterOwn1 : ∀ i ∈ rosterOwn roster1, i = 0 := by
  intro i hi
  have h1 : rdLe roster1 5 1 = 1 := by decide +kernel
  have h2 : rdLe roster1 6 2 = 0 := by decide +kernel
  unfold rosterOwn at hi
  simp only [h1, h2, List.range_zero, List.map_nil, List.filterMap_nil, List.append_nil, List.mem_filter] at hi
  simpa using hi.1

theorem witness_Roster : writesOk rosterState aSession 0x6001 1 12 roster1 := by
  refine ⟨by decide +kernel, by decide +kernel, by decide, by decide, by decide,
    odCheck_blob (r := (odRow 0x6001 1).getD default) ?_ ?_ ?_ ?_ ?_ ?_ (fun n => rfl) ?_ (by decide) rfl⟩
  · decide +kernel
  · decide +kernel
  · decide +kernel
  · decide +kernel
  · decide +kernel
  · decide +kernel
  · have hb : ∀ (s : State) (b : List Byte), s.blobOk 0x6001 1 b = s.rosterOk b := fun _ _ => rfl
    rw [hb]; unfold State.rosterOk; dsimp only
    have h1 : (serving rosterState aSession (.field 1 2)).blobGet 0xA400 1 = idKey := by decide +kernel
    have h2 : roster1.drop (roster1.length - 64) = idSig := by decide +kernel
    have h3 : rosterForm roster1 = true := by decide +kernel
    have h4 : (serving rosterState aSession (.field 1 2)).roster.isEmpty = true := by decide +kernel
    have h5 : (serving rosterState aSession (.field 1 2)).odGet 0xA400 2 = 0 := by decide +kernel
    have h6 : (rosterOwn roster1).all (fun i => i == 0) = true := List.all_eq_true.2 fun i hi => by rw [rosterOwn1 i hi]; rfl
    rw [h1, h2, h3, h4, h5, h6, edVerify_id]; rfl

/-- A debug token for the device under the customer's key, scope bit 0, for an hour. -/
def aToken : List Byte :=
  (toLe 4 0x54474244 ++ [1, 0, 0, 0] ++ toLe 4 3600 ++ zeros 4) ++ (padTo 16 serial ++ (zeros 32 ++ idKey ++ idSig))

/-- A module whose customer debug key is that key, with a challenge. -/
def tokenState : State :=
  let s := State.blobSet (served stQuiet aSession) 0xA500 4 idKey
  { s with test := { s.test with challenge := zeros 32 } }

theorem witness_DebugToken : writesOk tokenState aSession 0xA500 2 12 aToken := by
  have hp : (padTo 16 serial).length = 16 := slice_length _ _ _
  have hh : (toLe 4 0x54474244 ++ [1, 0, 0, 0] ++ toLe 4 3600 ++ zeros 4 : List Byte).length = 16 := by decide +kernel
  have hl : aToken.length = 160 := by
    unfold aToken; rw [List.length_append, hh, List.length_append, hp]; decide +kernel
  have front : ∀ o n, o + n ≤ 16 → slice aToken o n = slice (toLe 4 0x54474244 ++ [1, 0, 0, 0] ++ toLe 4 3600 ++ zeros 4) o n :=
    fun o n h => slice_left (by rw [hh]; exact h)
  have back : ∀ o n, 32 ≤ o → slice aToken o n = slice (zeros 32 ++ idKey ++ idSig) (o - 32) n := by
    intro o n h
    unfold aToken; rw [slice_right (by rw [hh]; omega), hh, slice_right (by rw [hp]; omega), hp]; congr 1
  have ser : slice aToken 0x10 16 = padTo 16 serial := by
    unfold aToken; rw [slice_right (by rw [hh]), hh, slice_left (by rw [hp])]; exact slice_whole hp
  have scope : rdLe aToken 4 1 = 1 := by unfold rdLe; rw [front 4 1 (by decide)]; decide +kernel
  refine ⟨by decide +kernel, by rw [hl]; decide, by decide, by decide, by decide,
    odCheck_blob (r := (odRow 0xA500 2).getD default) ?_ ?_ ?_ ?_ ?_ ?_ (fun n => ?_) ?_ (by decide) rfl⟩
  · decide +kernel
  · decide +kernel
  · decide +kernel
  · decide +kernel
  · decide +kernel
  · rw [hl]; decide +kernel
  · rfl
  · have hb : ∀ (s : State) (b : List Byte), s.blobOk 0xA500 2 b = s.tokenOk b := fun _ _ => rfl
    rw [hb]
    have k1 : slice aToken 0x40 32 = idKey := by rw [back 0x40 32 (by decide)]; decide +kernel
    have k2 : slice aToken 0x60 64 = idSig := by rw [back 0x60 64 (by decide)]; decide +kernel
    have k3 : slice aToken 0x20 32 = zeros 32 := by rw [back 0x20 32 (by decide)]; decide +kernel
    have k4 : rdLe aToken 0 4 = 0x54474244 := by unfold rdLe; rw [front 0 4 (by decide)]; decide +kernel
    have k5 : rdLe aToken 8 4 = 3600 := by unfold rdLe; rw [front 8 4 (by decide)]; decide +kernel
    have k6 : zeroAt aToken 5 3 = true := by unfold zeroAt rdLe; rw [front 5 3 (by decide)]; decide +kernel
    have k7 : zeroAt aToken 0xC 4 = true := by unfold zeroAt rdLe; rw [front 0xC 4 (by decide)]; decide +kernel
    have k8 : (serving tokenState aSession (.field 1 2)).blobGet 0xA500 4 = idKey := by decide +kernel
    have k9 : (serving tokenState aSession (.field 1 2)).test.challenge = zeros 32 := by decide +kernel
    unfold State.tokenOk
    simp only [scope, ser, k1, k2, k3, k4, k5, k6, k7, k8, k9, edVerify_id, beq_self_eq_true]
    have kc : idKey.isEmpty = false := rfl
    have kz : (zeros 32 : List Byte).isEmpty = false := rfl
    have kt : Nat.testBit 1 1 = false := rfl
    simp [kc, kz, kt]

/-! ### Witnesses: sessions and requests -/

/-- An OPEN: key, nonce, wants. -/
def anOpen (key : List Byte) : List Byte := copFrame 1 0 0 0 0 (zeros 16 ++ key ++ zeros 32 ++ [15, 0] ++ zeros 14) []

/-- The hypotheses of the clauses on OPEN over the field network. -/
def openOk (s : State) (f : List Byte) : Bool :=
  let b := fBody f
  s.crownServes && frameForm f && s.plat.released.contains 7 && fOp f == 1 && s.crown.sessions.all (fun y => !y.waitingAnswer) &&
    fMac f == zeros 16 && fSession f == 0 && fSeq f == 0 && b.length == 96 && zeroAt b 0x52 14 && decide (rdLe b 0x50 1 ≤ 15) &&
    decide (rdLe b 0x51 1 ≤ 1)

/-- The pending session that an OPEN would repeat. -/
def sameOpen (s : State) (b : List Byte) : Option Session :=
  s.crown.sessions.find? (fun x => !x.isOpen && x.peer.sameKind (.field 1 2) && x.openBody.take 16 == b.take 16)

/-- A pending session. -/
def aPending (want : Nat) : Session := { aSession with isOpen := false, key := idKey, want := want, rights := 0 }

theorem witness_Opens :
    (let s := served stQuiet (aPending 15)
     openOk s (anOpen idKey) = true ∧ sameOpen s (fBody (anOpen idKey)) = some (aPending 15)) ∧
    (let s := { served stQuiet aSession with crown := { sessions := List.replicate 8 aSession } }
     openOk s (anOpen idKey) = true ∧ sameOpen s (fBody (anOpen idKey)) = none ∧ 8 ≤ s.crown.sessions.length) ∧
    (let s := served stQuiet aSession
     openOk s (anOpen idKey) = true ∧ sameOpen s (fBody (anOpen idKey)) = none ∧ s.crown.sessions.length < 8 ∧ s.blobGet 0xA100 1 = []) ∧
    (let s := State.blobSet (served stQuiet aSession) 0xA100 1 (zeros 40)
     openOk s (anOpen idKey) = true ∧ sameOpen s (fBody (anOpen idKey)) = none ∧ s.crown.sessions.length < 8 ∧ s.blobGet 0xA100 1 ≠ []) ∧
    fMac (copFrame 1 0 0 0 0 [] (zeros 32)) ≠ zeros 16 := by
  decide +kernel

/-- A session whose answer waits. -/
def aWaiter : Session := { aSession with waitingAnswer := true }

theorem witness_SessionsWait : (let s := served stQuiet aWaiter
     let f := anOpen idKey
     s.crownServes = true ∧ s.plat.released.contains 7 = true ∧ s.crown.waiting = [] ∧ s.crown.turn = 0 ∧ frameForm f = true ∧ fOp f = 1 ∧
      (∃ y ∈ s.crown.sessions, y.waitingAnswer = true) ∧ s.session 3 = some aWaiter ∧ aWaiter.isOpen = true ∧
      macOk aWaiter.keyIn (ask 0x10 []) = true ∧ fOp (ask 0x10 []) = 0x10 ∧ fSession (ask 0x10 []) = 3 ∧ frameForm (ask 0x10 []) = true) ∧
    (served stQuiet { aSession with id := 4 }).session 3 = none ∧ (served stQuiet { aSession with id := 4 }).crown.down = false ∧
    (served stQuiet aSession).session 3 = some aSession ∧ aSession.sent.find? (fun m => m.nseq == 5) = none ∧
    (modIn stCold []).crownUp = false ∧ ({ modIn stQuiet [] with crown := { down := true } } : State).crown.down = true := by
  decide +kernel

/-- The mailbox with one record at its TAIL. -/
def posted (f : List Byte) : State :=
  ((modIn stQuiet []).mbWrite 0x40 (ringRecord f)).mbWrite 0 (toLe 4 (ringRecord f).length)

theorem witness_OpenInMailbox : let f := anOpen idKey
    (({ posted f with crown := { (posted f).crown with sessions := [aWaiter] } } : State).mbRecord = some (f, (ringRecord f).length)) ∧
    (posted f).crownServes = true ∧ frameForm f = true ∧ (posted f).mbRecord = some (f, (ringRecord f).length) ∧
      (posted f).modState = stQuiet ∧ (posted f).crown.sessions = [] := by
  decide +kernel

theorem witness_Prove : Serves (served stQuiet (aPending 15)) (aPending 15) ∧ (aPending 15).isOpen = false ∧ 2 ∈ copOps ∧
    idSig.length = 64 ∧ edVerify (aPending 15).key (ascii "KRV COP prove" ++ (aPending 15).openBody ++ (aPending 15).challenge) idSig = true ∧
    (served stQuiet (aPending 15)).blobGet 0xA100 1 = [] ∧
    (∀ q ∈ [(15, 1), (2, 1)], let s := State.blobSet (served stQuiet (aPending q.1)) 0xA100 1 (idKey ++ [1] ++ zeros 7)
      Serves s (aPending q.1) ∧ s.keyRights (aPending q.1).key = some 1 ∧ (if q.1 = 15 then 15 &&& 1 ≠ 0 else 2 &&& 1 = 0)) := by
  refine ⟨by decide +kernel, rfl, by decide, by decide, edVerify_id _, by decide +kernel, by decide +kernel⟩

theorem witness_Sessions : AtRest (served stQuiet aSession) aSession ∧ 3 ∈ copOps ∧ 0x21 ∈ copOps ∧ 0x10 ∈ copOps ∧
    macOk aSession.keyIn (copFrame 0x10 0 0 3 1 [] []) = false ∧ frameForm (copFrame 0x10 0 0 3 1 [] []) = true ∧
    (let n : NSent := { nseq := 1, frame := zeros 64, resends := 0 }
     let x := { aSession with sent := [n] }
     let y := { aSession with sent := [{ n with resends := 8 }] }
     (served stQuiet x).crown.down = false ∧ (served stQuiet x).session 3 = some x ∧ n.resends < 8 ∧
      x.sent.find? (fun m => m.nseq == n.nseq) = some n ∧ (served stQuiet y).session 3 = some y ∧
      (served stQuiet (aPending 1)).session 3 = some (aPending 1)) := by
  decide +kernel

/-- The state in which a request of the session in QUIET is served. -/
def atWork : State := serving (served stQuiet aSession) aSession (.field 1 2)

/-- A count byte and items. -/
def items (l : List (List Byte)) : List Byte := toLe 1 l.length ++ zeros 7 ++ l.flatMap id

/-- The value of a read, and its status. -/
def reads (u : State) (i k : Nat) : State × Nat × OdRow × List Byte := u.odRead 15 3 (zeros 16) i k

theorem witness_Reads : AtRest (served stQuiet aSession) aSession ∧
    (reads atWork 0x1010 1).2.1 = cOk ∧ (reads atWork 0x1010 1).2.2.2.length ≤ 1024 ∧ (reads atWork 0x9999 1).2.1 ≠ cOk ∧
    (let u := State.blobSet atWork 0x2010 2 (zeros 1100)
     (reads u 0x2010 2).2.1 = cOk ∧ 1024 < (reads u 0x2010 2).2.2.2.length) ∧
    ((bodyItems 0x12 (items [copItem 0x1010 1 0 0 []])).map (·.length) = some 1 ∧ 1 + 32 ≤ (Peer.field 1 2).limit) ∧
    (let u := State.blobSet atWork 0x2010 2 (zeros 800)
     (bodyItems 0x12 (items [copItem 0x2010 2 0 0 [], copItem 0x2010 2 0 0 []])).map (fun l => l.map (fun i => (i.index, i.sub))) =
       some [(0x2010, 2), (0x2010, 2)] ∧ (reads u 0x2010 2).1 = u ∧ (reads u 0x2010 2).2.1 = cOk ∧ (reads u 0x2010 2).2.2.2.length = 800 ∧
       (Peer.field 1 2).limit < 8 + 808 + 808 + 32) := by
  decide +kernel

/-- The statuses of the items of a WRITE_MULTI. -/
def statuses (l : List Item) : List Nat := (atWork.checkItems 15 true true l).2

theorem witness_Writes : writesOk (served stQuiet aSession) aSession 0x2010 1 (((odRow 0x2010 1).getD default).typ) (toLe ((odRow 0x2010 1).getD default).size 0) ∧
    (atWork.odCheck 15 true 0x1010 1 (some 2) [0]).2 ≠ cOk ∧
    (let b := items [copItem 0xA100 1 12 0 (zeros 40)]
     1 ≤ rdLe b 0 1 ∧ rdLe b 0 1 ≤ 64 ∧ (bodyItems 0x13 b).map (fun l => (statuses l).find? (· ≠ cOk)) = some none ∧
      (bodyItems 0x13 b).map (fun l => l.all (fun i => decide (i.value.length ≤ 1024) && !i.isCmd && (i.index, i.sub) != (0xA300, 2))) = some true) ∧
    (let b := items [copItem 0x1010 1 2 0 [0]]
     (bodyItems 0x13 b).map (fun l => ((statuses l).find? (· ≠ cOk)).isSome) = some true) := by
  decide +kernel

theorem witness_RequestsRefused : AtRest (served stQuiet aSession) aSession ∧ bodyItems 0x10 [] = none ∧
    rdLe (zeros 8) 0 1 = 0 ∧ 64 < rdLe (65 :: zeros 7) 0 1 ∧
    (let b := items [copItem 0xA100 1 12 0 (zeros 1025)]
     1 ≤ rdLe b 0 1 ∧ rdLe b 0 1 ≤ 64 ∧ (bodyItems 0x13 b).map (fun l => l.any (fun i => decide (1024 < i.value.length))) = some true ∧ b.length ≤ 1368) ∧
    (let y : Session := { aSession with id := 4, blob := some { aTransfer 0xA300 1 [] with total := 64 } }
     let s : State := { served stQuiet aSession with crown := { sessions := [aSession, y] } }
     AtRest s aSession ∧ s.crown.sessions.any (fun z => z.id != 3 && z.blob.any (fun t => t.writing && t.index == 0xA300 && t.sub == 1)) = true ∧
      rdLe (toLe 2 0xA300 ++ [1, 1] ++ toLe 4 64) 0 2 = 0xA300) := by
  decide +kernel

theorem witness_Transfers : aSession.blob = none ∧ (reads atWork 0x2010 2).2.1 = cOk ∧ (reads atWork 0x9999 0).2.1 ≠ cOk ∧
    (let b := toLe 2 0x2010 ++ [2, 1] ++ toLe 4 64
     b.length = 8 ∧ rdLe b 3 1 = 1 ∧ rdLe b 0 2 ≠ 0xA300) ∧
    (let z : BlobXfer := { index := 0x2010, sub := 2, writing := true, total := 64, snapshot := zeros 64, segs := [] }
     let b := toLe 4 0 ++ toLe 2 64 ++ zeros 2
     let w := b ++ zeros 64
     AtRest (served stQuiet { aSession with blob := some z }) { aSession with blob := some z } ∧
     8 ≤ b.length ∧ zeroAt b 6 2 = true ∧ rdLe b 4 2 ≤ (Peer.field 1 2).segment ∧ b.length = 8 ∧ rdLe b 0 4 + rdLe b 4 2 ≤ z.total ∧
     w.length = 8 + rdLe w 4 2 ∧ z.total < rdLe (toLe 4 1 ++ b.drop 4) 0 4 + 64 ∧ z.writing = true ∧ { z with writing := false }.writing = false ∧
     z.complete 0 = none) := by
  decide +kernel

theorem witness_Repeats : Serves (served stQuiet { aSession with lastSeq := 1 }) { aSession with lastSeq := 1 } ∧
    ({ aSession with lastSeq := 1 } : Session).isOpen = true ∧ (5 : Nat) ≠ 1 ∧ (5 : Nat) ≠ (1 + 1) % 2 ^ 32 ∧ 0x11 ∈ copOps := by
  decide +kernel

theorem witness_SpecialReads : Nat.testBit aSession.rights 0 = true ∧ atWork.accReadable = false ∧
    (let u := fenced1 ((atWork.odSet 0xA500 3 1).odSet 0xF200 1 1)
     u.accReadable = true) := by
  decide +kernel

/-! ### Witnesses: the outer rounds -/

/-- A keeper of shard 0 at site 0 of a roster whose site 1 has a keeper under the test key; site 1 or 0 is the anchor. -/
def keeper (anchor : Nat) (inbox : List InMsg) : State :=
  let r : List Byte := [0, 0, 0, 0, 1, 2, 1, 0] ++ zeros 120 ++ (zeros 128 ++ zeros 128) ++ ([1, 0, 0, 0] ++ toLe 4 0 ++ toLe 4 16 ++ zeros 4 ++ idKey)
  let s := State.blobSet (State.blobSet (siteOf 3 0 stRunning) 0x6001 1 r) 0x7500 1 (toLe 4 0 ++ toLe 4 4096 ++ toLe 8 0x1000000)
  { (s.odSet 0x6001 2 0).odSet 0x7600 1 anchor with outer := { inbox := inbox } }

/-- A message from site 1 of a kind about shard k, its bytes beside it. -/
def fromSite (kind k : Nat) (bytes : List Byte) : InMsg := { site := 1, hdr := dataHeader kind 1 k 2 1 0 bytes.length, addr := 0, bytes := bytes }

/-- A manifest of the anchor, site 1, for round 2 of shard 0, with one contribution. -/
def aManifest : List Byte :=
  toLe 4 magicMnft ++ [1, 1] ++ toLe 2 1 ++ toLe 4 0 ++ toLe 4 2 ++ toLe 4 1 ++ [1, 0, 0, 0] ++ zeros 104 ++ zeros 48 ++ idSig

/-- A message that is taken, with a property. -/
def inboxHas (s : State) (kind : Nat) (P : InMsg → State → Bool) : Bool :=
  match s.inboxTake 1 kind with
  | some (m, t) => P m t
  | none => false

theorem witness_ContributionsJudged : (keeper 0 [fromSite 1 0 (zeros 64)]).isAnchor = true ∧
    inboxHas (keeper 0 [fromSite 1 0 (zeros 64)]) 1 (fun m t => t.formBad m.site m.hdr m.bytes && t.judgeReason m.site m.hdr m.bytes == some 1) = true ∧
    (let s : State := { keeper 0 [] with beats := [(0, { ft := 100, action := 3, flags := 1, arg := 2 })], time := { ft := 10000000000000000 } }
     s.roundFt 3 2 = some 100 ∧ s.isAnchor = true ∧ 2 ∉ s.outer.closed ∧ s.time.ft ≠ ftUnset ∧ (100 : Int) + 1000000 * s.odGet 0x7010 1 ≤ s.time.ft) ∧
    (keeper 1 []).isAnchor = false := by
  decide +kernel

theorem witness_ContributionsFail : (keeper 0 []).inboxTake 1 1 = none ∧
    (let m : InMsg := { site := 1, hdr := dataHeader 1 1 0 2 1 0 64, addr := 0x300000, bytes := [] }
     let s : State := { keeper 0 [m] with wrong := [(0xC000, 2)] }
     s.isAnchor = true ∧ inboxHas s 1 (fun m t => m.bytes == [] && t.wrongLine [(m.addr, dhLen m.hdr)] == some 0x300000) = true) ∧
    (keeper 0 []).roundFt 3 2 = none := by
  decide +kernel

/-- The state with the manifest taken from the inbox. -/
def withManifest (k : Nat) (slots : FMap KSlot) : State :=
  let s := keeper 1 [fromSite 2 k aManifest]
  { s with outer := { s.outer with slots := slots } }

/-- All of R232 but the signature. -/
theorem manifestOk_id {s : State} {m : List Byte} (hk : s.keeperKey (mnAnchor m) (mnShard m) = some idKey) (hs : m.drop (m.length - 64) = idSig)
    (h : (rdLe m 0 4 == magicMnft && rdLe m 4 1 == 1 && s.keeps (mnShard m) &&
      !(decide (mnTerm m < s.odGet 0x7600 2) || (mnTerm m == s.odGet 0x7600 2 && mnAnchor m != s.odGet 0x7600 1)) &&
      ascending ((mnContribs m).map (fun c => rdLe c 0 1)) && rdLe m 0x14 1 != 0 && decide (mnPrev m < mnRound m)) = true) :
    s.manifestOk m = true := by
  unfold State.manifestOk
  rw [hk, hs]
  simp only [edVerify_id, Bool.and_true]
  exact h

theorem witness_Manifests : (∀ k ∈ [0, 7], inboxHas (withManifest k []) 2 (fun m t => m.bytes == aManifest && t.inMsgBytes m == aManifest &&
      t.outer.inbox == []) = true) ∧ (withManifest 0 []).outer.inbox.length = 1 ∧
    (keeper 1 []).manifestOk aManifest = true ∧
    ((keeper 1 []).takeManifest aManifest).inPlace 1 (fromSite 2 7 aManifest).hdr = none ∧
    (let h := (fromSite 2 0 aManifest).hdr
     (match ((keeper 1 []).takeManifest aManifest).inPlace 1 h with
      | some (some k, _, _) => (((withManifest 0 [(k, { hdr := h })]).takeManifest aManifest).kslot k).hdr == h
      | _ => false) = true) ∧
    (keeper 1 []).manifestOk (zeros 64) = false := by
  refine ⟨by decide +kernel, by decide +kernel, manifestOk_id (by decide +kernel) (by decide +kernel) (by decide +kernel), by decide +kernel,
    by decide +kernel, by decide +kernel⟩

theorem witness_Requests : inboxHas (keeper 1 [fromSite 3 0 ([3, 0, 0, 0] ++ toLe 4 0 ++ toLe 4 2 ++ zeros 20)]) 3 (fun m t =>
      answerOf t (rdLe m.bytes 0 1) (rdLe m.bytes 1 1) (rdLe m.bytes 4 4) (rdLe m.bytes 8 4) == none) = true ∧
    (let s := keeper 1 [fromSite 3 0 ([3, 0, 0, 0] ++ toLe 4 0 ++ toLe 4 2 ++ zeros 20)]
     inboxHas { s with outer := { s.outer with published := [{ shard := 0, round := 2, bytes := aManifest, contribs := [] }] } } 3 (fun m t =>
       answerOf t (rdLe m.bytes 0 1) (rdLe m.bytes 1 1) (rdLe m.bytes 4 4) (rdLe m.bytes 8 4) == some aManifest) = true) := by
  decide +kernel

/-- A base fetch under way, asked of site 1. -/
def aFetch (req : Nat) : Fetch := { req := req, origin := 1, shard := 0, round := 2, asked := 1, drop := false }

/-- The keeper with the fetch, and the answer arrived. -/
def fetching (req : Nat) (b : List Byte) (pub : List Published) : State :=
  let s := keeper 1 [fromSite 4 0 b]
  { s with outer := { s.outer with fetch := some (aFetch req), published := pub } }

/-- A base message with one group whose image is no shard. -/
def badBase : List Byte := toLe 4 magicBase ++ [1, 1] ++ toLe 2 1 ++ zeros 8 ++ zeros 48 ++ zeros 64

theorem badBase_refused (s : State) : baseOk s 0 (baseGroups badBase 1 64) = false := by
  have h : ∃ g, baseGroups badBase 1 64 = [g] ∧ g.img = [] := ⟨_, rfl, by decide +kernel⟩
  obtain ⟨g, h1, h2⟩ := h
  rw [h1]; unfold baseOk; dsimp only
  cases s.planTensors 0 with
  | nil => rfl
  | cons t ts =>
    have : (rdLe g.img 0 4 == 0x44524853) = false := by rw [h2]; decide
    simp [this]

/-- A manifest entry that names the fold digest of 64 zero bytes. -/
def digestManifest (s : State) : Published :=
  { shard := 0, round := 2, contribs := [],
    bytes := zeros 20 ++ [1, 0, 0, 0] ++ zeros 104 ++ ([1] ++ zeros 31 ++ foldDigest s (toLe 4 magicCtrb ++ zeros 60)) }

theorem witness_Answers : inboxHas (fetching 1 badBase []) 4 (fun m t => t.outer.fetch == some (aFetch 1) && dhShard m.hdr == 0 &&
      rdLe (t.inMsgBytes m) 0 4 == magicBase && rdLe (t.inMsgBytes m) 8 4 == 0) = true ∧
    inboxHas (fetching 3 aManifest []) 4 (fun m t => rdLe (t.inMsgBytes m) 0 4 == magicMnft && mnShard (t.inMsgBytes m) == 0 && t.inMsgBytes m == aManifest) = true ∧
    (let s := fetching 2 (toLe 4 magicCtrb ++ zeros 60) [digestManifest (keeper 1 [])]
     inboxHas s 4 (fun m t => rdLe (t.inMsgBytes m) 0 4 == magicCtrb && t.manifestOf 0 2 == some (digestManifest (keeper 1 [])) &&
       (mnContribs (digestManifest (keeper 1 [])).bytes).any (fun e => rdLe e 0 1 == 1 && slice e 32 16 == foldDigest t (t.inMsgBytes m))) = true) ∧
    (fetching 1 badBase []).outer.fetch = some (aFetch 1) ∧ (aFetch 1).req ≠ 2 := by
  decide +kernel

theorem witness_Notices : (∀ reason ∈ [1, 3, 4, 5, 8], inboxHas (keeper 1 [fromSite 5 0 ([0, reason] ++ zeros 30)]) 5 (fun m t =>
      rdLe m.bytes 0 1 == t.ownSite && rdLe m.bytes 1 1 == reason.toNat && t.outer.fetch == none) = true) ∧
    inboxHas (keeper 1 [fromSite 5 0 ([1, 2] ++ zeros 30)]) 5 (fun m t => rdLe m.bytes 0 1 != t.ownSite && rdLe m.bytes 1 1 != 8) = true := by
  decide +kernel

theorem witness_KeepersWait : (∀ k ∈ [2, 3, 4, 5], (keeper 1 []).inboxTake 1 k = none) ∧ (keeper 1 []).outer.fetch = none ∧
    (let m := fromSite 5 0 ([0, 8] ++ zeros 30)
     let s := keeper 1 [m]
     inboxHas { s with outer := { s.outer with fetch := some (aFetch 1) } } 5 (fun m t => rdLe m.bytes 1 1 == 8 &&
       t.outer.fetch == some (aFetch 1)) = true ∧ (aFetch 1).asked = 1 ∧ (aFetch 1).shard = 0) ∧
    inboxHas (fetching 1 (zeros 64) []) 4 (fun m t => t.outer.fetch == some (aFetch 1) && dhShard m.hdr == 0 && rdLe (t.inMsgBytes m) 0 4 == 0) = true ∧
    (aFetch 1).shard ≠ dhShard (fromSite 4 7 []).hdr ∧ (keeper 1 []).manifestOf 0 2 = none ∧
    (keeper 1 []).manifestOk (zeros 64) = false ∧ (aFetch 1).req = 1 := by
  decide +kernel

/-- The gateway of site 0 whose group is both sites and whose anchor, site 1, is absent; site 0 is next in the fallback order. -/
def lonely (msgs : List (Nat × List Byte)) (claim : Option ClaimRec) : State :=
  let s := State.blobSet (((gateway 0 {}).odSet 0x7600 1 1).odSet 0x7600 7 1) 0x7600 3 ([1, 0] ++ List.replicate 62 0xFF)
  { s.odSet 0x7600 6 3 with outer := { anchorMsgs := msgs, claim := claim } }

/-- An anchor message of site 1. -/
def anchorBytes (typ term anchor : Nat) : List Byte :=
  toLe 4 magicAnch ++ toLe 1 typ ++ [1] ++ toLe 2 term ++ toLe 1 anchor ++ zeros 55

theorem witness_AnchorsChange : (let s := lonely [] none
     s.isGateway = true ∧ s.running = true ∧ s.siteCount ≠ 0 ∧ s.odGet 0x7600 7 = 1 ∧ s.anchorAbsent = true ∧ s.candidate = some s.ownSite ∧
      s.outer.claim = none ∧ s.mayEndorse (max (s.odGet 0x7600 2) s.outer.lastClaim + 1) s.ownSite = true) ∧
    (modIn stQuiet []).isGateway = false ∧
    (lonely [(1, anchorBytes 1 2 0)] none).takeAnchor 1 1 = some (anchorBytes 1 2 0, lonely [] none) ∧
    (lonely [(1, anchorBytes 2 0 1)] none).takeAnchor 1 2 = some (anchorBytes 2 0 1, lonely [] none) ∧ rdLe (anchorBytes 2 0 1) 6 2 ≤ (lonely [] none).odGet 0x7600 2 ∧
    (let c : ClaimRec := { term := 2, ends := [(0, 0), (1, 0)] }
     (lonely [(1, anchorBytes 3 2 0)] (some c)).takeAnchor 1 3 = some (anchorBytes 3 2 0, lonely [] (some c)) ∧ rdLe (anchorBytes 3 2 0) 6 2 = c.term ∧
      rdLe (anchorBytes 3 2 0) 8 1 = (lonely [] (some c)).ownSite ∧ (lonely [] (some c)).siteCount < 2 * c.ends.length ∧
      (lonely [] (some c)).odGet 0x7600 2 < c.term ∧ c.term < 65536) := by
  decide +kernel

theorem witness_AnchorsWait : (∀ k ∈ [1, 2, 3], (lonely [] none).takeAnchor 1 k = none ∧
      (lonely [(1, zeros 64)] none).takeAnchor 1 k = some ([], lonely [] none)) ∧
    (let s := lonely [] none
     let e : State := { s with outer := { s.outer with endorsed := [(1, 1)] } }
     e.isGateway = true ∧ e.running = true ∧ e.odGet 0x7600 7 = 1 ∧ e.anchorAbsent = true ∧ e.candidate = some e.ownSite ∧ e.outer.claim = none ∧
      e.mayEndorse (max (e.odGet 0x7600 2) e.outer.lastClaim + 1) e.ownSite = false) ∧
    (let c : ClaimRec := { term := 2, ends := [(0, 0)] }
     (lonely [(1, anchorBytes 3 5 0)] (some c)).takeAnchor 1 3 = some (anchorBytes 3 5 0, lonely [] (some c)) ∧ rdLe (anchorBytes 3 5 0) 6 2 ≠ c.term ∧
      2 * c.ends.length ≤ (lonely [] (some c)).siteCount) ∧
    anchorBytes 1 2 0 ≠ [] ∧ (0 : Nat) ≤ (lonely [] none).odGet 0x7600 2 := by
  decide +kernel

theorem witness_Claims : let s := (lonely [(1, anchorBytes 2 1 1)] none).odSet 0x7600 1 0
    let t := s.odSet 0x6001 2 0
    (t.takeAnchor 1 2).isSome = true ∧ (let u := (State.blobSet ((lonely [] none).odSet 0x7600 1 2) 0x7600 3 ([2, 1, 0] ++ List.replicate 61 0xFF))
      u.mayEndorse 1 1 = true ∧ u.odGet 0x7600 2 < rdLe (anchorBytes 2 1 1) 6 2) := by
  decide +kernel

/-! ### Witnesses: power, resets, release, test access -/

/-- A state with other platform flags. -/
def platState (st : Nat) (f : Plat → Plat) : State := { modIn st [] with plat := f State.reset.plat }

theorem witness_ResetsAct : (.vdlLinkReset, 4, 0, ResetCls.warm, false) ∈ ([(Instr.vdlLinkReset, 4, 0, .warm, false), (.sagReset, 2, 1, .cold, true)] :
      List (Instr × Nat × Nat × ResetCls × Bool)) ∧
    (let s := platState stRunning id
     s.plat.needPower = false ∧ s.plat.pinHolds = false ∧ s.plat.pinLow = false ∧ s.resetting = false ∧ s.modState ≠ stDumping) ∧
    (let s := State.reset
     s.resetting = true ∧ s.plat.cls ≠ .warm ∧ s.plat.needPower = false) ∧
    (platState stQuiet (fun p => { p with pinLow := true })).plat.pinLow = true ∧ (platState stBoot (fun p => { p with pinHolds := true })).plat.pinHolds = true ∧
    (platState stCold (fun p => { p with needPower := true })).plat.needPower = true := by
  decide +kernel

theorem witness_ResetsAbsorbed :
    (let s := platState stBoot (fun p => { p with cls := .thermal, step := 3 })
     s.resetting = true ∧ s.plat.cls ≠ .warm ∧ s.outranked 4 = false ∧ s.plat.dumpStopped = false) ∧
    (let s := State.reset.doReset 2 1 .cold false
     s.resetting = true ∧ s.outranked 7 = true ∧ s.outranked 2 = false ∧ s.plat.pinLow = false) ∧
    (platState stFaulted (fun p => { p with dumpStopped := true })).plat.dumpStopped = true ∧
    (platState stDumping id).modState = stDumping ∧ (platState stDumping id).outranked 4 = false ∧
    (let s := platState stBoot (fun p => { p with pinLow := true, pinHolds := true })
     s.plat.pinHolds = true ∧ s.plat.needPower = false) ∧
    (let s := platState stCold (fun p => { p with pinLow := true, pinHolds := true, needPower := true })
     s.plat.needPower = true ∧ s.plat.pinHolds = true) ∧
    ([0, 690, 740, 980, 840].getD 1 0 ≤ 690) ∧ (State.reset.doReset 2 1 .cold false).plat.tripAt + 1000 ≤
      ({ State.reset with time := { now := 5000 } } : State).time.now := by
  decide +kernel

/-- The store of firmware with its slots, and a control block. -/
def withStore (a b : SlotImg) (c : CtlBlock) : State := { State.reset with store := { State.reset.store with slot0 := a, slot1 := b, ctl0 := c, ctl1 := {} } }

/-- The factory's release is valid while no commit has raised or revoked anything. -/
theorem factory_valid (s : State) (k : Nat) (h : s.slotImg k = .factory) (h1 : s.store.rollback = 0) (h2 : s.store.revoked = 0) : s.slotFail k = 0 := by
  unfold State.slotFail State.fuseRollback
  rw [h, h1, h2]; simp

theorem witness_RomChoice : (withStore .factory .factory { confirmed := 1, seq := 1 }).slotFail 0 = 0 ∧
    (withStore .empty .factory { confirmed := 2, seq := 1 }).slotFail 1 = 0 ∧
    (let s := withStore .factory .empty { confirmed := 1, seq := 1 }
     s.ctl.trial = false ∧ s.ctl.preferred = 0 ∧ s.confirmed 0 = true) ∧
    (let s := withStore .empty .factory { confirmed := 2, seq := 1 }
     s.ctl.trial = false ∧ s.confirmed 0 = false ∧ s.confirmed (1 - 0) = true) ∧
    (withStore .factory .empty { trial := true, seq := 1 }).ctl.trial = true ∧
    (let s := withStore .empty .factory { trial := true, confirmed := 2, seq := 1 }
     s.ctl.trial = true ∧ s.slotFail 0 ≠ 0 ∧ s.confirmed 1 = true) ∧
    (let s := withStore .empty .empty { confirmed := 3, seq := 1 }
     s.slotFail 0 ≠ 0 ∧ s.slotFail 1 ≠ 0 ∧ s.romChoose.2 = false) :=
  ⟨factory_valid _ _ rfl rfl rfl, factory_valid _ _ rfl rfl rfl, by decide +kernel⟩

theorem witness_ReleaseSteps : State.reset.modState = stBoot ∧ State.reset.plat.step = 1 ∧ State.reset.plat.recovery = false ∧
    (∀ n ∈ [2, 3, 4, 8, 9], (platState stBoot (fun p => { p with step := n })).plat.step = n ∧ (platState stBoot (fun p => { p with step := n })).modState = stBoot ∧
      (platState stBoot (fun p => { p with step := n })).stepRuns = true) ∧
    (platState stBoot (fun p => { p with step := 2, ref10m := false })).plat.ref10m = false ∧ State.reset.plat.ref10m = true ∧ State.reset.stepRuns = true ∧
    (let s := platState stBoot (fun p => { p with recovery := true })
     s.plat.recovery = true ∧ s.romTake.fwFail s.romTake.plat.image ≠ 0) := by
  decide +kernel

theorem witness_PowerEvents : let s := modIn stQuiet []
    s.modState ≠ stCold ∧ s.odGet 0x8010 5 = 0 ∧ s.plat.rails = [] ∧ (700 : Nat) < 715 ∧ 16 < 17 ∧
    FV.lt (natV 2750) (dec32 0x45800000) = true ∧ FV.lt (natV 2750) (dec32 0x44FA0000) = false ∧
    (let ws : List W32 := ((0x44FA0000 : W32) :: []).take (10 * s.odGet 0x8100 2)
     FV.lt ((sumV ws).mul (natV 100)) (((natV ws.length).mul (natV (s.odGet 0x8100 1))).mul (natV 97)) = true ∧
     FV.lt ((natV ws.length).mul (natV (s.odGet 0x8100 1))) (sumV ws) = false ∧
     FV.lt ((natV ws.length).mul (natV 1000)) (sumV ws) = true) ∧ ¬ (9 ≤ s.plat.lowRun) ∧
    s.plat.rails.contains 1 = false ∧ (platState stQuiet (fun p => { p with rails := [1] })).plat.rails.contains 1 = true ∧
    (modIn stCold []).modState = stCold ∧ (715 : Nat) ≤ 720 ∧
    3 ≤ s.odGet 0x8300 1 ∧ (∃ q ∈ thermalSteps, 85 + q.2 - 3 < 85 + q.2) := by
  decide +kernel

theorem witness_TestAccessPort : (modIn stQuiet []).plat.needPower = false ∧ (modIn stQuiet []).modState ∉ [stArmed, stRunning, stHeld] ∧
    (modIn stRunning []).modState ∈ [stArmed, stRunning, stHeld] ∧ Nat.testBit ((modIn stQuiet []).odGet 0xA500 3) 1 = false ∧
    Nat.testBit ((modIn stQuiet [((0xA500, 3), 2)]).odGet 0xA500 3) 1 = true ∧ State.hasCell 6 = true ∧
    (platState stCold (fun p => { p with needPower := true })).plat.needPower = true := by
  decide +kernel

theorem witness_RestartsWait : State.portExists (modIn stRunning []) (9 * 65536) = false ∧ ((modIn stRunning []).unit 1 3).st ≠ 2 ∧
    (modIn stRunning []).changes = [] ∧ (modIn stRunning []).siteStopping = false ∧
    ({ modIn stRunning [] with siteStopping := true } : State).siteStopping = true ∧ (modIn stQuiet []).inSiteJob = false ∧
    (let s : State := { siteOf 2 5 stQuiet with roleChange := true }
     let ms := s.lModules
     s.modState = stQuiet ∧ s.inSiteJob = true ∧ s.roleChange = true ∧ ((takeParts ms).map (·.smn)).foldl min 256 = s.smn ∧
      ∃ m, m ∈ ms ∧ Nat.testBit m.roles 2 = true) ∧
    (∃ b, ({ modIn stQuiet [] with restart := some b } : State).restart = some b) ∧ State.reset.restart = none ∧
    (modIn stQuiet []).test.bist = 0 ∧ (modIn stQuiet []).odGet 0xA500 3 = 0 := by
  refine ⟨by decide +kernel, by decide +kernel, by decide +kernel, by decide +kernel, by decide +kernel, by decide +kernel, by decide +kernel,
    ⟨true, rfl⟩, by decide +kernel⟩

theorem witness_UnitsReturn :
    (let s := (modIn stRunning []).unitMod 1 3 (fun u => { u with st := 2 })
     s.portExists (1 * 65536 + 3) = true ∧ (3 : Nat) < 65536 ∧ (s.unit 1 3).st = 2) ∧
    (let s := (modIn stRunning []).t1Mod 5 (fun x => { x with readmit := some 8 })
     (s.t1 5).readmit = some 8 ∧ s.modState ≠ stQuiet ∧ s.modState ≠ stArmed) ∧
    (let s := (modIn stRunning []).t1Mod 5 (fun x => { x with readmit := some 8, spareMap := 0x76543218, spareState := 1, retired := 1 })
     s.physSlot 5 0 = (s.t1 5).spareSlot ∧ (s.t1 5).readmit = some 8) ∧
    ((modIn stRunning []).t1 5).readmit ≠ some 8 ∧
    (let s := siteOf 1 8 stQuiet
     let ms := s.lModules
     s.modState = stQuiet ∧ s.inSiteJob = true ∧
      (((takeParts ms).filter (fun m => !(([1] : List Nat).contains m.smn))).map (·.smn)).foldl min 256 = s.smn ∧
      ms.filter (fun m => Nat.testBit m.roles 3 && [1].contains m.smn) ≠ []) ∧
    (let s := siteOf 1 1 stQuiet
     (takeParts s.lModules).filter (fun m => [1].contains m.smn) ≠ [] ∧ (s.lModules.filter (fun m => Nat.testBit m.roles 3 && [].contains m.smn)).length < 1 ∧
      (((takeParts s.lModules).filter (fun m => !(([1] : List Nat).contains m.smn))).map (·.smn)).foldl min 256 = s.smn ∧
      (((takeParts s.lModules).filter (fun m => !(([0] : List Nat).contains m.smn))).map (·.smn)).foldl min 256 ≠ s.smn) ∧
    (let s := siteOf 2 4 stQuiet
     ∃ m, m ∈ s.lModules ∧ Nat.testBit m.roles 2 = true) ∧
    ({ modIn stQuiet [] with test := { State.reset.test with bist := 3 } } : State).test.bist ≠ 0 ∧
    (modIn stQuiet [((0xA500, 3), 1)]).odGet 0xA500 3 ≠ 0 := by
  decide +kernel

/-- A layout of three modules: 0 the leader, 1 a member, 2 a spare. -/
def threeModules : State :=
  State.blobSet (modIn stQuiet [((0x4100, 3), 0)]) 0x2010 2 (toLe 4 0x544F594C ++ [1, 3] ++ zeros 58 ++ ([0, 3] ++ zeros 14) ++ ([1, 0] ++ zeros 14) ++ ([2, 8] ++ zeros 14))

theorem witness_SpareTakesOver : let ms := threeModules.lModules
    let lost := (takeParts ms).filter (fun m => [1].contains m.smn)
    threeModules.modState = stQuiet ∧ threeModules.inSiteJob = true ∧ lost ≠ [] ∧
      lost.length ≤ (ms.filter (fun m => Nat.testBit m.roles 3 && [2].contains m.smn)).length ∧
      (((takeParts ms).filter (fun m => !(([1] : List Nat).contains m.smn))).map (·.smn)).foldl min 256 = threeModules.smn := by
  decide +kernel

/-! ### Tests: ill-formed operands, one for each check of WellFormed -/

theorem test_wf_refused : ([.streamDescriptor 16777216 0, .nop 6144 0, .nop 0 2, .handSwitch 6144, .syncApply 262144 [], .dataMoveDescriptor 0 ⟨2, 0⟩, .openOp 0 ⟨2, true⟩, .waitRelease 0 ⟨2, false⟩,
      .passComplete 0 ⟨2, false⟩, .t1Silence 768 0, .t2Silence 96 0, .dieWatchdog 2 0, .flit 16 0 (zeros 256), .flit 0 4 (zeros 256), .flit 0 0 (zeros 255), .frameSend ⟨2, []⟩, .frameSend ⟨0, [64]⟩, .portTrained 0 65536 0 0,
      .portTrained 0 0 16 0, .portTrained 0 0 0 2147483648, .portTrained 0 0 0 (-2147483649), .syncInc 256, .timePacket 0 100, .reduce 0, .reduce 6,
      .tiesum 16, .efadd 2, .scrub 4398046511104 ⟨0, false⟩, .scrub 0 ⟨37, true⟩, .arp 3 [], .dataFrame 0 (zeros 15) [], .timeExchange 64,
      .rtoExpiry 0 4294967296, .contribMessage 64, .fetchRetry 4294967296, .siteRestart [256] [], .siteRestart [] [256], .ppsIn 100,
      .railWarning 0 0, .railWarning 5 0, .railWarning 1 65536, .thermalSample 17 0, .bistComplete [], .configRead 18446744073709551616 0,
      .configRead 0 4097, .openSession (.field (2 ^ 128) 0 0 []), .openSession (.field 0 65536 0 []),
      .openSession (.field 0 0 65536 []), .openSession (.field 0 0 0 (zeros 1473)),
      .notifyResend 4294967296 1, .notifyResend 1 4294967296, .trainResetComplete 0 0, .trainResetComplete 6 0, .trainResetComplete 1 768, .readmitScrubDone 768 0 true,
      .readmitScrubDone 0 9 true] : List Instr).all (fun c => !c.wf) = true := by
  decide +kernel

theorem test_wf_accepted : ([.streamDescriptor 16777215 0, .nop 6143 1, .flit 15 0 (zeros 256), .portTrained 15 65535 15 (-2147483648), .reduce 1, .reduce 5,
      .openSession .mailbox, .openSession (.field 0 65535 65535 (zeros 1472)), .flit 0 3 (zeros 256), .arp 2 [], .trainResetComplete 5 0, .readmitScrubDone 767 8 false] : List Instr).all
      Instr.wf = true := by
  decide +kernel

/-! ### Tests: values from the spec's worked examples -/

/-- 1.7: the addresses of pinion 6,143, and its sync IDs. -/
theorem test_addresses : iaAddr 6143 = 0x02002FFE0000 ∧ daAddr 6143 = 0x02002FFE4000 ∧ (State.reset.sync (6143 * 32)) = {} := by decide +kernel

/-- 1.7: the spare takes logical slot 3 of T1 767: the map and the state. -/
theorem test_substitution : let s := State.reset.t1Mod 767 (fun x => { x with retired := 8 })
    let t := (s.applyChange (.substitute 767 3)).1.t1 767
    t.spareMap = 0x76548210 ∧ t.spareState = 1 ∧ t.retired = 8 := by decide +kernel

/-- 3.5: 18.0 and 6.7968 in E4M3 are 0x59 and 0x4E. -/
theorem test_e4m3 : (convFloat 0 true (dec32 0x41900000)).1 = 0x59 ∧ (convFloat 0 true (dec32 0x40D97F63)).1 = 0x4E := by decide +kernel

/-- 3.8: with e = 10 the digits of 1,000.0 are 125 and 0, those of 3.0 are 0, 48 and 0. -/
theorem test_slices : sliceDigit (FV.ofInt 1000) 10 0 = 125 ∧ sliceDigit (FV.ofInt 1000) 10 1 = 0 ∧ sliceDigit (FV.ofInt 3) 10 0 = 0 ∧
    sliceDigit (FV.ofInt 3) 10 1 = 48 ∧ sliceDigit (FV.ofInt 3) 10 2 = 0 := by decide +kernel

/-- 5.7: a logged row of 8,704 parameters has 136 blocks and 17,664 bytes. -/
theorem test_log_row : rowBlocks 8704 = 136 ∧ rowLength 8704 = 17664 := by decide +kernel

/-- Table 6.12 loaded. -/
def table612 (ft : Int) : State :=
  let gap : Beat := { ft := 3000500000000, flags := 1, period := 1000000000 }
  let sealing : Beat := { ft := 3015000000000, action := 1, flags := 7, arg := 67, period := 45000000000 }
  let sending : Beat := { ft := 3015500000000, action := 2, flags := 7, arg := 67, period := 45000000000 }
  { modIn stArmed [] with beats := [(0, gap), (1, sealing), (2, sending)], time := { ft := ft } }

/-- 6.7: the module that enters RUNNING at 3,016 s skips round 67; at 3,015.2 s it skips only SEAL(67). -/
theorem test_beats_late : (let s := (table612 3016000000000).enterRunning
     (s.beat 0).ft = 3016500000000 ∧ (s.beat 1).ft = 3060000000000 ∧ (s.beat 1).arg = 68 ∧ (s.beat 2).ft = 3060500000000 ∧ (s.beat 2).arg = 68) ∧
    (let s := (table612 3015200000000).enterRunning
     (s.beat 1).arg = 68 ∧ (s.beat 2).arg = 67) := by decide +kernel

/-- 6.7: of two entries with one FT the lower index executes first. -/
theorem test_beats_order : let s := { (table612 3015500000000) with beats := [(0, { ft := 3015500000000, flags := 1 }), (2, { ft := 3015500000000, action := 2, flags := 1 })] }
    ({ s with time := { ft := 3015500000000 } } : State).dueBeat = some 0 := by decide +kernel

/-! ### Tests: published check values of the algorithms that the spec names -/

/-- R23 and R169: CRC-32C and CRC-64/XZ of the nine digits. -/
theorem test_crc : crc32c (ascii "123456789") = 0xE3069283 ∧ crc64 (ascii "123456789") = 0x995DC9BBDF1939FA := by decide +kernel

/-- SHA-512 of "abc" (FIPS 180-4), its first and last words. -/
theorem test_sha512 : beNat (slice (sha512 (ascii "abc")) 0 8) = 0xDDAF35A193617ABA ∧ beNat (slice (sha512 (ascii "abc")) 56 8) = 0x2A9AC94FA54CA49F := by
  decide +kernel

/-- AES-256-GCM of an empty body and of one zero block under zeros: the tags of the GCM test cases 13 and 14. -/
theorem test_gcm : beNat (gcmSeal (zeros 32) (zeros 12) [] []).2 = 0x530F8AFBC74536B9A963B4F1C4CB738B ∧
    beNat (gcmSeal (zeros 32) (zeros 12) [] (zeros 16)).1 = 0xCEA7403D4D606B6E074EC5D3BAF39D18 ∧
    beNat (gcmSeal (zeros 32) (zeros 12) [] (zeros 16)).2 = 0xD0D1C8A799996BF0265B98B5D48AB919 := by decide +kernel

/-- X25519 (RFC 7748, 5.2): the value after one iteration. -/
theorem test_x25519 : beNat (x25519 x25519Base x25519Base) = 0x422C8E7A6227D7BCA1350B3E2BB7279F7897B87BB6854B783C60E80311AE3079 := by decide +kernel

/-- Ed25519 (RFC 8032, 7.1, test 1): the signature of the empty message, and none of another message. -/
theorem test_ed25519 : let pub := toBe 32 0xD75A980182B10AB7D54BFED3C964073A0EE172F3DAA62325AF021A68F707511A
    let sig := toBe 64 0xE5564300C360AC729086E2CC806E828A84877F1EB8E5D974D873E065224901555FB8821590A33BACC61E39701CF9B46BD25BF5F0595BBE24655141438E7A100B
    edVerify pub [] sig = true ∧ edVerify pub [0] sig = false := by decide +kernel

/-! ### Tests: one step -/

/-- A step of a command on a state, with a property of the next state. -/
def stepIs (c : Instr) (s : State) (P : State → Bool) : Bool := nextIs (step { s with pending := [c] }) P

/-- R32: ADDI wraps, and s0 discards what is written to it. -/
theorem test_addi : stepIs (.addi 0 0) (withReg 1 0xFFFFFFFF (running (word 9 [(52, 2), (48, 1), (0, 2)]))) (fun t => (t.hand 0 0).sreg 2 == 1) = true ∧
    stepIs (.li 0 0) (running (word 8 [(52, 0), (0, 7)])) (fun t => (t.hand 0 0).sreg 0 == 0 && (t.hand 0 0).pc == 1) = true := by decide +kernel

/-- R338: a shift right by 33 shifts by one and copies bit 31. -/
theorem test_alu : stepIs (.alu 0 0) (withReg 2 33 (withReg 1 0x80000000 (running (word 0xA [(52, 3), (48, 1), (44, 2), (40, 8)]))))
    (fun t => (t.hand 0 0).sreg 3 == 0xC0000000) = true := by decide +kernel

/-- R56: LOOP branches while the register is not 0 after it has lost 1. -/
theorem test_loop : stepIs (.loop 0 0) (withReg 1 2 (running (word 3 [(52, 1), (0, 5)]))) (fun t => (t.hand 0 0).pc == 5 && (t.hand 0 0).sreg 1 == 1) = true ∧
    stepIs (.loop 0 0) (withReg 1 1 (running (word 3 [(52, 1), (0, 5)]))) (fun t => (t.hand 0 0).pc == 1 && (t.hand 0 0).sreg 1 == 0) = true := by decide +kernel

/-- R55: STS stores little-endian into the data area. -/
theorem test_sts : stepIs (.sts 0 0) (withReg 1 0x01020304 (running (word 0xC [(44, 1), (0, 8)])))
    (fun t => t.memByte (daAddr 0 + 8) == 4 && t.memByte (daAddr 0 + 11) == 1) = true := by decide +kernel

/-- R54: a reserved field that is not 0 raises ILLEGAL_OP, and the pinion is fenced (R56). -/
theorem test_illegal : stepIs (.nop 0 0) (running (word 0 [(0, 1)])) (fun t => t.odGet 0x2150 2 == 1 && t.pinSt 0 != 0) = true := by decide +kernel

/-- R333: the IDCODE of the TAP. -/
theorem test_idcode : stepIs .idcode (modIn stQuiet []) (fun t => t.out.any (fun o => match o with
    | .scan b => b.length == 32 && b.headD false
    | _ => false)) = true := by decide +kernel

/-- R293: the steps of the release follow one another. -/
theorem test_boot : stepIs .bootStepComplete (platState stBoot (fun p => { p with step := 4 })) (fun t => t.plat.step == 5) = true := by decide +kernel

/-- R333: a private instruction without an unlock is not accepted; with it the step stops. -/
theorem test_private : stepIs (.internalTest []) (modIn stQuiet []) (fun t => t.test.ir == .testLogicReset) = true ∧
    (match step { modIn stQuiet [((0xA500, 3), 2)] with pending := [.internalTest []] } with
      | .refused .testInstruction => true
      | _ => false) = true := by decide +kernel

end Sys2Proof.Tests
end

section
/-! SUPPORT. Companion accesses over VDL (R20, R21), the VDL link and the Crown's own reset (R261): a lemma for each case of the two
accesses, and the statement about them. -/

namespace Sys2Proof.Machine

/-! ### What a write of memory leaves unchanged -/

@[simp] theorem memWrite_od (s : State) (a : Nat) (bs : List Byte) : (s.memWrite a bs).od = s.od := by
  induction bs generalizing s a with
  | nil => rfl
  | cons b bs ih => exact ih _ _

@[simp] theorem memWrite_pinions (s : State) (a : Nat) (bs : List Byte) : (s.memWrite a bs).pinions = s.pinions := by
  induction bs generalizing s a with
  | nil => rfl
  | cons b bs ih => exact ih _ _

@[simp] theorem slowWrite_od (s : State) (a : Nat) (bs : List Byte) : (s.slowWrite a bs).od = s.od := by
  induction bs generalizing s a with
  | nil => rfl
  | cons b bs ih => exact ih _ _

@[simp] theorem slowWrite_pinions (s : State) (a : Nat) (bs : List Byte) : (s.slowWrite a bs).pinions = s.pinions := by
  induction bs generalizing s a with
  | nil => rfl
  | cons b bs ih => exact ih _ _

@[simp] theorem writeBytes_od (s : State) (a : Nat) (bs : List Byte) : (s.writeBytes a bs).od = s.od := by
  unfold State.writeBytes
  split
  · exact slowWrite_od _ _ _
  · exact memWrite_od _ _ _

@[simp] theorem writeBytes_pinions (s : State) (a : Nat) (bs : List Byte) : (s.writeBytes a bs).pinions = s.pinions := by
  unfold State.writeBytes
  split
  · exact slowWrite_pinions _ _ _
  · exact memWrite_pinions _ _ _

/-- Below the slow tier a write reaches exactly its bytes of the module's own memory. -/
theorem memByte_writeBytes (s : State) {a : Nat} (bs : List Byte) (h : a < slowBase) (b : Nat) :
    (s.writeBytes a bs).memByte b = if a ≤ b ∧ b < a + bs.length then bs.getD (b - a) 0 else s.memByte b := by
  unfold State.writeBytes
  rw [if_neg (Nat.not_le.mpr h)]
  exact memByte_memWrite _ a bs b

theorem barrelBase_lt_slowBase : barrelBase < slowBase := by decide

/-- A write below the slow tier that is then answered: exactly its bytes change, and neither the dictionary nor a pinion does. -/
theorem writeBytes_emit_effect (s : State) {a : Nat} (bs : List Byte) (o : Output) (h : a < slowBase) :
    let t := (s.writeBytes a bs).emit o
    (∀ b, t.memByte b = if a ≤ b ∧ b < a + bs.length then bs.getD (b - a) 0 else s.memByte b) ∧ t.od = s.od ∧ t.pinions = s.pinions :=
  ⟨memByte_writeBytes s bs h, writeBytes_od s a bs, writeBytes_pinions s a bs⟩

/-! ### Companion reads (R20) -/

/-- A companion read of either kind is one and the same operation. -/
theorem exec_companionRead {s : State} {off n : Nat} {c : Instr} (hup : s.vdlUp = true)
    (hc : c = .configRead off n ∨ c = .apertureRead off n) : exec c s = .next (s.vdlRead off n) := by
  obtain rfl | rfl := hc
  · exact if_pos hup
  · exact if_pos hup

theorem vdlRead_config {s : State} {off n : Nat} (h : off + n ≤ 0x1000000) :
    s.vdlRead off n = s.emit (.vdlData (s.cfgRead off n)) := if_pos h

theorem vdlRead_between {s : State} {off n : Nat} (h : 0x1000000 < off + n) (hlt : off < apertureBase) :
    s.vdlRead off n = s.vdlReadError := by
  unfold State.vdlRead
  rw [if_neg (Nat.not_le.mpr h), if_pos hlt]

/-- The aperture is shut to a read: the module is not up yet, or the range is not wholly in one stack. -/
def ApertureShut (s : State) (a n : Nat) : Prop :=
  s.modState = stCold ∨ s.modState = stBoot ∨ barrelBase ≤ a ∨ s.inHbm a n = false

theorem not_apertureShut {s : State} {a n : Nat} (hst : stQuiet ≤ s.modState) (ha : a < barrelBase) (hin : s.inHbm a n = true) :
    ¬ ApertureShut s a n := by
  rintro (h | h | h | h)
  · simp [h, stCold, stQuiet] at hst
  · simp [h, stBoot, stQuiet] at hst
  · omega
  · simp [h] at hin

/-- A read in the aperture by whether it is open and what the lines it touches hold (R136). -/
theorem vdlRead_aperture {s : State} {off n : Nat} (h : apertureBase ≤ off) :
    (ApertureShut s (off - apertureBase) n → s.vdlRead off n = s.vdlReadError) ∧
    (¬ ApertureShut s (off - apertureBase) n →
      (s.wrongLine [(off - apertureBase, n)] = none →
        s.vdlRead off n = s.emit (.vdlData (s.readBytes (off - apertureBase) n))) ∧
      ∀ x, s.wrongLine [(off - apertureBase, n)] = some x → s.vdlRead off n = s.vdlReadError.eccFault x) := by
  have hshut : (s.modState = stCold || s.modState == stBoot || !decide (off - apertureBase < barrelBase) ||
      !s.inHbm (off - apertureBase) n) = true ↔ ApertureShut s (off - apertureBase) n := by
    simp [ApertureShut, or_assoc]
  have hwin : ¬ off + n ≤ 0x1000000 := by simp only [apertureBase] at h; omega
  unfold State.vdlRead
  rw [if_neg hwin, if_neg (Nat.not_lt.mpr h)]
  refine ⟨fun hs => if_pos (hshut.mpr hs), fun hs => ?_⟩
  dsimp only
  rw [if_neg (mt hshut.mp hs)]
  exact ⟨fun hw => by rw [hw], fun x hw => by rw [hw]⟩

/-! ### Companion writes (R20) -/

/-- A companion write of either kind is one and the same operation. -/
theorem exec_companionWrite {s : State} {off : Nat} {bytes : List Byte} {c : Instr} (hup : s.vdlUp = true)
    (hc : c = .configWrite off bytes ∨ c = .apertureWrite off bytes) : exec c s = .next (s.vdlWrite off bytes) := by
  obtain rfl | rfl := hc
  · exact if_pos hup
  · exact if_pos hup

theorem vdlWrite_mailbox {s : State} {off : Nat} {bytes : List Byte} (hlo : 0x200000 ≤ off) (hhi : off + bytes.length ≤ 0x210000) :
    s.vdlWrite off bytes = State.dueResets (((s.mbWrite (off - 0x200000) bytes).mailWritten).emit .vdlOk) :=
  if_pos (by simp [hlo, hhi])

/-- The aperture takes a write: a range wholly in one stack, in QUIET, ARMED or HELD. -/
def ApertureTakes (s : State) (a n : Nat) : Prop :=
  a < barrelBase ∧ s.inHbm a n = true ∧ s.modState ∈ [stQuiet, stArmed, stHeld]

/-- A write outside the mailbox reaches memory where the aperture takes it, and otherwise is discarded. -/
theorem vdlWrite_outside {s : State} {off : Nat} {bytes : List Byte} (h : off < 0x200000 ∨ 0x210000 < off + bytes.length) :
    (apertureBase ≤ off → ApertureTakes s (off - apertureBase) bytes.length →
      s.vdlWrite off bytes = (s.writeBytes (off - apertureBase) bytes).emit .vdlOk) ∧
    (¬ (apertureBase ≤ off ∧ ApertureTakes s (off - apertureBase) bytes.length) → s.vdlWrite off bytes = s.vdlWriteError) := by
  have htakes : (apertureBase ≤ off && decide (off - apertureBase < barrelBase) && s.inHbm (off - apertureBase) bytes.length &&
      (s.modState == stQuiet || s.modState == stArmed || s.modState == stHeld)) = true ↔
      apertureBase ≤ off ∧ ApertureTakes s (off - apertureBase) bytes.length := by
    simp [ApertureTakes, and_assoc, or_assoc]
  have hbox : ¬ (0x200000 ≤ off && decide (off + bytes.length ≤ 0x210000)) = true := by
    simp only [Bool.and_eq_true, decide_eq_true_eq]
    omega
  unfold State.vdlWrite
  dsimp only
  rw [if_neg hbox]
  exact ⟨fun hb ht => if_pos (htakes.mpr ⟨hb, ht⟩), fun hn => if_neg (mt htakes.mp hn)⟩

/-- An offset in the aperture is past the mailbox. -/
theorem outside_mailbox_of_aperture {off : Nat} (n : Nat) (h : apertureBase ≤ off) : off < 0x200000 ∨ 0x210000 < off + n := by
  simp only [apertureBase] at h
  omega

/-! ### The link and the Crown's own reset (Table 6.13, R261) -/

theorem exec_vdlLinkUp {s : State} (hrel : s.plat.released.contains 1 = true) (hprbs : s.vdlPrbs = false) :
    exec .vdlLinkUp s = .next (s.odSet 0x1220 1 2) :=
  if_pos (by rw [hrel, hprbs]; rfl)

theorem exec_vdlTimeout {s : State} (hup : s.vdlUp = true) (b : Bool) :
    exec (.vdlTimeout b) s = .next (((s.bump 0x9110 7).bump 0x1220 2).odSet 0x1220 1 1) := if_pos hup

theorem exec_crownHeartbeat {s : State} (hdown : s.crown.down = false) (hst : s.modState ≠ stCold) (hrec : s.plat.recovery = false) :
    exec .crownHeartbeat s = .next { s.bump 0x9110 8 with crown := { s.crown with down := true } } :=
  if_neg (by simp [hdown, hst, hrec])

theorem exec_crownReturn {s : State} (hdown : s.crown.down = true) : exec .crownReturn s = .next s.crownReturn := if_pos hdown

/-- The events that the Crown's own reset loses: those that wait in a session, and those that arose meanwhile. -/
def lostEvents (s : State) : Nat := (s.crown.sessions.map (fun x => x.queue.length)).sum + s.crown.lostCount

/-- The module behind a Crown that has come back with nothing open. -/
def withCrownCleared (s : State) : State :=
  { s with crown := { s.crown with
      sessions := [], outQ := [], waiting := [], resets := [], down := false, holdNotify := false, lostCount := 0 } }

/-- Outside FAULTED and DUMPING the return clears the Crown, counts what was lost and does nothing else. -/
theorem crownReturn_eq {s : State} (hf : s.modState ≠ stFaulted) (hd : s.modState ≠ stDumping) :
    s.crownReturn = (withCrownCleared s).bumpBy 0x1210 5 (lostEvents s) := by
  let t := (withCrownCleared s).bumpBy 0x1210 5 (lostEvents s)
  have hst : t.modState = s.modState := odGet_bumpBy_ne (withCrownCleared s) _ (by decide)
  have hf' : t.modState ≠ stFaulted := by rwa [hst]
  have hd' : t.modState ≠ stDumping := by rwa [hst]
  exact (if_neg hf').trans (if_neg hd')

/-- The counter of lost events, OD 0x1210.05, is a U64. -/
theorem odRow_lostEvents : (odRow 0x1210 5).map (·.size) = some 8 := by decide +kernel

theorem odGet_bumpBy_lostEvents (s : State) (n : Nat) : (s.bumpBy 0x1210 5 n).odGet 0x1210 5 = (s.odGet 0x1210 5 + n) % 2 ^ 64 := by
  obtain ⟨r, hr, hsize⟩ := Option.map_eq_some_iff.mp odRow_lostEvents
  unfold State.bumpBy
  rw [odGet_odSet_same, hr]
  have hwidth : 256 ^ r.size = 2 ^ 64 := by rw [hsize]; norm_num
  simp only [hwidth]

end Sys2Proof.Machine

open Sys2Proof Sys2Proof.Machine

/-- Settles O31: each clause is one case of the operation that its command runs. -/
theorem vdlAndCrown : Obligations.VdlAndCrown := by
  refine ⟨fun s => ⟨exec_vdlLinkUp, exec_vdlTimeout, exec_crownHeartbeat, fun hdown => ?crown⟩,
    fun s off n hup c hc => ?read, fun s off bytes hup c hc => ?write⟩
  case crown =>
    refine ⟨_, exec_crownReturn hdown, rfl, fun hf hd => ?_⟩
    rw [crownReturn_eq hf hd, Nat.add_assoc]
    exact ⟨rfl, rfl, rfl, rfl, odGet_bumpBy_lostEvents _ _⟩
  case read =>
    rw [exec_companionRead hup hc]
    refine ⟨fun h => ?_, fun h hlt => ?_, fun hbase hst ha hin => ?_, fun hbase hshut => ?_⟩
    · rw [vdlRead_config h]
    · rw [vdlRead_between h hlt]; rfl
    · obtain ⟨hclean, hwrong⟩ := (vdlRead_aperture hbase).2 (not_apertureShut hst ha hin)
      exact ⟨fun h => congrArg _ (hclean h), fun x h => congrArg _ (hwrong x h)⟩
    · exact congrArg _ ((vdlRead_aperture hbase).1 hshut)
  case write =>
    rw [exec_companionWrite hup hc]
    refine ⟨fun hlo hhi => ?_, fun hout hlt => ?_, fun hbase ha hin hst => ?_, fun hbase hno => ?_⟩
    · rw [vdlWrite_mailbox hlo hhi]
    · exact congrArg _ ((vdlWrite_outside hout).2 fun h => Nat.not_le.mpr hlt h.1)
    · have hw := (vdlWrite_outside (outside_mailbox_of_aperture bytes.length hbase)).1 hbase ⟨ha, hin, hst⟩
      exact ⟨_, congrArg _ hw, writeBytes_emit_effect s bytes .vdlOk (ha.trans barrelBase_lt_slowBase)⟩
    · refine congrArg _ ((vdlWrite_outside (outside_mailbox_of_aperture bytes.length hbase)).2 ?_)
      rintro ⟨-, ha, hin, hst⟩
      rcases hno with h | h | h
      · exact h hst
      · exact Nat.not_le.mpr ha h
      · rw [hin] at h; cases h
end

section
/-! SUPPORT. The issue of an instruction, seen from its row: the opcode of an issued word, the fault, the wait and the completion that
an instruction's own meaning leads to, and what writes of memory have to do with the pinions. -/

namespace Sys2Proof.Machine

/-- Below the rows of BDIR a row of the opcode table is the opcode itself. -/
theorem opcode_of_wordRow {w : W64} {row : Nat} (h : wordRow w = some row) (hr : row < 0xA300) : fld w 56 8 = row := by
  unfold wordRow at h
  dsimp only at h
  split at h
  · split at h
    · cases h
    · cases h
      omega
  · obtain ⟨-, -, h⟩ := Option.map_eq_some_iff.mp h
    exact h

theorem Issues.opcode {s : State} {p h row : Nat} {w : W64} (hi : Issues s p h row w) (hr : row < 0xA300) : fld w 56 8 = row :=
  opcode_of_wordRow hi.2.2.1 hr

section
variable {c : Instr} {s t : State} {p h row : Nat} {w : W64} {body : State → Hand → W64 → IssueRes}

/-- An instruction whose meaning is a fault leaves nothing but the fault (R56). -/
theorem exec_fault {code : Nat} (hi : Issues s p h row w) (hr : row < 0xA300) (he : exec c s = .next (s.issueAs p h row body))
    (hb : body (issuing s p h) (s.hand p h) w = .fault code) : exec c s = .next (faulted s p h row code) := by
  rw [he, issueAs_issues hi, hb, hi.opcode hr]
  rfl

theorem exec_done (hi : Issues s p h row w) (he : exec c s = .next (s.issueAs p h row body))
    (hb : body (issuing s p h) (s.hand p h) w = .done t) : exec c s = .next (t.resumeAt p h ((s.hand p h).pc + 1)) := by
  rw [he, issueAs_issues hi, hb]
  rfl

theorem exec_stay {st : HandSt} (hi : Issues s p h row w) (he : exec c s = .next (s.issueAs p h row body))
    (hb : body (issuing s p h) (s.hand p h) w = .stay t st) : exec c s = .next (t.setHand p h { t.hand p h with st := st }) := by
  rw [he, issueAs_issues hi, hb]
  rfl

/-- An instruction that waits at issue changes the state of its hand alone. -/
theorem handStep_of_stay {st : HandSt} (hi : Issues s p h row w) (he : exec c s = .next (s.issueAs p h row body))
    (hb : body (issuing s p h) (s.hand p h) w = .stay (issuing s p h) st) :
    ∃ t, exec c s = .next t ∧ HandStep s t p h { s.hand p h with st := st } := by
  refine ⟨_, exec_stay hi he hb, ?_⟩
  rw [hand_issuing]
  exact handStep_issuing s p h _

/-- An instruction that completes and changes, of the state, anything but pinions. -/
theorem runsOn_of_done {s' : State} (hi : Issues s p h row w) (he : exec c s = .next (s.issueAs p h row body))
    (hb : body (issuing s p h) (s.hand p h) w = .done t) (ht : t.pinions = (issuing s p h).pinions)
    (hs : { t with pinions := s.pinions } = s') : RunsOn c s s' p h (s.hand p h) := by
  have hpin : ∀ q, t.pin q = (issuing s p h).pin q := fun q => by unfold State.pin; rw [ht]
  have hpin' : ∀ q, s'.pin q = s.pin q := fun q => by rw [← hs]; rfl
  have hhand : t.hand p h = s.hand p h := by
    rw [← hand_issuing s p h h]
    unfold State.hand
    rw [hpin]
  refine ⟨t.setHand p h { s.hand p h with pc := (s.hand p h).pc + 1, st := .ready },
    handStep_setHand ?_ ?_ ⟨({ s.pin p with cur := h } : Pinion).hand h, ?_⟩, ?_⟩
  · rw [← hs]
  · intro r hr
    rw [hpin, hpin']
    exact pin_pinMod_ne s _ hr
  · rw [hpin, hpin', pin_issuing, hand_eq_self]
  · rw [exec_done hi he hb, resumeAt_if, hhand]

end

/-- A write of one hand leaves the other. -/
theorem hand_setHand_other (x : Pinion) (d : Hand) {h : Nat} (hlt : h < 2) : (x.setHand h d).hand (1 - h) = x.hand (1 - h) := by
  unfold Pinion.setHand Pinion.hand
  obtain rfl | rfl : h = 0 ∨ h = 1 := by omega
  · rfl
  · rfl

/-! ### Writes of memory beside the pinions -/

theorem memWrite_withPinions (s : State) (ps : FMap Pinion) (a : Nat) (bs : List Byte) :
    State.memWrite { s with pinions := ps } a bs = { s.memWrite a bs with pinions := ps } := by
  induction bs generalizing s a with
  | nil => rfl
  | cons b bs ih => exact ih { s with mem := fput 0 s.mem a b } (a + 1)

theorem memWrite_frame (s : State) (a : Nat) (bs : List Byte) : { s.memWrite a bs with mem := s.mem } = s := by
  induction bs generalizing s a with
  | nil => rfl
  | cons b bs ih => exact congrArg (fun t : State => { t with mem := s.mem }) (ih { s with mem := fput 0 s.mem a b } (a + 1))

/-- To put back pinions that have not changed changes nothing. -/
theorem withPinions_self {s t : State} (h : t.pinions = s.pinions) : { t with pinions := s.pinions } = t := by
  rw [← h]

theorem wrData_withPinions (s : State) (ps : FMap Pinion) (p a : Nat) (bs : List Byte) :
    State.wrData { s with pinions := ps } p a bs = { s.wrData p a bs with pinions := ps } := memWrite_withPinions s ps _ _

theorem wrData_pinions (s : State) (p a : Nat) (bs : List Byte) : (s.wrData p a bs).pinions = s.pinions := memWrite_pinions s _ _

end Sys2Proof.Machine
end

section
/-! SUPPORT. The scalar instructions (02, 2.1 and 2.10): the conditions of BCC and the functions of ALU over the integers, what LI, ADDI,
ALU, the settings and MARK do, and the two statements about them. -/

namespace Sys2Proof.Machine

/-! ### The conditions of BCC -/

theorem bccCond_signed (a b : W32) : bccCond 2 a b = some (decide (a.toInt < b.toInt)) ∧
    bccCond 3 a b = some (decide (b.toInt ≤ a.toInt)) := by
  refine ⟨rfl, congrArg some ?_⟩
  rw [BitVec.slt_eq_decide, ← decide_not]
  exact decide_eq_decide.mpr Int.not_lt

theorem bccCond_unsigned (a b : W32) : bccCond 4 a b = some (decide (a.toNat < b.toNat)) ∧
    bccCond 5 a b = some (decide (b.toNat ≤ a.toNat)) := by
  refine ⟨rfl, congrArg some ?_⟩
  rw [BitVec.ult_eq_decide, ← decide_not]
  exact decide_eq_decide.mpr Nat.not_lt

theorem bccCond_invalid (a b : W32) {fn : Nat} (h : 6 ≤ fn) : bccCond fn a b = none := by
  unfold bccCond
  split
  case h_7 => rfl
  all_goals omega

/-! ### The functions of ALU (R338) -/

theorem aluFn_sub (a b : W32) : aluFn 1 a b = some (BitVec.ofInt 32 (a.toInt - b.toInt)) := by
  refine congrArg some (BitVec.eq_of_toInt_eq ?_)
  rw [BitVec.toInt_sub, BitVec.toInt_ofInt]

theorem aluFn_shiftLeft (a b : W32) : aluFn 6 a b = some (BitVec.ofNat 32 (a.toNat * 2 ^ (b.toNat % 32))) := by
  refine congrArg some (BitVec.eq_of_toNat_eq ?_)
  rw [BitVec.toNat_shiftLeft, BitVec.toNat_ofNat, Nat.shiftLeft_eq]

theorem aluFn_shiftRight (a b : W32) : aluFn 7 a b = some (BitVec.ofNat 32 (a.toNat / 2 ^ (b.toNat % 32))) := by
  have hlt : a.toNat / 2 ^ (b.toNat % 32) < 2 ^ 32 := lt_of_le_of_lt (Nat.div_le_self _ _) a.isLt
  refine congrArg some (BitVec.eq_of_toNat_eq ?_)
  rw [BitVec.toNat_ushiftRight, BitVec.toNat_ofNat, Nat.shiftRight_eq_div_pow, Nat.mod_eq_of_lt hlt]

theorem aluFn_shiftSigned (a b : W32) : aluFn 8 a b = some (BitVec.ofInt 32 (a.toInt / 2 ^ (b.toNat % 32))) := by
  refine congrArg some ?_
  unfold BitVec.sshiftRight
  rw [Int.shiftRight_eq_div_pow]
  norm_cast

/-- Which of two words is the smaller one, signed and unsigned. -/
theorem aluFn_min (a b : W32) : aluFn 9 a b = some (BitVec.ofInt 32 (min a.toInt b.toInt)) ∧
    aluFn 11 a b = some (BitVec.ofNat 32 (min a.toNat b.toNat)) := by
  constructor <;> refine congrArg some ?_
  · rw [BitVec.slt_eq_decide]
    by_cases h : b.toInt < a.toInt
    · rw [if_pos (decide_eq_true h), min_eq_right h.le, BitVec.ofInt_toInt]
    · rw [if_neg (by simpa using h), min_eq_left (not_lt.mp h), BitVec.ofInt_toInt]
  · rw [BitVec.ult_eq_decide]
    by_cases h : b.toNat < a.toNat
    · rw [if_pos (decide_eq_true h), min_eq_right h.le, BitVec.ofNat_toNat, BitVec.setWidth_eq]
    · rw [if_neg (by simpa using h), min_eq_left (not_lt.mp h), BitVec.ofNat_toNat, BitVec.setWidth_eq]

/-- Which of two words is the larger one, signed and unsigned. -/
theorem aluFn_max (a b : W32) : aluFn 10 a b = some (BitVec.ofInt 32 (max a.toInt b.toInt)) ∧
    aluFn 12 a b = some (BitVec.ofNat 32 (max a.toNat b.toNat)) := by
  constructor <;> refine congrArg some ?_
  · rw [BitVec.slt_eq_decide]
    by_cases h : a.toInt < b.toInt
    · rw [if_pos (decide_eq_true h), max_eq_right h.le, BitVec.ofInt_toInt]
    · rw [if_neg (by simpa using h), max_eq_left (not_lt.mp h), BitVec.ofInt_toInt]
  · rw [BitVec.ult_eq_decide]
    by_cases h : a.toNat < b.toNat
    · rw [if_pos (decide_eq_true h), max_eq_right h.le, BitVec.ofNat_toNat, BitVec.setWidth_eq]
    · rw [if_neg (by simpa using h), max_eq_left (not_lt.mp h), BitVec.ofNat_toNat, BitVec.setWidth_eq]

theorem aluFn_invalid (a b : W32) {fn : Nat} (h : 13 ≤ fn) : aluFn fn a b = none := by
  unfold aluFn
  dsimp only
  split
  case h_14 => rfl
  all_goals omega

/-! ### What the instructions do -/

section
variable {s : State} {p h : Nat} {w : W64}

theorem runsOn_li (hi : Issues s p h 0x08 w) :
    RunsOn (.li p h) s s p h ((s.hand p h).setSreg (fld w 52 4) (BitVec.ofNat 32 (fld w 0 32))) := runsOn_setHand hi rfl rfl

theorem runsOn_addi (hi : Issues s p h 0x09 w) : RunsOn (.addi p h) s s p h
    ((s.hand p h).setSreg (fld w 52 4) ((s.hand p h).sreg (fld w 48 4) + BitVec.ofNat 32 (fld w 0 32))) := runsOn_setHand hi rfl rfl

theorem runsOn_alu {v : W32} (hi : Issues s p h 0x0A w)
    (hv : aluFn (fld w 40 4) ((s.hand p h).sreg (fld w 48 4)) ((s.hand p h).sreg (fld w 44 4)) = some v) :
    RunsOn (.alu p h) s s p h ((s.hand p h).setSreg (fld w 52 4) v) :=
  runsOn_setHand hi rfl (by rw [hv])

theorem exec_alu_invalid (hi : Issues s p h 0x0A w)
    (hv : aluFn (fld w 40 4) ((s.hand p h).sreg (fld w 48 4)) ((s.hand p h).sreg (fld w 44 4)) = none) :
    exec (.alu p h) s = .next (faulted s p h 0x0A fIllegal) :=
  exec_fault hi (by decide) rfl (by rw [hv])

theorem runsOn_setv (hi : Issues s p h 0x10 w) (ha : regImm (s.hand p h) w % 64 = 0) :
    RunsOn (.setv p h) s s p h { s.hand p h with setv := BitVec.ofNat 32 (regImm (s.hand p h) w) } :=
  runsOn_setHand hi rfl (if_pos ha)

theorem runsOn_seteb (hi : Issues s p h 0x11 w) (ha : regImm (s.hand p h) w % 64 = 0) :
    RunsOn (.seteb p h) s s p h { s.hand p h with seteb := BitVec.ofNat 32 (regImm (s.hand p h) w) } :=
  runsOn_setHand hi rfl (if_pos ha)

/-- The check of SETSTG (R338). -/
theorem stagingOk_iff (b n : Nat) : (decide (b % 64 = 0) && decide (b + n ≤ daSize)) = true ↔ b % 64 = 0 ∧ b + n ≤ 0x14000 := by
  rw [Bool.and_eq_true, decide_eq_true_iff, decide_eq_true_iff]
  rfl

theorem runsOn_setstg (hi : Issues s p h 0x12 w) (ha : ((s.hand p h).sreg (fld w 48 4)).toNat % 64 = 0)
    (hn : ((s.hand p h).sreg (fld w 48 4)).toNat + fld w 0 32 ≤ 0x14000) : RunsOn (.setstg p h) s s p h { s.hand p h with
      stgBase := (s.hand p h).sreg (fld w 48 4), stgSize := BitVec.ofNat 32 (fld w 0 32) } := by
  refine runsOn_setHand hi rfl ((if_pos ((stagingOk_iff _ _).mpr ⟨ha, hn⟩)).trans ?_)
  rw [BitVec.ofNat_toNat, BitVec.setWidth_eq]

theorem exec_setv_fault (hi : Issues s p h 0x10 w) (ha : regImm (s.hand p h) w % 64 ≠ 0) :
    exec (.setv p h) s = .next (faulted s p h 0x10 fAddr) := exec_fault hi (by decide) rfl (if_neg ha)

theorem exec_seteb_fault (hi : Issues s p h 0x11 w) (ha : regImm (s.hand p h) w % 64 ≠ 0) :
    exec (.seteb p h) s = .next (faulted s p h 0x11 fAddr) := exec_fault hi (by decide) rfl (if_neg ha)

theorem exec_setstg_fault (hi : Issues s p h 0x12 w) (ha : ((s.hand p h).sreg (fld w 48 4)).toNat % 64 ≠ 0 ∨
      0x14000 < ((s.hand p h).sreg (fld w 48 4)).toNat + fld w 0 32) : exec (.setstg p h) s = .next (faulted s p h 0x12 fAddr) :=
  exec_fault hi (by decide) rfl (if_neg (by rw [stagingOk_iff]; omega))

/-- The restart record that MARK leaves: the next word, the registers and the settings (R338). -/
theorem runsOn_markOp (hi : Issues s p h 0x14 w) : RunsOn (.markOp p h) s s p h { s.hand p h with record := some {
    pc := (s.hand p h).pc + 1, sregs := (s.hand p h).sregs, setv := (s.hand p h).setv, seteb := (s.hand p h).seteb,
    stgBase := (s.hand p h).stgBase, stgSize := (s.hand p h).stgSize } } := runsOn_setHand hi rfl rfl

end

end Sys2Proof.Machine

open Sys2Proof Sys2Proof.Machine

/-- Settles O8: each instruction by its own lemma, and the functions of BCC and ALU over the integers. -/
theorem scalarOperations : Obligations.ScalarOperations := by
  refine ⟨⟨fun s p h w => ⟨runsOn_li, fun hi => ?_, fun v => runsOn_alu, exec_alu_invalid⟩, sreg_setSreg, fun d v => ⟨rfl, rfl⟩⟩,
    fun a b => ?_, fun a b => ?_, fun s p h w => ⟨runsOn_setv, runsOn_seteb, runsOn_setstg, runsOn_markOp, exec_setv_fault, exec_seteb_fault,
      exec_setstg_fault⟩⟩
  · rw [BitVec.ofNat_add, BitVec.ofNat_toNat, BitVec.setWidth_eq]
    exact runsOn_addi hi
  · exact ⟨rfl, congrArg some decide_not.symm, (bccCond_signed a b).1, (bccCond_signed a b).2, (bccCond_unsigned a b).1,
      (bccCond_unsigned a b).2, fun _ => bccCond_invalid a b⟩
  · refine ⟨?_, aluFn_sub a b, ?_, rfl, rfl, rfl, aluFn_shiftLeft a b, aluFn_shiftRight a b, aluFn_shiftSigned a b, (aluFn_min a b).1,
      (aluFn_max a b).1, (aluFn_min a b).2, (aluFn_max a b).2, fun _ => aluFn_invalid a b⟩
    · rw [BitVec.ofNat_add, BitVec.ofNat_toNat, BitVec.ofNat_toNat, BitVec.setWidth_eq, BitVec.setWidth_eq]
      rfl
    · rw [BitVec.ofNat_mul, BitVec.ofNat_toNat, BitVec.ofNat_toNat, BitVec.setWidth_eq, BitVec.setWidth_eq]
      rfl
end

section
/-! SUPPORT. The scalar instructions run to the next state of their hand (2.10): what an instruction that goes on leaves of the module. -/

namespace Sys2Proof.Machine

/-- Inside the area an instruction that goes on changes its own hand and the hand that issues, and nothing else. -/
theorem runsOn_effect {c : Instr} {s : State} {p h : Nat} {d : Hand} (hpc : (s.hand p h).pc < 2047) (hr : RunsOn c s s p h d) :
    ∃ t, exec c s = .next t ∧ t.hand p h = { d with pc := (s.hand p h).pc + 1, st := .ready } ∧
      (h < 2 → t.hand p (1 - h) = s.hand p (1 - h)) ∧ (∀ q, q ≠ p → t.pin q = s.pin q) ∧ t.mem = s.mem ∧ t.slow = s.slow ∧
      t.syncs = s.syncs ∧ t.barrels = s.barrels ∧ t.od = s.od ∧ t.out = s.out := by
  obtain ⟨t, ⟨hframe, hothers, hpin⟩, he⟩ := hr
  rw [if_pos hpc] at he
  refine ⟨t, he, ?_, fun hlt => ?_, hothers, (congrArg State.mem hframe :), (congrArg State.slow hframe :), (congrArg State.syncs hframe :),
    (congrArg State.barrels hframe :), (congrArg State.od hframe :), (congrArg State.out hframe :)⟩
  · unfold State.hand
    rw [hpin, hand_setHand_same]
    rfl
  · unfold State.hand
    rw [hpin, hand_setHand_other _ _ hlt, hand_cur]

/-- The functions of ALU with the words they give (Table 2.13). -/
def aluTable (a b : W32) : List (Nat × W32) :=
  [(0, a + b), (1, a - b), (2, a * b), (3, a &&& b), (4, a ||| b), (5, a ^^^ b), (6, a <<< (b.toNat % 32)), (7, a >>> (b.toNat % 32)),
   (8, a.sshiftRight (b.toNat % 32)), (9, if a.slt b then a else b), (10, if a.slt b then b else a),
   (11, if a.ult b then a else b), (12, if a.ult b then b else a)]

/-- The smaller of two words may be chosen by either comparison: equal words are the same word. -/
theorem smaller_signed (a b : W32) : (if b.slt a then b else a) = if a.slt b then a else b := by
  rw [BitVec.slt_eq_decide, BitVec.slt_eq_decide]
  rcases lt_trichotomy a.toInt b.toInt with h | h | h
  · simp [h, h.le.not_gt]
  · simp [BitVec.eq_of_toInt_eq h]
  · simp [h, h.le.not_gt]

theorem smaller_unsigned (a b : W32) : (if b.ult a then b else a) = if a.ult b then a else b := by
  rw [BitVec.ult_eq_decide, BitVec.ult_eq_decide]
  rcases lt_trichotomy a.toNat b.toNat with h | h | h
  · simp [h, h.le.not_gt]
  · simp [BitVec.eq_of_toNat_eq h]
  · simp [h, h.le.not_gt]

theorem aluFn_of_mem_aluTable {a b v : W32} {fn : Nat} (h : (fn, v) ∈ aluTable a b) : aluFn fn a b = some v := by
  have hall : ∀ x ∈ aluTable a b, aluFn x.1 a b = some x.2 := by
    simp only [aluTable, List.forall_mem_cons, List.not_mem_nil, false_imp_iff, implies_true, and_true]
    exact ⟨rfl, rfl, rfl, rfl, rfl, rfl, rfl, rfl, rfl, congrArg some (smaller_signed a b), rfl, congrArg some (smaller_unsigned a b), rfl⟩
  exact hall _ h

/-- The operand of SETV and SETEB as a word: the sum of R32. -/
theorem regImm_eq_toNat (d : Hand) (w : W64) : regImm d w = (d.sreg (fld w 48 4) + BitVec.ofNat 32 (fld w 0 32)).toNat := by
  rw [BitVec.toNat_add, BitVec.toNat_ofNat, Nat.add_mod_mod]
  rfl

end Sys2Proof.Machine

open Sys2Proof Sys2Proof.Machine

/-- Settles O58: what each instruction writes, with what an instruction that goes on leaves unchanged. -/
theorem scalarInstructionsComplete : Obligations.ScalarInstructionsComplete := by
  intro s p h w hpc
  refine ⟨fun hi => runsOn_effect hpc (runsOn_li hi), fun hi => runsOn_effect hpc (runsOn_addi hi),
    fun v hv hi => runsOn_effect hpc (runsOn_alu hi (aluFn_of_mem_aluTable hv)), ?_,
    fun ha hn hi => runsOn_effect hpc (runsOn_setstg hi ha hn), fun hi => runsOn_effect hpc (runsOn_markOp hi)⟩
  rintro v rfl hv
  rw [← regImm_eq_toNat] at hv
  have hword : BitVec.ofNat 32 (regImm (s.hand p h) w) = (s.hand p h).sreg (fld w 48 4) + BitVec.ofNat 32 (fld w 0 32) := by
    rw [regImm_eq_toNat, BitVec.ofNat_toNat, BitVec.setWidth_eq]
  exact ⟨fun hi => hword ▸ runsOn_effect hpc (runsOn_setv hi hv), fun hi => hword ▸ runsOn_effect hpc (runsOn_seteb hi hv)⟩
end

section
/-! SUPPORT. The loads and stores of the scalar class (R55): the bytes of the data area that they read and write, and the statement. -/

namespace Sys2Proof.Machine

/-- Inside the data area a write reaches exactly its bytes. -/
theorem memByte_wrData (s : State) (p : Nat) {a : Nat} {bs : List Byte} (h : a + bs.length ≤ daSize) (b : Nat) :
    (s.wrData p a bs).memByte b =
      if daAddr p + a ≤ b ∧ b < daAddr p + a + bs.length then bs.getD (b - (daAddr p + a)) 0 else s.memByte b := by
  unfold State.wrData
  rw [List.take_of_length_le (by omega), memByte_memWrite]

/-- Inside the data area a read of the bytes written gives them back. -/
theorem rdData_wrData (s : State) (p : Nat) {a : Nat} {bs : List Byte} (h : a + bs.length ≤ daSize) :
    (s.wrData p a bs).rdData p a bs.length = bs := by
  unfold State.rdData
  refine List.ext_getElem (by simp) fun i hi hi' => ?_
  rw [List.getElem_map, List.getElem_range, memByte_wrData s p h, if_pos (by omega), Nat.add_sub_cancel_left]
  exact List.getD_eq_getElem bs 0 hi'

/-- The address check of LDS and STS (R55). -/
theorem wordAddrOk_iff (a : Nat) : wordAddrOk a = true ↔ a % 4 = 0 ∧ a + 4 ≤ 0x14000 := by
  simp [wordAddrOk, State.inData, daSize]

theorem not_wordAddrOk {a : Nat} (h : a % 4 ≠ 0 ∨ 0x14000 < a + 4) : ¬ wordAddrOk a = true := by
  rw [wordAddrOk_iff]
  omega

section
variable {s : State} {p h : Nat} {w : W64}

theorem runsOn_lds (hi : Issues s p h 0x0B w) (ha : regImm (s.hand p h) w % 4 = 0) (hb : regImm (s.hand p h) w + 4 ≤ 0x14000) :
    RunsOn (.lds p h) s s p h ((s.hand p h).setSreg (fld w 52 4)
      (BitVec.ofNat 32 (leNat (s.rdData p (regImm (s.hand p h) w) 4)))) :=
  runsOn_setHand hi rfl (if_pos ((wordAddrOk_iff _).mpr ⟨ha, hb⟩))

/-- An instruction that completes with one write of the data area. -/
theorem runsOn_wrData {c : Instr} {row a : Nat} {bs : List Byte} {body : State → Hand → W64 → IssueRes} (hi : Issues s p h row w)
    (he : exec c s = .next (s.issueAs p h row body))
    (hb : body (issuing s p h) (s.hand p h) w = .done ((issuing s p h).wrData p a bs)) :
    RunsOn c s (s.wrData p a bs) p h (s.hand p h) := by
  have hcur : (issuing s p h).wrData p a bs = { s.wrData p a bs with pinions := (issuing s p h).pinions } :=
    wrData_withPinions s (issuing s p h).pinions p a bs
  rw [hcur] at hb
  exact runsOn_of_done hi he hb rfl (withPinions_self (wrData_pinions s p a bs))

theorem runsOn_sts (hi : Issues s p h 0x0C w) (ha : regImm (s.hand p h) w % 4 = 0) (hb : regImm (s.hand p h) w + 4 ≤ 0x14000) :
    RunsOn (.sts p h) s (s.wrData p (regImm (s.hand p h) w) (toLe 4 ((s.hand p h).sreg (fld w 44 4)).toNat)) p h (s.hand p h) :=
  runsOn_wrData hi rfl (if_pos ((wordAddrOk_iff _).mpr ⟨ha, hb⟩))

theorem exec_lds_fault (hi : Issues s p h 0x0B w) (ha : regImm (s.hand p h) w % 4 ≠ 0 ∨ 0x14000 < regImm (s.hand p h) w + 4) :
    exec (.lds p h) s = .next (faulted s p h 0x0B fAddr) := exec_fault hi (by decide) rfl (if_neg (not_wordAddrOk ha))

theorem exec_sts_fault (hi : Issues s p h 0x0C w) (ha : regImm (s.hand p h) w % 4 ≠ 0 ∨ 0x14000 < regImm (s.hand p h) w + 4) :
    exec (.sts p h) s = .next (faulted s p h 0x0C fAddr) := exec_fault hi (by decide) rfl (if_neg (not_wordAddrOk ha))

end

end Sys2Proof.Machine

open Sys2Proof Sys2Proof.Machine

/-- Settles O9: the two instructions in both outcomes of R55, and the four bytes of a store. -/
theorem scalarMemory : Obligations.ScalarMemory := by
  refine ⟨fun s p h w => ⟨runsOn_lds, runsOn_sts, exec_lds_fault, exec_sts_fault⟩, fun s p a v ha => ?_⟩
  have hlen : a + (toLe 4 v).length ≤ daSize := by rwa [toLe_length]
  refine ⟨?_, fun b hb => ?_⟩
  · have hread := rdData_wrData s p hlen
    rw [toLe_length] at hread
    rw [hread, leNat_toLe]
    norm_num
  · rw [memByte_wrData s p hlen, if_neg (by rw [toLe_length]; omega)]
end

section
/-! SUPPORT. The loads and stores of the vector class (R339, R55), and the statement about them. -/

namespace Sys2Proof.Machine

/-- The address check of the vector class (R55). -/
theorem vLineOk_iff (a : Nat) : vLineOk a = true ↔ a % 64 = 0 ∧ a + 64 ≤ 0x14000 := by
  simp [vLineOk, State.inData, daSize]

theorem not_vLineOk {a : Nat} (h : a % 64 ≠ 0 ∨ 0x14000 < a + 64) : ¬ vLineOk a = true := by
  rw [vLineOk_iff]
  omega

theorem vArith_iff (fmt : Nat) : vArith fmt = true ↔ fmt = 9 ∨ fmt = 10 := by
  simp [vArith]

/-- What VLDS and VSTM do with an element operand `k`: the part of it from `n` on is reserved with FP64, the format must be one of the
vector class, and the line at `a` in the data area. -/
def elementIssue (fmt k n a : Nat) (r : IssueRes) : IssueRes :=
  if fmt = 10 && decide (n ≤ k) then .fault fIllegal
  else if !vArith fmt then .fault fFormat
  else if vLineOk a then r
  else .fault fAddr

theorem elementIssue_line {fmt k n : Nat} (a : Nat) (r : IssueRes) (h : fmt = 9 ∨ fmt = 10 ∧ k < n) :
    elementIssue fmt k n a r = if vLineOk a then r else .fault fAddr := by
  unfold elementIssue
  rcases h with rfl | ⟨rfl, hk⟩
  · rfl
  · rw [if_neg (by simpa using hk)]
    rfl

theorem elementIssue_reserved {fmt k n : Nat} (a : Nat) (r : IssueRes) (h10 : fmt = 10) (h : n ≤ k) :
    elementIssue fmt k n a r = .fault fIllegal :=
  if_pos (by simpa [h10] using h)

theorem elementIssue_format {fmt : Nat} (k n a : Nat) (r : IssueRes) (h9 : fmt ≠ 9) (h10 : fmt ≠ 10) :
    elementIssue fmt k n a r = .fault fFormat := by
  unfold elementIssue
  rw [if_neg (by simp [h10]), if_pos (by simp [vArith, h9, h10])]

theorem lanes_length (n : Nat) (v : W512) : (lanes n v).length = 512 / n := by simp [lanes]

theorem getD_map_range {α : Type} (f : Nat → α) {m i : Nat} (hi : i < m) (d : α) : ((List.range m).map f).getD i d = f i := by
  simp [List.getD_eq_getElem?_getD, hi]

/-- One store of VSTM: lane `i` of `v`, `n` bytes, to the line at `a` if the mask `m` selects it. -/
def storeLane (p a m n : Nat) (v : W512) (t : State) (i : Nat) : State :=
  if Nat.testBit m i then t.wrData p (a + i * n) (toLe n (fld v (i * (8 * n)) (8 * n))) else t

/-- The stores of VSTM, lane after lane. -/
def storeLanes (p a m n : Nat) (v : W512) (l : List Nat) (s : State) : State := l.foldl (storeLane p a m n v) s

theorem storeLane_withPinions (p a m n : Nat) (v : W512) (i : Nat) (s : State) (ps : FMap Pinion) :
    storeLane p a m n v { s with pinions := ps } i = { storeLane p a m n v s i with pinions := ps } := by
  unfold storeLane
  split
  · exact wrData_withPinions s ps _ _ _
  · rfl

theorem storeLane_pinions (p a m n : Nat) (v : W512) (i : Nat) (s : State) : (storeLane p a m n v s i).pinions = s.pinions := by
  unfold storeLane
  split
  · exact wrData_pinions s _ _ _
  · rfl

theorem storeLanes_withPinions (p a m n : Nat) (v : W512) (l : List Nat) (s : State) (ps : FMap Pinion) :
    storeLanes p a m n v l { s with pinions := ps } = { storeLanes p a m n v l s with pinions := ps } := by
  induction l generalizing s with
  | nil => rfl
  | cons i l ih => exact (congrArg (storeLanes p a m n v l) (storeLane_withPinions p a m n v i s ps)).trans (ih (storeLane p a m n v s i))

theorem storeLanes_pinions (p a m n : Nat) (v : W512) (l : List Nat) (s : State) : (storeLanes p a m n v l s).pinions = s.pinions := by
  induction l generalizing s with
  | nil => rfl
  | cons i l ih => exact (ih _).trans (storeLane_pinions p a m n v i s)

/-- VSTM takes its lanes from the list of them. -/
theorem storeLanes_eq (p a m n : Nat) (v : W512) (s : State) : (List.range (lanes (8 * n) v).length).foldl (fun t i =>
      if Nat.testBit m i then t.wrData p (a + i * n) (toLe n ((lanes (8 * n) v).getD i 0)) else t) s =
    storeLanes p a m n v (List.range (512 / (8 * n))) s := by
  rw [lanes_length]
  refine List.foldl_ext _ _ _ fun t i hi => ?_
  rw [lanes, getD_map_range _ (List.mem_range.mp hi)]
  rfl

section
variable {c : Instr} {s : State} {p h row : Nat} {w : W64} {body : State → Hand → W64 → IssueRes}

/-- An instruction that ends with VD written. -/
theorem runsOn_vDone {v : W512} (hi : Issues s p h row w) (he : exec c s = .next (s.issueAs p h row body))
    (hb : body (issuing s p h) (s.hand p h) w = vDone (issuing s p h) p h w v) :
    RunsOn c s s p h ((s.hand p h).setVreg (fld w 47 5) v) := by
  refine runsOn_setHand hi he (hb.trans ?_)
  rw [vDone, hand_issuing]

theorem runsOn_vld (hi : Issues s p h 0x60 w) (ha : vLineOk (vLine (s.hand p h) w) = true) : RunsOn (.vld p h) s s p h
    ((s.hand p h).setVreg (fld w 47 5) (BitVec.ofNat 512 (leNat (s.rdData p (vLine (s.hand p h) w) 64)))) :=
  runsOn_vDone hi rfl (if_pos ha)

theorem runsOn_vst (hi : Issues s p h 0x61 w) (ha : vLineOk (vLine (s.hand p h) w) = true) : RunsOn (.vst p h) s
    (s.wrData p (vLine (s.hand p h) w) (toLe 64 ((s.hand p h).vreg (fld w 42 5)).toNat)) p h (s.hand p h) :=
  runsOn_wrData hi rfl (if_pos ha)

theorem runsOn_vlds (hi : Issues s p h 0x62 w) (hf : fld w 52 4 = 9 ∨ fld w 52 4 = 10 ∧ fld w 0 4 < 8)
    (ha : vLineOk (vLine (s.hand p h) w) = true) : RunsOn (.vlds p h) s s p h ((s.hand p h).setVreg (fld w 47 5)
      (ofLanes (8 * (vBits (fld w 52 4) / 8)) (List.replicate (64 / (vBits (fld w 52 4) / 8))
        (leNat (s.rdData p (vLine (s.hand p h) w + fld w 0 4 * (vBits (fld w 52 4) / 8)) (vBits (fld w 52 4) / 8)))))) :=
  runsOn_vDone hi rfl ((elementIssue_line _ _ hf).trans (if_pos ha))

theorem runsOn_vstm (hi : Issues s p h 0x63 w) (hf : fld w 52 4 = 9 ∨ fld w 52 4 = 10 ∧ fld w 0 16 < 256)
    (ha : vLineOk (vLine (s.hand p h) w) = true) :
    RunsOn (.vstm p h) s (storeLanes p (vLine (s.hand p h) w) (fld w 0 16) (vBits (fld w 52 4) / 8) ((s.hand p h).vreg (fld w 42 5))
      (List.range (512 / (8 * (vBits (fld w 52 4) / 8)))) s) p h (s.hand p h) := by
  refine runsOn_of_done hi rfl ((elementIssue_line _ _ hf).trans ((if_pos ha).trans (congrArg IssueRes.done (storeLanes_eq _ _ _ _ _ _)))) ?_ ?_
  · exact storeLanes_pinions _ _ _ _ _ _ _
  · exact (storeLanes_withPinions _ _ _ _ _ _ _ s.pinions).symm

end

end Sys2Proof.Machine

open Sys2Proof Sys2Proof.Machine

/-- Settles O23: each instruction where its line is good, where it is not, and where its format or its element is not. -/
theorem vectorMemory : Obligations.VectorMemory := by
  intro s p h w
  refine ⟨fun ha hb => ?good, fun ha => ?bad, fun hi => ⟨fun h9 h10 => ?_, fun h10 hk => ?_⟩,
    fun hi => ⟨fun h9 h10 => ?_, fun h10 hk => ?_⟩⟩
  case good =>
    have hline : vLineOk (vLine (s.hand p h) w) = true := (vLineOk_iff _).mpr ⟨ha, hb⟩
    refine ⟨fun hi => runsOn_vld hi hline, fun hi => runsOn_vst hi hline, fun hi hf => runsOn_vlds hi hf hline, fun hi hf => ?_⟩
    have hn : 64 / (vBits (fld w 52 4) / 8) = 512 / (8 * (vBits (fld w 52 4) / 8)) := (Nat.mul_div_mul_left 64 _ (Nat.zero_lt_succ 7)).symm
    rw [hn]
    exact runsOn_vstm hi hf hline
  case bad =>
    have hline : ¬ vLineOk (vLine (s.hand p h) w) = true := not_vLineOk ha
    exact ⟨fun hi => exec_fault hi (by decide) rfl (if_neg hline), fun hi => exec_fault hi (by decide) rfl (if_neg hline),
      fun hi hf => exec_fault hi (by decide) rfl ((elementIssue_line _ _ hf).trans (if_neg hline)),
      fun hi hf => exec_fault hi (by decide) rfl ((elementIssue_line _ _ hf).trans (if_neg hline))⟩
  · exact exec_fault hi (by decide) rfl (elementIssue_format _ _ _ _ h9 h10)
  · exact exec_fault hi (by decide) rfl (elementIssue_reserved _ _ h10 hk)
  · exact exec_fault hi (by decide) rfl (elementIssue_format _ _ _ _ h9 h10)
  · exact exec_fault hi (by decide) rfl (elementIssue_reserved _ _ h10 hk)
end

section
/-! SUPPORT. Masks, selection and integers of the vector class (R339, Table 2.25): the bits of a mask, the lanes of a register, what each
instruction writes, and the statement. -/

namespace Sys2Proof.Machine

/-! ### Masks and lanes -/

theorem testBit_maskOf (l : List Bool) (i : Nat) : (maskOf l).testBit i = l.getD i false := by
  induction l generalizing i with
  | nil => simp [maskOf]
  | cons b l ih =>
    have hcons : maskOf (b :: l) = (if b then 1 else 0) + 2 * maskOf l := rfl
    cases i with
    | zero => cases b <;> simp [hcons, Nat.testBit_zero]
    | succ i =>
      have hhalf : maskOf (b :: l) / 2 = maskOf l := by rw [hcons]; split <;> omega
      rw [Nat.testBit_succ, hhalf, ih, List.getD_cons_succ]

theorem maskOf_lt (l : List Bool) : maskOf l < 2 ^ l.length := by
  induction l with
  | nil => simp [maskOf]
  | cons b l ih =>
    have hcons : maskOf (b :: l) = (if b then 1 else 0) + 2 * maskOf l := rfl
    rw [hcons, List.length_cons, Nat.pow_succ]
    split <;> omega

/-- A mask of `n` lanes has a bit for each lane that meets the condition, and no bit above them. -/
theorem testBit_mask {n width : Nat} (f : Nat → Bool) (hn : n ≤ width) (i : Nat) :
    (BitVec.ofNat width (maskOf ((List.range n).map f))).toNat.testBit i = (decide (i < n) && f i) := by
  have hlt : maskOf ((List.range n).map f) < 2 ^ width :=
    lt_of_lt_of_le (maskOf_lt _) (Nat.pow_le_pow_right Nat.two_pos (by simpa using hn))
  rw [BitVec.toNat_ofNat, Nat.mod_eq_of_lt hlt, testBit_maskOf]
  by_cases hi : i < n
  · rw [getD_map_range f hi, decide_eq_true hi, Bool.true_and]
  · rw [List.getD_eq_default _ _ (by simpa using hi), decide_eq_false hi, Bool.false_and]

theorem vVals_eq (fmt : Nat) (v : W512) :
    vVals fmt v = (List.range (512 / vBits fmt)).map (fun i => vDec fmt (fld v (i * vBits fmt) (vBits fmt))) := List.map_map

theorem lanes_count_le (n : Nat) : 512 / n ≤ 512 := Nat.div_le_self 512 n

/-! ### What the instructions write -/

section
variable {c : Instr} {s : State} {p h row : Nat} {w : W64} {ok : Nat → Bool} {body : State → Hand → W64 → Nat → IssueRes}

/-- An operation of the vector class whose format is accepted, and which ends with VD written. -/
theorem runsOn_vecIssue {v : W512} (hi : Issues s p h row w) (he : exec c s = .next (vecIssue s p h row ok body)) (hok : ok (fld w 52 4) = true)
    (hb : body (issuing s p h) (s.hand p h) w (fld w 52 4) = vDone (issuing s p h) p h w v) :
    RunsOn c s s p h ((s.hand p h).setVreg (fld w 47 5) v) := runsOn_vDone hi he ((if_pos hok).trans hb)

/-- A format that an operation does not accept raises FORMAT (R339). -/
theorem exec_vecIssue_format (hi : Issues s p h row w) (hr : row < 0xA300) (he : exec c s = .next (vecIssue s p h row ok body))
    (hok : ok (fld w 52 4) = false) : exec c s = .next (faulted s p h row fFormat) :=
  exec_fault hi hr he (if_neg (by rw [hok]; exact Bool.false_ne_true))

theorem runsOn_vcmp (hi : Issues s p h 0x6A w) (hf : vArith (fld w 52 4) = true) (hfn : fld w 16 4 < 4) :
    RunsOn (.vcmp p h) s s p h ((s.hand p h).setVreg (fld w 47 5) (BitVec.ofNat 512 (maskOf
      ((List.range (512 / vBits (fld w 52 4))).map (fun i => vCond (fld w 16 4)
        (vDec (fld w 52 4) (fld ((s.hand p h).vreg (fld w 42 5)) (i * vBits (fld w 52 4)) (vBits (fld w 52 4))))
        (vDec (fld w 52 4) (fld ((s.hand p h).vreg (fld w 37 5)) (i * vBits (fld w 52 4)) (vBits (fld w 52 4))))))))) := by
  refine runsOn_vecIssue hi rfl hf ((if_pos hfn).trans ?_)
  rw [vVals_eq, vVals_eq, List.zip_map', List.map_map]
  rfl

theorem exec_vcmp_invalid (hi : Issues s p h 0x6A w) (hf : vArith (fld w 52 4) = true) (hfn : 4 ≤ fld w 16 4) :
    exec (.vcmp p h) s = .next (faulted s p h 0x6A fIllegal) :=
  exec_fault hi (by decide) rfl ((if_pos hf).trans (if_neg (Nat.not_lt.mpr hfn)))

theorem runsOn_vsel (hi : Issues s p h 0x6B w) (hf : vArith (fld w 52 4) = true) :
    RunsOn (.vsel p h) s s p h ((s.hand p h).setVreg (fld w 47 5) (ofLanes (vBits (fld w 52 4))
      ((List.range (512 / vBits (fld w 52 4))).map (fun i => if ((s.hand p h).vreg (fld w 32 5)).toNat.testBit i
        then fld ((s.hand p h).vreg (fld w 42 5)) (i * vBits (fld w 52 4)) (vBits (fld w 52 4))
        else fld ((s.hand p h).vreg (fld w 37 5)) (i * vBits (fld w 52 4)) (vBits (fld w 52 4)))))) := by
  refine runsOn_vecIssue hi rfl hf (congrArg (fun l => vDone (issuing s p h) p h w (ofLanes (vBits (fld w 52 4)) l)) ?_)
  rw [lanes_length]
  refine List.map_congr_left fun i hi => ?_
  rw [lanes, lanes, getD_map_range _ (List.mem_range.mp hi), getD_map_range _ (List.mem_range.mp hi)]
  rfl

theorem runsOn_vfin (hi : Issues s p h 0x73 w) (hf : vArith (fld w 52 4) = true) :
    RunsOn (.vfin p h) s s p h ((s.hand p h).setVreg (fld w 47 5) (BitVec.ofNat 512 (maskOf
      ((List.range (512 / vBits (fld w 52 4))).map (fun i =>
        (vDec (fld w 52 4) (fld ((s.hand p h).vreg (fld w 42 5)) (i * vBits (fld w 52 4)) (vBits (fld w 52 4)))).isFin))))) := by
  refine runsOn_vecIssue hi rfl hf (congrArg (fun l => vDone (issuing s p h) p h w (BitVec.ofNat 512 (maskOf l))) ?_)
  rw [vVals_eq, List.map_map]
  rfl

/-- An integer operation lane by lane (R339). -/
theorem runsOn_vInt {f : Nat → Nat → Nat} (hi : Issues s p h row w) (he : exec c s = .next (vInt s p h row f)) :
    RunsOn c s s p h ((s.hand p h).setVreg (fld w 47 5) (ofLanes 32 ((List.range 16).map (fun i =>
      f (fld ((s.hand p h).vreg (fld w 42 5)) (i * 32) 32) (fld ((s.hand p h).vreg (fld w 37 5)) (i * 32) 32))))) := by
  refine runsOn_vDone hi he (congrArg (fun l => vDone (issuing s p h) p h w (ofLanes 32 l)) ?_)
  rw [lanes, lanes, List.zip_map', List.map_map]
  rfl

theorem runsOn_vlogic (hi : Issues s p h 0x7E w) : RunsOn (.vlogic p h) s s p h ((s.hand p h).setVreg (fld w 47 5)
    (BitVec.ofNat 512 (maskOf ((List.range 512).map (fun i => Config.logicBit (fld w 16 4)
      (((s.hand p h).vreg (fld w 42 5)).toNat.testBit i) (((s.hand p h).vreg (fld w 37 5)).toNat.testBit i)))))) :=
  runsOn_vDone hi rfl rfl

theorem runsOn_vshf (hi : Issues s p h 0x7F w) : RunsOn (.vshf p h) s s p h ((s.hand p h).setVreg (fld w 47 5)
    (ofLanes 32 ((List.range 16).map (fun i =>
      fld ((s.hand p h).vreg (fld w 42 5)) ((Config.shfLane (fld w 0 16) i).val * 32) 32)))) := by
  refine runsOn_vDone hi rfl (congrArg (fun l => vDone (issuing s p h) p h w (ofLanes 32 l)) ?_)
  refine List.map_congr_left fun i _ => ?_
  exact getD_map_range _ (Config.shfLane (fld w 0 16) i).isLt 0

end

end Sys2Proof.Machine

open Sys2Proof Sys2Proof.Machine

/-- Settles O25: each instruction by what it writes, and the bits of the masks. -/
theorem vectorMasksAndIntegers : Obligations.VectorMasksAndIntegers := by
  intro s p h w
  refine ⟨fun hf => ?arith, fun h9 h10 => ?format, fun hi => runsOn_vInt hi rfl, fun hi => runsOn_vInt hi rfl, fun hi => ?_, runsOn_vshf⟩
  case arith =>
    have hf := (vArith_iff _).mpr hf
    refine ⟨fun hi hfn => ⟨_, runsOn_vcmp hi hf hfn, testBit_mask _ (lanes_count_le _)⟩, fun hi => exec_vcmp_invalid hi hf,
      fun hi => runsOn_vsel hi hf, fun hi => ⟨_, runsOn_vfin hi hf, testBit_mask _ (lanes_count_le _)⟩⟩
  case format =>
    have hf : vArith (fld w 52 4) = false := by simp [vArith, h9, h10]
    simp only [List.mem_cons, Prod.mk.injEq, List.not_mem_nil, or_false]
    rintro c row (⟨rfl, rfl⟩ | ⟨rfl, rfl⟩ | ⟨rfl, rfl⟩) hi
    · exact exec_vecIssue_format hi (by decide) rfl hf
    · exact exec_vecIssue_format hi (by decide) rfl hf
    · exact exec_vecIssue_format hi (by decide) rfl hf
  · refine ⟨_, runsOn_vlogic hi, fun i hlt => ?_⟩
    rw [testBit_mask _ le_rfl, decide_eq_true hlt, Bool.true_and]
end

section
/-! SUPPORT. The hands of a pinion share issue (R51, R52): YIELD, WAITQ, END and HAND_SWITCH, what a switch of hands changes, and the
statement. -/

namespace Sys2Proof.Machine

/-! ### Counters -/

/-- A counter entry wraps at the width of its row of the dictionary. -/
theorem odGet_bumpBy_same (s : State) {i j size : Nat} (n : Nat) (hrow : (odRow i j).map (·.size) = some size) :
    (s.bumpBy i j n).odGet i j = (s.odGet i j + n) % 256 ^ size := by
  obtain ⟨r, hr, rfl⟩ := Option.map_eq_some_iff.mp hrow
  unfold State.bumpBy
  rw [odGet_odSet_same, hr]

theorem pin_pinCountBy_same (s : State) (p i j k n : Nat) : (s.pinCountBy p i j k n).pin p = (s.pin p).count k n := pin_pinMod_same _ p _

theorem pin_pinCountBy_ne (s : State) {p q : Nat} (i j k n : Nat) (hq : q ≠ p) : (s.pinCountBy p i j k n).pin q = s.pin q :=
  pin_pinMod_ne _ _ hq

theorem hand_pinCountBy (s : State) (p i j k n h : Nat) : (s.pinCountBy p i j k n).hand p h = s.hand p h := by
  unfold State.hand
  rw [pin_pinCountBy_same]
  rfl

/-! ### A switch of hands -/

theorem pin_switchHand_same (s : State) (p : Nat) :
    (switchHand s p).pin p = ({ s.pin p with cur := 1 - (s.pin p).cur } : Pinion).count 3 1 := by
  unfold switchHand
  rw [pin_pinCountBy_same, pin_pinMod_same]

theorem pin_switchHand_ne (s : State) {p q : Nat} (hq : q ≠ p) : (switchHand s p).pin q = s.pin q := by
  unfold switchHand
  rw [pin_pinCountBy_ne _ _ _ _ _ hq, pin_pinMod_ne _ _ hq]

/-- The counter of hand switches, OD 0x2140.03, is a U64. -/
theorem odRow_handSwitches : (odRow 0x2140 3).map (·.size) = some 8 := by decide +kernel

theorem odGet_switchHand_count (s : State) (p : Nat) : (switchHand s p).odGet 0x2140 3 = (s.odGet 0x2140 3 + 1) % 2 ^ 64 :=
  odGet_bumpBy_same (s.pinMod p (fun x => { x with cur := 1 - x.cur })) 1 odRow_handSwitches

theorem odGet_switchHand_ne (s : State) (p : Nat) {i j : Nat} (h : odKey i j ≠ odKey 0x2140 3) :
    (switchHand s p).odGet i j = s.odGet i j := odGet_bumpBy_ne (s.pinMod p (fun x => { x with cur := 1 - x.cur })) 1 h

theorem switchHand_frame (s : State) (p : Nat) : { switchHand s p with pinions := s.pinions, od := s.od } = s := by
  unfold switchHand State.pinCountBy State.bumpBy State.odSet State.pinMod State.setPin
  rfl

/-! ### The instructions -/

section
variable {s : State} {p h : Nat} {w : W64}

theorem runsOn_yieldOp (hi : Issues s p h 0x13 w) (hr : (s.hand p (1 - h)).isReady = false) : RunsOn (.yieldOp p h) s s p h (s.hand p h) := by
  refine runsOn_self hi rfl (congrArg IssueRes.done (if_neg ?_))
  rw [← hand_issuing s p h] at hr
  exact ne_true_of_eq_false hr

theorem exec_yieldOp (hi : Issues s p h 0x13 w) (hr : (s.hand p (1 - h)).isReady = true) :
    exec (.yieldOp p h) s = .next ((switchHand (issuing s p h) p).resumeAt p h ((s.hand p h).pc + 1)) := by
  rw [← hand_issuing s p h] at hr
  exact exec_done hi rfl (congrArg IssueRes.done (if_pos hr))

theorem waitqDone_issuing (s : State) (p h fn : Nat) : waitqDone ((issuing s p h).pin p) fn = waitqDone (s.pin p) fn := by
  rw [pin_issuing]
  rfl

theorem runsOn_waitq (hi : Issues s p h 0x15 w) (hd : waitqDone (s.pin p) (fld w 40 4) = true) : RunsOn (.waitq p h) s s p h (s.hand p h) := by
  rw [← waitqDone_issuing s p h] at hd
  exact runsOn_self hi rfl (if_pos hd)

theorem exec_waitq_busy (hi : Issues s p h 0x15 w) (hd : waitqDone (s.pin p) (fld w 40 4) = false) :
    ∃ t, exec (.waitq p h) s = .next t ∧ HandStep s t p h { s.hand p h with st := .waitq } := by
  rw [← waitqDone_issuing s p h] at hd
  exact handStep_of_stay hi rfl (if_neg (ne_true_of_eq_false hd))

theorem handBusy_issuing (s : State) (p h : Nat) : handBusy ((issuing s p h).pin p) h = handBusy (s.pin p) h := by
  rw [pin_issuing]
  rfl

theorem exec_endOp_busy (hi : Issues s p h 0x01 w) (hb : handBusy (s.pin p) h = true) :
    ∃ t, exec (.endOp p h) s = .next t ∧ HandStep s t p h { s.hand p h with st := .ending } := by
  rw [← handBusy_issuing s p h] at hb
  exact handStep_of_stay hi rfl (if_pos hb)

theorem exec_endOp (hi : Issues s p h 0x01 w) (hb : handBusy (s.pin p) h = false) :
    ∃ t, exec (.endOp p h) s = .next t ∧ HandStep s t p h { s.hand p h with st := .idle, stream := none } := by
  rw [← handBusy_issuing s p h] at hb
  refine ⟨(issuing s p h).setHand p h { s.hand p h with st := .idle, stream := none }, ?_, handStep_issuing s p h _⟩
  refine (congrArg Host.Outcome.next (issueAs_issues hi _)).trans (congrArg Host.Outcome.next ?_)
  dsimp only
  rw [if_neg (ne_true_of_eq_false hb)]
  rfl

theorem exec_handSwitch (hst : s.modState = stRunning) (hin : s.inService p = true) (hheld : s.pinHeld p = false) (hgap : s.odGet 0x2100 1 ≠ 0)
    (hwait : inSyncWait ((s.pin p).hand (s.pin p).cur) = true) (hready : ((s.pin p).hand (1 - (s.pin p).cur)).isReady = true) :
    exec (.handSwitch p) s = .next (switchHand s p) :=
  if_pos (by simp [hst, hin, hheld, hgap, hwait, hready])

end

end Sys2Proof.Machine

open Sys2Proof Sys2Proof.Machine

/-- Settles O10: the four operations in each of their cases, and what a switch of hands changes. -/
theorem handsShareIssue : Obligations.HandsShareIssue :=
  ⟨fun _ _ _ _ => ⟨runsOn_yieldOp, exec_yieldOp, runsOn_waitq, exec_waitq_busy, exec_endOp, exec_endOp_busy, exec_handSwitch⟩,
    fun s p => ⟨pin_switchHand_same s p, fun _ => pin_switchHand_ne s, odGet_switchHand_count s p, fun _ _ => odGet_switchHand_ne s p,
      switchHand_frame s p⟩⟩
end

section
/-! SUPPORT. Instruction faults (R54, R56): every instruction word is issued by its row, and what the taking of a fault leaves of the
dictionary, the error log, the Crown and the pinion. -/

namespace Sys2Proof.Machine

/-! ### Every instruction is an issue of its row -/

section
variable {c : Instr} {s : State} {p h row : Nat}

theorem exec_of_vecIssue {ok : Nat → Bool} {body : State → Hand → W64 → Nat → IssueRes} (he : exec c s = .next (vecIssue s p h row ok body)) :
    ∃ body, exec c s = .next (s.issueAs p h row body) := ⟨_, he⟩

theorem exec_of_vMap {f : FV → FV → FV → FV} (he : exec c s = .next (vMap s p h row f)) :
    ∃ body, exec c s = .next (s.issueAs p h row body) := exec_of_vecIssue he

theorem exec_of_vReduce {f : Nat → List FV → FV} (he : exec c s = .next (vReduce s p h row f)) :
    ∃ body, exec c s = .next (s.issueAs p h row body) := exec_of_vecIssue he

end

/-! ### The record of a fault -/

/-- LAST_FAULT of Table 2.11. -/
def faultWord (p h pc op code : Nat) : Nat := p <<< 48 ||| (h % 2) <<< 47 ||| code <<< 32 ||| (pc % 2048) <<< 16 ||| op <<< 8

/-- A fault's word, its count with the NOTIFY, and its log record. -/
def faultNoted (s : State) (p code v : Nat) : State := ((s.odSet 0x2150 1 v).countNotify 0x2150 2).logErr 6 code 0 p (toLe 8 v)

/-- `t` is `s` but for the Crown, the wires, the dictionary and the error log. -/
def NotedFrom (s t : State) : Prop := { t with crown := s.crown, out := s.out, od := s.od, errLog := s.errLog } = s

section
variable {s t : State}
theorem NotedFrom.pinions (h : NotedFrom s t) : t.pinions = s.pinions := (congrArg State.pinions h :)
theorem NotedFrom.time (h : NotedFrom s t) : t.time = s.time := (congrArg State.time h :)
theorem NotedFrom.mem (h : NotedFrom s t) : t.mem = s.mem := (congrArg State.mem h :)
theorem NotedFrom.syncs (h : NotedFrom s t) : t.syncs = s.syncs := (congrArg State.syncs h :)
theorem NotedFrom.barrels (h : NotedFrom s t) : t.barrels = s.barrels := (congrArg State.barrels h :)

theorem NotedFrom.logErr (h : NotedFrom s t) (source code level index : Nat) (data : List Byte) :
    NotedFrom s (t.logErr source code level index data) := by
  unfold NotedFrom State.logErr at *
  dsimp only
  exact h

theorem NotedFrom.notifyVal (h : NotedFrom s t) (i j v : Nat) : NotedFrom s (t.notifyVal i j v) := by
  have hn := notifyVal_frame t i j v
  generalize t.notifyVal i j v = u at hn
  have hs := congrArg (fun x : State => { x with crown := s.crown, out := s.out, od := s.od, errLog := s.errLog }) hn
  unfold NotedFrom at *
  exact hs.trans h

theorem NotedFrom.pin (h : NotedFrom s t) (p : Nat) : t.pin p = s.pin p := by
  unfold State.pin
  rw [h.pinions]

end

theorem notedFrom_countNotify (s : State) (v i j k l : Nat) : NotedFrom s ((s.odSet i j v).countNotify k l) :=
  NotedFrom.notifyVal (s := s) (t := (s.odSet i j v).bump k l) rfl k l _

theorem notedFrom_faultNoted (s : State) (p code v : Nat) : NotedFrom s (faultNoted s p code v) :=
  (notedFrom_countNotify s v 0x2150 1 0x2150 2).logErr 6 code 0 p (toLe 8 v)

theorem odGet_countNotify (s : State) (i j : Nat) {k l : Nat} (h : odKey k l ≠ odKey 0x1210 5) :
    (s.countNotify i j).odGet k l = (s.bump i j).odGet k l := notifyVal_odGet _ _ _ _ _ _ h

theorem odGet_logErr (s : State) (source code level index : Nat) (data : List Byte) (i j : Nat) :
    (s.logErr source code level index data).odGet i j = s.odGet i j := by
  unfold State.logErr State.odGet
  dsimp only

theorem odGet_faultNoted_word (s : State) (p code v : Nat) : (faultNoted s p code v).odGet 0x2150 1 = v := by
  rw [faultNoted, odGet_logErr, odGet_countNotify _ _ _ (by decide), odGet_bump_ne _ (by decide), odGet_odSet_same]

/-- The fault counter, OD 0x2150.02, is a U32. -/
theorem odRow_faultCount : (odRow 0x2150 2).map (·.size) = some 4 := by decide +kernel

theorem odGet_faultNoted_count (s : State) (p code v : Nat) : (faultNoted s p code v).odGet 0x2150 2 = (s.odGet 0x2150 2 + 1) % 2 ^ 32 := by
  rw [faultNoted, odGet_logErr, odGet_countNotify _ _ _ (by decide), State.bump, odGet_bumpBy_same _ 1 odRow_faultCount,
    odGet_odSet_ne s v (by decide)]
  rfl

/-- The error log keeps its latest record (Table 12.13). -/
theorem getLast?_logErr (s : State) (source code level index : Nat) (data : List Byte) : (s.logErr source code level index data).errLog.getLast? =
    some { ft := s.time.ft, source := source, code := code, level := level, index := index, data := padTo 16 data } := by
  unfold State.logErr
  rw [List.getLast?_drop, if_neg (by simp), List.getLast?_concat]

theorem getLast?_faultNoted (s : State) (p code v : Nat) : (faultNoted s p code v).errLog.getLast? =
    some { ft := s.time.ft, source := 6, code := code, level := 0, index := p, data := padTo 16 (toLe 8 v) } := by
  rw [faultNoted, getLast?_logErr, (notedFrom_countNotify s v 0x2150 1 0x2150 2).time]

theorem faultNoted_wires (s : State) (p code v : Nat) :
    (faultNoted s p code v).crown = ((s.odSet 0x2150 1 v).countNotify 0x2150 2).crown ∧
      (faultNoted s p code v).out = ((s.odSet 0x2150 1 v).countNotify 0x2150 2).out := by
  unfold faultNoted State.logErr
  dsimp only
  exact ⟨rfl, rfl⟩

/-! ### The taking of a fault -/

/-- The hand's stream is marked as ended by a fault. -/
def faultMarked (d : Hand) : Hand := { d with stream := d.stream.map (fun x => { x with faulted := true }) }

/-- What a fault leaves of its pinion before it stops. -/
def faultPinion (x : Pinion) (h : Nat) (stopping : Option StopWhy) : Pinion :=
  { x.setHand h (faultMarked (x.hand h)) with stopping := stopping }

theorem setHand_stopping (x : Pinion) (h : Nat) (d : Hand) : (x.setHand h d).stopping = x.stopping := by
  unfold Pinion.setHand
  split
  · rfl
  · rfl

theorem pinQuiet_setHand (x : Pinion) (h : Nat) (d : Hand) : State.pinQuiet (x.setHand h d) = State.pinQuiet x := by
  unfold Pinion.setHand
  split
  · rfl
  · rfl

theorem pinQuiet_faultPinion (x : Pinion) (h : Nat) (why : Option StopWhy) : State.pinQuiet (faultPinion x h why) = State.pinQuiet x :=
  pinQuiet_setHand x h _

theorem tryStop_busy (s : State) {p : Nat} (hq : State.pinQuiet (s.pin p) = false) : s.tryStop p = s := by
  unfold State.tryStop
  dsimp only
  split
  · rfl
  · rw [if_neg (ne_true_of_eq_false hq)]

/-- The state in which a fault is recorded and its hand marked. -/
def faultHeld (s : State) (p h code v : Nat) : State :=
  (faultNoted s p code v).setHand p h (faultMarked ((faultNoted s p code v).hand p h))

theorem faultHeld_frame (s : State) (p h code v : Nat) : { faultHeld s p h code v with pinions := s.pinions } = faultNoted s p code v := by
  have hp := (notedFrom_faultNoted s p code v).pinions
  unfold faultHeld
  generalize faultNoted s p code v = t at hp
  exact withPinions_self hp

theorem faultHeld_pin (s : State) (p h code v : Nat) : (faultHeld s p h code v).pin p = faultPinion (s.pin p) h (s.pin p).stopping := by
  unfold faultHeld State.hand
  rw [pin_setHand_same, (notedFrom_faultNoted s p code v).pin, faultPinion, ← setHand_stopping (s.pin p) h]

theorem faultHeld_pin_ne (s : State) {p q : Nat} (h code v : Nat) (hq : q ≠ p) : (faultHeld s p h code v).pin q = s.pin q :=
  (pin_setHand_ne _ _ _ hq).trans ((notedFrom_faultNoted s p code v).pin q)

/-- A pinion in service that takes a fault is to be fenced once its engines are quiet (R56). -/
theorem takeFault_eq (s : State) (p h pc op code : Nat) : s.takeFault p h pc op code =
    if s.inService p then
      ((faultHeld s p h code (faultWord p h pc op code)).pinMod p (fun x => { x with stopping := some .fence })).tryStop p
    else faultHeld s p h code (faultWord p h pc op code) := rfl

/-- A pinion out of service, or one whose engines are busy, takes a fault with its record and its mark only: one that is in service is to
be fenced. -/
theorem takeFault_effect (s : State) {p : Nat} (h pc op code : Nat) (hq : s.inService p = false ∨ State.pinQuiet (s.pin p) = false) :
    { s.takeFault p h pc op code with pinions := s.pinions } = faultNoted s p code (faultWord p h pc op code) ∧
      (∀ q, q ≠ p → (s.takeFault p h pc op code).pin q = s.pin q) ∧
      (s.takeFault p h pc op code).pin p = faultPinion (s.pin p) h (if s.inService p = true then some .fence else (s.pin p).stopping) := by
  have hframe := faultHeld_frame s p h code (faultWord p h pc op code)
  have hpin := faultHeld_pin s p h code (faultWord p h pc op code)
  have hothers := fun q hne => faultHeld_pin_ne s (q := q) (p := p) h code (faultWord p h pc op code) hne
  rw [takeFault_eq]
  generalize faultHeld s p h code (faultWord p h pc op code) = t at hframe hpin hothers
  by_cases hin : s.inService p = true
  · have hfence : (t.pinMod p (fun x => { x with stopping := some .fence })).pin p = faultPinion (s.pin p) h (some .fence) := by
      rw [pin_pinMod_same, hpin]
      rfl
    have hbusy := hq.resolve_left (by rw [hin]; exact Bool.noConfusion)
    rw [if_pos hin, if_pos hin, tryStop_busy _ (by rw [hfence, pinQuiet_faultPinion, hbusy])]
    exact ⟨hframe, fun q hne => (pin_pinMod_ne t _ hne).trans (hothers q hne), hfence⟩
  · rw [if_neg hin, if_neg hin]
    exact ⟨hframe, hothers, hpin⟩

end Sys2Proof.Machine

open Sys2Proof Sys2Proof.Machine

/-- Settles O11: the rows by the one operation that issues them all, the end of the area by NOP, and the record of a fault field by field. -/
theorem instructionFaults : Obligations.InstructionFaults := by
  refine ⟨fun s p h hc => ?illegal, fun s p h w hi hpc => ?range, fun s p h pc op code hq => ?record⟩
  case illegal =>
    intro w rows c row hmem hw
    have hissue : ∀ x ∈ rows, ∃ body, exec (x.1 p h) s = .next (s.issueAs p h x.2 body) := by
      simp only [rows, List.forall_mem_cons, List.not_mem_nil, false_imp_iff, implies_true, and_true]
      repeat' apply And.intro
      -- Most instructions name their issue outright; the lane-wise operations and the reductions of the vector class share theirs.
      all_goals try exact ⟨_, rfl⟩
      exacts [exec_of_vMap rfl, exec_of_vMap rfl, exec_of_vMap rfl, exec_of_vMap rfl, exec_of_vMap rfl, exec_of_vMap rfl,
        exec_of_vReduce rfl, exec_of_vReduce rfl, exec_of_vReduce rfl]
    obtain ⟨body, he⟩ := hissue _ hmem
    rw [he, issueAs_illegal body hc hw]
    rfl
  case range =>
    refine ⟨(issuing s p h).setHand p h { s.hand p h with pc := 2048, st := .ready }, handStep_issuing s p h _, ?_⟩
    rw [exec_done hi rfl rfl, hpc, resumeAt_if, if_neg (by decide), hand_issuing]
  case record =>
    obtain ⟨hframe, hothers, hpin⟩ := takeFault_effect s h pc op code hq
    have hnoted := notedFrom_faultNoted s p code (faultWord p h pc op code)
    have hword := odGet_faultNoted_word s p code (faultWord p h pc op code)
    have hcount := odGet_faultNoted_count s p code (faultWord p h pc op code)
    have hlast := getLast?_faultNoted s p code (faultWord p h pc op code)
    have hhand : (s.takeFault p h pc op code).hand p h = faultMarked (s.hand p h) := by
      unfold State.hand
      rw [hpin]
      exact hand_setHand_same _ _ _
    intro w t
    refine ⟨?_, ?_, ?_, ?_, ?_, ?_, (congrArg Hand.pc hhand :), (congrArg Hand.sregs hhand :), (congrArg Hand.vregs hhand :), ?_, ?_, ?_, hothers⟩
    · exact (congrArg (fun t : State => t.odGet 0x2150 1) hframe :).trans hword
    · exact (congrArg (fun t : State => t.odGet 0x2150 2) hframe :).trans hcount
    · exact congrArg Pinion.stopping hpin
    · exact (congrArg (fun t : State => t.errLog.getLast?) hframe :).trans hlast
    · exact (congrArg State.crown hframe :).trans (faultNoted_wires s p code _).1
    · exact (congrArg State.out hframe :).trans (faultNoted_wires s p code _).2
    · exact (congrArg State.mem hframe :).trans hnoted.mem
    · exact (congrArg State.syncs hframe :).trans hnoted.syncs
    · exact (congrArg State.barrels hframe :).trans hnoted.barrels
end

section
/-! SUPPORT. Stream descriptors (R33, R34): when a port accepts one, what a stream that starts leaves of its hand and of the module, the
delivery to the pinions of a train, and the two statements. -/

namespace Sys2Proof.Machine

/-! ### Acceptance (R33) -/

theorem portExists_of_rangeOk {s : State} {port : Nat} {d : BitVec 256} (h : streamRangeOk s port d = true) : s.portExists port = true := by
  unfold streamRangeOk at h
  simp only [Bool.and_eq_true] at h
  tauto

/-- The answers of R33, in the order of its steps. -/
theorem streamAnswer_accepted_iff (s : State) (port : Nat) (d : BitVec 256) : streamAnswer s port d = .accepted ↔
    (s.modState = stRunning ∨ s.modState = stHeld) ∧ s.portPinions port ≠ [] ∧ streamRangeOk s port d = true ∧
      ∀ q ∈ s.portPinions port, (s.hand q (fld d 16 8)).pend = none := by
  have hbusy : (s.portPinions port).any (fun p => (s.hand p (fld d 16 8)).pend.isSome) = true ↔
      ¬ ∀ q ∈ s.portPinions port, (s.hand q (fld d 16 8)).pend = none := by
    simp [Option.isSome_iff_ne_none]
  have hexists := portExists_of_rangeOk (s := s) (port := port) (d := d)
  unfold streamAnswer
  simp only [Bool.or_eq_true, Bool.and_eq_true, decide_eq_true_eq, Bool.not_eq_true', List.isEmpty_iff, hbusy]
  split
  next hstate =>
    refine ⟨fun h => IssueAns.noConfusion h, ?_⟩
    tauto
  next hstate =>
    split
    next hrange =>
      refine ⟨fun h => IssueAns.noConfusion h, ?_⟩
      rintro ⟨-, -, hok, -⟩
      rw [hok] at hrange
      exact Bool.noConfusion hrange
    next hrange =>
      rw [Bool.not_eq_false] at hrange
      split
      next hpend => exact ⟨fun h => IssueAns.noConfusion h, fun h => absurd h.2.2.2 hpend⟩
      next hpend =>
        have := hexists hrange
        tauto

/-! ### The hand of a stream that starts (R34) -/

theorem fget_fput_eq {α : Type} [DecidableEq α] (d : α) (m : FMap α) (i j : Nat) (v : α) :
    fget d (fput d m i v) j = if j = i then v else fget d m j := by
  by_cases h : j = i
  · rw [if_pos h, h, fget_fput_same]
  · rw [if_neg h, fget_fput_ne d m v h]

/-- The registers s1 to s6 of a stream that starts; every other one is 0. -/
theorem fget_startRegs (p rank port : Nat) (d : BitVec 256) (k : Nat) : fget 0 (startRegs p rank port d) k =
    if k = 6 then BitVec.ofNat 32 (fld d 224 32) else if k = 5 then BitVec.ofNat 32 (fld d 192 32)
    else if k = 4 then BitVec.ofNat 32 (fld d 160 32) else if k = 3 then BitVec.ofNat 32 port
    else if k = 2 then BitVec.ofNat 32 rank else if k = 1 then BitVec.ofNat 32 p else 0 := by
  unfold startRegs
  simp only [fget_fput_eq]
  rfl

/-- The hand of a stream that starts. -/
def startedHand (p rank port : Nat) (d : BitVec 256) : Hand :=
  { st := .ready, pc := fld d 32 16, sregs := startRegs p rank port d, stream := some { desc := d, port := port }, pend := none }

/-- The scalar registers of a stream that starts (R34). -/
theorem startedHand_sreg (p rank port : Nat) (d : BitVec 256) :
    (startedHand p rank port d).sreg 1 = BitVec.ofNat 32 p ∧ (startedHand p rank port d).sreg 2 = BitVec.ofNat 32 rank ∧
    (startedHand p rank port d).sreg 3 = BitVec.ofNat 32 port ∧ (startedHand p rank port d).sreg 4 = BitVec.ofNat 32 (fld d 160 32) ∧
    (startedHand p rank port d).sreg 5 = BitVec.ofNat 32 (fld d 192 32) ∧
    (startedHand p rank port d).sreg 6 = BitVec.ofNat 32 (fld d 224 32) ∧ ∀ k, 7 ≤ k → (startedHand p rank port d).sreg k = 0 := by
  have hread : ∀ k, k ≠ 0 → (startedHand p rank port d).sreg k = fget 0 (startRegs p rank port d) k := fun k hk => if_neg hk
  refine ⟨?_, ?_, ?_, ?_, ?_, ?_, fun k hk => ?_⟩
  case refine_7 =>
    rw [hread k (by omega), fget_startRegs]
    repeat rw [if_neg (by omega)]
  all_goals
    rw [hread _ (by decide), fget_startRegs]
    rfl

/-! ### The start of a stream (R34, R136, R296) -/

theorem wrongLine_nil (s : State) : s.wrongLine [] = none := by
  unfold State.wrongLine
  simp

section
variable {s : State} {p h port : Nat} {d : BitVec 256}

theorem startStream_noLoad (hl : Nat.testBit (fld d 24 8) 1 = false) :
    startStream s p h port d = s.setHand p h (startedHand p (s.rankIn port p) port d) := by
  have hr : loadReads d = [] := if_neg (ne_true_of_eq_false hl)
  unfold startStream
  rw [hr, wrongLine_nil, hl]
  rfl

theorem startStream_wrong {a : Nat} (hl : Nat.testBit (fld d 24 8) 1 = true) (hw : s.wrongLine [(fld d 64 64, 8 * fld d 48 16)] = some a) :
    startStream s p h port d = s.eccFault a := by
  have hr : loadReads d = [(fld d 64 64, 8 * fld d 48 16)] := if_pos hl
  unfold startStream
  rw [hr, hw]

theorem startStream_loads (hl : Nat.testBit (fld d 24 8) 1 = true) (hw : s.wrongLine [(fld d 64 64, 8 * fld d 48 16)] = none)
    (hc : s.crossed (s.pinUnits p) (s.regionUnits (s.region (fld d 64 64) (8 * fld d 48 16))) = []) :
    startStream s p h port d = (s.memWrite (iaAddr p + 8 * fld d 128 16) (s.readBytes (fld d 64 64) (8 * fld d 48 16))).setHand p h
      (startedHand p (s.rankIn port p) port d) := by
  have hr : loadReads d = [(fld d 64 64, 8 * fld d 48 16)] := if_pos hl
  unfold startStream
  rw [hr, hw, hl]
  dsimp only
  rw [hc]
  rfl

theorem startStream_isolated (hl : Nat.testBit (fld d 24 8) 1 = true) (hw : s.wrongLine [(fld d 64 64, 8 * fld d 48 16)] = none)
    (hc : s.crossed (s.pinUnits p) (s.regionUnits (s.region (fld d 64 64) (8 * fld d 48 16))) ≠ []) :
    startStream s p h port d = (((s.setHand p h (startedHand p (s.rankIn port p) port d)).bump 0x9300 1).isolate
      (s.crossed (s.pinUnits p) (s.regionUnits (s.region (fld d 64 64) (8 * fld d 48 16))))).takeFault p h (fld d 32 16) 0 fIsolated := by
  have hr : loadReads d = [(fld d 64 64, 8 * fld d 48 16)] := if_pos hl
  have he : (s.crossed (s.pinUnits p) (s.regionUnits (s.region (fld d 64 64) (8 * fld d 48 16)))).isEmpty = false := by
    rw [List.isEmpty_eq_false_iff]
    exact hc
  unfold startStream
  rw [hr, hw, hl]
  dsimp only
  rw [he]
  rfl

/-- A stream that starts, with its image or without one, leaves its hand as R34 says. -/
theorem hand_startStream (hl : Nat.testBit (fld d 24 8) 1 = false ∨ (s.wrongLine [(fld d 64 64, 8 * fld d 48 16)] = none ∧
      s.crossed (s.pinUnits p) (s.regionUnits (s.region (fld d 64 64) (8 * fld d 48 16))) = [])) :
    (startStream s p h port d).hand p h = startedHand p (s.rankIn port p) port d := by
  cases hload : Nat.testBit (fld d 24 8) 1 with
  | false => rw [startStream_noLoad hload, state_hand_setHand]
  | true =>
    obtain ⟨hw, hc⟩ := hl.resolve_left (by rw [hload]; exact Bool.noConfusion)
    rw [startStream_loads hload hw hc, state_hand_setHand]

theorem setHand_frame (s : State) (p h : Nat) (d : Hand) : { s.setHand p h d with pinions := s.pinions } = s := rfl

theorem memByte_setHand (s : State) (p h : Nat) (d : Hand) (b : Nat) : (s.setHand p h d).memByte b = s.memByte b := rfl

theorem readBytes_length (s : State) (a n : Nat) : (s.readBytes a n).length = n := by
  unfold State.readBytes
  rw [List.length_map, List.length_range]

theorem readBytes_getD (s : State) (a : Nat) {n i : Nat} (hi : i < n) : (s.readBytes a n).getD i 0 = s.readByte (a + i) :=
  getD_map_range _ hi 0

/-- The code image arrives as it was read, and nothing else of memory changes. -/
theorem startStream_image (hl : Nat.testBit (fld d 24 8) 1 = true) (hw : s.wrongLine [(fld d 64 64, 8 * fld d 48 16)] = none)
    (hc : s.crossed (s.pinUnits p) (s.regionUnits (s.region (fld d 64 64) (8 * fld d 48 16))) = []) :
    (∀ i, i < 8 * fld d 48 16 →
      (startStream s p h port d).memByte (iaAddr p + 8 * fld d 128 16 + i) = s.readByte (fld d 64 64 + i)) ∧
    (∀ b, b < iaAddr p + 8 * fld d 128 16 ∨ iaAddr p + 8 * fld d 128 16 + 8 * fld d 48 16 ≤ b →
      (startStream s p h port d).memByte b = s.memByte b) ∧
    { startStream s p h port d with mem := s.mem, pinions := s.pinions } = s := by
  rw [startStream_loads hl hw hc]
  refine ⟨fun i hi => ?_, fun b hb => ?_, ?_⟩
  · rw [memByte_setHand, memByte_memWrite, readBytes_length, if_pos (by omega), Nat.add_sub_cancel_left, readBytes_getD s _ hi]
  · rw [memByte_setHand, memByte_memWrite, readBytes_length, if_neg (by omega)]
  · exact congrArg (fun t : State => { t with pinions := s.pinions })
      (memWrite_frame s (iaAddr p + 8 * fld d 128 16) (s.readBytes (fld d 64 64) (8 * fld d 48 16)))

/-! ### Delivery (R33) -/

theorem deliver_waits (hd : (s.hand p h).stream.isSome = true ∨ (s.hand p h).pend.isSome = true) :
    deliver s p h port d = s.setHand p h { s.hand p h with pend := some (port, d) } := by
  refine if_neg ?_
  rw [Bool.and_eq_true, Option.isNone_iff_eq_none, Option.isNone_iff_eq_none]
  rintro ⟨hs, hp⟩
  rw [hs, hp] at hd
  rcases hd with hd | hd
  · exact Bool.noConfusion hd
  · exact Bool.noConfusion hd

theorem deliver_starts (hs : (s.hand p h).stream = none) (hp : (s.hand p h).pend = none) :
    deliver s p h port d = startStream s p h port d := if_pos (by rw [hs, hp]; rfl)

theorem exec_streamDescriptor (ha : streamAnswer s port d = .accepted) :
    exec (.streamDescriptor port d) s = .next ((s.portPinions port).foldl (fun t p => deliver t p (fld d 16 8) port d)
      ((s.emit (.issueStatus .accepted)).unitMod (port / 65536) (port % 65536) (fun u => { u with tag := fld d 0 16 }))) :=
  (if_pos ha).trans (by rw [ha])

theorem exec_pendingStreamStart (hp : (s.hand p h).pend = some (port, d)) (hs : (s.hand p h).stream = none)
    (hst : s.modState = stRunning ∨ s.modState = stHeld) (hin : s.inService p = true) (hh : h < 2) (hstop : (s.pin p).stopping = none) :
    exec (.pendingStreamStart p h) s = .next (startStream s p h port d) := by
  show execPendingStreamStart p h s = _
  unfold execPendingStreamStart
  dsimp only
  rw [hp]
  exact if_pos (by simp [hst, hin, hs, hh, hstop])

end

end Sys2Proof.Machine

open Sys2Proof Sys2Proof.Machine

/-- Settles O13: acceptance, delivery, the code image and the registers of a stream that starts. -/
theorem streamsStart : Obligations.StreamsStart := by
  refine ⟨streamAnswer_accepted_iff, fun s port d => exec_streamDescriptor,
    fun s p h port d => ⟨deliver_waits, deliver_starts, exec_pendingStreamStart⟩, fun s p h port d hl => ?load, fun s p h port d hl => ?hand⟩
  case load =>
    refine ⟨fun a => startStream_wrong hl, startStream_image hl, fun hw hc => ?_⟩
    exact ⟨s.setHand p h (startedHand p (s.rankIn port p) port d), startStream_isolated hl hw hc, setHand_frame s p h _⟩
  case hand =>
    rw [hand_startStream hl]
    obtain ⟨h1, h2, h3, h4, h5, h6, h7⟩ := startedHand_sreg p (s.rankIn port p) port d
    refine ⟨rfl, h1, h2, h3, h4, h5, h6, h7, fun _ => rfl, rfl, rfl, rfl, rfl, rfl, rfl, rfl, rfl, fun hl' => ?_⟩
    rw [startStream_noLoad hl']
    exact setHand_frame s p h _
end

section
/-! SUPPORT. A stream enters the hands of its train (R33, R34): the delivery to each pinion in turn, and the statement. -/

namespace Sys2Proof.Machine

/-! ### The pinions of a train -/

theorem trainPinions_nodup (s : State) (level index : Nat) : (s.trainPinions level index).Nodup := by
  unfold State.trainPinions
  split
  · exact List.nodup_singleton index
  · exact List.nodup_range.map (add_left_injective _)

theorem portPinions_nodup (s : State) (port : Nat) : (s.portPinions port).Nodup := (trainPinions_nodup s _ _).filter _

/-- A change of units that leaves every STATE leaves the pinions' service (R295). -/
theorem firstSt_congr {s t : State} (hst : ∀ l i, (t.unit l i).st = (s.unit l i).st) (us : List (Nat × Nat)) : t.firstSt us = s.firstSt us := by
  induction us with
  | nil => rfl
  | cons u us ih =>
    obtain ⟨l, i⟩ := u
    simp only [State.firstSt, hst, ih]

theorem inService_congr {s t : State} (hst : ∀ l i, (t.unit l i).st = (s.unit l i).st) (hb : t.bootRetired = s.bootRetired) (p : Nat) :
    t.inService p = s.inService p := by
  have hpin : t.pinSt p = s.pinSt p := by
    unfold State.pinSt State.ancestors State.t1Of
    rw [hb]
    exact firstSt_congr hst _
  unfold State.inService State.pinCount
  rw [hb, hpin]

theorem rankIn_congr {s t : State} (hst : ∀ l i, (t.unit l i).st = (s.unit l i).st) (hb : t.bootRetired = s.bootRetired) (port p : Nat) :
    t.rankIn port p = s.rankIn port p := by
  have htrain : ∀ l i, t.trainPinions l i = s.trainPinions l i := fun l i => by
    unfold State.trainPinions State.firstLogical
    rw [hb]
  unfold State.rankIn State.portPinions
  rw [htrain]
  simp only [inService_congr hst hb]

/-- A train's TAG is no part of its STATE. -/
theorem unit_st_tagged (s : State) (l i v k j : Nat) : ((s.unitMod l i (fun u => { u with tag := v })).unit k j).st = (s.unit k j).st := by
  by_cases hk : State.unitKey k j = State.unitKey l i
  · have hsame : ∀ t : State, t.unit k j = t.unit l i := fun t => congrArg (fget ({} : UnitSt) t.units) hk
    rw [hsame, hsame, unit_unitMod_same]
  · rw [unit_unitMod_ne _ _ hk]

/-! ### Delivery in turn -/

/-- A descriptor without LOAD that comes to idle hands starts on each of them, and nothing but those hands changes. -/
theorem foldl_deliver {h port : Nat} {d : BitVec 256} (hl : Nat.testBit (fld d 24 8) 1 = false) (ps : List Nat) (hnodup : ps.Nodup) (t : State)
    (hidle : ∀ q ∈ ps, (t.hand q h).stream = none ∧ (t.hand q h).pend = none) :
    let u := ps.foldl (fun t p => deliver t p h port d) t
    { u with pinions := t.pinions } = t ∧ (∀ q, q ∉ ps → u.pin q = t.pin q) ∧
      ∀ q ∈ ps, u.hand q h = startedHand q (t.rankIn port q) port d := by
  induction ps generalizing t with
  | nil => exact ⟨rfl, fun _ _ => rfl, fun q hq => absurd hq List.not_mem_nil⟩
  | cons p ps ih =>
    obtain ⟨hp, hps⟩ := List.nodup_cons.mp hnodup
    obtain ⟨hstream, hpend⟩ := hidle p List.mem_cons_self
    have hstep : deliver t p h port d = t.setHand p h (startedHand p (t.rankIn port p) port d) :=
      (deliver_starts hstream hpend).trans (startStream_noLoad hl)
    have hother : ∀ q, q ≠ p → (deliver t p h port d).pin q = t.pin q := fun q hq => by
      rw [hstep]
      exact pin_setHand_ne t h _ hq
    obtain ⟨hframe, hpins, hhands⟩ := ih hps (deliver t p h port d) fun q hq => by
      unfold State.hand
      rw [hother q (fun e => hp (e ▸ hq))]
      exact hidle q (List.mem_cons_of_mem p hq)
    rw [List.foldl_cons]
    generalize List.foldl (fun t p => deliver t p h port d) (deliver t p h port d) ps = u at hframe hpins hhands
    refine ⟨?_, fun q hq => ?_, fun q hq => ?_⟩
    · rw [hstep] at hframe
      exact congrArg (fun x : State => { x with pinions := t.pinions }) hframe
    · obtain ⟨hqp, hqs⟩ := not_or.mp (mt List.mem_cons.mpr hq)
      rw [hpins q hqs, hother q hqp]
    · rcases List.mem_cons.mp hq with rfl | hqs
      · unfold State.hand
        rw [hpins q hp, hstep, pin_setHand_same, hand_setHand_same]
      · rw [hhands q hqs, hstep]
        rfl

end Sys2Proof.Machine

open Sys2Proof Sys2Proof.Machine

/-- Settles O59: the delivery in turn to the hands of a train, and the one hand of a pending descriptor. -/
theorem streamsEnter : Obligations.StreamsEnter := by
  refine ⟨fun s port d hl ha hidle => ?train, fun s p h port d hl hh hp hs hst hin hstop => ?pending⟩
  case train =>
    refine ⟨_, exec_streamDescriptor ha, ?_⟩
    have hpend := ((streamAnswer_accepted_iff s port d).mp ha).2.2.2
    have hrank : ∀ q, ((s.emit (.issueStatus .accepted)).unitMod (port / 65536) (port % 65536)
        (fun u => { u with tag := fld d 0 16 })).rankIn port q = s.rankIn port q := fun q =>
      rankIn_congr (fun l i => unit_st_tagged (s.emit (.issueStatus .accepted)) _ _ _ l i) rfl port q
    have htag : (((s.emit (.issueStatus .accepted)).unitMod (port / 65536) (port % 65536)
        (fun u => { u with tag := fld d 0 16 })).unit (port / 65536) (port % 65536)).tag = fld d 0 16 := by
      rw [unit_unitMod_same]
    obtain ⟨hframe, hpins, hhands⟩ := foldl_deliver hl (s.portPinions port) (portPinions_nodup s port)
      ((s.emit (.issueStatus .accepted)).unitMod (port / 65536) (port % 65536) (fun u => { u with tag := fld d 0 16 }))
      fun q hq => ⟨hidle q hq, hpend q hq⟩
    generalize List.foldl (fun t p => deliver t p (fld d 16 8) port d) _ (s.portPinions port) = t at *
    refine ⟨(congrArg State.out hframe :), (congrArg State.mem hframe :), (congrArg State.od hframe :), (congrArg State.syncs hframe :),
      (congrArg State.barrels hframe :), ?_, hpins, fun q hq => ?_⟩
    · exact (congrArg (fun x : State => (x.unit (port / 65536) (port % 65536)).tag) hframe :).trans htag
    · obtain ⟨h1, h2, -⟩ := startedHand_sreg q (s.rankIn port q) port d
      rw [hhands q hq, hrank q]
      exact ⟨rfl, rfl, rfl, h1, h2⟩
  case pending =>
    refine ⟨_, exec_pendingStreamStart hp hs hst hin hh hstop, ?_⟩
    obtain ⟨h1, h2, -⟩ := startedHand_sreg p (s.rankIn port p) port d
    rw [startStream_noLoad hl, state_hand_setHand]
    refine ⟨rfl, rfl, rfl, fun q hq => pin_setHand_ne s h _ hq, ?_, rfl, rfl, rfl, rfl, h1, h2⟩
    unfold State.hand
    rw [pin_setHand_same, hand_setHand_other _ _ hh]
end

section
/-! SUPPORT. The data-move class and its engine (R53, R57): the issue of DMV and DPF, the course of a transfer descriptor, the rows it
moves, and the statement. -/

namespace Sys2Proof.Machine

/-! ### The issue of DMV and DPF -/

theorem postField_issuing (s : State) (p h : Nat) (d : Hand) (post : Bool) (sid mode : Nat) :
    postField (issuing s p h) p d post sid mode = postField s p d post sid mode := rfl

/-- Where the list of descriptors that a word names stands in the data area. -/
def dmBase (d : Hand) (w : W64) : Nat := regOff d (fld w 31 4) (fld w 23 8) 32

/-- How many descriptors the list has; a count of 0 stands for 256. -/
def dmCount (w : W64) : Nat := if fld w 15 8 = 0 then 256 else fld w 15 8

theorem dmListBad_iff (a n : Nat) : (decide (a % 32 ≠ 0) || !State.inData a (32 * n)) = true ↔ a % 32 ≠ 0 ∨ 0x14000 < a + 32 * n := by
  rw [Bool.or_eq_true, decide_eq_true_iff, Bool.not_eq_true', State.inData, decide_eq_false_iff_not, Nat.not_le]
  rfl

section
variable {c : Instr} {s : State} {p h row q : Nat} {w : W64}

theorem exec_dm {post : Option Nat} (hi : Issues s p h row w) (he : exec c s = .next (dmIssue s p h row q))
    (hpost : postField s p (s.hand p h) (Nat.testBit w.toNat 55) (fld w 37 18) (fld w 35 2) = .ok post)
    (ha : dmBase (s.hand p h) w % 32 = 0) (hb : dmBase (s.hand p h) w + 32 * dmCount w ≤ 0x14000) :
    exec c s = .next (((issuing s p h).pinMod p (fun x => x.setDmq q (x.dmq q ++ [.xfer h (s.hand p h).pc row (dmBase (s.hand p h) w)
      (dmCount w) post (s.hand p h).stgBase.toNat (s.hand p h).stgSize.toNat (q == 1)]))).resumeAt p h ((s.hand p h).pc + 1)) := by
  refine exec_done hi he ?_
  dsimp only
  rw [postField_issuing, hpost]
  exact if_neg (mt (dmListBad_iff _ _).mp (by unfold dmBase dmCount at *; omega))

/-- DMV queues its list on queue 0. -/
theorem exec_dmv {post : Option Nat} (hi : Issues s p h 0x40 w)
    (hpost : postField s p (s.hand p h) (Nat.testBit w.toNat 55) (fld w 37 18) (fld w 35 2) = .ok post)
    (ha : dmBase (s.hand p h) w % 32 = 0) (hb : dmBase (s.hand p h) w + 32 * dmCount w ≤ 0x14000) :
    exec (.dmv p h) s = .next (((issuing s p h).pinMod p (fun x => { x with
      dmq0 := x.dmq0 ++ [.xfer h (s.hand p h).pc 0x40 (dmBase (s.hand p h) w) (dmCount w) post (s.hand p h).stgBase.toNat
        (s.hand p h).stgSize.toNat false] })).resumeAt p h ((s.hand p h).pc + 1)) := by
  have hq := exec_dm (c := .dmv p h) (q := 0) hi rfl hpost ha hb
  exact hq

/-- DPF queues its list on queue 1, bounded by the staging area. -/
theorem exec_dpf {post : Option Nat} (hi : Issues s p h 0x41 w)
    (hpost : postField s p (s.hand p h) (Nat.testBit w.toNat 55) (fld w 37 18) (fld w 35 2) = .ok post)
    (ha : dmBase (s.hand p h) w % 32 = 0) (hb : dmBase (s.hand p h) w + 32 * dmCount w ≤ 0x14000) :
    exec (.dpf p h) s = .next (((issuing s p h).pinMod p (fun x => { x with
      dmq1 := x.dmq1 ++ [.xfer h (s.hand p h).pc 0x41 (dmBase (s.hand p h) w) (dmCount w) post (s.hand p h).stgBase.toNat
        (s.hand p h).stgSize.toNat true] })).resumeAt p h ((s.hand p h).pc + 1)) := by
  have hq := exec_dm (c := .dpf p h) (q := 1) hi rfl hpost ha hb
  exact hq

theorem exec_dm_addr {post : Option Nat} (hi : Issues s p h row w) (hr : row < 0xA300) (he : exec c s = .next (dmIssue s p h row q))
    (hpost : postField s p (s.hand p h) (Nat.testBit w.toNat 55) (fld w 37 18) (fld w 35 2) = .ok post)
    (ha : dmBase (s.hand p h) w % 32 ≠ 0 ∨ 0x14000 < dmBase (s.hand p h) w + 32 * dmCount w) :
    exec c s = .next (faulted s p h row fAddr) := by
  refine exec_fault hi hr he ?_
  dsimp only
  rw [postField_issuing, hpost]
  exact if_pos ((dmListBad_iff _ _).mpr ha)

theorem exec_dm_post {code : Nat} (hi : Issues s p h row w) (hr : row < 0xA300) (he : exec c s = .next (dmIssue s p h row q))
    (hpost : postField s p (s.hand p h) (Nat.testBit w.toNat 55) (fld w 37 18) (fld w 35 2) = .error code) :
    exec c s = .next (faulted s p h row code) := by
  refine exec_fault hi hr he ?_
  dsimp only
  rw [postField_issuing, hpost]

end

/-! ### The rows of a descriptor -/

/-- A list of `m` rows that are all good is taken whole; one whose first bad row is `k` is taken up to it. -/
theorem takeWhile_rows_length {α : Type} (f : Nat → α) (good : α → Bool) {k m : Nat} (hk : k ≤ m) (hgood : ∀ i < k, good (f i) = true)
    (hbad : k < m → good (f k) = false) : (((List.range m).map f).takeWhile good).length = k := by
  obtain ⟨n, rfl⟩ := Nat.exists_eq_add_of_le hk
  have hprefix : ∀ x ∈ (List.range k).map f, good x = true := by
    intro x hx
    obtain ⟨i, hi, rfl⟩ := List.mem_map.mp hx
    exact hgood i (List.mem_range.mp hi)
  rw [List.range_add, List.map_append, List.takeWhile_append_of_pos hprefix]
  cases n with
  | zero => simp
  | succ n => simp [List.range_succ_eq_map, hbad (by omega)]

/-- The rows that a descriptor reads. -/
def sourceRows (x : XferDesc) (src : Nat) : List (Nat × Nat) := (List.range x.rows).map (fun i => (src + i * x.srcStride, x.rowBytes))

theorem sourceRows_drop (x : XferDesc) (src : Nat) {k : Nat} (hk : k ≤ x.rows) :
    (sourceRows x src).drop k = (List.range (x.rows - k)).map (fun i => (src + (k + i) * x.srcStride, x.rowBytes)) := by
  obtain ⟨n, hn⟩ := Nat.exists_eq_add_of_le hk
  unfold sourceRows
  rw [hn, List.range_add, List.map_append, List.drop_left' (by simp), Nat.add_sub_cancel_left, List.map_map]
  rfl

/-- How many rows move before the first one with an uncorrectable error (R136). -/
def cleanRows (s : State) (x : XferDesc) (src : Nat) : Nat := ((sourceRows x src).takeWhile (fun r => (s.wrongLine [r]).isNone)).length

theorem cleanRows_all {s : State} {x : XferDesc} {src : Nat}
    (h : ∀ i < x.rows, s.wrongLine [(src + i * x.srcStride, x.rowBytes)] = none) : cleanRows s x src = x.rows :=
  takeWhile_rows_length _ _ le_rfl (fun i hi => by rw [h i hi]; rfl) (fun hlt => absurd hlt (lt_irrefl _))

theorem cleanRows_first {s : State} {x : XferDesc} {src k a : Nat} (hk : k < x.rows)
    (h : ∀ i < k, s.wrongLine [(src + i * x.srcStride, x.rowBytes)] = none)
    (ha : s.wrongLine [(src + k * x.srcStride, x.rowBytes)] = some a) : cleanRows s x src = k :=
  takeWhile_rows_length _ _ hk.le (fun i hi => by rw [h i hi]; rfl) (fun _ => by rw [ha]; rfl)

/-! ### The course of a descriptor -/

/-- The entry of a data-move queue that a DMV or DPF has left, at the head of queue `q` of pinion `p` before `rest`. -/
structure XferHead where
  p : Nat
  q : Nat
  hand : Nat
  pc : Nat
  op : Nat
  base : Nat
  left : Nat
  post : Option Nat
  stgBase : Nat
  stgSize : Nat
  prefetch : Bool
  rest : List DmJob

/-- The fault of an entry. -/
def XferHead.fault (e : XferHead) (s : State) (code : Nat) : State := xferFault s e.p e.q e.hand e.pc e.op code e.rest

/-- What an entry leaves at the end of a descriptor. -/
def XferHead.next (e : XferHead) (s : State) : State :=
  if e.left ≤ 1 then jobDone s e.p e.q e.post e.rest
  else (s.pinMod e.p (fun y => y.setDmq e.q
    (.xfer e.hand e.pc e.op (e.base + 32) (e.left - 1) e.post e.stgBase e.stgSize e.prefetch :: e.rest))).headDone e.p e.q

/-- Does a destination leave the staging area of a DPF (R53)? -/
def XferHead.strays (e : XferHead) (s : State) (x : XferDesc) (dst : Nat) : Bool :=
  e.prefetch && !((List.range x.rows).all (fun i => inStaging s e.p e.stgBase e.stgSize (dst + i * x.dstStride) x.rowBytes))

/-- The course of the descriptor `x` of an entry, whose rows go from `src` to `dst`. -/
def XferHead.run (e : XferHead) (s : State) (x : XferDesc) (src dst : Nat) : State :=
  if !xferOk s e.p src dst x then e.fault s fDesc
  else if e.strays s x dst then e.fault s fAddr
  else
    let r := moveRows e.p x (cleanRows s x src) s src dst
    if r.2 && decide (cleanRows s x src < x.rows) then
      (r.1.eccFault ((s.wrongLine ((sourceRows x src).drop (cleanRows s x src))).getD 0)).headDone e.p e.q
    else if !r.2 then e.fault r.1 fIsolated
    else e.next r.1

section
variable {e : XferHead} {s : State} {x : XferDesc} {src dst : Nat}

/-- DATA_MOVE_DESCRIPTOR runs the descriptor of the entry at the head of its queue (R57). -/
theorem exec_dataMoveDescriptor (n : Nat) (hon : moveOn s e.p = true) (hq : e.q < 2) (hwork : s.mayWork e.p e.q = true)
    (hd : (s.pin e.p).dmq e.q =
      .xfer e.hand e.pc e.op e.base e.left e.post e.stgBase e.stgSize e.prefetch :: e.rest) :
    let y := xferDesc (s.rdData e.p e.base 32)
    let rank := ((s.hand e.p e.hand).sreg 2).toNat
    exec (.dataMoveDescriptor e.p ⟨e.q, n⟩) s =
      .next (e.run s y (xferBase e.p rank y.rows y.srcStride y.src) (xferBase e.p rank y.rows y.dstStride y.dst)) := by
  intro y rank
  show execDataMoveDescriptor e.p ⟨e.q, n⟩ s = _
  unfold execDataMoveDescriptor
  rw [if_pos (by rw [hon, hwork, decide_eq_true hq]; rfl)]
  dsimp only
  rw [hd]
  dsimp only
  unfold XferHead.run XferHead.next
  simp only [apply_ite (Host.Outcome.next (φ := Fault) (ρ := Refusal))]
  rfl

theorem XferHead.strays_eq_false_iff (e : XferHead) (s : State) (x : XferDesc) (dst : Nat) : e.strays s x dst = false ↔
    (e.prefetch = true → ∀ i < x.rows, inStaging s e.p e.stgBase e.stgSize (dst + i * x.dstStride) x.rowBytes = true) := by
  unfold XferHead.strays
  rw [Bool.and_eq_false_iff, Bool.not_eq_false', List.all_eq_true]
  simp only [List.mem_range]
  cases e.prefetch <;> simp

theorem XferHead.run_desc (hok : xferOk s e.p src dst x = false) : e.run s x src dst = e.fault s fDesc :=
  if_pos (by rw [hok]; rfl)

section
variable (hok : xferOk s e.p src dst x = true)
include hok

theorem XferHead.run_addr (hs : e.strays s x dst = true) : e.run s x src dst = e.fault s fAddr :=
  (if_neg (by rw [hok]; exact Bool.noConfusion)).trans (if_pos hs)

variable (hs : e.strays s x dst = false)
include hs

/-- A descriptor that passes its checks moves its rows. -/
theorem XferHead.run_rows : e.run s x src dst =
    if (moveRows e.p x (cleanRows s x src) s src dst).2 && decide (cleanRows s x src < x.rows) then
      ((moveRows e.p x (cleanRows s x src) s src dst).1.eccFault
        ((s.wrongLine ((sourceRows x src).drop (cleanRows s x src))).getD 0)).headDone e.p e.q
    else if !(moveRows e.p x (cleanRows s x src) s src dst).2 then e.fault (moveRows e.p x (cleanRows s x src) s src dst).1 fIsolated
    else e.next (moveRows e.p x (cleanRows s x src) s src dst).1 :=
  (if_neg (by rw [hok]; exact Bool.noConfusion)).trans (if_neg (ne_true_of_eq_false hs))

theorem XferHead.run_moves (hclean : ∀ i < x.rows, s.wrongLine [(src + i * x.srcStride, x.rowBytes)] = none)
    (hr : (moveRows e.p x x.rows s src dst).2 = true) : e.run s x src dst = e.next (moveRows e.p x x.rows s src dst).1 := by
  rw [XferHead.run_rows hok hs, cleanRows_all hclean, if_neg (by simp), if_neg (by rw [hr]; exact Bool.noConfusion)]

theorem XferHead.run_isolated (hclean : ∀ i < x.rows, s.wrongLine [(src + i * x.srcStride, x.rowBytes)] = none)
    (hr : (moveRows e.p x x.rows s src dst).2 = false) :
    e.run s x src dst = e.fault (moveRows e.p x x.rows s src dst).1 fIsolated := by
  rw [XferHead.run_rows hok hs, cleanRows_all hclean, if_neg (by simp), if_pos (by rw [hr]; rfl)]

theorem XferHead.run_wrong {k a : Nat} (hk : k < x.rows) (hclean : ∀ i < k, s.wrongLine [(src + i * x.srcStride, x.rowBytes)] = none)
    (ha : s.wrongLine [(src + k * x.srcStride, x.rowBytes)] = some a) (hr : (moveRows e.p x k s src dst).2 = true) :
    e.run s x src dst = ((moveRows e.p x k s src dst).1.eccFault
      ((s.wrongLine ((List.range (x.rows - k)).map (fun i => (src + (k + i) * x.srcStride, x.rowBytes)))).getD 0)).headDone e.p e.q := by
  rw [XferHead.run_rows hok hs, cleanRows_first hk hclean ha, if_pos (by rw [hr, decide_eq_true hk]; rfl), sourceRows_drop x src hk.le]

end

end

/-! ### The fault of an entry -/

theorem pin_headDone (s : State) (p k r : Nat) : (s.headDone p k).pin r = s.pin r := by
  unfold State.headDone
  split
  · rfl
  · rfl

theorem hand_setDmq (x : Pinion) (q h : Nat) (l : List DmJob) : (x.setDmq q l).hand h = x.hand h := by
  unfold Pinion.setDmq
  split
  · rfl
  · rfl

theorem stopping_setDmq (x : Pinion) (q : Nat) (l : List DmJob) : (x.setDmq q l).stopping = x.stopping := by
  unfold Pinion.setDmq
  split
  · rfl
  · rfl

/-- A pinion that is not stopping, and whose hand has not faulted, takes the fault of an entry as any other. -/
theorem xferFault_takes {s : State} {p h : Nat} (q pc op code : Nat) (rest : List DmJob) (hstop : (s.pin p).stopping = none)
    (hf : (s.hand p h).stream.map (·.faulted) ≠ some true) :
    xferFault s p q h pc op code rest = ((s.pinMod p (fun y => y.setDmq q rest)).headDone p q).takeFault p h pc op code := by
  have hpin : ((s.pinMod p (fun y => y.setDmq q rest)).headDone p q).pin p = (s.pin p).setDmq q rest := by
    rw [pin_headDone, pin_pinMod_same]
  have hhand : ((s.pinMod p (fun y => y.setDmq q rest)).headDone p q).hand p h = s.hand p h := by
    unfold State.hand
    rw [hpin, hand_setDmq]
  unfold xferFault
  dsimp only
  rw [hpin, stopping_setDmq, hstop, hhand, if_neg hf]
  rfl

/-! ### The rows move (R57) -/

theorem slowWrite_mem (s : State) (a : Nat) (bs : List Byte) : (s.slowWrite a bs).mem = s.mem := by
  induction bs generalizing s a with
  | nil => rfl
  | cons b bs ih => exact ih { s with slow := fput 0 s.slow a b } (a + 1)

/-- A write of companion memory reaches exactly its bytes. -/
theorem slow_slowWrite (s : State) (a : Nat) (bs : List Byte) (b : Nat) : fget 0 (s.slowWrite a bs).slow b =
    if a ≤ b ∧ b < a + bs.length then bs.getD (b - a) 0 else fget 0 s.slow b := by
  induction bs generalizing s a with
  | nil =>
    rw [if_neg (by simp)]
    rfl
  | cons c cs ih =>
    rw [State.slowWrite, ih, List.length_cons]
    dsimp only
    by_cases h1 : a + 1 ≤ b ∧ b < a + 1 + cs.length
    · have hsub : b - a = b - (a + 1) + 1 := by omega
      rw [if_pos h1, if_pos (by omega), hsub, List.getD_cons_succ]
    · rw [if_neg h1]
      by_cases h2 : b = a
      · rw [if_pos (by omega), h2, Nat.sub_self, List.getD_cons_zero, fget_fput_same]
      · rw [if_neg (by omega), fget_fput_ne _ _ _ h2]

/-- A write in the slow tier leaves the module's own memory. -/
theorem memByte_writeBytes_slow (s : State) {a : Nat} (bs : List Byte) (h : slowBase ≤ a) (b : Nat) :
    (s.writeBytes a bs).memByte b = s.memByte b := by
  unfold State.writeBytes State.memByte
  rw [if_pos h, slowWrite_mem]

/-- Outside its bytes a write leaves the module's own memory, wherever it goes. -/
theorem memByte_writeBytes_other (s : State) {a : Nat} (bs : List Byte) {b : Nat} (hb : b < a ∨ a + bs.length ≤ b) :
    (s.writeBytes a bs).memByte b = s.memByte b := by
  by_cases h : slowBase ≤ a
  · exact memByte_writeBytes_slow s bs h b
  · rw [memByte_writeBytes s bs (Nat.not_le.mp h), if_neg (by omega)]

theorem readByte_slow (s : State) {a : Nat} (h : slowBase ≤ a) : s.readByte a = fget 0 s.slow (s.odGet 0x3000 1 + (a - slowBase)) := if_pos h

/-- A byte written in the slow tier reads as it was written. -/
theorem readByte_writeBytes_slow (s : State) {a i : Nat} (bs : List Byte) (h : slowBase ≤ a) (hi : i < bs.length) :
    (s.writeBytes a bs).readByte (a + i) = bs.getD i 0 := by
  have hod : (s.writeBytes a bs).odGet 0x3000 1 = s.odGet 0x3000 1 := by
    unfold State.odGet
    rw [writeBytes_od]
  rw [readByte_slow _ (by omega), hod]
  have hoff : s.odGet 0x3000 1 + (a + i - slowBase) - (s.odGet 0x3000 1 + (a - slowBase)) = i := by omega
  unfold State.writeBytes
  rw [if_pos h, slow_slowWrite, if_pos (by omega), hoff]

theorem memByte_isolate (s : State) (us : List (Nat × Nat)) (b : Nat) : (s.isolate us).memByte b = s.memByte b := by
  unfold State.isolate
  induction us generalizing s with
  | nil => rfl
  | cons u us ih => exact (ih _).trans rfl

/-- The Bezels that a row meets closed, at its source or at its destination (R296). -/
def rowMeets (s : State) (p : Nat) (x : XferDesc) (src dst : Nat) : List (Nat × Nat) :=
  rowCrosses s p src x.rowBytes ++ rowCrosses s p dst x.rowBytes

/-- One row moves, and tags its blocks where the descriptor says so (R94). -/
def moveRow (p : Nat) (x : XferDesc) (s : State) (src dst : Nat) : State :=
  let s1 := s.writeBytes dst (s.readBytes src x.rowBytes)
  if x.flags = 1 then setTags s1 p (dst - daAddr p) x.rowBytes x.tag else s1

theorem moveRows_succ (p : Nat) (x : XferDesc) (n : Nat) (s : State) (src dst : Nat) : moveRows p x (n + 1) s src dst =
    if !(rowMeets s p x src dst).isEmpty then ((s.bump 0x9300 1).isolate (rowMeets s p x src dst), false)
    else moveRows p x n (moveRow p x s src dst) (src + x.srcStride) (dst + x.dstStride) := rfl

theorem moveRow_memByte (p : Nat) (x : XferDesc) (s : State) (src dst b : Nat) :
    (moveRow p x s src dst).memByte b = (s.writeBytes dst (s.readBytes src x.rowBytes)).memByte b := by
  unfold moveRow
  dsimp only
  split
  · rfl
  · rfl

theorem moveRow_readByte (p : Nat) (x : XferDesc) (s : State) (src dst b : Nat) :
    (moveRow p x s src dst).readByte b = (s.writeBytes dst (s.readBytes src x.rowBytes)).readByte b := by
  unfold moveRow
  dsimp only
  split
  · rfl
  · rfl

/-- A row arrives as it was read. -/
theorem moveRows_one_arrives {p : Nat} {x : XferDesc} {s : State} {src dst i : Nat} (hm : (moveRows p x 1 s src dst).2 = true) (hi : i < x.rowBytes) :
    (dst + x.rowBytes ≤ shadowBase → (moveRows p x 1 s src dst).1.memByte (dst + i) = s.readByte (src + i)) ∧
    (slowBase ≤ dst → (moveRows p x 1 s src dst).1.readByte (dst + i) = s.readByte (src + i)) := by
  have hone : (moveRows p x 1 s src dst).1 = moveRow p x s src dst := by
    rw [moveRows_succ] at hm ⊢
    split at hm
    · exact absurd hm Bool.noConfusion
    next hopen =>
      rw [if_neg hopen]
      rfl
  have hlen := readBytes_length s src x.rowBytes
  rw [hone]
  refine ⟨fun hd => ?_, fun hd => ?_⟩
  · have hlt : dst < slowBase := by simp only [shadowBase, slowBase] at *; omega
    rw [moveRow_memByte, memByte_writeBytes s _ hlt, hlen, if_pos (by omega), Nat.add_sub_cancel_left, readBytes_getD s _ hi]
  · rw [moveRow_readByte, readByte_writeBytes_slow s _ hd (by rw [hlen]; exact hi), readBytes_getD s _ hi]

/-- A move changes no byte of the module's own memory outside its rows. -/
theorem moveRows_memByte_other (p : Nat) (x : XferDesc) (b n : Nat) (s : State) (src dst : Nat)
    (hb : ∀ i < n, b < dst + i * x.dstStride ∨ dst + i * x.dstStride + x.rowBytes ≤ b) :
    (moveRows p x n s src dst).1.memByte b = s.memByte b := by
  induction n generalizing s src dst with
  | zero => rfl
  | succ n ih =>
    have hrow : b < dst ∨ dst + x.rowBytes ≤ b := by simpa using hb 0 (Nat.succ_pos n)
    rw [moveRows_succ]
    split
    · rw [memByte_isolate]
      rfl
    · rw [ih, moveRow_memByte, memByte_writeBytes_other s _ (by rwa [readBytes_length])]
      intro i hi
      have hnext := hb (i + 1) (Nat.succ_lt_succ hi)
      rw [Nat.succ_mul] at hnext
      omega

end Sys2Proof.Machine

open Sys2Proof Sys2Proof.Machine

/-- Settles O18: the issue of the two instructions, the course of a descriptor in each of its cases, the fault, and the rows. -/
theorem dataMoves : Obligations.DataMoves := by
  refine ⟨fun s p h w => ⟨fun post hpost => ⟨fun hi => ?_, fun hi => ?_, fun hi => ?_, fun hi => ?_⟩,
      fun c hpost => ⟨fun hi => ?_, fun hi => ?_⟩⟩,
    fun s p q n h pc op base left sb sz post pre rest hon hq hwork hd => ?course,
    fun s p q h pc op code rest => xferFault_takes q pc op code rest,
    fun p x s src dst i => moveRows_one_arrives, fun p n x s src dst b => moveRows_memByte_other p x b n s src dst⟩
  · exact exec_dmv hi hpost
  · exact exec_dpf hi hpost
  · exact exec_dm_addr hi (by decide) rfl hpost
  · exact exec_dm_addr hi (by decide) rfl hpost
  · exact exec_dm_post hi (by decide) rfl hpost
  · exact exec_dm_post hi (by decide) rfl hpost
  case course =>
    let e : XferHead := ⟨p, q, h, pc, op, base, left, post, sb, sz, pre, rest⟩
    have hrun := exec_dataMoveDescriptor (e := e) n hon hq hwork hd
    intro x rank src dst inArea clean r
    have harea : e.strays s x dst = false ↔ inArea := e.strays_eq_false_iff s x dst
    refine ⟨fun hok ha hc hr hl => ?_, fun hok ha hc hr hl => ?_, fun hok => ?_, fun hok ha => ?_, fun hok ha hc hr => ?_,
      fun k a hok ha hk hc hw hr => ?_⟩
    · rw [hrun, XferHead.run_moves (e := e) hok (harea.mpr ha) hc hr]
      exact congrArg Host.Outcome.next (if_pos hl)
    · rw [hrun, XferHead.run_moves (e := e) hok (harea.mpr ha) hc hr]
      exact congrArg Host.Outcome.next (if_neg (Nat.not_le.mpr hl))
    · rw [hrun, XferHead.run_desc (e := e) hok]
      rfl
    · rw [hrun, XferHead.run_addr (e := e) hok (eq_true_of_ne_false (mt harea.mp ha))]
      rfl
    · rw [hrun, XferHead.run_isolated (e := e) hok (harea.mpr ha) hc hr]
      rfl
    · rw [hrun, XferHead.run_wrong (e := e) hok (harea.mpr ha) hk hc hw hr]
end

section
/-! SUPPORT. The issue of MTX and MTXB (R41, R43, R44, R58, R59): the tile rules, the checks of a pass in their order, and the statement. -/

namespace Sys2Proof.Machine

/-! ### The tile rules (R40, R41, R44, R45) -/

section
variable {x : Pinion} {d : Hand} {a bank g : Nat}

theorem tileCheck_chain (hn : (x.tile a bank).held = false ∨ (x.tile a bank).drain ≠ none) :
    tileCheck x d a bank g false true = .fault fTileEmpty := by
  refine if_pos ?_
  rw [Bool.or_eq_true, Bool.not_eq_true', Option.isSome_iff_ne_none]
  exact hn

theorem tileCheck_chain_held (hh : (x.tile a bank).held = true) (hd : (x.tile a bank).drain = none) :
    tileCheck x d a bank g false true = if (x.tile a bank).isInt ≠ groupInt g then .fault fFormat else .ok := by
  refine if_neg ?_
  rw [hh, hd]
  exact Bool.noConfusion

theorem tileCheck_drains (hd : (x.tile a bank).drain ≠ none) : tileCheck x d a bank g false false = .wait :=
  if_pos (Option.isSome_iff_ne_none.mpr hd)

theorem tileCheck_plain (hd : (x.tile a bank).drain = none) :
    tileCheck x d a bank g false false = if (x.tile a bank).held then .fault fTileHeld else .ok :=
  if_neg (by rw [hd]; exact Bool.noConfusion)

/-- A flip needs a pass of the hand's stream before it, and another bank. -/
theorem tileCheck_flip (chain : Bool) : tileCheck x d a bank g true chain =
    if (if a = 0 then d.seen0 else d.seen1) = false ∨ (x.arr a).lastBank = some bank then .fault fFlipBank
    else tileCheck x d a bank g false chain := by
  unfold tileCheck
  refine if_congr ?_ rfl rfl
  rw [Bool.true_and, Bool.or_eq_true, Bool.not_eq_true', beq_iff_eq]

end

/-! ### MTX -/

/-- The formats of a pass are of one operand group, and an MX format is not transposed (R44, R49). -/
def PassFormats (r : Pass) (g : Nat) : Prop :=
  fmtGroup r.fmtA = some g ∧ fmtGroup r.fmtB = some g ∧ (r.tA && isMx r.fmtA) = false ∧ (r.tB && isMx r.fmtB) = false

/-- The state in which an MTX has issued its pass `r`: the tile named, the pass on its array. -/
def mtxIssued (t : State) (p : Nat) (w : W64) (x : Pinion) (r : Pass) (g : Nat) : State :=
  let u := t.setPin p (addPass (nameTile x (fld w 51 1) r g) (fld w 51 1) r)
  if g = 5 && (r.tA || r.tB) then u.pinCountBy p 0x2140 6 6 1 else u

/-- What a tile says of a pass: a fault, a wait, or that it goes on. -/
def oneTile (k : TileCheck) (wait go : IssueRes) : IssueRes :=
  match k with
  | .fault c => .fault c
  | .wait => wait
  | .ok => go

/-- MTX on the tile that its pass `r` names, on the pinion `x`. -/
def mtxOnTile (t : State) (p : Nat) (d : Hand) (w : W64) (x : Pinion) (r : Pass) (g : Nat) : IssueRes :=
  oneTile (tileCheck x d (fld w 51 1) r.bank g (Nat.testBit w.toNat 49) r.chain) (interlockWait t p d)
    (if (x.arr (fld w 51 1)).queued.isSome then .stay t .queueHold else .done (advance (mtxIssued t p w x r g) p))

/-- MTX is legal where a chain does not flip, and any other pass has a starting value that is not reserved. -/
def MtxLegal (r : Pass) (flip : Bool) : Prop := (r.chain && flip) = false ∧ (r.chain = false → r.initMode ≠ 3)

/-- MTX with its pass `r`: what is legal, the formats, and the addresses are checked in this order. -/
def mtxOnPass (t : State) (p : Nat) (d : Hand) (w : W64) (x : Pinion) (r : Pass) : IssueRes :=
  if (r.chain && Nat.testBit w.toNat 49) || (!r.chain && r.initMode == 3) then .fault fIllegal
  else match fmtGroup r.fmtA with
  | none => .fault fFormat
  | some g =>
    if fmtGroup r.fmtB ≠ some g || (r.tA && isMx r.fmtA) || (r.tB && isMx r.fmtB) then .fault fFormat
    else if !passAddrOk r then .fault fAddr
    else mtxOnTile t p d w x r g

/-- MTX, with the pass that its word makes. -/
def mtxBody (p : Nat) (t : State) (d : Hand) (w : W64) : IssueRes := mtxOnPass t p d w (t.pin p) (mtxPass (t.pin p) d w)

theorem exec_mtx_eq (p h : Nat) (s : State) : exec (.mtx p h) s = .next (s.issueAs p h 0x80 (mtxBody p)) := rfl

theorem mtxBody_issuing (s : State) (p h : Nat) (d : Hand) (w : W64) : mtxBody p (issuing s p h) d w =
    mtxOnPass (issuing s p h) p d w { s.pin p with cur := h } (mtxPass { s.pin p with cur := h } d w) := by
  unfold mtxBody
  rw [pin_issuing]

section
variable {t : State} {p : Nat} {d : Hand} {w : W64} {x : Pinion} {r : Pass} {g : Nat}

theorem mtxIllegal_iff (r : Pass) (flip : Bool) : ((r.chain && flip) || (!r.chain && r.initMode == 3)) = true ↔ ¬ MtxLegal r flip := by
  unfold MtxLegal
  cases r.chain <;> cases flip <;> simp

theorem mtxOnPass_illegal (hl : ¬ MtxLegal r (Nat.testBit w.toNat 49)) : mtxOnPass t p d w x r = .fault fIllegal :=
  if_pos ((mtxIllegal_iff _ _).mpr hl)

/-- A format that belongs to no group, two groups, or a transposed MX format raises FORMAT. -/
theorem mtxOnPass_format (hl : MtxLegal r (Nat.testBit w.toNat 49))
    (hf : (∀ k, ¬ (fmtGroup r.fmtA = some k ∧ fmtGroup r.fmtB = some k)) ∨ (r.tA && isMx r.fmtA) = true ∨ (r.tB && isMx r.fmtB) = true) :
    mtxOnPass t p d w x r = .fault fFormat := by
  unfold mtxOnPass
  rw [if_neg (mt (mtxIllegal_iff _ _).mp (not_not.mpr hl))]
  cases hA : fmtGroup r.fmtA with
  | none => rfl
  | some k =>
    refine if_pos ?_
    simp only [Bool.or_eq_true, decide_eq_true_eq, or_assoc]
    exact hf.imp_left fun hne hB => hne k ⟨hA, hB⟩

theorem mtxOnPass_formats (hl : MtxLegal r (Nat.testBit w.toNat 49)) (hf : PassFormats r g) :
    mtxOnPass t p d w x r = if passAddrOk r then mtxOnTile t p d w x r g else .fault fAddr := by
  obtain ⟨hA, hB, hta, htb⟩ := hf
  unfold mtxOnPass
  rw [if_neg (mt (mtxIllegal_iff _ _).mp (not_not.mpr hl)), hA]
  dsimp only
  rw [if_neg (by simp [hB, hta, htb])]
  cases passAddrOk r <;> rfl

theorem mtxOnPass_tile (hl : MtxLegal r (Nat.testBit w.toNat 49)) (hf : PassFormats r g) (ha : passAddrOk r = true) {k : TileCheck}
    (hk : tileCheck x d (fld w 51 1) r.bank g (Nat.testBit w.toNat 49) r.chain = k) : mtxOnPass t p d w x r =
      oneTile k (interlockWait t p d)
        (if (x.arr (fld w 51 1)).queued.isSome then .stay t .queueHold else .done (advance (mtxIssued t p w x r g) p)) := by
  rw [mtxOnPass_formats hl hf, if_pos ha, mtxOnTile, hk]

end

section
variable {s : State} {p h : Nat} {w : W64}

/-- A hand that an array's tile holds back waits at the interlock; each wait counts once (R46). -/
theorem exec_interlock {c : Instr} {row : Nat} {body : State → Hand → W64 → IssueRes} (hi : Issues s p h row w)
    (he : exec c s = .next (s.issueAs p h row body))
    (hb : body (issuing s p h) (s.hand p h) w = interlockWait (issuing s p h) p (s.hand p h)) :
    exec c s = .next ((if (s.hand p h).st = .interlock then issuing s p h else (issuing s p h).pinCountBy p 0x2140 2 2 1).setHand p h
      { s.hand p h with st := .interlock }) := by
  rw [exec_stay hi he hb]
  by_cases hst : (s.hand p h).st = .interlock
  · rw [if_pos hst, hand_issuing]
  · rw [if_neg hst, hand_pinCountBy, hand_issuing]

end

/-! ### MTXB -/

/-- What two tiles say together: a fault of either comes first, array 0's before array 1's, then a wait of either. -/
def bothTiles (k0 k1 : TileCheck) (wait go : IssueRes) : IssueRes :=
  match k0, k1 with
  | .fault c, _ => .fault c
  | _, .fault c => .fault c
  | .wait, _ => wait
  | _, .wait => wait
  | .ok, .ok => go

theorem bothTiles_fault {k0 k1 : TileCheck} {c : Nat} (wait go : IssueRes) (h : k0 = .fault c ∨ (k1 = .fault c ∧ ∀ k, k0 ≠ .fault k)) :
    bothTiles k0 k1 wait go = .fault c := by
  rcases h with rfl | ⟨rfl, hne⟩
  · rfl
  · cases k0 with
    | fault k => exact absurd rfl (hne k)
    | ok => rfl
    | wait => rfl

theorem bothTiles_wait {k0 k1 : TileCheck} (wait go : IssueRes) (h0 : ∀ k, k0 ≠ .fault k) (h1 : ∀ k, k1 ≠ .fault k)
    (h : k0 = .wait ∨ k1 = .wait) : bothTiles k0 k1 wait go = wait := by
  rcases h with rfl | rfl
  · cases k1 with
    | fault k => exact absurd rfl (h1 k)
    | ok => rfl
    | wait => rfl
  · cases k0 with
    | fault k => exact absurd rfl (h0 k)
    | ok => rfl
    | wait => rfl

/-- The state in which an MTXB has issued its passes `r`: the tiles named, the passes on both arrays. -/
def mtxbIssued (t : State) (p : Nat) (x : Pinion) (r : Pass × Pass) (g : Nat) : State :=
  let u := t.setPin p (addPass (addPass (nameTile (nameTile x 0 r.1 g) 1 r.2 g) 0 r.1) 1 r.2)
  if g = 5 then u.pinCountBy p 0x2140 6 6 2 else u

/-- MTXB with its passes `r`: the formats, the addresses and the tiles are checked in this order. -/
def mtxbOnPasses (t : State) (p : Nat) (d : Hand) (w : W64) (x : Pinion) (r : Pass × Pass) : IssueRes :=
  if !mtxbFormatsOk (Nat.testBit w.toNat 47) r.1.fmtA r.1.fmtB r.2.fmtA then .fault fFormat
  else if !passAddrOk r.1 || !passAddrOk r.2 then .fault fAddr
  else
    let g := (fmtGroup r.1.fmtA).getD 0
    let flip := Nat.testBit w.toNat 46
    bothTiles (tileCheck x d 0 r.1.bank g (flip && !r.1.chain) r.1.chain) (tileCheck x d 1 r.2.bank g (flip && !r.2.chain) r.2.chain)
      (interlockWait t p d)
      (if x.arr0.queued.isSome || x.arr1.queued.isSome then .stay t .queueHold else .done (advance (mtxbIssued t p x r g) p))

/-- MTXB, with the passes that its word makes. -/
def mtxbBody (p : Nat) (t : State) (d : Hand) (w : W64) : IssueRes := mtxbOnPasses t p d w (t.pin p) (mtxbPasses (t.pin p) d w)

theorem exec_mtxb_eq (p h : Nat) (s : State) : exec (.mtxb p h) s = .next (s.issueAs p h 0x81 (mtxbBody p)) := rfl

theorem mtxbBody_issuing (s : State) (p h : Nat) (d : Hand) (w : W64) : mtxbBody p (issuing s p h) d w =
    mtxbOnPasses (issuing s p h) p d w { s.pin p with cur := h } (mtxbPasses { s.pin p with cur := h } d w) := by
  unfold mtxbBody
  rw [pin_issuing]

section
variable {t : State} {p : Nat} {d : Hand} {w : W64} {x : Pinion} {r : Pass × Pass} {g : Nat}

theorem mtxbOnPasses_format (hf : mtxbFormatsOk (Nat.testBit w.toNat 47) r.1.fmtA r.1.fmtB r.2.fmtA = false) :
    mtxbOnPasses t p d w x r = .fault fFormat := if_pos (by rw [hf]; rfl)

theorem mtxbOnPasses_addr (hf : mtxbFormatsOk (Nat.testBit w.toNat 47) r.1.fmtA r.1.fmtB r.2.fmtA = true)
    (ha : (passAddrOk r.1 && passAddrOk r.2) = false) : mtxbOnPasses t p d w x r = .fault fAddr :=
  (if_neg (by rw [hf]; exact Bool.noConfusion)).trans (if_pos (by rw [← Bool.not_and, ha]; rfl))

theorem mtxbOnPasses_tiles (hf : mtxbFormatsOk (Nat.testBit w.toNat 47) r.1.fmtA r.1.fmtB r.2.fmtA = true) (h0 : passAddrOk r.1 = true)
    (h1 : passAddrOk r.2 = true) (hg : fmtGroup r.1.fmtA = some g) {k0 k1 : TileCheck}
    (hk0 : tileCheck x d 0 r.1.bank g (Nat.testBit w.toNat 46 && !r.1.chain) r.1.chain = k0)
    (hk1 : tileCheck x d 1 r.2.bank g (Nat.testBit w.toNat 46 && !r.2.chain) r.2.chain = k1) : mtxbOnPasses t p d w x r =
      bothTiles k0 k1 (interlockWait t p d)
        (if x.arr0.queued.isSome || x.arr1.queued.isSome then .stay t .queueHold else .done (advance (mtxbIssued t p x r g) p)) := by
  subst hk0 hk1
  unfold mtxbOnPasses
  rw [if_neg (by rw [hf]; exact Bool.noConfusion), if_neg (by rw [h0, h1]; exact Bool.noConfusion), hg]
  rfl

end

end Sys2Proof.Machine

open Sys2Proof Sys2Proof.Machine

/-- Settles O20: the checks of MTX and MTXB in their order, and the tile rules. -/
theorem matrixIssues : Obligations.MatrixIssues := by
  refine ⟨fun s p h g w => ?issues, fun x d a bank g => ?tiles⟩
  case issues =>
    intro d x r rb a flipA flip u ub legalA formatA formatB checkA check0 check1 held
    have hbody := mtxBody_issuing s p h d w
    have hbodyb := mtxbBody_issuing s p h d w
    refine ⟨fun hi => ⟨fun hl => ?_, fun hl hf => ?_, fun hl hf ha => ?_, fun hl hf ha hk hq => ?_, fun hl hf ha c hk => ?_,
      fun hl hf ha hk => ?_, fun hl hf ha hk hq => ?_⟩, fun hi => ⟨fun hf => ?_, fun hf ha => ?_, fun hf h0 h1 hg => ⟨fun hk0 hk1 hq0 hq1 => ?_,
      fun c hk => ?_, fun hk0 hk1 hk => ?_, fun hk0 hk1 hq => ?_⟩⟩⟩
    · exact exec_fault hi (by decide) (exec_mtx_eq p h s) (hbody.trans (mtxOnPass_illegal hl))
    · exact exec_fault hi (by decide) (exec_mtx_eq p h s) (hbody.trans (mtxOnPass_format hl hf))
    · exact exec_fault hi (by decide) (exec_mtx_eq p h s)
        (hbody.trans ((mtxOnPass_formats hl hf).trans (if_neg (ne_true_of_eq_false ha))))
    · have hcount : mtxIssued (issuing s p h) p w x r g = if g = 5 ∧ (r.tA = true ∨ r.tB = true) then u.pinCountBy p 0x2140 6 6 1 else u :=
        if_congr (by rw [Bool.and_eq_true, decide_eq_true_iff, Bool.or_eq_true]) rfl rfl
      rw [← hcount]
      exact exec_done hi (exec_mtx_eq p h s) (hbody.trans ((mtxOnPass_tile hl hf ha hk).trans
        (if_neg (by rw [show _ = none from hq]; exact Bool.noConfusion))))
    · exact exec_fault hi (by decide) (exec_mtx_eq p h s) (hbody.trans (mtxOnPass_tile hl hf ha hk))
    · exact exec_interlock hi (exec_mtx_eq p h s) (hbody.trans (mtxOnPass_tile hl hf ha hk))
    · exact handStep_of_stay hi (exec_mtx_eq p h s) (hbody.trans ((mtxOnPass_tile hl hf ha hk).trans (if_pos (Option.isSome_iff_ne_none.mpr hq))))
    · exact exec_fault hi (by decide) (exec_mtxb_eq p h s) (hbodyb.trans (mtxbOnPasses_format hf))
    · exact exec_fault hi (by decide) (exec_mtxb_eq p h s) (hbodyb.trans (mtxbOnPasses_addr hf ha))
    · exact exec_done hi (exec_mtxb_eq p h s) (hbodyb.trans ((mtxbOnPasses_tiles hf h0 h1 hg hk0 hk1).trans
        (if_neg (by rw [show _ = none from hq0, show _ = none from hq1]; exact Bool.noConfusion))))
    · exact exec_fault hi (by decide) (exec_mtxb_eq p h s) (hbodyb.trans ((mtxbOnPasses_tiles hf h0 h1 hg rfl rfl).trans (bothTiles_fault _ _ hk)))
    · exact exec_interlock hi (exec_mtxb_eq p h s) (hbodyb.trans ((mtxbOnPasses_tiles hf h0 h1 hg rfl rfl).trans (bothTiles_wait _ _ hk0 hk1 hk)))
    · refine handStep_of_stay hi (exec_mtxb_eq p h s) (hbodyb.trans ((mtxbOnPasses_tiles hf h0 h1 hg hk0 hk1).trans (if_pos ?_)))
      rw [Bool.or_eq_true, Option.isSome_iff_ne_none, Option.isSome_iff_ne_none]
      exact hq
  case tiles =>
    intro t
    refine ⟨fun hh => tileCheck_chain (.inl hh), fun _ hd => tileCheck_chain (.inr hd),
      fun hh hd hne => (tileCheck_chain_held hh hd).trans (if_pos hne),
      fun hh hd he => (tileCheck_chain_held hh hd).trans (if_neg (not_not.mpr he)), tileCheck_drains,
      fun hd hh => (tileCheck_plain hd).trans (if_pos hh), fun hd hh => (tileCheck_plain hd).trans (if_neg (ne_true_of_eq_false hh)),
      fun chain => ⟨fun hb => (tileCheck_flip chain).trans (if_pos (.inr hb)), fun hs => (tileCheck_flip chain).trans (if_pos (.inl hs)),
        fun hs hb => (tileCheck_flip chain).trans (if_neg (not_or.mpr ⟨ne_false_of_eq_true hs, hb⟩))⟩⟩
end

section
/-! SUPPORT. The events of a pass (R38, R43, R58) and the sums of an integer cell (R65), and the statement. -/

namespace Sys2Proof.Machine

/-! ### Arrays and tiles of a pinion -/

@[simp] theorem arr_setArr_same (x : Pinion) (a : Nat) (r : Arr) : (x.setArr a r).arr a = r := by
  unfold Pinion.setArr Pinion.arr
  split
  · rfl
  · rfl

@[simp] theorem tile_setArr (x : Pinion) (a : Nat) (r : Arr) (b c : Nat) : (x.setArr a r).tile b c = x.tile b c := by
  unfold Pinion.setArr
  split
  · rfl
  · rfl

@[simp] theorem arr_setTile (x : Pinion) (a b : Nat) (t : Tile) (c : Nat) : (x.setTile a b t).arr c = x.arr c := rfl

@[simp] theorem tile_setTile_same (x : Pinion) (a b : Nat) (t : Tile) : (x.setTile a b t).tile a b = t := fget_fput_same _ _ _ _

theorem tile_setTile_ne (x : Pinion) {a b c : Nat} (t : Tile) (hc : c ≠ b) : (x.setTile a b t).tile a c = x.tile a c :=
  fget_fput_ne _ _ _ (fun h => hc (Nat.add_left_cancel h))

/-! ### The completion of a pass -/

/-- A request of a tile's drain changes the drain alone. -/
theorem requestDrain_eq (x : Pinion) (a b n : Nat) :
    requestDrain x a b n = x ∨ ∃ dr, requestDrain x a b n = x.setTile a b { x.tile a b with drain := dr } := by
  unfold requestDrain
  dsimp only
  split
  · split
    · exact .inr ⟨_, rfl⟩
    · exact .inl rfl
  · exact .inl rfl

/-- What a request of a tile's drain leaves. -/
theorem requestDrain_keeps (x : Pinion) (a b n : Nat) : ((requestDrain x a b n).tile a b).acc = (x.tile a b).acc ∧
    ((requestDrain x a b n).tile a b).sat = (x.tile a b).sat ∧ (∀ c, (requestDrain x a b n).arr c = x.arr c) ∧
    ∀ c, c ≠ b → (requestDrain x a b n).tile a c = x.tile a c := by
  rcases requestDrain_eq x a b n with h | ⟨dr, h⟩
  · rw [h]
    exact ⟨rfl, rfl, fun _ => rfl, fun _ _ => rfl⟩
  · rw [h, tile_setTile_same]
    exact ⟨rfl, rfl, fun _ => rfl, fun c hc => tile_setTile_ne x _ hc⟩

/-- The pinion whose tile has taken the sums of the pass `r` of array `a`. -/
def passDone (x : Pinion) (a n : Nat) (r : Pass) : Pinion :=
  (x.setTile a r.bank { passTile (x.tile a r.bank) r with done := n }).setArr a { x.arr a with tail := none }

theorem completeArr_eq {x : Pinion} {a : Nat} {r : Pass} (n : Nat) (ht : (x.arr a).tail = some r) :
    completeArr x a n = requestDrain (passDone x a n r) a r.bank n := by
  unfold completeArr
  rw [ht]
  rfl

/-- A pass that completes leaves its sums in its tile (R38), and the other tile of its array as it was. -/
theorem completeArr_effect {x : Pinion} {a : Nat} {r : Pass} (n : Nat) (ht : (x.arr a).tail = some r) :
    ((completeArr x a n).tile a r.bank).acc = (passTile (x.tile a r.bank) r).acc ∧
    ((completeArr x a n).tile a r.bank).sat = (passTile (x.tile a r.bank) r).sat ∧
    ((completeArr x a n).arr a).tail = none ∧ ∀ b, b ≠ r.bank → (completeArr x a n).tile a b = x.tile a b := by
  obtain ⟨hacc, hsat, harr, htile⟩ := requestDrain_keeps (passDone x a n r) a r.bank n
  have hdone : (passDone x a n r).tile a r.bank = { passTile (x.tile a r.bank) r with done := n } := by
    rw [passDone, tile_setArr, tile_setTile_same]
  rw [completeArr_eq n ht, hacc, hsat, harr, hdone]
  refine ⟨rfl, rfl, ?_, fun b hb => ?_⟩
  · rw [passDone, arr_setArr_same]
  · rw [htile b hb, passDone, tile_setArr, tile_setTile_ne x _ hb]

section
variable {s : State} {p a : Nat}

theorem exec_lastKStepEntered (hon : engineOn s p = true) (ha : a < 2) (hk : kReady ((s.pin p).arr a) = true) :
    exec (.lastKStepEntered p a) s = .next (advance (s.setPin p
      (if isPaired ((s.pin p).arr a).running && kReady ((s.pin p).arr (1 - a)) then
        ((s.pin p).setArr a (kStep ((s.pin p).arr a))).setArr (1 - a) (kStep ((s.pin p).arr (1 - a)))
      else (s.pin p).setArr a (kStep ((s.pin p).arr a)))) p) := by
  show execLastKStepEntered p a s = _
  unfold execLastKStepEntered
  dsimp only
  rw [Nat.mod_eq_of_lt ha, if_pos (by rw [hon, hk, decide_eq_true ha]; rfl)]

theorem exec_passComplete {r : Pass} (same : Bool) (hon : engineOn s p = true) (ha : a < 2) (ht : ((s.pin p).arr a).tail = some r) :
    exec (.passComplete p ⟨a, same⟩) s =
      let n := if same then (s.pin p).stamp - 1 else (s.pin p).stamp
      let y := completeArr (s.pin p) a n
      let z := if r.paired && isPaired ((s.pin p).arr (1 - a)).tail then completeArr y (1 - a) n else y
      .next ((advance (s.setPin p { z with stamp := n + 1 }) p).tryStop p) := by
  show execPassComplete p ⟨a, same⟩ s = _
  unfold execPassComplete
  dsimp only
  rw [Nat.mod_eq_of_lt ha, if_pos (by rw [hon, ht, decide_eq_true ha]; rfl), ht]
  rfl

end

/-! ### The cells of a tile -/

/-- A cell of a tile after a pass over it. -/
theorem passTile_acc (t : Tile) (r : Pass) {n : Nat} (hn : n < 256) : (passTile t r).acc.getD n 0 =
    (if t.isInt then cellInt r (n / 16) (n % 16) (if r.chain then t.acc.getD n 0 else initCell r (n / 16) (n % 16))
      else (cellFloat r (n / 16) (n % 16) (if r.chain then t.acc.getD n 0 else initCell r (n / 16) (n % 16)), false)).1 := by
  unfold passTile
  dsimp only
  rw [List.map_map, getD_map_range _ hn]
  rfl

theorem clampI_eq {lo hi : Int} (h : lo ≤ hi) (x : Int) : clampI lo hi x = max lo (min hi x) := by
  unfold clampI
  split
  · omega
  · split <;> omega

/-- The product that an integer cell adds in step `q` (R65). -/
def cellTerm (r : Pass) (i j q : Nat) : Int := opInt r.tA r.bytesA i q * opInt r.tB r.bytesB j q

/-- A step of an integer cell: the clamped sum, and whether a sum has been clamped so far. -/
def cellStep (r : Pass) (i j : Nat) (a : Int × Bool) (q : Nat) : Int × Bool :=
  (clampI (-2147483648) 2147483647 (a.1 + cellTerm r i j q),
    a.2 || decide (clampI (-2147483648) 2147483647 (a.1 + cellTerm r i j q) ≠ a.1 + cellTerm r i j q))

/-- The first `n` steps of an integer cell. -/
def cellSteps (r : Pass) (i j : Nat) (acc : W32) (n : Nat) : Int × Bool := (List.range n).foldl (cellStep r i j) (acc.toInt, false)

theorem cellInt_eq (r : Pass) (i j : Nat) (acc : W32) :
    cellInt r i j acc = (BitVec.ofInt 32 (cellSteps r i j acc 64).1, (cellSteps r i j acc 64).2) := rfl

theorem cellSteps_succ (r : Pass) (i j : Nat) (acc : W32) (n : Nat) :
    cellSteps r i j acc (n + 1) = cellStep r i j (cellSteps r i j acc n) n := by
  unfold cellSteps
  rw [List.range_succ, List.foldl_append]
  rfl

theorem cellSteps_sum (r : Pass) (i j : Nat) (acc : W32) (n : Nat) : (cellSteps r i j acc (n + 1)).1 =
    max (-2147483648) (min 2147483647 ((cellSteps r i j acc n).1 + cellTerm r i j n)) := by
  rw [cellSteps_succ, cellStep, clampI_eq (by decide)]

/-- Every sum of an integer cell is a 32-bit integer. -/
theorem cellSteps_bounds (r : Pass) (i j : Nat) (acc : W32) (n : Nat) :
    -2147483648 ≤ (cellSteps r i j acc n).1 ∧ (cellSteps r i j acc n).1 ≤ 2147483647 := by
  cases n with
  | zero =>
    have hlo := BitVec.le_toInt acc
    have hhi := BitVec.toInt_lt (x := acc)
    show -2147483648 ≤ acc.toInt ∧ acc.toInt ≤ 2147483647
    norm_num at hlo hhi
    omega
  | succ n =>
    rw [cellSteps_sum]
    omega

/-- A cell has clamped if a step's sum is not the one before it plus the product. -/
theorem cellSteps_clamped (r : Pass) (i j : Nat) (acc : W32) (n : Nat) : (cellSteps r i j acc n).2 = true ↔
    ∃ q < n, (cellSteps r i j acc (q + 1)).1 ≠ (cellSteps r i j acc q).1 + cellTerm r i j q := by
  induction n with
  | zero => simp [cellSteps]
  | succ n ih =>
    have hsucc := cellSteps_succ r i j acc n
    have hflag : (cellSteps r i j acc (n + 1)).2 = ((cellSteps r i j acc n).2 ||
        decide ((cellSteps r i j acc (n + 1)).1 ≠ (cellSteps r i j acc n).1 + cellTerm r i j n)) := by
      rw [hsucc, cellStep]
    rw [hflag, Bool.or_eq_true, decide_eq_true_iff, ih, Nat.exists_lt_succ_right]

theorem toInt_ofInt_32 {x : Int} (hlo : -2147483648 ≤ x) (hhi : x ≤ 2147483647) : (BitVec.ofInt 32 x).toInt = x := by
  rw [BitVec.toInt_ofInt]
  exact Int.bmod_eq_of_le (by norm_num; omega) (by norm_num; omega)

end Sys2Proof.Machine

open Sys2Proof Sys2Proof.Machine

/-- Settles O21: the two events by their operations, the tile by what a completion leaves, and the integer cell by its steps. -/
theorem passesProceed : Obligations.PassesProceed := by
  refine ⟨⟨fun s p a hon ha hk => ?kstep, fun s p a same r hon ha ht => ?complete, fun a => ⟨rfl, rfl, rfl⟩, fun t r n hn => ?cells⟩,
    fun r i j acc => ?sums⟩
  case kstep => exact exec_lastKStepEntered hon ha hk
  case complete =>
    obtain ⟨hacc, hsat, htail, htile⟩ := completeArr_effect (if same then (s.pin p).stamp - 1 else (s.pin p).stamp) ht
    exact ⟨exec_passComplete same hon ha ht, hacc, hsat, htail, fun b hb _ _ => htile b hb⟩
  case cells =>
    refine ⟨fun hint => ?_, fun hint => ?_⟩
    · rw [passTile_acc t r hn, hint]
      rfl
    · rw [passTile_acc t r hn, hint]
      rfl
  case sums =>
    obtain ⟨hlo, hhi⟩ := cellSteps_bounds r i j acc 64
    refine ⟨fun n => (cellSteps r i j acc n).1, rfl, fun q _ => cellSteps_sum r i j acc q, ?_⟩
    rw [cellInt_eq]
    exact ⟨toInt_ofInt_32 hlo hhi, cellSteps_clamped r i j acc 64⟩
end

section
/-! SUPPORT. The lane-wise operations of the vector class (R83), and the statement about them. -/

namespace Sys2Proof.Machine

theorem vVals_length (fmt : Nat) (v : W512) : (vVals fmt v).length = 512 / vBits fmt := (List.length_map _).trans (lanes_length _ v)

theorem getD_vVals (fmt : Nat) (v : W512) {i : Nat} (hi : i < 512 / vBits fmt) :
    (vVals fmt v).getD i .nan = vDec fmt (fld v (i * vBits fmt) (vBits fmt)) := by
  rw [vVals_eq, getD_map_range _ hi]

/-- A format that is neither FP32 nor FP64 is none of the arithmetic (R339). -/
theorem vArith_eq_false {fmt : Nat} (h9 : fmt ≠ 9) (h10 : fmt ≠ 10) : vArith fmt = false := by
  simp [vArith, h9, h10]

/-- The value of lane `i` of the register that a field of a vector word names. -/
def laneVal (d : Hand) (w : W64) (lo i : Nat) : FV :=
  vDec (fld w 52 4) (fld (vSrc d w lo) (i * vBits (fld w 52 4)) (vBits (fld w 52 4)))

/-- A register whose lane `i` is `f i`, rounded once to the format of the word. -/
def rounded (w : W64) (f : Nat → FV) : W512 :=
  ofLanes (vBits (fld w 52 4)) ((List.range (512 / vBits (fld w 52 4))).map (fun i => vEnc (fld w 52 4) (f i)))

section
variable {c : Instr} {s : State} {p h row : Nat} {w : W64}

/-- A lane-wise operation writes, in each lane of VD, its function of the three lanes, rounded once. -/
theorem runsOn_vMap {f : FV → FV → FV → FV} (hi : Issues s p h row w) (he : exec c s = .next (vMap s p h row f))
    (hf : vArith (fld w 52 4) = true) : RunsOn c s s p h ((s.hand p h).setVreg (fld w 47 5) (rounded w (fun i =>
      f (laneVal (s.hand p h) w 42 i) (laneVal (s.hand p h) w 37 i) (laneVal (s.hand p h) w 32 i)))) := by
  refine runsOn_vecIssue hi he hf (congrArg (fun l => vDone (issuing s p h) p h w (ofLanes (vBits (fld w 52 4)) l)) ?_)
  rw [vVals_length]
  refine List.map_congr_left fun i hi => ?_
  have hlane := List.mem_range.mp hi
  rw [getD_vVals _ _ hlane, getD_vVals _ _ hlane, getD_vVals _ _ hlane]
  rfl

theorem runsOn_vscl (hi : Issues s p h 0x6F w) (hf : vArith (fld w 52 4) = true) : RunsOn (.vscl p h) s s p h
    ((s.hand p h).setVreg (fld w 47 5) (rounded w (fun i => (laneVal (s.hand p h) w 42 i).scale (sInt 16 (fld w 0 16))))) := by
  refine runsOn_vecIssue hi rfl hf (congrArg (fun l => vDone (issuing s p h) p h w (ofLanes (vBits (fld w 52 4)) l)) ?_)
  rw [vVals_eq, List.map_map]
  rfl

end

end Sys2Proof.Machine

open Sys2Proof Sys2Proof.Machine

/-- Settles O24: the operations of three lanes by one lemma, VSCL by its own, and the formats that none of them takes. -/
theorem vectorArithmetic : Obligations.VectorArithmetic := by
  intro s p h w
  refine ⟨fun hf => ?arith, fun h9 h10 => ?format⟩
  case arith =>
    have hf := (vArith_iff _).mpr hf
    exact ⟨fun hi => runsOn_vMap (f := fun a b _ => a.add b) hi rfl hf, fun hi => runsOn_vMap (f := fun a b _ => a.mul b) hi rfl hf,
      fun hi => runsOn_vMap (f := fun a b c => (a.mul b).add c) hi rfl hf,
      fun hi => runsOn_vMap (f := fun a b c => ((a.mul b).add c).neg) hi rfl hf,
      fun hi => runsOn_vMap (f := fun a b _ => FV.vmin a b) hi rfl hf, fun hi => runsOn_vMap (f := fun a b _ => FV.vmax a b) hi rfl hf,
      fun hi => runsOn_vscl hi hf⟩
  case format =>
    have hf : vArith (fld w 52 4) = false := vArith_eq_false h9 h10
    simp only [List.mem_cons, Prod.mk.injEq, List.not_mem_nil, or_false]
    rintro c row (⟨rfl, rfl⟩ | ⟨rfl, rfl⟩ | ⟨rfl, rfl⟩ | ⟨rfl, rfl⟩ | ⟨rfl, rfl⟩ | ⟨rfl, rfl⟩ | ⟨rfl, rfl⟩) hi
    all_goals exact exec_vecIssue_format hi (by decide) rfl hf
end

section
/-! SUPPORT. What an instruction leaves when it changes more of the module than its hand, registers of which some bits are open, the
reductions of the vector class (R84), and the statement about them. -/

namespace Sys2Proof.Machine

/-! ### The state in which an instruction takes effect -/

/-- `t` is `s` with issue at hand `h` of pinion `p`. -/
def IssuingIn (s t : State) (p h : Nat) : Prop :=
  { t with pinions := s.pinions } = s ∧ (∀ r, r ≠ p → t.pin r = s.pin r) ∧ t.pin p = { s.pin p with cur := h }

theorem issuingIn_issuing (s : State) (p h : Nat) : IssuingIn s (issuing s p h) p h :=
  ⟨rfl, fun _ => pin_pinMod_ne s _, pin_issuing s p h⟩

section
variable {s t : State} {p h : Nat}

theorem IssuingIn.hand (ht : IssuingIn s t p h) (k : Nat) : t.hand p k = s.hand p k := by
  unfold State.hand
  rw [ht.2.2, hand_cur]

/-- A draw of open bits is the same beside the issue. -/
theorem IssuingIn.draw (ht : IssuingIn s t p h) (n : Nat) : IssuingIn { s with free := s.free + 1 } (t.draw n).2 p h := by
  obtain ⟨hframe, hothers, hpin⟩ := ht
  exact ⟨congrArg (fun u : State => { u with free := u.free + 1 }) hframe, hothers, hpin⟩

/-- An instruction that completes with its hand written, in a state that it has changed elsewhere. -/
theorem runsOn_setHandIn {c : Instr} {s s' t : State} {p h row : Nat} {w : W64} {d : Hand} {body : State → Hand → W64 → IssueRes}
    (hi : Issues s p h row w) (he : exec c s = .next (s.issueAs p h row body)) (ht : IssuingIn s' t p h)
    (hb : body (issuing s p h) (s.hand p h) w = .done (t.setHand p h d)) : RunsOn c s s' p h d := by
  obtain ⟨hframe, hothers, hpin⟩ := ht
  refine ⟨(t.setHand p h d).setHand p h { d with pc := (s.hand p h).pc + 1, st := .ready },
    handStep_setHand hframe (fun r hr => (pin_setHand_ne t h d hr).trans (hothers r hr)) ⟨d, ?_⟩, ?_⟩
  · rw [pin_setHand_same, hpin]
  · rw [exec_done hi he hb, resumeAt_if, state_hand_setHand]

end

/-! ### Registers with open bits -/

/-- A register whose low `n` bits are those of `x`, and whose other bits are those of `o`. -/
def lowBits (n x : Nat) (o : W512) : W512 := BitVec.ofNat 512 (x + (o.toNat >>> n) <<< n)

theorem lowBits_mod {n x : Nat} (o : W512) (hn : n ≤ 512) (hx : x < 2 ^ n) : (lowBits n x o).toNat % 2 ^ n = x := by
  rw [lowBits, BitVec.toNat_ofNat, Nat.mod_mod_of_dvd _ (Nat.pow_dvd_pow 2 hn), Nat.shiftLeft_eq, Nat.add_mul_mod_self_right,
    Nat.mod_eq_of_lt hx]

section
variable {c : Instr} {s : State} {p h row : Nat} {w : W64}

/-- An operation that ends with the low `n` bits of VD written and its other bits open. -/
theorem runsOn_vDoneLow {n v : Nat} {body : State → Hand → W64 → IssueRes} (hi : Issues s p h row w)
    (he : exec c s = .next (s.issueAs p h row body)) (hn : n ≤ 512)
    (hb : body (issuing s p h) (s.hand p h) w = vDoneLow (issuing s p h) p h w n v) : ∃ x : W512, x.toNat % 2 ^ n = v % 2 ^ n ∧
      RunsOn c s { s with free := s.free + 1 } p h ((s.hand p h).setVreg (fld w 47 5) x) := by
  have hdraw := (issuingIn_issuing s p h).draw 512
  refine ⟨lowBits n (v % 2 ^ n) ((issuing s p h).draw 512).1, lowBits_mod _ hn (Nat.mod_lt v (Nat.two_pow_pos n)),
    runsOn_setHandIn hi he hdraw (hb.trans ?_)⟩
  rw [vDoneLow, vDone, hdraw.hand]
  rfl

/-- The same of an operation whose format is accepted. -/
theorem runsOn_vecIssueLow {n v : Nat} {ok : Nat → Bool} {body : State → Hand → W64 → Nat → IssueRes} (hi : Issues s p h row w)
    (he : exec c s = .next (vecIssue s p h row ok body)) (hok : ok (fld w 52 4) = true) (hn : n ≤ 512)
    (hb : body (issuing s p h) (s.hand p h) w (fld w 52 4) = vDoneLow (issuing s p h) p h w n v) : ∃ x : W512,
      x.toNat % 2 ^ n = v % 2 ^ n ∧ RunsOn c s { s with free := s.free + 1 } p h ((s.hand p h).setVreg (fld w 47 5) x) :=
  runsOn_vDoneLow hi he hn ((if_pos hok).trans hb)

theorem vBits_le (fmt : Nat) : vBits fmt ≤ 512 := by
  unfold vBits
  split <;> omega

/-- A reduction leaves its result in lane 0 of VD. -/
theorem runsOn_vReduce {f : Nat → List FV → FV} (hi : Issues s p h row w) (he : exec c s = .next (vReduce s p h row f))
    (hf : vArith (fld w 52 4) = true) : ∃ x : W512, x.toNat % 2 ^ vBits (fld w 52 4) =
        vEnc (fld w 52 4) (f (fld w 52 4) (vVals (fld w 52 4) ((s.hand p h).vreg (fld w 42 5)))) % 2 ^ vBits (fld w 52 4) ∧
      RunsOn c s { s with free := s.free + 1 } p h ((s.hand p h).setVreg (fld w 47 5) x) :=
  runsOn_vecIssueLow hi he hf (vBits_le _) rfl

end

/-! ### The pairwise tree of R84 -/

/-- The sum of two values of a format, rounded once. -/
def pairSum (fmt : Nat) (x y : FV) : FV := vDec fmt (vEnc fmt (x.add y))

/-- The tree over eight lanes. -/
def eightSum (fmt : Nat) (f : Nat → FV) : FV :=
  pairSum fmt (pairSum fmt (pairSum fmt (f 0) (f 1)) (pairSum fmt (f 2) (f 3)))
    (pairSum fmt (pairSum fmt (f 4) (f 5)) (pairSum fmt (f 6) (f 7)))

/-- The tree over the lanes of a register: 16 of FP32, 8 of FP64. -/
def laneSum (fmt : Nat) (f : Nat → FV) : FV :=
  if fmt = 9 then pairSum fmt (eightSum fmt f) (eightSum fmt (fun i => f (i + 8))) else eightSum fmt f

theorem treeSum_lanes {fmt : Nat} (hf : fmt = 9 ∨ fmt = 10) (f : Nat → FV) :
    treeSum fmt 4 ((List.range (512 / vBits fmt)).map f) = laneSum fmt f := by
  rcases hf with rfl | rfl
  · rfl
  · rfl

end Sys2Proof.Machine

open Sys2Proof Sys2Proof.Machine

/-- Settles O26: a reduction by its tree, over the lanes or over their rounded squares. -/
theorem vectorReductions : Obligations.VectorReductions := by
  intro s p h w
  refine ⟨fun hf => ⟨fun hi => ?sum, fun hi => ?squares⟩, fun h9 h10 => ?format⟩
  case sum =>
    have hr := runsOn_vReduce (c := .vrsum p h) hi rfl ((vArith_iff _).mpr hf)
    rw [vVals_eq, treeSum_lanes hf] at hr
    exact hr
  case squares =>
    have hr := runsOn_vReduce (c := .vrssq p h) hi rfl ((vArith_iff _).mpr hf)
    rw [vVals_eq, List.map_map, treeSum_lanes hf] at hr
    exact hr
  case format =>
    have hf := vArith_eq_false h9 h10
    exact ⟨fun hi => exec_vecIssue_format hi (by decide) rfl hf, fun hi => exec_vecIssue_format hi (by decide) rfl hf⟩
end

section
/-! SUPPORT. The conversions of the vector class (R68 to R71, R81 to R83, R85 to R87): the codes that VCVN packs, what each instruction
writes, and the statement. -/

namespace Sys2Proof.Machine

/-! ### The bytes of a conversion's codes -/

theorem leNat_lt (bs : List Byte) : leNat bs < 2 ^ (8 * bs.length) := by
  induction bs with
  | nil => exact Nat.one_pos
  | cons b bs ih =>
    have hb := b.isLt
    have hpow : 2 ^ (8 * (b :: bs).length) = 256 * 2 ^ (8 * bs.length) := by
      rw [List.length_cons, Nat.mul_succ, Nat.pow_add, Nat.mul_comm]
    rw [leNat, hpow]
    omega

theorem codeBytes_length (n : Nat) (l : List (Nat × Nat)) : (codeBytes n l).length = l.length * n := by
  unfold codeBytes
  induction l with
  | nil => simp
  | cons x l ih => rw [List.flatMap_cons, List.length_append, toLe_length, ih, List.length_cons, Nat.succ_mul, Nat.add_comm]

/-- Two codes of FP4 share a byte. -/
theorem packNibbles_length (l : List (Nat × Nat)) : (packNibbles l).length ≤ l.length := by
  induction l using packNibbles.induct with
  | case1 a b l ih =>
    rw [packNibbles, List.length_cons, List.length_cons, List.length_cons]
    omega
  | case2 a => rfl
  | case3 => rfl

theorem convMx_length (fp4 : Bool) (vs : List FV) : (convMx fp4 vs).2.1.length = vs.length := by
  unfold convMx
  dsimp only
  split
  · exact List.length_map _
  · split
    · exact List.length_map _
    · exact List.length_map _

theorem convSfp16_length (sat : Bool) (vs : List FV) : (convSfp16 sat vs).2.1.length = vs.length := by
  unfold convSfp16
  split
  · exact List.length_map _
  · exact List.length_map _

/-! ### VCVN -/

/-- The scale, the codes and the flags that VCVN makes of its values (R68 to R71). -/
def vcvnCodes (fmt : Nat) (vs : List FV) : Nat × List (Nat × Nat) × Nat :=
  if fmt = 7 then convSfp16 false vs else if isMx fmt then convMx (fmt == 3) vs else (0, vs.map (convElem fmt false), 0)

/-- The bytes of the codes. -/
def vcvnBytes (fmt : Nat) (l : List (Nat × Nat)) : List Byte := if fmt = 3 then packNibbles l else codeBytes (narrowBits fmt / 8) l

/-- The low byte of a vector register. -/
def setLowByte (d : Hand) (r b : Nat) : Hand :=
  d.setVreg r (BitVec.ofNat 512 ((d.vreg r).toNat - (d.vreg r).toNat % 256 + b % 256))

/-- A state that has counted saturated values (Table 3.10). -/
def countSats (s : State) (p n : Nat) : State := if n = 0 then s else s.pinCountBy p 0x2160 2 8 n

/-- The hand after VCVN has left its bytes in VD, for SFP16 also in the register after it, and its scale in VC; bytes of VD above them
are those of `o`. -/
def vcvnHand (d : Hand) (w : W64) (fmt scale : Nat) (bytes : List Byte) (o : W512) : Hand :=
  let d1 := d.setVreg (fld w 47 5) (lowBits (8 * min 64 bytes.length) (leNat (bytes.take 64)) o)
  let d2 := if fmt = 7 then d1.setVreg ((fld w 47 5 + 1) % 32) (BitVec.ofNat 512 (leNat (bytes.drop 64))) else d1
  if fmt = 7 || isMx fmt then setLowByte d2 (fld w 32 5) scale else d2

/-- VCVN with the scale, the codes and the flags of its values. -/
def vcvnEnds (t : State) (p h : Nat) (w : W64) (fmt : Nat) (r : Nat × List (Nat × Nat) × Nat) : IssueRes :=
  let q := (countSats t p (satCount r.2.1)).draw 512
  .done (q.2.setHand p h (vcvnHand (q.2.hand p h) w fmt r.1 (vcvnBytes fmt r.2.1) q.1))

/-- VCVN: what is reserved, then the format, then its values are converted. -/
def vcvnBody (p h : Nat) (t : State) (d : Hand) (w : W64) (fmt : Nat) : IssueRes :=
  if !isMx fmt && fld w 37 5 ≠ 0 then .fault fIllegal
  else if 8 ≤ fmt then .fault fFormat
  else vcvnEnds t p h w fmt (vcvnCodes fmt (vcvnIn d w fmt))

theorem exec_vcvn_eq (p h : Nat) (s : State) : exec (.vcvn p h) s = .next (vecIssue s p h 0x6D (fun _ => true) (vcvnBody p h)) := rfl

section
variable {s t : State} {p h : Nat}

theorem IssuingIn.pinCountBy (ht : IssuingIn s t p h) (i j k n : Nat) :
    IssuingIn (s.pinCountBy p i j k n) (t.pinCountBy p i j k n) p h := by
  obtain ⟨hframe, hothers, hpin⟩ := ht
  refine ⟨?_, fun r hr => ?_, ?_⟩
  · exact congrArg (fun u : State => { u.bumpBy i j n with pinions := (s.pinCountBy p i j k n).pinions }) hframe
  · rw [pin_pinCountBy_ne _ _ _ _ _ hr, pin_pinCountBy_ne _ _ _ _ _ hr, hothers r hr]
  · rw [pin_pinCountBy_same, pin_pinCountBy_same, hpin]
    rfl

theorem IssuingIn.countSats (ht : IssuingIn s t p h) (n : Nat) : IssuingIn (countSats s p n) (countSats t p n) p h := by
  unfold Machine.countSats
  split
  · exact ht
  · exact ht.pinCountBy _ _ _ _

theorem countSats_free (s : State) (p n : Nat) : (countSats s p n).free = s.free := by
  unfold countSats
  split
  · rfl
  · rfl

theorem countSats_hand (s : State) (p n h : Nat) : (countSats s p n).hand p h = s.hand p h := by
  unfold countSats
  split
  · rfl
  · exact hand_pinCountBy _ _ _ _ _ _ _

end

/-- The state after a conversion: its saturated values counted, and open bits drawn. -/
def converted (s : State) (p : Nat) (l : List (Nat × Nat)) : State := { countSats s p (satCount l) with free := s.free + 1 }

section
variable {t : State} {p h : Nat} {d : Hand} {w : W64} {fmt : Nat}

theorem vcvnBody_reserved (hmx : isMx fmt = false) (hb : fld w 37 5 ≠ 0) : vcvnBody p h t d w fmt = .fault fIllegal :=
  if_pos (by simp [hmx, hb])

theorem vcvnBody_unreserved (hb : isMx fmt = true ∨ fld w 37 5 = 0) : vcvnBody p h t d w fmt =
    if 8 ≤ fmt then .fault fFormat else vcvnEnds t p h w fmt (vcvnCodes fmt (vcvnIn d w fmt)) := by
  refine if_neg ?_
  rcases hb with hb | hb
  · simp [hb]
  · simp [hb]

end

section
variable {s : State} {p h : Nat} {w : W64}

theorem runsOn_vcvn {r : Nat × List (Nat × Nat) × Nat} (hi : Issues s p h 0x6D w) (hb : isMx (fld w 52 4) = true ∨ fld w 37 5 = 0)
    (hf : fld w 52 4 < 8) (hr : vcvnCodes (fld w 52 4) (vcvnIn (s.hand p h) w (fld w 52 4)) = r) : ∃ o : W512,
      RunsOn (.vcvn p h) s (converted s p r.2.1) p h (vcvnHand (s.hand p h) w (fld w 52 4) r.1 (vcvnBytes (fld w 52 4) r.2.1) o) := by
  have hdraw := ((issuingIn_issuing s p h).countSats (satCount r.2.1)).draw 512
  have hhand := (hdraw.hand h).trans (countSats_hand s p (satCount r.2.1) h)
  rw [countSats_free] at hdraw
  refine ⟨((countSats (issuing s p h) p (satCount r.2.1)).draw 512).1,
    runsOn_setHandIn hi (exec_vcvn_eq p h s) hdraw ((if_pos rfl).trans ?_)⟩
  rw [vcvnBody_unreserved hb, if_neg (Nat.not_le.mpr hf), hr, vcvnEnds, ← hhand]

end

/-! ### The values, the bytes and the hand in each of VCVN's three cases -/

section
variable {d : Hand} {w : W64} {fmt : Nat}

theorem vcvnIn_plain (h7 : fmt ≠ 7) (hmx : isMx fmt = false) : vcvnIn d w fmt = vVals 9 (d.vreg (fld w 42 5)) := by
  simp [vcvnIn, h7, hmx]

theorem vcvnIn_mx (h7 : fmt ≠ 7) (hmx : isMx fmt = true) :
    vcvnIn d w fmt = vVals 9 (d.vreg (fld w 42 5)) ++ vVals 9 (d.vreg (fld w 37 5)) := by
  simp [vcvnIn, h7, hmx]

/-- An SFP16 block comes from four registers; the one after v31 is v0 (log 21). -/
theorem vcvnIn_sfp16 : vcvnIn d w 7 = [0, 1, 2, 3].flatMap (fun i => vVals 9 (d.vreg ((fld w 42 5 + i) % 32))) := by
  have hva : (fld w 42 5 + 0) % 32 = fld w 42 5 := Nat.mod_eq_of_lt (Nat.mod_lt _ (by decide))
  simp only [vcvnIn, List.flatMap_cons, List.flatMap_nil, hva]
  rfl

theorem lowBits_all (x : Nat) (o : W512) : lowBits 512 x o = BitVec.ofNat 512 x := by
  rw [lowBits, Nat.shiftRight_eq_div_pow, Nat.div_eq_of_lt o.isLt, Nat.zero_shiftLeft, Nat.add_zero]

variable {bytes : List Byte} (scale : Nat) (o : W512)

theorem vcvnHand_plain (h7 : fmt ≠ 7) (hmx : isMx fmt = false) (hlen : bytes.length ≤ 64) : vcvnHand d w fmt scale bytes o =
    d.setVreg (fld w 47 5) (lowBits (8 * bytes.length) (leNat bytes) o) := by
  simp [vcvnHand, h7, hmx, Nat.min_eq_right hlen, List.take_of_length_le hlen]

theorem vcvnHand_mx (h7 : fmt ≠ 7) (hmx : isMx fmt = true) (hlen : bytes.length ≤ 64) : vcvnHand d w fmt scale bytes o =
    setLowByte (d.setVreg (fld w 47 5) (lowBits (8 * bytes.length) (leNat bytes) o)) (fld w 32 5) scale := by
  simp [vcvnHand, h7, hmx, Nat.min_eq_right hlen, List.take_of_length_le hlen]

theorem vcvnHand_sfp16 (hlen : 64 ≤ bytes.length) : vcvnHand d w 7 scale bytes o =
    setLowByte ((d.setVreg (fld w 47 5) (BitVec.ofNat 512 (leNat (bytes.take 64)))).setVreg ((fld w 47 5 + 1) % 32)
      (BitVec.ofNat 512 (leNat (bytes.drop 64)))) (fld w 32 5) scale := by
  simp [vcvnHand, Nat.min_eq_left hlen, lowBits_all]

end

/-- Bytes that VD holds whole stand in its low bits. -/
theorem lowBits_bytes {bytes : List Byte} (o : W512) (hlen : bytes.length ≤ 64) :
    (lowBits (8 * bytes.length) (leNat bytes) o).toNat % 2 ^ (8 * bytes.length) = leNat bytes :=
  lowBits_mod o (by omega) (leNat_lt bytes)

section
variable {s : State} {p h : Nat} {w : W64}

/-- The narrow formats without a block scale. -/
theorem plain_formats : ∀ fmt ∈ [0, 1, 4, 5, 6], fmt < 8 ∧ fmt ≠ 7 ∧ fmt ≠ 3 ∧ isMx fmt = false ∧ narrowBits fmt / 8 ≤ 2 := by
  decide

/-- VCVN to a format without a block scale: 16 codes of one or two bytes. -/
theorem runsOn_vcvn_plain (hi : Issues s p h 0x6D w) (hfmt : fld w 52 4 ∈ [0, 1, 4, 5, 6]) (hb : fld w 37 5 = 0) :
    let codes := (vVals 9 ((s.hand p h).vreg (fld w 42 5))).map (convElem (fld w 52 4) false)
    let n := narrowBits (fld w 52 4) / 8
    ∃ v : W512, v.toNat % 2 ^ (8 * (16 * n)) = leNat (codeBytes n codes) % 2 ^ (8 * (16 * n)) ∧
      RunsOn (.vcvn p h) s (converted s p codes) p h ((s.hand p h).setVreg (fld w 47 5) v) := by
  intro codes n
  obtain ⟨hlt, h7, h3, hmx, hn⟩ := plain_formats _ hfmt
  have hcodes : vcvnCodes (fld w 52 4) (vcvnIn (s.hand p h) w (fld w 52 4)) = (0, codes, 0) := by
    rw [vcvnIn_plain h7 hmx, vcvnCodes, if_neg h7, hmx]
    rfl
  have hlen : (codeBytes n codes).length = 16 * n := by rw [codeBytes_length, List.length_map, vVals_length]; rfl
  have hle : (codeBytes n codes).length ≤ 64 := by omega
  obtain ⟨o, hruns⟩ := runsOn_vcvn hi (.inr hb) hlt hcodes
  rw [vcvnBytes, if_neg h3, vcvnHand_plain _ _ h7 hmx hle] at hruns
  refine ⟨_, ?_, hruns⟩
  rw [← hlen, lowBits_bytes o hle, Nat.mod_eq_of_lt (leNat_lt _)]

/-- VCVN to an MX format: 32 codes and their scale. -/
theorem runsOn_vcvn_mx (hi : Issues s p h 0x6D w) (hfmt : fld w 52 4 = 2 ∨ fld w 52 4 = 3) :
    let r := convMx (fld w 52 4 == 3) (vVals 9 ((s.hand p h).vreg (fld w 42 5)) ++ vVals 9 ((s.hand p h).vreg (fld w 37 5)))
    let bytes := if fld w 52 4 = 3 then packNibbles r.2.1 else codeBytes 1 r.2.1
    ∃ v : W512, v.toNat % 2 ^ (8 * bytes.length) = leNat bytes ∧
      RunsOn (.vcvn p h) s (converted s p r.2.1) p h (setLowByte ((s.hand p h).setVreg (fld w 47 5) v) (fld w 32 5) r.1) := by
  intro r bytes
  have hmx : isMx (fld w 52 4) = true := by rcases hfmt with h | h <;> rw [h] <;> rfl
  have h7 : fld w 52 4 ≠ 7 := by omega
  have hcodes : vcvnCodes (fld w 52 4) (vcvnIn (s.hand p h) w (fld w 52 4)) = r := by
    rw [vcvnIn_mx h7 hmx, vcvnCodes, if_neg h7, if_pos hmx]
  have hbytes : vcvnBytes (fld w 52 4) r.2.1 = bytes := by
    rcases hfmt with h | h <;> simp only [vcvnBytes, bytes, h] <;> rfl
  have hr : r.2.1.length = 32 := by rw [convMx_length, List.length_append, vVals_length, vVals_length]; rfl
  have hle : bytes.length ≤ 64 := by
    have hp := packNibbles_length r.2.1
    have hc := codeBytes_length 1 r.2.1
    dsimp only [bytes]
    split <;> omega
  obtain ⟨o, hruns⟩ := runsOn_vcvn hi (.inl hmx) (by omega) hcodes
  rw [hbytes, vcvnHand_mx _ _ h7 hmx hle] at hruns
  exact ⟨_, lowBits_bytes o hle, hruns⟩

/-- VCVN to SFP16: 64 codes fill VD and the register after it. -/
theorem runsOn_vcvn_sfp16 (hi : Issues s p h 0x6D w) (hfmt : fld w 52 4 = 7) (hb : fld w 37 5 = 0) :
    let r := convSfp16 false ([0, 1, 2, 3].flatMap (fun i => vVals 9 ((s.hand p h).vreg ((fld w 42 5 + i) % 32))))
    RunsOn (.vcvn p h) s (converted s p r.2.1) p h (setLowByte (((s.hand p h).setVreg (fld w 47 5)
      (BitVec.ofNat 512 (leNat ((codeBytes 2 r.2.1).take 64)))).setVreg ((fld w 47 5 + 1) % 32)
        (BitVec.ofNat 512 (leNat ((codeBytes 2 r.2.1).drop 64)))) (fld w 32 5) r.1) := by
  intro r
  have hcodes : vcvnCodes (fld w 52 4) (vcvnIn (s.hand p h) w (fld w 52 4)) = r := by
    rw [hfmt, vcvnIn_sfp16]
    rfl
  have hr : r.2.1.length = 64 := by rw [convSfp16_length, List.length_flatMap]; simp only [vVals_length]; rfl
  have hlen : 64 ≤ (codeBytes 2 r.2.1).length := by rw [codeBytes_length, hr]; decide
  obtain ⟨o, hruns⟩ := runsOn_vcvn hi (.inr hb) (by omega) hcodes
  rw [hfmt] at hruns
  rw [← vcvnHand_sfp16 r.1 o hlen]
  exact hruns

end

/-! ### The other conversions -/

section
variable {s : State} {p h : Nat} {w : W64}

theorem runsOn_vcvt (hi : Issues s p h 0x6C w) (hf : fld w 52 4 < 8) : RunsOn (.vcvt p h) s s p h ((s.hand p h).setVreg (fld w 47 5)
    (ofLanes 32 (((lanes (narrowBits (fld w 52 4)) ((s.hand p h).vreg (fld w 42 5))).take 16).map
      (fun x => enc32 (decElem (fld w 52 4) x))))) :=
  runsOn_vecIssue hi rfl (decide_eq_true hf) rfl

theorem runsOn_vcvf_wide (hi : Issues s p h 0x6E w) (hfn : fld w 16 1 = 0) : RunsOn (.vcvf p h) s s p h
    ((s.hand p h).setVreg (fld w 47 5) (ofLanes 64 (((lanes 32 ((s.hand p h).vreg (fld w 42 5))).take 8).map (fun x => enc64 (dec32 x))))) :=
  runsOn_vDone hi rfl (if_pos hfn)

/-- VSEX and VSPL: with FN 0 and lanes for which R85 states a result (`ok`), it stands in the low `n` bits of VD; else all of VD is open. -/
theorem runsOn_vDoneLow_stated {c : Instr} {row n v : Nat} {ok : Bool} {body : State → Hand → W64 → IssueRes} (hi : Issues s p h row w)
    (he : exec c s = .next (s.issueAs p h row body)) (hn : n ≤ 512) (hb : body (issuing s p h) (s.hand p h) w =
      if fld w 16 4 = 0 && ok then vDoneLow (issuing s p h) p h w n v else vDoneLow (issuing s p h) p h w 0 0) : ∃ x : W512,
      (fld w 16 4 = 0 → ok = true → x.toNat % 2 ^ n = v % 2 ^ n) ∧
        RunsOn c s { s with free := s.free + 1 } p h ((s.hand p h).setVreg (fld w 47 5) x) := by
  by_cases hok : (decide (fld w 16 4 = 0) && ok) = true
  · obtain ⟨x, hx, hruns⟩ := runsOn_vDoneLow hi he hn (hb.trans (if_pos hok))
    exact ⟨x, fun _ _ => hx, hruns⟩
  · obtain ⟨x, -, hruns⟩ := runsOn_vDoneLow hi he (Nat.zero_le _) (hb.trans (if_neg hok))
    exact ⟨x, fun hfn h => absurd (Bool.and_eq_true_iff.mpr ⟨decide_eq_true hfn, h⟩) hok, hruns⟩

theorem getD_lanes (n : Nat) (v : W512) {i : Nat} (hi : i < 512 / n) : (lanes n v).getD i 0 = fld v (n * i) n := by
  rw [lanes, getD_map_range _ hi, Nat.mul_comm]

theorem runsOn_vrec (hi : Issues s p h 0x76 w) : RunsOn (.vrec p h) s s p h ((s.hand p h).setVreg (fld w 47 5)
    (ofLanes 64 ((List.range 8).map (fun i =>
      let x := FV.ofInt (sInt 32 (fld ((s.hand p h).vreg (fld w 42 5)) (32 * (8 * fld w 16 1 + i)) 32))
      let y := sInt 32 (fld ((s.hand p h).vreg (fld w 37 5)) (32 * (8 * fld w 16 1 + i)) 32) + sInt 16 (fld w 0 16)
      enc64 ((dec64 (fld ((s.hand p h).vreg (fld w 32 5)) (64 * i) 64)).add (x.scale (clampI (-4000) 4000 y))))))) := by
  refine runsOn_vDone hi rfl (congrArg (fun l => vDone (issuing s p h) p h w (ofLanes 64 l)) (List.map_congr_left fun i hi => ?_))
  have hhalf : fld w 16 1 < 2 := Nat.mod_lt _ (by decide)
  have hlane := List.mem_range.mp hi
  rw [getD_lanes 32 _ (by omega), getD_lanes 32 _ (by omega), getD_vVals 10 _ hlane, Nat.mul_comm 64]
  rfl

/-- Where the record of a user activation entry stands. -/
def actRecord (d : Hand) (w : W64) : Nat := d.seteb.toNat + 0x1000 + (fld w 0 8 - 16) * 256

/-- VACT with what it makes of a lane. -/
def vactEnds (t : State) (p h : Nat) (d : Hand) (w : W64) (f : Nat → Nat) : IssueRes :=
  vDone t p h w (ofLanes 32 ((lanes 32 (vSrc d w 42)).map f))

/-- VACT: a reserved entry, then a record out of bounds, then the activation. -/
def vactBody (p h : Nat) (t : State) (d : Hand) (w : W64) : IssueRes :=
  if 7 ≤ fld w 0 8 && decide (fld w 0 8 < 16) then .fault fIllegal
  else if 16 ≤ fld w 0 8 && !State.inData (actRecord d w) 256 then .fault fAddr
  else vactEnds t p h d w (fun x => if 16 ≤ fld w 0 8 then actUser (t.rdData p (actRecord d w) 256) x else actBuiltin (fld w 0 8) x)

theorem exec_vact_eq (p h : Nat) (s : State) : exec (.vact p h) s = .next (s.issueAs p h 0x78 (vactBody p h)) := rfl

section
variable {t : State} {d : Hand}

theorem vactBody_builtin (he : fld w 0 8 < 7) : vactBody p h t d w = vactEnds t p h d w (actBuiltin (fld w 0 8)) := by
  have h16 : ¬ 16 ≤ fld w 0 8 := by omega
  simp [vactBody, he, h16]

theorem vactBody_reserved (hlo : 7 ≤ fld w 0 8) (hhi : fld w 0 8 < 16) : vactBody p h t d w = .fault fIllegal :=
  if_pos (by simp [hlo, hhi])

theorem vactBody_user (he : 16 ≤ fld w 0 8) : vactBody p h t d w =
    if actRecord d w + 256 ≤ 0x14000 then vactEnds t p h d w (actUser (t.rdData p (actRecord d w) 256)) else .fault fAddr := by
  have hlt : ¬ fld w 0 8 < 16 := by omega
  by_cases ha : actRecord d w + 256 ≤ 0x14000
  · simp [vactBody, he, hlt, ha, State.inData, daSize]
  · simp [vactBody, he, hlt, ha, State.inData, daSize]

end

theorem runsOn_vact {f : Nat → Nat} (hi : Issues s p h 0x78 w)
    (hb : vactBody p h (issuing s p h) (s.hand p h) w = vactEnds (issuing s p h) p h (s.hand p h) w f) :
    RunsOn (.vact p h) s s p h ((s.hand p h).setVreg (fld w 47 5) (ofLanes 32 ((lanes 32 ((s.hand p h).vreg (fld w 42 5))).map f))) :=
  runsOn_vDone hi (exec_vact_eq p h s) hb

end

end Sys2Proof.Machine

open Sys2Proof Sys2Proof.Machine

/-- Settles O27: each instruction by what it writes, VCVN in its three cases, and the words that they refuse. -/
theorem vectorConversions : Obligations.VectorConversions := by
  refine ⟨fun s p h w => ?conversions, fun s p h w hi => ⟨fun hf => ?_, fun h9 h10 => ?_⟩⟩
  case conversions =>
    refine ⟨runsOn_vcvt, fun hi hf => ?_, runsOn_vcvf_wide, fun hi hfn => ?_, fun hi => ?_, fun hi => ?_, runsOn_vrec,
      fun hi => ⟨fun he => ?_, fun hlo hhi => ?_, fun he ha => ?_, fun he ha => ?_⟩,
      fun hi => ⟨runsOn_vcvn_plain hi, runsOn_vcvn_mx hi, runsOn_vcvn_sfp16 hi, fun h2 h3 hb => ?_, fun hf hb => ?_⟩⟩
    · exact exec_vecIssue_format hi (by decide) rfl (decide_eq_false (Nat.not_lt.mpr hf))
    · exact runsOn_vDoneLow hi rfl (by decide) (if_neg (by omega))
    · exact runsOn_vDoneLow_stated (c := .vsex p h) (n := 32) hi rfl (by decide) rfl
    · exact runsOn_vDoneLow_stated (c := .vspl p h) (n := 64) hi rfl (by decide) rfl
    · exact runsOn_vact hi (vactBody_builtin he)
    · exact exec_fault hi (by decide) (exec_vact_eq p h s) (vactBody_reserved hlo hhi)
    · exact runsOn_vact hi ((vactBody_user he).trans (if_pos ha))
    · exact exec_fault hi (by decide) (exec_vact_eq p h s) ((vactBody_user he).trans (if_neg (Nat.not_le.mpr ha)))
    · exact exec_fault hi (by decide) (exec_vcvn_eq p h s) ((if_pos rfl).trans (vcvnBody_reserved (by simp [isMx, h2, h3]) hb))
    · exact exec_fault hi (by decide) (exec_vcvn_eq p h s) ((if_pos rfl).trans ((vcvnBody_unreserved (.inr hb)).trans (if_pos hf)))
  · exact runsOn_vReduce (c := .vramx p h) hi rfl ((vArith_iff _).mpr hf)
  · exact exec_vecIssue_format hi (by decide) rfl (vArith_eq_false h9 h10)
end

section
/-! SUPPORT. The drain of a tile (R45, R47, R72 to R79): the issue of DRN, the order in which the epilogue serves, and the statement. -/

namespace Sys2Proof.Machine

/-! ### DRN -/

/-- Where the descriptor that a DRN names stands in the data area. -/
def drnEpi (d : Hand) (w : W64) : Nat := d.seteb.toNat + fld w 48 6 * 64

/-- The output address of a DRN. -/
def drnOut (d : Hand) (w : W64) : Nat := regOff d (fld w 44 4) (fld w 36 8) 64

/-- The descriptor that a DRN reads. -/
def drnDesc (t : State) (p : Nat) (d : Hand) (w : W64) : EpiDesc := epiDesc (t.rdData p (drnEpi d w) 64)

/-- The channel base that the descriptor names. -/
def drnChan (t : State) (p : Nat) (d : Hand) (w : W64) : W32 := d.sreg ((drnDesc t p d w).chReg % 16)

/-- The addresses of the descriptor fail their checks (R74). -/
def drnBadAddr (t : State) (p : Nat) (d : Hand) (w : W64) : Bool :=
  (drnDesc t p d w).badAddr d.seteb.toNat (drnChan t p d w).toNat (drnOut d w)

/-- The drain that a DRN queues, with what it has read (R73). -/
def drnDrain (t : State) (p h : Nat) (d : Hand) (w : W64) (post : Option Nat) : Drain :=
  { hand := h, epi := drnEpi d w, chan := drnChan t p d w, out := drnOut d w, post := post,
    desc := t.rdData p (drnEpi d w) 64 ++ toLe 4 d.seteb.toNat ++
      drainReads t p (drnDesc t p d w) d.seteb.toNat (drnChan t p d w).toNat }

/-- The state in which the drain stands at tile (a, b) of the pinion `x`, and has asked for the epilogue if no pass keeps it. -/
def drnQueued (t : State) (p a b : Nat) (x : Pinion) (dr : Drain) : State :=
  t.setPin p { requestDrain (x.setTile a b { x.tile a b with drain := some dr }) a b x.stamp with stamp := x.stamp + 1 }

/-- DRN at a held tile without a drain: the descriptor's place, its values and its addresses are checked in this order. -/
def drnAtTile (t : State) (p h : Nat) (d : Hand) (w : W64) (x : Pinion) (post : Option Nat) : IssueRes :=
  if !State.inData (drnEpi d w) 64 then .fault fAddr
  else if (drnDesc t p d w).illegal then .fault fIllegal
  else if drnBadAddr t p d w then .fault fAddr
  else .done (drnQueued t p (fld w 55 1) (fld w 54 1) x (drnDrain t p h d w post))

/-- DRN once its post field is good: the state of the tile comes before the descriptor (log 18). -/
def drnOnPinion (t : State) (p h : Nat) (d : Hand) (w : W64) (x : Pinion) (post : Option Nat) : IssueRes :=
  if (x.tile (fld w 55 1) (fld w 54 1)).drain.isSome then interlockWait t p d
  else if !(x.tile (fld w 55 1) (fld w 54 1)).held then .fault fTileEmpty
  else drnAtTile t p h d w x post

/-- DRN, with its post field. -/
def drnBody (p h : Nat) (t : State) (d : Hand) (w : W64) : IssueRes :=
  match postField t p d (Nat.testBit w.toNat 29) (fld w 11 18) (fld w 9 2) with
  | .error c => .fault c
  | .ok post => drnOnPinion t p h d w (t.pin p) post

theorem exec_drn_eq (p h : Nat) (s : State) : exec (.drn p h) s = .next (s.issueAs p h 0xA0 (drnBody p h)) := rfl

section
variable {s : State} {p h : Nat} {d : Hand} {w : W64}

theorem drnBody_error {c : Nat} (hpost : postField s p d (Nat.testBit w.toNat 29) (fld w 11 18) (fld w 9 2) = .error c) :
    drnBody p h (issuing s p h) d w = .fault c := by
  rw [drnBody, postField_issuing, hpost]

theorem drnBody_ok {post : Option Nat} (hpost : postField s p d (Nat.testBit w.toNat 29) (fld w 11 18) (fld w 9 2) = .ok post) :
    drnBody p h (issuing s p h) d w = drnOnPinion (issuing s p h) p h d w { s.pin p with cur := h } post := by
  rw [drnBody, postField_issuing, hpost, pin_issuing]

end

section
variable {t : State} {p h : Nat} {d : Hand} {w : W64} {x : Pinion} {post : Option Nat}

theorem drnOnPinion_drains (hd : (x.tile (fld w 55 1) (fld w 54 1)).drain ≠ none) :
    drnOnPinion t p h d w x post = interlockWait t p d := if_pos (Option.isSome_iff_ne_none.mpr hd)

theorem drnOnPinion_noDrain (hd : (x.tile (fld w 55 1) (fld w 54 1)).drain = none) : drnOnPinion t p h d w x post =
    if (x.tile (fld w 55 1) (fld w 54 1)).held then drnAtTile t p h d w x post else .fault fTileEmpty := by
  unfold drnOnPinion
  rw [if_neg (by rw [hd]; exact Bool.noConfusion)]
  cases (x.tile (fld w 55 1) (fld w 54 1)).held <;> rfl

theorem not_inData_iff (a n : Nat) : (!State.inData a n) = true ↔ 0x14000 < a + n := by
  rw [Bool.not_eq_true', State.inData, decide_eq_false_iff_not, Nat.not_le]
  rfl

theorem drnAtTile_outside (ha : 0x14000 < drnEpi d w + 64) : drnAtTile t p h d w x post = .fault fAddr :=
  if_pos ((not_inData_iff _ _).mpr ha)

theorem drnAtTile_inside (ha : drnEpi d w + 64 ≤ 0x14000) : drnAtTile t p h d w x post =
    if (drnDesc t p d w).illegal then .fault fIllegal
    else if drnBadAddr t p d w then .fault fAddr
    else .done (drnQueued t p (fld w 55 1) (fld w 54 1) x (drnDrain t p h d w post)) :=
  if_neg (mt (not_inData_iff _ _).mp (Nat.not_lt.mpr ha))

theorem drnAtTile_legal (ha : drnEpi d w + 64 ≤ 0x14000) (hl : (drnDesc t p d w).illegal = false) : drnAtTile t p h d w x post =
    if drnBadAddr t p d w then .fault fAddr
    else .done (drnQueued t p (fld w 55 1) (fld w 54 1) x (drnDrain t p h d w post)) :=
  (drnAtTile_inside ha).trans (if_neg (ne_true_of_eq_false hl))

end

/-! ### Which drain the epilogue serves (R47) -/

/-- The earlier of two stamps is at or before each of them. -/
theorem minStamp_le {a b : Option Nat} {m : Nat} (h : a = some m ∨ b = some m) : ∃ k, minStamp a b = some k ∧ k ≤ m := by
  rcases h with rfl | rfl
  · cases b with
    | none => exact ⟨m, rfl, le_rfl⟩
    | some y => exact ⟨min m y, rfl, Nat.min_le_left m y⟩
  · cases a with
    | none => exact ⟨m, rfl, le_rfl⟩
    | some x => exact ⟨min x m, rfl, Nat.min_le_right x m⟩

/-- The earliest stamp at which a tile of an array has asked for the epilogue. -/
def arrayStamp (x : Pinion) (a : Nat) : Option Nat := minStamp (requestOf x a 0) (requestOf x a 1)

/-- The earliest stamp at which a tile of a pinion has asked. -/
def firstStamp (x : Pinion) : Option Nat := minStamp (arrayStamp x 0) (arrayStamp x 1)

theorem firstStamp_eq (x : Pinion) :
    minStamp (minStamp (requestOf x 0 0) (requestOf x 0 1)) (minStamp (requestOf x 1 0) (requestOf x 1 1)) = firstStamp x := rfl

theorem arrayStamp_le {x : Pinion} {a b m : Nat} (hb : b < 2) (hm : requestOf x a b = some m) : ∃ k, arrayStamp x a = some k ∧ k ≤ m := by
  obtain rfl | rfl : b = 0 ∨ b = 1 := by omega
  · exact minStamp_le (.inl hm)
  · exact minStamp_le (.inr hm)

/-- No tile has asked before the earliest stamp. -/
theorem firstStamp_le {x : Pinion} {n m a b : Nat} (hn : firstStamp x = some n) (ha : a < 2) (hb : b < 2) (hm : requestOf x a b = some m) :
    n ≤ m := by
  obtain ⟨k, hk, hkm⟩ := arrayStamp_le hb hm
  have hfirst : ∃ l, firstStamp x = some l ∧ l ≤ k := by
    obtain rfl | rfl : a = 0 ∨ a = 1 := by omega
    · exact minStamp_le (.inl hk)
    · exact minStamp_le (.inr hk)
  obtain ⟨l, hl, hlk⟩ := hfirst
  obtain rfl := Option.some.inj (hn.symm.trans hl)
  exact hlk.trans hkm

/-- A bank that is chosen at a stamp has asked at it. -/
theorem requestOf_bankAt {x : Pinion} {a b n : Nat} (h : bankAt x a n = some b) : requestOf x a b = some n := by
  unfold bankAt at h
  dsimp only at h
  split at h
  case isTrue hc =>
    obtain rfl := Option.some.inj h
    exact beq_iff_eq.mp (Bool.and_eq_true_iff.mp hc).1
  case isFalse hc =>
    split at h
    case isTrue hc =>
      obtain rfl := Option.some.inj h
      exact beq_iff_eq.mp hc
    case isFalse => cases h

/-- The tile that is served is the choice of its array at the earliest stamp. -/
theorem nextDrain_bankAt {x y : Pinion} {a b : Nat} (h : nextDrain x = some (a, b, y)) :
    ∃ n, firstStamp x = some n ∧ bankAt x a n = some b := by
  rw [nextDrain, firstStamp_eq] at h
  cases hn : firstStamp x with
  | none =>
    rw [hn] at h
    cases h
  | some n =>
    rw [hn] at h
    dsimp only at h
    split at h
    case h_1 c hc =>
      cases h
      exact ⟨n, rfl, hc⟩
    case h_2 =>
      obtain ⟨c, hc, he⟩ := Option.map_eq_some_iff.mp h
      cases he
      exact ⟨n, rfl, hc⟩

/-- The epilogue serves a request that none precedes. -/
theorem nextDrain_earliest {x y : Pinion} {a b : Nat} (h : nextDrain x = some (a, b, y)) : ∃ n, requestOf x a b = some n ∧
    ∀ a' b' m, a' < 2 → b' < 2 → requestOf x a' b' = some m → n ≤ m := by
  obtain ⟨n, hn, hb⟩ := nextDrain_bankAt h
  exact ⟨n, requestOf_bankAt hb, fun _ _ _ => firstStamp_le hn⟩

/-! ### EPILOGUE_SERVICE -/

/-- The state that the outputs of the drain `d` of tile (a, b) leave: as R72 to R79 say while what it read at its issue still stands,
and open where that has changed (R73). -/
def drainServed (t : State) (p : Nat) (tile : Tile) (d : Drain) : State :=
  let eb := leNat ((d.desc.drop 64).take 4)
  let e := epiDesc (t.rdData p d.epi 64)
  if t.rdData p d.epi 64 ++ toLe 4 eb ++ drainReads t p e eb d.chan.toNat = d.desc then serveDrain t p tile d e eb
  else openDrain t p tile e (epiDesc d.desc).pair d.chan.toNat d.out

theorem exec_epilogueService {s : State} {p a b : Nat} {x : Pinion} {d : Drain} (hon : engineOn s p = true) (hwork : s.mayWork p 2 = true)
    (hn : nextDrain (s.pin p) = some (a, b, x)) (hd : (x.tile a b).drain = some d) : exec (.epilogueService p) s =
      .next (((((drainServed (s.setPin p x) p (x.tile a b) d).headDone p 2).pinMod p
        (fun y => y.setTile a b (State.emptyTile (y.tile a b)))).postOpt d.post).tryStop p) := by
  show execEpilogueService p s = _
  unfold execEpilogueService
  rw [if_pos (by rw [hon, hwork]; rfl), hn]
  dsimp only
  rw [hd]
  rfl

end Sys2Proof.Machine

open Sys2Proof Sys2Proof.Machine

/-- Settles O22: the checks of DRN in their order, the service of a drain, and which drain is served. -/
theorem drainsQueueAndServe : Obligations.DrainsQueueAndServe := by
  refine ⟨fun s p h c w hi hpost => exec_fault hi (by decide) (exec_drn_eq p h s) (drnBody_error hpost),
    fun s p h w post hi hpost => ?issue, fun s p a b x d => exec_epilogueService, fun x y a b => nextDrain_earliest⟩
  case issue =>
    intro d x a b eb epi out bytes e c
    have hbody : drnBody p h (issuing s p h) (s.hand p h) w = drnOnPinion (issuing s p h) p h d w x post := drnBody_ok hpost
    refine ⟨fun hd => ?_, fun hd hh => ?_, fun hd hh => ?held⟩
    · exact exec_interlock hi (exec_drn_eq p h s) (hbody.trans (drnOnPinion_drains hd))
    · exact exec_fault hi (by decide) (exec_drn_eq p h s)
        (hbody.trans ((drnOnPinion_noDrain hd).trans (if_neg (ne_true_of_eq_false hh))))
    case held =>
      have htile := hbody.trans ((drnOnPinion_noDrain hd).trans (if_pos hh))
      refine ⟨fun ha => ?_, fun ha hl => ?_, fun ha hl hb => ?_, fun ha hl hb => ?_⟩
      · exact exec_fault hi (by decide) (exec_drn_eq p h s) (htile.trans (drnAtTile_outside ha))
      · exact exec_fault hi (by decide) (exec_drn_eq p h s) (htile.trans ((drnAtTile_inside ha).trans (if_pos hl)))
      · exact exec_fault hi (by decide) (exec_drn_eq p h s) (htile.trans ((drnAtTile_legal (t := issuing s p h) ha hl).trans (if_pos hb)))
      · exact exec_done hi (exec_drn_eq p h s)
          (htile.trans ((drnAtTile_legal (t := issuing s p h) ha hl).trans (if_neg (ne_true_of_eq_false hb))))
end

section
/-! SUPPORT. The Barrel directory and the moves to and from a Barrel (R102 to R105): what the operations of a directory keep, the order in
which BDIRs are granted, the issue of BDIR, BST and BLD, the course of their lines, and the statement. -/

namespace Sys2Proof.Machine

/-! ### Writing a key again -/

theorem fins_fins {α : Type} (m : FMap α) (i : Nat) (v w : α) : fins (fins m i v) i w = fins m i w := by
  induction m with
  | nil => simp [fins]
  | cons c m ih =>
    simp only [fins]
    split
    · simp [fins]
    · split
      · simp [fins]
      · next hlt hne => simp [fins, hlt, hne, ih]

theorem fdel_fins {α : Type} (m : FMap α) (i : Nat) (v : α) : fdel (fins m i v) i = fdel m i := by
  induction m with
  | nil => simp [fins, fdel]
  | cons c m ih =>
    simp only [fins]
    split
    · simp [fdel]
    · split
      · next heq => simp [fdel, heq]
      · simp only [fdel, List.filter_cons] at ih ⊢
        rw [ih]

/-- Of two writes at one key only the second stands, unless the first has written the default. -/
theorem fput_fput {α : Type} [DecidableEq α] {d v : α} (m : FMap α) (i : Nat) (w : α) (hv : v ≠ d) :
    fput d (fput d m i v) i w = fput d m i w := by
  unfold fput
  rw [if_neg hv, fdel_fins, fins_fins]

/-! ### The operations of a directory (R103) -/

@[simp] theorem barrelOf_setBarrel (s : State) (t2 : Nat) (b : Barrel) : barrelOf (setBarrel s t2 b) t2 = b := fget_fput_same _ _ _ _

theorem setBarrel_setBarrel {b : Barrel} (s : State) (t2 : Nat) (c : Barrel) (hb : b.waiting ≠ []) :
    setBarrel (setBarrel s t2 b) t2 c = setBarrel s t2 c := by
  have hne : b ≠ {} := fun h => hb (by rw [h])
  unfold setBarrel
  dsimp only
  rw [fput_fput _ _ _ hne]

@[simp] theorem slot_slotMod_same (b : Barrel) (i : Nat) (f : BSlot → BSlot) : (b.slotMod i f).slot i = f (b.slot i) :=
  fget_fmod_same _ _ _ _

theorem slot_slotMod_ne (b : Barrel) {i j : Nat} (f : BSlot → BSlot) (hj : j ≠ i) : (b.slotMod i f).slot j = b.slot j :=
  fget_fmod_ne _ _ _ hj

/-- An eviction takes no sequence number, and leaves the BDIRs that wait. -/
theorem evictOne_keeps (b : Barrel) (i : Nat) : (b.evictOne i).1.nextSeq = b.nextSeq ∧ (b.evictOne i).1.waiting = b.waiting := by
  unfold Barrel.evictOne
  split
  · exact ⟨rfl, rfl⟩
  · exact ⟨rfl, rfl⟩

theorem evictFor_keeps (i lines k : Nat) (b : Barrel) (n : Nat) :
    (Barrel.evictFor i lines k b n).1.nextSeq = b.nextSeq ∧ (Barrel.evictFor i lines k b n).1.waiting = b.waiting := by
  induction k generalizing b n with
  | zero => exact ⟨rfl, rfl⟩
  | succ k ih =>
    obtain ⟨hseq, hwait⟩ := evictOne_keeps b i
    obtain ⟨hseqs, hwaits⟩ := ih (b.evictOne i).1 (n + 1)
    unfold Barrel.evictFor
    dsimp only
    split
    · split
      · exact ⟨hseqs.trans hseq, hwaits.trans hwait⟩
      · exact ⟨rfl, rfl⟩
    · exact ⟨rfl, rfl⟩

/-- The directory in which an OPEN makes room: the slot's own allocation is dead. -/
def openStart (b : Barrel) (i : Nat) : Barrel :=
  Barrel.reclaim (if (b.slot i).state == 1 || (b.slot i).state == 2 then b.markDead i else b)

theorem openStart_keeps (b : Barrel) (i : Nat) : (openStart b i).nextSeq = b.nextSeq ∧ (openStart b i).waiting = b.waiting := by
  unfold openStart
  split
  · exact ⟨rfl, rfl⟩
  · exact ⟨rfl, rfl⟩

/-- The directory in which an OPEN allocates, once allocations of other slots have been evicted. -/
def openRoom (b : Barrel) (i lines : Nat) : Barrel := (Barrel.evictFor i lines 65 (openStart b i) 0).1

theorem openRoom_keeps (b : Barrel) (i lines : Nat) : (openRoom b i lines).nextSeq = b.nextSeq ∧ (openRoom b i lines).waiting = b.waiting := by
  obtain ⟨hseq, hwait⟩ := openStart_keeps b i
  obtain ⟨hseqs, hwaits⟩ := evictFor_keeps i lines 65 (openStart b i) 0
  exact ⟨hseqs.trans hseq, hwaits.trans hwait⟩

theorem openSlot_slots (b : Barrel) (i lines : Nat) : (b.openSlot i lines).1.slots = fput {} (openRoom b i lines).slots i
    (BSlot.mk 1 lines (openRoom b i lines).head (openRoom b i lines).nextSeq) := rfl

/-- What an OPEN leaves in its slot. -/
theorem openSlot_slot (b : Barrel) (i lines : Nat) : (b.openSlot i lines).1.slot i =
    BSlot.mk 1 lines (openRoom b i lines).head b.nextSeq := by
  unfold Barrel.slot
  rw [openSlot_slots, fget_fput_same, (openRoom_keeps b i lines).1]

theorem openSlot_waiting (b : Barrel) (i lines : Nat) : (b.openSlot i lines).1.waiting = b.waiting :=
  (openRoom_keeps b i lines).2

theorem commitSlot_slot (b : Barrel) (i : Nat) : ((b.commitSlot i).slot i).state =
    if (b.slot i).state = 1 then 2 else if (b.slot i).state = 4 then 3 else (b.slot i).state :=
  congrArg BSlot.state (slot_slotMod_same b i _)

theorem commitSlot_slot_ne (b : Barrel) {i j : Nat} (hj : j ≠ i) : (b.commitSlot i).slot j = b.slot j := slot_slotMod_ne b _ hj

/-- A FREE changes its slot alone, and leaves the BDIRs that wait. -/
theorem freeSlot_slots (b : Barrel) (i : Nat) : (b.freeSlot i).slots = fmod {} b.slots i (fun x => { x with state := 0 }) ∧
    (b.freeSlot i).waiting = b.waiting := by
  unfold Barrel.freeSlot
  dsimp only
  split
  · exact ⟨rfl, rfl⟩
  · exact ⟨rfl, rfl⟩

theorem freeSlot_slot (b : Barrel) (i : Nat) : ((b.freeSlot i).slot i).state = 0 := by
  unfold Barrel.slot
  rw [(freeSlot_slots b i).1, fget_fmod_same]

theorem freeSlot_slot_ne (b : Barrel) {i j : Nat} (hj : j ≠ i) : (b.freeSlot i).slot j = b.slot j := by
  unfold Barrel.slot
  rw [(freeSlot_slots b i).1, fget_fmod_ne _ _ _ hj]

/-! ### A BDIR takes effect -/

theorem applyBdir_open (s : State) (t2 i lines : Nat) : applyBdir s t2 (.openSlot i lines) =
    if ((barrelOf s t2).openSlot i lines).2.2 then
      ((setBarrel s t2 ((barrelOf s t2).openSlot i lines).1).bumpBy 0x2400 1 ((barrelOf s t2).openSlot i lines).2.1).bump 0x2400 4
    else (setBarrel s t2 ((barrelOf s t2).openSlot i lines).1).bumpBy 0x2400 1 ((barrelOf s t2).openSlot i lines).2.1 := rfl

/-- The directory that a BDIR leaves. -/
def bdirBarrel (b : Barrel) : BdirOp → Barrel
  | .openSlot i lines => (b.openSlot i lines).1
  | .commit i => b.commitSlot i
  | .free i => b.freeSlot i

theorem barrelOf_applyBdir (s : State) (t2 : Nat) (o : BdirOp) : barrelOf (applyBdir s t2 o) t2 = bdirBarrel (barrelOf s t2) o := by
  cases o with
  | openSlot i lines =>
    rw [applyBdir_open]
    split
    · exact barrelOf_setBarrel s t2 _
    · exact barrelOf_setBarrel s t2 _
  | commit i => exact barrelOf_setBarrel s t2 _
  | free i => exact barrelOf_setBarrel s t2 _

/-- A BDIR that takes effect leaves those that wait. -/
theorem waiting_applyBdir (s : State) (t2 : Nat) (o : BdirOp) : (barrelOf (applyBdir s t2 o) t2).waiting = (barrelOf s t2).waiting := by
  rw [barrelOf_applyBdir]
  cases o with
  | openSlot i lines => exact openSlot_waiting _ i lines
  | commit i => rfl
  | free i => exact (freeSlot_slots _ i).2

theorem applyBdir_frame (s : State) (t2 : Nat) (o : BdirOp) : { applyBdir s t2 o with barrels := s.barrels, od := s.od } = s := by
  cases o with
  | openSlot i lines =>
    rw [applyBdir_open]
    split
    · rfl
    · rfl
  | commit i => rfl
  | free i => rfl

/-- The rank of a pinion hangs on neither the directories nor the dictionary. -/
theorem bdirRank_applyBdir (s : State) (t2 : Nat) (o : BdirOp) (p : Nat) : bdirRank (applyBdir s t2 o) t2 p = bdirRank s t2 p := by
  have hframe := applyBdir_frame s t2 o
  generalize applyBdir s t2 o = t at hframe
  exact (congrArg (fun u => bdirRank u t2 p) hframe :)

/-- A state with the pinions `ps` in place of its own. -/
def withPinions (s : State) (ps : FMap Pinion) : State := { s with pinions := ps }

/-- What a BDIR does to the rest of the state hangs on no pinion. -/
theorem applyBdir_withPinions (s : State) (ps : FMap Pinion) (t2 : Nat) (o : BdirOp) :
    applyBdir (withPinions s ps) t2 o = withPinions (applyBdir s t2 o) ps := by
  cases o with
  | openSlot i lines =>
    rw [applyBdir_open s, apply_ite (fun t => withPinions t ps)]
    rfl
  | commit i => rfl
  | free i => rfl

/-! ### The order of the BDIRs of a cycle (R102) -/

/-- The first of two requesters by the rotating-priority rule: the later one where it is reached first from the pointer. -/
theorem grant_pair (a b ptr n : Nat) : grant [a, b] ptr n = some (if (b + n - ptr) % n < (a + n - ptr) % n then b else a) :=
  (apply_ite some _ _ _).symm

/-- The turn of the BDIR `r` at a directory at which `rest` then waits: the pointer goes behind its pinion. -/
def turnOf (n : Nat) (b : Barrel) (rank : Nat → Nat) (r : Nat × BdirOp) (rest : List (Nat × BdirOp)) : Barrel × Option BdirOp :=
  ({ b with ptr := (rank r.1 + 1) % n, waiting := rest }, some r.2)

/-- The turn of the BDIR that the rule chooses among those that wait. -/
def bdirNext (n : Nat) (b : Barrel) (rank : Nat → Nat) : Option (Barrel × Option BdirOp) :=
  (grant (b.waiting.map (fun x => rank x.1)) b.ptr n).map (fun g =>
    ({ b with ptr := (g + 1) % n, waiting := b.waiting.eraseP (fun x => rank x.1 == g) },
      (b.waiting.find? (fun x => rank x.1 == g)).map (·.2)))

/-- A turn is taken. -/
def takeTurn (s : State) (t2 : Nat) (r : Barrel × Option BdirOp) : State :=
  r.2.elim (setBarrel s t2 r.1) (applyBdir (setBarrel s t2 r.1) t2)

theorem grantBdirs_succ (n k : Nat) (s : State) (t2 : Nat) : grantBdirs n (k + 1) s t2 =
    (bdirNext n (barrelOf s t2) (bdirRank s t2)).elim s (fun r => grantBdirs n k (takeTurn s t2 r) t2) := by
  rw [grantBdirs, bdirNext]
  cases grant ((barrelOf s t2).waiting.map (fun x => bdirRank s t2 x.1)) (barrelOf s t2).ptr n with
  | none => rfl
  | some g =>
    dsimp only [Option.map_some, Option.elim_some, takeTurn]
    cases (barrelOf s t2).waiting.find? (fun x => bdirRank s t2 x.1 == g) with
    | none => rfl
    | some r => rfl

section
variable {b : Barrel} {rank : Nat → Nat} {x y : Nat × BdirOp}

theorem bdirNext_one (n : Nat) (hw : b.waiting = [x]) : bdirNext n b rank = some (turnOf n b rank x []) := by
  simp [bdirNext, turnOf, hw, grant]

theorem bdirNext_two (n : Nat) (hw : b.waiting = [x, y]) (hne : rank x.1 ≠ rank y.1) : bdirNext n b rank =
    some (if (rank y.1 + n - b.ptr) % n < (rank x.1 + n - b.ptr) % n then turnOf n b rank y [x] else turnOf n b rank x [y]) := by
  have hg := grant_pair (rank x.1) (rank y.1) b.ptr n
  unfold bdirNext
  rw [hw, List.map_cons, List.map_cons, List.map_nil, hg]
  split
  · simp [turnOf, hne]
  · simp [turnOf]

end

theorem takeTurn_withPinions (s : State) (ps : FMap Pinion) (t2 : Nat) (r : Barrel × Option BdirOp) :
    takeTurn (withPinions s ps) t2 r = withPinions (takeTurn s t2 r) ps := by
  obtain ⟨b, o⟩ := r
  cases o with
  | none => rfl
  | some o => exact applyBdir_withPinions (setBarrel s t2 b) ps t2 o

theorem grantBdirs_withPinions (n k : Nat) (s : State) (ps : FMap Pinion) (t2 : Nat) :
    grantBdirs n k (withPinions s ps) t2 = withPinions (grantBdirs n k s t2) ps := by
  induction k generalizing s with
  | zero => rfl
  | succ k ih =>
    rw [grantBdirs_succ, grantBdirs_succ]
    change (bdirNext n (barrelOf s t2) (bdirRank s t2)).elim _ _ = _
    cases bdirNext n (barrelOf s t2) (bdirRank s t2) with
    | none => rfl
    | some r =>
      dsimp only [Option.elim_some]
      rw [takeTurn_withPinions, ih]

theorem waiting_takeTurn_turnOf (n : Nat) (s : State) (t2 : Nat) (rank : Nat → Nat) (x : Nat × BdirOp) (rest : List (Nat × BdirOp)) :
    (barrelOf (takeTurn s t2 (turnOf n (barrelOf s t2) rank x rest)) t2).waiting = rest := by
  refine (waiting_applyBdir _ t2 x.2).trans ?_
  rw [barrelOf_setBarrel]
  rfl

theorem bdirRank_takeTurn (s : State) (t2 : Nat) (b : Barrel) (o : BdirOp) : bdirRank (takeTurn s t2 (b, some o)) t2 = bdirRank s t2 :=
  funext (bdirRank_applyBdir (setBarrel s t2 b) t2 o)

/-- Two BDIRs of different pinions wait at a directory: both take effect, `x` before `y`. -/
def takeTurns (n : Nat) (s : State) (t2 : Nat) (x y : Nat × BdirOp) : State :=
  let u := takeTurn s t2 (turnOf n (barrelOf s t2) (bdirRank s t2) x [y])
  takeTurn u t2 (turnOf n (barrelOf u t2) (bdirRank s t2) y [])

theorem grantBdirs_after (n : Nat) (s : State) (t2 : Nat) (x y : Nat × BdirOp) :
    grantBdirs n 1 (takeTurn s t2 (turnOf n (barrelOf s t2) (bdirRank s t2) x [y])) t2 = takeTurns n s t2 x y := by
  rw [grantBdirs_succ, bdirNext_one n (waiting_takeTurn_turnOf n s t2 _ x [y])]
  unfold takeTurns
  dsimp only [Option.elim_some]
  rw [turnOf, bdirRank_takeTurn]
  rfl

theorem grantBdirs_two {s : State} {t2 : Nat} {x y : Nat × BdirOp} (n : Nat) (hw : (barrelOf s t2).waiting = [x, y])
    (hne : bdirRank s t2 x.1 ≠ bdirRank s t2 y.1) :
    grantBdirs n 2 s t2 =
      if (bdirRank s t2 y.1 + n - (barrelOf s t2).ptr) % n < (bdirRank s t2 x.1 + n - (barrelOf s t2).ptr) % n then takeTurns n s t2 y x
      else takeTurns n s t2 x y := by
  rw [grantBdirs_succ, bdirNext_two n hw hne, Option.elim_some, ← grantBdirs_after, ← grantBdirs_after]
  exact apply_ite (fun r => grantBdirs n 1 (takeTurn s t2 r) t2) _ _ _

/-! ### The arrival of a BDIR (R102) -/

/-- What else has waited so far does not matter to two BDIRs that take effect. -/
theorem takeTurns_waiting (n : Nat) (s : State) (t2 : Nat) (x y : Nat × BdirOp) {l : List (Nat × BdirOp)} (hl : l ≠ []) :
    takeTurns n (setBarrel s t2 { barrelOf s t2 with waiting := l }) t2 x y = takeTurns n s t2 x y := by
  unfold takeTurns takeTurn
  rw [barrelOf_setBarrel]
  dsimp only [turnOf, Option.elim_some]
  rw [setBarrel_setBarrel s t2 _ hl]
  rfl

section
variable {s : State} {p : Nat}

theorem bdirArrives_alone (o : BdirOp) (hw : (barrelOf s (s.t2Of p)).waiting = []) : bdirArrives s p o false =
    applyBdir (setBarrel s (s.t2Of p) { barrelOf s (s.t2Of p) with
      ptr := (bdirRank s (s.t2Of p) p + 1) % (s.portPinions (State.unitKey 2 (s.t2Of p))).length }) (s.t2Of p) o :=
  if_neg (by rw [hw]; exact Bool.noConfusion)

theorem bdirArrives_more (o : BdirOp) : bdirArrives s p o true =
    setBarrel s (s.t2Of p) { barrelOf s (s.t2Of p) with waiting := (barrelOf s (s.t2Of p)).waiting ++ [(p, o)] } := rfl

theorem bdirArrives_last (o : BdirOp) (hw : (barrelOf s (s.t2Of p)).waiting ≠ []) : bdirArrives s p o false =
    grantBdirs (s.portPinions (State.unitKey 2 (s.t2Of p))).length ((barrelOf s (s.t2Of p)).waiting.length + 1)
      (bdirArrives s p o true) (s.t2Of p) := if_pos (by simpa using hw)

/-- The later of two BDIRs of one cycle arrives. -/
theorem bdirArrives_second {q : Nat} {o o' : BdirOp} (hw : (barrelOf s (s.t2Of p)).waiting = [(q, o')])
    (hne : bdirRank s (s.t2Of p) q ≠ bdirRank s (s.t2Of p) p) :
    let t2 := s.t2Of p
    let n := (s.portPinions (State.unitKey 2 t2)).length
    bdirArrives s p o false =
      if (bdirRank s t2 p + n - (barrelOf s t2).ptr) % n < (bdirRank s t2 q + n - (barrelOf s t2).ptr) % n then
        takeTurns n s t2 (p, o) (q, o')
      else takeTurns n s t2 (q, o') (p, o) := by
  intro t2 n
  have hboth : (barrelOf (bdirArrives s p o true) t2).waiting = [(q, o'), (p, o)] := by
    rw [bdirArrives_more, barrelOf_setBarrel, hw]
    rfl
  have hmore : (barrelOf s t2).waiting ++ [(p, o)] ≠ [] := by simp
  rw [bdirArrives_last o (by rw [hw]; exact List.cons_ne_nil _ _), hw, List.length_singleton, grantBdirs_two n hboth hne,
    bdirArrives_more, barrelOf_setBarrel, takeTurns_waiting n s t2 _ _ hmore, takeTurns_waiting n s t2 _ _ hmore]
  rfl

theorem bdirArrives_withPinions (s : State) (ps : FMap Pinion) (p : Nat) (o : BdirOp) (more : Bool) :
    bdirArrives (withPinions s ps) p o more = withPinions (bdirArrives s p o more) ps := by
  cases more with
  | true => rfl
  | false =>
    by_cases hw : (barrelOf s (s.t2Of p)).waiting = []
    · rw [bdirArrives_alone o hw]
      exact (bdirArrives_alone (s := withPinions s ps) o hw).trans (applyBdir_withPinions (setBarrel s _ _) ps _ o)
    · rw [bdirArrives_last o hw]
      exact (bdirArrives_last (s := withPinions s ps) o hw).trans (grantBdirs_withPinions _ _ (bdirArrives s p o true) ps _)

end

/-! ### The issue of BDIR (R103, R104) -/

/-- The rows of BDIR all have its opcode. -/
theorem opcode_of_bdirRow {w : W64} {row : Nat} (h : wordRow w = some row) (hr : 0xA300 ≤ row) : fld w 56 8 = 0xA3 := by
  have hlt : fld w 56 8 < 2 ^ 8 := Nat.mod_lt _ (by decide)
  unfold wordRow at h
  dsimp only at h
  split at h
  next hop => exact hop
  next hop =>
    obtain ⟨-, -, hrow⟩ := Option.map_eq_some_iff.mp h
    omega

section
variable {c : Instr} {s : State} {p h row : Nat} {w : W64} {body : State → Hand → W64 → IssueRes}

theorem exec_bdir_fault {code : Nat} (hi : Issues s p h row w) (hr : 0xA300 ≤ row) (he : exec c s = .next (s.issueAs p h row body))
    (hb : body (issuing s p h) (s.hand p h) w = .fault code) : exec c s = .next (faulted s p h 0xA3 code) := by
  rw [he, issueAs_issues hi, hb, opcode_of_bdirRow hi.2.2.1 hr]
  rfl

/-- An issued BDIR goes on, and arrives at the directory. -/
theorem runsOn_bdirArrives {o : BdirOp} {more : Bool} (hi : Issues s p h row w) (he : exec c s = .next (s.issueAs p h row body))
    (hb : body (issuing s p h) (s.hand p h) w = .done (bdirArrives (issuing s p h) p o more)) :
    RunsOn c s (bdirArrives s p o more) p h (s.hand p h) := by
  have hown := bdirArrives_withPinions s s.pinions p o more
  refine runsOn_of_done hi he (hb.trans (congrArg IssueRes.done (bdirArrives_withPinions s (issuing s p h).pinions p o more))) rfl ?_
  exact withPinions_self (congrArg State.pinions hown)

end

/-! ### The issue of BST and BLD (R105) -/

/-- The lines that a BST or BLD moves. -/
def bmLines (w : W64) : Nat := fld w 24 14

/-- Where they stand in the data area. -/
def bmAddr (d : Hand) (w : W64) : Nat := regOff d (fld w 46 4) (fld w 38 8) 64

/-- Their offset in the slot. -/
def bmOff (d : Hand) (w : W64) : Nat := (d.sreg (fld w 20 4)).toNat

/-- The lines of the slot that they name. -/
def bmRoom (s : State) (p : Nat) (w : W64) : Nat := ((barrelOf s (s.t2Of p)).slot (fld w 50 6)).lines

/-- The sync object that they post to. -/
def bmPost (p : Nat) (w : W64) : Option Nat := if Nat.testBit w.toNat 19 then some (32 * p + fld w 14 5) else none

/-- What the issue of a BST or BLD leads to. -/
def bmBody (p h : Nat) (store : Bool) (s : State) (d : Hand) (w : W64) : IssueRes :=
  if bmLines w = 0 then .fault fIllegal
  else if bmAddr d w % 64 ≠ 0 || !State.inData (bmAddr d w) (64 * bmLines w) then .fault fAddr
  else if bmRoom s p w < bmOff d w + bmLines w then .fault fAddr
  else .done (s.pinMod p (fun x => { x with
    dmq0 := x.dmq0 ++ [.barrel h d.pc store (fld w 50 6) (bmAddr d w) (bmLines w) (bmOff d w) (bmPost p w)] }))

theorem barrelIssue_eq (s : State) (p h row : Nat) (store : Bool) : barrelIssue s p h row store = s.issueAs p h row (bmBody p h store) := rfl

section
variable {c : Instr} {s : State} {p h row : Nat} {w : W64} {store : Bool} {d : Hand}

theorem bmBody_empty (hn : bmLines w = 0) : bmBody p h store s d w = .fault fIllegal := if_pos hn

theorem bmBad_iff (a n : Nat) : (decide (a % 64 ≠ 0) || !State.inData a n) = true ↔ a % 64 ≠ 0 ∨ 0x14000 < a + n := by
  rw [Bool.or_eq_true, decide_eq_true_iff, not_inData_iff]

theorem bmBody_outside (hn : bmLines w ≠ 0)
    (ha : bmAddr d w % 64 ≠ 0 ∨ 0x14000 < bmAddr d w + 64 * bmLines w ∨ bmRoom s p w < bmOff d w + bmLines w) :
    bmBody p h store s d w = .fault fAddr := by
  refine (if_neg hn).trans ?_
  rcases or_assoc.mpr ha with hbad | hroom
  · exact if_pos ((bmBad_iff _ _).mpr hbad)
  · rw [if_pos hroom, ite_self]

theorem bmBody_done (hn : bmLines w ≠ 0) (ha : bmAddr d w % 64 = 0) (hb : bmAddr d w + 64 * bmLines w ≤ 0x14000)
    (hc : bmOff d w + bmLines w ≤ bmRoom s p w) : bmBody p h store s d w = .done (s.pinMod p (fun x => { x with
      dmq0 := x.dmq0 ++ [.barrel h d.pc store (fld w 50 6) (bmAddr d w) (bmLines w) (bmOff d w) (bmPost p w)] })) := by
  have hgood := mt (bmBad_iff (bmAddr d w) (64 * bmLines w)).mp (by omega)
  exact (if_neg hn).trans ((if_neg hgood).trans (if_neg (Nat.not_lt.mpr hc)))

end

/-! ### The lines move (R105) -/

/-- Lines that are copied change no byte outside their destinations. -/
theorem copyLines_memByte_other (src dst : Nat → Nat) (n : Nat) (b : Nat) (s : State) (i : Nat)
    (hb : ∀ k < n, b < dst (i + k) ∨ dst (i + k) + 64 ≤ b) : (copyLines src dst n s i).memByte b = s.memByte b := by
  induction n generalizing s i with
  | zero => rfl
  | succ n ih =>
    have hline := hb 0 (Nat.succ_pos n)
    rw [Nat.add_zero] at hline
    rw [copyLines, ih, memByte_memWrite, if_neg (by simp only [List.length_map, List.length_range]; omega)]
    intro k hk
    rw [Nat.add_right_comm, Nat.add_assoc]
    exact hb (k + 1) (Nat.succ_lt_succ hk)

section
variable {s : State} {p n h pc slot addr lines off : Nat} {store : Bool} {post : Option Nat} {rest : List DmJob}

theorem exec_barrelLines (hon : moveOn s p = true) (hwork : s.mayWork p 0 = true)
    (hd : (s.pin p).dmq 0 = .barrel h pc store slot addr lines off post :: rest) :
    exec (.dataMoveDescriptor p ⟨0, n⟩) s = .next (barrelLines s p h pc store slot addr lines off n post rest) := by
  show execDataMoveDescriptor p ⟨0, n⟩ s = _
  unfold execDataMoveDescriptor
  rw [if_pos (by rw [hon, hwork]; rfl)]
  dsimp only
  rw [hd]

/-- The closed Bezels between a pinion and the Barrel of its T2. -/
def barrelCrosses (s : State) (p : Nat) : List (Nat × Nat) := s.crossed (s.pinUnits p) (s.regionUnits (.barrel (s.t2Of p)))

theorem barrelLines_isolated (hc : barrelCrosses s p ≠ []) : barrelLines s p h pc store slot addr lines off n post rest =
    xferFault ((s.bump 0x9300 1).isolate (barrelCrosses s p)) p 0 h pc (if store then 0xA1 else 0xA2) fIsolated rest :=
  if_pos (by unfold barrelCrosses at hc; simpa using hc)

theorem barrelLines_open (hc : barrelCrosses s p = []) : barrelLines s p h pc store slot addr lines off n post rest =
    if min (max n 1) lines < lines then (runBarrelJob s p store slot addr (min (max n 1) lines) off).pinMod p (fun y => { y with
      dmq0 := .barrel h pc store slot (addr + 64 * min (max n 1) lines) (lines - min (max n 1) lines) (off + min (max n 1) lines) post :: rest })
    else jobDone (runBarrelJob s p store slot addr (min (max n 1) lines) off) p 0 post rest :=
  if_neg (by unfold barrelCrosses at hc; rw [hc]; exact Bool.noConfusion)

end

end Sys2Proof.Machine

open Sys2Proof Sys2Proof.Machine

/-- Settles O19: the issue and the course of BST and BLD, the issue and the order of BDIRs, and the three procedures of R103. -/
theorem barrelMoves : Obligations.BarrelMoves := by
  refine ⟨fun s p h w => ?issue, fun s p n h pc slot addr lines off store post rest hon hwork hd => ?course,
    fun src dst n i b s => copyLines_memByte_other src dst n b s i, fun s p h w more => ?bdir, fun s p o => ?arrival,
    fun s t2 i lines => ⟨applyBdir_open s t2 i lines, rfl, rfl⟩, fun b i lines => ?slots⟩
  case issue =>
    intro d lines addr off slot post
    have hbst : exec (.bst p h) s = .next (s.issueAs p h 0xA1 (bmBody p h true)) := rfl
    have hbld : exec (.bld p h) s = .next (s.issueAs p h 0xA2 (bmBody p h false)) := rfl
    refine ⟨fun hn ha hb hc => ⟨fun hi => exec_done hi hbst (bmBody_done hn ha hb hc), fun hi => exec_done hi hbld (bmBody_done hn ha hb hc)⟩,
      fun hn => ⟨fun hi => exec_fault hi (by decide) hbst (bmBody_empty hn), fun hi => exec_fault hi (by decide) hbld (bmBody_empty hn)⟩,
      fun hn ha => ⟨fun hi => exec_fault hi (by decide) hbst (bmBody_outside hn ha),
        fun hi => exec_fault hi (by decide) hbld (bmBody_outside hn ha)⟩⟩
  case course =>
    intro t2 x k c data t
    rw [exec_barrelLines hon hwork hd]
    refine ⟨fun hc hk => ?_, fun hc hk => ?_, fun hc => ?_⟩
    · rw [barrelLines_open hc, if_pos hk]
      rfl
    · rw [barrelLines_open hc, if_neg (Nat.not_lt.mpr hk)]
      rfl
    · rw [barrelLines_isolated hc]
      rfl
  case bdir =>
    refine ⟨fun hi hn => runsOn_bdirArrives hi rfl (if_neg hn), fun hi hn => runsOn_bdirArrives hi rfl (if_neg (not_not_intro hn)),
      fun hi hn => runsOn_bdirArrives hi rfl (if_neg (not_not_intro hn)), fun hi hn => exec_bdir_fault hi (by decide) rfl (if_pos hn),
      fun hi hn => exec_bdir_fault hi (by decide) rfl (if_pos hn), fun hi hn => exec_bdir_fault hi (by decide) rfl (if_pos hn)⟩
  case arrival =>
    intro t2 b n rank
    refine ⟨bdirArrives_alone o, bdirArrives_more o, fun q o' hw hne => ?_⟩
    rw [bdirArrives_second hw hne]
    exact (apply_ite₂ (takeTurns n s t2) _ _ _ _ _).symm
  case slots =>
    rw [openSlot_slot]
    exact ⟨rfl, rfl, rfl, commitSlot_slot b i, freeSlot_slot b i, fun j hj => ⟨commitSlot_slot_ne b hj, freeSlot_slot_ne b hj⟩⟩
end

section
/-! SUPPORT. The entries of the update units (R98, R99, R118 to R136, R250): what the sending of a post touches, the course of an entry that
a command finds at the head of its queue, the entries that run, and the statement. -/

namespace Sys2Proof.Machine

/-! ### What sending on VC0 touches (R167 to R178) -/

/-- `t` is `s` but for the near ports, the packets that wait or have come in, the dictionary and the wires. -/
def SentFrom (s t : State) : Prop :=
  { t with near := s.near, rx := s.rx, noRoute := s.noRoute, vc0Tx := s.vc0Tx, altPort := s.altPort, out := s.out, od := s.od } = s

theorem sentFrom_refl (s : State) : SentFrom s s := rfl

theorem SentFrom.trans {s t u : State} (h1 : SentFrom s t) (h2 : SentFrom t u) : SentFrom s u := by
  unfold SentFrom at *
  exact (congrArg (fun x : State => { x with
    near := s.near, rx := s.rx, noRoute := s.noRoute, vc0Tx := s.vc0Tx, altPort := s.altPort, out := s.out, od := s.od }) h2).trans h1

theorem SentFrom.uqNext {s t : State} (h : SentFrom s t) : t.uqNext = s.uqNext := (congrArg State.uqNext h :)

theorem sentFrom_foldl {β : Type} {f : State → β → State} (hf : ∀ t b, SentFrom t (f t b)) (l : List β) (s : State) :
    SentFrom s (l.foldl f s) := by
  induction l generalizing s with
  | nil => exact sentFrom_refl s
  | cons b l ih => exact (hf s b).trans (ih (f s b))

theorem sentFrom_returnRoom (s : State) (r : Option Room) : SentFrom s (s.returnRoom r) := by
  cases r with
  | none => exact sentFrom_refl s
  | some r =>
    unfold State.returnRoom
    dsimp only
    split
    · exact rfl
    · exact rfl

theorem sentFrom_sendFlits (k vc cls n i : Nat) (s : State) (bs : List (List Byte)) : SentFrom s (State.sendFlits k vc cls n i s bs) := by
  induction bs generalizing i s with
  | nil => exact sentFrom_refl s
  | cons b bs ih =>
    unfold State.sendFlits
    exact SentFrom.trans (t := (s.nportMod k _).wireFlit k _) rfl (ih (i + 1) _)

theorem sentFrom_pump (fuel : Nat) (s : State) (k : Nat) : SentFrom s (State.pump fuel s k) := by
  induction fuel generalizing s with
  | zero => exact sentFrom_refl s
  | succ fuel ih =>
    unfold State.pump
    split
    · dsimp only
      split
      · exact sentFrom_refl s
      · split
        · exact sentFrom_refl s
        · refine SentFrom.trans ?_ (ih _)
          refine SentFrom.trans ?_ (sentFrom_returnRoom _ _)
          exact SentFrom.trans (t := s.nportMod k _) rfl (sentFrom_sendFlits k _ _ _ _ _ _)
    · exact sentFrom_refl s

theorem sentFrom_routeTo {s t : State} {dst k : Nat} (h : s.routeTo dst = some (k, t)) : SentFrom s t := by
  unfold State.routeTo at h
  dsimp only at h
  split at h
  · cases h
  next i _ =>
    have hbump : SentFrom s (if i = 0 then s else s.bump 0x5200 3) := by
      split
      · exact sentFrom_refl s
      · exact rfl
    generalize (if i = 0 then s else s.bump 0x5200 3) = u at h hbump
    split at h
    · cases h
      exact hbump
    · split at h
      · cases h
        exact hbump.trans rfl
      · cases h
        exact hbump

theorem sentFrom_nearSend (s : State) (x : NearPkt) : SentFrom s (s.nearSend x) := by
  unfold State.nearSend
  dsimp only
  split
  · exact rfl
  · split
    next hroute =>
      refine (sentFrom_routeTo hroute).trans ?_
      exact SentFrom.trans (t := State.nportMod _ _ _) rfl (sentFrom_pump _ _ _)
    next => exact rfl

theorem sentFrom_sendVc0 (s : State) (dst typ coll epoch : Nat) (payload : List Byte) : SentFrom s (s.sendVc0 dst typ coll epoch payload) := by
  unfold State.sendVc0
  refine SentFrom.trans ?_ (sentFrom_nearSend _ _)
  exact rfl

theorem sentFrom_spanSend (s : State) (sid : Nat) (v : W32) : SentFrom s (s.spanSend sid v) := by
  unfold State.spanSend
  split
  · exact sentFrom_refl s
  · exact sentFrom_foldl (fun t m => sentFrom_sendVc0 t m _ _ _ _) _ s

theorem post_uqNext (s : State) (sid : Nat) : (s.post sid).uqNext = s.uqNext :=
  (sentFrom_spanSend (s.syncMod sid _) sid 1).uqNext

/-! ### The head of a queue -/

/-- A unit goes on to its next entry. -/
theorem uqNextOf_uqStep (s : State) (u : Nat) : uqNextOf (uqStep s u) u = uqNextOf s u + 1 := by
  have hpost : (uqStep s u).uqNext = fput 0 s.uqNext u (uqNextOf s u + 1) := post_uqNext { s with uqNext := _ } (uqSpec s u).done
  unfold uqNextOf at *
  rw [hpost, fget_fput_same]

theorem holdHead_first {s : State} {key : Nat} (h : key ∉ s.qWait) :
    s.holdHead key = ({ s with qWait := key :: s.qWait } : State).bump 0x2020 3 := if_neg (by simpa using h)

theorem holdHead_again {s : State} {key : Nat} (h : key ∈ s.qWait) : s.holdHead key = s := if_pos (by simpa using h)

/-! ### The course of the entry at the head of a unit's queue (R120, R136, R250) -/

/-- A KIND that Table 5.4 does not list. -/
def unlistedKind (k : Nat) : Bool := decide (k = 0) || decide (7 < k)

theorem unlistedKind_iff (k : Nat) : unlistedKind k = true ↔ k = 0 ∨ 7 < k := by simp [unlistedKind]

/-- The line of the queue entry itself, where it has an uncorrectable error. -/
def entryWrong (s : State) (u : Nat) : Option Nat := s.wrongLine [((uqSpec s u).base + (uqNextOf s u).toNat % 1024 * 16, 16)]

/-- The descriptor that the entry names. -/
def entryDesc (s : State) (u : Nat) : List Byte := s.readBytes (uqEntry s u).desc 64

/-- Does the entry wait for a pending re-shard (R250)? -/
def entryWaits (s : State) (u : Nat) : Bool :=
  hbmOk s (uqEntry s u).desc 64 && (uqEntry s u).kind != 6 && s.epochWaits (rdLe (entryDesc s u) 6 2)

theorem entryWaits_iff (s : State) (u : Nat) : entryWaits s u = true ↔
    hbmOk s (uqEntry s u).desc 64 = true ∧ (uqEntry s u).kind ≠ 6 ∧ s.epochWaits (rdLe (entryDesc s u) 6 2) = true := by
  simp [entryWaits, and_assoc]

/-- Why the descriptor of an entry of a kind is refused. -/
def entryReason (s : State) (u kind : Nat) : Option Nat :=
  if kind = 1 then tiesumReason s u (uqEntry s u).desc else unitReason s u kind (entryDesc s u) ((s.draw 3).1.toNat + 1)

/-- What a command does with a body: a descriptor, and its address, to an outcome. -/
abbrev UnitBody := State → List Byte → Nat → Host.Outcome State Fault Refusal

/-- The course of an entry whose descriptor is refused, has an error in what it reads, or runs. -/
def entryRun (u kind : Nat) (body : UnitBody) (s : State) : Host.Outcome State Fault Refusal :=
  (entryReason s u kind).elim
    ((s.wrongLine (unitReads s kind (entryDesc s u) (uqEntry s u).desc)).elim (body s (entryDesc s u) (uqEntry s u).desc)
      (fun a => .next (s.eccFault a)))
    (fun r => .next (uqRefuse (if kind = 7 then (s.draw 3).2 else s) u kind r))

/-- The course of an entry of the command's own kind that does not wait. -/
def entryOwn (u kind : Nat) (mine : List Byte → Bool) (body : UnitBody) (s : State) : Host.Outcome State Fault Refusal :=
  if (uqEntry s u).rsv ≠ 0 then .next (uqRefuse s u kind 1)
  else if !hbmOk s (uqEntry s u).desc 64 then .next (uqRefuse s u kind 2)
  else if !mine (entryDesc s u) then .next s
  else entryRun u kind body s

/-- The course of an entry that was read without an error. -/
def entryCourse (u kind : Nat) (mine : List Byte → Bool) (body : UnitBody) (s : State) : Host.Outcome State Fault Refusal :=
  if !unlistedKind (uqEntry s u).kind && decide ((uqEntry s u).kind ≠ kind) then .next s
  else if entryWaits s u then .next (s.holdHead u)
  else if unlistedKind (uqEntry s u).kind then .next (uqRefuse s u (uqEntry s u).kind 1)
  else entryOwn u kind mine body s

theorem unitCommand_eq (u kind : Nat) (mine : List Byte → Bool) (body : UnitBody) (s : State) : unitCommand u kind mine body s =
    if !uqReady s u then .next s
    else (entryWrong s u).elim (entryCourse u kind mine body s) (fun a => .next (s.eccFault a)) := by
  unfold unitCommand entryCourse entryOwn entryRun entryReason entryWrong entryDesc
  dsimp only
  generalize (if kind = 1 then tiesumReason s u (uqEntry s u).desc
    else unitReason s u kind (s.readBytes (uqEntry s u).desc 64) ((s.draw 3).1.toNat + 1)) = reason
  generalize s.wrongLine (unitReads s kind (s.readBytes (uqEntry s u).desc 64) (uqEntry s u).desc) = reads
  refine if_congr Iff.rfl rfl ?_
  cases s.wrongLine [((uqSpec s u).base + (uqNextOf s u).toNat % 1024 * 16, 16)] with
  | some a => rfl
  | none =>
    cases reason with
    | some r => rfl
    | none => cases reads with
      | some a => rfl
      | none => rfl

section
variable {s : State} {u kind a r : Nat} {mine : List Byte → Bool} {body : UnitBody}

theorem unitCommand_idle (h : uqReady s u = false) : unitCommand u kind mine body s = .next s :=
  (unitCommand_eq u kind mine body s).trans (if_pos (by rw [h]; rfl))

section
variable (hready : uqReady s u = true)
include hready

theorem unitCommand_wrong (hw : entryWrong s u = some a) : unitCommand u kind mine body s = .next (s.eccFault a) := by
  rw [unitCommand_eq, hready, hw]
  rfl

theorem unitCommand_course (hw : entryWrong s u = none) : unitCommand u kind mine body s = entryCourse u kind mine body s := by
  rw [unitCommand_eq, hready, hw]
  rfl

end

theorem entryCourse_foreign (hk : (uqEntry s u).kind ≠ kind) (hlist : unlistedKind (uqEntry s u).kind = false) :
    entryCourse u kind mine body s = .next s := if_pos (by rw [hlist, decide_eq_true hk]; rfl)

/-- Past the first check the entry is unlisted, or of the command's own kind. -/
theorem entryCourse_meant (hk : unlistedKind (uqEntry s u).kind = true ∨ (uqEntry s u).kind = kind) : entryCourse u kind mine body s =
    if entryWaits s u then .next (s.holdHead u)
    else if unlistedKind (uqEntry s u).kind then .next (uqRefuse s u (uqEntry s u).kind 1)
    else entryOwn u kind mine body s := by
  refine if_neg ?_
  rcases hk with hk | hk
  · rw [hk]
    exact Bool.noConfusion
  · simp [hk]

theorem entryCourse_unlisted (hlist : unlistedKind (uqEntry s u).kind = true) (hw : entryWaits s u = false) :
    entryCourse u kind mine body s = .next (uqRefuse s u (uqEntry s u).kind 1) :=
  (entryCourse_meant (Or.inl hlist)).trans ((if_neg (ne_true_of_eq_false hw)).trans (if_pos hlist))

theorem entryCourse_waits (hk : unlistedKind (uqEntry s u).kind = true ∨ (uqEntry s u).kind = kind) (hw : entryWaits s u = true) :
    entryCourse u kind mine body s = .next (s.holdHead u) := (entryCourse_meant hk).trans (if_pos hw)

theorem entryCourse_own (hk : (uqEntry s u).kind = kind) (hlist : unlistedKind kind = false) (hw : entryWaits s u = false) :
    entryCourse u kind mine body s = entryOwn u kind mine body s := by
  rw [entryCourse_meant (Or.inr hk), hk]
  exact (if_neg (ne_true_of_eq_false hw)).trans (if_neg (ne_true_of_eq_false hlist))

theorem entryOwn_reserved (hr : (uqEntry s u).rsv ≠ 0) : entryOwn u kind mine body s = .next (uqRefuse s u kind 1) := if_pos hr

section
variable (hr : (uqEntry s u).rsv = 0)
include hr

theorem entryOwn_unreadable (hh : hbmOk s (uqEntry s u).desc 64 = false) : entryOwn u kind mine body s = .next (uqRefuse s u kind 2) :=
  (if_neg (not_not_intro hr)).trans (if_pos (by rw [hh]; rfl))

variable (hh : hbmOk s (uqEntry s u).desc 64 = true)
include hh

theorem entryOwn_other (hm : mine (entryDesc s u) = false) : entryOwn u kind mine body s = .next s :=
  (if_neg (not_not_intro hr)).trans ((if_neg (by rw [hh]; exact Bool.noConfusion)).trans (if_pos (by rw [hm]; rfl)))

theorem entryOwn_run (hm : mine (entryDesc s u) = true) : entryOwn u kind mine body s = entryRun u kind body s :=
  (if_neg (not_not_intro hr)).trans ((if_neg (by rw [hh]; exact Bool.noConfusion)).trans (if_neg (by rw [hm]; exact Bool.noConfusion)))

end

theorem entryRun_refused (hr : entryReason s u kind = some r) :
    entryRun u kind body s = .next (uqRefuse (if kind = 7 then (s.draw 3).2 else s) u kind r) := by
  rw [entryRun, hr]
  rfl

theorem entryRun_wrong (hr : entryReason s u kind = none)
    (hw : s.wrongLine (unitReads s kind (entryDesc s u) (uqEntry s u).desc) = some a) :
    entryRun u kind body s = .next (s.eccFault a) := by
  rw [entryRun, hr, hw]
  rfl

theorem entryRun_body (hr : entryReason s u kind = none)
    (hw : s.wrongLine (unitReads s kind (entryDesc s u) (uqEntry s u).desc) = none) :
    entryRun u kind body s = body s (entryDesc s u) (uqEntry s u).desc := by
  rw [entryRun, hr, hw]
  rfl

/-- A command carries out an entry of its own that may run. -/
theorem unitCommand_runs {d : List Byte} (hd : UnitRuns s u kind d) (hlist : unlistedKind kind = false) (hm : mine d = true) :
    unitCommand u kind mine body s = body s d (uqEntry s u).desc := by
  obtain ⟨hready, hk, hrsv, hh, rfl, hepoch, hreason, hentry, hreads⟩ := hd
  have hwait : entryWaits s u = false := by
    rw [← Bool.not_eq_true, entryWaits_iff, hk]
    rintro ⟨-, h6, hw⟩
    exact Bool.false_ne_true ((hepoch h6).symm.trans hw)
  rw [unitCommand_course hready hentry, entryCourse_own hk hlist hwait, entryOwn_run hrsv hh hm, entryRun_body hreason hreads]
  rfl

end

/-! ### The commands -/

theorem exec_tiesum_eq (u : Nat) (s : State) : exec (.tiesum u) s =
    unitCommand u 1 (fun _ => true) (fun s _ desc => .next (runTiesum s u desc)) s := rfl

theorem exec_normEntry_eq (u : Nat) (s : State) : exec (.normEntry u) s =
    unitCommand u 2 (fun _ => true) (fun s d _ => .next (runNorm s u d)) s := rfl

theorem exec_inner_eq (u : Nat) (s : State) : exec (.inner u) s = unitCommand u 3 (fun _ => true) (fun s d _ => runInner s u d) s := rfl

theorem exec_outer_eq (u : Nat) (s : State) : exec (.outer u) s =
    unitCommand u 4 (fun _ => true) (fun s d _ => afterLog s (shSlow (s.shard (rdLe d 8 8))) (fun t => runOuter t u d)) s := rfl

theorem exec_digest_eq (u : Nat) (s : State) : exec (.digest u) s =
    unitCommand u 5 (fun _ => true) (fun s d _ => afterLog s (shSlow (s.shard (rdLe d 8 8))) (fun t => runDigest t u d)) s := rfl

theorem exec_logApply_eq (u : Nat) (s : State) : exec (.logApply u) s =
    unitCommand u 6 (fun _ => true) (fun s d _ => afterLog s true (fun t => uqFinish t u (rdLe d 0x30 4))) s := rfl

theorem exec_coordExport_eq (u : Nat) (s : State) : exec (.coordExport u) s = unitCommand u 7 (fun d => rdLe d 4 1 != 1) (fun s d _ =>
    .next (uqFinish (exportRecord s (rdLe d 8 8) (rdLe d 0x10 8) (slice d 0x18 24)) u (rdLe d 0x30 4))) s := rfl

theorem exec_coordImport_eq (u : Nat) (s : State) : exec (.coordImport u) s = unitCommand u 7 (fun d => rdLe d 4 1 != 0) (fun s d _ =>
    .next (if importOk s d then uqFinish (importRecord s d) u (rdLe d 0x30 4) else uqRefuse s u 7 8)) s := rfl

/-- `c` takes the entries of a kind of unit `u`, and of the coordinate records those of its own direction. -/
def TakesKind (u kind : Nat) (c : Instr) : Prop :=
  ∃ mine body, (∀ s, exec c s = unitCommand u kind mine body s) ∧
    ∀ d, mine d = true ↔ (c = .coordExport u → rdLe d 4 1 ≠ 1) ∧ (c = .coordImport u → rdLe d 4 1 ≠ 0)

theorem takesKind_of_any {u kind : Nat} {c : Instr} {body : UnitBody} (h : ∀ s, exec c s = unitCommand u kind (fun _ => true) body s)
    (he : c ≠ .coordExport u) (hi : c ≠ .coordImport u) : TakesKind u kind c :=
  ⟨_, _, h, fun _ => ⟨fun _ => ⟨fun hc => absurd hc he, fun hc => absurd hc hi⟩, fun _ => rfl⟩⟩

theorem takesKind_coordExport (u : Nat) : TakesKind u 7 (.coordExport u) :=
  ⟨_, _, exec_coordExport_eq u, fun _ => bne_iff_ne.trans ⟨fun h => ⟨fun _ => h, fun hc => by cases hc⟩, fun h => h.1 rfl⟩⟩

theorem takesKind_coordImport (u : Nat) : TakesKind u 7 (.coordImport u) :=
  ⟨_, _, exec_coordImport_eq u, fun _ => bne_iff_ne.trans ⟨fun h => ⟨fun hc => (by cases hc), fun _ => h⟩, fun h => h.2 rfl⟩⟩

/-- The commands of the update units take the kinds of Table 5.4. -/
theorem takesKind_of_mem {u kind : Nat} {c : Instr} (h : (kind, c) ∈ [(1, Instr.tiesum u), (2, .normEntry u), (3, .inner u), (4, .outer u),
      (5, .digest u), (6, .logApply u), (7, .coordExport u), (7, .coordImport u)]) : unlistedKind kind = false ∧ TakesKind u kind c := by
  simp only [List.mem_cons, List.not_mem_nil, or_false, Prod.mk.injEq] at h
  rcases h with ⟨rfl, rfl⟩ | ⟨rfl, rfl⟩ | ⟨rfl, rfl⟩ | ⟨rfl, rfl⟩ | ⟨rfl, rfl⟩ | ⟨rfl, rfl⟩ | ⟨rfl, rfl⟩ | ⟨rfl, rfl⟩
  · exact ⟨rfl, takesKind_of_any (exec_tiesum_eq u) Instr.noConfusion Instr.noConfusion⟩
  · exact ⟨rfl, takesKind_of_any (exec_normEntry_eq u) Instr.noConfusion Instr.noConfusion⟩
  · exact ⟨rfl, takesKind_of_any (exec_inner_eq u) Instr.noConfusion Instr.noConfusion⟩
  · exact ⟨rfl, takesKind_of_any (exec_outer_eq u) Instr.noConfusion Instr.noConfusion⟩
  · exact ⟨rfl, takesKind_of_any (exec_digest_eq u) Instr.noConfusion Instr.noConfusion⟩
  · exact ⟨rfl, takesKind_of_any (exec_logApply_eq u) Instr.noConfusion Instr.noConfusion⟩
  · exact ⟨rfl, takesKind_coordExport u⟩
  · exact ⟨rfl, takesKind_coordImport u⟩

section
variable {s : State} {u : Nat} {d : List Byte}

theorem exec_tiesum (hd : UnitRuns s u 1 d) : exec (.tiesum u) s = .next (runTiesum s u (uqEntry s u).desc) :=
  (exec_tiesum_eq u s).trans (unitCommand_runs hd rfl rfl)

theorem exec_normEntry (hd : UnitRuns s u 2 d) : exec (.normEntry u) s = .next (runNorm s u d) :=
  (exec_normEntry_eq u s).trans (unitCommand_runs hd rfl rfl)

/-! ### After the log (R130, R136) -/

theorem afterLog_sound {slow : Bool} (f : State → State) (h : slow = true → s.logWrong = none) :
    afterLog s slow f = .next (f (if slow then s.applyLog else s)) := by
  refine congrArg Host.Outcome.next (if_neg ?_)
  rw [Bool.and_eq_true]
  rintro ⟨hslow, hw⟩
  rw [h hslow] at hw
  exact Bool.noConfusion hw

theorem afterLog_wrong {slow : Bool} {a : Nat} (f : State → State) (hslow : slow = true) (hw : s.logWrong = some a) :
    afterLog s slow f = .next (s.eccFault a) := by
  have hlog : s.applyLog = s.eccFault a := by
    unfold State.applyLog
    rw [hw]
  rw [← hlog]
  exact congrArg Host.Outcome.next (if_pos (by rw [hslow, hw]; rfl))

theorem exec_outer (hd : UnitRuns s u 4 d) : exec (.outer u) s = afterLog s (shSlow (s.shard (rdLe d 8 8))) (fun t => runOuter t u d) :=
  (exec_outer_eq u s).trans (unitCommand_runs hd rfl rfl)

theorem exec_digest (hd : UnitRuns s u 5 d) : exec (.digest u) s = afterLog s (shSlow (s.shard (rdLe d 8 8))) (fun t => runDigest t u d) :=
  (exec_digest_eq u s).trans (unitCommand_runs hd rfl rfl)

theorem exec_logApply (hd : UnitRuns s u 6 d) : exec (.logApply u) s = afterLog s true (fun t => uqFinish t u (rdLe d 0x30 4)) :=
  (exec_logApply_eq u s).trans (unitCommand_runs hd rfl rfl)

/-- A DIGEST of mode 0 seals its shard. -/
theorem runDigest_seals (hm : rdLe d 4 1 = 0) : runDigest s u d = uqFinish (s.sealShard (rdLe d 8 8)) u (rdLe d 0x30 4) := by
  unfold runDigest
  dsimp only
  rw [if_pos hm]

/-- The verdict of a DIGEST that compares: 2 without a valid digest, 0 where it is right, 1 where it is not. -/
def digestVerdict (s : State) (hdr : Nat) : Nat :=
  if shValid (s.shard hdr) = false then 2
  else if foldDigest s (s.readBytes (hdr + 64) (shBytes (s.shard hdr))) = slice (s.shard hdr) 0x30 16 then 0 else 1

theorem runDigest_compares (hm : rdLe d 4 1 ≠ 0) : runDigest s u d =
    uqFinish (s.writeBytes (rdLe d 0x10 8) (toLe 4 (digestVerdict s (rdLe d 8 8)))) u (rdLe d 0x30 4) := by
  unfold runDigest digestVerdict
  dsimp only
  rw [if_neg hm]
  simp only [Bool.not_eq_true', beq_iff_eq]

theorem exec_coordExport (hd : UnitRuns s u 7 d) (hm : rdLe d 4 1 = 0) : exec (.coordExport u) s =
    .next (uqFinish (exportRecord s (rdLe d 8 8) (rdLe d 0x10 8) (slice d 0x18 24)) u (rdLe d 0x30 4)) :=
  (exec_coordExport_eq u s).trans (unitCommand_runs hd rfl (by rw [hm]; rfl))

theorem exec_coordImport (hd : UnitRuns s u 7 d) (hm : rdLe d 4 1 = 1) : exec (.coordImport u) s =
    .next (if importOk s d then uqFinish (importRecord s d) u (rdLe d 0x30 4) else uqRefuse s u 7 8) :=
  (exec_coordImport_eq u s).trans (unitCommand_runs hd rfl (by rw [hm]; rfl))

end

end Sys2Proof.Machine

open Sys2Proof Sys2Proof.Machine

/-- Settles O38: the entries that run by their commands, and every other entry by the course that all commands share. -/
theorem updateEntries : Obligations.UpdateEntries := by
  refine ⟨fun s u d => ⟨exec_tiesum, exec_normEntry⟩, fun s u d => ?shards, fun s u kind c hc => ?heads⟩
  case shards =>
    intro hdr slow b sound
    refine ⟨fun hd hs => ?_, fun hd hs hm => ?_, fun hd hs hm => ?_, fun hd hw => ?_,
      fun a hw => ⟨fun hslow => ⟨fun hd => ?_, fun hd => ?_⟩, fun hd => ?_⟩, exec_coordExport, fun hd hm hok => ?_, fun hd hm hok => ?_⟩
    · exact (exec_outer hd).trans (afterLog_sound _ hs)
    · exact (exec_digest hd).trans ((afterLog_sound _ hs).trans (congrArg _ (runDigest_seals hm)))
    · exact (exec_digest hd).trans ((afterLog_sound _ hs).trans (congrArg _ (runDigest_compares hm)))
    · exact (exec_logApply hd).trans (afterLog_sound _ (fun _ => hw))
    · exact (exec_outer hd).trans (afterLog_wrong _ hslow hw)
    · exact (exec_digest hd).trans (afterLog_wrong _ hslow hw)
    · exact (exec_logApply hd).trans (afterLog_wrong _ rfl hw)
    · exact (exec_coordImport hd hm).trans (congrArg _ (if_pos hok))
    · exact (exec_coordImport hd hm).trans (congrArg _ (if_neg (ne_true_of_eq_false hok)))
  case heads =>
    intro en d o why line waits mine
    obtain ⟨hlist, own, body, hexec, hown⟩ := takesKind_of_mem hc
    have hwaits : entryWaits s u = true ↔ waits := entryWaits_iff s u
    have hmine : own d = true ↔ mine := hown d
    rw [hexec s]
    refine ⟨unitCommand_idle, fun a hready hw => unitCommand_wrong hready hw, fun hready hw => ?_,
      fun t r => ⟨rfl, uqNextOf_uqStep t u⟩, holdHead_first, holdHead_again⟩
    rw [unitCommand_course hready hw]
    refine ⟨fun hk hlo hhi => ?_, fun hk => ⟨fun hw => ?_, fun hw => ?_⟩, fun hk => ⟨fun hw => ?_, fun hw => ?_, fun hw hr hh => ?_,
      fun hw hr hh hm => ?_, fun hw hr hh hm => ?_⟩⟩
    · have hlisted := mt (unlistedKind_iff en.kind).mp (fun h => h.elim (Nat.one_le_iff_ne_zero.mp hlo) (Nat.not_lt.mpr hhi))
      exact entryCourse_foreign hk (eq_false_of_ne_true hlisted)
    · exact entryCourse_waits (Or.inl ((unlistedKind_iff _).mpr hk)) (hwaits.mpr hw)
    · exact entryCourse_unlisted ((unlistedKind_iff _).mpr hk) (eq_false_of_ne_true (mt hwaits.mp hw))
    · exact entryCourse_waits (Or.inr hk) (hwaits.mpr hw)
    all_goals rw [entryCourse_own hk hlist (eq_false_of_ne_true (mt hwaits.mp hw))]
    · exact entryOwn_reserved
    · exact entryOwn_unreadable hr hh
    · exact entryOwn_other hr hh (eq_false_of_ne_true (mt hmine.mp hm))
    · rw [entryOwn_run hr hh (hmine.mpr hm)]
      exact ⟨fun r hwhy => entryRun_refused hwhy, fun a hwhy hreads => entryRun_wrong hwhy hreads⟩
end

section
/-! SUPPORT. Memory keeps what is written (Table 1.4), and the scrub (R134 to R136): what a write leaves of the slow tier, the read of what
was written, each way that a line found by the scrub or by a reader goes, and the statement. -/

namespace Sys2Proof.Machine

/-! ### Reads after writes -/

theorem writeBytes_slow_below (s : State) {a : Nat} (bs : List Byte) (h : a < slowBase) : (s.writeBytes a bs).slow = s.slow := by
  unfold State.writeBytes
  rw [if_neg (Nat.not_le.mpr h)]
  exact (congrArg State.slow (memWrite_frame _ a bs) :)

/-- HBM, the Barrels and SRAM read as the bytes that stand there. -/
theorem readByte_below_shadow (s : State) {a : Nat} (h : a < shadowBase) : s.readByte a = s.memByte a := by
  have hslow : ¬ slowBase ≤ a := by unfold slowBase shadowBase at *; omega
  exact (if_neg hslow).trans (if_neg (Nat.not_le.mpr h))

/-- Below the shadow window a written range reads as it was written. -/
theorem readBytes_writeBytes_same (s : State) {a : Nat} {bs : List Byte} (h : a + bs.length ≤ shadowBase) :
    (s.writeBytes a bs).readBytes a bs.length = bs := by
  refine List.ext_getElem (readBytes_length _ _ _) (fun i _ hi => ?_)
  have hbelow : a < slowBase := by unfold slowBase shadowBase at *; omega
  have hread : (s.writeBytes a bs).readByte (a + i) = bs.getD i 0 := by
    rw [readByte_below_shadow _ (by omega), memByte_writeBytes s bs hbelow, if_pos (by omega), Nat.add_sub_cancel_left]
  simp [State.readBytes, hread, hi]

/-! ### SCRUB (R134 to R136) -/

/-- An address of HBM, the training areas with it. -/
def scrubHbm (a : Nat) : Bool := a < barrelBase && decide (a / hbmStride < 8) && decide (a % hbmStride < hbmSize)

theorem scrubHbm_of_inside {a : Nat} (hb : a < barrelBase) (hk : a / hbmStride < 8) (ho : a % hbmStride < hbmSize) : scrubHbm a = true := by
  simp [scrubHbm, hb, hk, ho]

theorem scrubHbm_of_outside {a : Nat} (h : barrelBase ≤ a ∨ 8 ≤ a / hbmStride ∨ hbmSize ≤ a % hbmStride) : scrubHbm a = false := by
  rw [← Bool.not_eq_true]
  simp only [scrubHbm, Bool.and_eq_true, decide_eq_true_eq]
  omega

/-- What a line of HBM with `k` wrong symbols leads to. -/
def scrubLine (s : State) (a k : Nat) : State :=
  if k = 1 then State.bump { s with wrong := fdel s.wrong (a / 64) } 0x3300 2
  else State.eccFault { s with wrong := fput 0 s.wrong (a / 64) k } a

/-- What a reader of a word outside HBM does about `k` wrong symbols. -/
def readerFinds (s : State) (a k : Nat) : State :=
  if slowBase ≤ a then (if k = 1 || !s.inSlow a 1 then s else s.eccFault a)
  else if k = 1 then s.bump 0x3300 3 else s.eccFault a

section
variable {s : State} {a k : Nat} {reader : Bool}

theorem exec_scrub_before_quiet (h : s.modState < stQuiet) (found : EccFind) : exec (.scrub a found) s = .next s := by
  refine if_pos ?_
  have hmode : s.modState = stCold ∨ s.modState = stBoot := by unfold stCold stBoot; unfold stQuiet at h; omega
  rcases hmode with hmode | hmode
  · simp [hmode]
  · simp [hmode]

theorem exec_scrub_sound (reader : Bool) : exec (.scrub a ⟨0, reader⟩) s = .next s := if_pos (by simp)

section
variable (hquiet : stQuiet ≤ s.modState) (hk : k ≠ 0)
include hquiet hk

/-- From QUIET on an error that was found is one of HBM, or one that only a reader finds. -/
theorem exec_scrub_found : exec (.scrub a ⟨k, reader⟩) s =
    if scrubHbm a then (if !reader && decide (s.odGet 0x3300 1 = 0) then .next s else .next (scrubLine s a k))
    else if !reader then .next s else .next (readerFinds s a k) := by
  have hawake : ¬ ((decide (s.modState = stCold) || s.modState == stBoot || k == 0) = true) := by
    have hmode : s.modState ≠ stCold ∧ s.modState ≠ stBoot := by unfold stCold stBoot; unfold stQuiet at hquiet; omega
    simp [hmode, hk]
  refine (if_neg hawake).trans (if_congr Iff.rfl (if_congr Iff.rfl rfl ?_) (if_congr Iff.rfl rfl ?_))
  · exact (apply_ite Host.Outcome.next _ _ _).symm
  · exact (apply_ite Host.Outcome.next _ _ _).symm

theorem exec_scrub_line (ha : scrubHbm a = true) (hon : s.odGet 0x3300 1 ≠ 0 ∨ reader = true) :
    exec (.scrub a ⟨k, reader⟩) s = .next (scrubLine s a k) := by
  rw [exec_scrub_found hquiet hk, if_pos ha]
  refine if_neg ?_
  rcases hon with hon | hon
  · simp [hon]
  · simp [hon]

theorem exec_scrub_stopped (ha : scrubHbm a = true) (hoff : s.odGet 0x3300 1 = 0) : exec (.scrub a ⟨k, false⟩) s = .next s := by
  rw [exec_scrub_found hquiet hk, if_pos ha]
  exact if_pos (by simp [hoff])

theorem exec_scrub_elsewhere (ha : scrubHbm a = false) : exec (.scrub a ⟨k, false⟩) s = .next s := by
  rw [exec_scrub_found hquiet hk, ha]
  rfl

theorem exec_scrub_reader (ha : scrubHbm a = false) : exec (.scrub a ⟨k, true⟩) s = .next (readerFinds s a k) := by
  rw [exec_scrub_found hquiet hk, ha]
  rfl

end

theorem scrubLine_corrects : scrubLine s a 1 = State.bump { s with wrong := fdel s.wrong (a / 64) } 0x3300 2 := rfl

theorem scrubLine_fatal (hk : 2 ≤ k) : scrubLine s a k = State.eccFault { s with wrong := fput 0 s.wrong (a / 64) k } a := if_neg (by omega)

section
variable (ha : a < slowBase)
include ha

theorem readerFinds_counts : readerFinds s a 1 = s.bump 0x3300 3 := if_neg (Nat.not_le.mpr ha)

theorem readerFinds_fatal (hk : 2 ≤ k) : readerFinds s a k = s.eccFault a := (if_neg (Nat.not_le.mpr ha)).trans (if_neg (by omega))

end

section
variable (ha : slowBase ≤ a)
include ha

theorem readerFinds_slow_corrects : readerFinds s a 1 = s := if_pos ha

theorem readerFinds_slow_fatal (hk : 2 ≤ k) (hmap : s.inSlow a 1 = true) : readerFinds s a k = s.eccFault a := by
  have h1 : k ≠ 1 := by omega
  exact (if_pos ha).trans (if_neg (by simp [hmap, h1]))

theorem readerFinds_slow_unmapped (hmap : s.inSlow a 1 = false) : readerFinds s a k = s := (if_pos ha).trans (if_pos (by simp [hmap]))

end

end

end Sys2Proof.Machine

open Sys2Proof Sys2Proof.Machine

/-- Settles O41: a write by its bytes and what it leaves, and an error by where it lies, who finds it and how many symbols are wrong. -/
theorem memoryKeeps : Obligations.MemoryKeeps := by
  refine ⟨fun s a bs ha => ?write, fun s a k reader hquiet hb hk ho => ?hbm, fun s a k hquiet hout => ?elsewhere,
    fun s a k reader hq => exec_scrub_before_quiet hq _, fun s a => ⟨rfl, rfl⟩⟩
  case write =>
    exact ⟨memByte_writeBytes s bs ha, writeBytes_slow_below s bs ha, writeBytes_od s a bs, writeBytes_pinions s a bs,
      readBytes_writeBytes_same s⟩
  case hbm =>
    have hline := scrubHbm_of_inside hb hk ho
    refine ⟨exec_scrub_sound reader, fun hoff hr => ?_, fun hon => ⟨?_, fun h2 => ?_⟩⟩
    · subst hr
      by_cases h0 : k = 0
      · rw [h0]
        exact exec_scrub_sound false
      · exact exec_scrub_stopped hquiet h0 hline hoff
    · exact exec_scrub_line hquiet Nat.one_ne_zero hline hon
    · rw [exec_scrub_line hquiet (by omega) hline hon, scrubLine_fatal h2]
  case elsewhere =>
    have hline := scrubHbm_of_outside hout
    refine ⟨?_, exec_scrub_sound true, fun ha => ⟨?_, fun h2 => ?_⟩, fun ha => ⟨?_, fun h2 hmap => ?_, fun hmap => ?_⟩⟩
    · by_cases h0 : k = 0
      · rw [h0]
        exact exec_scrub_sound false
      · exact exec_scrub_elsewhere hquiet h0 hline
    · rw [exec_scrub_reader hquiet Nat.one_ne_zero hline, readerFinds_counts ha]
    · rw [exec_scrub_reader hquiet (by omega) hline, readerFinds_fatal ha h2]
    · rw [exec_scrub_reader hquiet Nat.one_ne_zero hline, readerFinds_slow_corrects ha]
    · rw [exec_scrub_reader hquiet (by omega) hline, readerFinds_slow_fatal ha h2 hmap]
    · by_cases h0 : k = 0
      · rw [h0]
        exact exec_scrub_sound true
      · rw [exec_scrub_reader hquiet h0 hline, readerFinds_slow_unmapped ha hmap]
end

section
/-! SUPPORT. INNER (R123, R124, R125, R128): the numbers that an entry reads, its run in each tier with sound gradients and with a
non-finite one, and the statement. -/

namespace Sys2Proof.Machine

/-! ### What the entry reads (Table 5.5) -/

/-- The factor c of R123. -/
def innerScale (s : State) (d : List Byte) : Nat := s.readNat (rdLe d 0x20 8) 4

/-- The norm n of R123, which rule 2 alone reads. -/
def innerNorm (s : State) (d : List Byte) : Nat := if rdLe d 4 1 = 2 then s.readNat (rdLe d 0x28 8) 4 else 0

/-- The factor a of R124. -/
def innerFactor (s : State) (d : List Byte) : Nat := ruleFactor (rdLe d 4 1) (rdLe d 0x1C 4) (innerScale s d) (innerNorm s d)

/-- The gradients. -/
def innerGrads (s : State) (d : List Byte) : List FV :=
  (numsOf 4 (s.readBytes (rdLe d 0x10 8) (4 * shElems (s.shard (rdLe d 8 8))))).map dec32

/-- The rows of the gradients, numbered (R128). -/
def innerRows (s : State) (d : List Byte) : List (Nat × List FV) :=
  (List.range (chunksOf (rowLen d) (innerGrads s d)).length).zip (chunksOf (rowLen d) (innerGrads s d))

/-! ### The run -/

section
variable {s : State} {u a e : Nat} {d : List Byte}

theorem exec_inner (hd : UnitRuns s u 3 d) : exec (.inner u) s = runInner s u d := (exec_inner_eq u s).trans (unitCommand_runs hd rfl rfl)

theorem runInner_skips (hg : gateFails (rdLe d 4 1) (innerScale s d) (innerNorm s d) = true) :
    runInner s u d = .next (uqFinish (s.bump 0x3400 6) u (rdLe d 0x30 4)) := if_pos hg

section
variable (hg : gateFails (rdLe d 4 1) (innerScale s d) (innerNorm s d) = false)
include hg

theorem runInner_hbm (hs : shSlow (s.shard (rdLe d 8 8)) = false) : runInner s u d = .next (innerHbm s u d (innerFactor s d)) :=
  (if_neg (ne_true_of_eq_false hg)).trans (if_neg (ne_true_of_eq_false hs))

theorem runInner_slow (hs : shSlow (s.shard (rdLe d 8 8)) = true) : runInner s u d = innerSlow s u d (innerFactor s d) :=
  (if_neg (ne_true_of_eq_false hg)).trans (if_pos hs)

end

section
variable (hbad : firstBad (innerGrads s d) = none)
include hbad

/-- Sound gradients: the rule on every element, then version and digest. -/
theorem innerHbm_sound : innerHbm s u d a =
    uqFinish ((((innerRow s (rdLe d 4 1) a (shFmt (s.shard (rdLe d 8 8))) (rdLe d 8 8 + 64) (innerGrads s d)).bumpVersion
      (rdLe d 8 8)).sealShard (rdLe d 8 8)).bump 0x3400 4) u (rdLe d 0x30 4) := by
  unfold innerGrads at *
  unfold innerHbm
  dsimp only
  rw [hbad]

/-- Sound gradients: every row by R128, then the version, and the digest where rows were applied directly. -/
theorem innerSlow_sound : innerSlow s u d a =
    (let r := (innerRows s d).foldl (innerLogRow d a (rowLen d)) (s, false)
     let t := r.1.bumpVersion (rdLe d 8 8)
     .next (uqFinish ((if r.2 then t.sealShard (rdLe d 8 8) else t.clearValid (rdLe d 8 8)).bump 0x3400 4) u (rdLe d 0x30 4))) := by
  unfold innerRows innerGrads at *
  unfold innerSlow
  dsimp only
  rw [hbad]

end

section
variable (hbad : firstBad (innerGrads s d) = some e)
include hbad

/-- A non-finite gradient: an open number of the whole lines before it is written (log 36). -/
theorem innerHbm_bad : innerHbm s u d a =
    (let o := s.draw 64
     let w := paramW (shFmt (s.shard (rdLe d 8 8)))
     lateNonfinite (innerRow o.2 (rdLe d 4 1) a (shFmt (s.shard (rdLe d 8 8))) (rdLe d 8 8 + 64)
       ((innerGrads s d).take (o.1.toNat % (e * w / 64 + 1) * 64 / w)))) := by
  unfold innerGrads at *
  unfold innerHbm
  dsimp only
  rw [hbad]

/-- A non-finite gradient: an open number of the rows before its own is taken (log 36). -/
theorem innerSlow_bad : innerSlow s u d a =
    (let o := s.draw 64
     .next (lateNonfinite (((innerRows s d).take (o.1.toNat % (e / rowLen d + 1))).foldl (innerLogRow d a (rowLen d)) (o.2, false)).1)) := by
  unfold innerRows innerGrads at *
  unfold innerSlow
  dsimp only
  rw [hbad]

end

end

end Sys2Proof.Machine

open Sys2Proof Sys2Proof.Machine

/-- Settles O39: the gate, and each tier with sound gradients and with a non-finite one. -/
theorem innerSteps : Obligations.InnerSteps := by
  refine ⟨fun s u d hd => ?_, fun s => rfl⟩
  rw [exec_inner hd]
  exact ⟨runInner_skips, fun hg hs hbad => (runInner_hbm hg hs).trans (congrArg _ (innerHbm_sound hbad)),
    fun hg hs e hbad => (runInner_hbm hg hs).trans (congrArg _ (innerHbm_bad hbad)),
    fun hg hs hbad => (runInner_slow hg hs).trans (innerSlow_sound hbad),
    fun hg hs e hbad => (runInner_slow hg hs).trans (innerSlow_bad hbad)⟩
end

section
/-! SUPPORT. Every command but INTERNAL_TEST answers a next state, and LOG_APPLY on a log with undefined contents (R113, R130): what its open
writes leave, and the statement. -/

namespace Sys2Proof.Machine

/-! ### Outcomes that are a next state -/

/-- The outcome is a next state. -/
def Answers (o : Host.Outcome State Fault Refusal) : Prop := ∃ t, o = .next t

theorem answers_next (t : State) : Answers (.next t) := ⟨t, rfl⟩

theorem answers_ite {p : Prop} [Decidable p] {a b : Host.Outcome State Fault Refusal} (ha : Answers a) (hb : Answers b) :
    Answers (if p then a else b) := by
  split
  · exact ha
  · exact hb

theorem answers_elim {β : Type} {o : Option β} {a : Host.Outcome State Fault Refusal} {f : β → Host.Outcome State Fault Refusal}
    (ha : Answers a) (hf : ∀ b, Answers (f b)) : Answers (o.elim a f) := by
  cases o with
  | none => exact ha
  | some b => exact hf b

/-! ### The entries of the update units and the Fusees -/

section
variable {u kind : Nat} {mine : List Byte → Bool} {body : UnitBody} (hbody : ∀ s d desc, Answers (body s d desc)) (s : State)
include hbody

theorem answers_entryRun : Answers (entryRun u kind body s) :=
  answers_elim (answers_elim (hbody _ _ _) (fun _ => answers_next _)) (fun _ => answers_next _)

theorem answers_entryOwn : Answers (entryOwn u kind mine body s) :=
  answers_ite (answers_next _) (answers_ite (answers_next _) (answers_ite (answers_next _) (answers_entryRun hbody s)))

theorem answers_entryCourse : Answers (entryCourse u kind mine body s) :=
  answers_ite (answers_next _) (answers_ite (answers_next _) (answers_ite (answers_next _) (answers_entryOwn hbody s)))

/-- A command of the update units answers when what it does with a descriptor answers. -/
theorem answers_unitCommand : Answers (unitCommand u kind mine body s) := by
  rw [unitCommand_eq]
  exact answers_ite (answers_next _) (answers_elim (answers_entryCourse hbody s) (fun _ => answers_next _))

end

theorem answers_innerSlow (s : State) (u : Nat) (d : List Byte) (a : Nat) : Answers (innerSlow s u d a) := by
  cases hbad : firstBad (innerGrads s d) with
  | none => exact ⟨_, innerSlow_sound hbad⟩
  | some e => exact ⟨_, innerSlow_bad hbad⟩

theorem answers_runInner (s : State) (u : Nat) (d : List Byte) : Answers (runInner s u d) :=
  answers_ite (answers_next _) (answers_ite (answers_innerSlow s u d _) (answers_next _))

theorem answers_fuseeCommand (d kind : Nat) (body : State → List Byte → State) (s : State) : Answers (fuseeCommand d kind body s) := by
  refine answers_ite ?_ (answers_next _)
  dsimp only
  split
  · exact answers_next _
  · refine answers_ite (answers_next _) (answers_ite (answers_next _) (answers_ite (answers_next _) (answers_ite (answers_next _) ?_)))
    split
    · exact answers_next _
    · split
      · exact answers_next _
      · exact answers_next _

/-! ### Every command -/

/-- Each branch of a command's meaning ends in a next state: the meanings that branch on what the state answers, those that look first for
the packet, the frame or the message that has come, and those with a single end. -/
theorem exec_answers (c : Instr) (s : State) (h : ∀ b, c ≠ .internalTest b) : Answers (exec c s) := by
  cases c
  case internalTest b => exact absurd rfl (h b)
  case tiesum | normEntry | outer | digest | logApply | coordExport | coordImport =>
    dsimp only [exec, execTiesum, execNormEntry, execOuter, execDigest, execLogApply, execCoordExport, execCoordImport]
    exact answers_unitCommand (fun _ _ _ => answers_next _) s
  case inner u =>
    rw [exec_inner_eq]
    exact answers_unitCommand (fun s d _ => answers_runInner s u d) s
  case efadd | ortho | resid | pack | check | foldDigest =>
    dsimp only [exec, execEfadd, execOrtho, execResid, execPack, execCheck, execFoldDigest]
    exact answers_fuseeCommand _ _ _ s
  case streamDescriptor | handSwitch | syncApply | passComplete | lastKStepEntered | handStall | t1Silence | t2Silence | dieWatchdog
      | moduleWatchdog | transferSettle | dumpComplete | dumpLimit | vdlTimeout | crownHeartbeat | crownReturn | trainResetComplete
      | flit | replayLimit | portTrained | trainingTimeout | scrub | arp | neighborDiscovery | timeExchange | rtoExpiry | farPortUp
      | anchorTimeout | siteRestart | ref10mLoss | ref10mReturn | powerSample | sagWarning | sagClear | powerOn | railWarning
      | railWarningClear | railReset | thermalSample | thermalTrip | resetPin | resetPinHeld | resetPinRelease | bootStepComplete
      | bootStepTimeout | recoveryImage | bistComplete | vdlLinkUp | configRead | configWrite | apertureRead | apertureWrite
      | notifyResend | sessionIdle | pendingSessionExpiry | blobAbandon | debugExpiry | bypass | idcode | samplePreload | extest
      | clamp | highz =>
    repeat' refine answers_ite ?_ ?_
    all_goals exact answers_next _
  case pendingStreamStart | waitRelease | dataMoveDescriptor | epilogueService | readmitScrubDone =>
    dsimp only [exec, execPendingStreamStart, execWaitRelease, execDataMoveDescriptor, execEpilogueService, execReadmitScrubDone]
    repeat' split
    all_goals exact answers_next _
  case syncInc | cack | scalarPacket | timePacket | siteStop | regather | putFault | passReady | permuteDone | putPacket | permutePacket
      | permutePass | relay | mgmt | chunkRetry =>
    dsimp only [exec, execSyncInc, execCack, execScalarPacket, execTimePacket, execSiteStop, execRegather, execPutFault, execPassReady,
      execPermuteDone, execPutPacket, execPermutePacket, execPermutePass, execRelay, execMgmt, execChunkRetry]
    repeat' split
    all_goals exact answers_next _
  case dataFrame | ackFrame | retireFrame | timeSync | timeFollow | timeDreq | timeDresp | hsInit | hsResp | frameSend | relayGrant =>
    dsimp only [exec, execDataFrame, execAckFrame, execRetireFrame, execTimeSync, execTimeFollow, execTimeDreq, execTimeDresp, execHsInit,
      execHsResp, execFrameSend, execRelayGrant]
    repeat' split
    all_goals exact answers_next _
  case contribMessage | manifest | baseReq | baseData | rejectNotice | fetchRetry | roundDeadline | view | claim | endorse =>
    dsimp only [exec, execContribMessage, execManifest, execBaseReq, execBaseData, execRejectNotice, execFetchRetry, execRoundDeadline,
      execView, execClaim, execEndorse]
    repeat' split
    all_goals exact answers_next _
  all_goals exact answers_next _

/-! ### A log with undefined contents (R113, R130) -/

theorem region_ne_slowTier (s : State) {a : Nat} (n : Nat) (h : a < slowBase) : s.region a n ≠ .slowTier := by
  unfold State.region
  rw [if_pos h]
  dsimp only
  repeat' split
  all_goals exact Region.noConfusion

theorem slowBase_le_of_inSlow {s : State} {a n : Nat} (h : s.inSlow a n = true) : slowBase ≤ a := by
  by_contra hlt
  have hne := region_ne_slowTier s n (Nat.not_le.mp hlt)
  unfold State.inSlow at h
  split at h
  · contradiction
  · cases h

theorem writeBytes_mem_slow (s : State) {a : Nat} (bs : List Byte) (h : slowBase ≤ a) : (s.writeBytes a bs).mem = s.mem := by
  unfold State.writeBytes
  rw [if_pos h, slowWrite_mem]

/-- Writes of the slow tier, one after another, leave the module's own memory and the dictionary. -/
theorem foldl_writeBytes_slow (cs : List (Nat × Byte)) (s : State) (h : ∀ c ∈ cs, slowBase ≤ c.1) :
    (cs.foldl (fun a c => a.writeBytes c.1 [c.2]) s).mem = s.mem ∧ (cs.foldl (fun a c => a.writeBytes c.1 [c.2]) s).od = s.od := by
  induction cs generalizing s with
  | nil => exact ⟨rfl, rfl⟩
  | cons c cs ih =>
    obtain ⟨hmem, hod⟩ := ih (s.writeBytes c.1 [c.2]) (fun x hx => h x (List.mem_cons_of_mem c hx))
    exact ⟨hmem.trans (writeBytes_mem_slow s _ (h c List.mem_cons_self)), hod.trans (writeBytes_od s _ _)⟩

theorem applyOpen_keeps (s : State) : s.applyOpen.mem = s.mem ∧ s.applyOpen.od = s.od := by
  refine foldl_writeBytes_slow _ { s with free := s.free + 1 } (fun c hc => ?_)
  obtain ⟨-, hin⟩ := List.mem_filter.mp hc
  exact slowBase_le_of_inSlow hin

/-- A log whose contents are undefined is released, and of what was applied only the slow tier may show it. -/
theorem applyLog_open {s : State} (hw : s.logWrong = none) (hok : s.logOk = false) :
    s.applyLog.mem = s.mem ∧ s.applyLog.odGet 0x3500 1 = s.odGet 0x3500 2 ∧ s.applyLog.odGet 0x3500 3 = 0 := by
  obtain ⟨hmem, hod⟩ := applyOpen_keeps s
  have hhead : s.applyOpen.odGet 0x3500 2 = s.odGet 0x3500 2 := congrArg (fun m => fget _ m _) hod
  have hlog : s.applyLog = { (s.applyOpen.odSet 0x3500 1 (s.applyOpen.odGet 0x3500 2)).odSet 0x3500 3 0 with
      logFrom := s.applyOpen.logAt } := by
    unfold State.applyLog
    rw [hw, hok]
    rfl
  have htail : ∀ (t : State) (v : Nat), ((t.odSet 0x3500 1 v).odSet 0x3500 3 0).odGet 0x3500 1 = v := fun t v =>
    (odGet_odSet_ne _ 0 (by decide)).trans (odGet_odSet_same t _ _ v)
  rw [hlog, ← hhead]
  exact ⟨hmem, htail s.applyOpen _, odGet_odSet_same (s.applyOpen.odSet 0x3500 1 _) _ _ 0⟩

end Sys2Proof.Machine

open Sys2Proof Sys2Proof.Machine

/-- Settles O6: every branch of every command but one ends in a next state, and LOG_APPLY goes on past a log with undefined contents. -/
theorem everyCommandCompletes : Obligations.EveryCommandCompletes :=
  ⟨exec_answers, fun _u _s _d hd hw hok => ⟨(exec_logApply hd).trans (afterLog_sound _ (fun _ => hw)), applyLog_open hw hok⟩⟩
end

section
/-! SUPPORT. The sync class (02, 2.11; R138, R139): the object that a sync word names, what the issue of a sync instruction leads to, and the
statement. -/

namespace Sys2Proof.Machine

/-! ### The object that a word names (Table 2.14) -/

/-- Which object a word names does not hang on the hand that has issue. -/
theorem sidOf_issuing (s : State) (p h : Nat) (d : Hand) (sid mode : Nat) : (issuing s p h).sidOf p d sid mode = s.sidOf p d sid mode := rfl

/-- An absolute number names an object of the module. -/
theorem sidOf_absolute (s : State) (p : Nat) (d : Hand) (k : Nat) : s.sidOf p d k 0 = .ok k := rfl

theorem sidOf_own (s : State) (p : Nat) (d : Hand) (k : Nat) :
    s.sidOf p d k 1 = if 32 ≤ k then .error fAddr else .ok (p * 32 + k) := rfl

theorem sidOf_train (s : State) (p : Nat) {d : Hand} (k : Nat) {st : Stream} (hst : d.stream = some st) :
    s.sidOf p d k 2 = if (s.trainPinions (st.port / 65536) (st.port % 65536)).length * 32 ≤ k then .error fAddr
      else .ok ((s.trainPinions (st.port / 65536) (st.port % 65536)).headD 0 * 32 + k) := by
  unfold State.sidOf
  rw [hst]
  rfl

theorem sidOf_reserved (s : State) (p : Nat) (d : Hand) (k : Nat) : s.sidOf p d k 3 = .error fIllegal := rfl

/-! ### The issue of a sync instruction -/

/-- What a sync instruction that sends a request does, as `syncIssue` has it. -/
def syncBody (p h row : Nat) (mk : State → Nat → W32 → ReqOp × Bool) (s : State) (d : Hand) (w : W64) : IssueRes :=
  match s.sidOf p d (fld w 38 18) (fld w 36 2) with
  | .error c => .fault c
  | .ok sid =>
    let r := mk s sid (syncV d w)
    let s1 := s.syncSend sid { src := .hand p h d.pc row, op := r.1 }
    if r.2 then .wait s1 else .done s1

theorem syncIssue_eq (s : State) (p h row : Nat) (mk : State → Nat → W32 → ReqOp × Bool) :
    syncIssue s p h row mk = s.issueAs p h row (syncBody p h row mk) := rfl

section
variable {c : Instr} {s t : State} {p h row : Nat} {w : W64} {body : State → Hand → W64 → IssueRes}

/-- An instruction of the sync class that waits stands behind its word, in the wait. -/
theorem exec_waits (hi : Issues s p h row w) (he : exec c s = .next (s.issueAs p h row body))
    (hb : body (issuing s p h) (s.hand p h) w = .wait t) : exec c s = .next (awaits t p h (s.hand p h).pc) := by
  rw [he, issueAs_issues hi, hb]
  rfl

variable {mk : State → Nat → W32 → ReqOp × Bool}

theorem syncBody_error {code : Nat} (hsid : s.sidOf p (s.hand p h) (fld w 38 18) (fld w 36 2) = .error code) :
    syncBody p h row mk (issuing s p h) (s.hand p h) w = .fault code := by
  unfold syncBody
  rw [sidOf_issuing, hsid]

theorem syncBody_ok {sid : Nat} (hsid : s.sidOf p (s.hand p h) (fld w 38 18) (fld w 36 2) = .ok sid) :
    let r := mk (issuing s p h) sid (syncV (s.hand p h) w)
    syncBody p h row mk (issuing s p h) (s.hand p h) w = if r.2 then .wait (sends s p h sid row r.1) else .done (sends s p h sid row r.1) := by
  unfold syncBody
  rw [sidOf_issuing, hsid]
  rfl

/-- A sync instruction whose word names no object raises the fault of its name, and sends nothing. -/
theorem exec_sync_fault {code : Nat} (hi : Issues s p h row w) (hr : row < 0xA300) (he : exec c s = .next (syncIssue s p h row mk))
    (hsid : s.sidOf p (s.hand p h) (fld w 38 18) (fld w 36 2) = .error code) : exec c s = .next (faulted s p h row code) :=
  exec_fault hi hr (he.trans (congrArg _ (syncIssue_eq s p h row mk))) (syncBody_error hsid)

variable {sid : Nat} {op : ReqOp} (hi : Issues s p h row w) (he : exec c s = .next (syncIssue s p h row mk))
  (hsid : s.sidOf p (s.hand p h) (fld w 38 18) (fld w 36 2) = .ok sid)
include hi he hsid

/-- A sync instruction that does not wait: its request is sent, and the hand goes on. -/
theorem exec_sync_goesOn (hmk : mk (issuing s p h) sid (syncV (s.hand p h) w) = (op, false)) :
    exec c s = .next ((sends s p h sid row op).resumeAt p h ((s.hand p h).pc + 1)) :=
  exec_done hi (he.trans (congrArg _ (syncIssue_eq s p h row mk))) ((syncBody_ok hsid).trans (by rw [hmk]; rfl))

/-- A sync instruction that waits: its request is sent, and the hand waits. -/
theorem exec_sync_waits (hmk : mk (issuing s p h) sid (syncV (s.hand p h) w) = (op, true)) :
    exec c s = .next (awaits (sends s p h sid row op) p h (s.hand p h).pc) :=
  exec_waits hi (he.trans (congrArg _ (syncIssue_eq s p h row mk))) ((syncBody_ok hsid).trans (by rw [hmk]; rfl))

end

/-- An ARRIVE waits for the barrier or not (R139). -/
theorem arrives_eq {a b : Bool} (h : a = b) : (ReqOp.arrive a, a) = (ReqOp.arrive b, b) := by rw [h]

/-! ### SBR -/

/-- What SBR does. -/
def sbrBody (p : Nat) (s : State) (d : Hand) (w : W64) : IssueRes :=
  match s.sidOf p d (fld w 38 18) (fld w 36 2) with
  | .error c => .fault c
  | .ok sid =>
    if s.syncIsolated sid then .isolated (s.isolate (s.crossed (s.pinUnits p) (s.pinUnits (sid / 32))))
    else if sbrCond (fld w 34 2) (s.sync sid).count (BitVec.ofNat 32 (fld w 16 16)) then .jump s (fld w 0 11)
    else .done s

theorem exec_sbr_eq (p h : Nat) (s : State) : exec (.sbr p h) s = .next (s.issueAs p h 0x26 (sbrBody p)) := rfl

section
variable {s : State} {p h : Nat} {w : W64}

theorem sbrBody_error {code : Nat} (hsid : s.sidOf p (s.hand p h) (fld w 38 18) (fld w 36 2) = .error code) :
    sbrBody p (issuing s p h) (s.hand p h) w = .fault code := by
  unfold sbrBody
  rw [sidOf_issuing, hsid]

theorem sbrBody_ok {sid : Nat} (hsid : s.sidOf p (s.hand p h) (fld w 38 18) (fld w 36 2) = .ok sid) :
    sbrBody p (issuing s p h) (s.hand p h) w =
      if s.syncIsolated sid then .isolated ((issuing s p h).isolate (s.crossed (s.pinUnits p) (s.pinUnits (sid / 32))))
      else if sbrCond (fld w 34 2) (s.sync sid).count (BitVec.ofNat 32 (fld w 16 16)) then .jump (issuing s p h) (fld w 0 11)
      else .done (issuing s p h) := by
  unfold sbrBody
  rw [sidOf_issuing, hsid]
  rfl

end

end Sys2Proof.Machine

open Sys2Proof Sys2Proof.Machine

/-- Settles O14: the request that each instruction sends, the fault of a word that names no object, and the objects of the four modes. -/
theorem syncInstructions : Obligations.SyncInstructions := by
  refine ⟨fun s p h sid w hsid => ?sent, fun s p h code w hsid i op hop hi => ?fault, fun s p d k => ?named⟩
  case sent =>
    exact ⟨fun hi => exec_sync_goesOn hi rfl hsid rfl, fun hi => exec_sync_goesOn hi rfl hsid rfl,
      fun hi => exec_sync_goesOn hi rfl hsid rfl, fun hi => exec_sync_waits hi rfl hsid rfl, fun hi => exec_sync_waits hi rfl hsid rfl,
      fun hi ht => exec_sync_waits hi rfl hsid (arrives_eq (decide_eq_true ht)),
      fun hi ht => exec_sync_goesOn hi rfl hsid (arrives_eq (decide_eq_false (not_not_intro ht)))⟩
  case fault =>
    simp only [List.mem_cons, Prod.mk.injEq, List.not_mem_nil, or_false] at hop
    obtain ⟨rfl, rfl⟩ | ⟨rfl, rfl⟩ | ⟨rfl, rfl⟩ | ⟨rfl, rfl⟩ | ⟨rfl, rfl⟩ | ⟨rfl, rfl⟩ | ⟨rfl, rfl⟩ := hop
    case inr.inr.inr.inr.inr.inr => exact exec_fault hi (by decide) (exec_sbr_eq p h s) (sbrBody_error hsid)
    all_goals exact exec_sync_fault hi (by decide) rfl hsid
  case named =>
    refine ⟨sidOf_absolute s p d k, fun hk => ?_, fun hk => ?_, sidOf_reserved s p d k, fun st hst => ⟨fun hk => ?_, fun hk => ?_⟩⟩
    · rw [sidOf_own, if_neg (Nat.not_le.mpr hk)]
    · rw [sidOf_own, if_pos hk]
    · rw [sidOf_train s p k hst, if_neg (by omega)]
    · rw [sidOf_train s p k hst, if_pos (by omega)]
end

section
/-! SUPPORT. The first of the least elements of a list, which the rotating priority (R145) and the Escapement (R154) choose. -/

namespace Sys2Proof.Machine

section
variable {α β : Type} [LinearOrder β]

/-- The better of what has been chosen so far and a further element: the further one only where its measure is less. -/
def lesser (f : α → β) (best : Option α) (k : α) : Option α :=
  match best with
  | none => some k
  | some b => if f k < f b then some k else some b

/-- Of a list in which each element bears `R` to every later one, the choice has the least measure, and of those with that measure it is
the first. -/
theorem foldl_lesser_some (f : α → β) {R : α → α → Prop} (htrans : ∀ a b c, R a b → R b c → R a c) (l : List α) (b : α)
    (hl : (b :: l).Pairwise R) : ∃ k, l.foldl (lesser f) (some b) = some k ∧ k ∈ b :: l ∧
      ∀ j ∈ b :: l, f k < f j ∨ (f k = f j ∧ (k = j ∨ R k j)) := by
  induction l generalizing b with
  | nil =>
    refine ⟨b, rfl, List.mem_singleton_self b, fun j hj => ?_⟩
    rw [List.mem_singleton.mp hj]
    exact .inr ⟨rfl, .inl rfl⟩
  | cons c l ih =>
    obtain ⟨hb, hc⟩ := List.pairwise_cons.mp hl
    obtain ⟨hcl, hrest⟩ := List.pairwise_cons.mp hc
    rw [List.foldl_cons, lesser]
    by_cases hlt : f c < f b
    · obtain ⟨k, hk, hmem, hmin⟩ := ih c hc
      rw [if_pos hlt]
      refine ⟨k, hk, List.mem_cons_of_mem b hmem, fun j hj => ?_⟩
      rcases List.mem_cons.mp hj with rfl | hj
      · have hkc : f k ≤ f c := (hmin c List.mem_cons_self).elim le_of_lt (fun h => le_of_eq h.1)
        exact .inl (lt_of_le_of_lt hkc hlt)
      · exact hmin j hj
    · obtain ⟨k, hk, hmem, hmin⟩ := ih b (List.pairwise_cons.mpr ⟨fun a ha => hb a (List.mem_cons_of_mem c ha), hrest⟩)
      rw [if_neg hlt]
      refine ⟨k, hk, ?_, fun j hj => ?_⟩
      · rcases List.mem_cons.mp hmem with rfl | hk'
        · exact List.mem_cons_self
        · exact List.mem_cons_of_mem b (List.mem_cons_of_mem c hk')
      · by_cases hjc : j = c
        · subst hjc
          have hRbj : R b j := hb j List.mem_cons_self
          rcases hmin b List.mem_cons_self with h | ⟨h, hkb⟩
          · exact .inl (lt_of_lt_of_le h (not_lt.mp hlt))
          · rcases lt_or_eq_of_le (not_lt.mp hlt) with hbj | hbj
            · exact .inl (h ▸ hbj)
            · refine .inr ⟨h.trans hbj, .inr ?_⟩
              rcases hkb with rfl | hkb
              · exact hRbj
              · exact htrans k b j hkb hRbj
        · refine hmin j ?_
          rcases List.mem_cons.mp hj with rfl | hj
          · exact List.mem_cons_self
          · exact List.mem_cons_of_mem b ((List.mem_cons.mp hj).resolve_left hjc)

/-- Nothing is chosen only from the empty list, and what is chosen is the first of the least. -/
theorem foldl_lesser (f : α → β) {R : α → α → Prop} (htrans : ∀ a b c, R a b → R b c → R a c) {l : List α} (hl : l.Pairwise R) :
    (l.foldl (lesser f) none = none → l = []) ∧ ∀ k, l.foldl (lesser f) none = some k →
      k ∈ l ∧ ∀ j ∈ l, f k < f j ∨ (f k = f j ∧ (k = j ∨ R k j)) := by
  cases l with
  | nil => exact ⟨fun _ => rfl, fun k hk => by cases hk⟩
  | cons b l =>
    obtain ⟨k, hk, hspec⟩ := foldl_lesser_some f htrans l b hl
    have hsome : (b :: l).foldl (lesser f) none = some k := hk
    rw [hsome]
    refine ⟨fun h => (by cases h), fun k' hk' => ?_⟩
    cases hk'
    exact hspec

end

end Sys2Proof.Machine
end

section
/-! SUPPORT. Serial comparison (R137), the rotating priority (R145) and one cycle of a sync object (R138, R139), and the statements about
them. -/

namespace Sys2Proof.Machine

/-! ### Serial comparison (R137) -/

/-- The difference of two counters is the difference of their values, modulo 2^32. -/
theorem toNat_sub_eq_emod (a v : W32) : ((a - v).toNat : Int) = ((a.toNat : Int) - v.toNat) % 2 ^ 32 := by
  rw [BitVec.toNat_sub]
  omega

theorem serialGe_iff (a v : W32) : serialGe a v = true ↔ ((a.toNat : Int) - v.toNat) % 2 ^ 32 < 2 ^ 31 := by
  rw [serialGe, decide_eq_true_iff, ← toNat_sub_eq_emod]
  omega

theorem sbrCond_ge (a v : W32) : sbrCond 0 a v = serialGe a v := rfl

theorem sbrCond_eq (a v : W32) : sbrCond 1 a v = true ↔ a = v := beq_iff_eq

theorem sbrCond_lt (a v : W32) : sbrCond 2 a v = true ↔ ¬ serialGe a v = true := by
  rw [sbrCond, Bool.not_eq_true', Bool.not_eq_true]

theorem sbrCond_ne (a v : W32) : sbrCond 3 a v = true ↔ a ≠ v := bne_iff_ne

/-! ### The rotating priority (R145) -/

/-- How far behind the pointer a requester stands, counting upward modulo n. -/
def turnsAway (ptr n k : Nat) : Nat := (k + n - ptr) % n

theorem turnsAway_lt {ptr n : Nat} (hp : ptr < n) (k : Nat) : turnsAway ptr n k < n := Nat.mod_lt _ (by omega)

theorem turnsAway_add {ptr n i : Nat} (hp : ptr < n) (hi : i < n) : turnsAway ptr n ((ptr + i) % n) = i := by
  unfold turnsAway
  by_cases h : ptr + i < n
  · rw [Nat.mod_eq_of_lt h, show ptr + i + n - ptr = i + n by omega, Nat.add_mod_right, Nat.mod_eq_of_lt hi]
  · rw [Nat.mod_eq_sub_mod (not_lt.mp h), Nat.mod_eq_of_lt (by omega : ptr + i - n < n), show ptr + i - n + n - ptr = i by omega,
      Nat.mod_eq_of_lt hi]

theorem add_turnsAway {ptr n k : Nat} (hp : ptr < n) (hk : k < n) : (ptr + turnsAway ptr n k) % n = k := by
  unfold turnsAway
  by_cases h : ptr ≤ k
  · rw [show k + n - ptr = (k - ptr) + n by omega, Nat.add_mod_right, Nat.mod_eq_of_lt (by omega : k - ptr < n),
      show ptr + (k - ptr) = k by omega, Nat.mod_eq_of_lt hk]
  · rw [Nat.mod_eq_of_lt (by omega : k + n - ptr < n), show ptr + (k + n - ptr) = k + n by omega, Nat.add_mod_right,
      Nat.mod_eq_of_lt hk]

/-- The rule chooses the requester that stands least far behind the pointer. -/
theorem grant_eq_foldl (asking : List Nat) (ptr n : Nat) : grant asking ptr n = asking.foldl (lesser (turnsAway ptr n)) none := by
  unfold grant
  congr 1
  funext best k
  cases best <;> rfl

theorem grant_spec (asking : List Nat) (ptr n : Nat) : (grant asking ptr n = none → asking = []) ∧
    ∀ k, grant asking ptr n = some k → k ∈ asking ∧ ∀ j ∈ asking, turnsAway ptr n k ≤ turnsAway ptr n j := by
  obtain ⟨hnone, hsome⟩ := foldl_lesser (turnsAway ptr n) (R := fun _ _ => True) (fun _ _ _ _ _ => trivial)
    (List.pairwise_of_forall (l := asking) (fun _ _ => trivial))
  rw [grant_eq_foldl]
  refine ⟨hnone, fun k hk => ?_⟩
  obtain ⟨hmem, hmin⟩ := hsome k hk
  exact ⟨hmem, fun j hj => (hmin j hj).elim le_of_lt (fun h => le_of_eq h.1)⟩

/-- The first asking requester at or after the pointer, counting upward modulo n. -/
theorem grant_eq_find? {asking : List Nat} {ptr n : Nat} (hp : ptr < n) (hk : ∀ k ∈ asking, k < n) :
    grant asking ptr n = ((List.range n).map (fun i => (ptr + i) % n)).find? (fun k => asking.contains k) := by
  obtain ⟨hnone, hsome⟩ := grant_spec asking ptr n
  cases hg : grant asking ptr n with
  | none =>
    rw [hnone hg]
    exact (List.find?_eq_none.mpr (fun _ _ h => by cases h)).symm
  | some k =>
    obtain ⟨hmem, hmin⟩ := hsome k hg
    have hfirst : (List.range n).find? (fun i => asking.contains ((ptr + i) % n)) = some (turnsAway ptr n k) := by
      refine List.find?_range_eq_some.mpr ⟨?_, List.mem_range.mpr (turnsAway_lt hp k), fun j hj => ?_⟩
      · rw [add_turnsAway hp (hk k hmem)]
        exact List.contains_iff_mem.mpr hmem
      · rw [Bool.not_eq_true', ← Bool.not_eq_true, List.contains_iff_mem]
        intro hin
        have hle := hmin _ hin
        rw [turnsAway_add hp (hj.trans (turnsAway_lt hp k))] at hle
        omega
    rw [List.find?_map]
    exact ((congrArg (Option.map fun i => (ptr + i) % n) hfirst).trans (congrArg some (add_turnsAway hp (hk k hmem)))).symm

/-! ### The acquiring operation (R138) -/

/-- The acquiring operation changes, beside the count and TARGET, the pointer and the requests that wait. -/
theorem acquireOne_keeps (n : Nat) (o : SyncObj) : (acquireOne n o).phase = o.phase ∧ (acquireOne n o).onWay = o.onWay ∧
    (acquireOne n o).waiters = o.waiters := by
  unfold acquireOne
  split
  · exact ⟨rfl, rfl, rfl⟩
  · dsimp only
    split <;> exact ⟨rfl, rfl, rfl⟩

theorem acquireOne_none (n : Nat) {o : SyncObj} (h : o.acq = []) : acquireOne n o = o := by
  unfold acquireOne
  rw [h]
  rfl

theorem acquireOne_ptr (n : Nat) {k : Nat} {o : SyncObj} (h : grant (o.acq.map reqNum) o.ptr n = some k) :
    (acquireOne n o).ptr = (k + 1) % n := by
  unfold acquireOne
  rw [h]
  dsimp only
  split <;> rfl

/-! ### The cycle (R138, R139) -/

/-- The object after the acquiring operation of a cycle. -/
def afterAcquire (n : Nat) (o : SyncObj) (reached : List Req) : SyncObj :=
  acquireOne n { o with acq := o.acq ++ reached.filter (fun r => match r.op with
    | .set _ => true
    | .tgt _ => true
    | _ => false) }

/-- The count after the increments of a cycle. -/
def cycleCount (n : Nat) (o : SyncObj) (reached : List Req) : W32 := (afterAcquire n o reached).count + (reached.map addend).sum

/-- Does the barrier trip in a cycle? -/
def cycleTrips (n : Nat) (o : SyncObj) (reached : List Req) : Bool :=
  decide ((afterAcquire n o reached).target ≠ 0) &&
    serialGe (cycleCount n o reached) ((afterAcquire n o reached).target.setWidth 32)

/-- The object at the end of a cycle, before its waiters leave. -/
def cycleEnd (n : Nat) (o : SyncObj) (reached : List Req) : SyncObj :=
  let o1 := afterAcquire n o reached
  { o1 with
    count := if cycleTrips n o reached then cycleCount n o reached - o1.target.setWidth 32 else cycleCount n o reached
    phase := if cycleTrips n o reached then !o1.phase else o1.phase
    waiters := o1.waiters ++ reached.filter waits }

/-- Increments add up, whichever comes first. -/
theorem foldl_addend (reached : List Req) (c : W32) : reached.foldl (fun a r => a + addend r) c = c + (reached.map addend).sum := by
  induction reached generalizing c with
  | nil => exact (BitVec.add_zero c).symm
  | cons r rs ih => rw [List.foldl_cons, ih, List.map_cons, List.sum_cons, BitVec.add_assoc]

theorem applyCycle_eq (n : Nat) (o : SyncObj) (reached : List Req) : applyCycle n o reached =
    ({ cycleEnd n o reached with waiters := (cycleEnd n o reached).waiters.filter (fun r => !released (cycleEnd n o reached)
      (cycleTrips n o reached) r) }, (cycleEnd n o reached).waiters.filter (released (cycleEnd n o reached) (cycleTrips n o reached))) := by
  unfold applyCycle
  dsimp only
  rw [foldl_addend]
  rfl

theorem applyCycle_count (n : Nat) (o : SyncObj) (reached : List Req) : (applyCycle n o reached).1.count =
    if cycleTrips n o reached then cycleCount n o reached - (afterAcquire n o reached).target.setWidth 32 else cycleCount n o reached :=
  congrArg (fun r => r.1.count) (applyCycle_eq n o reached)

/-- PHASE toggles as the barrier trips. -/
theorem applyCycle_phase (n : Nat) (o : SyncObj) (reached : List Req) :
    (applyCycle n o reached).1.phase = (o.phase != cycleTrips n o reached) := by
  have hphase : (afterAcquire n o reached).phase = o.phase := (acquireOne_keeps n _).1
  rw [applyCycle_eq, cycleEnd, hphase]
  cases cycleTrips n o reached <;> cases o.phase <;> rfl

theorem cycleEnd_waiters (n : Nat) (o : SyncObj) (reached : List Req) (q : Req) :
    q ∈ (cycleEnd n o reached).waiters ↔ q ∈ o.waiters ∨ q ∈ reached ∧ waits q = true := by
  have hwaiters : (afterAcquire n o reached).waiters = o.waiters := (acquireOne_keeps n _).2.2
  rw [cycleEnd, hwaiters, List.mem_append, List.mem_filter]

/-- A condition looks at nothing but the count. -/
theorem released_congr {o o' : SyncObj} (h : o'.count = o.count) (trip : Bool) (q : Req) : released o' trip q = released o trip q := by
  unfold released
  rw [h]

theorem mem_applyCycle_released (n : Nat) (o : SyncObj) (reached : List Req) (q : Req) : q ∈ (applyCycle n o reached).2 ↔
    (q ∈ o.waiters ∨ q ∈ reached ∧ waits q = true) ∧ released (applyCycle n o reached).1 (cycleTrips n o reached) q = true := by
  rw [applyCycle_eq, List.mem_filter, cycleEnd_waiters]
  rfl

theorem mem_applyCycle_waiters (n : Nat) (o : SyncObj) (reached : List Req) (q : Req) : q ∈ (applyCycle n o reached).1.waiters ↔
    (q ∈ o.waiters ∨ q ∈ reached ∧ waits q = true) ∧ released (applyCycle n o reached).1 (cycleTrips n o reached) q = false := by
  rw [applyCycle_eq, List.mem_filter, cycleEnd_waiters, Bool.not_eq_true']
  rfl

/-! ### Cycles of one request -/

section
variable {n : Nat} {o : SyncObj} (src : ReqSrc) (hacq : o.acq = [])
include hacq

theorem afterAcquire_add (v : W32) : afterAcquire n o [{ src := src, op := .add v }] = o := by
  have h : afterAcquire n o [{ src := src, op := .add v }] = acquireOne n o := congrArg (fun l => acquireOne n { o with acq := l })
    (List.append_nil _)
  exact h.trans (acquireOne_none n hacq)

theorem afterAcquire_arrive (w : Bool) : afterAcquire n o [{ src := src, op := .arrive w }] = o := by
  have h : afterAcquire n o [{ src := src, op := .arrive w }] = acquireOne n o := congrArg (fun l => acquireOne n { o with acq := l })
    (List.append_nil _)
  exact h.trans (acquireOne_none n hacq)

/-- Without a TARGET an ADD counts, modulo 2^32. -/
theorem applyCycle_add (v : W32) (ht : o.target = 0) :
    (applyCycle n o [{ src := src, op := .add v }]).1.count.toNat = (o.count.toNat + v.toNat) % 2 ^ 32 := by
  have hno : cycleTrips n o [{ src := src, op := .add v }] = false := by
    rw [cycleTrips, afterAcquire_add src hacq, ht]
    rfl
  rw [applyCycle_count, hno, cycleCount, afterAcquire_add src hacq]
  simp [addend, BitVec.toNat_add]

omit hacq in
theorem bne_ne_left_iff (a b : Bool) : (a != b) ≠ a ↔ b = true := by revert a b; decide

/-- With a TARGET an ARRIVE trips the barrier as the count that it leaves meets TARGET. -/
theorem applyCycle_arrive (w : Bool) (ht : o.target ≠ 0) : (applyCycle n o [{ src := src, op := .arrive w }]).1.phase ≠ o.phase ↔
    ((o.count.toNat : Int) + 1 - o.target.toNat) % 2 ^ 32 < 2 ^ 31 := by
  have htrip : cycleTrips n o [{ src := src, op := .arrive w }] = serialGe (o.count + 1) (o.target.setWidth 32) := by
    rw [cycleTrips, cycleCount, afterAcquire_arrive src hacq, decide_eq_true ht]
    simp [addend]
  rw [applyCycle_phase, htrip, bne_ne_left_iff, serialGe_iff]
  have hone : (1 : W32).toNat = 1 := rfl
  rw [BitVec.toNat_add, BitVec.toNat_setWidth, hone]
  omega

end

end Sys2Proof.Machine

open Sys2Proof Sys2Proof.Machine

/-- Settles O15: the serial comparison in integers, and the waits, the barrier and SBR, which all compare by it. -/
theorem serialComparison : Obligations.SerialComparison := by
  refine ⟨fun a v => ⟨serialGe_iff a v, serialGe_iff a v, sbrCond_eq a v, (sbrCond_lt a v).trans (not_congr (serialGe_iff a v)), sbrCond_ne a v⟩,
    fun o b src v => ⟨serialGe_iff o.count v, beq_iff_eq⟩,
    fun n o src v hacq => ⟨applyCycle_add src hacq v, applyCycle_arrive src hacq true⟩, fun s p h sid w hi hsid => ?sbr⟩
  case sbr =>
    have hbody := sbrBody_ok (h := h) hsid
    refine ⟨fun hin hc => ?_, fun hin hc => ?_, fun hin => ?_⟩
    · exact branchesTo_self hi (exec_sbr_eq p h s) (hbody.trans (by rw [hin, hc]; rfl))
    · exact runsOn_self hi (exec_sbr_eq p h s) (hbody.trans (by rw [hin, hc]; rfl))
    · rw [exec_sbr_eq, issueAs_issues hi, hbody, hin, hi.opcode (by decide)]
      rfl

/-- Settles O16: the order of a cycle, by what each of its parts leaves, and the rotating priority. -/
theorem objectCycle : Obligations.ObjectCycle := by
  refine ⟨fun n o reached => ?cycle, fun asking ptr n hp hk => grant_eq_find? hp hk, fun n k o hg => acquireOne_ptr n hg⟩
  obtain ⟨-, honWay, -⟩ := acquireOne_keeps n { o with acq := o.acq ++ reached.filter (fun r => match r.op with
    | .set _ => true
    | .tgt _ => true
    | _ => false) }
  refine ⟨applyCycle_count n o reached, applyCycle_phase n o reached, ?_, ?_, ?_, mem_applyCycle_released n o reached,
    mem_applyCycle_waiters n o reached⟩
  · rw [applyCycle_eq]; rfl
  · rw [applyCycle_eq]; rfl
  · rw [applyCycle_eq]; exact honWay
end

section
/-! SUPPORT. SYNC_APPLY at an object in service and at one behind a closed Bezel (R138, R142), WAIT_RELEASE (R141, R52), and the statement. -/

namespace Sys2Proof.Machine

/-! ### SYNC_APPLY -/

section
variable {sid : Nat} {reach : List Nat} {s : State} (hsid : sid < 262144)
  (hfirst : reach.all (firstOfSource (s.sync sid).onWay) = true)
include hsid hfirst

theorem syncApply_guard : (decide (sid < 262144) && reach.all (firstOfSource (s.sync sid).onWay)) = true := by
  rw [decide_eq_true hsid, hfirst, Bool.and_self]

theorem exec_syncApply_inService (hin : s.syncIsolated sid = false) :
    let reached := pick (s.sync sid).onWay reach
    let r := applyCycle (2 * s.pinCount) { s.sync sid with onWay := leave (s.sync sid).onWay reach } reached
    let t := r.2.foldl releaseHand (s.syncMod sid (fun _ => r.1))
    exec (.syncApply sid reach) s =
      .next (State.countReplays (State.sealLatch { t with relStamp := t.relStamp + 1 } sid reached) sid reached) :=
  (if_pos (syncApply_guard hsid hfirst)).trans (if_neg (by rw [hin]; exact Bool.false_ne_true))

theorem exec_syncApply_isolated (hin : s.syncIsolated sid = true) :
    let reached := pick (s.sync sid).onWay reach
    exec (.syncApply sid reach) s = .next (reached.foldl isolatedReq
      ((s.syncMod sid (fun x => { x with onWay := leave (s.sync sid).onWay reach })).isolate
        (reached.flatMap (fun r => s.crossed (match r.src with
          | .hand p _ _ _ => s.pinUnits p
          | _ => [(5, 0)]) (s.pinUnits (sid / 32)))))) :=
  (if_pos (syncApply_guard hsid hfirst)).trans (if_pos hin)

end

/-- A hand that waits is let go with the stamp of the cycle. -/
theorem releaseHand_syncWait {s : State} {p h : Nat} (pc op : Nat) (o : ReqOp) (hst : (s.hand p h).st = .syncWait) :
    releaseHand s { src := .hand p h pc op, op := o } = s.setHand p h { s.hand p h with st := .released s.relStamp } := if_pos hst

/-! ### WAIT_RELEASE -/

/-- Hands become ready in one cycle where one cycle of an object has let both go. -/
theorem sameRelease_iff (n : Nat) (st : HandSt) : sameRelease (.released n) st = true ↔ st = .released n := by
  cases st with
  | released m => rw [sameRelease, beq_iff_eq, HandSt.released.injEq, eq_comm]
  | _ => simp [sameRelease]

/-- Both hands of a pinion become ready, and issue is with the one that the rotating-priority rule chooses (R52). -/
def bothReady (s : State) (p h : Nat) : State :=
  let g := (s.pin p).handPtr % 2
  ((s.pinMod p (fun y => { y with cur := g, handPtr := 1 - g })).resumeAt p h (s.hand p h).pc).resumeAt p (1 - h) (s.hand p (1 - h)).pc

section
variable {s : State} {p h n : Nat} (hh : h < 2) (hst : (s.hand p h).st = .released n) (hstream : (s.hand p h).stream.isSome = true)
  (hin : s.inService p = true)
include hh hst hstream hin

theorem exec_waitRelease (both : Bool) : exec (.waitRelease p ⟨h, both⟩) s = .next
    (if sameRelease (.released n) (s.hand p (1 - h)).st ||
        (both && isReleased (s.hand p (1 - h)).st && (s.hand p (1 - h)).stream.isSome) then bothReady s p h
      else s.resumeAt p h (s.hand p h).pc) := by
  have hguard : (decide (h < 2) && (s.hand p h).stream.isSome && s.inService p) = true := by
    rw [decide_eq_true hh, hstream, hin]
    rfl
  have hnext : ((s.pin p).handPtr % 2 + 1) % 2 = 1 - (s.pin p).handPtr % 2 := by omega
  show execWaitRelease p ⟨h, both⟩ s = _
  unfold execWaitRelease State.hand at *
  dsimp only
  rw [hst]
  dsimp only
  rw [if_pos hguard, hnext, apply_ite Host.Outcome.next]
  rfl

theorem exec_waitRelease_alone {both : Bool} (hne : (s.hand p (1 - h)).st ≠ .released n)
    (hno : (both && isReleased (s.hand p (1 - h)).st && (s.hand p (1 - h)).stream.isSome) = false) :
    exec (.waitRelease p ⟨h, both⟩) s = .next (s.resumeAt p h (s.hand p h).pc) := by
  rw [exec_waitRelease hh hst hstream hin, hno, Bool.or_false, if_neg (mt (sameRelease_iff n _).mp hne)]

theorem exec_waitRelease_both {both : Bool} (hboth : (s.hand p (1 - h)).st = .released n ∨
    (both = true ∧ isReleased (s.hand p (1 - h)).st = true ∧ (s.hand p (1 - h)).stream.isSome = true)) :
    exec (.waitRelease p ⟨h, both⟩) s = .next (bothReady s p h) := by
  rw [exec_waitRelease hh hst hstream hin, if_pos]
  rw [Bool.or_eq_true]
  exact hboth.imp (sameRelease_iff n _).mpr (fun ⟨hb, hr, hs⟩ => by rw [hb, hr, hs]; rfl)

end

end Sys2Proof.Machine

open Sys2Proof Sys2Proof.Machine

/-- Settles O17: the cycle of an object in service, the answer of one behind a closed Bezel, and the hands that a release makes ready. -/
theorem syncApplies : Obligations.SyncApplies :=
  ⟨fun _sid _reach _s hsid hfirst hin => exec_syncApply_inService hsid hfirst hin,
   fun _sid _reach _s hsid hfirst hin => exec_syncApply_isolated hsid hfirst hin,
   fun _s _p _h pc op o hst => releaseHand_syncWait pc op o hst,
   fun _s _p _h _n _both hh hst hstream hin =>
     ⟨exec_waitRelease_alone hh hst hstream hin, exec_waitRelease_both hh hst hstream hin⟩, resumeAt_lt⟩
end

section
/-! SUPPORT. The beat table (06, 6.7; R154 to R157): the entry that executes next, what the Escapement does with an entry that is due, the
records of a beat, the actions that hold and re-shard, and the statements. -/

namespace Sys2Proof.Machine

/-! ### Sparse arrays as lists of entries -/

theorem lt_of_mem_fwfFrom {α : Type} [DecidableEq α] {d : α} {m : FMap α} {l : Nat} (h : fwfFrom d (some l) m = true) :
    ∀ c ∈ m, l < c.1 := by
  induction m generalizing l with
  | nil => simp
  | cons c m ih =>
    obtain ⟨k, v⟩ := c
    simp only [fwfFrom, Bool.and_eq_true, decide_eq_true_eq] at h
    obtain ⟨⟨hlk, -⟩, hm⟩ := h
    exact List.forall_mem_cons.mpr ⟨hlk, fun c hc => hlk.trans (ih hm c hc)⟩

/-- In canonical form the keys rise. -/
theorem pairwise_of_fwfFrom {α : Type} [DecidableEq α] {d : α} {m : FMap α} {lo : Option Nat} (h : fwfFrom d lo m = true) :
    m.Pairwise (fun a b => a.1 < b.1) := by
  induction m generalizing lo with
  | nil => exact .nil
  | cons c m ih =>
    obtain ⟨k, v⟩ := c
    simp only [fwfFrom, Bool.and_eq_true] at h
    exact List.pairwise_cons.mpr ⟨lt_of_mem_fwfFrom h.2, ih h.2⟩

/-- What is not the default is listed. -/
theorem mem_of_fget_ne {α : Type} {d : α} {m : FMap α} {i : Nat} (h : fget d m i ≠ d) : (i, fget d m i) ∈ m := by
  induction m with
  | nil => exact absurd rfl h
  | cons c m ih =>
    obtain ⟨k, v⟩ := c
    rw [fget] at h ⊢
    split at h
    next hk =>
      subst hk
      rw [if_pos rfl]
      exact List.mem_cons_self
    next hk =>
      rw [if_neg hk]
      exact List.mem_cons_of_mem _ (ih h)

/-- Where the keys rise, what is listed is what is read. -/
theorem fget_of_mem {α : Type} {d : α} {m : FMap α} (hm : m.Pairwise (fun a b => a.1 < b.1)) {i : Nat} {v : α} (h : (i, v) ∈ m) :
    fget d m i = v := by
  induction m with
  | nil => cases h
  | cons c m ih =>
    obtain ⟨hc, hrest⟩ := List.pairwise_cons.mp hm
    obtain ⟨k, w⟩ := c
    rw [fget]
    rcases List.mem_cons.mp h with he | h
    · cases he
      exact if_pos rfl
    · rw [if_neg (hc _ h).ne]
      exact ih hrest h

/-! ### The entry that executes next (R154) -/

/-- The live entries, in the order of their indices. -/
def liveBeats (s : State) : FMap Beat := s.beats.filter (fun c => State.beatLive c.2)

theorem nextBeat_eq_foldl (s : State) : s.nextBeat = ((liveBeats s).foldl (lesser (fun c => c.2.ft)) none).map (·.1) := by
  unfold State.nextBeat
  congr 2
  funext best c
  cases best <;> rfl

section
variable {s : State} (hwf : fwf ({} : Beat) s.beats = true)

/-- An entry that is live is listed: the empty one is not. -/
theorem mem_liveBeats {j : Nat} (hj : State.beatLive (s.beat j) = true) : (j, s.beat j) ∈ liveBeats s := by
  refine List.mem_filter.mpr ⟨mem_of_fget_ne (d := ({} : Beat)) (fun he => ?_), hj⟩
  have hdead : State.beatLive (s.beat j) = false := congrArg State.beatLive he
  rw [hdead] at hj
  cases hj

include hwf

theorem liveBeats_pairwise : (liveBeats s).Pairwise (fun a b => a.1 < b.1) := (pairwise_of_fwfFrom hwf).filter _

theorem beat_of_mem_liveBeats {c : Nat × Beat} (hc : c ∈ liveBeats s) : s.beat c.1 = c.2 ∧ State.beatLive c.2 = true := by
  obtain ⟨hmem, hlive⟩ := List.mem_filter.mp hc
  exact ⟨fget_of_mem (pairwise_of_fwfFrom hwf) hmem, hlive⟩

/-- The next entry is live, and every other live one has a later FT, or the same one and a higher index. -/
theorem nextBeat_least {i : Nat} (h : s.nextBeat = some i) : State.beatLive (s.beat i) = true ∧
    ∀ j, State.beatLive (s.beat j) = true → (s.beat i).ft < (s.beat j).ft ∨ ((s.beat i).ft = (s.beat j).ft ∧ i ≤ j) := by
  rw [nextBeat_eq_foldl] at h
  obtain ⟨c, hc, rfl⟩ := Option.map_eq_some_iff.mp h
  obtain ⟨hmem, hmin⟩ := (foldl_lesser (fun c : Nat × Beat => c.2.ft) (fun a b c => Nat.lt_trans (n := a.1) (m := b.1) (k := c.1))
    (liveBeats_pairwise hwf)).2 c hc
  obtain ⟨hbeat, hlive⟩ := beat_of_mem_liveBeats hwf hmem
  rw [hbeat]
  refine ⟨hlive, fun j hj => (hmin _ (mem_liveBeats hj)).imp_right (fun ⟨hft, hix⟩ => ⟨hft, ?_⟩)⟩
  rcases hix with rfl | hix
  · exact le_rfl
  · exact le_of_lt hix

theorem nextBeat_none (h : s.nextBeat = none) (j : Nat) : State.beatLive (s.beat j) = false := by
  rw [nextBeat_eq_foldl, Option.map_eq_none_iff] at h
  have hempty := (foldl_lesser (fun c : Nat × Beat => c.2.ft) (fun a b c => Nat.lt_trans (n := a.1) (m := b.1) (k := c.1))
    (liveBeats_pairwise hwf)).1 h
  rw [← Bool.not_eq_true]
  intro hj
  have hmem := mem_liveBeats hj
  rw [hempty] at hmem
  cases hmem

end

/-! ### What the Escapement does with an entry that is due (R154 to R156) -/

/-- The actions that HELD lets through are GAP, HOLD and RELEASE (R156). -/
theorem heldBack_iff (s : State) (a : Nat) :
    (decide (s.modState = stHeld) && a != 0 && a != 7 && a != 8) = true ↔ s.modState = stHeld ∧ a ∉ [0, 7, 8] := by
  simp [and_assoc]

section
variable {s : State} {i a : Nat} {act : State → Beat → State × Bool} (hon : s.modState = stRunning ∨ s.modState = stHeld)
  (hdue : s.dueBeat = some i) (hact : (s.beat i).action = a)
include hon hdue hact

theorem runBeat_due : s.runBeat a act =
    if (s.odGet 0x4302 1 : Int) < s.time.ft - (s.beat i).ft then s.skipLate i
    else if (decide (s.modState = stHeld) && a != 0 && a != 7 && a != 8) = true then (s.rearm i 1).bump 0x4420 3
    else if s.beatFenced (s.beat i) = true then ((s.rearm i 1).bump 0x4420 1).notify 0x4420 1
    else s.beatRuns i (s.beat i) act := by
  have hguard : (decide (s.modState = stRunning) || s.modState == stHeld) = true := by
    rw [Bool.or_eq_true, decide_eq_true_iff, beq_iff_eq]
    exact hon
  unfold State.runBeat
  rw [if_pos hguard, hdue]
  dsimp only
  rw [if_neg (not_not_intro hact)]

theorem runBeat_late (hlate : (s.odGet 0x4302 1 : Int) < s.time.ft - (s.beat i).ft) : s.runBeat a act = s.skipLate i := by
  rw [runBeat_due hon hdue hact, if_pos hlate]

variable (hnot : s.time.ft - (s.beat i).ft ≤ s.odGet 0x4302 1)
include hnot

theorem runBeat_heldBack (hheld : s.modState = stHeld) (ha : a ∉ [0, 7, 8]) : s.runBeat a act = (s.rearm i 1).bump 0x4420 3 := by
  rw [runBeat_due hon hdue hact, if_neg (not_lt.mpr hnot), if_pos ((heldBack_iff s a).mpr ⟨hheld, ha⟩)]

variable (hthrough : s.modState = stRunning ∨ a ∈ [0, 7, 8])
include hthrough

omit hon hdue hact hnot in
theorem not_heldBack : ¬ (decide (s.modState = stHeld) && a != 0 && a != 7 && a != 8) = true := by
  rw [heldBack_iff]
  rintro ⟨hheld, ha⟩
  refine hthrough.elim (fun hrun => ?_) ha
  rw [hrun] at hheld
  exact absurd hheld (by decide)

theorem runBeat_fenced (hfenced : s.beatFenced (s.beat i) = true) :
    s.runBeat a act = ((s.rearm i 1).bump 0x4420 1).notify 0x4420 1 := by
  rw [runBeat_due hon hdue hact, if_neg (not_lt.mpr hnot), if_neg (not_heldBack hthrough), if_pos hfenced]

theorem runBeat_runs (hopen : s.beatFenced (s.beat i) = false) : s.runBeat a act = s.beatRuns i (s.beat i) act := by
  rw [runBeat_due hon hdue hact, if_neg (not_lt.mpr hnot), if_neg (not_heldBack hthrough), if_neg (by rw [hopen]; exact Bool.false_ne_true)]

end

/-- Each command of the Escapement comes to the entries of one action. -/
theorem exec_beat_eq {a : Nat} {c : Instr} (h : (a, c) ∈ [(0, Instr.gapBeat), (1, .sealBeat), (2, .sendBeat), (3, .closeBeat),
      (4, .applyBeat), (5, .checkpointMark), (6, .reshardBegin), (7, .holdBeat), (8, .releaseBeat)]) :
    ∃ act, ∀ s, exec c s = .next (s.runBeat a act) := by
  simp only [List.mem_cons, Prod.mk.injEq, List.not_mem_nil, or_false] at h
  obtain ⟨rfl, rfl⟩ | ⟨rfl, rfl⟩ | ⟨rfl, rfl⟩ | ⟨rfl, rfl⟩ | ⟨rfl, rfl⟩ | ⟨rfl, rfl⟩ | ⟨rfl, rfl⟩ | ⟨rfl, rfl⟩ | ⟨rfl, rfl⟩ := h
  all_goals exact ⟨_, fun _ => rfl⟩

/-! ### The records of a beat (R154) -/

@[simp] theorem odGet_odSetShown_same (s : State) (i j v : Nat) : (s.odSetShown i j v).odGet i j = v := by
  unfold State.odSetShown
  split
  · assumption
  · exact odGet_odSet_same s i j v

theorem odGet_odSetShown_ne (s : State) {i j k l : Nat} (v : Nat) (h : odKey k l ≠ odKey i j) :
    (s.odSetShown i j v).odGet k l = s.odGet k l := by
  unfold State.odSetShown
  split
  · rfl
  · exact odGet_odSet_ne s v h

/-- The dies whose watchdog runs are others. -/
def withDieEsc (s : State) (ds : List Nat) : State := { s with dieEsc := ds }

/-- With no change pending none takes effect; a die may be resolved. -/
theorem takeChanges_none {s : State} (h : s.changes = []) : ∃ ds, s.takeChanges = withDieEsc s ds := by
  have hs : ({ s with changes := [] } : State) = s := by rw [← h]
  have htake : s.takeChanges = s.dieResolve := by
    unfold State.takeChanges
    rw [h, hs]
    rfl
  exact ⟨_, htake⟩

/-- The records of entry `i`, which has executed at `ft`, `late` nanoseconds after it. -/
def beatRecords (s : State) (i : Nat) (ft : Int) (late : Nat) : State :=
  (((s.odSetShown 0x4400 1 (ftNat ft)).odSetShown 0x4400 2 i).bump 0x4400 3).odSet 0x4400 4 (max (s.odGet 0x4400 4) (min late 0xFFFFFFFF))

theorem beatRecords_frame (s : State) (i : Nat) (ft : Int) (late : Nat) :
    { beatRecords s i ft late with od := s.od, shadowSeq := s.shadowSeq } = s := by
  have h1 := odSetShown_frame s 0x4400 1 (ftNat ft)
  have h2 := odSetShown_frame (s.odSetShown 0x4400 1 (ftNat ft)) 0x4400 2 i
  exact (congrArg (fun t : State => { t with od := s.od, shadowSeq := s.shadowSeq }) h2).trans h1

theorem beatRecords_keeps (s : State) (i : Nat) (ft : Int) (late : Nat) : (∀ j, (beatRecords s i ft late).beat j = s.beat j) ∧
    (beatRecords s i ft late).mem = s.mem ∧ (beatRecords s i ft late).pinions = s.pinions ∧ (beatRecords s i ft late).syncs = s.syncs := by
  have h := beatRecords_frame s i ft late
  exact ⟨fun j => (congrArg (fun t : State => t.beat j) h :), (congrArg State.mem h :), (congrArg State.pinions h :),
    (congrArg State.syncs h :)⟩

/-- The counter of executed beats, OD 0x4400.03, is a U64. -/
theorem odRow_beatCount : (odRow 0x4400 3).map (·.size) = some 8 := by decide +kernel

theorem odGet_beatRecords (s : State) (i : Nat) (ft : Int) (late : Nat) :
    (beatRecords s i ft late).odGet 0x4400 1 = ftNat ft ∧ (beatRecords s i ft late).odGet 0x4400 2 = i ∧
      (beatRecords s i ft late).odGet 0x4400 3 = (s.odGet 0x4400 3 + 1) % 2 ^ 64 := by
  unfold beatRecords
  refine ⟨?_, ?_, ?_⟩
  · rw [odGet_odSet_ne _ _ (by decide), odGet_bump_ne _ (by decide), odGet_odSetShown_ne _ _ (by decide), odGet_odSetShown_same]
  · rw [odGet_odSet_ne _ _ (by decide), odGet_bump_ne _ (by decide), odGet_odSetShown_same]
  · rw [odGet_odSet_ne _ _ (by decide), State.bump, odGet_bumpBy_same _ 1 odRow_beatCount, odGet_odSetShown_ne _ _ (by decide),
      odGet_odSetShown_ne _ _ (by decide)]
    rfl

/-- A beat takes the pending changes, is re-armed and recorded, and takes its action; its post follows where it is not ignored. -/
theorem beatRuns_eq (s : State) (i : Nat) (e : Beat) (act : State → Beat → State × Bool) : s.beatRuns i e act =
    let r := act (beatRecords (s.takeChanges.rearm i 1) i e.ft (s.time.ft - e.ft).toNat) e
    if Nat.testBit e.flags 1 && r.2 then r.1.post e.sid else r.1 := rfl

@[simp] theorem beat_setBeat_same (s : State) (i : Nat) (e : Beat) : (s.setBeat i e).beat i = e := fget_fput_same _ _ _ _

theorem beat_setBeat_ne (s : State) {i j : Nat} (e : Beat) (h : j ≠ i) : (s.setBeat i e).beat j = s.beat j := fget_fput_ne _ _ _ h

theorem rearm_frame (s : State) (i n : Nat) : { s.rearm i n with beats := s.beats } = s := by
  unfold State.rearm
  dsimp only
  split <;> rfl

theorem rearm_keeps (s : State) (i n : Nat) : (s.rearm i n).mem = s.mem ∧ (s.rearm i n).pinions = s.pinions ∧
    (s.rearm i n).syncs = s.syncs := by
  have h := rearm_frame s i n
  exact ⟨(congrArg State.mem h :), (congrArg State.pinions h :), (congrArg State.syncs h :)⟩

theorem rearm_odGet (s : State) (i n k l : Nat) : (s.rearm i n).odGet k l = s.odGet k l :=
  (congrArg (fun t : State => t.odGet k l) (rearm_frame s i n) :)

theorem rearm_once {s : State} {i n : Nat} (h : (s.beat i).period = 0) : ((s.rearm i n).beat i).done = true := by
  unfold State.rearm
  dsimp only
  rw [if_pos h, beat_setBeat_same]

theorem rearm_period {s : State} {i : Nat} (n : Nat) (h : (s.beat i).period ≠ 0) :
    ((s.rearm i n).beat i).ft = sInt 64 (ftNat ((s.beat i).ft + n * (s.beat i).period)) := by
  unfold State.rearm
  dsimp only
  rw [if_neg h, beat_setBeat_same]

theorem rearm_beat_ne (s : State) {i j : Nat} (n : Nat) (h : j ≠ i) : (s.rearm i n).beat j = s.beat j := by
  unfold State.rearm
  dsimp only
  split
  · exact beat_setBeat_ne s _ h
  · exact beat_setBeat_ne s _ h

/-- What the records and the re-arming of entry `i` leave. -/
theorem gapRecords (s : State) (i : Nat) (ft : Int) (late : Nat) :
    let t := beatRecords (s.rearm i 1) i ft late
    (t.odGet 0x4400 1 = ftNat ft ∧ t.odGet 0x4400 2 = i ∧ t.odGet 0x4400 3 = (s.odGet 0x4400 3 + 1) % 2 ^ 64) ∧
      (∀ j, t.beat j = (s.rearm i 1).beat j) ∧ t.mem = s.mem ∧ t.pinions = s.pinions ∧ t.syncs = s.syncs := by
  obtain ⟨hft, hix, hcount⟩ := odGet_beatRecords (s.rearm i 1) i ft late
  obtain ⟨hbeat, hmem, hpinions, hsyncs⟩ := beatRecords_keeps (s.rearm i 1) i ft late
  obtain ⟨hmem', hpinions', hsyncs'⟩ := rearm_keeps s i 1
  rw [rearm_odGet] at hcount
  exact ⟨⟨hft, hix, hcount⟩, hbeat, hmem.trans hmem', hpinions.trans hpinions', hsyncs.trans hsyncs'⟩

/-- A GAP with no change pending and no post leaves its records and its re-arming. -/
theorem gapRuns {s : State} {i : Nat} (hch : s.changes = []) (hpost : Nat.testBit (s.beat i).flags 1 = false) :
    ∃ ds, s.beatRuns i (s.beat i) (fun t _ => (t, true)) =
      beatRecords ((withDieEsc s ds).rearm i 1) i (s.beat i).ft (s.time.ft - (s.beat i).ft).toNat := by
  obtain ⟨ds, hds⟩ := takeChanges_none hch
  refine ⟨ds, ?_⟩
  rw [beatRuns_eq, hds, hpost]
  rfl

end Sys2Proof.Machine

open Sys2Proof Sys2Proof.Machine

/-- Settles O28: the least of the live entries, and the records and the re-arming of a GAP. -/
theorem beatRecords : Obligations.BeatRecords := by
  refine ⟨fun s hwf => ⟨fun i h => nextBeat_least hwf h, nextBeat_none hwf⟩, fun s i hrun hdue hnot ha htk hch hpost => ?gap⟩
  have hopen : s.beatFenced (s.beat i) = false := by
    unfold State.beatFenced
    rw [htk]
    rfl
  obtain ⟨ds, hruns⟩ := gapRuns hch hpost
  obtain ⟨⟨hft, hix, hcount⟩, hbeats, hmem, hpinions, hsyncs⟩ := gapRecords (withDieEsc s ds) i (s.beat i).ft
     (s.time.ft - (s.beat i).ft).toNat
  have hexec : exec .gapBeat s = .next _ := congrArg Host.Outcome.next ((runBeat_runs (.inl hrun) hdue ha hnot (.inl hrun) hopen).trans hruns)
  refine ⟨_, hexec, hft, hix, hcount, fun hp => ?_, fun hp => ?_, fun j hj => ?_, hmem, hpinions, hsyncs⟩
  · rw [hbeats]
    exact rearm_once hp
  · have hft : (((withDieEsc s ds).rearm i 1).beat i).ft = _ := rearm_period 1 hp
    rw [hbeats, hft, Nat.cast_one, one_mul]
    rfl
  · rw [hbeats]
    exact rearm_beat_ne _ 1 hj
end

section
/-! SUPPORT. The actions of beats that hold a target (R156) or begin a re-shard (R243, R249), and the statement about every kind of beat. -/

namespace Sys2Proof.Machine

/-! ### RESHARD_BEGIN -/

/-- A re-shard may begin: the epoch is the next one, and none is pending. -/
theorem reshardBegin_guard (s : State) (arg : Nat) :
    (decide (arg % 65536 = (s.odGet 0x2010 1 + 1) % 65536) && s.odGet 0x2010 3 == s.odGet 0x2010 1) = true ↔
      arg % 65536 = (s.odGet 0x2010 1 + 1) % 65536 ∧ s.odGet 0x2010 3 = s.odGet 0x2010 1 := by
  rw [Bool.and_eq_true, decide_eq_true_iff, beq_iff_eq]

theorem reshardBegin_next {s : State} {arg : Nat} (hnext : arg % 65536 = (s.odGet 0x2010 1 + 1) % 65536)
    (hnone : s.odGet 0x2010 3 = s.odGet 0x2010 1) : reshardBegin s arg = (s.odSet 0x2010 3 (arg % 65536), true) :=
  if_pos ((reshardBegin_guard s arg).mpr ⟨hnext, hnone⟩)

theorem reshardBegin_ignored {s : State} {arg : Nat} (h : arg % 65536 ≠ (s.odGet 0x2010 1 + 1) % 65536 ∨
    s.odGet 0x2010 3 ≠ s.odGet 0x2010 1) : reshardBegin s arg = (s.countNotify 0x2010 6, false) :=
  if_neg (fun hg => by
    obtain ⟨hnext, hnone⟩ := (reshardBegin_guard s arg).mp hg
    exact h.elim (· hnext) (· hnone))

/-! ### HOLD and RELEASE (R156) -/

section
variable {s : State} {e : Beat}

theorem holdTarget_module (he : e.tkind = 0) (on : Bool) : s.holdTarget e on =
    if on then (if s.modState = stRunning then s.setModState stHeld else s)
    else if s.modState = stHeld then s.enterRunning else s := by
  unfold State.holdTarget
  rw [he]
  rfl

theorem holdTarget_train (he : e.tkind = 1) (on : Bool) : s.holdTarget e on =
    s.unitMod (e.target / 65536) (e.target % 65536) (fun u => { u with held := on }) := by
  unfold State.holdTarget
  rw [he]
  rfl

/-- A held port starts nothing, so no packet goes out with the hold. -/
theorem holdTarget_port (he : e.tkind = 2) : s.holdTarget e true =
    { s with units := fmod {} s.units (State.portKey (e.target / 256) (e.target % 256)) (fun u => { u with held := true }) } := by
  unfold State.holdTarget
  rw [he]
  rfl

end

end Sys2Proof.Machine

open Sys2Proof Sys2Proof.Machine

/-- Settles O29: the course of a beat that is due, and the actions that APPLY, RESHARD_BEGIN, HOLD and RELEASE take. -/
theorem beatsExecute : Obligations.BeatsExecute := by
  refine ⟨fun s i hdue hnot hopen => ?runs, fun s i a c hdue hact hc => ?skipped, fun s r => rfl,
    fun s arg => ⟨reshardBegin_next, reshardBegin_ignored⟩, fun s e on => ?holds⟩
  case runs =>
    refine ⟨fun hon => ?_, fun hrun => ?_⟩
    · have hruns {a : Nat} (act : State → Beat → State × Bool) (hact : (s.beat i).action = a) (ha : a ∈ [0, 7, 8]) :=
        congrArg (Host.Outcome.next (φ := Fault) (ρ := Refusal)) (runBeat_runs (act := act) hon hdue hact hnot (.inr ha) hopen)
      exact ⟨fun hact => hruns _ hact (by decide), fun hact => hruns _ hact (by decide), fun hact => hruns _ hact (by decide)⟩
    · have hruns {a : Nat} (act : State → Beat → State × Bool) (hact : (s.beat i).action = a) :=
        congrArg (Host.Outcome.next (φ := Fault) (ρ := Refusal)) (runBeat_runs (act := act) (.inl hrun) hdue hact hnot (.inl hrun) hopen)
      exact ⟨hruns _, hruns _, hruns _, hruns _, hruns _, hruns _⟩
  case skipped =>
    obtain ⟨act, hexec⟩ := exec_beat_eq hc
    rw [hexec]
    refine ⟨fun hon hlate => congrArg _ (runBeat_late hon hdue hact hlate),
      fun hheld ha hnot => congrArg _ (runBeat_heldBack (.inr hheld) hdue hact hnot hheld ha), fun hthrough hnot hfenced => congrArg _ ?_⟩
    exact runBeat_fenced (hthrough.imp_right And.left) hdue hact hnot (hthrough.imp_right And.right) hfenced
  case holds =>
    refine ⟨fun he hrun => ?_, fun he hheld => ?_, fun he => holdTarget_train he on, fun he => ?_⟩
    · rw [holdTarget_module he, if_pos rfl, if_pos hrun]
    · rw [holdTarget_module he, if_neg Bool.false_ne_true, if_pos hheld]
    · rw [holdTarget_port he, fget_fmod_same]
end

section
/-! SUPPORT. The watchdog ladder (06, 6.9; R161 to R164): which expiries count alone, what a hand, a train, a die and the module do at theirs,
the restart of a hand, the course of a dump (R302 to R305), and the statement. -/

namespace Sys2Proof.Machine

/-! ### Expiries of units out of service (R164, R295) -/

theorem onlyCounts_iff (s : State) (st : Nat) (masked : Bool) :
    s.onlyCounts st masked = true ↔ s.modState = stRunning ∧ st ≠ 0 ∧ (st ≠ 1 ∨ masked = true) := by
  simp [State.onlyCounts, and_assoc]

theorem not_onlyCounts_inService (s : State) (masked : Bool) : ¬ s.onlyCounts 0 masked = true := fun h =>
  ((onlyCounts_iff s 0 masked).mp h).2.1 rfl

theorem not_onlyCounts_fenced (s : State) : ¬ s.onlyCounts 1 false = true := fun h =>
  ((onlyCounts_iff s 1 false).mp h).2.2.elim (· rfl) Bool.false_ne_true

theorem pinSt_of_inService {s : State} {p : Nat} (h : s.inService p = true) : s.pinSt p = 0 := by
  unfold State.inService at h
  rw [Bool.and_eq_true, beq_iff_eq] at h
  exact h.2

/-! ### HAND_STALL (R161) -/

/-- The restart or the fence of a pinion whose hand has stalled. -/
def stalled (s : State) (p h : Nat) : State :=
  ((s.expire 1 0 p).pinMod p (fun x => { x with stopping := some (s.stopFor p h) })).tryStop p

section
variable {s : State} {p h : Nat} (hp : p < s.pinCount) (hh : h < 2)
include hp hh

theorem exec_handStall_counts {masked : Bool} (hc : s.onlyCounts (s.pinSt p) masked = true) :
    exec (.handStall p h masked) s = .next (s.expire 1 0 p) :=
  if_pos (by rw [decide_eq_true hp, decide_eq_true hh, hc]; rfl)

omit hp hh in
theorem exec_handStall_runs {masked : Bool} (hc : ¬ s.onlyCounts (s.pinSt p) masked = true) : exec (.handStall p h masked) s =
    if (s.handStalled p h && s.inService p) = true then .next (if masked then s.expire 1 0 p else stalled s p h) else .next s := by
  have hguard : ¬ (decide (p < s.pinCount) && decide (h < 2) && s.onlyCounts (s.pinSt p) masked) = true := fun hg =>
    hc (Bool.and_eq_true _ _ ▸ hg).2
  refine (if_neg hguard).trans (if_congr Iff.rfl ?_ rfl)
  cases masked <;> rfl

omit hp hh in
theorem exec_handStall_stalled (hst : s.handStalled p h = true) (hin : s.inService p = true) (masked : Bool) :
    exec (.handStall p h masked) s = .next (if masked then s.expire 1 0 p else stalled s p h) := by
  have hc : ¬ s.onlyCounts (s.pinSt p) masked = true := by
    rw [pinSt_of_inService hin]
    exact not_onlyCounts_inService s masked
  rw [exec_handStall_runs hc, hst, hin]
  rfl

omit hp hh in
/-- The watchdogs of a fenced pinion stop (R295). -/
theorem exec_handStall_fenced (hst : s.pinSt p = 1) : exec (.handStall p h false) s = .next s := by
  have hc : ¬ s.onlyCounts (s.pinSt p) false = true := by
    rw [hst]
    exact not_onlyCounts_fenced s
  have hin : ¬ (s.handStalled p h && s.inService p) = true := by
    rw [Bool.and_eq_true]
    rintro ⟨-, hin⟩
    rw [pinSt_of_inService hin] at hst
    cases hst
  rw [exec_handStall_runs hc, if_neg hin]

end

/-! ### T1_SILENCE and T2_SILENCE (R162) -/

section
variable {s : State} {t : Nat}

theorem exec_t1Silence_silent (hr : s.silenceRuns 1 t = true) (hst : s.trainSt 1 t = 0) (masked : Bool) :
    exec (.t1Silence t masked) s = .next (if masked then s.expire 3 1 t else (s.expire 3 1 t).escT1 t none) :=
  (if_neg (by rw [hst, Bool.and_eq_true]; exact fun h => not_onlyCounts_inService s masked h.2)).trans (if_pos hr)

theorem exec_t1Silence_counts (ht : t < State.trainCount 1) {masked : Bool} (hc : s.onlyCounts (s.trainSt 1 t) masked = true) :
    exec (.t1Silence t masked) s = .next (s.expire 3 1 t) :=
  if_pos (by rw [decide_eq_true ht, hc]; rfl)

theorem exec_t2Silence_silent (hr : s.silenceRuns 2 t = true) (hst : s.trainSt 2 t = 0) (masked : Bool) :
    exec (.t2Silence t masked) s = .next (if masked then s.expire 4 2 t
      else (s.expire 4 2 t).escT2 t ((s.expire 4 2 t).runningHands ((s.expire 4 2 t).trainPinions 2 t))) :=
  (if_neg (by rw [hst, Bool.and_eq_true]; exact fun h => not_onlyCounts_inService s masked h.2)).trans (if_pos hr)

theorem exec_t2Silence_counts (ht : t < State.trainCount 2) {masked : Bool} (hc : s.onlyCounts (s.trainSt 2 t) masked = true) :
    exec (.t2Silence t masked) s = .next (s.expire 4 2 t) :=
  if_pos (by rw [decide_eq_true ht, hc]; rfl)

theorem escT2_eq (hands : List (Nat × Nat × Hand)) (hst : s.trainSt 2 t = 0) : s.escT2 t hands =
    if hands.all (fun x => s.canRestart x.2.2) then (s.resetTrain 2 t).addChange (.restart 2 t hands) false
    else (s.resetTrain 2 t).escDie (t / 48) := if_neg (not_not_intro hst)

end

/-! ### The die and the module (R163) -/

theorem exec_dieWatchdog_expires {s : State} {d : Nat} (hesc : s.dieEsc.contains d = true) (hdie : (s.unit 4 d).held = false)
    (hmod : (s.unit 5 0).held = false) (masked : Bool) : exec (.dieWatchdog d masked) s = .next (if masked then s.expire 5 4 d
      else (({ s.expire 5 4 d with dieEsc := (s.expire 5 4 d).dieEsc.filter (· ≠ d) } : State).fenceUnit 4 d).enterFaulted 4
        (State.statusOff 4 d)) := by
  refine (if_pos (by rw [hesc, hdie, hmod]; rfl)).trans ?_
  cases masked <;> rfl

theorem exec_dieWatchdog_held {s : State} {d : Nat} (h : (s.unit 4 d).held = true ∨ (s.unit 5 0).held = true) (masked : Bool) :
    exec (.dieWatchdog d masked) s = .next s :=
  if_neg (by rw [Bool.or_eq_true _ _ |>.mpr h, Bool.not_true, Bool.and_false]; exact Bool.false_ne_true)

theorem exec_moduleWatchdog_eq {s : State} (hrun : s.modState = stRunning) : exec .moduleWatchdog s =
    .next (if (s.unit 5 0).held then s else (s.expire 6 5 0).enterFaulted 5 (State.statusOff 5 0)) := by
  show execModuleWatchdog s = _
  unfold execModuleWatchdog
  rw [decide_eq_true hrun, Bool.true_and]
  cases (s.unit 5 0).held <;> rfl

/-! ### What a pinion that stops does (R161) -/

section
variable {s : State} {p h : Nat}

theorem stopFor_fence (hc : s.canRestart (s.hand p h) = false) : s.stopFor p h = .fence := if_neg (by rw [hc]; exact Bool.false_ne_true)

section
variable (hc : s.canRestart (s.hand p h) = true)
include hc

theorem stopFor_first (hs : (s.pin p).stopping = none) : s.stopFor p h = .restart h := by
  unfold State.stopFor
  rw [if_pos hc, hs]

/-- Another hand that restarts already restarts with this one. -/
theorem stopFor_again {k : Nat} (hs : (s.pin p).stopping = some (.restart k)) :
    s.stopFor p h = if k = h then .restart h else .restartBoth := by
  unfold State.stopFor
  rw [if_pos hc, hs]

end

section
variable (hq : State.pinQuiet (s.pin p) = true)
include hq

theorem tryStop_fence (hs : (s.pin p).stopping = some .fence) :
    s.tryStop p = ((s.setPin p { s.pin p with stopping := none }).fenceUnit 0 p).escT1 (s.t1Of p) (some p) := by
  simp only [State.tryStop, hs, hq, if_true]

theorem tryStop_restart {k : Nat} (hs : (s.pin p).stopping = some (.restart k)) : s.tryStop p =
    ((s.dropHand p k).setPin p ((State.emptyTiles { s.pin p with stopping := none }).setHand k
      (State.restartHand ((s.pin p).hand k)))).bump 0x9110 2 := by
  simp only [State.tryStop, hs, hq, if_true]

end

end

/-- A hand that restarts is where its record stands, its stream one restart further. -/
theorem restartHand_eq {d : Hand} {st : Stream} {r : RestartRec} (hst : d.stream = some st) (hr : d.record = some r) :
    State.restartHand d = { d with
      st := .ready, pc := r.pc, sregs := r.sregs, vregs := [], setv := r.setv, seteb := r.seteb, stgBase := r.stgBase,
      stgSize := r.stgSize, stream := some { st with restarts := st.restarts + 1 }, seen0 := false, seen1 := false } := by
  unfold State.restartHand
  rw [hst, hr]

/-! ### The dump (R302 to R305) -/

theorem dumpWrite_od (s : State) (x : Nat) (bs : List Byte) : (s.dumpWrite x bs).od = s.od := by
  induction bs generalizing s x with
  | nil => rfl
  | cons b bs ih =>
    rw [State.dumpWrite]
    refine (ih _ _).trans ?_
    split <;> rfl

section
variable {s : State}

theorem exec_transferSettle (hf : s.modState = stFaulted) (hd : s.plat.dumpStopped = false) :
    exec .transferSettle s = .next (State.beginDump { s with
      pinions := s.pinions.foldl (fun m c => fput {} m c.1 { c.2 with dmq0 := [], dmq1 := [] }) [],
      coll := { s.coll with outs := [], ins := [] } }) :=
  if_pos (by rw [hf, hd]; rfl)

theorem exec_dumpComplete (hd : s.modState = stDumping) (hc : s.crown.down = false) :
    exec .dumpComplete s = .next (s.writeDump none).dumpDone := if_pos (by rw [hd, hc]; rfl)

theorem exec_dumpLimit (hd : s.modState = stDumping) (hc : s.crown.down = false) :
    exec .dumpLimit s = .next ((s.draw 16).2.writeDump (some (s.draw 16).1.toNat)).dumpDone := if_pos (by rw [hd, hc]; rfl)

theorem modState_restartDump (s : State) : s.restartDump.modState = s.modState :=
  congrArg (fun od => fget (odDfltKey (odKey 0x1010 1)) od (odKey 0x1010 1)) (dumpWrite_od _ _ _)

theorem modState_beginDump (hf : s.modState = stFaulted) (hd : s.plat.dumpStopped = false) (hc : s.crown.down = false) :
    s.beginDump.modState = stDumping := by
  unfold State.beginDump
  rw [if_pos (by rw [hf, hd, hc]; rfl), modState_restartDump, setModState_modState]

/-- The dump after the last reset that may follow one by itself ends in FAULTED (R268). -/
theorem dumpDone_stops (h : s.odGet 0x1010 6 = s.odGet 0x1010 5) :
    s.dumpDone.modState = stFaulted ∧ s.dumpDone.plat.dumpStopped = true := by
  have hd : s.dumpDone = State.setModState { s with plat := { s.plat with dumpStopped := true } } stFaulted := if_pos h
  rw [hd]
  refine ⟨setModState_modState _ _, ?_⟩
  have hplat := congrArg State.plat (setModState_frame { s with plat := { s.plat with dumpStopped := true } } stFaulted)
  exact (congrArg Plat.dumpStopped hplat :)

end

end Sys2Proof.Machine

open Sys2Proof Sys2Proof.Machine

/-- Settles O30: the expiries rung by rung, the stop and the restart of a hand, and the course of a dump. -/
theorem watchdogsAndDump : Obligations.WatchdogsAndDump := by
  refine ⟨⟨fun s p h hp hh => ?hand, fun s t ht => ?t1, fun s t ht => ?t2, fun s t hands hst => ?escalates, fun s d hesc => ?die,
    fun s hrun => ?module⟩, fun s p h => ?stops, fun d st r hst hr => ?restarts, fun s => ?dump⟩
  case hand =>
    refine ⟨fun hst hin => ⟨exec_handStall_stalled hst hin true, exec_handStall_stalled hst hin false⟩, fun hrun h0 h1 m => ?_,
      fun hrun h1 => ⟨?_, exec_handStall_fenced h1⟩⟩
    · exact exec_handStall_counts hp hh ((onlyCounts_iff s _ m).mpr ⟨hrun, h0, .inl h1⟩)
    · exact exec_handStall_counts hp hh ((onlyCounts_iff s _ true).mpr ⟨hrun, by rw [h1]; exact one_ne_zero, .inr rfl⟩)
  case t1 =>
    exact ⟨fun hr hst => ⟨exec_t1Silence_silent hr hst true, exec_t1Silence_silent hr hst false⟩,
      fun hrun h0 m hm => exec_t1Silence_counts ht ((onlyCounts_iff s _ m).mpr ⟨hrun, h0, hm.symm⟩)⟩
  case t2 =>
    exact ⟨fun hr hst => ⟨exec_t2Silence_silent hr hst true, exec_t2Silence_silent hr hst false⟩,
      fun hrun h0 m hm => exec_t2Silence_counts ht ((onlyCounts_iff s _ m).mpr ⟨hrun, h0, hm.symm⟩)⟩
  case escalates =>
    rw [escT2_eq hands hst]
    exact ⟨fun hall => if_pos hall, fun hall => if_neg (by rw [hall]; exact Bool.false_ne_true)⟩
  case die =>
    exact ⟨fun hdie hmod => ⟨exec_dieWatchdog_expires hesc hdie hmod true, exec_dieWatchdog_expires hesc hdie hmod false⟩,
      exec_dieWatchdog_held⟩
  case module =>
    rw [exec_moduleWatchdog_eq hrun]
    exact ⟨fun h => by rw [h]; rfl, fun h => by rw [h]; rfl⟩
  case stops =>
    exact ⟨stopFor_fence, stopFor_first, fun hc _k hs => stopFor_again hc hs, tryStop_fence, fun hq _k hs => tryStop_restart hq hs⟩
  case restarts =>
    rw [restartHand_eq hst hr]
    exact ⟨rfl, rfl, rfl, rfl, rfl, rfl, rfl, rfl, rfl, hr⟩
  case dump =>
    exact ⟨exec_transferSettle, exec_dumpComplete, exec_dumpLimit, modState_beginDump, dumpDone_stops, fun h => if_neg h⟩
end

section
/-! SUPPORT. Time transfer (06, 6.5 and 6.6; 08, 8.8): the messages of near and far exchanges (R150, R151, R216), the servo's way into
HOLDOVER (R147, R149), the 1PPS (R153), REF10M (R324), and the statement. -/

namespace Sys2Proof.Machine

/-! ### Near exchanges (R150) -/

/-- Has a message come from the module's parent: over the parent's port, at a slave? -/
def fromParent (t : State) (x : RxPkt) : Bool := x.port == t.odGet 0x4020 1 && t.timeRole == 0

theorem fromParent_iff (t : State) (x : RxPkt) : fromParent t x = true ↔ x.port = t.odGet 0x4020 1 ∧ t.timeRole = 0 := by
  rw [fromParent, Bool.and_eq_true, beq_iff_eq, beq_iff_eq]

/-- Is a message from the parent one of the exchange in progress? -/
def ofNearEx (t : State) (x : RxPkt) : Bool := fromParent t x && t.nearEx.num == rdLe x.body 4 4

theorem ofNearEx_iff (t : State) (x : RxPkt) :
    ofNearEx t x = true ↔ (x.port = t.odGet 0x4020 1 ∧ t.timeRole = 0) ∧ t.nearEx.num = rdLe x.body 4 4 := by
  rw [ofNearEx, Bool.and_eq_true, fromParent_iff, beq_iff_eq]

theorem not_ofNearEx_iff (t : State) (x : RxPkt) :
    ¬ ofNearEx t x = true ↔ ¬ (x.port = t.odGet 0x4020 1 ∧ t.timeRole = 0) ∨ t.nearEx.num ≠ rdLe x.body 4 4 := by
  rw [ofNearEx_iff, not_and_or]

theorem exec_timePacket_none {s : State} {src : Nat} (sub : Nat) (h : s.takeRx src 0x13 = none) : exec (.timePacket src sub) s = .next s := by
  show execTimePacket src sub s = _
  unfold execTimePacket
  rw [h]

section
variable {s t : State} {src : Nat} {x : RxPkt} (h : s.takeRx src 0x13 = some (x, t)) (sub : Nat)
include h

theorem exec_timePacket_sync (hk : rdLe x.body 0 1 = 1) : exec (.timePacket src sub) s = .next (if fromParent t x then
    State.sendTime { t with nearEx := { num := rdLe x.body 4 4, t2 := some (t.clock + (sub % 100 : Nat)), t3 := some t.clock } } x.port 3
      (rdLe x.body 4 4) 0 else t) := by
  show execTimePacket src sub s = _
  unfold execTimePacket
  rw [h]
  dsimp only
  rw [hk]
  rfl

theorem exec_timePacket_follow (hk : rdLe x.body 0 1 = 2) : exec (.timePacket src sub) s = .next (if ofNearEx t x then
    { t with nearEx := { t.nearEx with t1 := some (sInt 64 (rdLe x.body 8 8)) } } else t) := by
  show execTimePacket src sub s = _
  unfold execTimePacket
  rw [h]
  dsimp only
  rw [hk]
  rfl

theorem exec_timePacket_request (hk : rdLe x.body 0 1 = 3) : exec (.timePacket src sub) s =
    .next (if t.timeState = 0 then t else t.sendTime x.port 4 (rdLe x.body 4 4) (t.clock + (sub % 100 : Nat))) := by
  show execTimePacket src sub s = _
  unfold execTimePacket
  rw [h]
  dsimp only
  rw [hk]
  rfl

theorem exec_timePacket_answer (hk : rdLe x.body 0 1 = 4) : exec (.timePacket src sub) s = .next (if ofNearEx t x then
    State.exchange { t with nearEx := {} } { t.nearEx with t4 := some (sInt 64 (rdLe x.body 8 8)) } (t.nport x.port).asym else t) := by
  show execTimePacket src sub s = _
  unfold execTimePacket
  rw [h]
  dsimp only
  rw [hk]
  rfl

theorem exec_timePacket_unknown (hk : rdLe x.body 0 1 ∉ [1, 2, 3, 4]) : exec (.timePacket src sub) s = .next (t.bump 0x5200 2) := by
  simp only [List.mem_cons, List.not_mem_nil, or_false, not_or] at hk
  obtain ⟨h1, h2, h3, h4⟩ := hk
  show execTimePacket src sub s = _
  unfold execTimePacket
  rw [h]
  dsimp only
  split
  · contradiction
  · contradiction
  · contradiction
  · contradiction
  · rfl

end

/-! ### The master's side (R150, R151) -/

/-- A grandmaster counts each interval as an offset within the budget. -/
def exchangeCounted (s : State) : State := if s.timeRole = 2 then s.countLock true else s

theorem exec_timeExchange_unset {s : State} (h : s.timeState = 0) (i : Nat) : exec (.timeExchange i) s = .next s := if_pos h

section
variable {s : State} (hset : s.timeState ≠ 0)
include hset

theorem exec_timeExchange_near (k : Nat) : exec (.timeExchange (64 + k)) s =
    let u := exchangeCounted s
    let n := fget 0 u.nearExch k
    if (decide (k < 16) && u.nearUp k && k != u.odGet 0x4020 1) = true then
      .next ((State.sendTime { u with nearExch := fput 0 u.nearExch k ((n + 1) % 2 ^ 32) } k 1 n 0).sendTime k 2 n u.clock)
    else .next u := by
  refine (if_neg hset).trans ((if_neg (by omega)).trans ?_)
  dsimp only
  rw [Nat.add_sub_cancel_left]
  rfl

theorem exec_timeExchange_far {i : Nat} (hi : i < 64) : exec (.timeExchange i) s =
    let u := exchangeCounted s
    let n := (u.fpeer i).exch
    let r := u.farSend i 8 0 (toLe 4 n ++ zeros 4) false
    if (decide (u.timeRole = 2) && u.otherSites.contains i) = true then
      if r.2 = true then .next ((r.1.fpeerMod i (fun p => { p with exch := (n + 1) % 2 ^ 32 })).farSend i 9 0
        (toLe 4 n ++ zeros 4 ++ toLe 8 (ftNat u.clock)) false).1
      else .next u
    else .next u := (if_neg hset).trans (if_pos hi)

end

/-- A near port over which the module is the master. -/
theorem mastersPort_iff (u : State) (k : Nat) : (decide (k < 16) && u.nearUp k && k != u.odGet 0x4020 1) = true ↔
    k < 16 ∧ u.nearUp k = true ∧ k ≠ u.odGet 0x4020 1 := by
  rw [Bool.and_eq_true, Bool.and_eq_true, decide_eq_true_iff, bne_iff_ne, and_assoc]

/-! ### HOLDOVER_TIMEOUT (R149) -/

theorem exec_holdoverTimeout_eq (s : State) : exec .holdoverTimeout s = .next
    (if (decide (s.timeState = 1) || s.timeState == 2) && s.timeRole != 2 then
      State.odSet { s with time := { s.time with lockRun := 0 } } 0x4010 1 3 else s) := rfl

theorem holdoverEnds_iff (s : State) : ((decide (s.timeState = 1) || s.timeState == 2) && s.timeRole != 2) = true ↔
    s.timeState ∈ [1, 2] ∧ s.timeRole ≠ 2 := by
  simp

/-! ### Far exchanges (R216) -/

/-- The course of a message of a far exchange: one of `n` bytes whose reserved bytes are 0 acts where it is one for this module, and an
ill-formed one is counted at its peer. -/
def farTimeMessage (n : Nat) (mine : State → Nat → List Byte → Bool) (act : State → Nat → List Byte → State) :
    State × Option (Nat × List Byte × List Byte) → State
  | (t, none) => t
  | (t, some (i, _, b)) =>
    if decide (b.length ≠ n) || !zeroAt b 4 4 then t.peerCount i 8 1 else if mine t i b then act t i b else t

theorem illFormed_iff (n : Nat) (b : List Byte) :
    (decide (b.length ≠ n) || !zeroAt b 4 4) = true ↔ ¬ (b.length = n ∧ zeroAt b 4 4 = true) := by
  rw [Bool.or_eq_true, decide_eq_true_iff, Bool.not_eq_true', not_and_or, Bool.not_eq_true]

theorem farTimeMessage_some (n : Nat) (mine : State → Nat → List Byte → Bool) (act : State → Nat → List Byte → State) (t : State) (i : Nat)
    (h b : List Byte) : farTimeMessage n mine act (t, some (i, h, b)) =
      if decide (b.length ≠ n) || !zeroAt b 4 4 then t.peerCount i 8 1 else if mine t i b then act t i b else t := rfl

section
variable {n : Nat} {mine : State → Nat → List Byte → Bool} {act : State → Nat → List Byte → State} {t : State} {i : Nat} {h b : List Byte}

theorem farTimeMessage_illFormed (hf : ¬ (b.length = n ∧ zeroAt b 4 4 = true)) :
    farTimeMessage n mine act (t, some (i, h, b)) = t.peerCount i 8 1 :=
  if_pos ((illFormed_iff n b).mpr hf)

variable (hf : b.length = n ∧ zeroAt b 4 4 = true)
include hf

theorem farTimeMessage_formed : farTimeMessage n mine act (t, some (i, h, b)) = if mine t i b then act t i b else t :=
  if_neg (fun hill => (illFormed_iff n b).mp hill hf)

theorem farTimeMessage_mine (hm : mine t i b = true) : farTimeMessage n mine act (t, some (i, h, b)) = act t i b := by
  rw [farTimeMessage_formed hf, if_pos hm]

theorem farTimeMessage_other (hm : ¬ mine t i b = true) : farTimeMessage n mine act (t, some (i, h, b)) = t := by
  rw [farTimeMessage_formed hf, if_neg hm]

end

/-- Is a message one of the exchange in progress with the master? -/
def ofFarEx (t : State) (i : Nat) (b : List Byte) : Bool := isMaster t i && (t.fpeer i).ex.num == rdLe b 0 4

theorem ofFarEx_iff (t : State) (i : Nat) (b : List Byte) : ofFarEx t i b = true ↔ isMaster t i = true ∧ (t.fpeer i).ex.num = rdLe b 0 4 := by
  rw [ofFarEx, Bool.and_eq_true, beq_iff_eq]

/-- The slave has stamped t2 at `at_` and asks. -/
def farAsks (at_ : Int) (t : State) (i : Nat) (b : List Byte) : State :=
  ((t.fpeerMod i (fun p => { p with ex := { num := rdLe b 0 4, t2 := some at_, t3 := some t.clock } })).farSend i 0xA 0 (slice b 0 8) false).1

section
variable (k sub : Nat) (src bytes : List Byte) (s : State)

theorem exec_timeSync_eq : exec (.timeSync k sub src bytes) s = .next (farTimeMessage 8 (fun t i _ => isMaster t i)
    (farAsks (s.clock + (sub % 100 : Nat))) (s.farOpen k src bytes 8)) := by
  show execTimeSync k sub src bytes s = _
  unfold execTimeSync
  rcases s.farOpen k src bytes 8 with ⟨t, _ | ⟨i, h, b⟩⟩
  · rfl
  · rw [farTimeMessage_some, apply_ite Host.Outcome.next, apply_ite Host.Outcome.next]
    rfl

theorem exec_timeFollow_eq : exec (.timeFollow k src bytes) s = .next (farTimeMessage 16 ofFarEx
    (fun t i b => stampEx t i { (t.fpeer i).ex with t1 := some (sInt 64 (rdLe b 8 8)) }) (s.farOpen k src bytes 9)) := by
  show execTimeFollow k src bytes s = _
  unfold execTimeFollow
  rcases s.farOpen k src bytes 9 with ⟨t, _ | ⟨i, h, b⟩⟩
  · rfl
  · rw [farTimeMessage_some, apply_ite Host.Outcome.next, apply_ite Host.Outcome.next]
    rfl

theorem exec_timeDreq_eq : exec (.timeDreq k sub src bytes) s = .next (farTimeMessage 8 (fun t _ _ => decide (t.timeRole = 2))
    (fun t i b => (t.farSend i 0xB 0 (slice b 0 8 ++ toLe 8 (ftNat (s.clock + (sub % 100 : Nat)))) false).1)
    (s.farOpen k src bytes 0xA)) := by
  show execTimeDreq k sub src bytes s = _
  unfold execTimeDreq
  rcases s.farOpen k src bytes 0xA with ⟨t, _ | ⟨i, h, b⟩⟩
  · rfl
  · rw [farTimeMessage_some, apply_ite Host.Outcome.next, apply_ite Host.Outcome.next]
    simp only [decide_eq_true_eq]

theorem exec_timeDresp_eq : exec (.timeDresp k src bytes) s = .next (farTimeMessage 16 ofFarEx
    (fun t i b => stampEx t i { (t.fpeer i).ex with t4 := some (sInt 64 (rdLe b 8 8)) }) (s.farOpen k src bytes 0xB)) := by
  show execTimeDresp k src bytes s = _
  unfold execTimeDresp
  rcases s.farOpen k src bytes 0xB with ⟨t, _ | ⟨i, h, b⟩⟩
  · rfl
  · rw [farTimeMessage_some, apply_ite Host.Outcome.next, apply_ite Host.Outcome.next]
    rfl

end

/-! ### The end of an exchange (R151, R216) -/

/-- An exchange with all four stamps. -/
def wholeEx (num : Nat) (t1 t2 t3 t4 : Int) : TimeEx := { num := num, t1 := some t1, t2 := some t2, t3 := some t3, t4 := some t4 }

section
variable (s : State) (i : Nat)

theorem stampEx_partial {e : TimeEx} (h : e.t1 = none ∨ e.t2 = none ∨ e.t3 = none ∨ e.t4 = none) :
    stampEx s i e = s.fpeerMod i (fun p => { p with ex := e }) := by
  have hpart : State.exWhole e = false := by
    unfold State.exWhole
    rcases h with h | h | h | h <;> simp [h]
  exact if_pos (by rw [hpart]; rfl)

theorem exchange_partial {e : TimeEx} (asym : Int) (h : e.t1 = none ∨ e.t2 = none ∨ e.t3 = none ∨ e.t4 = none) : s.exchange e asym = s := by
  unfold State.exchange
  split
  next h1 h2 h3 h4 => simp [h1, h2, h3, h4] at h
  next => rfl

/-- The state in which the exchange with a peer is over. -/
def exClosed : State := s.fpeerMod i (fun p => { p with ex := {}, skip := p.skip - 1 })

theorem stampEx_whole (num : Nat) (t1 t2 t3 t4 : Int) : stampEx s i (wholeEx num t1 t2 t3 t4) =
    if 0 < (s.fpeer i).skip then exClosed s i
    else (exClosed s i).exchange (wholeEx num t1 t2 t3 t4) (sInt 32 ((exClosed s i).odGet 0x4030 (i + 1))) :=
  if_neg Bool.false_ne_true

end

/-- Where FT may not step and is established, an offset out of the limit leads to HOLDOVER (R147, R149). -/
theorem servo_holdover (s : State) (t1 t2 t3 t4 asym : Int) :
    let d := s.halve ((t2 - t1) + (t4 - t3))
    let o := d.2.halve (2 * (t2 - t1) - ((t2 - t1) + (t4 - t3)) - asym)
    let shown := o.2.odSet 0x4010 4 (sNat 64 d.1)
    shown.mayStep = false → shown.timeState ≠ 0 → (shown.odGet 0x4020 5 : Int) < o.1 ∨ o.1 < -(shown.odGet 0x4020 5 : Int) →
      s.servo t1 t2 t3 t4 asym = (State.odSet { shown with time := { shown.time with lockRun := 0 } } 0x4010 1 3).countNotify 0x4020 6 := by
  intro d o shown hstep hset hout
  have hbeq : (shown.timeState == 0) = false := beq_false_of_ne hset
  have hout' : (decide ((shown.odGet 0x4020 5 : Int) < o.1) || decide (o.1 < -(shown.odGet 0x4020 5 : Int))) = true := by
    rw [Bool.or_eq_true, decide_eq_true_iff, decide_eq_true_iff]
    exact hout
  have hguard : (!(shown.mayStep || shown.timeState == 0) &&
      (decide ((shown.odGet 0x4020 5 : Int) < o.1) || decide (o.1 < -(shown.odGet 0x4020 5 : Int)))) = true := by
    rw [hstep, hbeq, hout']
    rfl
  exact if_pos hguard

/-! ### The 1PPS (R153) -/

theorem exec_ppsIn_eq (s : State) (sub : Nat) : exec (.ppsIn sub) s =
    .next (s.odSet 0x4040 2 (if s.time.ft = ftUnset then ftNat ftUnset else ftNat (s.time.ft + (sub % 100 : Nat)))) := rfl

theorem exec_ppsOut_eq (s : State) : exec .ppsOut s = .next (if (decide (s.odGet 0x4040 1 = 1) && s.time.ft != ftUnset &&
    decide (s.time.ft % 1000000000 ≤ 100)) = true then s.emit .pps else s) := rfl

theorem ppsRises_iff (s : State) : (decide (s.odGet 0x4040 1 = 1) && s.time.ft != ftUnset && decide (s.time.ft % 1000000000 ≤ 100)) = true ↔
    s.odGet 0x4040 1 = 1 ∧ s.time.ft ≠ ftUnset ∧ s.time.ft % 1000000000 ≤ 100 := by
  rw [Bool.and_eq_true, Bool.and_eq_true, decide_eq_true_iff, bne_iff_ne, decide_eq_true_iff, and_assoc]

/-! ### REF10M (R324) -/

/-- The state after the loss of REF10M, while it drove the counter. -/
def ref10mLost (s : State) : State :=
  (State.odSet { s.platMod (fun p => { p with ref10m := false }) with time := { s.time with onRefclk := true } } 0xF300 1 0).countNotify 0xF300 2

/-- The state after the return of REF10M, while REFCLK drove the counter. -/
def ref10mBack (s : State) : State :=
  State.odSet { s.platMod (fun p => { p with ref10m := true }) with time := { s.time with onRefclk := false } } 0xF300 1 1

theorem exec_ref10mLoss_eq (s : State) : exec .ref10mLoss s =
    if (s.plat.ref10m && s.awake && s.odGet 0xF300 1 == 1) = true then .next (ref10mLost s)
    else .next (s.platMod (fun p => { p with ref10m := false })) := rfl

theorem exec_ref10mReturn_eq (s : State) : exec .ref10mReturn s =
    if (!s.plat.ref10m && s.awake && s.time.onRefclk) = true then .next (ref10mBack s)
    else .next (s.platMod (fun p => { p with ref10m := true })) := rfl

theorem losesRef10m_iff (s : State) : (s.plat.ref10m && s.awake && s.odGet 0xF300 1 == 1) = true ↔
    s.plat.ref10m = true ∧ s.awake = true ∧ s.odGet 0xF300 1 = 1 := by
  rw [Bool.and_eq_true, Bool.and_eq_true, beq_iff_eq, and_assoc]

theorem regainsRef10m_iff (s : State) : (!s.plat.ref10m && s.awake && s.time.onRefclk) = true ↔
    s.plat.ref10m = false ∧ s.awake = true ∧ s.time.onRefclk = true := by
  rw [Bool.and_eq_true, Bool.and_eq_true, Bool.not_eq_true', and_assoc]

/-- The counter of losses of REF10M, OD 0xF300.02, is a U64. -/
theorem odRow_ref10mLosses : (odRow 0xF300 2).map (·.size) = some 8 := by decide +kernel

/-- The loss is shown, counted and announced; FT does not step. -/
theorem ref10mLost_shows (s : State) : (ref10mLost s).plat.ref10m = false ∧ (ref10mLost s).time.onRefclk = true ∧
    (ref10mLost s).odGet 0xF300 1 = 0 ∧ (ref10mLost s).odGet 0xF300 2 = (s.odGet 0xF300 2 + 1) % 2 ^ 64 ∧
    (ref10mLost s).time.ft = s.time.ft ∧ (ref10mLost s).mem = s.mem := by
  let u : State := { s.platMod (fun p => { p with ref10m := false }) with time := { s.time with onRefclk := true } }
  have hnoted : NotedFrom u (ref10mLost s) := notedFrom_countNotify u 0 0xF300 1 0xF300 2
  have htime : (ref10mLost s).time = u.time := hnoted.time
  have hshown : (ref10mLost s).odGet 0xF300 1 = 0 := by
    rw [ref10mLost, odGet_countNotify _ _ _ (by decide), odGet_bump_ne _ (by decide), odGet_odSet_same]
  have hcount : (ref10mLost s).odGet 0xF300 2 = (s.odGet 0xF300 2 + 1) % 2 ^ 64 := by
    rw [ref10mLost, odGet_countNotify _ _ _ (by decide), State.bump, odGet_bumpBy_same _ 1 odRow_ref10mLosses,
      odGet_odSet_ne _ _ (by decide)]
    rfl
  exact ⟨(congrArg (fun t : State => t.plat.ref10m) hnoted :), (congrArg TimeBlk.onRefclk htime).trans rfl, hshown, hcount,
    (congrArg TimeBlk.ft htime).trans rfl, hnoted.mem⟩

end Sys2Proof.Machine

open Sys2Proof Sys2Proof.Machine

/-- Settles O37: each message of an exchange by the branch that it takes, its end at the servo, and the clocks that drive FT. -/
theorem timeTransfer : Obligations.TimeTransfer := by
  refine ⟨⟨fun s t src sub x => ⟨exec_timePacket_none sub, fun hrx => ?nearMessages⟩, fun s k => ?nearMaster, fun s => ?holdover⟩,
    ⟨fun s t k i sub src bytes h b => ?farMessages, fun s i e t1 t2 t3 t4 asym => ?farEnd, fun s i hi => ?farMaster⟩,
    servo_holdover, fun s sub => ?pps, fun s => ?ref10m⟩
  case nearMessages =>
    refine ⟨fun hk => ?_, fun hk => ?_, fun hk => ?_, fun hk => ?_, exec_timePacket_unknown hrx sub⟩
    · rw [exec_timePacket_sync hrx sub hk]
      exact ⟨fun hp => by rw [if_pos ((fromParent_iff t x).mpr hp)], fun hp => by rw [if_neg (mt (fromParent_iff t x).mp hp)]⟩
    · rw [exec_timePacket_follow hrx sub hk]
      exact ⟨fun hp hn => by rw [if_pos ((ofNearEx_iff t x).mpr ⟨hp, hn⟩)], fun h => by rw [if_neg ((not_ofNearEx_iff t x).mpr h)]⟩
    · rw [exec_timePacket_request hrx sub hk]
      exact ⟨fun hset => by rw [if_neg hset], fun hset => by rw [if_pos hset]⟩
    · rw [exec_timePacket_answer hrx sub hk]
      exact ⟨fun hp hn => by rw [if_pos ((ofNearEx_iff t x).mpr ⟨hp, hn⟩)], fun h => by rw [if_neg ((not_ofNearEx_iff t x).mpr h)]⟩
  case nearMaster =>
    exact ⟨fun hset => exec_timeExchange_unset hset _,
      fun hset hcan => (exec_timeExchange_near hset k).trans (if_pos ((mastersPort_iff (exchangeCounted s) k).mpr hcan)),
      fun hset hcan => (exec_timeExchange_near hset k).trans (if_neg (mt (mastersPort_iff (exchangeCounted s) k).mp hcan))⟩
  case holdover =>
    rw [exec_holdoverTimeout_eq]
    refine ⟨fun hst hrole => ?_, fun h => ?_⟩
    · rw [if_pos ((holdoverEnds_iff s).mpr ⟨by simpa using hst, hrole⟩)]
    · rw [if_neg (fun hg => ?_)]
      obtain ⟨hst, hrole⟩ := (holdoverEnds_iff s).mp hg
      exact h.elim (· hst) hrole
  case farMessages =>
    refine ⟨⟨fun ho => ?_, fun ho => ?_, fun ho => ?_, fun ho => ?_⟩, fun ho => ?_, fun ho => ?_, fun ho => ?_, fun ho => ?_⟩
    · rw [exec_timeSync_eq, ho, farTimeMessage]
    · rw [exec_timeFollow_eq, ho, farTimeMessage]
    · rw [exec_timeDreq_eq, ho, farTimeMessage]
    · rw [exec_timeDresp_eq, ho, farTimeMessage]
    · rw [exec_timeSync_eq, ho]
      exact ⟨fun hf => congrArg _ (farTimeMessage_illFormed hf),
        fun hf hm => congrArg _ (farTimeMessage_other hf (by rw [hm]; exact Bool.false_ne_true)),
        fun hf hm => congrArg _ (farTimeMessage_mine hf hm)⟩
    · rw [exec_timeFollow_eq, ho]
      exact ⟨fun hf => congrArg _ (farTimeMessage_illFormed hf),
        fun hf hm => congrArg _ (farTimeMessage_other hf (mt (ofFarEx_iff t i b).mp hm)),
        fun hf hm => congrArg _ (farTimeMessage_mine hf ((ofFarEx_iff t i b).mpr hm))⟩
    · rw [exec_timeDreq_eq, ho]
      exact ⟨fun hf => congrArg _ (farTimeMessage_illFormed hf),
        fun hf hm => congrArg _ (farTimeMessage_other hf (mt decide_eq_true_iff.mp hm)),
        fun hf hm => congrArg _ (farTimeMessage_mine hf (decide_eq_true hm))⟩
    · rw [exec_timeDresp_eq, ho]
      exact ⟨fun hf => congrArg _ (farTimeMessage_illFormed hf),
        fun hf hm => congrArg _ (farTimeMessage_other hf (mt (ofFarEx_iff t i b).mp hm)),
        fun hf hm => congrArg _ (farTimeMessage_mine hf ((ofFarEx_iff t i b).mpr hm))⟩
  case farEnd =>
    refine ⟨fun h => ⟨stampEx_partial s i h, exchange_partial s asym h⟩, fun h0 => ?_, fun hpos => ?_, rfl⟩
    · exact (stampEx_whole s i e.num t1 t2 t3 t4).trans (if_neg (by omega))
    · exact (stampEx_whole s i e.num t1 t2 t3 t4).trans (if_pos hpos)
  case farMaster =>
    refine ⟨fun hset => exec_timeExchange_unset hset _, fun hset hcan => ?_, fun hset hcan => ?_⟩
    · obtain ⟨hrole, hsite, hsent⟩ := hcan
      refine (exec_timeExchange_far hset hi).trans ((if_pos ?_).trans (if_pos hsent))
      rw [Bool.and_eq_true, decide_eq_true_iff]
      exact ⟨hrole, hsite⟩
    · refine (exec_timeExchange_far hset hi).trans ?_
      by_cases hg : (decide ((exchangeCounted s).timeRole = 2) && (exchangeCounted s).otherSites.contains i) = true
      · refine (if_pos hg).trans (if_neg (fun hsent => hcan ?_))
        rw [Bool.and_eq_true, decide_eq_true_iff] at hg
        exact ⟨hg.1, hg.2, hsent⟩
      · exact if_neg hg
  case pps =>
    rw [exec_ppsIn_eq, exec_ppsOut_eq]
    refine ⟨fun h => by rw [if_neg h], fun h => by rw [if_pos h]; rfl, fun hon hset hs => ?_, fun h => ?_⟩
    · rw [if_pos ((ppsRises_iff s).mpr ⟨hon, hset, hs⟩)]
    · rw [if_neg (fun hg => ?_)]
      obtain ⟨hon, hset, hs⟩ := (ppsRises_iff s).mp hg
      exact h.elim (· hon) (fun h => h.elim hset (fun h => absurd hs (not_le.mpr h)))
  case ref10m =>
    rw [exec_ref10mLoss_eq, exec_ref10mReturn_eq]
    refine ⟨fun h => ⟨ref10mLost s, if_pos ((losesRef10m_iff s).mpr h), ref10mLost_shows s⟩,
      fun h => if_neg (mt (losesRef10m_iff s).mp h), fun h => ⟨ref10mBack s, if_pos ((regainsRef10m_iff s).mpr h), ?_⟩,
      fun h => if_neg (mt (regainsRef10m_iff s).mp h)⟩
    exact ⟨rfl, rfl, odGet_odSet_same _ _ _ _, rfl, rfl⟩
end

section
/-! SUPPORT. The packets that a module consumes (07, 7.5): what the taking of a packet does (R177, R178), the control packets (R182), the relay
and the management packets (R206, R173), and the statement. -/

namespace Sys2Proof.Machine

/-! ### The taking of a packet (R177, R178) -/

theorem returnRoom_rx (s : State) (r : Option Room) : (s.returnRoom r).rx = s.rx := by
  cases r with
  | none => rfl
  | some r =>
    unfold State.returnRoom
    dsimp only
    split <;> rfl

theorem returnRoom_vc0Rx (s : State) (r : Option Room) : (s.returnRoom r).vc0Rx = s.vc0Rx :=
  (congrArg State.vc0Rx (sentFrom_returnRoom s r) :)

/-- May a packet from a source and of a type be consumed: on VC0 with the next number of the source? -/
def consumable (s : State) (src typ : Nat) (x : RxPkt) : Bool :=
  x.src == src && x.typ == typ && (!x.ordered || x.seq == fget 0 s.vc0Rx src)

/-- A packet that is taken is the first that may be; on VC0 its source's next number counts on. -/
theorem takeRx_some {s s1 : State} {src typ : Nat} {x : RxPkt} (h : s.takeRx src typ = some (x, s1)) :
    s.rx.find? (consumable s src typ) = some x ∧
      s1 = (let t := State.returnRoom { s with rx := s.rx.eraseP (consumable s src typ) } x.room
        if x.ordered then { t with vc0Rx := fmod 0 t.vc0Rx src (fun n => (n + 1) % 2 ^ 32) } else t) := by
  unfold State.takeRx at h
  dsimp only at h
  split at h
  · cases h
  next hfind =>
    cases h
    exact ⟨hfind, rfl⟩

/-- An ordered packet carries the next number of its source, and is consumed once. -/
theorem takeRx_ordered {s s1 : State} {src typ : Nat} {x : RxPkt} (h : s.takeRx src typ = some (x, s1)) (ho : x.ordered = true) :
    x.seq = fget 0 s.vc0Rx src ∧ fget 0 s1.vc0Rx src = (x.seq + 1) % 2 ^ 32 ∧ s1.rx.length + 1 = s.rx.length := by
  obtain ⟨hfind, hs1⟩ := takeRx_some h
  have hok : consumable s src typ x = true := List.find?_some hfind
  have hmem : x ∈ s.rx := List.mem_of_find?_eq_some hfind
  have hseq : x.seq = fget 0 s.vc0Rx src := by
    unfold consumable at hok
    rw [ho, Bool.and_eq_true, Bool.not_true, Bool.false_or, beq_iff_eq] at hok
    exact hok.2
  rw [if_pos ho] at hs1
  subst hs1
  refine ⟨hseq, ?_, ?_⟩
  · dsimp only
    rw [fget_fmod_same, returnRoom_vc0Rx, hseq]
  · have hpos := List.length_pos_of_mem hmem
    dsimp only
    rw [returnRoom_rx]
    dsimp only
    rw [List.length_eraseP_of_mem hmem hok]
    omega

/-- A command that consumes a packet leaves the state where none has come. -/
theorem exec_consume_none {s : State} {src typ : Nat} {c : Instr} (hc : (typ, c) ∈ [(0x10, Instr.syncInc src), (0x11, .cack src),
      (0x12, .scalarPacket src), (8, .relay src), (9, .mgmt src)]) (h : s.takeRx src typ = none) : exec c s = .next s := by
  simp only [List.mem_cons, Prod.mk.injEq, List.not_mem_nil, or_false] at hc
  obtain ⟨rfl, rfl⟩ | ⟨rfl, rfl⟩ | ⟨rfl, rfl⟩ | ⟨rfl, rfl⟩ | ⟨rfl, rfl⟩ := hc
  case inr.inr.inr.inr =>
    show execMgmt src s = _
    unfold execMgmt
    rw [h]
    split <;> rfl
  all_goals
    dsimp only [exec, execSyncInc, execCack, execScalarPacket, execRelay]
    rw [h]

/-! ### Increments, acknowledgements and scalar records (R144, R181, R189) -/

section
variable {s s1 : State} {src : Nat} {x : RxPkt}

theorem exec_syncInc_some (h : s.takeRx src 0x10 = some (x, s1)) : exec (.syncInc src) s = .next
    ((incPairs (min 22 (x.body.length / 8)) x.body).foldl (fun a q => a.syncMod (q.1 % 2 ^ 18) (fun o => { o with
      onWay := o.onWay ++ [{ src := .remote src, op := .add (BitVec.ofNat 32 q.2) }] })) s1) := by
  show execSyncInc src s = _
  unfold execSyncInc
  rw [h]

theorem exec_cack_some (h : s.takeRx src 0x11 = some (x, s1)) : exec (.cack src) s =
    if (decide (x.body.length ≠ 16) || rdLe x.body 0 1 == 0 || decide (8 < rdLe x.body 0 1)) = true then .next (s1.bump 0x5200 2)
    else .next (collAdvance (cackIn s1 src x)) := by
  show execCack src s = _
  unfold execCack
  rw [h]

theorem cackBad_iff (x : RxPkt) : (decide (x.body.length ≠ 16) || rdLe x.body 0 1 == 0 || decide (8 < rdLe x.body 0 1)) = true ↔
    x.body.length ≠ 16 ∨ rdLe x.body 0 1 = 0 ∨ 8 < rdLe x.body 0 1 := by
  rw [Bool.or_eq_true, Bool.or_eq_true, decide_eq_true_iff, beq_iff_eq, decide_eq_true_iff, or_assoc]

theorem exec_scalarPacket_some (h : s.takeRx src 0x12 = some (x, s1)) : exec (.scalarPacket src) s =
    if x.body.length ≠ 32 then .next (s1.bump 0x5200 2)
    else .next (collAdvance (s1.collMod (fun c => { c with scalars := c.scalars ++ [(src, x.coll, x.epoch, x.body)] }))) := by
  show execScalarPacket src s = _
  unfold execScalarPacket
  rw [h]

end

/-! ### CTRL packets (R182) -/

section
variable {s s1 : State} {src : Nat} {x : RxPkt}

theorem takeCtrl_none (ctype : Nat) (h : s.takeRx src 0x14 = none) : takeCtrl s src ctype = (none, s) := by
  unfold takeCtrl
  rw [h]

section
variable (h : s.takeRx src 0x14 = some (x, s1))
include h

theorem takeCtrl_illFormed (ctype : Nat) (hok : ctrlOk x = false) : takeCtrl s src ctype = (none, s1.bump 0x5200 2) := by
  unfold takeCtrl
  rw [h]
  dsimp only
  rw [hok]
  rfl

theorem takeCtrl_other {ctype : Nat} (hok : ctrlOk x = true) (hne : rdLe x.body 0 1 ≠ ctype) : takeCtrl s src ctype = (none, s) := by
  unfold takeCtrl
  rw [h]
  dsimp only
  rw [hok, if_neg hne]
  rfl

theorem takeCtrl_some {ctype : Nat} (hok : ctrlOk x = true) (hk : rdLe x.body 0 1 = ctype) :
    takeCtrl s src ctype = (some (x, s1), s) := by
  unfold takeCtrl
  rw [h]
  dsimp only
  rw [hok, if_pos hk]
  rfl

end

/-- A command that consumes a CTRL packet of a type acts on nothing else: what it does then is the taking alone. -/
theorem exec_ctrl_none {t : State} {ctype : Nat} {c : Instr} (hc : (ctype, c) ∈ [(1, Instr.siteStop src), (2, .regather src), (3, .putFault src),
      (4, .passReady src), (5, .permuteDone src)]) (h : takeCtrl s src ctype = (none, t)) : exec c s = .next t := by
  simp only [List.mem_cons, Prod.mk.injEq, List.not_mem_nil, or_false] at hc
  obtain ⟨rfl, rfl⟩ | ⟨rfl, rfl⟩ | ⟨rfl, rfl⟩ | ⟨rfl, rfl⟩ | ⟨rfl, rfl⟩ := hc
  all_goals
    dsimp only [exec, execSiteStop, execRegather, execPutFault, execPassReady, execPermuteDone]
    rw [h]

/-- Does a module hold the standby role of the site? -/
def holdsStandby (s : State) (smn : Nat) : Bool := s.lModules.any (fun m => m.smn == smn && Nat.testBit m.roles 2)

theorem exec_siteStop_some (h : takeCtrl s src 1 = (some (x, s1), s)) : exec (.siteStop src) s =
    .next (State.stopJob (if (decide (rdLe x.body 1 1 = 3) && holdsStandby s1 (rdLe x.body 2 1)) = true then { s1 with roleChange := true }
      else s1) 4 (rdLe x.body 2 1)) := by
  show execSiteStop src s = _
  unfold execSiteStop
  rw [h]
  rfl

theorem tellsTakeover_iff (s : State) (reason smn : Nat) : (decide (reason = 3) && holdsStandby s smn) = true ↔
    reason = 3 ∧ holdsStandby s smn = true := by
  rw [Bool.and_eq_true, decide_eq_true_iff]

/-- The entries of GATHER whose images can be asked for: those that run, then those that have. -/
def askedGather (s : State) (x : RxPkt) : Option (List Byte) :=
  (s.coll.queues.flatMap (fun c => (c.2.run.map (·.desc)).filter (fun d => rdLe d 0 1 == 2)) ++ s.coll.gathers).find?
    (fun d => rdLe d 2 2 == x.coll && rdLe d 4 2 == x.epoch)

section
variable (h : takeCtrl s src 2 = (some (x, s1), s))
include h

theorem exec_regather_unknown (ha : askedGather s1 x = none) : exec (.regather src) s = .next s1 := by
  show execRegather src s = _
  unfold execRegather
  unfold askedGather at ha
  rw [h]
  dsimp only
  rw [ha]

theorem exec_regather_some {d : List Byte} (ha : askedGather s1 x = some d) : exec (.regather src) s =
    .next (s1.openOut { imgOut (if s1.coll.queues.any (fun c => c.1 == 2 && c.2.run.any (fun e => e.desc == d)) then 2 else 1) 0 src x.coll
      x.epoch (rdLe d 0x28 4) (rdLe x.body 4 4) (s1.readBytes (rdLe d 8 8) (imgSize (s1.readBytes (rdLe d 8 8) 64))) with q := 0 } false) := by
  show execRegather src s = _
  unfold execRegather
  unfold askedGather at ha
  rw [h]
  dsimp only
  rw [ha]

end

section
variable (h : takeCtrl s src 3 = (some (x, s1), s))
include h

theorem exec_putFault_unknown (ho : s1.coll.outs.find? (fun o => State.outIs o src x.coll 4 0) = none) :
    exec (.putFault src) s = .next s1 := by
  show execPutFault src s = _
  unfold execPutFault
  rw [h]
  dsimp only
  rw [ho]

theorem exec_putFault_some {o : OutStream} (ho : s1.coll.outs.find? (fun o => State.outIs o src x.coll 4 0) = some o) :
    exec (.putFault src) s = .next
      ((((s1.collMod (fun c => { c with outs := c.outs.filter (fun p => !State.outIs p src x.coll 4 0) })).odSet 0x5400 8
        (4 * 2 ^ 24 + o.q * 2 ^ 20 + 8)).bump 0x5400 7).finishEntry o.q o.idx true) := by
  show execPutFault src s = _
  unfold execPutFault
  rw [h]
  dsimp only
  rw [ho]

end

theorem exec_passReady_some (h : takeCtrl s src 4 = (some (x, s1), s)) : exec (.passReady src) s = .next (collAdvance (s1.collMod
    (fun c => { c with passReady := (src, x.coll, rdLe x.body 4 4) :: c.passReady }))) := by
  show execPassReady src s = _
  unfold execPassReady
  rw [h]

theorem exec_permuteDone_some (h : takeCtrl s src 5 = (some (x, s1), s)) : exec (.permuteDone src) s = .next (collAdvance (s1.collMod
    (fun c => { c with permDone := (src, x.coll) :: c.permDone }))) := by
  show execPermuteDone src s = _
  unfold execPermuteDone
  rw [h]

end

/-! ### RELAY and MGMT (R206, R173) -/

section
variable {s s1 : State} {src : Nat} {x : RxPkt}

theorem exec_relay_some (h : s.takeRx src 8 = some (x, s1)) : exec (.relay src) s =
    if (s1.isGateway && src != s1.smn) = true then .next (relayOut s1 x)
    else if s1.gatewayOf = some src then .next (relayIn s1 x) else .next (s1.bump 0x5200 2) := by
  show execRelay src s = _
  unfold execRelay
  rw [h]

theorem relaysOut_iff (t : State) (src : Nat) : (t.isGateway && src != t.smn) = true ↔ t.isGateway = true ∧ src ≠ t.smn := by
  rw [Bool.and_eq_true, bne_iff_ne]

theorem not_relaysOut {t : State} {src : Nat} (h : t.isGateway = false ∨ src = t.smn) : ¬ (t.isGateway && src != t.smn) = true := by
  rw [relaysOut_iff]
  rintro ⟨hg, hne⟩
  rw [hg] at h
  exact h.elim (fun h => by cases h) hne

theorem exec_mgmt_deaf (h : s.crownServes = false) : exec (.mgmt src) s = .next s := if_pos (by rw [h]; rfl)

/-- Does a frame come from a member of the site, without a session or a MAC? -/
def siteFrame (t : State) (src : Nat) (f : List Byte) : Bool :=
  frameForm f && fSession f == 0 && fMac f == zeros 16 && t.siteMembers.contains src

theorem siteFrame_iff (t : State) (src : Nat) (f : List Byte) : siteFrame t src f = true ↔
    frameForm f = true ∧ fSession f = 0 ∧ fMac f = zeros 16 ∧ t.siteMembers.contains src = true := by
  rw [siteFrame, Bool.and_eq_true, Bool.and_eq_true, Bool.and_eq_true, beq_iff_eq, beq_iff_eq, and_assoc, and_assoc]

theorem exec_mgmt_some (hs : s.crownServes = true) (h : s.takeRx src 9 = some (x, s1)) : exec (.mgmt src) s =
    .next (if siteFrame s1 src x.body then s1.mgmtFrame src x.body else s1.bump 0x1210 4) := by
  show execMgmt src s = _
  unfold execMgmt
  rw [hs, h]
  rfl

end

end Sys2Proof.Machine

open Sys2Proof Sys2Proof.Machine

/-- Settles O34: each packet by the command that consumes it, the CTRL packets by the taking they share, and the order on VC0. -/
theorem controlPacketsAct : Obligations.ControlPacketsAct := by
  refine ⟨⟨fun s s1 src x h => exec_syncInc_some h, fun s s1 src x h => ?cack, fun s s1 src x h => ?scalar, fun s s1 src x h hok => ?ctrl,
    fun s src ctype c hc => ⟨fun h => exec_ctrl_none hc (takeCtrl_none ctype h), fun s1 x h => ⟨fun hok => exec_ctrl_none hc
      (takeCtrl_illFormed h ctype hok), fun hok hne => exec_ctrl_none hc (takeCtrl_other h hok hne)⟩⟩,
    fun s src typ c hc h => exec_consume_none hc h, fun s s1 src typ x h ho => takeRx_ordered h ho⟩,
    fun s s1 src x => ⟨fun h => ?relay, exec_mgmt_deaf, fun hs h => ?mgmt⟩⟩
  case cack =>
    rw [exec_cack_some h]
    refine ⟨fun hlen hlo hhi => if_neg (mt (cackBad_iff x).mp ?_), fun hbad => if_pos ((cackBad_iff x).mpr hbad)⟩
    omega
  case scalar =>
    rw [exec_scalarPacket_some h]
    exact ⟨fun hlen => if_neg (not_not_intro hlen), fun hlen => if_pos hlen⟩
  case ctrl =>
    refine ⟨fun hk => ?_, fun hk => ?_, fun hk => ?_, fun hk => exec_passReady_some (takeCtrl_some h hok hk),
      fun hk => exec_permuteDone_some (takeCtrl_some h hok hk)⟩
    · have hexec := exec_siteStop_some (takeCtrl_some h hok hk)
      have hiff := tellsTakeover_iff s1 (rdLe x.body 1 1) (rdLe x.body 2 1)
      exact ⟨fun hyes => hexec.trans (by rw [if_pos (hiff.mpr hyes)]), fun hno => hexec.trans (by rw [if_neg (mt hiff.mp hno)])⟩
    · refine ⟨fun ha => exec_regather_unknown (takeCtrl_some h hok hk) ha, fun d v ha hv => ?_⟩
      rw [hv]
      exact exec_regather_some (takeCtrl_some h hok hk) ha
    · exact ⟨exec_putFault_unknown (takeCtrl_some h hok hk), fun o ho => exec_putFault_some (takeCtrl_some h hok hk) ho⟩
  case relay =>
    rw [exec_relay_some h]
    refine ⟨fun hg hne => if_pos ((relaysOut_iff s1 src).mpr ⟨hg, hne⟩), fun hno hof => ?_, fun hno hof => ?_⟩
    · rw [if_neg (not_relaysOut hno), if_pos hof]
    · rw [if_neg (not_relaysOut hno), if_neg hof]
  case mgmt =>
    rw [exec_mgmt_some hs h]
    exact ⟨fun hv => by rw [if_pos ((siteFrame_iff s1 src x.body).mpr hv)], fun hv => by rw [if_neg (mt (siteFrame_iff s1 src x.body).mp hv)]⟩
end

section
/-! SUPPORT. No operation of a period touches the queue of waiting commands: one rule per operation, in the order of the definitions. A rule that the
frame of an operation already says (`CrownOnly`, `SentFrom`) is read off it. -/

namespace Sys2Proof.Machine

@[simp] theorem ite_pending (c : Prop) [Decidable c] (s t : State) : (if c then s else t).pending = if c then s.pending else t.pending :=
  apply_ite State.pending c s t

theorem foldl_pending {β : Type} {f : State → β → State} (h : ∀ s b, (f s b).pending = s.pending) (l : List β) (s : State) :
    (l.foldl f s).pending = s.pending := by
  induction l generalizing s with
  | nil => rfl
  | cons b l ih => exact (ih (f s b)).trans (h s b)

/-- A loop that carries a value beside the state. -/
theorem foldl_fst_pending {β γ : Type} {f : State × γ → β → State × γ} (h : ∀ a b, (f a b).1.pending = a.1.pending) (l : List β)
    (a : State × γ) : (l.foldl f a).1.pending = a.1.pending := by
  induction l generalizing a with
  | nil => rfl
  | cons b l ih => exact (ih (f a b)).trans (h a b)

theorem CrownOnly.pending {s t : State} (h : CrownOnly s t) : t.pending = s.pending := (congrArg State.pending h :)

theorem SentFrom.pending {s t : State} (h : SentFrom s t) : t.pending = s.pending := (congrArg State.pending h :)

/-! ### Frames, notices and sessions -/

@[simp] theorem mbWrite_pending (s : State) (off : Nat) (bs : List Byte) : (s.mbWrite off bs).pending = s.pending :=
  (crownOnly_mbWrite s off bs).pending

@[simp] theorem setSessions_pending (s : State) (l : List Session) : (s.setSessions l).pending = s.pending := rfl
@[simp] theorem sesMod_pending (s : State) (id : Nat) (f : Session → Session) : (s.sesMod id f).pending = s.pending := rfl
@[simp] theorem notifyFlush_pending (s : State) : s.notifyFlush.pending = s.pending := (crownOnly_notifyFlush s).pending
@[simp] theorem notifyVal_pending (s : State) (index sub v : Nat) : (s.notifyVal index sub v).pending = s.pending := by simp [State.notifyVal]
@[simp] theorem notify_pending (s : State) (index sub : Nat) : (s.notify index sub).pending = s.pending := by simp [State.notify]
@[simp] theorem countNotify_pending (s : State) (index sub : Nat) : (s.countNotify index sub).pending = s.pending := by simp [State.countNotify]
@[simp] theorem exportsEnd_pending (s : State) (apply : Bool) : (s.exportsEnd apply).pending = s.pending := by simp [State.exportsEnd]
@[simp] theorem discardFrame_pending (s : State) (f : List Byte) : (s.discardFrame f).pending = s.pending := by simp [State.discardFrame]

@[simp] theorem mbSkip_pending (n : Nat) (s : State) : (State.mbSkip n s).pending = s.pending := by
  induction n generalizing s with
  | zero => rfl
  | succ n ih =>
    unfold State.mbSkip
    dsimp only
    repeat' split
    all_goals simp [ih]

@[simp] theorem copSend_pending (s : State) (p : Peer) (f : List Byte) : (s.copSend p f).pending = s.pending :=
  (crownOnly_copSend s p f).pending

@[simp] theorem drawBytes_pending (s : State) (n : Nat) : (s.drawBytes n).2.pending = s.pending := rfl
@[simp] theorem newSession_pending (s : State) (p : Peer) (b : List Byte) : (s.newSession p b).1.pending = s.pending := rfl

@[simp] theorem openDo_pending (s : State) (p : Peer) (f : List Byte) : (s.openDo p f).pending = s.pending := by
  unfold State.openDo
  dsimp only
  repeat' split
  all_goals simp

@[simp] theorem ackDo_pending (s : State) (x : Session) (b : List Byte) : (s.ackDo x b).pending = s.pending := by simp [State.ackDo]

@[simp] theorem answer_pending (s : State) (x : Session) (p : Peer) (f : List Byte) (status : Nat) : (s.answer x p f status).pending = s.pending := by
  simp [State.answer]

@[simp] theorem releaseNotify_pending (s : State) : s.releaseNotify.pending = s.pending := by simp [State.releaseNotify]
@[simp] theorem dropSession_pending (s : State) (id : Nat) : (s.dropSession id).pending = s.pending := by simp [State.dropSession]

/-! ### Resets, and the answer to a request -/

@[simp] theorem doReset_pending (s : State) (cause detail : Nat) (cls : ResetCls) (needPower : Bool) :
    (s.doReset cause detail cls needPower).pending = s.pending := by
  simp [State.doReset]

@[simp] theorem performReset_pending (s : State) (cause detail : Nat) (cls : ResetCls) (needPower : Bool) :
    (s.performReset cause detail cls needPower).pending = s.pending := by
  simp [State.performReset]

@[simp] theorem assertReset_pending (s : State) (cause detail : Nat) (cls : ResetCls) (needPower : Bool) :
    (s.assertReset cause detail cls needPower).pending = s.pending := by
  simp [State.assertReset]

@[simp] theorem resetsAfter_pending (s : State) (p : Peer) (cs : List Nat) : (s.resetsAfter p cs).pending = s.pending := by
  simp [State.resetsAfter, foldl_pending]

@[simp] theorem reply_pending (x : Session) (p : Peer) (f : List Byte) (r : Reply) : (State.reply x p f r).pending = r.st.pending := by
  unfold State.reply
  split <;> simp

@[simp] theorem proveDo_pending (s : State) (x : Session) (p : Peer) (f : List Byte) : (s.proveDo x p f).pending = s.pending := by
  unfold State.proveDo
  dsimp only
  repeat' split
  all_goals simp

/-! ### Reads of the dictionary, and the checks of its writes -/

@[simp] theorem prbsSample_pending (s : State) : s.prbsSample.pending = s.pending := by
  unfold State.prbsSample
  split <;> simp

@[simp] theorem odRead_pending (s : State) (rights session : Nat) (nonce : List Byte) (index sub : Nat) :
    (s.odRead rights session nonce index sub).1.pending = s.pending := by
  unfold State.odRead
  repeat' split
  all_goals simp

@[simp] theorem readItem_pending (s : State) (x : Session) (i : Item) : (s.readItem x i).1.pending = s.pending := by
  unfold State.readItem
  dsimp only
  repeat' split
  all_goals simp

@[simp] theorem odCheck_pending (s : State) (rights : Nat) (field : Bool) (index sub : Nat) (typ : Option Nat) (b : List Byte) :
    (s.odCheck rights field index sub typ b).1.pending = s.pending := by
  unfold State.odCheck
  dsimp only
  repeat' split
  all_goals simp

@[simp] theorem checkItems_pending (s : State) (rights : Nat) (field typed : Bool) (l : List Item) :
    (s.checkItems rights field typed l).1.pending = s.pending := by
  refine foldl_fst_pending (fun a q => ?_) _ (s, [])
  dsimp only
  split <;> simp

@[simp] theorem odAttempt_pending (s : State) (index sub status : Nat) (b : List Byte) : (s.odAttempt index sub status b).pending = s.pending := by
  unfold State.odAttempt
  split <;> simp

@[simp] theorem attemptItems_pending (s : State) (l : List Item) (sts : List Nat) : (s.attemptItems l sts).pending = s.pending := by
  simp [State.attemptItems, foldl_pending]

/-! ### What the writes of the dictionary change: the layout, the beats, the firmware, the clock -/

@[simp] theorem roleFromLayout_pending (s : State) : s.roleFromLayout.pending = s.pending := rfl
@[simp] theorem odSetShown_pending (s : State) (index sub v : Nat) : (s.odSetShown index sub v).pending = s.pending := by simp [State.odSetShown]

@[simp] theorem publish_pending (s : State) (n : Nat) (changed : List (Nat × Nat)) : (s.publish n changed).pending = s.pending := by
  simp [State.publish]

@[simp] theorem farFromLayout_pending (s : State) : s.farFromLayout.pending = s.pending := by simp [State.farFromLayout]
@[simp] theorem dropSessions_pending (s : State) : s.dropSessions.pending = s.pending := by simp [State.dropSessions, foldl_pending]
@[simp] theorem layoutWritten_pending (s : State) : s.layoutWritten.pending = s.pending := by simp [State.layoutWritten]
@[simp] theorem setBeat_pending (s : State) (i : Nat) (e : Beat) : (s.setBeat i e).pending = s.pending := rfl

@[simp] theorem writeTable_pending (s : State) (b : List Byte) : (writeTable s b).pending = s.pending :=
  foldl_pending (fun _ _ => setBeat_pending _ _ _) _ { s with beats := [] }

@[simp] theorem writeBeat_pending (s : State) (i : Nat) (b : List Byte) : (writeBeat s i b).pending = s.pending := rfl
@[simp] theorem rosterWritten_pending (s : State) (b : List Byte) : (s.rosterWritten b).pending = s.pending := by simp [State.rosterWritten]
@[simp] theorem farMod_pending (s : State) (f : Far → Far) : (s.farMod f).pending = s.pending := rfl
@[simp] theorem forgetHops_pending (s : State) : s.forgetHops.pending = s.pending := rfl
@[simp] theorem outerMod_pending (s : State) (f : Outer → Outer) : (s.outerMod f).pending = s.pending := rfl
@[simp] theorem ctlWrite_pending (s : State) (f : CtlBlock → CtlBlock) : (s.ctlWrite f).pending = s.pending := by simp [State.ctlWrite]
@[simp] theorem slotWrite_pending (s : State) (k : Nat) (b : List Byte) : (s.slotWrite k b).pending = s.pending := by simp [State.slotWrite]
@[simp] theorem fwStore_pending (s : State) (b : List Byte) : (s.fwStore b).pending = s.pending := by simp [State.fwStore]
@[simp] theorem dropJobKey_pending (s : State) : s.dropJobKey.pending = s.pending := by simp [State.dropJobKey]
@[simp] theorem unlock_pending (s : State) (b : List Byte) : (s.unlock b).pending = s.pending := by simp [State.unlock]

@[simp] theorem textWrite_pending (s : State) (index sub : Nat) (b : List Byte) : (s.textWrite index sub b).pending = s.pending := by
  unfold State.textWrite
  split <;> simp

@[simp] theorem setFt_pending (s : State) (t : Int) : (s.setFt t).pending = s.pending := rfl
@[simp] theorem ftWritten_pending (s : State) (v : Nat) : (s.ftWritten v).pending = s.pending := by simp [State.ftWritten]
@[simp] theorem cutFreq_pending (s : State) : s.cutFreq.pending = s.pending := rfl

/-! ### Pending changes (R16) and the stops of the job -/

@[simp] theorem nportMod_pending (s : State) (k : Nat) (f : NearPort → NearPort) : (s.nportMod k f).pending = s.pending := rfl
@[simp] theorem nportCount_pending (s : State) (k c : Nat) : (s.nportCount k c).pending = s.pending := rfl

@[simp] theorem answerWaiting_pending (s : State) (status : Nat) : (s.answerWaiting status).pending = s.pending := by
  unfold State.answerWaiting
  split <;> simp

@[simp] theorem dieResolve_pending (s : State) : s.dieResolve.pending = s.pending := rfl
@[simp] theorem mapSet_pending (s : State) (t1 bit : Nat) (on : Bool) : (s.mapSet t1 bit on).pending = s.pending := by simp [State.mapSet]
@[simp] theorem mapPort_pending (s : State) (cls num : Nat) (on : Bool) : (s.mapPort cls num on).pending = s.pending := by simp [State.mapPort]
@[simp] theorem portSvcSet_pending (s : State) (cls num v : Nat) : (s.portSvcSet cls num v).pending = s.pending := rfl

@[simp] theorem applyChange_pending (s : State) (k : ChangeKind) : (s.applyChange k).1.pending = s.pending := by
  unfold State.applyChange
  cases k with
  | restart level index hands => exact foldl_pending (fun _ _ => by simp) hands s
  | swapBack t1 slot lslot =>
    dsimp only
    split <;> simp
  | openPort cls num =>
    dsimp only
    repeat' split
    all_goals simp
  | _ => simp

@[simp] theorem applyReady_pending (s : State) (cs : List Change) (n : Nat) (es : List (Nat × Nat)) :
    (s.applyReady cs n es).pending = s.pending := by
  induction cs generalizing s n es with
  | nil => exact publish_pending s n es
  | cons c cs ih =>
    unfold State.applyReady
    dsimp only
    split
    · rw [ih]
      split <;> simp
    · exact ih _ _ _

@[simp] theorem takeChanges_pending (s : State) : s.takeChanges.pending = s.pending := by simp [State.takeChanges]
@[simp] theorem settleChanges_pending (s : State) : s.settleChanges.pending = s.pending := by simp [State.settleChanges]
@[simp] theorem setModState_pending (s : State) (st : Nat) : (s.setModState st).pending = s.pending := by simp [State.setModState]
@[simp] theorem countStop_pending (s : State) : s.countStop.pending = s.pending := by simp [State.countStop]
@[simp] theorem enterQuiet_pending (s : State) : s.enterQuiet.pending = s.pending := by simp [State.enterQuiet]
@[simp] theorem stopSettle_pending (s : State) : s.stopSettle.pending = s.pending := by simp [State.stopSettle]

/-! ### The near link -/

@[simp] theorem wireIdle_pending (s : State) (k : Nat) (nak : Bool) : (s.wireIdle k nak).pending = s.pending := rfl

@[simp] theorem returnRoom_pending (s : State) (r : Option Room) : (s.returnRoom r).pending = s.pending :=
  (sentFrom_returnRoom s r).pending

@[simp] theorem wireFlit_pending (s : State) (k : Nat) (f : RFlit) : (s.wireFlit k f).pending = s.pending := rfl

@[simp] theorem pumpPort_pending (s : State) (k : Nat) : (s.pumpPort k).pending = s.pending :=
  (sentFrom_pump _ s k).pending

@[simp] theorem nearSendPort_pending (s : State) (k : Nat) (x : NearPkt) : (s.nearSendPort k x).pending = s.pending := by simp [State.nearSendPort]
@[simp] theorem nearSend_pending (s : State) (x : NearPkt) : (s.nearSend x).pending = s.pending := (sentFrom_nearSend s x).pending

@[simp] theorem sendVc0_pending (s : State) (dst typ coll epoch : Nat) (payload : List Byte) :
    (s.sendVc0 dst typ coll epoch payload).pending = s.pending :=
  (sentFrom_sendVc0 s dst typ coll epoch payload).pending

@[simp] theorem sendCtrl_pending (s : State) (dst coll epoch ctype reason origin arg value : Nat) :
    (s.sendCtrl dst coll epoch ctype reason origin arg value).pending = s.pending := by
  simp [State.sendCtrl]

@[simp] theorem siteStopSend_pending (s : State) (reason origin : Nat) : (s.siteStopSend reason origin).pending = s.pending := by
  simp [State.siteStopSend, foldl_pending]

@[simp] theorem stopJob_pending (s : State) (reason origin : Nat) : (s.stopJob reason origin).pending = s.pending := by simp [State.stopJob]
@[simp] theorem stopIfLost_pending (s : State) (k : Nat) : (s.stopIfLost k).pending = s.pending := by simp [State.stopIfLost]
@[simp] theorem dropRooms_pending (s : State) (k : Nat) : (s.dropRooms k).pending = s.pending := rfl
@[simp] theorem showPorts_pending (s : State) : s.showPorts.pending = s.pending := rfl
@[simp] theorem reroute_pending (s : State) (k : Nat) : (s.reroute k).pending = s.pending := by simp [State.reroute, foldl_pending]
@[simp] theorem linkDown_pending (s : State) (k : Nat) : (s.linkDown k).pending = s.pending := by simp [State.linkDown]
@[simp] theorem reservedDown_pending (s : State) : s.reservedDown.pending = s.pending := by simp [State.reservedDown, foldl_pending]

/-! ### The far link -/

@[simp] theorem fpeerMod_pending (s : State) (i : Nat) (f : FarPeer → FarPeer) : (s.fpeerMod i f).pending = s.pending := rfl
@[simp] theorem randomBytes_pending (s : State) (n : Nat) : (s.randomBytes n).2.pending = s.pending := rfl
@[simp] theorem farRxDrop_pending (s : State) (i : Nat) (hdr : List Byte) : (s.farRxDrop i hdr).pending = s.pending := rfl
@[simp] theorem collMod_pending (s : State) (f : Coll → Coll) : (s.collMod f).pending = s.pending := rfl

@[simp] theorem sendChunks_pending (o : OutStream) (n : Nat) (s : State) (k : Nat) : (State.sendChunks o n s k).pending = s.pending := by
  induction n generalizing s k with
  | zero => rfl
  | succ n ih => simp [State.sendChunks, ih]

@[simp] theorem pumpOut_pending (s : State) (o : OutStream) : (s.pumpOut o).pending = s.pending := by simp [State.pumpOut]

@[simp] theorem relayAppend_pending (s : State) (dst coll site : Nat) (cs : List (Nat × List Byte)) :
    (s.relayAppend dst coll site cs).pending = s.pending := by
  unfold State.relayAppend
  split <;> simp

@[simp] theorem farAbort_pending (s : State) (i : Nat) (m : FarRx) : (s.farAbort i m).pending = s.pending := by
  unfold State.farAbort
  dsimp only
  repeat' split
  all_goals simp

@[simp] theorem slowWrite_pending (s : State) (a : Nat) (bs : List Byte) : (s.slowWrite a bs).pending = s.pending := by
  induction bs generalizing s a with
  | nil => rfl
  | cons b bs ih => exact ih _ _

@[simp] theorem memWrite_pending (s : State) (a : Nat) (bs : List Byte) : (s.memWrite a bs).pending = s.pending := by
  induction bs generalizing s a with
  | nil => rfl
  | cons b bs ih => exact ih _ _

@[simp] theorem writeBytes_pending (s : State) (a : Nat) (bs : List Byte) : (s.writeBytes a bs).pending = s.pending := by simp [State.writeBytes]

/-- A loop of writes, each at an address and of bytes of its own. -/
theorem foldl_writeBytes_pending {β : Type} (g : State → β → Nat) (b : β → List Byte) (l : List β) (s : State) :
    (l.foldl (fun a x => a.writeBytes (g a x) (b x)) s).pending = s.pending :=
  foldl_pending (fun a x => writeBytes_pending a (g a x) (b x)) l s

@[simp] theorem fillSlots_pending (s : State) (i : Nat) (m : FarMsg) (bytes : List Byte) :
    (s.fillSlots i m bytes).pending = s.pending :=
  (fpeerMod_pending _ _ _).trans (foldl_writeBytes_pending _ _ _ s)

@[simp] theorem placeFrames_pending (s0 : State) (m : FarMsg) (i : Nat) : (s0.placeFrames m i).pending = s0.pending := by
  unfold State.placeFrames
  split <;> simp

@[simp] theorem renewSlots_pending (s : State) (i : Nat) : (s.renewSlots i).pending = s.pending := by simp [State.renewSlots, foldl_pending]

@[simp] theorem farSession_pending (s : State) (i session : Nat) (small : Bool) : (s.farSession i session small).pending = s.pending := by
  simp [State.farSession, foldl_pending]

@[simp] theorem peerCount_pending (s : State) (i k n : Nat) : (s.peerCount i k n).pending = s.pending := rfl
@[simp] theorem askHop_pending (s : State) (k : Nat) : (s.askHop k).pending = s.pending := rfl

@[simp] theorem farPut_pending (s : State) (k : Nat) (d : Datagram) : (s.farPut k d).pending = s.pending := by
  unfold State.farPut
  split <;> simp

@[simp] theorem farEmit_pending (s : State) (i : Nat) (frame : List Byte) : (s.farEmit i frame).pending = s.pending := by simp [State.farEmit]

@[simp] theorem sendInit_pending (s : State) (i : Nat) : (s.sendInit i).pending = s.pending := by
  unfold State.sendInit
  split <;> simp

@[simp] theorem peerState_pending (s : State) (i st : Nat) : (s.peerState i st).pending = s.pending := by simp [State.peerState]
@[simp] theorem startHs_pending (s : State) (i : Nat) (fresh : Bool) : (s.startHs i fresh).pending = s.pending := by simp [State.startHs]
@[simp] theorem wantKey_pending (s : State) (i : Nat) : (s.wantKey i).pending = s.pending := by simp [State.wantKey]
@[simp] theorem keyWear_pending (s : State) (i : Nat) : (s.keyWear i).pending = s.pending := by simp [State.keyWear]

@[simp] theorem sealFrame_pending (s : State) (i typ seq : Nat) (body : List Byte) (retx : Bool) :
    (s.sealFrame i typ seq body retx).pending = s.pending := by
  unfold State.sealFrame
  dsimp only
  split <;> simp

@[simp] theorem sendConfirm_pending (s : State) (i : Nat) : (s.sendConfirm i).pending = s.pending := by simp [State.sendConfirm]
@[simp] theorem movePeer_pending (s : State) (i k : Nat) : (s.movePeer i k).pending = s.pending := by simp [State.movePeer]
@[simp] theorem bindingWritten_pending (s : State) (i old : Nat) : (s.bindingWritten i old).pending = s.pending := by simp [State.bindingWritten]

/-! ### Fences, escalations and units out of service (R161 to R164) -/

@[simp] theorem fenceUnit_pending (s : State) (level index : Nat) : (s.fenceUnit level index).pending = s.pending := rfl
@[simp] theorem fenceTrain_pending (s : State) (level index : Nat) : (s.fenceTrain level index).pending = s.pending := by simp [State.fenceTrain]
@[simp] theorem resetObjs_pending (s : State) (ps : List Nat) : (s.resetObjs ps).pending = s.pending := rfl
@[simp] theorem dropWaitsOf_pending (s : State) (f : Nat → Nat → Bool) : (s.dropWaitsOf f).pending = s.pending := rfl
@[simp] theorem dropWaits_pending (s : State) (ps : List Nat) : (s.dropWaits ps).pending = s.pending := rfl
@[simp] theorem resetTrain_pending (s : State) (level index : Nat) : (s.resetTrain level index).pending = s.pending := rfl
@[simp] theorem addChange_pending (s : State) (k : ChangeKind) (ready : Bool) : (s.addChange k ready).pending = s.pending := rfl

@[simp] theorem logErr_pending (s : State) (source code level index : Nat) (data : List Byte) :
    (s.logErr source code level index data).pending = s.pending := by
  simp [State.logErr]

@[simp] theorem faultStop_pending (s : State) : s.faultStop.pending = s.pending := by simp [State.faultStop]

@[simp] theorem enterFaulted_pending (s : State) (code detail : Nat) : (s.enterFaulted code detail).pending = s.pending := by
  simp [State.enterFaulted]

@[simp] theorem escDie_pending (s : State) (d : Nat) : (s.escDie d).pending = s.pending := by simp [State.escDie]

@[simp] theorem escT2_pending (s : State) (t2 : Nat) (hands : List (Nat × Nat × Hand)) : (s.escT2 t2 hands).pending = s.pending := by
  simp [State.escT2]

@[simp] theorem escT1_pending (s : State) (t1 : Nat) (failed : Option Nat) : (s.escT1 t1 failed).pending = s.pending := by
  unfold State.escT1
  repeat' split
  all_goals simp

@[simp] theorem retirePinion_pending (s : State) (p : Nat) : (s.retirePinion p).pending = s.pending := by simp [State.retirePinion]

@[simp] theorem mapTrain_pending (s : State) (level index : Nat) (on : Bool) : (s.mapTrain level index on).pending = s.pending := by
  simp [State.mapTrain, foldl_pending]

@[simp] theorem readmitUnit_pending (s : State) (level index : Nat) : (s.readmitUnit level index).pending = s.pending := by simp [State.readmitUnit]
@[simp] theorem leavePort_pending (s : State) (k : Nat) : (s.leavePort k).pending = s.pending := by simp [State.leavePort, foldl_pending]
@[simp] theorem fencePort_pending (s : State) (cls num : Nat) : (s.fencePort cls num).pending = s.pending := by simp [State.fencePort]

@[simp] theorem bezelDo_pending (s : State) (t op : Nat) : (s.bezelDo t op).pending = s.pending := by
  unfold State.bezelDo
  repeat' split
  all_goals simp

/-! ### The writes of the dictionary -/

@[simp] theorem fwActivate_pending (s : State) (k : Nat) : (s.fwActivate k).pending = s.pending := by simp [State.fwActivate]
@[simp] theorem fwCommit_pending (s : State) : s.fwCommit.pending = s.pending := by simp [State.fwCommit]
@[simp] theorem lockDebug_pending (s : State) : s.lockDebug.pending = s.pending := by simp [State.lockDebug]
@[simp] theorem closeMailbox_pending (s : State) : s.closeMailbox.pending = s.pending := rfl
@[simp] theorem prbsWritten_pending (s : State) (v : Nat) : (s.prbsWritten v).pending = s.pending := by simp [State.prbsWritten]
@[simp] theorem startBist_pending (s : State) (sel : Nat) : (s.startBist sel).pending = s.pending := by simp [State.startBist]
@[simp] theorem setThrottle_pending (s : State) : s.setThrottle.pending = s.pending := rfl

@[simp] theorem numWrite_pending (s : State) (index sub v : Nat) : (s.numWrite index sub v).pending = s.pending := by
  unfold State.numWrite
  split
  case h_8 => cases s.store.verified <;> simp
  all_goals simp

@[simp] theorem odDo_pending (s : State) (index sub : Nat) (b : List Byte) : (s.odDo index sub b).pending = s.pending := by
  unfold State.odDo
  split <;> simp

@[simp] theorem odApply_pending (s : State) (ws : List (Nat × Nat × List Byte)) : (s.odApply ws).pending = s.pending := by
  unfold State.odApply
  exact (publish_pending _ _ _).trans (foldl_fst_pending (fun _ _ => odDo_pending _ _ _ _) ws (s, 0, []))

/-! ### Queues, shards and requests -/

@[simp] theorem restartColl_pending (s : State) : s.restartColl.pending = s.pending := (congrArg State.pending (restartColl_frame s) :)
@[simp] theorem syncMod_pending (s : State) (sid : Nat) (f : SyncObj → SyncObj) : (s.syncMod sid f).pending = s.pending := rfl
@[simp] theorem zeroObj_pending (s : State) (sid : Nat) : (s.zeroObj sid).pending = s.pending := rfl

@[simp] theorem resetQueues_pending (s : State) : s.resetQueues.pending = s.pending := by
  rw [resetQueues_eq]
  exact (congrArg State.pending (zeroQueues_frame s) :)

@[simp] theorem planWrite_pending (s : State) (a : Nat) (bs : List Byte) : (s.planWrite a bs).pending = s.pending := by simp [State.planWrite]
@[simp] theorem warmInit_pending (s : State) (shard : Nat) : (s.warmInit shard).pending = s.pending := by simp [State.warmInit, foldl_pending]
@[simp] theorem sealShard_pending (s : State) (a : Nat) : (s.sealShard a).pending = s.pending := by simp [State.sealShard]
@[simp] theorem bumpVersion_pending (s : State) (a : Nat) : (s.bumpVersion a).pending = s.pending := by simp [State.bumpVersion]

@[simp] theorem thetaWrite_pending (s : State) (t : Config.PlanTensor) (ws : List Nat) : (s.thetaWrite t ws).pending = s.pending := by
  simp [State.thetaWrite]

@[simp] theorem thetaToBase_pending (s : State) (t : Config.PlanTensor) : (s.thetaToBase t).pending = s.pending := by simp [State.thetaToBase]
@[simp] theorem dropDelta_pending (s : State) (shard : Nat) : (s.dropDelta shard).pending = s.pending := by simp [State.dropDelta, foldl_pending]

@[simp] theorem relayWhole_pending (s : State) (site : Nat) (hdr bytes : List Byte) : (s.relayWhole site hdr bytes).pending = s.pending := by
  unfold State.relayWhole
  split <;> simp

@[simp] theorem gatewayHolds_pending (s : State) (m : FarMsg) (bytes : List Byte) : (s.gatewayHolds m bytes).pending = s.pending := by
  simp [State.gatewayHolds]

@[simp] theorem handOver_pending (s : State) (dest : Nat) (hdr bytes : List Byte) : (s.handOver dest hdr bytes).pending = s.pending := by
  unfold State.handOver
  repeat' split
  all_goals simp

@[simp] theorem sendReq_pending (s : State) (f : Fetch) : (s.sendReq f).pending = s.pending := by simp [State.sendReq]
@[simp] theorem request_pending (s : State) (f : Fetch) : (s.request f).pending = s.pending := by simp [State.request]

@[simp] theorem fetchBase_pending (s : State) (shard : Nat) (repair drop : Bool) : (s.fetchBase shard repair drop).pending = s.pending := by
  unfold State.fetchBase
  split <;> simp

@[simp] theorem eccFault_pending (s : State) (a : Nat) : (s.eccFault a).pending = s.pending := by simp [State.eccFault]

@[simp] theorem innerRow_pending (s : State) (rule a fmt at_ : Nat) (gs : List FV) : (innerRow s rule a fmt at_ gs).pending = s.pending := by
  simp [innerRow]

@[simp] theorem applyEntry_pending (s : State) (x : Nat) (h : List Byte) : (s.applyEntry x h).pending = s.pending := by simp [State.applyEntry]
@[simp] theorem applyHeld_pending (s : State) : s.applyHeld.pending = s.pending := by simp [State.applyHeld, foldl_pending]
@[simp] theorem applyOpen_pending (s : State) : s.applyOpen.pending = s.pending := by simp [State.applyOpen, foldl_pending]

@[simp] theorem applyLog_pending (s : State) : s.applyLog.pending = s.pending := by
  unfold State.applyLog
  split <;> simp

@[simp] theorem seek_pending (s : State) (shard : Nat) : (s.seek shard).pending = s.pending := by
  unfold State.seek
  dsimp only
  repeat' split
  all_goals simp

@[simp] theorem seekAll_pending (s : State) : s.seekAll.pending = s.pending := by
  have hseek : (s.keptShards.foldl (fun a k => a.seek k.1) s).pending = s.pending := foldl_pending (fun _ _ => seek_pending _ _) _ s
  unfold State.seekAll
  dsimp only
  repeat' split
  all_goals exact hseek

@[simp] theorem restoreKept_pending (s : State) (substitute : Bool) : (restoreKept s substitute).pending = s.pending := by
  simp [restoreKept, foldl_pending]

@[simp] theorem restore_pending (s : State) : s.restore.pending = s.pending := by
  unfold State.restore
  split <;> simp

@[simp] theorem armDo_pending (s : State) : s.armDo.pending = s.pending := by simp [State.armDo]

/-! ### The commands of the Crown (11.2) -/

@[simp] theorem rearm_pending (s : State) (i n : Nat) : (s.rearm i n).pending = s.pending := by simp [State.rearm]
@[simp] theorem skipLate_pending (s : State) (i : Nat) : (s.skipLate i).pending = s.pending := by simp [State.skipLate]
@[simp] theorem enterRunning_pending (s : State) : s.enterRunning.pending = s.pending := by simp [State.enterRunning, foldl_pending]

@[simp] theorem holdTarget_pending (s : State) (e : Beat) (on : Bool) : (s.holdTarget e on).pending = s.pending := by
  unfold State.holdTarget
  split <;> simp

@[simp] theorem quiesceDo_pending (s : State) : s.quiesceDo.pending = s.pending := by simp [State.quiesceDo]

@[simp] theorem cmdDo_pending (s : State) (v : Nat) : (s.cmdDo v).pending = s.pending := by
  unfold State.cmdDo
  split <;> simp

@[simp] theorem cmdRefused_pending (s : State) (reason : Nat) : (s.cmdRefused reason).pending = s.pending := by simp [State.cmdRefused]

@[simp] theorem cmdRun_pending (s : State) (v : Nat) : (s.cmdRun v).1.pending = s.pending := by
  unfold State.cmdRun
  split <;> simp

theorem writeItems_pending {s t : State} {rights : Nat} {field typed : Bool} {l : List Item} {z : List Nat × Nat × After}
    (h : s.writeItems rights field typed l = some (t, z)) : t.pending = s.pending := by
  unfold State.writeItems at h
  dsimp only at h
  repeat' split at h
  all_goals cases h
  all_goals simp

/-! ### A request that a session's frame brings -/

@[simp] theorem openRefusal_pending (s : State) : s.openRefusal.st.pending = s.pending := rfl
@[simp] theorem plainReply_pending (s : State) (status : Nat) : (s.plainReply status).st.pending = s.pending := rfl
@[simp] theorem readReq_pending (s : State) (x : Session) (b : List Byte) : (s.readReq x b).st.pending = s.pending := by
  unfold State.readReq
  split <;> simp

@[simp] theorem readMultiReq_pending (s : State) (x : Session) (p : Peer) (b : List Byte) : (s.readMultiReq x p b).st.pending = s.pending := by
  unfold State.readMultiReq
  split
  · rfl
  · split
    · rfl
    next l _ =>
      dsimp only
      split
      · rfl
      · exact foldl_fst_pending (γ := List Byte) (fun a i => readItem_pending a.1 x i) l (s, [])

@[simp] theorem blobBeginReq_pending (s : State) (x : Session) (b : List Byte) : (s.blobBeginReq x b).st.pending = s.pending := by
  unfold State.blobBeginReq
  dsimp only
  repeat' split
  all_goals simp

@[simp] theorem blobSegReq_pending (s : State) (x : Session) (p : Peer) (b : List Byte) : (s.blobSegReq x p b).st.pending = s.pending := by
  unfold State.blobSegReq
  dsimp only
  repeat' split
  all_goals simp

theorem writeReq_pending {s : State} {x : Session} {p : Peer} {b : List Byte} {r : Reply} (h : s.writeReq x p b = some r) :
    r.st.pending = s.pending := by
  unfold State.writeReq at h
  split at h
  · split at h
    · cases h
      rfl
    · obtain ⟨z, hz, rfl⟩ := Option.map_eq_some_iff.1 h
      exact writeItems_pending hz
  · cases h
    rfl

theorem writeMultiReq_pending {s : State} {x : Session} {p : Peer} {b : List Byte} {r : Reply} (h : s.writeMultiReq x p b = some r) :
    r.st.pending = s.pending := by
  unfold State.writeMultiReq at h
  split at h
  · cases h
    rfl
  · split at h
    · cases h
      rfl
    · split at h
      · cases h
        rfl
      · obtain ⟨z, hz, rfl⟩ := Option.map_eq_some_iff.1 h
        exact writeItems_pending hz

theorem blobEndReq_pending {s : State} {x : Session} {p : Peer} {b : List Byte} {r : Reply} (h : s.blobEndReq x p b = some r) :
    r.st.pending = s.pending := by
  unfold State.blobEndReq at h
  dsimp only at h
  split at h
  · cases h
    rfl
  split at h
  · cases h
    rfl
  split at h
  · cases h
    rfl
  split at h
  · cases h
    rfl
  · obtain ⟨z, hz, rfl⟩ := Option.map_eq_some_iff.1 h
    exact (writeItems_pending hz).trans (sesMod_pending s x.id _)

theorem serveReq_pending {s : State} {x : Session} {p : Peer} {f : List Byte} {r : Reply} (h : s.serveReq x p f = some r) :
    r.st.pending = s.pending := by
  unfold State.serveReq at h
  dsimp only at h
  split at h
  · cases h
    rfl
  · split at h
    case _ => split at h <;> cases h <;> rfl
    case h_3 => exact writeReq_pending h
    case h_5 => exact writeMultiReq_pending h
    case h_8 => exact blobEndReq_pending h
    all_goals
      cases h
      simp

theorem sessionFrame_pending {s t : State} {x : Session} {p : Peer} {f : List Byte} (h : s.sessionFrame x p f = some t) :
    t.pending = s.pending := by
  unfold State.sessionFrame at h
  dsimp only at h
  split at h
  · cases h
    rfl
  split at h
  · cases h
    simp
  split at h
  · cases h
    simp
  split at h
  · cases h
  split at h
  · cases h
    simp
  split at h
  · cases h
    simp
  split at h
  · cases h
    simp
  · obtain ⟨r, hr, rfl⟩ := Option.map_eq_some_iff.1 h
    exact ((reply_pending x p f r).trans (serveReq_pending hr)).trans rfl

theorem copFrameDo_pending {s t : State} {p : Peer} {f : List Byte} (h : s.copFrameDo p f = some t) : t.pending = s.pending := by
  unfold State.copFrameDo at h
  split at h
  · split at h <;> cases h
    exact openDo_pending s p f
  · split at h
    · cases h
      rfl
    · exact sessionFrame_pending h

/-! ### The turns of the Crown (R263) -/

@[simp] theorem crownTurn_pending (s : State) (k : Nat) : (s.crownTurn k).pending = s.pending := rfl

theorem takeMailbox_pending {s t : State} (h : s.takeMailbox = some t) : t.pending = s.pending := by
  unfold State.takeMailbox at h
  split at h
  · cases h
  · exact (copFrameDo_pending h).trans (by simp)

theorem takeField_pending {s t : State} (h : s.takeField = some t) : t.pending = s.pending := by
  unfold State.takeField at h
  split at h
  · cases h
  · exact (copFrameDo_pending h).trans rfl

end Sys2Proof.Machine
end

section
/-! SUPPORT. A period without a command (14.3): the queue stays, and where neither exports run nor a request waits at the Crown only the clock and
counters change. -/

namespace Sys2Proof.Machine

/-! ### The queue over a period -/

@[simp] theorem tickFt_pending (s : State) : s.tickFt.pending = s.pending := by simp [State.tickFt]

@[simp] theorem tickPinion_pending (s : State) (p : Nat) : (s.tickPinion p).pending = s.pending := by simp [State.tickPinion, State.pinCountBy]

/-- The Crown serves the mailbox and the field in either order. -/
@[simp] theorem crownRest_pending (n : Nat) (s : State) : (State.crownRest n s).pending = s.pending := by
  induction n generalizing s with
  | zero => rfl
  | succ n ih =>
    unfold State.crownRest
    split
    · rfl
    · split
      · rfl
      next t h =>
        rw [ih t]
        split at h
        all_goals
          rw [Option.orElse_eq_or, Option.or_eq_some_iff] at h
          obtain h | ⟨-, h⟩ := h
        · exact takeMailbox_pending h
        · exact takeField_pending h
        · exact takeField_pending h
        · exact takeMailbox_pending h

theorem tick_pending (s : State) : s.tick.pending = s.pending := by
  unfold State.tick
  simp [foldl_pending]

/-! ### A period in which nothing else runs -/

/-- `t` is `s` but for counters: those of the dictionary and those of the pinions. -/
def CountsFrom (s t : State) : Prop := { t with od := s.od, pinions := s.pinions } = s

theorem countsFrom_refl (s : State) : CountsFrom s s := rfl

theorem CountsFrom.trans {s t u : State} (h1 : CountsFrom s t) (h2 : CountsFrom t u) : CountsFrom s u := by
  unfold CountsFrom at *
  exact (congrArg (fun x : State => { x with od := s.od, pinions := s.pinions }) h2).trans h1

theorem CountsFrom.exporting {s t : State} (h : CountsFrom s t) : t.exporting = s.exporting := (congrArg State.exporting h :)

theorem CountsFrom.crown {s t : State} (h : CountsFrom s t) : t.crown = s.crown := (congrArg State.crown h :)

theorem countsFrom_tickPinion (s : State) (p : Nat) : CountsFrom s (s.tickPinion p) := by
  have hadd (t : State) (sub n : Nat) : CountsFrom t (if n = 0 then t else t.pinCountBy p 0x2140 sub sub n) := by
    split
    · exact countsFrom_refl t
    · exact rfl
  exact ((hadd s 1 _).trans (hadd _ 4 _)).trans (hadd _ 5 _)

theorem countsFrom_foldl {β : Type} {f : State → β → State} (hf : ∀ t b, CountsFrom t (f t b)) (l : List β) (s : State) :
    CountsFrom s (l.foldl f s) := by
  induction l generalizing s with
  | nil => exact countsFrom_refl s
  | cons b l ih => exact (hf s b).trans (ih (f s b))

theorem crownRest_idle {s : State} (h : s.crown.waiting = []) (n : Nat) : State.crownRest n s = s := by
  cases n with
  | zero => rfl
  | succ n => simp [State.crownRest, h]

theorem exportsEnd_idle {s : State} (h : s.exporting = false) (apply : Bool) : s.exportsEnd apply = s := by
  simp [State.exportsEnd, h]

/-- Federation time over a period (R147): none before it is established, and then 100 ns and the correction of FREQ_ADJ. -/
def timeAfter (s : State) : TimeBlk :=
  if s.time.ft = ftUnset then s.time
  else { s.time with
    ft := sInt 64 (ftNat (s.time.ft + ((s.time.frac : Int) + s.addend) / 2 ^ 32)), frac := (((s.time.frac : Int) + s.addend) % 2 ^ 32).toNat }

theorem timeAfter_unset {s : State} (h : s.time.ft = ftUnset) : timeAfter s = s.time := if_pos h

theorem timeAfter_established {s : State} (h : s.time.ft ≠ ftUnset) :
    timeAfter s = { s.time with
      ft := sInt 64 (ftNat (s.time.ft + ((s.time.frac : Int) + s.addend) / 2 ^ 32)),
      frac := (((s.time.frac : Int) + s.addend) % 2 ^ 32).toNat } := if_neg h

theorem timeAfter_now (s : State) : (timeAfter s).now = s.time.now := by
  unfold timeAfter
  split <;> rfl

theorem countsFrom_tickFt (s : State) : CountsFrom { s with time := timeAfter s } s.tickFt := by
  unfold State.tickFt timeAfter
  dsimp only
  split
  · exact rfl
  · split
    · exact rfl
    · exact rfl

/-- The state a period starts from: the module's clock 100 ns on. -/
def clockOn (s : State) : State := { s with time := { s.time with now := s.time.now + 100 } }

/-- A throttle level above 0 counts the cycles of the period (R288). -/
def countThrottled (s : State) : State := if s.odGet 0x8200 1 = 0 then s else s.bumpBy 0x8200 4 State.tickCycles

/-- In RUNNING the pinions count the cycles in which they wait (OD 0x2140). -/
def countPinions (s : State) : State := if s.modState = stRunning then (fkeys s.pinions).foldl State.tickPinion s else s

theorem tick_eq (s : State) : s.tick = State.crownRest 1024 (countPinions ((countThrottled (clockOn s).tickFt).exportsEnd false)) := rfl

theorem countsFrom_countThrottled (s : State) : CountsFrom s (countThrottled s) := by
  unfold countThrottled
  split
  · exact countsFrom_refl s
  · exact rfl

theorem countsFrom_countPinions (s : State) : CountsFrom s (countPinions s) := by
  unfold countPinions
  split
  · exact countsFrom_foldl countsFrom_tickPinion _ s
  · exact countsFrom_refl s

/-- A period with no exports and no waiting request changes the clock and counters alone. -/
theorem countsFrom_tick {s : State} (hexp : s.exporting = false) (hwait : s.crown.waiting = []) :
    CountsFrom { s with time := timeAfter (clockOn s) } s.tick := by
  have hthrottle : CountsFrom { s with time := timeAfter (clockOn s) } (countThrottled (clockOn s).tickFt) :=
    (countsFrom_tickFt (clockOn s)).trans (countsFrom_countThrottled _)
  have hpins := hthrottle.trans (countsFrom_countPinions _)
  rw [tick_eq, exportsEnd_idle (hthrottle.exporting.trans hexp), crownRest_idle ((congrArg Crown.waiting hpins.crown).trans hwait)]
  exact hpins

end Sys2Proof.Machine

open Sys2Proof Sys2Proof.Machine

/-- Settles O2: with nothing else to do a period is the clock's own step and counters (`countsFrom_tick`), and no operation of a period
touches the queue (`tick_pending`). -/
theorem idleStepIsOneTick : Obligations.IdleStepIsOneTick := by
  intro s hnone
  refine ⟨by unfold step; rw [hnone], (tick_pending s).trans hnone, fun hexp hwait => ?_⟩
  have h := countsFrom_tick hexp hwait
  have htime : s.tick.time = timeAfter (clockOn s) := (congrArg State.time h :)
  refine ⟨?_, (congrArg State.mem h :), (congrArg State.slow h :), (congrArg State.syncs h :), (congrArg State.out h :), fun hft => ?_,
    fun hft => ⟨?_, ?_⟩⟩
  · rw [htime, timeAfter_now]
    rfl
  · rw [htime, timeAfter_unset (s := clockOn s) hft]
    exact hft
  · rw [htime, timeAfter_established (s := clockOn s) hft]
    rfl
  · rw [htime, timeAfter_established (s := clockOn s) hft]
    exact Int.toNat_of_nonneg (Int.emod_nonneg _ (by norm_num))

end

section
/-! SUPPORT. Near ports (07, 7.1 to 7.3): the end of a training, limits and the port that goes down (R165, R166, R171, R172), and the
statement. -/

namespace Sys2Proof.Machine

/-! ### PORT_TRAINED (R165, R166) -/

/-- May the training of a port end: it names a port that is neither up nor out of use, and no port of a module in BOOT or of a reserved
number trains? -/
def mayTrain (s : State) (k : Nat) : Bool :=
  decide (k < 16) && (s.nport k).st != 2 && (s.nport k).st != 4 && decide (s.smn < 64) && decide (stBoot < s.modState)

theorem mayTrain_iff (s : State) (k : Nat) : mayTrain s k = true ↔
    k < 16 ∧ (s.nport k).st ≠ 2 ∧ (s.nport k).st ≠ 4 ∧ s.smn < 64 ∧ stBoot < s.modState := by
  simp only [mayTrain, Bool.and_eq_true, decide_eq_true_eq, bne_iff_ne, and_assoc]

/-- A port with the peer and the asymmetry that its training found. -/
def namedPort (s : State) (k m q : Nat) (asym : Int) : State :=
  s.nportMod k (fun p => { p with peer := (m % 256) * 256 + q % 256, asym := asym })

/-- A port whose loss is counted already is announced, its traffic takes other routes, and the site job stops if a member is lost. -/
def portLost (s : State) (k : Nat) : State :=
  ((s.notifyVal 0x5010 9 (fget 0 (s.nport k).cnt 9)).reroute k).stopIfLost k

section
variable {s : State} {k m q : Nat} {asym : Int}

theorem exec_portTrained_idle (h : ¬ mayTrain s k = true) : exec (.portTrained k m q asym) s = .next s := if_neg h

section
variable (h : mayTrain s k = true)
include h

theorem exec_portTrained_miswired (hw : wiredPeer s.smn k ≠ (m, q)) : exec (.portTrained k m q asym) s =
    .next (portLost (((namedPort s k m q asym).nportMod k (fun p => { p with st := 5 })).nportCount k 9) k) :=
  (if_pos h).trans (if_pos hw)

theorem exec_portTrained_again (hst : (s.nport k).st = 3) (hw : wiredPeer s.smn k = (m, q)) : exec (.portTrained k m q asym) s =
    .next (((s.nport k).replay.foldl (fun a f => a.wireFlit k f)
      ((namedPort s k m q asym).nportMod k (fun p => { p with st := 2, retrained := true }))).linkUp k) :=
  (if_pos h).trans ((if_neg (not_not_intro hw)).trans (if_pos hst))

theorem exec_portTrained_first (hst : (s.nport k).st ≠ 3) (hw : wiredPeer s.smn k = (m, q)) : exec (.portTrained k m q asym) s =
    .next (((namedPort s k m q asym).nportMod k (fun p => { p with st := 2, retrained := false, txSeq := 0, rxSeq := 0 })).linkUp k) :=
  (if_pos h).trans ((if_neg (not_not_intro hw)).trans (if_neg hst))

end

/-! ### TRAINING_TIMEOUT and REPLAY_LIMIT (R166, R172) -/

/-- Is `k` a port in a state of its training? -/
def portIn (s : State) (k st : Nat) : Bool := decide (k < 16) && (s.nport k).st == st

theorem portIn_iff (s : State) (k st : Nat) : portIn s k st = true ↔ k < 16 ∧ (s.nport k).st = st := by
  rw [portIn, Bool.and_eq_true, decide_eq_true_iff, beq_iff_eq]

theorem exec_trainingTimeout_retrains (h : portIn s k 3 = true) : exec (.trainingTimeout k) s = .next (s.linkDown k) := if_pos h

theorem exec_trainingTimeout_trains (h3 : ¬ portIn s k 3 = true) (h1 : portIn s k 1 = true) :
    exec (.trainingTimeout k) s = .next (s.nportMod k (fun p => { p with st := 0 })) := (if_neg h3).trans (if_pos h1)

theorem exec_trainingTimeout_idle (h3 : ¬ portIn s k 3 = true) (h1 : ¬ portIn s k 1 = true) : exec (.trainingTimeout k) s = .next s :=
  (if_neg h3).trans (if_neg h1)

/-- Is `k` a port that is up? -/
def portUp (s : State) (k : Nat) : Bool := decide (k < 16) && s.nearUp k

theorem portUp_iff (s : State) (k : Nat) : portUp s k = true ↔ k < 16 ∧ s.nearUp k = true := by
  rw [portUp, Bool.and_eq_true, decide_eq_true_iff]

theorem not_portUp (h : 16 ≤ k ∨ s.nearUp k = false) : ¬ portUp s k = true := by
  rw [portUp_iff]
  rintro ⟨hk, hup⟩
  rw [hup] at h
  exact h.elim (Nat.not_le.mpr hk) Bool.noConfusion

variable {again : Bool}

theorem exec_replayLimit_eq (h : portUp s k = true) : exec (.replayLimit k again) s =
    if (again && (s.nport k).retrained) = true then .next ((s.bump 0x5100 3).linkDown k)
    else .next ((((s.bump 0x5100 3).nportMod k (fun p => { p with st := 3 })).nportCount k 8).showPorts) := if_pos h

theorem exec_replayLimit_idle (h : ¬ portUp s k = true) : exec (.replayLimit k again) s = .next s := if_neg h

end

end Sys2Proof.Machine

open Sys2Proof Sys2Proof.Machine

/-- Settles O32: each command by the states of the port that it concerns. -/
theorem nearPorts : Obligations.NearPorts := by
  intro s k m q asym again named miswired down
  have hin := portIn_iff s k
  refine ⟨fun hk hsmn hboot => ?trained, fun h => exec_portTrained_idle (mt (mayTrain_iff s k).mp ?_), fun hk => ⟨fun h1 => ?_,
    fun h3 => exec_trainingTimeout_retrains ((hin 3).mpr ⟨hk, h3⟩), fun hup hno => ?_, fun hup ha hr => ?_⟩, fun h => ?_,
    fun h => exec_replayLimit_idle (not_portUp h), rfl, fun h => if_pos h, fun h => if_neg (ne_true_of_eq_false h)⟩
  case trained =>
    have hmay (h2 : (s.nport k).st ≠ 2) (h4 : (s.nport k).st ≠ 4) : mayTrain s k = true := (mayTrain_iff s k).mpr ⟨hk, h2, h4, hsmn, hboot⟩
    simp only [List.mem_cons, List.not_mem_nil, or_false, not_or]
    refine ⟨fun ⟨h2, h3, h4⟩ hw => exec_portTrained_first (hmay h2 h4) h3 hw, fun h3 hw => ?_,
      fun ⟨h2, h4⟩ hw => exec_portTrained_miswired (hmay h2 h4) hw⟩
    exact exec_portTrained_again (hmay (by omega) (by omega)) h3 hw
  · omega
  · exact exec_trainingTimeout_trains (mt (hin 3).mp (by omega)) ((hin 1).mpr ⟨hk, h1⟩)
  · refine (exec_replayLimit_eq ((portUp_iff s k).mpr ⟨hk, hup⟩)).trans (if_neg ?_)
    rcases hno with hno | hno <;> simp [hno]
  · exact (exec_replayLimit_eq ((portUp_iff s k).mpr ⟨hk, hup⟩)).trans (if_pos (by rw [ha, hr]; rfl))
  · simp only [List.mem_cons, List.not_mem_nil, or_false, not_or] at h
    exact exec_trainingTimeout_idle (mt (hin 3).mp (by omega)) (mt (hin 1).mp (by omega))
end

section
/-! SUPPORT. Flits and packets that arrive at a near port (07, 7.2 to 7.4): the fate of a flit (R168, R171), of a whole packet (R170, R174,
R176), and the statement. -/

namespace Sys2Proof.Machine

/-! ### What the asking for a replay leaves (R171) -/

@[simp] theorem nport_nportMod_same (s : State) (k : Nat) (f : NearPort → NearPort) : (s.nportMod k f).nport k = f (s.nport k) :=
  fget_fmod_same ({} : NearPort) s.near k f

theorem takeOwed_resync (p : NearPort) : (State.takeOwed p).2.resync = p.resync := by
  unfold State.takeOwed
  split <;> rfl

theorem wireIdle_resync (s : State) (k : Nat) (nak : Bool) : ((s.wireIdle k nak).nport k).resync = (s.nport k).resync :=
  (congrArg NearPort.resync (fget_fput_same ({} : NearPort) s.near k _)).trans (takeOwed_resync (s.nport k))

/-- A port that has asked for a replay awaits it. -/
theorem askReplay_resync (s : State) (k : Nat) : ((s.askReplay k).nport k).resync = true := by
  unfold State.askReplay State.nportCount
  rw [wireIdle_resync, nport_nportMod_same, nport_nportMod_same]

/-! ### The fate of a flit (R168, R171) -/

/-- The header of a flit. -/
def flitHeader (bytes : List Byte) : Nat := rdLe bytes 0 8

/-- The packet bytes of a flit. -/
def flitBody (bytes : List Byte) : List Byte := slice bytes 8 248

/-- Has a flit the CRC of its bytes? -/
def flitSound (bytes : List Byte) : Bool := flitHeader bytes % 65536 == crc16 (slice bytes 2 6 ++ flitBody bytes)

/-- The sequence number of a flit. -/
def flitSeq (bytes : List Byte) : Nat := bitsN (flitHeader bytes) 52 12

/-- The port takes a flit that carries the next number: a replay that it awaited has come. -/
def takeFlit (s : State) (k : Nat) (bytes : List Byte) : State :=
  (((s.nportMod k (fun p => { p with resync := false })).acceptFlit k (flitHeader bytes) (flitBody bytes)).flitAcks k
    (flitHeader bytes)).wireIdle k false

/-- The fate of a sound flit of another number than the next. -/
def strayFlit (s : State) (k : Nat) (bytes : List Byte) : State :=
  if (s.nport k).resync then s
  else if ((s.nport k).rxSeq + 4096 - flitSeq bytes) % 4096 ≤ 2048 then s.flitAcks k (flitHeader bytes)
  else s.askReplay k

/-- The fate of a flit whose codewords can be read. -/
def readFlit (s : State) (k : Nat) (bytes : List Byte) : State :=
  if !flitSound bytes then s.askReplay k
  else if bitN (flitHeader bytes) 20 then s.flitAcks k (flitHeader bytes)
  else if flitSeq bytes = (s.nport k).rxSeq then takeFlit s k bytes
  else strayFlit s k bytes

/-- A corrected codeword is counted before the flit is looked at. -/
def fecCounted (s : State) (k fec : Nat) : State := if fec = 1 then s.nportCount k 4 else s

section
variable {s : State} {k fec : Nat} {bytes : List Byte}

theorem exec_flit_deaf (h : 16 ≤ k ∨ s.nearUp k = false) : exec (.flit k fec bytes) s = .next s := by
  refine if_neg ?_
  rw [Bool.and_eq_true, decide_eq_true_iff]
  rintro ⟨hup, hk⟩
  rw [hup] at h
  exact h.elim (Nat.not_le.mpr hk) Bool.noConfusion

theorem exec_flit_up (hk : k < 16) (hup : s.nearUp k = true) : exec (.flit k fec bytes) s =
    .next (if fec = 2 then ((fecCounted s k fec).nportCount k 5).askReplay k
      else if 3 ≤ fec then fecCounted s k fec else readFlit (fecCounted s k fec) k bytes) := by
  refine (if_pos (by rw [hup, decide_eq_true hk]; rfl)).trans ?_
  conv_rhs => simp only [readFlit, strayFlit, apply_ite Host.Outcome.next]
  rfl

section
variable (hk : k < 16) (hup : s.nearUp k = true)
include hk hup

theorem exec_flit_uncorrectable (hf : fec = 2) : exec (.flit k fec bytes) s = .next ((s.nportCount k 5).askReplay k) := by
  subst hf
  exact exec_flit_up hk hup

theorem exec_flit_known (hf : 2 < fec) : exec (.flit k fec bytes) s = .next s := by
  rw [exec_flit_up hk hup, if_neg (by omega), if_pos (by omega), fecCounted, if_neg (by omega)]

theorem exec_flit_read (hf : fec < 2) : exec (.flit k fec bytes) s = .next (readFlit (fecCounted s k fec) k bytes) := by
  rw [exec_flit_up hk hup, if_neg (by omega), if_neg (by omega)]

end

theorem readFlit_damaged (h : ¬ flitSound bytes = true) : readFlit s k bytes = s.askReplay k := if_pos (by simpa using h)

section
variable (hs : flitSound bytes = true)
include hs

theorem readFlit_idle (hi : bitN (flitHeader bytes) 20 = true) : readFlit s k bytes = s.flitAcks k (flitHeader bytes) :=
  (if_neg (by simp [hs])).trans (if_pos hi)

variable (hi : bitN (flitHeader bytes) 20 = false)
include hi

theorem readFlit_next (hf : flitSeq bytes = (s.nport k).rxSeq) : readFlit s k bytes = takeFlit s k bytes :=
  (if_neg (by simp [hs])).trans ((if_neg (ne_true_of_eq_false hi)).trans (if_pos hf))

theorem readFlit_stray (hf : flitSeq bytes ≠ (s.nport k).rxSeq) : readFlit s k bytes = strayFlit s k bytes :=
  (if_neg (by simp [hs])).trans ((if_neg (ne_true_of_eq_false hi)).trans (if_neg hf))

end

theorem strayFlit_awaiting (hr : (s.nport k).resync = true) : strayFlit s k bytes = s := if_pos hr

theorem strayFlit_old (hr : (s.nport k).resync = false) (ho : ((s.nport k).rxSeq + 4096 - flitSeq bytes) % 4096 ≤ 2048) :
    strayFlit s k bytes = s.flitAcks k (flitHeader bytes) := (if_neg (ne_true_of_eq_false hr)).trans (if_pos ho)

theorem strayFlit_ahead (hr : (s.nport k).resync = false) (ho : ¬ ((s.nport k).rxSeq + 4096 - flitSeq bytes) % 4096 ≤ 2048) :
    strayFlit s k bytes = s.askReplay k := (if_neg (ne_true_of_eq_false hr)).trans (if_neg ho)

end

/-! ### The fate of a whole packet (R170, R174, R176) -/

/-- The header and the payload of a packet that has arrived. -/
def rawBytes (raw : List Byte) : List Byte := slice raw 0 (64 + rdLe raw 8 2)

/-- The packet that has arrived, with its room. -/
def arrivedPkt (k vc : Nat) (raw : List Byte) (room : Room) : RxPkt := { port := k, vc := vc, bytes := rawBytes raw, room := some room }

/-- Is a packet too long, or its CRC wrong? -/
def rawDamaged (raw : List Byte) : Bool :=
  decide (4096 < rdLe raw 8 2) || leNat (slice raw (64 + rdLe raw 8 2) 8) != crc64 (rawBytes raw)

theorem rawDamaged_iff (raw : List Byte) : rawDamaged raw = true ↔
    ¬ (rdLe raw 8 2 ≤ 4096 ∧ leNat (slice raw (64 + rdLe raw 8 2) 8) = crc64 (rawBytes raw)) := by
  rw [rawDamaged, Bool.or_eq_true, decide_eq_true_iff, bne_iff_ne, not_and_or, Nat.not_le]

theorem endsHere_iff (cls typ : Nat) : (decide (2 ≤ cls) || decide (typ = 0x13)) = true ↔ 2 ≤ cls ∨ typ = 0x13 := by
  rw [Bool.or_eq_true, decide_eq_true_iff, decide_eq_true_iff]

section
variable {s : State} {k vc cls : Nat} {raw : List Byte} {room : Room}

theorem arrive_damaged (h : rawDamaged raw = true) : s.arrive k vc cls raw room = (s.nportCount k 7).returnRoom (some room) := if_pos h

section
variable (h : ¬ rawDamaged raw = true)
include h

theorem arrive_wrongVc (hv : typeOnVc (arrivedPkt k vc raw room).typ vc = false) :
    s.arrive k vc cls raw room = (s.bump 0x5200 2).returnRoom (some room) :=
  (if_neg h).trans (if_pos (congrArg Bool.not hv))

variable (hv : typeOnVc (arrivedPkt k vc raw room).typ vc = true)
include hv

theorem arrive_sound : s.arrive k vc cls raw room =
    if rdLe (rawBytes raw) 0 1 = s.smn then s.deliverPkt (arrivedPkt k vc raw room)
    else if (decide (2 ≤ cls) || decide ((arrivedPkt k vc raw room).typ = 0x13)) = true then (s.bump 0x5200 2).returnRoom (some room)
    else s.nearSend { vc := vc, cls := cls + 1, bytes := rawBytes raw, room := some room } :=
  (if_neg h).trans (if_neg (fun hno => Bool.noConfusion (hno.symm.trans (congrArg Bool.not hv))))

theorem arrive_own (hd : rdLe (rawBytes raw) 0 1 = s.smn) : s.arrive k vc cls raw room = s.deliverPkt (arrivedPkt k vc raw room) :=
  (arrive_sound h hv).trans (if_pos hd)

theorem arrive_stopped (hd : rdLe (rawBytes raw) 0 1 ≠ s.smn) (hc : 2 ≤ cls ∨ (arrivedPkt k vc raw room).typ = 0x13) :
    s.arrive k vc cls raw room = (s.bump 0x5200 2).returnRoom (some room) :=
  (arrive_sound h hv).trans ((if_neg hd).trans (if_pos ((endsHere_iff _ _).mpr hc)))

theorem arrive_onward (hd : rdLe (rawBytes raw) 0 1 ≠ s.smn) (hc : cls < 2) (ht : (arrivedPkt k vc raw room).typ ≠ 0x13) :
    s.arrive k vc cls raw room = s.nearSend { vc := vc, cls := cls + 1, bytes := rawBytes raw, room := some room } :=
  (arrive_sound h hv).trans ((if_neg hd).trans (if_neg (mt (endsHere_iff _ _).mp (by omega))))

end

end

end Sys2Proof.Machine

open Sys2Proof Sys2Proof.Machine

/-- Settles O33: a flit by what its codewords, its CRC and its number tell, a packet by the checks of its arrival. -/
theorem flitsArrive : Obligations.FlitsArrive := by
  refine ⟨fun s k fec bytes h => exec_flit_deaf h, fun s0 k fec bytes hk hup => ?flit, fun s k vc cls raw room => ?packet⟩
  case flit =>
    intro s h body ok f old
    have hok : flitSound bytes = true ↔ ok := beq_iff_eq
    refine ⟨fun hf => ?_, fun hf => ?_, fun hf => ?read, askReplay_resync s k, rfl, rfl⟩
    case read =>
      rw [exec_flit_read hk hup hf]
      refine ⟨fun hs hi hn => ?_, fun hs hi => ?_, fun hs hi hn => ?_, fun hs => ?_⟩
      · exact congrArg _ (readFlit_next (hok.mpr hs) hi hn)
      · exact congrArg _ (readFlit_idle (hok.mpr hs) hi)
      · have hstray : readFlit s k bytes = strayFlit s k bytes := readFlit_stray (hok.mpr hs) hi hn
        exact ⟨fun hr ho => congrArg _ (hstray.trans (strayFlit_old hr ho)), fun hr ho => congrArg _ (hstray.trans (strayFlit_ahead hr ho)),
          fun hr => congrArg _ (hstray.trans (strayFlit_awaiting hr))⟩
      · exact congrArg _ (readFlit_damaged (mt hok.mp hs))
    · exact exec_flit_uncorrectable hk hup hf
    · exact exec_flit_known hk hup hf
  case packet =>
    intro len b x sound
    have hbad : rawDamaged raw = true ↔ ¬ sound := rawDamaged_iff raw
    have hgood (hs : sound) : ¬ rawDamaged raw = true := fun h => hbad.mp h hs
    exact ⟨fun hs => arrive_damaged (hbad.mpr hs), fun hs hv => arrive_wrongVc (hgood hs) hv, fun hs hv => ⟨arrive_own (hgood hs) hv,
      arrive_stopped (hgood hs) hv, arrive_onward (hgood hs) hv⟩⟩
end

section
/-! SUPPORT. The chunks of collectives (07, 7.5, 7.10 and 7.11): the chunks of streams (R181, R194, R195), the PUT (R184), the pass of a
PERMUTE and the retry of a stream, and the statement. -/

namespace Sys2Proof.Machine

/-! ### The chunks of streams (R181, R195) -/

section
variable {s s1 : State} {src typ : Nat} {x : RxPkt}

theorem chunkIn_none (h : s.takeRx src typ = none) : chunkIn s src typ = s := by
  unfold chunkIn
  rw [h]

/-- What becomes of a chunk of another epoch: one of the previous epoch goes on, any other is counted and acknowledged. -/
def staleChunk (s s1 : State) (i : InStream) (x : RxPkt) : State :=
  if (x.epoch + 1) % 65536 = s.odGet 0x2010 1 then remapChunk s1 x else (s1.countNotify 0x5420 3).sendCack i x.seq

theorem not_stale (he : typ = 7 ∨ x.epoch = s.odGet 0x2010 1) : ¬ (decide (typ ≠ 7) && decide (x.epoch ≠ s.odGet 0x2010 1)) = true := by
  rw [Bool.and_eq_true, decide_eq_true_iff, decide_eq_true_iff]
  exact fun ⟨ht, hne⟩ => he.elim ht hne

section
variable (h : s.takeRx src typ = some (x, s1))
include h

theorem chunkIn_stale (ht : typ ≠ 7) (he : x.epoch ≠ s.odGet 0x2010 1) : chunkIn s src typ = staleChunk s s1
    { src := x.src, coll := x.coll, epoch := x.epoch, stype := x.typ, rank := x.rank, vc := x.vc } x := by
  unfold chunkIn
  rw [h]
  exact if_pos (by rw [decide_eq_true ht, decide_eq_true he]; rfl)

variable (he : typ = 7 ∨ x.epoch = s.odGet 0x2010 1)
include he

theorem chunkIn_unexpected (hi : s1.inStream src x.coll typ x.rank = none) : chunkIn s src typ = s := by
  unfold chunkIn
  rw [h]
  dsimp only
  rw [if_neg (not_stale he), hi]

theorem chunkIn_expected {i : InStream} (hi : s1.inStream src x.coll typ x.rank = some i) :
    chunkIn s src typ = collAdvance (s1.storeChunk i x false).1 := by
  unfold chunkIn
  rw [h]
  dsimp only
  rw [if_neg (not_stale he), hi]

end

/-- The commands of the chunks but PUT and PERMUTE take a type each. -/
theorem exec_chunk {c : Instr} (hc : (typ, c) ∈ [(1, Instr.contrib src), (2, .partialChunk src), (3, .imageChunk src),
      (5, .dispatchPacket src), (6, .combinePacket src)]) : typ ≠ 7 ∧ exec c s = .next (chunkIn s src typ) := by
  simp only [List.mem_cons, Prod.mk.injEq, List.not_mem_nil, or_false] at hc
  obtain ⟨rfl, rfl⟩ | ⟨rfl, rfl⟩ | ⟨rfl, rfl⟩ | ⟨rfl, rfl⟩ | ⟨rfl, rfl⟩ := hc
  all_goals exact ⟨by decide, rfl⟩

/-! ### PERMUTE chunks (R194) -/

theorem exec_permutePacket_none (h : s.takeRx src 7 = none) : exec (.permutePacket src) s = .next s := by
  show execPermutePacket src s = _
  unfold execPermutePacket
  rw [h]

/-- A chunk of a PERMUTE stream that is expected is laid into the staging first. -/
theorem exec_permutePacket_some (h : s.takeRx src 7 = some (x, s1)) : exec (.permutePacket src) s =
    .next (chunkIn (if (s.inStream src x.coll 7 x.rank).isSome then stageChunk s x else s) src 7) := by
  show execPermutePacket src s = _
  unfold execPermutePacket
  rw [h]

/-! ### PUT (R184) -/

/-- The stream that a PUT chunk opens. -/
def newPut (src : Nat) (x : RxPkt) : InStream :=
  { src := src, coll := x.coll, epoch := x.epoch, stype := 4, rank := x.rank, vc := x.vc }

/-- The stream that a PUT chunk finds under its name, or opens. -/
def heldPut (s1 : State) (src : Nat) (x : RxPkt) : InStream := (s1.inStream src x.coll 4 x.rank).getD (newPut src x)

/-- A stream keeps its first chunk, by which a resend is known. -/
def keepZeroth (k : InStream) (x : RxPkt) : InStream := if x.seq = 0 && k.zeroth.isEmpty then { k with zeroth := x.bytes } else k

/-- The stream in which a PUT chunk is stored. -/
def putStream (s1 : State) (src : Nat) (x : RxPkt) : InStream :=
  keepZeroth (if execPutPacket.inDoneAndFirst (heldPut s1 src x) x then newPut src x else heldPut s1 src x) x

/-- The chunks of a PUT that has ended are released. -/
def putReleased (r : State) (src : Nat) (x : RxPkt) : State := r.releaseIn x.coll (fun q => q.stype == 4 && q.src == src)

/-- The bytes of a whole PUT are written, and its last chunk acknowledged. -/
def putWritten (r : State) (src : Nat) (x : RxPkt) (e : InStream) (dst : Nat) : State :=
  ((putReleased r src x).writeBytes dst (State.inBytes e)).sendCack e (e.next - 1)

/-- A whole PUT that cannot be written is counted and reported to its sender. -/
def putFailed (r : State) (src : Nat) (x : RxPkt) (dst reason : Nat) : State :=
  ((putReleased r src x).bump 0x5400 7).sendCtrl src x.coll x.epoch 3 reason (putReleased r src x).smn 0 dst

/-- The end of a PUT whose last byte is in. -/
def putEnd (r : State) (src : Nat) (x : RxPkt) (e : InStream) (dst : Nat) : State :=
  if putFaultReason r dst (State.inBytes e).length ≠ 0 then putFailed r src x dst (putFaultReason r dst (State.inBytes e).length)
  else if Nat.testBit x.arg1 31 then (putWritten r src x e dst).post (x.arg1 % 2 ^ 18) else putWritten r src x e dst

/-- The address that a PUT names. -/
def putDst (e : InStream) : Nat :=
  match e.chunks.find? (fun c => c.1 == 0) with
  | some c => c.2.1
  | none => 0

/-- A chunk of a PUT has been stored: the PUT goes on, or ends. -/
def putStored (r : State × Bool) (src : Nat) (x : RxPkt) : State :=
  if r.2 then (r.1.inStream src x.coll 4 x.rank).elim r.1 (fun e => putEnd r.1 src x e (putDst e)) else r.1

theorem exec_putPacket_none (h : s.takeRx src 4 = none) : exec (.putPacket src) s = .next s := by
  show execPutPacket src s = _
  unfold execPutPacket
  rw [h]

section
variable (h : s.takeRx src 4 = some (x, s1))
include h

theorem exec_putPacket_stale (he : x.epoch ≠ s.odGet 0x2010 1) : exec (.putPacket src) s = .next (staleChunk s s1 (newPut src x) x) := by
  show execPutPacket src s = _
  unfold execPutPacket
  rw [h]
  exact if_pos he

theorem exec_putPacket_stored (he : x.epoch = s.odGet 0x2010 1) : exec (.putPacket src) s =
    .next (putStored (s1.storeChunk (putStream s1 src x) x true) src x) := by
  show execPutPacket src s = _
  unfold execPutPacket
  rw [h]
  unfold putStored putStream keepZeroth heldPut newPut
  dsimp only
  rw [if_neg (not_not_intro he)]
  generalize s1.storeChunk _ x true = r
  rw [apply_ite Host.Outcome.next]
  refine if_congr Iff.rfl ?_ rfl
  cases r.1.inStream src x.coll 4 x.rank with
  | none => rfl
  | some e => exact (apply_ite Host.Outcome.next _ _ _).symm

end

section
variable {r : State} {e : InStream} {dst : Nat}

/-- A PUT whose chunk does not complete it goes on. -/
theorem exec_putPacket_goesOn (h : s.takeRx src 4 = some (x, s1)) (he : x.epoch = s.odGet 0x2010 1)
    (hr : s1.storeChunk (putStream s1 src x) x true = (r, false)) : exec (.putPacket src) s = .next r := by
  rw [exec_putPacket_stored h he, hr]
  rfl

/-- A PUT ends with the chunk that completes it, at the address that its first chunk names. -/
theorem exec_putPacket_ends (h : s.takeRx src 4 = some (x, s1)) (he : x.epoch = s.odGet 0x2010 1)
    (hr : s1.storeChunk (putStream s1 src x) x true = (r, true)) (hi : r.inStream src x.coll 4 x.rank = some e)
    {c : Nat × Nat × List Byte} (hc : e.chunks.find? (fun c => c.1 == 0) = some c) :
    exec (.putPacket src) s = .next (putEnd r src x e c.2.1) := by
  have hdst : putDst e = c.2.1 := by
    unfold putDst
    rw [hc]
  rw [exec_putPacket_stored h he, hr, putStored, if_pos rfl, hi, Option.elim_some, hdst]

theorem putEnd_faulty (hf : putFaultReason r dst (State.inBytes e).length ≠ 0) :
    putEnd r src x e dst = putFailed r src x dst (putFaultReason r dst (State.inBytes e).length) := if_pos hf

section
variable (hf : putFaultReason r dst (State.inBytes e).length = 0)
include hf

theorem putEnd_posts (hp : Nat.testBit x.arg1 31 = true) : putEnd r src x e dst = (putWritten r src x e dst).post (x.arg1 % 2 ^ 18) :=
  (if_neg (not_not_intro hf)).trans (if_pos hp)

theorem putEnd_silent (hp : Nat.testBit x.arg1 31 = false) : putEnd r src x e dst = putWritten r src x e dst :=
  (if_neg (not_not_intro hf)).trans (if_neg (ne_true_of_eq_false hp))

end

end

/-! ### The pass of a PERMUTE and the retry of a stream (R194, R181) -/

theorem exec_permutePass_some {e : CEntry} (h : (s.cqueue 5).run.find? (fun e => !e.finished && permReady s 5 e) = some e) :
    exec .permutePass s = .next (collAdvance (permPass s 5 e)) := by
  show execPermutePass s = _
  unfold execPermutePass
  rw [h]

theorem exec_permutePass_none (h : (s.cqueue 5).run.find? (fun e => !e.finished && permReady s 5 e) = none) :
    exec .permutePass s = .next s := by
  show execPermutePass s = _
  unfold execPermutePass
  rw [h]

variable {n : Nat}

theorem exec_chunkRetry_resends {o : OutStream} (h : s.coll.outs[n]? = some o) (ha : o.acked ≠ 0) : exec (.chunkRetry n) s =
    .next ((List.range (o.sent + 1 - o.acked)).foldl (fun a i => a.nearSend (a.chunkPkt o (o.acked - 1 + i))) (s.bump 0x5400 5)) := by
  show execChunkRetry n s = _
  unfold execChunkRetry
  rw [h]
  exact if_neg ha

theorem exec_chunkRetry_idle (h : ∀ o, s.coll.outs[n]? = some o → o.acked = 0) : exec (.chunkRetry n) s = .next s := by
  show execChunkRetry n s = _
  unfold execChunkRetry
  cases hn : s.coll.outs[n]? with
  | none => rfl
  | some o => exact if_pos (h o hn)

end

end Sys2Proof.Machine

open Sys2Proof Sys2Proof.Machine

/-- Settles O35: the chunks of streams, the PERMUTE chunks laid into the staging, the PUT by what its stored chunk completes, the pass and
the retry. -/
theorem chunksAct : Obligations.ChunksAct := by
  refine ⟨fun s s1 src typ c x hc => ?chunks, fun s s1 s2 src x y i j => ⟨exec_permutePacket_none, fun h hi hj => ?unexpected,
    fun h hi hlaid hj => ?laid⟩, fun s s1 src x => ?put, fun s => ⟨fun e => exec_permutePass_some, exec_permutePass_none⟩,
    fun s n => ⟨fun o => exec_chunkRetry_resends, exec_chunkRetry_idle⟩⟩
  case chunks =>
    obtain ⟨ht, hexec⟩ := exec_chunk hc (s := s)
    rw [hexec]
    refine ⟨fun h => congrArg _ (chunkIn_none h), fun h => ⟨fun he hi => ?_, fun i he hi => ?_, fun he hp => ?_, fun he hp => ?_⟩⟩
    · exact congrArg _ (chunkIn_unexpected h (Or.inr he) hi)
    · exact congrArg _ (chunkIn_expected h (Or.inr he) hi)
    · exact congrArg _ ((chunkIn_stale h ht he).trans (if_pos hp))
    · exact congrArg _ ((chunkIn_stale h ht he).trans (if_neg hp))
  case unexpected =>
    rw [exec_permutePacket_some h, hi]
    exact congrArg _ (chunkIn_unexpected h (Or.inl rfl) hj)
  case laid =>
    rw [exec_permutePacket_some h, hi]
    exact congrArg _ (chunkIn_expected hlaid (Or.inl rfl) hj)
  case put =>
    intro fresh held opens k j
    refine ⟨exec_putPacket_none, fun h he => ⟨fun hp => ?_, fun hp => ?_⟩, fun h he => ⟨fun r hr => ?_, fun r e hr hi c hc => ?_⟩⟩
    · exact (exec_putPacket_stale h he).trans (congrArg _ (if_pos hp))
    · exact (exec_putPacket_stale h he).trans (congrArg _ (if_neg hp))
    · exact exec_putPacket_goesOn h he hr
    · have hend : exec (.putPacket src) s = .next (putEnd r src x e c.2.1) := exec_putPacket_ends h he hr hi hc
      exact ⟨fun hf hp => hend.trans (congrArg _ (putEnd_posts hf hp)), fun hf hp => hend.trans (congrArg _ (putEnd_silent hf hp)),
        fun hf => hend.trans (congrArg _ (putEnd_faulty hf))⟩
end

section
/-! SUPPORT. The entries of the collective queues (07, 7.5; R136, R179, R180, R250): the course of the entry at the head of a queue, and
the statement. -/

namespace Sys2Proof.Machine

/-! ### The head of a collective queue -/

/-- May the entry at the head of queue v start: the queues run, its doorbell is rung, and the engine has room for it? -/
def headReady (s : State) (v : Nat) : Bool :=
  s.queuesStart && decide (1 ≤ v) && decide (v ≤ 5) && s.rung (s.cqSpec v).door (s.cqueue v).next &&
    decide (((s.cqueue v).run.filter (fun e => !e.finished)).length < s.odGet 0x5400 3)

theorem headReady_iff (s : State) (v : Nat) : headReady s v = true ↔ s.queuesStart = true ∧ 1 ≤ v ∧ v ≤ 5 ∧
    s.rung (s.cqSpec v).door (s.cqueue v).next = true ∧
    ((s.cqueue v).run.filter (fun e => !e.finished)).length < s.odGet 0x5400 3 := by
  simp only [headReady, Bool.and_eq_true, decide_eq_true_eq, and_assoc]

/-- The entry at the head of queue v. -/
def headEntry (s : State) (v : Nat) : QEntry := s.ringEntry (s.cqSpec v).base (s.cqueue v).next.toNat

/-- The line of that entry, where it has an uncorrectable error. -/
def headWrong (s : State) (v : Nat) : Option Nat := s.wrongLine [((s.cqSpec v).base + (s.cqueue v).next.toNat % 1024 * 16, 16)]

/-- Does an entry belong to the command of another kind? One of a kind that Table 7.6 does not list belongs to every command. -/
def headForeign (s : State) (v kind : Nat) : Bool :=
  decide ((headEntry s v).kind ≠ kind) && decide (1 ≤ (headEntry s v).kind) && decide ((headEntry s v).kind ≤ 7)

theorem headForeign_iff (s : State) (v kind : Nat) : headForeign s v kind = true ↔
    ¬ ((headEntry s v).kind = kind ∨ (headEntry s v).kind = 0 ∨ 7 < (headEntry s v).kind) := by
  simp only [headForeign, Bool.and_eq_true, decide_eq_true_eq]
  omega

/-- Does the entry wait for a pending re-shard (R250)? -/
def headWaits (s : State) (v : Nat) : Bool :=
  hbmOk s (headEntry s v).desc 64 && (headEntry s v).kind != 7 && s.epochWaits (s.readNat ((headEntry s v).desc + 4) 2)

theorem headWaits_iff (s : State) (v : Nat) : headWaits s v = true ↔ hbmOk s (headEntry s v).desc 64 = true ∧ (headEntry s v).kind ≠ 7 ∧
    s.epochWaits (s.readNat ((headEntry s v).desc + 4) 2) = true := by
  rw [headWaits, Bool.and_eq_true, Bool.and_eq_true, bne_iff_ne, and_assoc]

/-- The descriptor that the entry names. -/
def headDesc (s : State) (v : Nat) : List Byte := s.readBytes (headEntry s v).desc 64

/-! ### The course of the entry (R136, R179, R180, R250) -/

/-- The course of an entry that the checks pass: it starts, unless what it reads has an error. -/
def headAccepted (s : State) (v kind : Nat) : State :=
  (s.wrongLine (((headEntry s v).desc, 64) :: collReads s kind (headDesc s v))).elim (startEntry s v kind (headDesc s v)) s.eccFault

/-- The course of an entry that a command has read. -/
def headCourse (s : State) (v kind : Nat) : State :=
  if headForeign s v kind then s
  else if headWaits s v then s.holdHead (32 + v)
  else (collReason s v kind (headEntry s v)).elim (headAccepted s v kind)
    (fun r => (s.freeHead (32 + v)).refuseEntry v (headEntry s v).kind r)

theorem collHead_eq (s : State) (v kind : Nat) : collHead s v kind =
    if headReady s v then (headWrong s v).elim (headCourse s v kind) s.eccFault else s := by
  unfold collHead headCourse headAccepted headDesc headWrong
  dsimp only
  refine if_congr Iff.rfl ?_ rfl
  cases s.wrongLine [((s.cqSpec v).base + (s.cqueue v).next.toNat % 1024 * 16, 16)] with
  | some a => rfl
  | none =>
    refine if_congr Iff.rfl rfl (if_congr Iff.rfl rfl ?_)
    show _ = (collReason s v kind (headEntry s v)).elim _ _
    unfold headEntry
    cases collReason s v kind (s.ringEntry (s.cqSpec v).base (s.cqueue v).next.toNat) with
    | some r => rfl
    | none =>
      dsimp only [Option.elim]
      cases s.wrongLine _ with
      | some a => rfl
      | none => rfl

section
variable {s : State} {v kind a r : Nat}

theorem collHead_idle (h : ¬ headReady s v = true) : collHead s v kind = s := (collHead_eq s v kind).trans (if_neg h)

section
variable (h : headReady s v = true)
include h

theorem collHead_wrong (hw : headWrong s v = some a) : collHead s v kind = s.eccFault a := by
  rw [collHead_eq, if_pos h, hw, Option.elim_some]

theorem collHead_course (hw : headWrong s v = none) : collHead s v kind = headCourse s v kind := by
  rw [collHead_eq, if_pos h, hw, Option.elim_none]

end

theorem headCourse_foreign (hf : headForeign s v kind = true) : headCourse s v kind = s := if_pos hf

section
variable (hf : ¬ headForeign s v kind = true)
include hf

theorem headCourse_waits (hw : headWaits s v = true) : headCourse s v kind = s.holdHead (32 + v) := (if_neg hf).trans (if_pos hw)

variable (hw : ¬ headWaits s v = true)
include hw

theorem headCourse_refused (hr : collReason s v kind (headEntry s v) = some r) :
    headCourse s v kind = (s.freeHead (32 + v)).refuseEntry v (headEntry s v).kind r := by
  rw [headCourse, if_neg hf, if_neg hw, hr, Option.elim_some]

theorem headCourse_accepted (hr : collReason s v kind (headEntry s v) = none) : headCourse s v kind = headAccepted s v kind := by
  rw [headCourse, if_neg hf, if_neg hw, hr, Option.elim_none]

end

theorem headAccepted_wrong (hl : s.wrongLine (((headEntry s v).desc, 64) :: collReads s kind (headDesc s v)) = some a) :
    headAccepted s v kind = s.eccFault a := by
  rw [headAccepted, hl, Option.elim_some]

theorem headAccepted_starts (hl : s.wrongLine (((headEntry s v).desc, 64) :: collReads s kind (headDesc s v)) = none) :
    headAccepted s v kind = startEntry s v kind (headDesc s v) := by
  rw [headAccepted, hl, Option.elim_none]

end

/-- The commands of the collective queues take the kinds of Table 7.6. -/
theorem exec_collective {s : State} {v kind : Nat} {c : Instr} (hc : (kind, c) ∈ [(1, Instr.reduce v), (2, .gather v), (3, .scalarEntry v),
      (4, .put v), (5, .dispatch v), (6, .combine v), (7, .permute v)]) : exec c s = .next (collHead s v kind) := by
  simp only [List.mem_cons, Prod.mk.injEq, List.not_mem_nil, or_false] at hc
  obtain ⟨rfl, rfl⟩ | ⟨rfl, rfl⟩ | ⟨rfl, rfl⟩ | ⟨rfl, rfl⟩ | ⟨rfl, rfl⟩ | ⟨rfl, rfl⟩ | ⟨rfl, rfl⟩ := hc
  all_goals rfl

end Sys2Proof.Machine

open Sys2Proof Sys2Proof.Machine

/-- Settles O36: every kind's command takes the head of its queue along the one course. -/
theorem collectivesStart : Obligations.CollectivesStart := by
  intro s v kind c hc q runs en line mine waits d
  have hruns : headReady s v = true ↔ runs := headReady_iff s v
  have hforeign : headForeign s v kind = true ↔ ¬ mine := headForeign_iff s v kind
  have hwaits : headWaits s v = true ↔ waits := headWaits_iff s v
  have hown (hm : mine) : ¬ headForeign s v kind = true := fun h => hforeign.mp h hm
  rw [exec_collective hc]
  refine ⟨fun hr => ?_, fun a hr hl => ?_, fun hr hl => ?_⟩
  · exact congrArg _ (collHead_idle (mt hruns.mp hr))
  · exact congrArg _ (collHead_wrong (hruns.mpr hr) hl)
  rw [collHead_course (hruns.mpr hr) hl]
  refine ⟨fun hm => ?_, fun hm hw => ?_, fun hm hw => ⟨fun r hwhy => ?_, fun a hwhy hread => ?_, fun hwhy hread => ?_⟩⟩
  · exact congrArg _ (headCourse_foreign (hforeign.mpr hm))
  · exact congrArg _ (headCourse_waits (hown hm) (hwaits.mpr hw))
  · exact congrArg _ (headCourse_refused (hown hm) (mt hwaits.mp hw) hwhy)
  all_goals rw [headCourse_accepted (hown hm) (mt hwaits.mp hw) hwhy]
  · exact congrArg _ (headAccepted_wrong hread)
  · exact congrArg _ (headAccepted_starts hread)
end

section
/-! SUPPORT. The timers, the ports and the sending of the far link (08, 8.1 to 8.7; R198, R201 to R210, R213, R214), and what a port
receives beside frames of Remontoire (R196, R197, R272): a rule for each case of each command, and the statement. -/

namespace Sys2Proof.Machine

/-! ### The timers of a peer (R203 to R205, R198, R210, R213, R214) -/

section
variable {s : State} {i q : Nat}

theorem exec_ackTimer_due (h : (s.fpeer i).ackDue ≠ 0) : exec (.ackTimer i) s = .next (s.sendAck i) := congrArg _ (if_neg h)

theorem exec_ackTimer_idle (h : (s.fpeer i).ackDue = 0) : exec (.ackTimer i) s = .next s := congrArg _ (if_pos h)

/-- Is a sent frame of the peer unreleased, and not marked for a resend yet? -/
def rtoDue (s : State) (i q : Nat) : Bool := (s.fpeer i).slots.any (fun x => x.seq == q && x.lastNo != 0 && !x.resend)

/-- An expired frame is counted and marked for a resend, and its timeout doubles (R204). -/
def rtoMarked (s : State) (i q : Nat) : State :=
  (s.bump 0x6100 3).fpeerMod i (fun p => { p with slots := p.slots.map (fun x =>
    if x.seq = q then { x with resend := true, rto := min (1000000 * s.odGet 0x6100 2) (2 * x.rto) } else x) })

theorem exec_rtoExpiry_due (h : rtoDue s i q = true) : exec (.rtoExpiry i q) s = .next (rtoMarked s i q) := if_pos h

theorem exec_rtoExpiry_idle (h : rtoDue s i q = false) : exec (.rtoExpiry i q) s = .next s := if_neg (Bool.eq_false_iff.mp h)

theorem exec_peerDown_up (h : (s.fpeer i).st = 2) : exec (.peerDown i) s = .next (s.peerState i 3) := congrArg _ (if_pos h)

theorem exec_peerDown_other (h : (s.fpeer i).st ≠ 2) : exec (.peerDown i) s = .next s := congrArg _ (if_neg h)

theorem portReturns_iff : (s.isGateway && s.otherSites.contains i && s.farUp (s.boundPort i)) = true ↔
    s.isGateway = true ∧ s.otherSites.contains i = true ∧ s.farUp (s.boundPort i) = true := by
  rw [Bool.and_eq_true, Bool.and_eq_true, and_assoc]

theorem exec_portReturn_back (h : s.isGateway = true ∧ s.otherSites.contains i = true ∧ s.farUp (s.boundPort i) = true) :
    exec (.portReturn i) s = .next (s.movePeer i (s.boundPort i)) := congrArg _ (if_pos (portReturns_iff.mpr h))

theorem exec_portReturn_stays (h : ¬ (s.isGateway = true ∧ s.otherSites.contains i = true ∧ s.farUp (s.boundPort i) = true)) :
    exec (.portReturn i) s = .next s := congrArg _ (if_neg (mt portReturns_iff.mp h))

theorem movePeer_moves {k : Nat} (h : s.peerPort i ≠ k) : s.movePeer i k =
    ((s.fpeerMod i (fun p => { p with away := !p.away, skip := 16 })).bump 0x6000 4).sendConfirm i := if_neg h

theorem movePeer_stays {k : Nat} (h : s.peerPort i = k) : s.movePeer i k = s := if_pos h

theorem exec_keyLifetime_runs (hg : s.isGateway = true) (hr : s.running = true) : exec (.keyLifetime i) s = .next (s.wantKey i) :=
  congrArg _ (if_pos (by rw [hg, hr]; rfl))

theorem exec_keyLifetime_idle (h : s.isGateway = false ∨ s.running = false) : exec (.keyLifetime i) s = .next s := by
  refine congrArg _ (if_neg ?_)
  rw [Bool.and_eq_true]
  rintro ⟨hg, hr⟩
  rw [hg, hr] at h
  simp at h

theorem hsUnderWay_iff : (s.isGateway && s.running && (s.fpeer i).hs.isSome) = true ↔
    s.isGateway = true ∧ s.running = true ∧ (s.fpeer i).hs.isSome = true := by
  rw [Bool.and_eq_true, Bool.and_eq_true, and_assoc]

theorem exec_hsResend_again (h : s.isGateway = true ∧ s.running = true ∧ (s.fpeer i).hs.isSome = true) :
    exec (.hsResend i) s = .next (s.sendInit i) := congrArg _ (if_pos (hsUnderWay_iff.mpr h))

theorem exec_hsResend_first (h : ¬ (s.isGateway = true ∧ s.running = true ∧ (s.fpeer i).hs.isSome = true)) (hr : s.running = true)
    (hi : s.otherSites.contains i = true) : exec (.hsResend i) s = .next (s.firstHs i) :=
  congrArg _ ((if_neg (mt hsUnderWay_iff.mp h)).trans (if_pos (by rw [hr, hi]; rfl)))

theorem exec_hsResend_idle (h : s.running = false ∨
    ¬ (s.isGateway = true ∧ s.running = true ∧ (s.fpeer i).hs.isSome = true) ∧ s.otherSites.contains i = false) :
    exec (.hsResend i) s = .next s := by
  refine congrArg _ ((if_neg (mt hsUnderWay_iff.mp ?_)).trans (if_neg ?_))
  · rintro ⟨hg, hr, hs⟩
    obtain hr' | ⟨hno, -⟩ := h
    · exact Bool.eq_false_iff.mp hr' hr
    · exact hno ⟨hg, hr, hs⟩
  · rw [Bool.and_eq_true]
    rintro ⟨hr, hi⟩
    obtain hr' | ⟨-, hi'⟩ := h
    · exact Bool.eq_false_iff.mp hr' hr
    · exact Bool.eq_false_iff.mp hi' hi

theorem oldKeyGoes_iff : ((s.fpeer i).mayDrop && (s.fpeer i).keys.head?.map (·.epoch) == some (s.fpeer i).heard) = true ↔
    (s.fpeer i).mayDrop = true ∧ (s.fpeer i).keys.head?.map (·.epoch) = some (s.fpeer i).heard := by
  rw [Bool.and_eq_true, beq_iff_eq]

/-- The old receive key is destroyed, with the transmissions that it sealed. -/
def oldKeyGone (s : State) (i : Nat) : State :=
  s.fpeerMod i (fun q => { q with
    keys := q.keys.take 1, mayDrop := false,
    txLog := q.txLog.filter (fun e => some e.1 == (s.fpeer i).keys.head?.map (·.epoch)) })

theorem exec_oldKeyRelease_shown (h : (s.fpeer i).mayDrop = true ∧ (s.fpeer i).keys.head?.map (·.epoch) = some (s.fpeer i).heard) :
    exec (.oldKeyRelease i) s = .next (oldKeyGone s i) := congrArg _ (if_pos (oldKeyGoes_iff.mpr h))

theorem exec_oldKeyRelease_waits (h : ¬ ((s.fpeer i).mayDrop = true ∧ (s.fpeer i).keys.head?.map (·.epoch) = some (s.fpeer i).heard)) :
    exec (.oldKeyRelease i) s = .next s := congrArg _ (if_neg (mt oldKeyGoes_iff.mp h))

end

/-! ### The turn of a port (R145, R209) -/

/-- The peer that the rotating priority of a port chooses. -/
def frameTurn (s : State) (k : Nat) (peers : List Nat) : Option Nat :=
  grant (s.otherSites.filter (fun i => peers.contains i && peerReady s k i)) (fget 0 s.far.turn k) 64

/-- The turn has gone to peer j. -/
def turnTaken (s : State) (k j : Nat) : State := s.farMod (fun f => { f with turn := fput 0 f.turn k ((j + 1) % 64) })

section
variable {s : State} {k j : Nat} {peers : List Nat}

theorem exec_frameSend_none (h : frameTurn s k peers = none) : exec (.frameSend ⟨k, peers⟩) s = .next s := by
  show execFrameSend ⟨k, peers⟩ s = _
  unfold frameTurn at h
  unfold execFrameSend
  rw [h]

section
variable (h : frameTurn s k peers = some j)
include h

/-- The chosen peer's frame goes, a CONFIRM that is owed before any other. -/
theorem exec_frameSend_confirm (hc : ((turnTaken s k j).fpeer j).owesConfirm = true) :
    exec (.frameSend ⟨k, peers⟩) s = .next ((turnTaken s k j).sendConfirm j) := by
  show execFrameSend ⟨k, peers⟩ s = _
  unfold frameTurn at h
  unfold execFrameSend
  rw [h]
  exact if_pos hc

variable (hc : ((turnTaken s k j).fpeer j).owesConfirm = false)
include hc

theorem exec_frameSend_frame {x : FarSlot} (hx : (turnTaken s k j).nextFrame ((turnTaken s k j).fpeer j) = some x) :
    exec (.frameSend ⟨k, peers⟩) s = .next ((turnTaken s k j).sendSlot j x) := by
  show execFrameSend ⟨k, peers⟩ s = _
  unfold frameTurn at h
  unfold turnTaken at hx
  unfold execFrameSend
  rw [h]
  refine (if_neg (Bool.eq_false_iff.mp hc)).trans ?_
  rw [hx]
  rfl

theorem exec_frameSend_nothing (hx : (turnTaken s k j).nextFrame ((turnTaken s k j).fpeer j) = none) :
    exec (.frameSend ⟨k, peers⟩) s = .next (turnTaken s k j) := by
  show execFrameSend ⟨k, peers⟩ s = _
  unfold frameTurn at h
  unfold turnTaken at hx
  unfold execFrameSend
  rw [h]
  refine (if_neg (Bool.eq_false_iff.mp hc)).trans ?_
  rw [hx]
  rfl

end

end

/-! ### A port comes up or goes down (R196, R198, R210) -/

/-- May a far port come up? -/
def portRises (s : State) (k : Nat) : Bool := decide (k < 2) && s.running && decide (s.farSt k ≤ 1) && s.portSvc 2 k == 0

theorem portRises_iff (s : State) (k : Nat) : portRises s k = true ↔
    k < 2 ∧ s.running = true ∧ s.farSt k ≤ 1 ∧ s.portSvc 2 k = 0 := by
  simp only [portRises, Bool.and_eq_true, decide_eq_true_eq, beq_iff_eq, and_assoc]

/-- One peer of the active gateway when port k comes up: it moves there if its own port is not up, and an idle one that uses the port gets
the first handshake of a session. -/
def peerOnRise (k : Nat) (a : State) (i : Nat) : State :=
  let a1 := if a.farUp (a.peerPort i) then a.sendConfirm i else a.movePeer i k
  if a1.peerPort i = k then a1.firstHs i else a1

section
variable {s : State} {k : Nat}

theorem exec_farPortUp_member (h : portRises s k = true) (hg : (s.odSet 0x6000 (k + 1) 2).isGateway = false) :
    exec (.farPortUp k) s = .next (s.odSet 0x6000 (k + 1) 2) :=
  (if_pos h).trans (if_neg (Bool.eq_false_iff.mp hg))

theorem exec_farPortUp_gateway (h : portRises s k = true) (hg : (s.odSet 0x6000 (k + 1) 2).isGateway = true) :
    exec (.farPortUp k) s = .next ((s.odSet 0x6000 (k + 1) 2).otherSites.foldl (peerOnRise k) (s.odSet 0x6000 (k + 1) 2)) :=
  (if_pos h).trans (if_pos hg)

theorem exec_farPortUp_stays (h : ¬ portRises s k = true) : exec (.farPortUp k) s = .next s := if_neg h

/-- The peers of a port that has gone move to the other port if that is up; what waits at the port is gone. -/
theorem leavePort_eq (u : State) (k : Nat) : u.leavePort k = u.otherSites.foldl (fun a i =>
      if a.peerPort i = k ∧ a.farUp (1 - k) = true then a.movePeer i (1 - k) else a)
    (u.farMod (fun f => { f with waiting := f.waiting.filter (fun w => w.1 != k) })) := by
  simp only [State.leavePort, Bool.and_eq_true, decide_eq_true_eq]

theorem exec_farPortDown_leaves (hk : k < 2) (h : s.farSt k = 2) :
    exec (.farPortDown k) s = .next ((s.odSet 0x6000 (k + 1) 0).leavePort k) := congrArg _ (if_pos (by simp [hk, h]))

theorem exec_farPortDown_stays (h : 2 ≤ k ∨ s.farSt k ≠ 2) : exec (.farPortDown k) s = .next s := by
  refine congrArg _ (if_neg ?_)
  rw [Bool.and_eq_true, decide_eq_true_iff, decide_eq_true_iff]
  omega

end

/-! ### The grant of a message (R201, R202, R207) -/

/-- Message m' takes the place of the one of number `num`. -/
def putMsg (s : State) (num : Nat) (m' : FarMsg) : State :=
  s.farMod (fun f => { f with msgs := f.msgs.map (fun x => if x.num = num then m' else x) })

/-- Has the ring room for the whole of a message? -/
def ringFits (s : State) (m : FarMsg) : Prop :=
  s.ringUsed.length + ((s.msgPeers m).map (fun i => s.framesOf i (dhLen m.hdr))).sum ≤ s.ringSlots

/-- A message is granted, and its frames sequenced toward its peers. -/
def msgGranted (s : State) (m : FarMsg) : State :=
  (s.msgPeers m).foldl (fun a i => a.sequence m i) (putMsg s m.num { m with granted := true })

section
variable {s : State} {m : FarMsg}

theorem exec_relayGrant_idle (h : s.far.msgs.find? (fun m => !m.granted) = none ∨ s.isGateway = false) :
    exec .relayGrant s = .next s := by
  show execRelayGrant s = _
  unfold execRelayGrant
  cases hm : s.far.msgs.find? (fun m => !m.granted) with
  | none => rfl
  | some m =>
    rw [hm] at h
    obtain h | hg := h
    · cases h
    · exact if_pos (by rw [hg]; rfl)

section
variable (hm : s.far.msgs.find? (fun m => !m.granted) = some m) (hg : s.isGateway = true)
include hm hg

/-- A message that the gateway holds whole is sequenced at once; the module that holds another is told to send on. -/
theorem exec_relayGrant_fits (hf : ringFits s m) :
    (m.bytes.isSome = true → exec .relayGrant s = .next (msgGranted s m)) ∧
    (m.bytes = none → ((msgGranted s m).inStream m.src m.coll 8 0 = none → exec .relayGrant s = .next (msgGranted s m)) ∧
      ∀ x, (msgGranted s m).inStream m.src m.coll 8 0 = some x →
        exec .relayGrant s = .next ((msgGranted s m).sendCack x (x.next - 1))) := by
  have hexec : exec .relayGrant s = match m.bytes with
      | some _ => .next (msgGranted s m)
      | none => match (msgGranted s m).inStream m.src m.coll 8 0 with
        | some x => .next ((msgGranted s m).sendCack x (x.next - 1))
        | none => .next (msgGranted s m) := by
    show execRelayGrant s = _
    unfold execRelayGrant
    rw [hm]
    exact (if_neg (by rw [hg]; exact Bool.false_ne_true)).trans (if_pos hf)
  rw [hexec]
  refine ⟨fun hb => ?_, fun hb => ?_⟩
  · obtain ⟨b, hb⟩ := Option.isSome_iff_exists.mp hb
    rw [hb]
  · rw [hb]
    exact ⟨fun hx => by rw [hx], fun x hx => by rw [hx]⟩

variable (hf : ¬ ringFits s m)
include hf

theorem exec_relayGrant_waited (hw : m.waited = true) : exec .relayGrant s = .next s := by
  show execRelayGrant s = _
  unfold execRelayGrant
  rw [hm]
  exact (if_neg (by rw [hg]; exact Bool.false_ne_true)).trans ((if_neg hf).trans (if_pos hw))

theorem exec_relayGrant_waits (hw : m.waited = false) :
    exec .relayGrant s = .next ((putMsg s m.num { m with waited := true }).bump 0x6200 3) := by
  show execRelayGrant s = _
  unfold execRelayGrant
  rw [hm]
  exact (if_neg (by rw [hg]; exact Bool.false_ne_true)).trans ((if_neg hf).trans (if_neg (Bool.eq_false_iff.mp hw)))

end

end

/-! ### Foreign frames (R197) -/

section
variable {s : State} {k : Nat} (bytes : List Byte)

theorem exec_foreignFrame_up (h : s.farUp k = true) : exec (.foreignFrame k bytes) s = .next (s.bump 0x6000 3) := congrArg _ (if_pos h)

theorem exec_foreignFrame_down (h : s.farUp k = false) : exec (.foreignFrame k bytes) s = .next s :=
  congrArg _ (if_neg (Bool.eq_false_iff.mp h))

end

/-! ### ARP (R196, R272) -/

/-- An IPv4 address as an IPv4-mapped IPv6 one. -/
def mapped4 (a : List Byte) : List Byte := zeros 10 ++ [0xFF, 0xFF] ++ a

/-- Is a packet one of ARP for IPv4 over Ethernet? -/
def arpForm (bytes : List Byte) : Bool := bytes.length == 28 && slice bytes 0 6 == toBe 2 1 ++ toBe 2 0x0800 ++ [6, 4]

theorem arpForm_iff (bytes : List Byte) : arpForm bytes = true ↔
    bytes.length = 28 ∧ slice bytes 0 6 = toBe 2 1 ++ toBe 2 0x0800 ++ [6, 4] := by
  rw [arpForm, Bool.and_eq_true, beq_iff_eq, beq_iff_eq]

/-- Does an ARP packet ask for an address of the port? -/
def arpAsked (s : State) (k : Nat) (bytes : List Byte) : Bool :=
  decide (beNat (slice bytes 6 2) = 1) && (s.nbrAddrs k).contains (mapped4 (slice bytes 24 4))

theorem arpAsked_iff (s : State) (k : Nat) (bytes : List Byte) : arpAsked s k bytes = true ↔
    beNat (slice bytes 6 2) = 1 ∧ (s.nbrAddrs k).contains (mapped4 (slice bytes 24 4)) = true := by
  rw [arpAsked, Bool.and_eq_true, decide_eq_true_iff]

/-- The port has learned the sender of an ARP packet. -/
def arpLearned (s : State) (k : Nat) (bytes : List Byte) : State := s.nbrLearn k (mapped4 (slice bytes 14 4)) (slice bytes 8 6)

section
variable {s : State} {k : Nat} {bytes : List Byte}

theorem exec_arp_down (hup : s.nbrUp k = false) : exec (.arp k bytes) s = .next s := if_pos (by rw [hup]; rfl)

section
variable (hup : s.nbrUp k = true)
include hup

theorem arpGuard_eq : (!s.nbrUp k || bytes.length != 28 || slice bytes 0 6 != toBe 2 1 ++ toBe 2 0x0800 ++ [6, 4]) =
    !arpForm bytes := by
  rw [hup, arpForm, Bool.not_and]
  rfl

theorem exec_arp_other (hf : ¬ arpForm bytes = true) : exec (.arp k bytes) s = .next s :=
  if_pos (by rw [arpGuard_eq hup, Bool.not_eq_true']; exact Bool.eq_false_iff.mpr hf)

variable (hf : arpForm bytes = true)
include hf

theorem exec_arp_formed : exec (.arp k bytes) s = if arpAsked s k bytes then .next ((arpLearned s k bytes).emit (.farNeighbour k
      (arpPacket 2 (nbrMac k) (slice bytes 24 4) (slice bytes 8 6) (slice bytes 14 4))))
    else .next (arpLearned s k bytes) :=
  if_neg (by rw [arpGuard_eq hup, hf]; exact Bool.false_ne_true)

end

end

/-! ### Neighbour discovery (R196, R272) -/

/-- Is an IPv6 packet a sound neighbour message? -/
def ndSound (bytes : List Byte) : Bool :=
  decide (72 ≤ bytes.length) && rdLe bytes 6 1 == 58 && rdLe bytes 7 1 == 255 && rdLe (bytes.drop 40) 1 1 == 0 &&
    inetSum (slice bytes 8 16 ++ slice bytes 24 16 ++ toBe 4 (bytes.drop 40).length ++ toBe 4 58 ++ bytes.drop 40) == 0

theorem ndSound_iff (bytes : List Byte) : ndSound bytes = true ↔
    72 ≤ bytes.length ∧ rdLe bytes 6 1 = 58 ∧ rdLe bytes 7 1 = 255 ∧ rdLe (bytes.drop 40) 1 1 = 0 ∧
      inetSum (slice bytes 8 16 ++ slice bytes 24 16 ++ toBe 4 (bytes.drop 40).length ++ toBe 4 58 ++ bytes.drop 40) = 0 := by
  simp only [ndSound, Bool.and_eq_true, decide_eq_true_eq, beq_iff_eq, and_assoc]

/-- The TYPE of a neighbour message. -/
def ndType (bytes : List Byte) : Nat := rdLe (bytes.drop 40) 0 1

/-- The target of a neighbour message. -/
def ndTarget (bytes : List Byte) : List Byte := slice (bytes.drop 40) 8 16

/-- The option of a neighbour message. -/
def ndOption (bytes : List Byte) : List Byte := slice (bytes.drop 40) 24 8

/-- The port has learned the source of a solicitation, where it gives its hardware address. -/
def ndTold (s : State) (k : Nat) (bytes : List Byte) : State :=
  if rdLe (ndOption bytes) 0 1 = 1 then s.nbrLearn k (slice bytes 8 16) (slice (ndOption bytes) 2 6) else s

/-- The advertisement of an own address. -/
def ndAdvert (k : Nat) (own dst : List Byte) (flags : Byte) : List Byte :=
  icmp6Packet own dst ([136, 0, 0, 0] ++ [flags, 0, 0, 0] ++ own ++ [2, 1] ++ nbrMac k)

/-- A solicitation of an own address is answered to its source, or to all nodes where it has none. -/
def ndAnswered (s : State) (k : Nat) (bytes : List Byte) : State :=
  (ndTold s k bytes).emit (.farNeighbour k (ndAdvert k (ndTarget bytes)
    (if slice bytes 8 16 == zeros 16 then [0xFF, 2] ++ zeros 13 ++ [1] else slice bytes 8 16)
    (if slice bytes 8 16 == zeros 16 then 0x20 else 0x60)))

section
variable {s : State} {k : Nat} {bytes : List Byte}

theorem ndAnswered_source (h : slice bytes 8 16 ≠ zeros 16) : ndAnswered s k bytes =
    (ndTold s k bytes).emit (.farNeighbour k (ndAdvert k (ndTarget bytes) (slice bytes 8 16) 0x60)) := by
  rw [ndAnswered, if_neg (mt beq_iff_eq.mp h), if_neg (mt beq_iff_eq.mp h)]

theorem ndAnswered_all (h : slice bytes 8 16 = zeros 16) : ndAnswered s k bytes =
    (ndTold s k bytes).emit (.farNeighbour k (ndAdvert k (ndTarget bytes) ([0xFF, 2] ++ zeros 13 ++ [1]) 0x20)) := by
  rw [ndAnswered, if_pos (beq_iff_eq.mpr h), if_pos (beq_iff_eq.mpr h)]

theorem exec_neighborDiscovery_down (hup : s.nbrUp k = false) : exec (.neighborDiscovery k bytes) s = .next s :=
  if_pos (by rw [hup]; rfl)

section
variable (hup : s.nbrUp k = true)
include hup

theorem ndGuard_eq : (s.nbrUp k && decide (72 ≤ bytes.length) && rdLe bytes 6 1 == 58 && rdLe bytes 7 1 == 255 &&
    rdLe (bytes.drop 40) 1 1 == 0 && inetSum (slice bytes 8 16 ++ slice bytes 24 16 ++ toBe 4 (bytes.drop 40).length ++
      toBe 4 58 ++ bytes.drop 40) == 0) = ndSound bytes := by
  rw [hup, Bool.true_and]
  rfl

theorem exec_neighborDiscovery_unsound (hs : ¬ ndSound bytes = true) : exec (.neighborDiscovery k bytes) s = .next s :=
  if_pos (by rw [ndGuard_eq hup, Bool.not_eq_true']; exact Bool.eq_false_iff.mpr hs)

variable (hs : ndSound bytes = true)
include hs

/-- A sound message goes on to the branch of its TYPE. -/
theorem exec_neighborDiscovery_sound : exec (.neighborDiscovery k bytes) s =
    if ndType bytes = 135 then
      if (s.nbrAddrs k).contains (ndTarget bytes) then .next (ndAnswered s k bytes) else .next (ndTold s k bytes)
    else if ndType bytes = 136 && rdLe (ndOption bytes) 0 1 == 2 then .next (s.nbrLearn k (ndTarget bytes) (slice (ndOption bytes) 2 6))
    else .next s :=
  if_neg (by rw [ndGuard_eq hup, hs]; exact Bool.false_ne_true)

theorem exec_neighborDiscovery_solicited (ht : ndType bytes = 135) (ho : (s.nbrAddrs k).contains (ndTarget bytes) = true) :
    exec (.neighborDiscovery k bytes) s = .next (ndAnswered s k bytes) := by
  rw [exec_neighborDiscovery_sound hup hs, if_pos ht, if_pos ho]

theorem exec_neighborDiscovery_foreign (ht : ndType bytes = 135) (ho : (s.nbrAddrs k).contains (ndTarget bytes) = false) :
    exec (.neighborDiscovery k bytes) s = .next (ndTold s k bytes) := by
  rw [exec_neighborDiscovery_sound hup hs, if_pos ht, if_neg (Bool.eq_false_iff.mp ho)]

theorem exec_neighborDiscovery_advertised (ht : ndType bytes = 136) (ho : rdLe (ndOption bytes) 0 1 = 2) :
    exec (.neighborDiscovery k bytes) s = .next (s.nbrLearn k (ndTarget bytes) (slice (ndOption bytes) 2 6)) := by
  rw [exec_neighborDiscovery_sound hup hs, if_neg (by omega), if_pos (by simp [ht, ho])]

theorem exec_neighborDiscovery_silent (ht : ndType bytes ≠ 135) (ho : ndType bytes ≠ 136 ∨ rdLe (ndOption bytes) 0 1 ≠ 2) :
    exec (.neighborDiscovery k bytes) s = .next s := by
  rw [exec_neighborDiscovery_sound hup hs, if_neg ht, if_neg (by simpa [← not_and_or] using ho)]

end

theorem nbrLearn_field (ip mac : List Byte) : s.nbrLearn 2 ip mac = s := if_pos rfl

theorem nbrLearn_far (h : k ≠ 2) (ip mac : List Byte) : s.nbrLearn k ip mac = s.learnHop k ip mac := if_neg h

end

end Sys2Proof.Machine

open Sys2Proof Sys2Proof.Machine

/-- Settles O42: each timer, port and frame by the rule of its case. -/
theorem farPeers : Obligations.FarPeers := by
  refine ⟨fun s i k q peers => ⟨exec_ackTimer_due, exec_ackTimer_idle, ⟨exec_rtoExpiry_due, exec_rtoExpiry_idle⟩, exec_peerDown_up,
      exec_peerDown_other, ⟨exec_portReturn_back, exec_portReturn_stays⟩, movePeer_moves, movePeer_stays,
      ⟨exec_frameSend_none, fun j h => ⟨exec_frameSend_confirm h, fun x hc => exec_frameSend_frame h hc, exec_frameSend_nothing h⟩⟩,
      exec_keyLifetime_runs, exec_keyLifetime_idle, ⟨exec_hsResend_again, exec_hsResend_first, exec_hsResend_idle⟩,
      ⟨exec_oldKeyRelease_shown, exec_oldKeyRelease_waits⟩, ?portUp, ?portDown, exec_relayGrant_idle, fun m hm hg => ?grant⟩,
    fun s k bytes => ⟨exec_foreignFrame_up bytes, exec_foreignFrame_down bytes,
      fun hdown => ⟨exec_arp_down hdown, exec_neighborDiscovery_down hdown⟩⟩, fun s k bytes hup => ?neighbours⟩
  case portUp =>
    intro rises u
    have hrises : portRises s k = true ↔ rises := portRises_iff s k
    exact ⟨fun hr hg => exec_farPortUp_member (hrises.mpr hr) hg, fun hr hg => exec_farPortUp_gateway (hrises.mpr hr) hg,
      fun hr => exec_farPortUp_stays (mt hrises.mp hr)⟩
  case portDown =>
    exact ⟨fun hk h => (exec_farPortDown_leaves hk h).trans (congrArg _ (leavePort_eq _ k)), exec_farPortDown_stays⟩
  case grant =>
    exact ⟨exec_relayGrant_fits hm hg, fun hf => ⟨exec_relayGrant_waited hm hg hf, exec_relayGrant_waits hm hg hf⟩⟩
  case neighbours =>
    intro v4 learned form asked src m opt own sound told
    have hform : arpForm bytes = true ↔ form := arpForm_iff bytes
    have hasked : arpAsked s k bytes = true ↔ asked := arpAsked_iff s k bytes
    have hsound : ndSound bytes = true ↔ sound := ndSound_iff bytes
    refine ⟨fun hf ha => (exec_arp_formed hup (hform.mpr hf)).trans (if_pos (hasked.mpr ha)),
      fun hf ha => (exec_arp_formed hup (hform.mpr hf)).trans (if_neg (mt hasked.mp ha)),
      fun hf => exec_arp_other hup (mt hform.mp hf), fun hs => exec_neighborDiscovery_unsound hup (mt hsound.mp hs), fun hs => ?_,
      fun hk => ?_, fun hk => nbrLearn_far hk _ _⟩
    · have hs' : ndSound bytes = true := hsound.mpr hs
      refine ⟨exec_neighborDiscovery_advertised hup hs', fun ht ho => ?_, exec_neighborDiscovery_foreign hup hs', fun ht ho hsrc => ?_,
        fun ht ho hsrc => ?_, fun ht => ?_⟩
      · have htype : ndType bytes = 136 := ht
        exact exec_neighborDiscovery_silent hup hs' (by omega) (.inr ho)
      · exact (exec_neighborDiscovery_solicited hup hs' ht ho).trans (congrArg _ (ndAnswered_source hsrc))
      · exact (exec_neighborDiscovery_solicited hup hs' ht ho).trans (congrArg _ (ndAnswered_all hsrc))
      · have htype : ndType bytes ∉ [135, 136] := ht
        simp only [List.mem_cons, List.not_mem_nil, or_false, not_or] at htype
        exact exec_neighborDiscovery_silent hup hs' htype.1 (.inl htype.2)
    · subst hk
      exact nbrLearn_field _ _
end

section
/-! SUPPORT. The authenticated frames of a peer (08, 8.2 to 8.5; R203, R204, R206, R208, R214): the course that DATA, ACK and RETIRE share,
what each of them does, the acceptance of a sequence number, and the statement. -/

namespace Sys2Proof.Machine

/-! ### The course of an opened frame (8.2) -/

/-- The course of a frame that `farOpen` has judged: a formed one acts, and an ill-formed one is counted at its peer. -/
def farFrame (formed : List Byte → Bool) (act : State → Nat → List Byte → List Byte → State) :
    State × Option (Nat × List Byte × List Byte) → State
  | (t, none) => t
  | (t, some (i, h, b)) => if formed b then act t i h b else t.peerCount i 8 1

section
variable {formed : List Byte → Bool} {act : State → Nat → List Byte → List Byte → State} {t : State} {i : Nat} {h b : List Byte}

theorem farFrame_formed (hf : formed b = true) : farFrame formed act (t, some (i, h, b)) = act t i h b := if_pos hf

theorem farFrame_illFormed (hf : ¬ formed b = true) : farFrame formed act (t, some (i, h, b)) = t.peerCount i 8 1 := if_neg hf

end

/-! ### DATA (R203, R206) -/

/-- What a formed DATA frame does: one that is accepted delivers its data and is acknowledged. -/
def dataActs (t : State) (i : Nat) (h b : List Byte) : State :=
  if (t.seqArrives i h).2 then ((t.seqArrives i h).1.farData i (rdLe h 0x10 6) b).ackAfter i (t.fpeer i) h else (t.seqArrives i h).1

theorem exec_dataFrame_eq (k : Nat) (src bytes : List Byte) (s : State) :
    exec (.dataFrame k src bytes) s = .next (farFrame dataForm dataActs (s.farOpen k src bytes 1)) := by
  show execDataFrame k src bytes s = _
  unfold execDataFrame
  rcases s.farOpen k src bytes 1 with ⟨t, _ | ⟨i, h, b⟩⟩
  · rfl
  · by_cases hf : dataForm b = true
    · rw [farFrame_formed hf]
      exact if_neg (by simp [hf])
    · rw [farFrame_illFormed hf]
      exact if_pos (by simp [hf])

/-! ### ACK (R202, R204, R214) -/

/-- The form of an ACK body (Table 8.5). -/
def ackForm (b : List Byte) : Bool :=
  decide (b.length = 24 + 16 * rdLe b 0xE 1) && decide (rdLe b 0xE 1 ≤ 8) && zeroAt b 0xF 1 && decide (rdLe b 0xD 1 < 4)

theorem ackForm_iff (b : List Byte) : ackForm b = true ↔
    b.length = 24 + 16 * rdLe b 0xE 1 ∧ rdLe b 0xE 1 ≤ 8 ∧ zeroAt b 0xF 1 = true ∧ rdLe b 0xD 1 < 4 := by
  simp only [ackForm, Bool.and_eq_true, decide_eq_true_eq, and_assoc]

theorem ackForm_eq (b : List Byte) : (decide (b.length ≠ 24 + 16 * rdLe b 0xE 1) || decide (8 < rdLe b 0xE 1) || !zeroAt b 0xF 1 ||
    decide (4 ≤ rdLe b 0xD 1)) = !ackForm b := by
  simp only [ackForm, Bool.not_and, ← decide_not, not_le, not_lt, ne_eq]

/-- Does an ACK name a sequence number as held: one below its CUM, or one of its ranges? -/
def ackNames (b : List Byte) (x : Nat) : Bool :=
  decide (x < rdLe b 0 6) || ((List.range (rdLe b 0xE 1)).map (fun j => (rdLe b (0x18 + 16 * j) 8, rdLe b (0x20 + 16 * j) 8))).any
    (fun q => decide (q.1 ≤ x) && decide (x < q.2))

/-- The RTT sample of an ACK that echoes a transmission (R204). -/
def ackSampled (t : State) (i : Nat) (b : List Byte) : State :=
  match (t.fpeer i).txLog.find? (fun e => e.1 == rdLe b 0xC 1 && e.2.1 == rdLe b 8 4) with
  | none => t
  | some e => t.fpeerMod i (fun q => State.rttSample q (t.time.now - e.2.2 - rdLe b 0x10 8))

/-- What a formed ACK does: it samples the RTT, may show the newest epoch, and releases what it names. -/
def ackActs (t : State) (i : Nat) (_h b : List Byte) : State :=
  State.dropMsgs (State.releaseSlots ((ackSampled t i b).fpeerMod i (fun q => { q with
    mayDrop := q.mayDrop || (decide (1 < q.keys.length) && rdLe b 0xD 1 == ((t.fpeer i).keys.head?.map (·.epoch)).getD 0) })) i (ackNames b))

theorem exec_ackFrame_eq (k : Nat) (src bytes : List Byte) (s : State) :
    exec (.ackFrame k src bytes) s = .next (farFrame ackForm ackActs (s.farOpen k src bytes 2)) := by
  show execAckFrame k src bytes s = _
  unfold execAckFrame
  rcases s.farOpen k src bytes 2 with ⟨t, _ | ⟨i, h, b⟩⟩
  · rfl
  · by_cases hf : ackForm b = true
    · rw [farFrame_formed hf]
      refine (if_neg (by rw [ackForm_eq, hf]; exact Bool.false_ne_true)).trans ?_
      rfl
    · rw [farFrame_illFormed hf]
      exact if_pos (by rw [ackForm_eq, Bool.not_eq_true']; exact Bool.eq_false_iff.mpr hf)

/-! ### RETIRE (R208) -/

/-- The form of a RETIRE body: 1 to 64 ranges. -/
def retireForm (b : List Byte) : Bool := decide (b.length % 16 = 0) && decide (b.length ≠ 0) && decide (b.length ≤ 1024)

theorem retireForm_iff (b : List Byte) : retireForm b = true ↔ b.length % 16 = 0 ∧ b.length ≠ 0 ∧ b.length ≤ 1024 := by
  simp only [retireForm, Bool.and_eq_true, decide_eq_true_eq, and_assoc]

theorem retireForm_eq (b : List Byte) :
    (decide (b.length % 16 ≠ 0) || b.length == 0 || decide (1024 < b.length)) = !retireForm b := by
  simp only [retireForm, Bool.not_and, ← decide_not, not_le, ne_eq, not_not, beq_eq_decide]

/-- Does a RETIRE name a sequence number? -/
def retireNames (b : List Byte) (x : Nat) : Bool :=
  ((chunksOf 16 b).map (fun c => (rdLe c 0 8, rdLe c 8 8))).any (fun q => decide (q.1 ≤ x) && decide (x < q.2))

/-- Does an inbound message hold a retired sequence number, whether that frame has come or not? -/
def retireHits (t : State) (i : Nat) (b : List Byte) (m : FarRx) : Bool :=
  (List.range (t.framesOf i (dhLen m.hdr))).any (fun n => retireNames b (m.first + n))

/-- An accepted RETIRE in the state `r` that its acceptance has left: what it names counts as held, and the messages it hits are aborted. -/
def retireDone (t r : State) (i : Nat) (b : List Byte) : State :=
  ((r.fpeer i).rx.filter (retireHits t i b)).foldl (fun a m => a.farAbort i m) (r.fpeerMod i (fun p =>
    State.holdSeqs p (((List.range (t.odGet 0x6200 1)).map (· + (r.fpeer i).cum)).filter (retireNames b))))

/-- What a formed RETIRE does. -/
def retireActs (t : State) (i : Nat) (h b : List Byte) : State :=
  if (t.seqArrives i h).2 then (retireDone t (t.seqArrives i h).1 i b).ackAfter i (t.fpeer i) h else (t.seqArrives i h).1

theorem exec_retireFrame_eq (k : Nat) (src bytes : List Byte) (s : State) :
    exec (.retireFrame k src bytes) s = .next (farFrame retireForm retireActs (s.farOpen k src bytes 3)) := by
  show execRetireFrame k src bytes s = _
  unfold execRetireFrame
  rcases s.farOpen k src bytes 3 with ⟨t, _ | ⟨i, h, b⟩⟩
  · rfl
  · by_cases hf : retireForm b = true
    · rw [farFrame_formed hf]
      refine (if_neg (by rw [retireForm_eq, hf]; exact Bool.false_ne_true)).trans ?_
      by_cases ha : (t.seqArrives i h).2 = true
      · rw [retireActs, if_pos ha]
        exact if_neg (by simp [ha])
      · rw [retireActs, if_neg ha]
        exact if_pos (by simp [ha])
    · rw [farFrame_illFormed hf]
      exact if_pos (by rw [retireForm_eq, Bool.not_eq_true']; exact Bool.eq_false_iff.mpr hf)

/-! ### CONFIRM (R214) -/

theorem exec_confirm_eq (k : Nat) (src bytes : List Byte) (s : State) :
    exec (.confirm k src bytes) s = .next (s.farOpen k src bytes 4).1 := rfl

/-! ### A sequence number is accepted once (R203) -/

/-- The peer after the arrival of a sequenced frame: what its next ACK echoes, and that one is due. -/
def echoDue (s : State) (i : Nat) (h : List Byte) : State :=
  s.fpeerMod i (fun p => { p with echo := some (rdLe h 8 4, rdLe h 2 1 % 4, s.time.now), ackDue := p.ackDue + 1 })

theorem seqRefused_iff (p : FarPeer) (window q : Nat) :
    (decide (q < p.cum) || decide (p.cum + window ≤ q) || p.held.contains q) = true ↔ q < p.cum ∨ p.cum + window ≤ q ∨ q ∈ p.held := by
  simp only [Bool.or_eq_true, decide_eq_true_eq, List.contains_iff_mem, or_assoc]

theorem seqArrives_refused {s : State} {i : Nat} {h : List Byte} (hq : rdLe h 0x10 6 < (s.fpeer i).cum ∨
    (s.fpeer i).cum + s.odGet 0x6200 1 ≤ rdLe h 0x10 6 ∨ rdLe h 0x10 6 ∈ (s.fpeer i).held) :
    s.seqArrives i h = (((echoDue s i h).peerCount i 11 1).sendAck i, false) :=
  if_pos ((seqRefused_iff _ _ _).mpr hq)

theorem seqArrives_accepted {s : State} {i : Nat} {h : List Byte} (hlo : (s.fpeer i).cum ≤ rdLe h 0x10 6)
    (hhi : rdLe h 0x10 6 < (s.fpeer i).cum + s.odGet 0x6200 1) (hnew : rdLe h 0x10 6 ∉ (s.fpeer i).held) :
    s.seqArrives i h = ((echoDue s i h).fpeerMod i (fun p => State.holdSeqs p [rdLe h 0x10 6]), true) := by
  refine if_neg (mt (seqRefused_iff _ _ _).mp ?_)
  rintro (hq | hq | hq)
  · omega
  · omega
  · exact hnew hq

theorem le_advanceCum (fuel c : Nat) (l : List Nat) : c ≤ (State.advanceCum fuel c l).1 := by
  induction fuel generalizing c l with
  | zero => exact le_rfl
  | succ fuel ih =>
    unfold State.advanceCum
    split
    · exact (Nat.le_succ c).trans (ih _ _)
    · exact le_rfl

/-- To advance CUM loses no number: what was below it or held is so afterwards. -/
theorem known_advanceCum (fuel : Nat) {c x : Nat} {l : List Nat} (hx : x < c ∨ x ∈ l) :
    x < (State.advanceCum fuel c l).1 ∨ x ∈ (State.advanceCum fuel c l).2 := by
  induction fuel generalizing c l with
  | zero => exact hx
  | succ fuel ih =>
    unfold State.advanceCum
    split
    · refine ih ?_
      rw [List.mem_filter, decide_eq_true_eq]
      rcases hx with hx | hx
      · exact .inl (by omega)
      · by_cases hc : x = c
        · exact .inl (by omega)
        · exact .inr ⟨hx, hc⟩
    · exact hx

theorem cum_le_holdSeqs (p : FarPeer) (l : List Nat) : p.cum ≤ (State.holdSeqs p l).cum := le_advanceCum _ _ _

/-- The numbers that `holdSeqs` marks, and those that were below CUM or held before, are below CUM or held after it. -/
theorem known_holdSeqs (p : FarPeer) (l : List Nat) {x : Nat} (hx : x < p.cum ∨ x ∈ l ∨ x ∈ p.held) :
    x < (State.holdSeqs p l).cum ∨ x ∈ (State.holdSeqs p l).held := by
  refine known_advanceCum _ ?_
  by_cases hc : x < p.cum
  · exact .inl hc
  · have hle : p.cum ≤ x := not_lt.mp hc
    simp only [List.mem_append, List.mem_filter, decide_eq_true_eq, Bool.not_eq_true', List.contains_eq_mem, decide_eq_false_iff_not]
    tauto

end Sys2Proof.Machine

open Sys2Proof Sys2Proof.Machine

/-- Settles O43: each frame along the one course of an opened frame, and the sequence numbers by what `advanceCum` keeps. -/
theorem farFramesAct : Obligations.FarFramesAct := by
  refine ⟨fun s t k i src bytes h b => ?frames, fun s i h => ⟨seqArrives_refused, seqArrives_accepted⟩, fun p q _ _ => ?once⟩
  case frames =>
    rw [exec_dataFrame_eq, exec_ackFrame_eq, exec_retireFrame_eq, exec_confirm_eq]
    refine ⟨fun ho => ?data, fun ho => ?ack, fun ho => ?retire, fun ho => by rw [ho], fun ho => by rw [ho]; rfl, fun ho => by rw [ho]; rfl,
      fun ho => by rw [ho]; rfl, fun ho => by rw [ho]⟩
    case data =>
      rw [ho]
      refine ⟨fun hf => ?_, fun hf ha => ?_, fun hf ha => ?_⟩
      · rw [farFrame_illFormed (Bool.eq_false_iff.mp hf)]
      · rw [farFrame_formed hf, dataActs, if_pos ha]
      · rw [farFrame_formed hf, dataActs, if_neg (Bool.eq_false_iff.mp ha)]
    case ack =>
      rw [ho]
      exact ⟨fun hf => congrArg _ (farFrame_formed ((ackForm_iff b).mpr hf)),
        fun hf => congrArg _ (farFrame_illFormed (mt (ackForm_iff b).mp hf))⟩
    case retire =>
      rw [ho]
      refine ⟨fun hf ha => ?_, fun hf ha => ?_, fun hf => ?_⟩
      · rw [farFrame_formed ((retireForm_iff b).mpr hf), retireActs, if_pos ha]
        rfl
      · rw [farFrame_formed ((retireForm_iff b).mpr hf), retireActs, if_neg (Bool.eq_false_iff.mp ha)]
      · rw [farFrame_illFormed (mt (retireForm_iff b).mp hf)]
  case once =>
    exact ⟨known_holdSeqs p [q] (.inr (.inl (List.mem_singleton_self q))), cum_le_holdSeqs p [q],
      fun x hx => known_holdSeqs p [q] (hx.imp_right .inr)⟩
end

section
/-! SUPPORT. The handshakes of the far link (08, 8.7; R210 to R214): the course of an HS_INIT at the responder and of an HS_RESP at the
initiator, and the statement. -/

namespace Sys2Proof.Machine

/-! ### HS_INIT at the responder (R210 to R212) -/

/-- Does an HS_INIT pass the checks of R211, toward a responder? -/
def initSound (t : State) (i : Nat) (bytes : List Byte) : Bool :=
  !t.initiates i && hsChecks t i bytes [] && rdLe bytes 0xC 4 != 0

theorem initSound_iff (t : State) (i : Nat) (bytes : List Byte) : initSound t i bytes = true ↔
    t.initiates i = false ∧ hsChecks t i bytes [] = true ∧ rdLe bytes 0xC 4 ≠ 0 := by
  rw [initSound, Bool.and_eq_true, Bool.and_eq_true, Bool.not_eq_true', bne_iff_ne, and_assoc]

theorem initSound_eq (t : State) (i : Nat) (bytes : List Byte) :
    (t.initiates i || !hsChecks t i bytes [] || rdLe bytes 0xC 4 == 0) = !initSound t i bytes := by
  rw [initSound, Bool.not_and, Bool.not_and, Bool.not_not, bne, Bool.not_not]

/-- The answer that the responder has given to this HS_INIT in its session, if any. -/
def initKnown (t : State) (i : Nat) (bytes : List Byte) : Option (List Byte × List Byte) :=
  (t.fpeer i).answered.find? (fun a => a.1 == slice (bytes.drop 32) 0 192 && rdLe bytes 0xC 4 == (t.fpeer i).session)

/-- Does an HS_INIT begin a session, or begin one again that has not come into use? -/
def initFresh (t : State) (i : Nat) (bytes : List Byte) : Bool := rdLe bytes 0xC 4 != (t.fpeer i).session || (t.fpeer i).st == 1

/-- The epoch that an HS_INIT must ask for: 0 in a new session, and the next one otherwise. -/
def initEpoch (t : State) (i : Nat) (bytes : List Byte) : Nat := if initFresh t i bytes then 0 else ((t.fpeer i).epoch + 1) % 4

/-- An answer leaves where the port is ready. -/
def hsAnswer (a : State) (i : Nat) (f : List Byte) : State := if a.farReady i then a.farEmit i f else a

/-- The new session of a fresh HS_INIT. -/
def initSession (t : State) (i : Nat) (bytes : List Byte) : State :=
  if initFresh t i bytes then
    (t.farSession i (rdLe bytes 0xC 4) (rdLe (bytes.drop 32) 2 2 == 1400 || t.mtuMode i == 2)).peerState i 1
  else t

/-- The responder takes the keys of an HS_INIT in the state `t0` of its session, and answers with HS_RESP. -/
def initAnswered (t t0 : State) (i : Nat) (bytes : List Byte) : State :=
  let b := bytes.drop 32
  let body := slice b 0 192
  let session := rdLe bytes 0xC 4
  let n := t0.randomBytes 16
  let e := n.2.randomBytes 32
  let okm := State.hsKeys (x25519 e.1 (slice b 0x18 32)) (slice b 8 16) n.1 session (rdLe b 0 1) i t.ownSite
  let f := e.2.hsFrame i 0x11 session (e.2.hsBody (rdLe b 0 1) (e.2.peerSmall i) n.1 (x25519 e.1 x25519Base)) body 0
  hsAnswer (e.2.fpeerMod i (fun q => { q with
    answered := (if session = (t.fpeer i).session then (t.fpeer i).answered else []) ++ [(body, f)],
    keys := State.addKey q.keys (State.hsKey (rdLe b 0 1) okm false), mayDrop := false })) i f

/-- The course of a sound HS_INIT: the answer that it has had, or a new one where it asks for the epoch that is due. -/
def initCourse (t : State) (i : Nat) (bytes : List Byte) : State :=
  match initKnown t i bytes with
  | some a => hsAnswer t i a.2
  | none =>
    if rdLe (bytes.drop 32) 0 1 ≠ initEpoch t i bytes then t.countNotify 0x6400 3
    else initAnswered t (initSession t i bytes) i bytes

section
variable {t : State} {i : Nat} {bytes : List Byte}

theorem initCourse_known {a : List Byte × List Byte} (hk : initKnown t i bytes = some a) : initCourse t i bytes = hsAnswer t i a.2 := by
  rw [initCourse, hk]

theorem initCourse_wrongEpoch (hk : initKnown t i bytes = none) (he : rdLe (bytes.drop 32) 0 1 ≠ initEpoch t i bytes) :
    initCourse t i bytes = t.countNotify 0x6400 3 := by
  rw [initCourse, hk]
  exact if_pos he

theorem initCourse_new (hk : initKnown t i bytes = none) (he : rdLe (bytes.drop 32) 0 1 = initEpoch t i bytes) :
    initCourse t i bytes = initAnswered t (initSession t i bytes) i bytes := by
  rw [initCourse, hk]
  exact if_neg (not_not_intro he)

end

section
variable {s t : State} {k i : Nat} {src bytes : List Byte}

theorem exec_hsInit_none (h : s.farAccept k src bytes 0x10 = (t, none)) : exec (.hsInit k src bytes) s = .next t := by
  show execHsInit k src bytes s = _
  unfold execHsInit
  rw [h]

section
variable (h : s.farAccept k src bytes 0x10 = (t, some i))
include h

theorem exec_hsInit_illFormed (hf : hsForm bytes = false) : exec (.hsInit k src bytes) s = .next (t.peerCount i 8 1) := by
  show execHsInit k src bytes s = _
  unfold execHsInit
  rw [h]
  exact if_pos (by rw [hf]; rfl)

variable (hf : hsForm bytes = true)
include hf

theorem exec_hsInit_fails (hs : initSound t i bytes = false) : exec (.hsInit k src bytes) s = .next (t.countNotify 0x6400 3) := by
  show execHsInit k src bytes s = _
  unfold execHsInit
  rw [h]
  exact (if_neg (by rw [hf]; exact Bool.false_ne_true)).trans (if_pos (by rw [initSound_eq, hs]; rfl))

theorem exec_hsInit_sound (hs : initSound t i bytes = true) : exec (.hsInit k src bytes) s = .next (initCourse t i bytes) := by
  show execHsInit k src bytes s = _
  unfold execHsInit
  rw [h]
  refine (if_neg (by rw [hf]; exact Bool.false_ne_true)).trans
    ((if_neg (by rw [initSound_eq, hs]; exact Bool.false_ne_true)).trans ?_)
  unfold initCourse initKnown
  cases (t.fpeer i).answered.find? _ with
  | some a => rfl
  | none => exact (apply_ite Host.Outcome.next _ _ _).symm

end

end

/-! ### HS_RESP at the initiator (R211, R212, R214) -/

/-- Does an HS_RESP answer the handshake `h` that the initiator has under way, and pass the checks of R211? -/
def respSound (t : State) (i : Nat) (h : FarHs) (bytes : List Byte) : Bool :=
  decide (rdLe bytes 0xC 4 = (t.fpeer i).session) && rdLe (bytes.drop 32) 0 1 == h.epoch && hsChecks t i bytes (slice h.frame 32 192)

theorem respSound_iff (t : State) (i : Nat) (h : FarHs) (bytes : List Byte) : respSound t i h bytes = true ↔
    rdLe bytes 0xC 4 = (t.fpeer i).session ∧ rdLe (bytes.drop 32) 0 1 = h.epoch ∧
      hsChecks t i bytes (slice h.frame 32 192) = true := by
  rw [respSound, Bool.and_eq_true, Bool.and_eq_true, decide_eq_true_iff, beq_iff_eq, and_assoc]

theorem respSound_eq (t : State) (i : Nat) (h : FarHs) (bytes : List Byte) :
    (decide (rdLe bytes 0xC 4 ≠ (t.fpeer i).session) || rdLe (bytes.drop 32) 0 1 != h.epoch ||
      !hsChecks t i bytes (slice h.frame 32 192)) = !respSound t i h bytes := by
  rw [respSound, Bool.not_and, Bool.not_and, bne, decide_not]

/-- The initiator takes the keys of an HS_RESP, switches to them and owes CONFIRM. -/
def respKeyed (t : State) (i : Nat) (h : FarHs) (bytes : List Byte) : State :=
  let b := bytes.drop 32
  let p := t.fpeer i
  let okm := State.hsKeys (x25519 h.priv (slice b 0x18 32)) h.nonce (slice b 8 16) p.session h.epoch t.ownSite i
  t.fpeerMod i (fun q => { q with
    hs := none, keys := State.addKey q.keys (State.hsKey h.epoch okm true), epoch := h.epoch, frameNo := 0, mayDrop := false,
    owesConfirm := true, small := q.small || (h.fresh && rdLe b 2 2 == 1400) })

/-- The frames that wait are cut anew where the handshake has changed their size (R199). -/
def respResized (t t1 : State) (i : Nat) : State := if (t1.fpeer i).small = (t.fpeer i).small then t1 else t1.renewSlots i

/-- What a sound HS_RESP does: the peer is UP, and CONFIRM goes as its first frame. -/
def respDone (t : State) (i : Nat) (h : FarHs) (bytes : List Byte) : State :=
  (((respResized t (respKeyed t i h bytes) i).bump 0x6400 2).peerState i 2).sendConfirm i

section
variable {s t : State} {k i : Nat} {src bytes : List Byte} {x : FarHs}

theorem exec_hsResp_none (h : s.farAccept k src bytes 0x11 = (t, none)) : exec (.hsResp k src bytes) s = .next t := by
  show execHsResp k src bytes s = _
  unfold execHsResp
  rw [h]

section
variable (h : s.farAccept k src bytes 0x11 = (t, some i))
include h

theorem exec_hsResp_illFormed (hf : hsForm bytes = false) : exec (.hsResp k src bytes) s = .next (t.peerCount i 8 1) := by
  show execHsResp k src bytes s = _
  unfold execHsResp
  rw [h]
  exact if_pos (by rw [hf]; rfl)

variable (hf : hsForm bytes = true)
include hf

theorem exec_hsResp_idle (hx : (t.fpeer i).hs = none) : exec (.hsResp k src bytes) s = .next (t.countNotify 0x6400 3) := by
  show execHsResp k src bytes s = _
  unfold execHsResp
  rw [h]
  dsimp only
  rw [hx]
  exact if_neg (by rw [hf]; exact Bool.false_ne_true)

theorem exec_hsResp_underWay (hx : (t.fpeer i).hs = some x) : exec (.hsResp k src bytes) s =
    if respSound t i x bytes then .next (respDone t i x bytes) else .next (t.countNotify 0x6400 3) := by
  show execHsResp k src bytes s = _
  unfold execHsResp
  rw [h]
  dsimp only
  rw [hx]
  refine (if_neg (by rw [hf]; exact Bool.false_ne_true)).trans ?_
  by_cases hs : respSound t i x bytes = true
  · rw [if_pos hs]
    exact if_neg (by rw [respSound_eq, hs]; exact Bool.false_ne_true)
  · rw [if_neg hs]
    exact if_pos (by rw [respSound_eq, Bool.not_eq_true']; exact Bool.eq_false_iff.mpr hs)

end

end

end Sys2Proof.Machine

open Sys2Proof Sys2Proof.Machine

/-- Settles O44: each frame by its form, its checks and, at the responder, the answer it has had. -/
theorem handshakes : Obligations.Handshakes := by
  intro s t k i src bytes b p session init resp
  refine ⟨exec_hsInit_none, exec_hsResp_none, fun h => ?init, fun h => ?resp⟩
  case init =>
    intro body known fresh sound
    have hsound : initSound t i bytes = true ↔ sound := initSound_iff t i bytes
    refine ⟨exec_hsInit_illFormed h, fun hf hs => exec_hsInit_fails h hf (Bool.eq_false_iff.mpr (mt hsound.mp hs)), fun hf hs => ?_⟩
    have hcourse : init = .next (initCourse t i bytes) := exec_hsInit_sound h hf (hsound.mpr hs)
    rw [hcourse]
    refine ⟨fun a hk hr => ?_, fun a hk hr => ?_, fun hk he => ?_, fun hk he => ?_⟩
    · rw [initCourse_known hk, hsAnswer, if_pos hr]
    · rw [initCourse_known hk, hsAnswer, if_neg (Bool.eq_false_iff.mp hr)]
    · rw [initCourse_wrongEpoch hk he]
    · rw [initCourse_new hk he]
      rfl
  case resp =>
    refine ⟨exec_hsResp_illFormed h, exec_hsResp_idle h, fun x hf hx => ?_⟩
    intro sound okm t1 t2
    have hsound : respSound t i x bytes = true ↔ sound := respSound_iff t i x bytes
    have hexec := exec_hsResp_underWay h hf hx
    exact ⟨fun hs => hexec.trans (if_neg (mt hsound.mp hs)), fun hs => hexec.trans (if_pos (hsound.mpr hs))⟩
end

section
/-! SUPPORT. The entries of the Fusees (09, 9.3 and 9.4; R136, R221, R222, R250): the course of the entry at the head of a Fusee's queue, and
the statement. -/

namespace Sys2Proof.Machine

/-! ### The head of a Fusee's queue -/

/-- May the entry at the head of Fusee f's queue start: the queues run, the Fusee is there and its doorbell is rung? -/
def fqReady (s : State) (f : Nat) : Bool := s.queuesStart && decide (f < 2) && s.rung (fqSpec s f).door (fqNext s f)

theorem fqReady_iff (s : State) (f : Nat) :
    fqReady s f = true ↔ s.queuesStart = true ∧ f < 2 ∧ s.rung (fqSpec s f).door (fqNext s f) = true := by
  simp only [fqReady, Bool.and_eq_true, decide_eq_true_eq, and_assoc]

/-- The entry at the head of Fusee f's queue. -/
def fqEntry (s : State) (f : Nat) : QEntry := s.ringEntry (fqSpec s f).base (fqNext s f).toNat

/-- The line of that entry, where it has an uncorrectable error. -/
def fqWrong (s : State) (f : Nat) : Option Nat := s.wrongLine [((fqSpec s f).base + (fqNext s f).toNat % 1024 * 16, 16)]

/-- The descriptor that the entry names. -/
def fqDesc (s : State) (f : Nat) : List Byte := s.readBytes (fqEntry s f).desc 64

/-- A KIND that Table 9.4 does not list. -/
def unlistedFusee (k : Nat) : Bool := decide (k = 0) || decide (6 < k)

theorem unlistedFusee_iff (k : Nat) : unlistedFusee k = true ↔ k = 0 ∨ 6 < k := by
  rw [unlistedFusee, Bool.or_eq_true, decide_eq_true_eq, decide_eq_true_eq]

/-- Does the entry wait for a pending re-shard (R250)? -/
def fqWaits (s : State) (f : Nat) : Bool := hbmOk s (fqEntry s f).desc 64 && s.epochWaits (rdLe (fqDesc s f) 6 2)

theorem fqWaits_iff (s : State) (f : Nat) :
    fqWaits s f = true ↔ hbmOk s (fqEntry s f).desc 64 = true ∧ s.epochWaits (rdLe (fqDesc s f) 6 2) = true :=
  Bool.and_eq_true_iff

/-- The line with an uncorrectable error among those that an entry of a kind reads. -/
def fqReadsWrong (s : State) (f kind : Nat) : Option Nat :=
  s.wrongLine (((fqEntry s f).desc, 64) ::
    (fRanges kind (fqDesc s f)).filter (fun q => q.1 != fDst (fqDesc s f) && q.1 != fResult (fqDesc s f)))

/-! ### The course of the entry (R120, R136, R221, R250) -/

/-- What an entry does, from its descriptor. -/
abbrev FuseeBody := State → List Byte → State

/-- The course of an entry whose descriptor is refused, has an error in what it reads, or runs. -/
def fuseeRun (f kind : Nat) (body : FuseeBody) (s : State) : Host.Outcome State Fault Refusal :=
  (fReason s kind (fqDesc s f)).elim
    ((fqReadsWrong s f kind).elim (.next (fqFinish (body s (fqDesc s f)) f (rdLe (fqDesc s f) 0x30 4))) (fun a => .next (s.eccFault a)))
    (fun r => .next (fqRefuse s f kind r))

/-- The course of an entry that was read without an error. -/
def fuseeCourse (f kind : Nat) (body : FuseeBody) (s : State) : Host.Outcome State Fault Refusal :=
  if !unlistedFusee (fqEntry s f).kind && decide ((fqEntry s f).kind ≠ kind) then .next s
  else if fqWaits s f then .next (s.holdHead (48 + f))
  else if unlistedFusee (fqEntry s f).kind || decide ((fqEntry s f).rsv ≠ 0) then .next (fqRefuse s f (fqEntry s f).kind 1)
  else if !hbmOk s (fqEntry s f).desc 64 then .next (fqRefuse s f kind 2)
  else fuseeRun f kind body s

theorem fuseeCommand_eq (f kind : Nat) (body : FuseeBody) (s : State) : fuseeCommand f kind body s =
    if fqReady s f then (fqWrong s f).elim (fuseeCourse f kind body s) (fun a => .next (s.eccFault a)) else .next s := by
  unfold fuseeCommand fuseeCourse fuseeRun fqWrong fqReadsWrong
  dsimp only
  refine if_congr Iff.rfl ?_ rfl
  cases s.wrongLine [((fqSpec s f).base + (fqNext s f).toNat % 1024 * 16, 16)] with
  | some a => rfl
  | none =>
    refine if_congr Iff.rfl rfl (if_congr Iff.rfl rfl (if_congr Iff.rfl rfl (if_congr Iff.rfl rfl ?_)))
    unfold fqDesc fqEntry
    cases fReason s kind (s.readBytes (s.ringEntry (fqSpec s f).base (fqNext s f).toNat).desc 64) with
    | some r => rfl
    | none =>
      dsimp only [Option.elim]
      cases s.wrongLine (_ :: _) with
      | some a => rfl
      | none => rfl

section
variable {s : State} {f kind a r : Nat} {body : FuseeBody}

theorem fuseeCommand_idle (h : ¬ fqReady s f = true) : fuseeCommand f kind body s = .next s :=
  (fuseeCommand_eq f kind body s).trans (if_neg h)

section
variable (h : fqReady s f = true)
include h

theorem fuseeCommand_wrong (hw : fqWrong s f = some a) : fuseeCommand f kind body s = .next (s.eccFault a) := by
  rw [fuseeCommand_eq, if_pos h, hw, Option.elim_some]

theorem fuseeCommand_course (hw : fqWrong s f = none) : fuseeCommand f kind body s = fuseeCourse f kind body s := by
  rw [fuseeCommand_eq, if_pos h, hw, Option.elim_none]

end

/-- An entry of another listed kind is left to that kind's command. -/
theorem fuseeCourse_foreign (hl : unlistedFusee (fqEntry s f).kind = false) (hk : (fqEntry s f).kind ≠ kind) :
    fuseeCourse f kind body s = .next s := if_pos (by rw [hl, decide_eq_true hk]; rfl)

section
variable (hk : (fqEntry s f).kind = kind ∨ unlistedFusee (fqEntry s f).kind = true)
include hk

/-- An entry that a command takes is of its own kind or of none. -/
theorem fqEntry_taken : ¬ (!unlistedFusee (fqEntry s f).kind && decide ((fqEntry s f).kind ≠ kind)) = true := by
  rw [Bool.and_eq_true, Bool.not_eq_true', decide_eq_true_eq]
  rintro ⟨hl, hne⟩
  exact hk.elim hne (ne_true_of_eq_false hl)

theorem fuseeCourse_waits (hw : fqWaits s f = true) : fuseeCourse f kind body s = .next (s.holdHead (48 + f)) :=
  (if_neg (fqEntry_taken hk)).trans (if_pos hw)

variable (hw : ¬ fqWaits s f = true)
include hw

theorem fuseeCourse_illFormed (hbad : unlistedFusee (fqEntry s f).kind = true ∨ (fqEntry s f).rsv ≠ 0) :
    fuseeCourse f kind body s = .next (fqRefuse s f (fqEntry s f).kind 1) :=
  (if_neg (fqEntry_taken hk)).trans ((if_neg hw).trans (if_pos (by rwa [Bool.or_eq_true, decide_eq_true_eq])))

/-- A well-formed entry of the command's own kind goes on to its descriptor. -/
theorem fuseeCourse_formed (hl : unlistedFusee (fqEntry s f).kind = false) (hr : (fqEntry s f).rsv = 0) : fuseeCourse f kind body s =
    if !hbmOk s (fqEntry s f).desc 64 then .next (fqRefuse s f kind 2) else fuseeRun f kind body s :=
  (if_neg (fqEntry_taken hk)).trans ((if_neg hw).trans (if_neg (by simp [hl, hr])))

end

section
variable (hk : (fqEntry s f).kind = kind) (hl : unlistedFusee kind = false) (hw : ¬ fqWaits s f = true) (hr : (fqEntry s f).rsv = 0)
include hk hl hw hr

theorem fuseeCourse_unreadable (hh : hbmOk s (fqEntry s f).desc 64 = false) :
    fuseeCourse f kind body s = .next (fqRefuse s f kind 2) :=
  (fuseeCourse_formed (.inl hk) hw (hk ▸ hl) hr).trans (if_pos (by rw [hh]; rfl))

theorem fuseeCourse_readable (hh : hbmOk s (fqEntry s f).desc 64 = true) : fuseeCourse f kind body s = fuseeRun f kind body s :=
  (fuseeCourse_formed (.inl hk) hw (hk ▸ hl) hr).trans (if_neg (by rw [hh]; exact Bool.noConfusion))

end

theorem fuseeRun_refused (hr : fReason s kind (fqDesc s f) = some r) : fuseeRun f kind body s = .next (fqRefuse s f kind r) := by
  rw [fuseeRun, hr, Option.elim_some]

theorem fuseeRun_wrong (hr : fReason s kind (fqDesc s f) = none) (ha : fqReadsWrong s f kind = some a) :
    fuseeRun f kind body s = .next (s.eccFault a) := by
  rw [fuseeRun, hr, Option.elim_none, ha, Option.elim_some]

theorem fuseeRun_body (hr : fReason s kind (fqDesc s f) = none) (ha : fqReadsWrong s f kind = none) :
    fuseeRun f kind body s = .next (fqFinish (body s (fqDesc s f)) f (rdLe (fqDesc s f) 0x30 4)) := by
  rw [fuseeRun, hr, Option.elim_none, ha, Option.elim_none]

/-- A command carries out an entry of its own that may run. -/
theorem fuseeCommand_runs {b : List Byte} (hd : FuseeRuns s f kind b) (hl : unlistedFusee kind = false) :
    fuseeCommand f kind body s = .next (fqFinish (body s b) f (rdLe b 0x30 4)) := by
  obtain ⟨hqueues, hf, hrung, hk, hrsv, hh, rfl, hepoch, hreason, hentry, hreads⟩ := hd
  have hw : ¬ fqWaits s f = true := fun h => Bool.false_ne_true (hepoch.symm.trans ((fqWaits_iff s f).mp h).2)
  rw [fuseeCommand_course ((fqReady_iff s f).mpr ⟨hqueues, hf, hrung⟩) hentry, fuseeCourse_readable hk hl hw hrsv hh]
  exact fuseeRun_body hreason hreads

end

/-- The commands of the Fusees take the kinds of Table 9.4. -/
theorem exec_fusee {s : State} {f kind : Nat} {c : Instr} (hc : (kind, c) ∈ [(1, Instr.efadd f), (2, .ortho f), (3, .resid f), (4, .pack f),
      (5, .check f), (6, .foldDigest f)]) : unlistedFusee kind = false ∧ ∃ body, exec c s = fuseeCommand f kind body s := by
  simp only [List.mem_cons, Prod.mk.injEq, List.not_mem_nil, or_false] at hc
  obtain ⟨rfl, rfl⟩ | ⟨rfl, rfl⟩ | ⟨rfl, rfl⟩ | ⟨rfl, rfl⟩ | ⟨rfl, rfl⟩ | ⟨rfl, rfl⟩ := hc
  all_goals
    dsimp only [exec, execEfadd, execOrtho, execResid, execPack, execCheck, execFoldDigest]
    exact ⟨rfl, _, rfl⟩

end Sys2Proof.Machine

open Sys2Proof Sys2Proof.Machine

/-- Settles O40: the entries that run by the course of an entry that passes its checks, and every other entry by where it leaves it. -/
theorem fuseesRun : Obligations.FuseesRun := by
  refine ⟨fun s f b => ?runs, fun s f kind c hc => ?heads⟩
  case runs =>
    intro n x e codes message payload rc ends
    refine ⟨?efadd, ?ortho, ?resid, ?pack, ?check, ?foldDigest⟩
    all_goals
      dsimp only [ends, exec, execEfadd, execOrtho, execResid, execPack, execCheck, execFoldDigest]
      exact fun h => fuseeCommand_runs h rfl
  case heads =>
    intro en b ready line waits
    obtain ⟨hlist, body, hexec⟩ := exec_fusee (s := s) hc
    have hready : fqReady s f = true ↔ ready := fqReady_iff s f
    have hwaits : fqWaits s f = true ↔ waits := fqWaits_iff s f
    have hunlisted : unlistedFusee en.kind = true ↔ en.kind = 0 ∨ 6 < en.kind := unlistedFusee_iff en.kind
    rw [hexec]
    refine ⟨fun h => fuseeCommand_idle (mt hready.mp h), fun a h => fuseeCommand_wrong (hready.mpr h), fun h hl => ?_, fun t r => rfl,
      holdHead_first, holdHead_again⟩
    rw [fuseeCommand_course (hready.mpr h) hl]
    refine ⟨fun hk hlo hhi => ?foreign, fun hk => ?taken, fun hk hw hr => ?own⟩
    case foreign =>
      exact fuseeCourse_foreign (Bool.eq_false_iff.mpr (mt hunlisted.mp (by omega))) hk
    case taken =>
      have htaken := hk.imp_right hunlisted.mpr
      refine ⟨fun hw => fuseeCourse_waits htaken (hwaits.mpr hw), fun hw hbad => ?_⟩
      exact fuseeCourse_illFormed htaken (mt hwaits.mp hw) (hbad.imp_left (fun hne => hunlisted.mpr (hk.resolve_left hne)))
    case own =>
      have hread := fuseeCourse_readable (body := body) hk hlist (mt hwaits.mp hw) hr
      exact ⟨fuseeCourse_unreadable hk hlist (mt hwaits.mp hw) hr, fun r hh hwhy => (hread hh).trans (fuseeRun_refused hwhy),
        fun a hh hwhy ha => (hread hh).trans (fuseeRun_wrong hwhy ha)⟩
end

section
/-! SUPPORT. The anchor's judgement of contributions (09, 9.6 and 9.7; R136, R227, R228, R231): what the inbox gives, each way that a
contribution is judged, the deadline of a round, and the statement. -/

namespace Sys2Proof.Machine

/-! ### The inbox -/

/-- Is a message of a kind, from a site? -/
def msgIs (site kind : Nat) (m : InMsg) : Bool := m.site == site && dhKind m.hdr == kind

theorem inboxTake_iff {s s1 : State} {site kind : Nat} {m : InMsg} : s.inboxTake site kind = some (m, s1) ↔
    s.outer.inbox.find? (msgIs site kind) = some m ∧
      s.outerMod (fun o => { o with inbox := o.inbox.eraseP (msgIs site kind) }) = s1 := by
  refine Option.map_eq_some_iff.trans ⟨?_, fun ⟨hm, hs⟩ => ⟨m, hm, congrArg _ hs⟩⟩
  rintro ⟨x, hx, he⟩
  obtain ⟨rfl, hs⟩ := Prod.mk.inj he
  exact ⟨hx, hs⟩

section
variable {s s1 : State} {site kind : Nat} {m : InMsg} (h : s.inboxTake site kind = some (m, s1))
include h

theorem inboxTake_state : s.outerMod (fun o => { o with inbox := o.inbox.eraseP (msgIs site kind) }) = s1 := (inboxTake_iff.mp h).2

theorem inboxTake_mem : m ∈ s.outer.inbox := List.mem_of_find?_eq_some (inboxTake_iff.mp h).1

theorem inboxTake_msgIs : msgIs site kind m = true := List.find?_some (inboxTake_iff.mp h).1

theorem inboxTake_msg : m.site = site ∧ dhKind m.hdr = kind := by
  have hm := inboxTake_msgIs h
  rwa [msgIs, Bool.and_eq_true, beq_iff_eq, beq_iff_eq] at hm

theorem inboxTake_length : s1.outer.inbox.length + 1 = s.outer.inbox.length := by
  have hpos : 0 < s.outer.inbox.length := List.length_pos_of_mem (inboxTake_mem h)
  have hlen : s1.outer.inbox.length = s.outer.inbox.length - 1 := by
    rw [← inboxTake_state h]
    exact List.length_eraseP_of_mem (inboxTake_mem h) (inboxTake_msgIs h)
  omega

end

/-! ### CONTRIB_MESSAGE (R227, R228, R231) -/

/-- The line with an uncorrectable error in a contribution that lies in its slot. -/
def contribWrong (s : State) (m : InMsg) : Option Nat := if m.bytes = [] then s.wrongLine [(m.addr, dhLen m.hdr)] else none

/-- The anchor judges a contribution, and publishes its round once every site is judged. -/
def judgeAndPublish (s : State) (m : InMsg) : State :=
  if (s.judge m).allJudged (dhShard m.hdr) (dhRound m.hdr) then (s.judge m).publishRound (dhShard m.hdr) (dhRound m.hdr) else s.judge m

section
variable {s s1 : State} {site : Nat} {m : InMsg}

theorem exec_contribMessage_notAnchor (h : s.isAnchor = false) : exec (.contribMessage site) s = .next s := if_pos (by rw [h]; rfl)

theorem exec_contribMessage_none (h : s.inboxTake site 1 = none) : exec (.contribMessage site) s = .next s := by
  show execContribMessage site s = _
  unfold execContribMessage
  rw [h]
  exact ite_self _

theorem exec_contribMessage_taken (ha : s.isAnchor = true) (h : s.inboxTake site 1 = some (m, s1)) :
    exec (.contribMessage site) s = .next ((contribWrong s1 m).elim (judgeAndPublish s1 m) s1.eccFault) := by
  have hline : (if m.bytes.isEmpty then s1.wrongLine [(m.addr, dhLen m.hdr)] else none) = contribWrong s1 m :=
    if_congr List.isEmpty_iff rfl rfl
  show execContribMessage site s = _
  unfold execContribMessage
  rw [h]
  refine (if_neg (by rw [ha]; exact Bool.noConfusion)).trans ?_
  dsimp only
  rw [hline]
  cases contribWrong s1 m with
  | some a => rfl
  | none => rfl

end

/-! ### Judging (R227, R228, Table 9.7) -/

/-- A contribution is recorded as judged. -/
def contribSeen (s : State) (m : InMsg) : State :=
  s.outerMod (fun o => { o with judged := (dhShard m.hdr, dhRound m.hdr, m.site) :: o.judged })

/-- The contribution of the same site, shard and round that is kept already. -/
def contribHeld (s : State) (m : InMsg) : Option Cand :=
  s.outer.cands.find? (fun x => x.shard == dhShard m.hdr && x.round == dhRound m.hdr && x.site == m.site)

/-- What the anchor keeps of a contribution. -/
def candOf (s : State) (m : InMsg) : Cand :=
  { shard := dhShard m.hdr, round := dhRound m.hdr, site := m.site, base := dhBase m.hdr, stamp := dhStamp m.hdr,
    norm := rdLe (s.inMsgBytes m) 0x20 8, digest := foldDigest s (s.inMsgBytes m), addr := m.addr, len := (s.inMsgBytes m).length }

theorem later_iff (a b : Cand) : State.later a b = true ↔ b.stamp < a.stamp ∨ (b.stamp = a.stamp ∧ b.base < a.base) := by
  rw [State.later, Bool.or_eq_true, Bool.and_eq_true, decide_eq_true_eq, decide_eq_true_eq, beq_iff_eq, eq_comm (a := a.stamp)]

/-- A contribution that lies in its slot already stays there. -/
theorem slotTake_inPlace {m : InMsg} (s : State) (hm : m.bytes = []) : s.slotTake m = (s, m.addr) := by
  unfold State.slotTake
  rw [hm]
  split
  · exact if_pos rfl
  · rfl

section
variable {s : State} {m : InMsg}

theorem judge_rejected {why : Nat} (h : s.judgeReason m.site m.hdr (s.inMsgBytes m) = some why) : s.judge m =
    (contribSeen s m).rejectContrib m.site why (dhShard m.hdr) (dhRound m.hdr) (dhBase m.hdr) (dhStamp m.hdr) := by
  unfold State.judge
  dsimp only
  rw [h]
  rfl

section
variable (h : s.judgeReason m.site m.hdr (s.inMsgBytes m) = none)
include h

theorem judge_first (hheld : contribHeld s m = none) (hm : m.bytes = []) :
    s.judge m = (contribSeen s m).outerMod (fun o => { o with cands := candOf s m :: o.cands }) := by
  unfold contribHeld at hheld
  unfold State.judge
  dsimp only
  rw [h, hheld, slotTake_inPlace _ hm]
  rfl

/-- Against the contribution that is held, the one that counts is kept, and the other is a DUPLICATE. -/
theorem judge_second {old : Cand} (hheld : contribHeld s m = some old) : s.judge m =
    if State.later (candOf s m) old then
      State.rejectContrib (((contribSeen s m).slotTake m).1.outerMod (fun o => { o with
        cands := { candOf s m with addr := ((contribSeen s m).slotTake m).2 } :: o.cands.filter (· ≠ old) })) m.site 6 (dhShard m.hdr)
        (dhRound m.hdr) old.base old.stamp
    else (contribSeen s m).rejectContrib m.site 6 (dhShard m.hdr) (dhRound m.hdr) (dhBase m.hdr) (dhStamp m.hdr) := by
  unfold contribHeld at hheld
  unfold State.judge
  dsimp only
  rw [h, hheld]
  rfl

theorem judge_later {old : Cand} (hheld : contribHeld s m = some old) (hl : State.later (candOf s m) old = true) (hm : m.bytes = []) :
    s.judge m = State.rejectContrib ((contribSeen s m).outerMod (fun o => { o with cands := candOf s m :: o.cands.filter (· ≠ old) }))
      m.site 6 (dhShard m.hdr) (dhRound m.hdr) old.base old.stamp := by
  rw [judge_second h hheld, if_pos hl, slotTake_inPlace _ hm]
  rfl

end

theorem judgeReason_formBad {site : Nat} {hdr b : List Byte} (h : s.formBad site hdr b = true) : s.judgeReason site hdr b = some 1 :=
  if_pos h

theorem judgeReason_published {site : Nat} {hdr b : List Byte} (hf : s.formBad site hdr b = false)
    (h : (s.manifestOf (dhShard hdr) (dhRound hdr)).isSome = true) : s.judgeReason site hdr b = some 2 :=
  (if_neg (ne_true_of_eq_false hf)).trans (if_pos (by rw [h, Bool.or_true, Bool.true_or]))

end

/-! ### ROUND_DEADLINE (R231) -/

/-- Is a round whose CLOSE is at FT `c` due for publication at the anchor? -/
def roundDue (s : State) (round : Nat) (c : Int) : Bool :=
  s.isAnchor && !s.outer.closed.contains round && s.time.ft != ftUnset && decide (c + 1000000 * (s.odGet 0x7010 1 : Int) ≤ s.time.ft)

theorem roundDue_iff (s : State) (round : Nat) (c : Int) : roundDue s round c = true ↔
    s.isAnchor = true ∧ round ∉ s.outer.closed ∧ s.time.ft ≠ ftUnset ∧ c + 1000000 * (s.odGet 0x7010 1 : Int) ≤ s.time.ft := by
  simp only [roundDue, Bool.and_eq_true, Bool.not_eq_true', List.contains_eq_mem, decide_eq_false_iff_not, bne_iff_ne, decide_eq_true_eq,
    and_assoc]

/-- The anchor closes a round: one with a site missing is counted, and every kept shard published that may be. -/
def closeAtDeadline (s : State) (round : Nat) : State :=
  (List.foldl (fun a k => a.publishRound k round)
    (if (s.keptShards.map (·.1)).any (fun k => !s.allJudged k round) then s.bump 0x7010 2 else s) (s.keptShards.map (·.1))).outerMod
    (fun o => { o with closed := round :: o.closed })

section
variable {s : State} {round : Nat}

theorem exec_roundDeadline_noBeat (h : s.roundFt 3 round = none) : exec (.roundDeadline round) s = .next s := by
  show execRoundDeadline round s = _
  unfold execRoundDeadline
  rw [h]

theorem exec_roundDeadline_beat {c : Int} (h : s.roundFt 3 round = some c) :
    exec (.roundDeadline round) s = if roundDue s round c then .next (closeAtDeadline s round) else .next s := by
  show execRoundDeadline round s = _
  unfold execRoundDeadline
  rw [h]
  rfl

end

end Sys2Proof.Machine

open Sys2Proof Sys2Proof.Machine

/-- Settles O49: a contribution by the way it is taken and the way it is judged, and the deadline by whether the round is due. -/
theorem contributionsJudged : Obligations.ContributionsJudged := by
  refine ⟨fun s s1 site m => ⟨exec_contribMessage_notAnchor, exec_contribMessage_none, fun ha h => ?taken⟩,
    fun s s1 site kind m h => ?inbox, fun s m => ?judged, fun s round => ⟨exec_roundDeadline_noBeat, fun c h => ?deadline⟩⟩
  case taken =>
    intro shard r line
    have hexec := exec_contribMessage_taken ha h
    refine ⟨fun a hl => hexec.trans ?_, fun hl => hexec.trans ?_⟩
    all_goals
      rw [show contribWrong s1 m = _ from hl]
      rfl
  case inbox =>
    obtain ⟨hsite, hkind⟩ := inboxTake_msg h
    have hs1 := inboxTake_state h
    exact ⟨inboxTake_mem h, hsite, hkind, inboxTake_length h, hs1 ▸ rfl, hs1 ▸ rfl, hs1 ▸ rfl⟩
  case judged =>
    intro shard r b seen held
    refine ⟨fun why => judge_rejected, fun h hheld hm => ?_, fun old h hheld => ?_, judgeReason_formBad, judgeReason_published⟩
    · exact ⟨candOf s m, rfl, rfl, rfl, rfl, rfl, rfl, rfl, rfl, rfl, judge_first h hheld hm⟩
    · intro newer
      have hlater : State.later (candOf s m) old = true ↔ newer := later_iff (candOf s m) old
      refine ⟨fun hn => (judge_second h hheld).trans (if_neg (mt hlater.mp hn)), fun hn hm => ?_⟩
      exact ⟨candOf s m, rfl, rfl, rfl, rfl, judge_later h hheld (hlater.mpr hn) hm⟩
  case deadline =>
    intro due
    have hdue : roundDue s round c = true ↔ due := roundDue_iff s round c
    have hexec := exec_roundDeadline_beat h
    exact ⟨fun hd => hexec.trans (if_pos (hdue.mpr hd)), fun hd => hexec.trans (if_neg (mt hdue.mp hd))⟩
end

section
/-! SUPPORT. What a keeper does with the messages of the outer rounds (09, 9.5 to 9.11; R136, R226, R232, R234 to R237, R241): manifests,
requests, answers and rejection notices by the cases of each, and the statement. -/

namespace Sys2Proof.Machine

/-! ### A keeper without a message of the kind -/

section
variable {s : State} {site : Nat}

theorem exec_manifest_none (h : s.inboxTake site 2 = none) : exec (.manifest site) s = .next s := by
  show execManifest site s = _
  unfold execManifest
  rw [h]

theorem exec_baseReq_none (h : s.inboxTake site 3 = none) : exec (.baseReq site) s = .next s := by
  show execBaseReq site s = _
  unfold execBaseReq
  rw [h]

theorem exec_baseData_none (h : s.inboxTake site 4 = none) : exec (.baseData site) s = .next s := by
  show execBaseData site s = _
  unfold execBaseData
  rw [h]

theorem exec_rejectNotice_none (h : s.inboxTake site 5 = none) : exec (.rejectNotice site) s = .next s := by
  show execRejectNotice site s = _
  unfold execRejectNotice
  rw [h]

end

/-! ### MANIFEST (R232) -/

/-- The key of the slot that a message goes to. -/
def slotOfMsg (s : State) (m : InMsg) : Option Nat := (s.inPlace m.site m.hdr).bind (fun q => q.1)

/-- The slot of a message, where it still holds that message, is set. -/
def setOwnSlot (s : State) (m : InMsg) (v : KSlot → KSlot) : State :=
  (slotOfMsg s m).elim s (fun k => if (s.kslot k).hdr = m.hdr then s.setKslot k (v (s.kslot k)) else s)

/-- A message that goes to no slot has none to set. -/
theorem setOwnSlot_none {s : State} {m : InMsg} {v : KSlot → KSlot} (h : slotOfMsg s m = none) : setOwnSlot s m v = s := by
  rw [setOwnSlot, h, Option.elim_none]

theorem setOwnSlot_some {s : State} {m : InMsg} {v : KSlot → KSlot} {k : Nat} (h : slotOfMsg s m = some k) :
    setOwnSlot s m v = if (s.kslot k).hdr = m.hdr then s.setKslot k (v (s.kslot k)) else s := by
  rw [setOwnSlot, h, Option.elim_some]

/-- Setting the slot of a message changes the slots at most. -/
theorem setOwnSlot_cases (s : State) (m : InMsg) (v : KSlot → KSlot) :
    setOwnSlot s m v = s ∨ ∃ k x, setOwnSlot s m v = s.setKslot k x := by
  cases h : slotOfMsg s m with
  | none => exact .inl (setOwnSlot_none h)
  | some k =>
    by_cases hk : (s.kslot k).hdr = m.hdr
    · exact .inr ⟨k, _, (setOwnSlot_some h).trans (if_pos hk)⟩
    · exact .inl ((setOwnSlot_some h).trans (if_neg hk))

/-- The counter of refused manifests, OD 0x7500.04, is a U64. -/
theorem odRow_refusedManifests : (odRow 0x7500 4).map (·.size) = some 8 := by decide +kernel

/-- A refused manifest is counted, and nothing but its slot changes besides. -/
theorem refusedManifest_frame (s : State) (m : InMsg) :
    (setOwnSlot (s.bump 0x7500 4) m (fun _ => {})).odGet 0x7500 4 = (s.odGet 0x7500 4 + 1) % 2 ^ 64 ∧
    (setOwnSlot (s.bump 0x7500 4) m (fun _ => {})).outer.published = s.outer.published ∧
    (setOwnSlot (s.bump 0x7500 4) m (fun _ => {})).mem = s.mem ∧ (setOwnSlot (s.bump 0x7500 4) m (fun _ => {})).pinions = s.pinions ∧
    (setOwnSlot (s.bump 0x7500 4) m (fun _ => {})).syncs = s.syncs := by
  have hcount : (s.bump 0x7500 4).odGet 0x7500 4 = (s.odGet 0x7500 4 + 1) % 2 ^ 64 := odGet_bumpBy_same s 1 odRow_refusedManifests
  obtain h | ⟨k, x, h⟩ := setOwnSlot_cases (s.bump 0x7500 4) m (fun _ => {})
  all_goals
    rw [h]
    exact ⟨hcount, rfl, rfl, rfl, rfl⟩

section
variable {s s1 : State} {site : Nat} {m : InMsg} (h : s.inboxTake site 2 = some (m, s1))
include h

theorem exec_manifest_sound (hok : s1.manifestOk (s1.inMsgBytes m) = true) : exec (.manifest site) s =
    .next ((setOwnSlot (s1.takeManifest (s1.inMsgBytes m)) m (fun v => { v with checked := true })).seek (mnShard (s1.inMsgBytes m))) := by
  show execManifest site s = _
  unfold execManifest setOwnSlot slotOfMsg
  rw [h]
  refine (if_pos hok).trans ?_
  dsimp only
  rcases State.inPlace (s1.takeManifest (s1.inMsgBytes m)) m.site m.hdr with _ | ⟨_ | k, q⟩
  all_goals rfl

theorem exec_manifest_refused (hok : s1.manifestOk (s1.inMsgBytes m) = false) :
    exec (.manifest site) s = .next (setOwnSlot (s1.bump 0x7500 4) m (fun _ => {})) := by
  show execManifest site s = _
  unfold execManifest setOwnSlot slotOfMsg
  rw [h]
  refine (if_neg (ne_true_of_eq_false hok)).trans ?_
  dsimp only
  rcases State.inPlace (s1.bump 0x7500 4) m.site m.hdr with _ | ⟨_ | k, q⟩
  all_goals rfl

end

/-! ### BASE_REQ (R234, R241) -/

/-- The ranges that the answer to a request reads: for a base, the shards of its tensors and their momenta. -/
def answerReads (s : State) (b : List Byte) : List (Nat × Nat) :=
  if rdLe b 0 1 = 1 then (s.planTensors (rdLe b 4 4)).flatMap (fun t =>
    [(t.hdr, 64 + shBytes (s.shard t.hdr)), (t.mom, s.momLen t)]) else []

section
variable {s s1 : State} {site : Nat} {m : InMsg} (h : s.inboxTake site 3 = some (m, s1))
include h

theorem exec_baseReq_wrong {a : Nat} (hw : s1.wrongLine (answerReads s1 m.bytes) = some a) :
    exec (.baseReq site) s = .next (s1.eccFault a) := by
  unfold answerReads at hw
  show execBaseReq site s = _
  unfold execBaseReq
  rw [h]
  dsimp only
  rw [hw]

variable (hw : s1.wrongLine (answerReads s1 m.bytes) = none)
include hw

theorem exec_baseReq_answered {bytes : List Byte}
    (ha : answerOf s1 (rdLe m.bytes 0 1) (rdLe m.bytes 1 1) (rdLe m.bytes 4 4) (rdLe m.bytes 8 4) = some bytes) :
    exec (.baseReq site) s = .next (sendAnswer s1 site (rdLe m.bytes 4 4) (rdLe m.bytes 8 4) bytes) := by
  unfold answerReads at hw
  show execBaseReq site s = _
  unfold execBaseReq
  rw [h]
  dsimp only
  rw [hw, ha]

/-- A request for what is no longer held is answered with GONE, whose BASE and STAMP are open. -/
theorem exec_baseReq_gone (ha : answerOf s1 (rdLe m.bytes 0 1) (rdLe m.bytes 1 1) (rdLe m.bytes 4 4) (rdLe m.bytes 8 4) = none) :
    exec (.baseReq site) s = .next (State.sendNotice { s1 with free := s1.free + 2 } site (rdLe m.bytes 4 4) (rdLe m.bytes 8 4) 0
      (State.noticeBody (rdLe m.bytes 1 1) 8 (rdLe m.bytes 4 4) (rdLe m.bytes 8 4) (s1.draw 32).1.toNat
        ((s1.draw 32).2.draw 64).1.toNat)) := by
  unfold answerReads at hw
  show execBaseReq site s = _
  unfold execBaseReq
  rw [h]
  dsimp only
  rw [hw, ha]
  rfl

end

/-! ### BASE_DATA (R234, R237, R241, R242) -/

/-- Is an answer the base that a request asks for? -/
def answersBase (f : Fetch) (b : List Byte) : Bool := decide (f.req = 1) && rdLe b 0 4 == magicBase && rdLe b 8 4 == f.shard

/-- Is an answer a contribution, where a request asks for one? -/
def answersContrib (f : Fetch) (b : List Byte) : Bool := decide (f.req = 2) && rdLe b 0 4 == magicCtrb

/-- Is an answer a manifest, where a request asks for one? -/
def answersManifest (f : Fetch) (b : List Byte) : Bool := decide (f.req = 3) && rdLe b 0 4 == magicMnft

theorem answersBase_iff (f : Fetch) (b : List Byte) :
    answersBase f b = true ↔ f.req = 1 ∧ rdLe b 0 4 = magicBase ∧ rdLe b 8 4 = f.shard := by
  rw [answersBase, Bool.and_eq_true, Bool.and_eq_true, decide_eq_true_eq, beq_iff_eq, beq_iff_eq, and_assoc]

theorem answersContrib_iff (f : Fetch) (b : List Byte) : answersContrib f b = true ↔ f.req = 2 ∧ rdLe b 0 4 = magicCtrb := by
  rw [answersContrib, Bool.and_eq_true, decide_eq_true_eq, beq_iff_eq]

theorem answersManifest_iff (f : Fetch) (b : List Byte) : answersManifest f b = true ↔ f.req = 3 ∧ rdLe b 0 4 = magicMnft := by
  rw [answersManifest, Bool.and_eq_true, decide_eq_true_eq, beq_iff_eq]

/-- A fetched base is installed if it is right, and asked for again if it is not. -/
def baseTaken (s : State) (f : Fetch) (b : List Byte) : State :=
  if baseOk s f.shard (baseGroups b (rdLe b 6 2) 64) then (installBase s.nextWanted f b (baseGroups b (rdLe b 6 2) 64)).seekAll
  else s.sendReq f

/-- Does a manifest list a contribution of the site that was asked for, with the digest of the bytes? -/
def listsContrib (s : State) (p : Published) (f : Fetch) (b : List Byte) : Bool :=
  (mnContribs p.bytes).any (fun e => rdLe e 0 1 == f.origin && slice e 32 16 == foldDigest s b)

/-- A fetched contribution is kept with its manifest if it is the one listed there, and asked for again if it is not. -/
def contribTaken (s : State) (f : Fetch) (b : List Byte) : State :=
  (s.manifestOf f.shard f.round).elim s.nextWanted (fun p =>
    if listsContrib s p f b then (s.nextWanted.keepManifest { p with contribs := (f.origin, b) :: p.contribs }).seekAll else s.sendReq f)

/-- A fetched manifest is adopted if it is right, and counted if it is not. -/
def manifestTaken (s : State) (f : Fetch) (b : List Byte) : State :=
  if s.manifestOk b && mnShard b == f.shard then (s.nextWanted.takeManifest b).seekAll else s.nextWanted.bump 0x7500 4

/-- What an answer to a request does, by what it is. -/
def answerTaken (s : State) (f : Fetch) (b : List Byte) : State :=
  if answersBase f b then baseTaken s f b
  else if answersContrib f b then contribTaken s f b
  else if answersManifest f b then manifestTaken s f b
  else s

section
variable {s s1 : State} {site : Nat} {m : InMsg} (h : s.inboxTake site 4 = some (m, s1))
include h

theorem exec_baseData_unasked (hf : s1.outer.fetch = none) : exec (.baseData site) s = .next s1 := by
  show execBaseData site s = _
  unfold execBaseData
  rw [h]
  dsimp only
  rw [hf]

theorem exec_baseData_fetching {f : Fetch} (hf : s1.outer.fetch = some f) : exec (.baseData site) s =
    .next (if f.asked = site ∧ dhShard m.hdr = f.shard then answerTaken s1 f (s1.inMsgBytes m) else s1) := by
  show execBaseData site s = _
  unfold execBaseData answerTaken baseTaken contribTaken listsContrib manifestTaken
  rw [h]
  dsimp only
  rw [hf]
  by_cases ha : f.asked = site ∧ dhShard m.hdr = f.shard
  · rw [if_pos ha]
    refine (if_neg (by simp [ha])).trans ?_
    simp only [apply_ite Host.Outcome.next]
    refine if_congr Iff.rfl rfl (if_congr Iff.rfl ?_ rfl)
    cases s1.manifestOf f.shard f.round with
    | none => rfl
    | some p => exact (apply_ite Host.Outcome.next _ _ _).symm
  · rw [if_neg ha]
    refine if_pos ?_
    simpa [imp_iff_not_or] using ha

end

section
variable {s : State} {f : Fetch} {b : List Byte}

theorem answerTaken_base (hb : f.req = 1 ∧ rdLe b 0 4 = magicBase ∧ rdLe b 8 4 = f.shard) : answerTaken s f b = baseTaken s f b :=
  if_pos ((answersBase_iff f b).mpr hb)

/-- An answer to a request of another REQ is no base. -/
theorem answerTaken_notBase (hb : ¬ (f.req = 1 ∧ rdLe b 0 4 = magicBase ∧ rdLe b 8 4 = f.shard)) : answerTaken s f b =
    if answersContrib f b then contribTaken s f b else if answersManifest f b then manifestTaken s f b else s :=
  if_neg (mt (answersBase_iff f b).mp hb)

theorem answerTaken_contrib (hc : f.req = 2 ∧ rdLe b 0 4 = magicCtrb) : answerTaken s f b = contribTaken s f b :=
  (answerTaken_notBase (fun hb => by omega)).trans (if_pos ((answersContrib_iff f b).mpr hc))

theorem answerTaken_manifest (hm : f.req = 3 ∧ rdLe b 0 4 = magicMnft) : answerTaken s f b = manifestTaken s f b :=
  (answerTaken_notBase (fun hb => by omega)).trans
    ((if_neg (mt (answersContrib_iff f b).mp (fun hc => by omega))).trans (if_pos ((answersManifest_iff f b).mpr hm)))

theorem answerTaken_other (hb : ¬ (f.req = 1 ∧ rdLe b 0 4 = magicBase ∧ rdLe b 8 4 = f.shard))
    (hc : ¬ (f.req = 2 ∧ rdLe b 0 4 = magicCtrb)) (hm : ¬ (f.req = 3 ∧ rdLe b 0 4 = magicMnft)) : answerTaken s f b = s :=
  (answerTaken_notBase hb).trans ((if_neg (mt (answersContrib_iff f b).mp hc)).trans (if_neg (mt (answersManifest_iff f b).mp hm)))

theorem contribTaken_unknown (hp : s.manifestOf f.shard f.round = none) : contribTaken s f b = s.nextWanted := by
  rw [contribTaken, hp, Option.elim_none]

theorem contribTaken_known {p : Published} (hp : s.manifestOf f.shard f.round = some p) : contribTaken s f b =
    if listsContrib s p f b then (s.nextWanted.keepManifest { p with contribs := (f.origin, b) :: p.contribs }).seekAll
    else s.sendReq f := by
  rw [contribTaken, hp, Option.elim_some]

theorem manifestTaken_right (hok : s.manifestOk b = true) (hs : mnShard b = f.shard) :
    manifestTaken s f b = (s.nextWanted.takeManifest b).seekAll := if_pos (by rw [hok, hs, beq_self_eq_true]; rfl)

theorem manifestTaken_wrong (h : s.manifestOk b = false ∨ mnShard b ≠ f.shard) :
    manifestTaken s f b = s.nextWanted.bump 0x7500 4 := by
  refine if_neg ?_
  rw [Bool.and_eq_true, beq_iff_eq]
  rintro ⟨hok, hs⟩
  exact h.elim (ne_false_of_eq_true hok) (fun hne => hne hs)

end

/-! ### REJECT_NOTICE (R236) -/

/-- The outstanding request ends where a site answers it for its shard with a notice. -/
def fetchEnded (s : State) (site shard : Nat) : State :=
  s.outer.fetch.elim s (fun f => if f.asked = site ∧ f.shard = shard then s.nextWanted else s)

/-- The seal that a notice for the own site names is resolved. -/
def sealResolved (s : State) (b : List Byte) : State :=
  s.setSeals (rdLe b 4 4) ((s.sealsOf (rdLe b 4 4)).filter (fun q => q.1 != rdLe b 8 4))

/-- What a rejection of the own contribution does, by its reason. -/
def ownRejected (s : State) (reason shard : Nat) : State :=
  if reason = 4 ∨ reason = 5 then (s.dropDelta shard).bump 0x7300 5
  else if reason = 3 then (s.bump 0x7300 5).fetchBase shard false true
  else s

section
variable {s s1 : State} {site : Nat} {m : InMsg} (h : s.inboxTake site 5 = some (m, s1))
include h

theorem exec_rejectNotice_gone (hr : rdLe m.bytes 1 1 = 8) : exec (.rejectNotice site) s =
    .next ((fetchEnded (s1.bump 0x7300 6) site (rdLe m.bytes 4 4)).fetchBase (rdLe m.bytes 4 4) false false) := by
  show execRejectNotice site s = _
  unfold execRejectNotice fetchEnded
  rw [h]
  refine (if_pos hr).trans ?_
  dsimp only
  cases (s1.bump 0x7300 6).outer.fetch with
  | none => rfl
  | some f =>
    have hended : (decide (f.asked = site) && f.shard == rdLe m.bytes 4 4) = true ↔ f.asked = site ∧ f.shard = rdLe m.bytes 4 4 := by
      rw [Bool.and_eq_true, decide_eq_true_eq, beq_iff_eq]
    exact congrArg (fun t => Host.Outcome.next (State.fetchBase t (rdLe m.bytes 4 4) false false)) (if_congr hended rfl rfl)

section
variable (hr : rdLe m.bytes 1 1 ≠ 8)
include hr

theorem exec_rejectNotice_foreign (ho : rdLe m.bytes 0 1 ≠ (s1.bump 0x7300 6).ownSite) :
    exec (.rejectNotice site) s = .next (s1.bump 0x7300 6) := by
  show execRejectNotice site s = _
  unfold execRejectNotice
  rw [h]
  exact (if_neg hr).trans (if_pos ho)

theorem exec_rejectNotice_own (ho : rdLe m.bytes 0 1 = (s1.bump 0x7300 6).ownSite) : exec (.rejectNotice site) s =
    .next (ownRejected (sealResolved (s1.bump 0x7300 6) m.bytes) (rdLe m.bytes 1 1) (rdLe m.bytes 4 4)) := by
  show execRejectNotice site s = _
  unfold execRejectNotice ownRejected
  rw [h]
  refine (if_neg hr).trans ((if_neg (not_not_intro ho)).trans ?_)
  rw [apply_ite Host.Outcome.next, apply_ite Host.Outcome.next]
  exact if_congr (by rw [Bool.or_eq_true, decide_eq_true_eq, decide_eq_true_eq]) rfl rfl

end

end

theorem fetchEnded_other {s : State} {site shard : Nat} (h : ∀ f, s.outer.fetch = some f → f.asked ≠ site ∨ f.shard ≠ shard) :
    fetchEnded s site shard = s := by
  unfold fetchEnded
  cases hf : s.outer.fetch with
  | none => rfl
  | some f => exact if_neg (not_and_or.mpr (h f hf))

theorem fetchEnded_asked {s : State} {site shard : Nat} {f : Fetch} (hf : s.outer.fetch = some f) (ha : f.asked = site)
    (hs : f.shard = shard) : fetchEnded s site shard = s.nextWanted := by
  rw [fetchEnded, hf, Option.elim_some, if_pos ⟨ha, hs⟩]

section
variable {s : State} {reason shard : Nat}

theorem ownRejected_dropped (h : reason = 4 ∨ reason = 5) : ownRejected s reason shard = (s.dropDelta shard).bump 0x7300 5 := if_pos h

theorem ownRejected_stale (h : reason = 3) : ownRejected s reason shard = (s.bump 0x7300 5).fetchBase shard false true :=
  (if_neg (by omega)).trans (if_pos h)

theorem ownRejected_resolved (h4 : reason ≠ 4) (h5 : reason ≠ 5) (h3 : reason ≠ 3) : ownRejected s reason shard = s :=
  (if_neg (by omega)).trans (if_neg h3)

end

/-! ### FETCH_RETRY (R226) -/

section
variable {s : State} {req : Nat}

theorem exec_fetchRetry_idle (h : s.outer.fetch = none) : exec (.fetchRetry req) s = .next s := by
  show execFetchRetry req s = _
  unfold execFetchRetry
  rw [h]

theorem exec_fetchRetry_fetching {f : Fetch} (h : s.outer.fetch = some f) :
    exec (.fetchRetry req) s = .next (if f.req = req then s.sendReq f else s) := by
  show execFetchRetry req s = _
  unfold execFetchRetry
  rw [h]

end

end Sys2Proof.Machine

open Sys2Proof Sys2Proof.Machine

/-- Settles O50: each message by what it is and whether it is right, and the retry by the request that is outstanding. -/
theorem keepersExchange : Obligations.KeepersExchange := by
  refine ⟨fun s site => ⟨exec_manifest_none, exec_baseReq_none, exec_baseData_none, exec_rejectNotice_none⟩,
    fun s s1 site m h => ?manifest, fun s s1 site m h => ⟨fun a => exec_baseReq_wrong h, fun bytes hw => exec_baseReq_answered h hw,
      fun hw ha => ⟨_, _, exec_baseReq_gone h hw ha⟩⟩,
    fun s s1 site m h => ⟨exec_baseData_unasked h, fun f hf => ?baseData⟩, fun s s1 site m h => ?notice,
    fun s req => ⟨exec_fetchRetry_idle, fun f hf => ?retry⟩⟩
  case manifest =>
    intro b u slot
    refine ⟨fun hok hs => ?_, fun hok k hs => ⟨fun hk => ?_, fun hk => ?_⟩, fun hok => ?_⟩
    · rw [exec_manifest_sound h hok, setOwnSlot_none hs]
    · rw [exec_manifest_sound h hok, setOwnSlot_some hs, if_pos hk]
    · rw [exec_manifest_sound h hok, setOwnSlot_some hs, if_neg hk]
    · obtain ⟨hcount, hpublished, hmem, hpinions, hsyncs⟩ := refusedManifest_frame s1 m
      obtain rfl := inboxTake_state h
      exact ⟨_, exec_manifest_refused h hok, hcount, hpublished, hmem, hpinions, hsyncs⟩
  case baseData =>
    intro b done gs asked isBase isContrib isManifest
    have hexec := exec_baseData_fetching h hf
    have hasked (ha : asked) : exec (.baseData site) s = .next (answerTaken s1 f b) := hexec.trans (congrArg _ (if_pos ha))
    refine ⟨fun ha => hexec.trans (congrArg _ (if_neg ha)), fun ha hb => ?base, fun ha hm => ?fetched, fun ha hc => ?contrib,
      fun ha hb hc hm => ?other⟩
    case base =>
      rw [hasked ha, answerTaken_base hb]
      exact ⟨fun hok => congrArg _ (if_pos hok), fun hok => congrArg _ (if_neg (ne_true_of_eq_false hok))⟩
    case fetched =>
      rw [hasked ha, answerTaken_manifest hm]
      exact ⟨fun hok hs => congrArg _ (manifestTaken_right hok hs), fun hbad => congrArg _ (manifestTaken_wrong hbad)⟩
    case contrib =>
      rw [hasked ha, answerTaken_contrib hc]
      refine ⟨fun hp => congrArg _ (contribTaken_unknown hp), fun p hp => ?_⟩
      rw [contribTaken_known hp]
      exact ⟨fun hgood => congrArg _ (if_pos hgood), fun hbad => congrArg _ (if_neg (ne_true_of_eq_false hbad))⟩
    case other =>
      rw [hasked ha, answerTaken_other hb hc hm]
  case notice =>
    intro b shard reason counted resolved
    have hown (hr : reason ≠ 8) (ho : rdLe b 0 1 = counted.ownSite) :
        exec (.rejectNotice site) s = .next (ownRejected resolved reason shard) := exec_rejectNotice_own h hr ho
    refine ⟨exec_rejectNotice_foreign h, fun hr ho => ?_, fun hr ho => ?_, fun hr ho => ?_, fun hr hf => ?_, fun f hr hf ha hs => ?_⟩
    · rw [hown (by omega) ho, ownRejected_dropped hr]
    · rw [hown (by omega) ho, ownRejected_stale hr]
    · simp only [List.mem_cons, List.not_mem_nil, or_false, not_or] at hr
      obtain ⟨h3, h4, h5, h8⟩ := hr
      rw [hown h8 ho, ownRejected_resolved h4 h5 h3]
    · rw [exec_rejectNotice_gone h hr, fetchEnded_other hf]
    · rw [exec_rejectNotice_gone h hr, fetchEnded_asked hf ha hs]
  case retry =>
    have hexec := exec_fetchRetry_fetching (req := req) hf
    exact ⟨fun hr => hexec.trans (congrArg _ (if_pos hr)), fun hr => hexec.trans (congrArg _ (if_neg hr))⟩
end

section
/-! SUPPORT. Stream descriptors where no port accepts them (R262): the answer outside RUNNING and HELD, what a refused descriptor leaves,
and the statement. -/

namespace Sys2Proof.Machine

theorem streamAnswer_state {s : State} (port : Nat) (d : BitVec 256) (hr : s.modState ≠ stRunning) (hh : s.modState ≠ stHeld) :
    streamAnswer s port d = .state := if_pos (by simp [hr, hh])

/-- A refused descriptor is answered, and nothing is delivered. -/
theorem exec_streamDescriptor_refused {s : State} {port : Nat} {d : BitVec 256} (h : streamAnswer s port d ≠ .accepted) :
    exec (.streamDescriptor port d) s = .next (s.emit (.issueStatus (streamAnswer s port d))) := if_neg h

end Sys2Proof.Machine

open Sys2Proof Sys2Proof.Machine

/-- Settles O12: the answer is decided before anything is delivered, and acceptance asks for the state first. -/
theorem issuePortsAcceptOnlyRunningOrHeld : Obligations.IssuePortsAcceptOnlyRunningOrHeld := by
  refine fun s port d => ⟨fun hr hh => ?_, fun h => ((streamAnswer_accepted_iff s port d).mp h).1, exec_streamDescriptor_refused⟩
  have hans := streamAnswer_state port d hr hh
  rw [exec_streamDescriptor_refused (by rw [hans]; decide), hans]
end

section
/-! SUPPORT. Frames that stand before the Crown and the sessions they belong to (11.1 and 11.4; R260, R263, R274 to R278, R281): what
the Crown takes and what waits, OPEN and PROVE by their cases, the end of a session, the timers, and the statement. -/

namespace Sys2Proof.Machine

/-! ### A frame before the Crown (R260) -/

/-- A frame that the Crown cannot take yet: a datagram is put aside, a record stays in the mailbox. -/
def frameWaits (s : State) (src : FrameSrc) (f : List Byte) : State :=
  match src with
  | .field a q _ _ => s.waitFrame a q f
  | .mailbox => s

theorem takeField_idle {s : State} (hw : s.crown.waiting = []) : s.takeField = none := by
  unfold State.takeField
  rw [hw]

/-- A request at the mailbox's TAIL is not skipped. -/
theorem mbSkip_request {s : State} {f : List Byte} {next : Nat} (hr : s.mbRecord = some (f, next)) (hf : frameForm f = true) (n : Nat) :
    State.mbSkip (n + 1) s = s := by
  have hring : ¬ (decide (s.mbTail = leNat (s.mbRead 0 4) % mbArea) ||
      decide (mbArea < s.mbTail + 4 + leNat (s.mbRead (0x40 + s.mbTail) 4))) = true := by
    intro hno
    unfold State.mbRecord at hr
    dsimp only at hr
    rw [if_pos hno] at hr
    cases hr
  obtain ⟨hmore, hfits⟩ : ¬ s.mbTail = leNat (s.mbRead 0 4) % mbArea ∧
      ¬ mbArea < s.mbTail + 4 + leNat (s.mbRead (0x40 + s.mbTail) 4) := by simpa using hring
  have hmark : leNat (s.mbRead (0x40 + s.mbTail) 4) ≠ 0xFFFFFFFF := by
    unfold mbArea at hfits
    omega
  unfold State.mbSkip
  rw [if_neg hmore, if_neg hmark, hr]
  exact if_pos hf

/-- A frame that stands before the Crown is served by the command of its row, or waits. -/
theorem arrives_copServe {s t : State} {src : FrameSrc} {p : Peer} {f : List Byte} (h : Arrives s src p f t)
    {row : State → List Byte → Bool} (hr : row s f = true) : s.copServe src row = (t.copFrameDo p f).getD (frameWaits s src f) := by
  cases hu : t.copFrameDo p f with
  | some u => exact arrives_serves h row hr hu
  | none =>
    obtain ⟨hserves, hw, hf, hsrc⟩ := h
    unfold State.copServe
    cases src with
    | field a q d g =>
      obtain ⟨rfl, rfl, rfl, rfl, hreleased⟩ := hsrc
      have hup : s.crownUp = true := (Bool.and_eq_true_iff.mp hserves).1
      have hhead : headForm g = true := (Bool.and_eq_true_iff.mp hf).1
      have hgroup : 7 ∈ s.plat.released := by simpa using hreleased
      simp [hup, hgroup, hhead, hf, hr, crownRest_idle hw, hserves, hw, hu, frameWaits]
    | mailbox =>
      obtain ⟨rfl, n, hrec, rfl⟩ := hsrc
      simp [hserves, takeField_idle hw, mbSkip_request hrec hf, hrec, hr, hu, frameWaits]

section
variable {c : Instr} {row : State → List Byte → Bool} {s t : State} {src : FrameSrc} {p : Peer} {f : List Byte}

/-- A command that carries a frame of its row. -/
theorem exec_frame (he : exec c s = .next (s.copServe src row)) (h : Arrives s src p f t) (hr : row s f = true) :
    exec c s = .next ((t.copFrameDo p f).getD (frameWaits s src f)) := he.trans (congrArg _ (arrives_copServe h hr))

theorem exec_frame_some {u : State} (he : exec c s = .next (s.copServe src row)) (h : Arrives s src p f t) (hr : row s f = true)
    (hu : t.copFrameDo p f = some u) : exec c s = .next u := by
  rw [exec_frame he h hr, hu]
  rfl

theorem exec_frame_none (he : exec c s = .next (s.copServe src row)) (h : Arrives s src p f t) (hr : row s f = true)
    (hu : t.copFrameDo p f = none) : exec c s = .next (frameWaits s src f) := by
  rw [exec_frame he h hr, hu]
  rfl

/-- What waiting means on either transport. -/
theorem exec_of_frameWaits (h : exec c s = .next (frameWaits s src f)) :
    (∀ a q d g, src = .field a q d g → exec c s = .next (s.waitFrame a q f)) ∧ (src = .mailbox → exec c s = .next s) := by
  refine ⟨?_, ?_⟩
  · rintro a q d g rfl
    exact h
  · rintro rfl
    exact h

/-- While the Crown is down it takes no frame (R261). -/
theorem copServe_down (hdown : s.crownUp = false) (src : FrameSrc) (row : State → List Byte → Bool) : s.copServe src row = s := by
  unfold State.copServe
  cases src with
  | field a q d g => simp [hdown]
  | mailbox => simp [State.crownServes, hdown]

end

theorem isOp_of_fOp {op : Nat} {s : State} {f : List Byte} (h : fOp f = op) : isOp op s f = true := by
  rw [isOp, h]
  exact beq_self_eq_true op

/-! ### A frame of a session (R275, R277) -/

/-- A session's answers go to where its latest frame came from. -/
def heardFrom (t : State) (x : Session) (p : Peer) : State := t.sesMod x.id (fun y => { y with peer := p })

theorem any_waitingAnswer {l : List Session} (h : ∀ y ∈ l, y.waitingAnswer = false) : (l.any fun y => y.waitingAnswer) = false := by
  simpa using h

section
variable {t : State} {x : Session} {p : Peer} {f : List Byte}

theorem mem_of_session {id : Nat} (h : t.session id = some x) : x ∈ t.crown.sessions := List.mem_of_find?_eq_some h

theorem copFrameDo_open (hop : fOp f = 1) (hidle : ∀ y ∈ t.crown.sessions, y.waitingAnswer = false) :
    t.copFrameDo p f = some (t.openDo p f) := by
  unfold State.copFrameDo
  rw [if_pos hop, any_waitingAnswer hidle]
  rfl

theorem copFrameDo_open_waits (hop : fOp f = 1) (hbusy : ∃ y ∈ t.crown.sessions, y.waitingAnswer = true) : t.copFrameDo p f = none := by
  unfold State.copFrameDo
  rw [if_pos hop, List.any_eq_true.mpr hbusy]
  rfl

theorem copFrameDo_noSession (hop : fOp f ≠ 1) (h : t.session (fSession f) = none) : t.copFrameDo p f = some (t.bump 0x1210 4) := by
  unfold State.copFrameDo
  rw [if_neg hop, h]

theorem copFrameDo_session (hop : fOp f ≠ 1) (h : t.session (fSession f) = some x) : t.copFrameDo p f = t.sessionFrame x p f := by
  unfold State.copFrameDo
  rw [if_neg hop, h]

theorem sessionFrame_wrongMac (hm : macOk x.keyIn f = false) : t.sessionFrame x p f = some (t.bump 0x1210 4) := if_pos (by simp [hm])

/-- What a frame of the session itself comes to. -/
theorem sessionFrame_heard (hk : x.peer.sameKind p = true) (hm : macOk x.keyIn f = true) (ho : x.isOpen = true ∨ fOp f = 2) :
    t.sessionFrame x p f =
      if fOp f = 0x21 then some ((heardFrom t x p).ackDo x (fBody f))
      else if x.waitingAnswer then some ((heardFrom t x p).answer x p f cBusy)
      else if t.crown.sessions.any (fun y => y.waitingAnswer) then none
      else if !x.isOpen then some ((heardFrom t x p).proveDo x p f)
      else if fSeq f = x.lastSeq then some ((heardFrom t x p).copSend p x.lastAnswer)
      else if fSeq f ≠ (x.lastSeq + 1) % 2 ^ 32 then some ((heardFrom t x p).answer x p f cBadSeq)
      else (State.serveReq (serving t x p) x p f).map (State.reply x p f) := by
  refine if_neg ?_
  rcases ho with ho | ho
  · simp [hk, hm, ho]
  · simp [hk, hm, ho]

/-- A frame of a session, none of which waits: PROVE while it is pending, afterwards a request in order or out of it. -/
theorem ofSession_copFrameDo (h : OfSession t x p f) (hop : fOp f ≠ 0x21) (ho : x.isOpen = true ∨ fOp f = 2) : t.copFrameDo p f =
    if !x.isOpen then some ((heardFrom t x p).proveDo x p f)
    else if fSeq f = x.lastSeq then some ((heardFrom t x p).copSend p x.lastAnswer)
    else if fSeq f ≠ (x.lastSeq + 1) % 2 ^ 32 then some ((heardFrom t x p).answer x p f cBadSeq)
    else (State.serveReq (serving t x p) x p f).map (State.reply x p f) := by
  obtain ⟨hx, h1, hk, hm, hidle⟩ := h
  rw [copFrameDo_session h1 hx, sessionFrame_heard hk hm ho, if_neg hop, if_neg (by simp [hidle x (mem_of_session hx)]),
    if_neg (by simp [any_waitingAnswer hidle])]

theorem ofSession_prove (h : OfSession t x p f) (hpend : x.isOpen = false) (hop : fOp f = 2) :
    t.copFrameDo p f = some ((heardFrom t x p).proveDo x p f) := by
  rw [ofSession_copFrameDo h (by omega) (.inr hop), hpend]
  rfl

theorem ofSession_ack (h : OfSession t x p f) (ho : x.isOpen = true) (hop : fOp f = 0x21) :
    t.copFrameDo p f = some ((heardFrom t x p).ackDo x (fBody f)) := by
  obtain ⟨hx, h1, hk, hm, -⟩ := h
  rw [copFrameDo_session h1 hx, sessionFrame_heard hk hm (.inl ho), if_pos hop]

end

/-! ### OPEN (R274, R278) -/

/-- An OPEN of the form of Table 11.13, with SESSION, SEQ and MAC 0 (R274). -/
def OpenSound (f : List Byte) : Prop :=
  fMac f = zeros 16 ∧ fSession f = 0 ∧ fSeq f = 0 ∧ (fBody f).length = 96 ∧ zeroAt (fBody f) 0x52 14 = true ∧
    rdLe (fBody f) 0x50 1 ≤ 15 ∧ rdLe (fBody f) 0x51 1 ≤ 1

/-- A pending session that the same OPEN has begun already. -/
def sameOpen (p : Peer) (b : List Byte) (x : Session) : Bool := !x.isOpen && x.peer.sameKind p && x.openBody.take 16 == b.take 16

/-- OPEN is refused and counted. -/
def openRefused (t : State) (p : Peer) (st : Nat) : State := (t.bump 0x1210 3).copSend p (copFrame 1 1 st 0 0 [] [])

/-- A new pending session gets its challenge. -/
def openGranted (t : State) (p : Peer) (b : List Byte) : State :=
  let r := t.newSession p b
  (r.1.setSessions (r.1.crown.sessions ++ [r.2])).copSend p (copFrame 1 1 0 r.2.id 0 r.2.challenge [])

section
variable {t : State} {p : Peer} {f : List Byte}

theorem openDo_foreign (h : fMac f ≠ zeros 16 ∨ fSession f ≠ 0) : t.openDo p f = t.bump 0x1210 4 := if_pos (by simpa using h)

theorem openDo_illFormed (hm : fMac f = zeros 16) (hs : fSession f = 0) (h : ¬ OpenSound f) : t.openDo p f = t := by
  unfold State.openDo
  dsimp only
  rw [if_neg (by simp [hm, hs]), if_pos ?_]
  by_contra hno
  simp only [Bool.or_eq_true, bne_iff_ne, ne_eq, Bool.not_eq_true', decide_eq_true_eq, not_or, not_not, Bool.not_eq_false, not_lt] at hno
  obtain ⟨⟨⟨⟨hseq, hlen⟩, hz⟩, hw⟩, hn⟩ := hno
  exact h ⟨hm, hs, hseq, hlen, hz, hw, hn⟩

/-- What a sound OPEN comes to. -/
theorem openDo_sound (h : OpenSound f) : t.openDo p f =
    match t.crown.sessions.find? (sameOpen p (fBody f)) with
    | some x => t.copSend p (copFrame 1 1 0 x.id 0 x.challenge [])
    | none =>
      if 8 ≤ t.crown.sessions.length then openRefused t p cBusy
      else if t.openForbidden p then openRefused t p cRights
      else openGranted t p (fBody f) := by
  obtain ⟨hm, hs, hseq, hlen, hz, hw, hn⟩ := h
  unfold State.openDo
  dsimp only
  rw [if_neg (by simp [hm, hs]), if_neg (by simp [hseq, hlen, hz, hw, hn])]
  rfl

theorem openDo_again {x : Session} (h : OpenSound f) (hx : t.crown.sessions.find? (sameOpen p (fBody f)) = some x) :
    t.openDo p f = t.copSend p (copFrame 1 1 0 x.id 0 x.challenge []) := by
  rw [openDo_sound h, hx]

theorem openDo_full (h : OpenSound f) (hx : t.crown.sessions.find? (sameOpen p (fBody f)) = none) (hlen : 8 ≤ t.crown.sessions.length) :
    t.openDo p f = openRefused t p cBusy := by
  rw [openDo_sound h, hx]
  exact if_pos hlen

/-- Without an operator key an OPEN comes in on the mailbox and in QUIET only. -/
theorem openForbidden_iff : t.openForbidden p = true ↔ t.blobGet 0xA100 1 = [] ∧ (p ≠ .mailbox ∨ t.modState ≠ stQuiet) := by
  unfold State.openForbidden State.openAdmits Peer.isField
  simp [List.isEmpty_iff]

theorem openDo_forbidden (h : OpenSound f) (hx : t.crown.sessions.find? (sameOpen p (fBody f)) = none)
    (hlen : t.crown.sessions.length < 8) (hf : t.openForbidden p = true) : t.openDo p f = openRefused t p cRights := by
  rw [openDo_sound h, hx]
  exact (if_neg (by omega)).trans (if_pos hf)

theorem openDo_granted (h : OpenSound f) (hx : t.crown.sessions.find? (sameOpen p (fBody f)) = none)
    (hlen : t.crown.sessions.length < 8) (hf : ¬ t.openForbidden p = true) : t.openDo p f = openGranted t p (fBody f) := by
  rw [openDo_sound h, hx]
  exact (if_neg (by omega)).trans (if_neg hf)

/-! Fewer sessions than candidates leave a number free. -/

/-- The nine numbers that a draw offers a new session. -/
def sessionIds (d : Nat) : List Nat := (List.range 9).map (fun k => (d + k) % 0xFFFFFFFF + 1)

theorem nodup_sessionIds (d : Nat) : (sessionIds d).Nodup := by
  refine List.Nodup.map_on (fun a ha b hb hab => ?_) List.nodup_range
  simp only [List.mem_range] at ha hb
  omega

theorem exists_free_sessionId (d : Nat) (hlen : t.crown.sessions.length < 9) : ∃ i ∈ sessionIds d, t.session i = none := by
  by_contra hno
  push Not at hno
  have hsub : sessionIds d ⊆ t.crown.sessions.map (fun x => x.id) := by
    intro i hi
    obtain ⟨x, hx⟩ := Option.ne_none_iff_exists'.mp (hno i hi)
    have hid : x.id = i := by simpa using List.find?_some hx
    exact List.mem_map.mpr ⟨x, mem_of_session hx, hid⟩
  have hcount := ((nodup_sessionIds d).subperm hsub).length_le
  simp [sessionIds] at hcount
  omega

theorem newSessionId_free (d : Nat) (hlen : t.crown.sessions.length < 9) : t.newSessionId d ≠ 0 ∧ t.session (t.newSessionId d) = none := by
  obtain ⟨i, hi, hfree⟩ := exists_free_sessionId d hlen
  obtain ⟨k, hk⟩ : ∃ k, (sessionIds d).find? (fun i => (t.session i).isNone) = some k := by
    rw [← Option.isSome_iff_exists, List.find?_isSome]
    exact ⟨i, hi, by rw [hfree]; rfl⟩
  have hid : t.newSessionId d = k := congrArg (fun o => o.getD 1) hk
  have hmem : k ∈ sessionIds d := List.mem_of_find?_eq_some hk
  obtain ⟨j, -, rfl⟩ := List.mem_map.mp hmem
  rw [hid]
  exact ⟨by omega, by simpa using List.find?_some hk⟩

/-- What a new session holds besides its keys and its challenge (R274). -/
theorem newSession_fields (b : List Byte) :
    (t.newSession p b).2.id = t.newSessionId (((t.drawBytes 16).2.drawBytes 32).2.draw 32).1.toNat ∧
      (t.newSession p b).2.isOpen = false ∧ (t.newSession p b).2.openBody = b ∧ (t.newSession p b).2.peer = p ∧
      (t.newSession p b).2.rights = 0 ∧ (t.newSession p b).2.lastSeq = 0 := ⟨rfl, rfl, rfl, rfl, rfl, rfl⟩

theorem newSession_state (b : List Byte) : (t.newSession p b).1 = { t with free := t.free + 3 } := rfl

end

/-! ### PROVE (R274, R276, R278) -/

/-- The signature of a PROVE is right. -/
def Proved (x : Session) (f : List Byte) : Prop :=
  (fBody f).length = 64 ∧ edVerify x.key (ascii "KRV COP prove" ++ x.openBody ++ x.challenge) (fBody f) = true

/-- The rights that a session's key may have: all of them on the mailbox in QUIET while no key is installed. -/
def keyAllows (u : State) (x : Session) (p : Peer) : Option Nat :=
  if u.blobGet 0xA100 1 = [] then (if p = .mailbox ∧ u.modState = stQuiet then some 15 else none) else u.keyRights x.key

/-- The session opens with some rights. -/
def proveOpens (u : State) (x : Session) (p : Peer) (f : List Byte) (r : Nat) : State :=
  let y : Session := { x with isOpen := true, peer := p, rights := r, notify := x.notify && Nat.testBit r 0 }
  let body := toLe 1 r ++ toLe 1 (if x.notify then 1 else 0) ++ toLe 2 p.limit ++ toLe 4 (u.odGet 0x1200 6) ++ zeros 8
  State.reply y p f { st := (u.bump 0x1210 2).sesMod x.id (fun _ => y), status := cOk, body := body, after := .done }

section
variable {u : State} {x : Session} {p : Peer} {f : List Byte}

theorem keyAllows_eq : (if (u.blobGet 0xA100 1).isEmpty then (if u.openAdmits p then some 15 else none) else u.keyRights x.key) =
    keyAllows u x p := by
  unfold keyAllows State.openAdmits Peer.isField
  simp [List.isEmpty_iff]

theorem proved_iff : ((fBody f).length == 64 && edVerify x.key (ascii "KRV COP prove" ++ x.openBody ++ x.challenge) (fBody f)) = true ↔
    Proved x f := by
  unfold Proved
  simp

theorem proveDo_badSeq (hseq : fSeq f ≠ 1) : u.proveDo x p f = u.answer x p f cBadSeq := if_pos hseq

theorem proveDo_refused (hseq : fSeq f = 1) (h : ¬ Proved x f ∨ keyAllows u x p = none) :
    u.proveDo x p f = (u.bump 0x1210 3).dropSession x.id := by
  unfold State.proveDo
  dsimp only
  rw [if_neg (not_not.mpr hseq), keyAllows_eq]
  rcases h with h | h
  · rw [Bool.eq_false_iff.mpr (mt proved_iff.mp h)]
    cases keyAllows u x p <;> rfl
  · rw [h]

theorem proveDo_allowed {k : Nat} (hseq : fSeq f = 1) (h : Proved x f) (hk : keyAllows u x p = some k) : u.proveDo x p f =
    if x.want &&& k = 0 then ((u.bump 0x1210 3).answer x p f cRights).dropSession x.id else proveOpens u x p f (x.want &&& k) := by
  unfold State.proveDo
  dsimp only
  rw [if_neg (not_not.mpr hseq), keyAllows_eq, proved_iff.mpr h, hk]
  rfl

end

/-! ### The end of a session (R277) -/

/-- The numbers of the sessions. -/
def openIds (s : State) : List Nat := s.crown.sessions.map (fun x => x.id)

theorem session_none_iff (s : State) (id : Nat) : s.session id = none ↔ id ∉ openIds s := by
  simp [State.session, openIds]

theorem openIds_sesMod (s : State) (id : Nat) {g : Session → Session} (hg : ∀ x, (g x).id = x.id) : openIds (s.sesMod id g) = openIds s := by
  unfold openIds State.sesMod State.setSessions
  simp only [List.map_map]
  refine List.map_congr_left (fun x _ => ?_)
  simp only [Function.comp]
  split
  · exact hg x
  · rfl

theorem openIds_mbWrite (s : State) (off : Nat) (bs : List Byte) : openIds (s.mbWrite off bs) = openIds s := by
  induction bs generalizing s off with
  | nil => rfl
  | cons b bs ih => exact ih _ _

theorem openIds_ringPut {s t : State} {f : List Byte} (h : s.ringPut f = some t) : openIds t = openIds s := by
  unfold State.ringPut at h
  dsimp only at h
  have hemit (u : State) (o : Output) : openIds (u.emit o) = openIds u := rfl
  repeat' split at h
  all_goals cases h
  all_goals simp only [hemit, openIds_mbWrite]

theorem openIds_ringDrain (s : State) (l : List (List Byte)) : openIds (s.ringDrain l) = openIds s := by
  induction l generalizing s with
  | nil => rfl
  | cons f fs ih =>
    unfold State.ringDrain
    cases h : s.ringPut f with
    | none => rfl
    | some t => exact (ih t).trans (openIds_ringPut h)

theorem openIds_copSend (s : State) (p : Peer) (f : List Byte) : openIds (s.copSend p f) = openIds s := by
  cases p with
  | mailbox => exact openIds_ringDrain s _
  | field a q => rfl

theorem openIds_sendNow {s t : State} {p : Peer} {f : List Byte} (h : s.sendNow p f = some t) : openIds t = openIds s := by
  unfold State.sendNow at h
  cases p with
  | mailbox =>
    dsimp only at h
    split at h
    · exact openIds_ringPut h
    · cases h
  | field a q => cases h; rfl

theorem openIds_notifySend (n : Nat) (s : State) (id : Nat) : openIds (State.notifySend n s id) = openIds s := by
  induction n generalizing s with
  | zero => rfl
  | succ n ih =>
    unfold State.notifySend
    split
    · rfl
    · split
      · split
        · rfl
        · next hsent =>
          rw [ih, openIds_sesMod]
          · exact openIds_sendNow hsent
          · exact fun _ => rfl
      · rfl

theorem openIds_notifyFlush (s : State) : openIds s.notifyFlush = openIds s := by
  have hfold : ∀ (l : List Session) (a : State), openIds (l.foldl (fun a x => State.notifySend 8 a x.id) a) = openIds a := by
    intro l
    induction l with
    | nil => exact fun a => rfl
    | cons x l ih => exact fun a => (ih _).trans (openIds_notifySend 8 a x.id)
  unfold State.notifyFlush
  split
  · rfl
  · exact hfold _ s

theorem openIds_dropSession (s : State) (id : Nat) : openIds (s.dropSession id) = (openIds s).filter (fun i => i != id) := by
  have hset : openIds (s.setSessions (s.crown.sessions.filter (fun x => x.id != id))) = (openIds s).filter (fun i => i != id) := by
    simp [openIds, State.setSessions, List.filter_map, Function.comp_def]
  unfold State.dropSession
  dsimp only
  split
  · exact (openIds_notifyFlush _).trans hset
  · exact hset

theorem session_dropSession (s : State) (id : Nat) : (s.dropSession id).session id = none := by
  rw [session_none_iff, openIds_dropSession]
  simp

/-- After the answer to a CLOSE its session is gone. -/
theorem session_reply_close (x : Session) (p : Peer) (f : List Byte) {r : Reply} (h : r.after = .close) :
    (State.reply x p f r).session x.id = none := by
  unfold State.reply
  dsimp only
  rw [h, session_none_iff]
  exact (openIds_notifyFlush _).symm ▸ (session_none_iff _ _).mp (session_dropSession _ x.id)

theorem crownOnly_releaseNotify (s : State) : CrownOnly s s.releaseNotify := (crownOnly_crown _ _).trans (crownOnly_notifyFlush _)

theorem crownOnly_dropSession (s : State) (id : Nat) : CrownOnly s (s.dropSession id) := by
  unfold State.dropSession
  dsimp only
  split
  · exact (crownOnly_crown _ _).trans (crownOnly_releaseNotify _)
  · exact crownOnly_crown _ _

/-- The answer to a CLOSE touches the Crown's record and the count of requests. -/
theorem crownOnly_reply_close (x : Session) (p : Peer) (f : List Byte) {r : Reply} (h : r.after = .close) :
    CrownOnly (r.st.bump 0x1210 6) (State.reply x p f r) := by
  unfold State.reply
  dsimp only
  rw [h]
  exact (crownOnly_sesMod _ _ _).trans ((crownOnly_copSend _ _ _).trans ((crownOnly_dropSession _ _).trans (crownOnly_releaseNotify _)))

/-- A request in order is served by the command of its row. -/
theorem exec_request {c : Instr} {row : State → List Byte → Bool} {s u : State} {src : FrameSrc} {x : Session} {p : Peer} {f : List Byte}
    (he : exec c s = .next (s.copServe src row)) (h : Requests s src u x p f) (hr : row s f = true) (h21 : fOp f ≠ 0x21) {r : Reply}
    (hq : u.serveReq x p f = some r) : exec c s = .next (State.reply x p f r) :=
  he.trans (congrArg _ (requests_serves h row hr h21 hq))

theorem serveReq_close {u : State} {x : Session} {p : Peer} {f : List Byte} (hlim : ¬ p.limit < f.length) (hop : fOp f = 3)
    (hb : fBody f = []) : u.serveReq x p f = some { st := u, status := cOk, body := [], after := .close } := by
  unfold State.serveReq
  dsimp only
  rw [if_neg hlim, hop, hb]
  rfl

/-! ### The timers (R274, R277, R280, R281) -/

section
variable {s : State} {x : Session} {id : Nat}

theorem sessionIs_eq_false (g : Session → Bool) (h : s.crown.down = true ∨ s.session id = none) : s.sessionIs id g = false := by
  unfold State.sessionIs
  rcases h with h | h
  · rw [h]; rfl
  · have hno : ∀ y ∈ s.crown.sessions, (y.id == id) = false := by simpa [State.session] using h
    have hany : (s.crown.sessions.any fun y => y.id == id && g y) = false := by
      rw [List.any_eq_false]
      intro y hy
      simp [hno y hy]
    rw [hany, Bool.and_false]

theorem sessionIs_eq_true {g : Session → Bool} (hup : s.crown.down = false) (hx : s.session x.id = some x) (hg : g x = true) :
    s.sessionIs x.id g = true := by
  unfold State.sessionIs
  rw [hup, Bool.not_false, Bool.true_and, List.any_eq_true]
  exact ⟨x, mem_of_session hx, by simp [hg]⟩

theorem exec_notifyResend_gone (n : Nat) (h : s.crown.down = true ∨ s.session id = none) : exec (.notifyResend id n) s = .next s := by
  by_cases hdown : s.crown.down = true
  · exact if_pos hdown
  · refine (if_neg hdown).trans ?_
    rw [h.resolve_left hdown]
    rfl

theorem exec_notifyResend (n : Nat) (hup : s.crown.down = false) (hx : s.session x.id = some x) :
    exec (.notifyResend x.id n) s = .next (s.notifyAgain x n) := by
  refine (if_neg (by rw [hup]; decide)).trans ?_
  rw [hx]
  rfl

theorem notifyAgain_unsent {n : Nat} (h : x.sent.find? (fun m => m.nseq == n) = none) : s.notifyAgain x n = s := by
  unfold State.notifyAgain
  rw [h]

theorem notifyAgain_sent {n : NSent} (h : x.sent.find? (fun m => m.nseq == n.nseq) = some n) : s.notifyAgain x n.nseq =
    if n.resends < 8 then
      (s.sesMod x.id (fun y => { y with
        sent := y.sent.map (fun m => if m.nseq = n.nseq then { m with resends := m.resends + 1 } else m) })).copSend x.peer n.frame
    else
      (s.sesMod x.id (fun y => { y with sent := y.sent.filter (fun m => m.nseq != n.nseq), lost := true })).bumpBy 0x1210 5
        (rdLe n.frame 16 1) := by
  unfold State.notifyAgain
  rw [h]

end

end Sys2Proof.Machine

open Sys2Proof Sys2Proof.Machine

/-- Settles O45: OPEN and PROVE by their cases, a frame by whether it is of a session that may be served, and the timers. -/
theorem sessionsServe : Obligations.SessionsServe := by
  refine ⟨fun s t src p f h hop hidle => ?opens, fun s t src p f h hop hbusy => ?openWaits,
    fun s t src x p f h hs hpend hop => ?proves, fun s u src x p f h hop hb => ?closes,
    fun s t src x p f h hs ho hop hlen => ?acks, fun s t src x p f h hop hx hk hm ho hw => ?busy,
    fun s t src p f h hop hx => ?noSession, fun s c hc hdown src => ?down, fun s t src x p f h hop hx hm => ?wrongMac,
    fun s id n h => ?gone, fun s x hup hx => ?timers⟩
  case opens =>
    intro b refused same sound
    have hexec : exec (.openSession src) s = .next (t.openDo p f) := exec_frame_some rfl h (isOp_of_fOp hop) (copFrameDo_open hop hidle)
    rw [hexec]
    refine ⟨fun hf => congrArg _ (openDo_foreign hf), fun hm hs hno => congrArg _ (openDo_illFormed hm hs hno),
      fun hs x hx => congrArg _ (openDo_again hs hx), fun hs hx hlen => congrArg _ (openDo_full hs hx hlen),
      fun hs hx hlen hkeys hp => congrArg _ (openDo_forbidden hs hx hlen (openForbidden_iff.mpr ⟨hkeys, hp⟩)),
      fun hs hx hlen hmay => ?_⟩
    have hmay' : ¬ t.openForbidden p = true := by rw [openForbidden_iff]; tauto
    obtain ⟨hid, hpend, hbody, hpeer, hrights, hseq⟩ := newSession_fields (t := t) (p := p) b
    obtain ⟨hne, hfree⟩ := newSessionId_free (t := t) (((t.drawBytes 16).2.drawBytes 32).2.draw 32).1.toNat (by omega)
    rw [← hid] at hne hfree
    exact ⟨(t.newSession p b).2, hne, hfree, hpend, hbody, hpeer, hrights, hseq, congrArg _ (openDo_granted hs hx hlen hmay')⟩
  case openWaits =>
    exact exec_of_frameWaits (exec_frame_none rfl h (isOp_of_fOp hop) (copFrameDo_open_waits hop hbusy))
  case proves =>
    intro u proved allowed
    have hexec : exec (.prove src) s = .next (u.proveDo x p f) :=
      exec_frame_some rfl h (isOp_of_fOp hop) (ofSession_prove hs hpend hop)
    rw [hexec]
    exact ⟨fun hseq => congrArg _ (proveDo_badSeq hseq), fun hseq hno => congrArg _ (proveDo_refused hseq hno),
      fun hseq hp k hk hz => congrArg _ ((proveDo_allowed hseq hp hk).trans (if_pos hz)),
      fun hseq hp k hk hz => congrArg _ ((proveDo_allowed hseq hp hk).trans (if_neg hz))⟩
  case closes =>
    have hframe := requests_crownOnly h
    have hreply := crownOnly_reply_close x p f (r := { st := u, status := cOk, body := [], after := .close }) rfl
    exact ⟨_, exec_request rfl h (isOp_of_fOp hop) (by omega) (serveReq_close (requests_limit h) hop hb), rfl,
      session_reply_close x p f rfl, hreply.mem.trans hframe.mem, hreply.pinions.trans hframe.pinions⟩
  case acks =>
    exact exec_frame_some rfl h (isOp_of_fOp hop) ((ofSession_ack hs ho hop).trans (congrArg _ (if_pos hlen)))
  case busy =>
    refine exec_frame_some rfl h (isOp_of_fOp hop) ?_
    rw [copFrameDo_session (by omega) hx, sessionFrame_heard hk hm (.inl ho), if_neg (by omega), if_pos hw]
    rfl
  case noSession =>
    exact exec_frame_some rfl h (isOp_of_fOp hop) (copFrameDo_noSession (by omega) hx)
  case down =>
    have hserve : ∀ row, s.copServe src row = s := copServe_down hdown src
    simp only [List.mem_cons, List.not_mem_nil, or_false] at hc
    -- Every command of the list is the one operation, each on its row.
    repeat' rcases hc with rfl | hc
    all_goals exact congrArg _ (hserve _)
  case wrongMac =>
    exact exec_frame_some rfl h (isOp_of_fOp hop) ((copFrameDo_session (by omega) hx).trans (sessionFrame_wrongMac hm))
  case gone =>
    exact ⟨exec_notifyResend_gone n h, if_neg (by rw [sessionIs_eq_false _ h]; decide), if_neg (by rw [sessionIs_eq_false _ h]; decide),
      fun hdown => if_pos hdown⟩
  case timers =>
    refine ⟨fun q hq => ?_, fun n hn hlt => ?_, fun n hn hle => ?_, fun ho => if_pos (sessionIs_eq_true hup hx ho),
      fun ho => if_pos (sessionIs_eq_true hup hx (by rw [ho]; rfl)), session_dropSession s x.id, if_neg (by rw [hup]; decide)⟩
    · rw [exec_notifyResend q hup hx, notifyAgain_unsent hq]
    · rw [exec_notifyResend n.nseq hup hx, notifyAgain_sent hn, if_pos hlt]
    · rw [exec_notifyResend n.nseq hup hx, notifyAgain_sent hn, if_neg (by omega)]
end

section
/-! SUPPORT. Requests of an open session (11.3 and 11.4; R269, R277, R279, R280; R89, R315, R317): reads, writes and transfers by the cases
of each, the reads with a command of their own, and the statement. -/

namespace Sys2Proof.Machine

/-! ### A request by its operation (Table 11.11) -/

/-- An answer that ends its request. -/
def answered (x : Session) (p : Peer) (f : List Byte) (st : State) (status : Nat) (body : List Byte) : State :=
  State.reply x p f { st := st, status := status, body := body, after := .done }

section
variable {u : State} {x : Session} {p : Peer} {f : List Byte} (hlim : ¬ p.limit < f.length)
include hlim

theorem serveReq_read (hop : fOp f = 0x10) : u.serveReq x p f = some (u.readReq x (fBody f)) := (if_neg hlim).trans (by rw [hop]; rfl)
theorem serveReq_write (hop : fOp f = 0x11) : u.serveReq x p f = u.writeReq x p (fBody f) := (if_neg hlim).trans (by rw [hop]; rfl)
theorem serveReq_readMulti (hop : fOp f = 0x12) : u.serveReq x p f = some (u.readMultiReq x p (fBody f)) :=
  (if_neg hlim).trans (by rw [hop]; rfl)
theorem serveReq_writeMulti (hop : fOp f = 0x13) : u.serveReq x p f = u.writeMultiReq x p (fBody f) := (if_neg hlim).trans (by rw [hop]; rfl)
theorem serveReq_blobBegin (hop : fOp f = 0x18) : u.serveReq x p f = some (u.blobBeginReq x (fBody f)) :=
  (if_neg hlim).trans (by rw [hop]; rfl)
theorem serveReq_blobSeg (hop : fOp f = 0x19) : u.serveReq x p f = some (u.blobSegReq x p (fBody f)) :=
  (if_neg hlim).trans (by rw [hop]; rfl)
theorem serveReq_blobEnd (hop : fOp f = 0x1A) : u.serveReq x p f = u.blobEndReq x p (fBody f) := (if_neg hlim).trans (by rw [hop]; rfl)

end

/-! ### Reads (R269, R279) -/

section
variable {u : State} {x : Session} {p : Peer} {b : List Byte} {i k : Nat}

theorem readReq_item {i : Item} (hb : bodyItems 0x10 b = some [i]) : u.readReq x b =
    { st := (u.readItem x i).1, status := (u.readItem x i).2.1, body := (u.readItem x i).2.2, after := .done } := by
  unfold State.readReq
  rw [hb]

theorem readReq_malformed (h : ∀ i, bodyItems 0x10 b ≠ some [i]) : u.readReq x b = u.openRefusal := by
  unfold State.readReq
  split
  · next i hi => exact absurd hi (h i)
  · rfl

section
variable {i : Item} {r : State × Nat × OdRow × List Byte} (hr : u.odRead x.rights x.id (x.openBody.take 16) i.index i.sub = r)
include hr

theorem readItem_refused (h : r.2.1 ≠ cOk) : u.readItem x i = (r.1, r.2.1, copItem i.index i.sub 0 r.2.1 []) := by
  subst hr
  exact if_pos h

theorem readItem_tooLarge (h : r.2.1 = cOk) (hlen : 1024 < r.2.2.2.length) :
    u.readItem x i = (u, cTooLarge, copItem i.index i.sub 0 cTooLarge []) := by
  subst hr
  exact (if_neg (not_not.mpr h)).trans (if_pos hlen)

theorem readItem_value (h : r.2.1 = cOk) (hlen : r.2.2.2.length ≤ 1024) :
    u.readItem x i = (r.1, cOk, copItem i.index i.sub r.2.2.1.typ cOk r.2.2.2) := by
  subst hr
  exact (if_neg (not_not.mpr h)).trans (if_neg (by omega))

end

/-- READ_MULTI reads its items one after the other in one state. -/
def readAll (u : State) (x : Session) (l : List Item) : State × List Byte :=
  l.foldl (fun (a : State × List Byte) i => ((a.1.readItem x i).1, a.2 ++ (a.1.readItem x i).2.2)) (u, [])

/-- The items of READ_MULTI, with what each of them leads to written out. -/
theorem readAll_eq (u : State) (x : Session) (l : List Item) : readAll u x l = l.foldl (fun (a : State × List Byte) i =>
    let q := a.1.odRead x.rights x.id (x.openBody.take 16) i.index i.sub
    if q.2.1 ≠ cOk then (q.1, a.2 ++ copItem i.index i.sub 0 q.2.1 [])
    else if 1024 < q.2.2.2.length then (a.1, a.2 ++ copItem i.index i.sub 0 cTooLarge [])
    else (q.1, a.2 ++ copItem i.index i.sub q.2.2.1.typ cOk q.2.2.2)) (u, []) := by
  refine congrArg (fun g => l.foldl g (u, [])) (funext₂ fun a i => ?_)
  dsimp only
  split_ifs with hno hlen
  · rw [readItem_refused rfl hno]
  · rw [readItem_tooLarge rfl (not_not.mp hno) hlen]
  · rw [readItem_value rfl (not_not.mp hno) (by omega)]

theorem multiCount_bad (h : rdLe b 0 1 = 0 ∨ 64 < rdLe b 0 1) : (decide (rdLe b 0 1 = 0) || decide (64 < rdLe b 0 1)) = true := by
  simpa using h

theorem multiCount_ok (hlo : 1 ≤ rdLe b 0 1) (hhi : rdLe b 0 1 ≤ 64) :
    ¬ (decide (rdLe b 0 1 = 0) || decide (64 < rdLe b 0 1)) = true := by
  simp only [Bool.or_eq_true, decide_eq_true_eq]
  omega

theorem readMultiReq_count (h : rdLe b 0 1 = 0 ∨ 64 < rdLe b 0 1) :
    u.readMultiReq x p b = { st := u, status := cRange, body := [], after := .done } := if_pos (multiCount_bad h)

theorem readMultiReq_items {l : List Item} (hlo : 1 ≤ rdLe b 0 1) (hhi : rdLe b 0 1 ≤ 64) (hb : bodyItems 0x12 b = some l) :
    u.readMultiReq x p b =
      if p.limit < 40 + (readAll u x l).2.length then { st := u, status := cTooLarge, body := [], after := .done }
      else { st := (readAll u x l).1, status := cOk, body := toLe 1 l.length ++ zeros 7 ++ (readAll u x l).2, after := .done } := by
  refine (if_neg (multiCount_ok hlo hhi)).trans ?_
  rw [hb]
  rfl

end

/-! ### Writes (R269, R279) -/

section
variable {s : State} {rights : Nat} {field typed : Bool}

/-- One item is checked as it stands: a command alone is the last of its request. -/
theorem checkItems_one (i : Item) : s.checkItems rights field typed [i] =
    ((s.odCheck rights field i.index i.sub (if typed then some i.typ else none) i.value).1,
      [(s.odCheck rights field i.index i.sub (if typed then some i.typ else none) i.value).2]) := by
  have hone : ¬ 1 < ([i].filter Item.isCmd).length := by
    have := List.length_filter_le Item.isCmd [i]
    simp only [List.length_singleton] at this
    omega
  unfold State.checkItems
  simp only [decide_eq_false hone]
  exact if_neg (by simp)

theorem attemptItems_one (i : Item) (st : Nat) : s.attemptItems [i] [st] = s.odAttempt i.index i.sub st i.value := rfl

theorem writtenBody_one (i : Item) (st : Nat) : State.writtenBody [i] [st] = copItem i.index i.sub i.typ st [] := List.append_nil _

theorem no_cmdWaits {l : List Item} (hl : ∀ i ∈ l, i.isCmd = false) : ¬ (l.any fun i => i.isCmd && s.cmdWaits (leNat i.value)) = true := by
  simp only [List.any_eq_true, not_exists, not_and]
  intro i hi
  simp [hl i hi]

/-- One item that fails its checks keeps all of them from being written. -/
theorem writeItems_refused {l : List Item} {st : Nat} (hl : ∀ i ∈ l, i.isCmd = false)
    (hst : (s.checkItems rights field typed l).2.find? (· ≠ cOk) = some st) :
    s.writeItems rights field typed l =
      some ((s.checkItems rights field typed l).1.attemptItems l (s.checkItems rights field typed l).2,
        (s.checkItems rights field typed l).2, st, .done) := by
  refine (if_neg (no_cmdWaits hl)).trans ?_
  dsimp only
  rw [hst]

/-- FW_ACTIVATE among some items is followed by its warm reset (R312). -/
def actResets (l : List Item) : After := if l.any (fun i => i.index == 0xA300 && i.sub == 2) then .resets [9] else .done

/-- Items that all pass are applied together. -/
theorem writeItems_accepted {l : List Item} (hl : ∀ i ∈ l, i.isCmd = false)
    (hok : (s.checkItems rights field typed l).2.find? (· ≠ cOk) = none) (hne : l ≠ []) : s.writeItems rights field typed l =
      some (((s.checkItems rights field typed l).1.attemptItems l (s.checkItems rights field typed l).2).odApply
        (l.map (fun i => (i.index, i.sub, i.value))), (s.checkItems rights field typed l).2, cOk, actResets l) := by
  have hplain : l.filter (fun i => !i.isCmd) = l := List.filter_eq_self.mpr (fun i hi => by rw [hl i hi]; rfl)
  refine (if_neg (no_cmdWaits hl)).trans ?_
  dsimp only
  rw [hok, hplain, List.getLast?_eq_some_getLast hne]
  dsimp only
  rw [hl _ (List.getLast_mem hne), if_neg Bool.false_ne_true, actResets]
  cases l.any (fun i => i.index == 0xA300 && i.sub == 2) with
  | false => rfl
  | true => rfl

/-- One item that passes its checks. -/
theorem writeItems_one_accepted {i : Item} (hi : i.isCmd = false)
    (hok : (s.odCheck rights field i.index i.sub (if typed then some i.typ else none) i.value).2 = cOk) :
    s.writeItems rights field typed [i] = some
      (((s.odCheck rights field i.index i.sub (if typed then some i.typ else none) i.value).1.odAttempt i.index i.sub cOk i.value).odApply
        [(i.index, i.sub, i.value)], [cOk], cOk, actResets [i]) := by
  rw [writeItems_accepted (by simpa using hi) (by rw [checkItems_one, hok]; rfl) (List.cons_ne_nil i [])]
  simp only [checkItems_one, hok, attemptItems_one]
  rfl

/-- One item that fails them. -/
theorem writeItems_one_refused {i : Item} (hi : i.isCmd = false)
    (hno : (s.odCheck rights field i.index i.sub (if typed then some i.typ else none) i.value).2 ≠ cOk) :
    s.writeItems rights field typed [i] = some
      ((s.odCheck rights field i.index i.sub (if typed then some i.typ else none) i.value).1.odAttempt i.index i.sub
        (s.odCheck rights field i.index i.sub (if typed then some i.typ else none) i.value).2 i.value,
        [(s.odCheck rights field i.index i.sub (if typed then some i.typ else none) i.value).2],
        (s.odCheck rights field i.index i.sub (if typed then some i.typ else none) i.value).2, .done) := by
  rw [writeItems_refused (by simpa using hi) (by rw [checkItems_one]; exact List.find?_cons_of_pos (by simpa using hno))]
  simp only [checkItems_one, attemptItems_one]

end

section
variable {u : State} {x : Session} {p : Peer} {b : List Byte}

theorem writeReq_item {i k typ : Nat} {v : List Byte} (hb : b = copItem i k typ 0 v) (hlen : v.length ≤ 1024) (hi : i < 65536)
    (hk : k < 256) (ht : typ < 256) : u.writeReq x p b =
      (u.writeItems x.rights p.isField true [{ index := i, sub := k, typ := typ, value := v }]).map (fun r =>
        { st := r.1, status := r.2.2.1, body := State.writtenBody [{ index := i, sub := k, typ := typ, value := v }] r.2.1,
          after := r.2.2.2 }) := by
  unfold State.writeReq
  rw [hb, bodyItems_copItem hi hk ht (by omega)]
  exact if_neg (Nat.not_lt.mpr hlen)

theorem writeMultiReq_count (h : rdLe b 0 1 = 0 ∨ 64 < rdLe b 0 1) :
    u.writeMultiReq x p b = some { st := u, status := cRange, body := [], after := .done } := if_pos (multiCount_bad h)

theorem writeMultiReq_tooLarge {l : List Item} (hlo : 1 ≤ rdLe b 0 1) (hhi : rdLe b 0 1 ≤ 64) (hb : bodyItems 0x13 b = some l)
    (hbig : ∃ i ∈ l, 1024 < i.value.length) : u.writeMultiReq x p b = some { st := u, status := cTooLarge, body := [], after := .done } := by
  refine (if_neg (multiCount_ok hlo hhi)).trans ?_
  rw [hb]
  exact if_pos (by simpa using hbig)

theorem writeMultiReq_items {l : List Item} (hlo : 1 ≤ rdLe b 0 1) (hhi : rdLe b 0 1 ≤ 64) (hb : bodyItems 0x13 b = some l)
    (hfit : ∀ i ∈ l, i.value.length ≤ 1024) : u.writeMultiReq x p b = (u.writeItems x.rights p.isField true l).map (fun r =>
      { st := r.1, status := r.2.2.1, body := b.take 8 ++ State.writtenBody l r.2.1, after := r.2.2.2 }) := by
  refine (if_neg (multiCount_ok hlo hhi)).trans ?_
  rw [hb]
  exact if_neg (by simpa using hfit)

theorem length_parseItems {n : Nat} {l : List Item} (h : parseItems n b = some l) : l.length = n := by
  induction n generalizing b l with
  | zero =>
    rw [parseItems] at h
    split at h
    · cases h; rfl
    · cases h
  | succ n ih =>
    rw [parseItems] at h
    split at h
    · cases h
    · obtain ⟨r, hr, rfl⟩ := Option.map_eq_some_iff.mp h
      rw [List.length_cons, ih hr]

/-- A WRITE_MULTI body holds as many items as it says. -/
theorem length_bodyItems {l : List Item} (hb : bodyItems 0x13 b = some l) : l.length = rdLe b 0 1 := by
  simp only [bodyItems] at hb
  norm_num at hb
  exact length_parseItems hb.2

end

/-! ### Transfers (R280) -/

/-- A transfer begins. -/
def blobStarts (x : Session) (t : State) (z : BlobXfer) : State := t.sesMod x.id (fun y => { y with blob := some z })

/-- A transfer ends. -/
def blobStops (x : Session) (t : State) : State := t.sesMod x.id (fun y => { y with blob := none })

/-- Does another session write a firmware image (R312)? -/
def imageTaken (u : State) (x : Session) : Bool :=
  u.crown.sessions.any (fun y => y.id != x.id && y.blob.any (fun t => t.writing && t.index == 0xA300 && t.sub == 1))

section
variable {u : State} {x : Session} {p : Peer} {b : List Byte} {z : BlobXfer}

/-- A BLOB_BEGIN of the right form: busy where a transfer is under way, otherwise a read or a write begins. -/
theorem blobBeginReq_formed (hlen : b.length = 8) (hdir : rdLe b 3 1 ≤ 1) (hz : rdLe b 3 1 = 0 → rdLe b 4 4 = 0) :
    u.blobBeginReq x b =
      if x.blob.isSome then u.plainReply cBusy
      else if rdLe b 3 1 = 0 then
        let r := u.odRead x.rights x.id (x.openBody.take 16) (rdLe b 0 2) (rdLe b 2 1)
        if r.2.1 ≠ cOk then r.1.plainReply r.2.1
        else { st := blobStarts x r.1 { index := rdLe b 0 2, sub := rdLe b 2 1, writing := false, total := r.2.2.2.length,
                                        snapshot := r.2.2.2, segs := [] },
               status := cOk, body := toLe 4 r.2.2.2.length ++ toLe 4 (crc32c r.2.2.2), after := .done }
      else if rdLe b 0 2 = 0xA300 && rdLe b 2 1 == 1 && imageTaken u x then u.plainReply cBusy
      else { st := blobStarts x u { index := rdLe b 0 2, sub := rdLe b 2 1, writing := true, total := rdLe b 4 4, snapshot := [],
                                    segs := [] },
             status := cOk, body := toLe 4 (rdLe b 4 4) ++ zeros 4, after := .done } := by
  refine if_neg ?_
  simp only [Bool.or_eq_true, Bool.and_eq_true, decide_eq_true_eq, beq_iff_eq, bne_iff_ne]
  rintro ((h | h) | ⟨h0, h⟩)
  · exact h hlen
  · omega
  · exact h (hz h0)

theorem blobSegReq_none (hlen : 8 ≤ b.length) (hz : zeroAt b 6 2 = true) (hx : x.blob = none) :
    u.blobSegReq x p b = u.plainReply cBlobOrder := by
  refine (if_neg (by simp [hz, hlen])).trans ?_
  rw [hx]

/-- A segment of a transfer under way, of the length that its direction asks for. -/
theorem blobSegReq_formed (hlen : 8 ≤ b.length) (hz : zeroAt b 6 2 = true) (hx : x.blob = some z)
    (hform : b.length = if z.writing then 8 + rdLe b 4 2 else 8) : u.blobSegReq x p b =
      if p.segment < rdLe b 4 2 then u.plainReply cTooLarge
      else if z.total < rdLe b 0 4 + rdLe b 4 2 then u.plainReply cBlobOrder
      else if z.writing then
        { st := u.sesMod x.id (fun y => { y with blob := z.take (rdLe b 0 4) (b.drop 8) }), status := cOk, body := b.take 8, after := .done }
      else { st := u, status := cOk, body := b.take 8 ++ slice z.snapshot (rdLe b 0 4) (rdLe b 4 2), after := .done } := by
  refine (if_neg (by simp [hz, hlen])).trans ?_
  rw [hx]
  exact if_neg (not_not.mpr hform)

theorem take_inside {off : Nat} {data : List Byte} (h : off + data.length ≤ z.total) :
    z.take off data = some { z with segs := z.segs ++ [(off, data)] } := if_pos h

theorem blobEndReq_none (hlen : b.length = 4) (hx : x.blob = none) : u.blobEndReq x p b = some (u.plainReply cBlobOrder) := by
  refine (if_neg (not_not.mpr hlen)).trans ?_
  rw [hx]

/-- The end of a transfer under way. -/
theorem blobEndReq_some (hlen : b.length = 4) (hx : x.blob = some z) : u.blobEndReq x p b =
    if !z.writing then some ((blobStops x u).plainReply cOk)
    else
      match z.complete (leNat b) with
      | none => some ((blobStops x u).plainReply cBlobOrder)
      | some v => ((blobStops x u).writeItems x.rights p.isField false [{ index := z.index, sub := z.sub, typ := 0, value := v }]).map
          (fun r => { st := r.1, status := r.2.2.1, body := [], after := r.2.2.2 }) := by
  refine (if_neg (not_not.mpr hlen)).trans ?_
  rw [hx]
  rfl

end

/-! ### The end of a transfer that writes an entry -/

theorem isCmd_eq_false {i k typ : Nat} {v : List Byte} (h : i = 0x1010 → k ≠ 2) :
    ({ index := i, sub := k, typ := typ, value := v } : Item).isCmd = false := by
  unfold Item.isCmd
  simpa using h

theorem actResets_done {i k typ : Nat} {v : List Byte} (h : (i, k) ≠ (0xA300, 2)) :
    actResets [{ index := i, sub := k, typ := typ, value := v }] = .done := by
  refine if_neg ?_
  simpa using h

section
variable {s u : State} {src : FrameSrc} {x : Session} {p : Peer} {f : List Byte} {i k : Nat} {v : List Byte}
  {c : Instr} {row : State → List Byte → Bool}

/-- The end of a transfer is served by the command of its row. -/
theorem exec_endsTransfer (he : exec c s = .next (s.copServe src row)) (h : EndsTransfer s src u x p f i k v) (hr : row s f = true)
    (hcmd : i = 0x1010 → k ≠ 2) : exec c s = .next (State.reply x p f {
      st := (u.odAttempt i k cOk v).odApply [(i, k, v)], status := cOk, body := [],
      after := actResets [{ index := i, sub := k, typ := 0, value := v }] }) := by
  obtain ⟨u0, z, hreq, hop, hlen, hx, hw, rfl, rfl, hv, rfl, hck⟩ := h
  refine exec_request he hreq hr (by omega) ((serveReq_blobEnd (requests_limit hreq) hop).trans ?_)
  have hok : (State.odCheck (blobStops x u0) x.rights p.isField z.index z.sub (if false then some 0 else none) v) = (blobStops x u0, cOk) := hck
  rw [blobEndReq_some hlen hx, hw, hv]
  simp only [Bool.not_true, Bool.false_eq_true, if_false]
  rw [writeItems_one_accepted (isCmd_eq_false hcmd) (congrArg Prod.snd hok), hok]
  rfl

end

/-! ### A WRITE of one entry -/

section
variable {s u : State} {src : FrameSrc} {x : Session} {p : Peer} {f : List Byte} {i k typ : Nat} {v : List Byte}
  {c : Instr} {row : State → List Byte → Bool}

/-- A WRITE of one entry that is no command, by what its checks say. -/
theorem exec_writeEntry (he : exec c s = .next (s.copServe src row)) (h : Requests s src u x p f) (hr : row s f = true)
    (hop : fOp f = 0x11) (hb : fBody f = copItem i k typ 0 v) (hlen : v.length ≤ 1024) (hi : i < 65536) (hk : k < 256) (ht : typ < 256)
    (hcmd : i = 0x1010 → k ≠ 2) :
    ((u.odCheck x.rights p.isField i k (some typ) v).2 = cOk → exec c s = .next (written x p f i k typ
      (((u.odCheck x.rights p.isField i k (some typ) v).1.odAttempt i k cOk v).odApply [(i, k, v)]) cOk
      (actResets [{ index := i, sub := k, typ := typ, value := v }]))) ∧
    ((u.odCheck x.rights p.isField i k (some typ) v).2 ≠ cOk → exec c s = .next (written x p f i k typ
      ((u.odCheck x.rights p.isField i k (some typ) v).1.odAttempt i k (u.odCheck x.rights p.isField i k (some typ) v).2 v)
      (u.odCheck x.rights p.isField i k (some typ) v).2 .done)) := by
  have hserve := (serveReq_write (u := u) (x := x) (requests_limit h) hop).trans (writeReq_item hb hlen hi hk ht)
  refine ⟨fun hok => ?_, fun hno => ?_⟩
  · rw [writeItems_one_accepted (typed := true) (isCmd_eq_false hcmd) hok, Option.map_some, writtenBody_one] at hserve
    exact exec_request he h hr (by omega) hserve
  · rw [writeItems_one_refused (typed := true) (isCmd_eq_false hcmd) hno, Option.map_some, writtenBody_one] at hserve
    exact exec_request he h hr (by omega) hserve

end

/-! ### Reads with a command of their own (R89, R315, R317) -/

/-- A READ of one entry is on the row of the command that reads it. -/
theorem readsEntry_item {s : State} {f : List Byte} {i k : Nat} (hop : fOp f = 0x10) (hb : fBody f = copItem i k 0 0 []) (hi : i < 65536)
    (hk : k < 256) : readsEntry i k s f = true := by
  unfold readsEntry
  rw [hop, hb, bodyItems_read hi hk]
  simp

section
variable {u : State} {rights id : Nat} {nonce : List Byte} (hmay : Nat.testBit rights 0 = true)
include hmay

/-- A read of the debug challenge draws a fresh one. -/
theorem odRead_challenge : ∃ r : OdRow, r.typ = 12 ∧ u.odRead rights id nonce 0xA500 1 =
    ({ u with free := u.free + 1, test := { u.test with challenge := (u.drawBytes 32).1 } }, cOk, r, (u.drawBytes 32).1) := by
  obtain ⟨r, hr, hrow⟩ := Option.map_eq_some_iff.mp
    (show (odRow 0xA500 1).map (fun r => (r.typ, r.acc)) = some (12, 1) by decide +kernel)
  obtain ⟨ht, ha⟩ := Prod.mk.inj hrow
  refine ⟨r, ht, ?_⟩
  unfold State.odRead
  rw [hr]
  dsimp only
  rw [hmay, ha]
  rfl

/-- A read of the attestation report builds it for the session. -/
theorem odRead_attestReport : ∃ r : OdRow, r.typ = 12 ∧ u.odRead rights id nonce 0xA020 1 = (u, cOk, r, u.attestReport id nonce) := by
  obtain ⟨r, hr, hrow⟩ := Option.map_eq_some_iff.mp
    (show (odRow 0xA020 1).map (fun r => (r.typ, r.acc)) = some (12, 1) by decide +kernel)
  obtain ⟨ht, ha⟩ := Prod.mk.inj hrow
  refine ⟨r, ht, ?_⟩
  unfold State.odRead
  rw [hr]
  dsimp only
  rw [hmay, ha]
  rfl

/-- The accumulators of the selected tile. -/
def accShown (u : State) : List Byte := padTo 1024 (u.selTile.acc.flatMap (fun w => toLe 4 w.toNat))

omit hmay in
theorem accShown_length_le (u : State) : (accShown u).length ≤ 1024 := Nat.le_of_eq (slice_length _ _ _)

/-- A read of the accumulator image is refused unless R89 unlocks it. -/
theorem odRead_accImage : ∃ r : OdRow, r.typ = 12 ∧ u.odRead rights id nonce 0xF201 1 =
    if u.accReadable then (u, cOk, r, accShown u) else (u, cAccess, r, []) := by
  obtain ⟨r, hr, hrow⟩ := Option.map_eq_some_iff.mp
    (show (odRow 0xF201 1).map (fun r => (r.index, r.typ, r.acc)) = some (0xF201, 12, 1) by decide +kernel)
  obtain ⟨hindex, hrow⟩ := Prod.mk.inj hrow
  obtain ⟨ht, ha⟩ := Prod.mk.inj hrow
  refine ⟨r, ht, ?_⟩
  unfold State.odRead
  rw [hr]
  dsimp only
  rw [hmay, ha]
  cases hacc : u.accReadable
  · rfl
  · have hshown : u.odBytes r 1 = accShown u := by
      unfold State.odBytes
      rw [ht, hindex]
      rfl
    rw [hshown]
    rfl

end

end Sys2Proof.Machine

open Sys2Proof Sys2Proof.Machine

/-- Settles O46: each request by its operation and the cases of it, a repeated one before any of them, and the reads with a row of
their own as reads of their entry. -/
theorem requestsServe : Obligations.RequestsServe := by
  refine ⟨⟨fun s u src x p f h => ?requests, fun s u src x p f i k v h hcmd hact => ?ends, fun s t src x p f h hs ho hop => ?again⟩,
    fun s u src x p f h hop hmay => ?ownRows⟩
  case requests =>
    have hlim := requests_limit h
    intro b answered
    have hread : ∀ {r : Reply}, fOp f = 0x10 → u.readReq x b = r → exec (.read src) s = .next (State.reply x p f r) :=
      fun hop hr => exec_request rfl h (isOp_of_fOp hop) (by omega) ((serveReq_read hlim hop).trans (congrArg some hr))
    have hreadMulti : ∀ {r : Reply}, fOp f = 0x12 → u.readMultiReq x p b = r → exec (.readMulti src) s = .next (State.reply x p f r) :=
      fun hop hr => exec_request rfl h (isOp_of_fOp hop) (by omega) ((serveReq_readMulti hlim hop).trans (congrArg some hr))
    have hwriteMulti : ∀ {r : Reply}, fOp f = 0x13 → u.writeMultiReq x p b = some r →
        exec (.writeMulti src) s = .next (State.reply x p f r) :=
      fun hop hr => exec_request rfl h (isOp_of_fOp hop) (by omega) ((serveReq_writeMulti hlim hop).trans hr)
    have hbegin : ∀ {r : Reply}, fOp f = 0x18 → u.blobBeginReq x b = r → exec (.blobBegin src) s = .next (State.reply x p f r) :=
      fun hop hr => exec_request rfl h (isOp_of_fOp hop) (by omega) ((serveReq_blobBegin hlim hop).trans (congrArg some hr))
    have hseg : ∀ {r : Reply}, fOp f = 0x19 → u.blobSegReq x p b = r → exec (.blobSeg src) s = .next (State.reply x p f r) :=
      fun hop hr => exec_request rfl h (isOp_of_fOp hop) (by omega) ((serveReq_blobSeg hlim hop).trans (congrArg some hr))
    have hend : ∀ {r : Reply}, fOp f = 0x1A → u.blobEndReq x p b = some r → exec (.blobEnd src) s = .next (State.reply x p f r) :=
      fun hop hr => exec_request rfl h (isOp_of_fOp hop) (by omega) ((serveReq_blobEnd hlim hop).trans hr)
    refine ⟨fun i k hop hb hi hk => ?read, fun hop hno => hread hop (readReq_malformed hno),
      fun hop hn => hreadMulti hop (readMultiReq_count hn), fun l hop hlo hhi hb => ?readMulti,
      fun i k typ v hop hb hlen hi hk ht hcmd hact => ?write, fun hop hn => hwriteMulti hop (writeMultiReq_count hn),
      fun l hop hlo hhi hb hbig => hwriteMulti hop (writeMultiReq_tooLarge hlo hhi hb hbig),
      fun l hop hlo hhi hb hfit hplain => ?writeMulti, fun hop hlen hx => ?begins, fun hop hlen hdir hz hx => ?beginBusy,
      fun hop hlen hz hx => hseg hop (blobSegReq_none hlen hz hx), fun hop hlen hx => hend hop (blobEndReq_none hlen hx),
      fun z hop hlen hz hx hsize => ?segment, fun z hop hlen hz hx hbig hform => ?segmentTooLarge,
      fun z hop hlen hx hw hv => ?incomplete, fun z hop hlen hx hw => ?readEnds⟩
    case read =>
      intro r
      have hitem := readReq_item (u := u) (x := x) (b := b) (by rw [hb]; exact bodyItems_read hi hk)
      refine ⟨fun hok hlen => hread hop ?_, fun hok hlen => hread hop ?_, fun hno => hread hop ?_⟩
      · rw [hitem, readItem_value (r := r) rfl hok hlen]
      · rw [hitem, readItem_tooLarge (r := r) rfl hok hlen]
      · rw [hitem, readItem_refused (r := r) rfl hno]
    case readMulti =>
      intro r
      have hr : readAll u x l = r := readAll_eq u x l
      have hitems := readMultiReq_items (u := u) (x := x) (p := p) hlo hhi hb
      rw [hr] at hitems
      exact ⟨fun hfit => hreadMulti hop (hitems.trans (if_neg (by omega))), fun hbig => hreadMulti hop (hitems.trans (if_pos hbig))⟩
    case write =>
      have hw := exec_writeEntry rfl h (isOp_of_fOp hop) hop hb hlen hi hk ht hcmd (c := .write src)
      rw [actResets_done hact] at hw
      exact hw
    case writeMulti =>
      intro c
      have hitems := writeMultiReq_items (u := u) (x := x) (p := p) hlo hhi hb hfit
      have hcmd : ∀ i ∈ l, i.isCmd = false := fun i hi => (hplain i hi).1
      have hne : l ≠ [] := by
        rw [← List.length_pos_iff_ne_nil, length_bodyItems hb]
        exact hlo
      have hact : actResets l = .done := if_neg (by simpa using fun i hi => (hplain i hi).2)
      refine ⟨fun st hst => hwriteMulti hop (hitems.trans ?_), fun hok => hwriteMulti hop (hitems.trans ?_)⟩
      · rw [writeItems_refused hcmd hst]
        rfl
      · rw [writeItems_accepted hcmd hok hne, hact]
        rfl
    case begins =>
      intro i k start
      refine ⟨fun hdir hz => ?_, fun hdir => ?_⟩
      · have hform := blobBeginReq_formed (u := u) (x := x) hlen (by omega) (fun _ => hz)
        rw [if_neg (by simp [hx]), if_pos hdir] at hform
        exact ⟨fun hok => hbegin hop (hform.trans (if_neg (not_not.mpr hok))), fun hno => hbegin hop (hform.trans (if_pos hno))⟩
      · have hform := blobBeginReq_formed (u := u) (x := x) hlen hdir.le (by omega)
        rw [if_neg (by simp [hx]), if_neg (by omega)] at hform
        intro z taken
        refine ⟨fun hfree => hbegin hop (hform.trans (if_neg ?_)), fun himage ht => hbegin hop (hform.trans (if_pos ?_))⟩
        · have hfree' : ¬ (i = 0xA300 ∧ k = 1) ∨ taken = false := by simpa using hfree
          simp only [Bool.and_eq_true, decide_eq_true_eq, beq_iff_eq]
          rintro ⟨himage, ht⟩
          rcases hfree' with hno | hno
          · exact hno himage
          · exact Bool.noConfusion (ht.symm.trans hno)
        · obtain ⟨hi, hk⟩ := Prod.mk.inj himage
          have ht' : imageTaken u x = true := ht
          simp only [Bool.and_eq_true, decide_eq_true_eq, beq_iff_eq]
          exact ⟨⟨hi, hk⟩, ht'⟩
    case beginBusy =>
      exact hbegin hop ((blobBeginReq_formed hlen hdir hz).trans (if_pos hx))
    case segment =>
      refine ⟨fun hw hform hin => hseg hop ?_, fun hw hform hin => hseg hop ?_, fun hform hout => hseg hop ?_⟩
      · rw [blobSegReq_formed hlen hz hx (by rw [hw]; exact hform), if_neg (by omega), if_neg (by omega), hw]
        rfl
      · have htake : z.take (rdLe b 0 4) (b.drop 8) = some { z with segs := z.segs ++ [(rdLe b 0 4, b.drop 8)] } :=
          take_inside (by rw [List.length_drop]; omega)
        rw [blobSegReq_formed hlen hz hx (by rw [hw]; exact hform), if_neg (by omega), if_neg (by omega), if_pos hw, htake]
      · rw [blobSegReq_formed hlen hz hx hform, if_neg (by omega), if_pos hout]
        rfl
    case segmentTooLarge =>
      exact hseg hop ((blobSegReq_formed hlen hz hx hform).trans (if_pos hbig))
    case incomplete =>
      refine hend hop ?_
      rw [blobEndReq_some hlen hx, hw, hv]
      rfl
    case readEnds =>
      refine hend hop ?_
      rw [blobEndReq_some hlen hx, hw]
      rfl
  case ends =>
    obtain ⟨u0, z, hreq, hop, hrest⟩ := h
    have hx := exec_endsTransfer (c := .blobEnd src) rfl ⟨u0, z, hreq, hop, hrest⟩ (isOp_of_fOp hop) hcmd
    rw [actResets_done hact] at hx
    exact hx
  case again =>
    have hcourse := ofSession_copFrameDo hs (by omega) (.inl ho)
    rw [ho] at hcourse
    refine ⟨fun hseq => exec_frame_some rfl h (isOp_of_fOp hop) (hcourse.trans (if_pos hseq)),
      fun hlast hnext => exec_frame_some rfl h (isOp_of_fOp hop) (hcourse.trans ((if_neg hlast).trans (if_pos hnext)))⟩
  case ownRows =>
    have hlim := requests_limit h
    intro answered tb
    have hread : ∀ {c : Instr} {i k : Nat} {t : State} {status : Nat} {body : List Byte},
        exec c s = .next (s.copServe src (readsEntry i k)) → i < 65536 → k < 256 → fBody f = copItem i k 0 0 [] →
        u.readItem x { index := i, sub := k, typ := 0, value := [] } = (t, status, body) →
        exec c s = .next (State.reply x p f { st := t, status := status, body := body, after := .done }) := by
      intro c i k t status body he hi hk hb hitem
      refine exec_request he h (readsEntry_item hop hb hi hk) (by omega) ((serveReq_read hlim hop).trans (congrArg some ?_))
      rw [readReq_item (by rw [hb]; exact bodyItems_read hi hk), hitem]
    refine ⟨fun hb => ?challenge, fun hb => ?report, fun hb hacc => ?image, fun hb hacc => ?locked⟩
    case challenge =>
      obtain ⟨r, ht, hr⟩ := odRead_challenge (u := u) (id := x.id) (nonce := x.openBody.take 16) hmay
      have hlen : (u.drawBytes 32).1.length = 32 := toLe_length 32 _
      refine ⟨(u.drawBytes 32).1, hlen, hread rfl (by decide) (by decide) hb ?_⟩
      rw [readItem_value hr rfl (by rw [hlen]; decide), ht]
    case report =>
      obtain ⟨r, ht, hr⟩ := odRead_attestReport (u := u) (id := x.id) (nonce := x.openBody.take 16) hmay
      refine hread rfl (by decide) (by decide) hb ?_
      rw [readItem_value hr rfl (by dsimp only; exact attestReport_length_le u x.id _), ht]
    case image =>
      obtain ⟨r, ht, hr⟩ := odRead_accImage (u := u) (id := x.id) (nonce := x.openBody.take 16) hmay
      rw [if_pos hacc] at hr
      refine hread rfl (by decide) (by decide) hb ?_
      rw [readItem_value hr rfl (by dsimp only; exact accShown_length_le u), ht, accShown]
    case locked =>
      obtain ⟨r, ht, hr⟩ := odRead_accImage (u := u) (id := x.id) (nonce := x.openBody.take 16) hmay
      rw [if_neg (ne_true_of_eq_false hacc)] at hr
      refine hread rfl (by decide) (by decide) hb ?_
      rw [readItem_refused hr (by simp [cAccess, cOk])]
end

section
/-! SUPPORT. The commands of OD 0x1010.02 (11.2; R263 to R268, Tables 11.3 and 11.4): what an accepted write asks for, a command by what it
comes to, what waits during a stop, what ARM leaves, and the statement. -/

namespace Sys2Proof.Machine

/-! ### An accepted write (R269) -/

section
variable {s : State} {rights i k : Nat} {field : Bool} {typ : Option Nat} {v : List Byte}

/-- A write that passes its checks is allowed by the state, and by the state for its value. -/
theorem odCheck_state {r : OdRow} (hrow : odRow i k = some r) (h : s.odCheck rights field i k typ v = (s, cOk)) :
    s.stateOk r k = true ∧ s.valueStateOk i k (leNat v) field = true := by
  have hstate : ¬ (!s.stateOk r k || !s.valueStateOk i k (leNat v) field) = true := by
    intro hno
    have hst := congrArg Prod.snd h
    unfold State.odCheck at hst
    rw [hrow] at hst
    dsimp only at hst
    rw [if_pos hno] at hst
    split_ifs at hst
    all_goals simp [cRights, cAccess, cState, cOk] at hst
  simpa using hstate

end

/-- A WRITE of one entry is on the row of the command that writes it. -/
theorem writesEntry_item {s : State} {f : List Byte} {i k typ : Nat} {n : Option Nat} {v : List Byte} (hop : fOp f = 0x11)
    (hb : fBody f = copItem i k typ 0 v) (hlen : v.length ≤ 1024) (hi : i < 65536) (hk : k < 256) (ht : typ < 256)
    (hn : valueIs n v = true) : writesEntry i k n s f = true := by
  unfold writesEntry
  rw [hop, hb, bodyItems_copItem hi hk ht (by omega)]
  simp [hn]

theorem writesEntry_of_WritesEntry {s u : State} {src : FrameSrc} {x : Session} {p : Peer} {f : List Byte} {i k typ : Nat} {v : List Byte}
    {n : Option Nat} (h : WritesEntry s src u x p f i k typ v) (hn : valueIs n v = true) : writesEntry i k n s f = true := by
  obtain ⟨-, hop, hb, hlen, hi, hk, ht, -⟩ := h
  exact writesEntry_item hop hb hlen hi hk ht hn

/-! ### A command by what it comes to -/

/-- What follows the answer to a command: WARM_RESET's reset, the wait for QUIET, or nothing (R264). -/
def cmdAfter (r : State × Nat) (n : Nat) : After :=
  if r.2 = cOk && n == 6 then .resets [5] else if r.2 = cOk && r.1.cmdPends n then .pend else .done

section
variable {u : State} {rights : Nat} {field : Bool} {typ : Nat} {v : List Byte}

/-- A command alone in its request that passes the checks of R269 and need not wait is run. -/
theorem writeItems_command (hwait : u.cmdWaits (leNat v) = false) (hok : u.odCheck rights field 0x1010 2 (some typ) v = (u, cOk)) :
    u.writeItems rights field true [{ index := 0x1010, sub := 2, typ := typ, value := v }] =
      some ((u.cmdRun (leNat v)).1, [(u.cmdRun (leNat v)).2], (u.cmdRun (leNat v)).2, cmdAfter (u.cmdRun (leNat v)) (leNat v)) := by
  have hone : u.checkItems rights field true [{ index := 0x1010, sub := 2, typ := typ, value := v }] = (u, [cOk]) := by
    rw [checkItems_one]
    exact congrArg (fun c : State × Nat => (c.1, [c.2])) hok
  have hcmd : ({ index := 0x1010, sub := 2, typ := typ, value := v } : Item).isCmd = true := rfl
  refine (if_neg (by simp [hwait])).trans ?_
  rw [hone]
  show (if (decide ((u.cmdRun (leNat v)).2 = cOk) && leNat v == 6) = true then
      some ((u.cmdRun (leNat v)).1, [(u.cmdRun (leNat v)).2], cOk, After.resets [5])
    else if (decide ((u.cmdRun (leNat v)).2 = cOk) && (u.cmdRun (leNat v)).1.cmdPends (leNat v)) = true then
      some ((u.cmdRun (leNat v)).1, [(u.cmdRun (leNat v)).2], cOk, After.pend)
    else some ((u.cmdRun (leNat v)).1, [(u.cmdRun (leNat v)).2], (u.cmdRun (leNat v)).2, After.done)) = _
  generalize u.cmdRun (leNat v) = r
  unfold cmdAfter
  split_ifs with hreset hpends
  · have hr : r.2 = cOk := by simp at hreset; exact hreset.1
    rw [hr]
  · have hr : r.2 = cOk := by simp at hpends; exact hpends.1
    rw [hr]
  · rfl

end

section
variable {s u : State} {src : FrameSrc} {x : Session} {p : Peer} {f : List Byte} {typ : Nat} {v : List Byte} {c : FrameSrc → Instr} {n : Nat}

/-- What a WRITE of the command entry leads to in the request's own state. -/
theorem serveReq_command (h : WritesEntry s src u x p f 0x1010 2 typ v) : u.serveReq x p f =
    (u.writeItems x.rights p.isField true [{ index := 0x1010, sub := 2, typ := typ, value := v }]).map (fun r =>
      { st := r.1, status := r.2.2.1, body := State.writtenBody [{ index := 0x1010, sub := 2, typ := typ, value := v }] r.2.1,
        after := r.2.2.2 }) := by
  obtain ⟨hreq, hop, hb, hlen, hi, hk, ht, -⟩ := h
  exact (serveReq_write (requests_limit hreq) hop).trans (writeReq_item hb hlen hi hk ht)

/-- The command of a row runs. -/
theorem exec_command (he : exec (c src) s = .next (s.copServe src (writesEntry 0x1010 2 (some n))))
    (h : WritesEntry s src u x p f 0x1010 2 typ v) (hn : leNat v = n) (hwait : u.cmdWaits n = false) :
    exec (c src) s = .next (written x p f 0x1010 2 typ (u.cmdRun n).1 (u.cmdRun n).2 (cmdAfter (u.cmdRun n) n)) := by
  have hserve := serveReq_command h
  have hrow := writesEntry_of_WritesEntry h (n := some n) (by simp [valueIs, hn])
  obtain ⟨hreq, hop, hb, -, -, -, -, hck⟩ := h
  subst hn
  rw [writeItems_command hwait hck, Option.map_some, writtenBody_one] at hserve
  exact exec_request he hreq hrow (by omega) hserve

/-- A command that no check of Table 11.4 refuses acts. -/
theorem exec_command_done {t : State} (he : exec (c src) s = .next (s.copServe src (writesEntry 0x1010 2 (some n))))
    (h : WritesEntry s src u x p f 0x1010 2 typ v) (hn : leNat v = n) (hwait : u.cmdWaits n = false) (hreason : u.cmdReason n = 0)
    (hdo : u.cmdDo n = t) : exec (c src) s = .next (written x p f 0x1010 2 typ t cOk (cmdAfter (t, cOk) n)) := by
  rw [exec_command he h hn hwait, cmdRun_done hreason hdo]

/-- A command that one of them refuses leaves its reason. -/
theorem exec_command_refused {r : Nat} (he : exec (c src) s = .next (s.copServe src (writesEntry 0x1010 2 (some n))))
    (h : WritesEntry s src u x p f 0x1010 2 typ v) (hn : leNat v = n) (hwait : u.cmdWaits n = false) (hreason : u.cmdReason n = r)
    (hr : r ≠ 0) : exec (c src) s = .next (written x p f 0x1010 2 typ (u.cmdRefused r) cRefused .done) := by
  rw [exec_command he h hn hwait, cmdRun_refused hreason hr]
  rfl

/-- A stop under way keeps a command waiting (R263). -/
theorem exec_command_waits (he : exec (c src) s = .next (s.copServe src (writesEntry 0x1010 2 (some n))))
    (h : WritesEntry s src u x p f 0x1010 2 typ v) (hn : leNat v = n) (hwait : u.cmdWaits n = true) :
    exec (c src) s = .next (frameWaits s src f) := by
  have hserve := serveReq_command h
  have hrow := writesEntry_of_WritesEntry h (n := some n) (by simp [valueIs, hn])
  have hnone : u.writeItems x.rights p.isField true [{ index := 0x1010, sub := 2, typ := typ, value := v }] = none :=
    if_pos (by simp [Item.isCmd, hn, hwait])
  rw [hnone] at hserve
  obtain ⟨⟨t, harr, hord, rfl⟩, hop, -⟩ := h
  refine exec_frame_none he harr hrow ?_
  rw [inOrder_serves hord (by omega), hserve]
  rfl

/-- An accepted command is one that Table 11.3 allows in the module's state. -/
theorem cmdAllowed_of_accepted (h : WritesEntry s src u x p f 0x1010 2 typ v) : State.cmdAllowed (leNat v) u.modState = true := by
  obtain ⟨-, -, -, -, -, -, -, hck⟩ := h
  obtain ⟨r, hrow⟩ := Option.isSome_iff_exists.mp (show (odRow 0x1010 2).isSome = true by decide +kernel)
  exact (odCheck_state hrow hck).2

end

theorem cmdWaits_idle {u : State} (h : u.siteStopping = false) (n : Nat) : u.cmdWaits n = false := by
  unfold State.cmdWaits
  rw [h]
  rfl

/-- After QUIESCE and TAKEOVER the answer waits while the stop is under way. -/
theorem cmdAfter_stop (t : State) {n : Nat} (hn : n = 5 ∨ n = 8) : cmdAfter (t, cOk) n = if t.siteStopping then .pend else .done := by
  rcases hn with rfl | rfl <;> rfl

/-- The states of Table 11.3 for each command. -/
theorem cmdAllowed_iff (st : Nat) : (State.cmdAllowed 1 st = true ↔ st = stQuiet) ∧ (State.cmdAllowed 2 st = true ↔ st = stArmed) ∧
    (State.cmdAllowed 3 st = true ↔ st = stRunning) ∧ (State.cmdAllowed 4 st = true ↔ st = stHeld) ∧
    (State.cmdAllowed 5 st = true ↔ st = stArmed ∨ st = stRunning ∨ st = stHeld) ∧ (State.cmdAllowed 6 st = true ↔ stBoot ≤ st) ∧
    (State.cmdAllowed 7 st = true ↔ stQuiet ≤ st ∧ st ≤ stHeld) ∧
    (State.cmdAllowed 8 st = true ↔ st = stArmed ∨ st = stRunning ∨ st = stHeld) := by
  have hbetween : stArmed ≤ st ∧ st ≤ stHeld ↔ st = stArmed ∨ st = stRunning ∨ st = stHeld := by
    simp only [stArmed, stRunning, stHeld]
    omega
  simp [State.cmdAllowed, hbetween]

/-! ### ARM (R118, R179, R221, R254, R333) -/

theorem restartColl_queues (s : State) : s.restartColl.uqNext = s.uqNext ∧ s.restartColl.qWait = s.qWait := by
  have hframe := restartColl_frame s
  generalize s.restartColl = t at hframe
  exact ⟨(congrArg State.uqNext hframe :), (congrArg State.qWait hframe :)⟩

theorem farFromLayout_queues (s : State) : s.farFromLayout.uqNext = s.uqNext ∧ s.farFromLayout.qWait = s.qWait := by
  have hframe := farFromLayout_frame s
  generalize s.farFromLayout = t at hframe
  exact ⟨(congrArg State.uqNext hframe :), (congrArg State.qWait hframe :)⟩

/-- ARM leaves the module ARMED, with its queues at their beginning, the TAP at rest and no stop or change of roles under way. -/
theorem armDo_settles (s : State) : s.armDo.modState = stArmed ∧ s.armDo.test.ir = .testLogicReset ∧ s.armDo.uqNext = [] ∧
    s.armDo.qWait = [] ∧ s.armDo.roleChange = false ∧ s.armDo.stopSent = false := by
  have hqueues : s.restore.resetQueues.restartColl.farFromLayout.uqNext = [] ∧
      s.restore.resetQueues.restartColl.farFromLayout.qWait = [] := by
    rw [(farFromLayout_queues _).1, (farFromLayout_queues _).2, (restartColl_queues _).1, (restartColl_queues _).2, resetQueues_eq]
    exact ⟨rfl, rfl⟩
  obtain ⟨t, hsettled⟩ : ∃ t : State, t = { s.restore.resetQueues.restartColl.farFromLayout with
    stopSent := false, roleChange := false, test := { s.restore.resetQueues.restartColl.farFromLayout.test with ir := .testLogicReset } } :=
    ⟨_, rfl⟩
  have harm : s.armDo = t.setModState stArmed := hsettled ▸ rfl
  have hmode := setModState_frame t stArmed
  refine ⟨armDo_modState s, ?_⟩
  rw [harm]
  generalize t.setModState stArmed = u at hmode
  obtain ⟨hnext, hwait⟩ := hqueues
  refine ⟨(congrArg (fun t : State => t.test.ir) hmode :).trans ?_, (congrArg State.uqNext hmode :).trans ?_,
    (congrArg State.qWait hmode :).trans ?_, (congrArg State.roleChange hmode :).trans ?_, (congrArg State.stopSent hmode :).trans ?_⟩
  all_goals rw [hsettled]
  · exact hnext
  · exact hwait

/-- Where no restore waits ARM leaves memory, the pinions and the Barrels. -/
theorem armDo_leaves {s : State} (hr : s.restart = none) :
    s.armDo.mem = s.mem ∧ s.armDo.slow = s.slow ∧ s.armDo.pinions = s.pinions ∧ s.armDo.barrels = s.barrels := by
  have hframe := armDo_frame s hr
  generalize s.armDo = t at hframe
  exact ⟨(congrArg State.mem hframe :), (congrArg State.slow hframe :), (congrArg State.pinions hframe :), (congrArg State.barrels hframe :)⟩

end Sys2Proof.Machine

open Sys2Proof Sys2Proof.Machine

/-- Settles O47: each command by whether Table 11.4 refuses it, all of them by the one operation that a write of the entry runs. -/
theorem commandsRun : Obligations.CommandsRun := by
  refine ⟨fun s u src x p f typ v h => ?commands, cmdAllowed_iff, fun s => ?arms⟩
  case commands =>
    intro ends wait
    have hallowed := cmdAllowed_of_accepted h
    refine ⟨fun hn => exec_command_done rfl h hn (by simp [State.cmdWaits]) rfl rfl,
      fun hn => exec_command_done rfl h hn (by simp [State.cmdWaits]) rfl rfl, fun hidle => ?runs, fun hstop c k hc hn => ?waits⟩
    case runs =>
      have hwait := cmdWaits_idle hidle
      refine ⟨fun hn hr => exec_command_done rfl h hn (hwait 1) hr rfl, fun hn hr => exec_command_refused rfl h hn (hwait 1) rfl hr,
        fun hn hclock => exec_command_done rfl h hn (hwait 2) ((cmdReason_run u).trans (if_neg (by omega))) rfl,
        fun hn hclock => exec_command_refused (r := 8) rfl h hn (hwait 2) ((cmdReason_run u).trans (if_pos hclock)) (by decide), fun hn => ?hold, fun hn => ?release,
        fun hn => ?quiesce, fun hn hrole => ?takeover, fun hn hrole => exec_command_refused (r := 9) rfl h hn (hwait 8)
          (by rw [cmdReason_takeover, hrole]; rfl) (by decide)⟩
      case hold =>
        rw [hn, (cmdAllowed_iff _).2.2.1] at hallowed
        exact exec_command_done rfl h hn (hwait 3) rfl ((cmdDo_hold u).trans (if_pos hallowed))
      case release =>
        rw [hn, (cmdAllowed_iff _).2.2.2.1] at hallowed
        exact exec_command_done rfl h hn (hwait 4) rfl ((cmdDo_release u).trans (if_pos hallowed))
      case quiesce =>
        have hexec := exec_command_done (c := .quiesce) rfl h hn (hwait 5) rfl rfl
        rw [cmdAfter_stop _ (.inl rfl)] at hexec
        exact hexec
      case takeover =>
        have hexec := exec_command_done (c := .takeover) rfl h hn (hwait 8) ((cmdReason_takeover u).trans (if_pos hrole)) rfl
        rw [cmdAfter_stop _ (.inr rfl)] at hexec
        exact hexec
    case waits =>
      have hwait : ∀ k, k ≠ 6 → k ≠ 7 → u.cmdWaits k = true := fun k h6 h7 => by simp [State.cmdWaits, hstop, h6, h7]
      simp only [List.mem_cons, Prod.mk.injEq, List.not_mem_nil, or_false] at hc
      rcases hc with ⟨rfl, rfl⟩ | ⟨rfl, rfl⟩ | ⟨rfl, rfl⟩ | ⟨rfl, rfl⟩ | ⟨rfl, rfl⟩ | ⟨rfl, rfl⟩
      all_goals exact exec_of_frameWaits (exec_command_waits rfl h hn (hwait _ (by decide) (by decide)))
  case arms =>
    obtain ⟨hmode, htap, hnext, hwaits, hrole, hstop⟩ := armDo_settles s
    refine ⟨hmode, htap, hnext, hwaits, hrole, hstop, fun hr => ?_⟩
    obtain ⟨hmem, -, hpinions, -⟩ := armDo_leaves hr
    exact ⟨hmem, hpinions, fun k hk => armDo_count s hr k hk⟩
end

section
/-! SUPPORT. The entries with a command of their own (11.3 and 11.4; R269, R280, R312): a row's WRITE and the end of a transfer on it, what
an accepted write does by its entry, and the statement. -/

namespace Sys2Proof.Machine

/-! ### A row and the frames on it -/

/-- The entries that a command of its own writes, each with the value that tells the commands of one entry apart. -/
def entryRows : List ((FrameSrc → Instr) × Nat × Nat × Option Nat) :=
  [(.fence, 0x9200, 2, some 1), (.retire, 0x9200, 2, some 2), (.readmit, 0x9200, 2, some 3), (.ftSet, 0x4000, 2, none),
   (.beatTable, 0x4300, 1, none), (.beatEntry, 0x4301, 2, none), (.layout, 0x2010, 2, none), (.roster, 0x6001, 1, none),
   (.programManifest, 0x1300, 1, none), (.retireMap, 0x9400, 1, none), (.operatorKeys, 0xA100, 1, none), (.jobKey, 0xA200, 1, none),
   (.fwImage, 0xA300, 1, none), (.rollbackCommit, 0xA300, 4, none), (.debugToken, 0xA500, 2, none), (.debugScope, 0xA500, 3, some 0),
   (.hbmBistStart, 0xF320, 1, none), (.prbsMode, 0xF310, 2, none)]

/-- Every command of the list serves the frames that write its entry. -/
theorem exec_of_entryRows {q : (FrameSrc → Instr) × Nat × Nat × Option Nat} (hq : q ∈ entryRows) (src : FrameSrc) (s : State) :
    exec (q.1 src) s = .next (s.copServe src (writesEntry q.2.1 q.2.2.1 q.2.2.2)) := by
  revert q
  simp only [entryRows, List.forall_mem_cons, List.not_mem_nil, false_imp_iff, implies_true, and_true]
  repeat' apply And.intro
  all_goals exact rfl

/-- None of the entries is the command entry or FW_ACTIVATE. -/
theorem entryRows_plain {q : (FrameSrc → Instr) × Nat × Nat × Option Nat} (hq : q ∈ entryRows) :
    q.2.1 ≠ 0x1010 ∧ (q.2.1, q.2.2.1) ≠ (0xA300, 2) := by
  have hall : entryRows.all (fun q => decide (q.2.1 ≠ 0x1010 ∧ (q.2.1, q.2.2.1) ≠ (0xA300, 2))) = true := by decide
  exact of_decide_eq_true (List.all_eq_true.mp hall q hq)

section
variable {s t u : State} {src : FrameSrc} {x : Session} {p : Peer} {f : List Byte} {i k : Nat} {n : Option Nat} {v : List Byte}

theorem sessions_mbWrite (s : State) (off : Nat) (bs : List Byte) : (s.mbWrite off bs).crown.sessions = s.crown.sessions := by
  induction bs generalizing s off with
  | nil => rfl
  | cons b bs ih => exact ih _ _

/-- Taking a frame leaves the sessions. -/
theorem Arrives.session (h : Arrives s src p f t) (id : Nat) : t.session id = s.session id := by
  obtain ⟨-, -, -, hsrc⟩ := h
  cases src with
  | field a q d g =>
    obtain ⟨-, -, -, rfl, -⟩ := hsrc
    rfl
  | mailbox =>
    obtain ⟨-, next, -, rfl⟩ := hsrc
    exact congrArg (fun l : List Session => l.find? (fun x => x.id == id)) (sessions_mbWrite s 4 _)

theorem value_of_complete {z : BlobXfer} {crc : Nat} (h : z.complete crc = some v) : z.value = some v := by
  obtain ⟨b, hb, hcrc⟩ := Option.bind_eq_some_iff.mp h
  split at hcrc
  · cases hcrc
    exact hb
  · cases hcrc

/-- The end of a transfer is on the row of the command that writes its entry. -/
theorem writesEntry_of_EndsTransfer (h : EndsTransfer s src u x p f i k v) (hn : valueIs n v = true) : writesEntry i k n s f = true := by
  obtain ⟨u0, z, ⟨t, harr, ⟨⟨hx, -⟩, -⟩, -⟩, hop, -, hz, hw, rfl, rfl, hv, -⟩ := h
  rw [harr.session] at hx
  unfold writesEntry
  rw [hop, hx]
  simp [hz, hw, value_of_complete hv, hn]

/-- A frame on a row is a WRITE, a WRITE_MULTI or a BLOB_END. -/
theorem writesEntry_op (h : writesEntry i k n s f = true) : fOp f = 0x11 ∨ fOp f = 0x13 ∨ fOp f = 0x1A := by
  unfold writesEntry at h
  split at h
  · next hop =>
    simp only [Bool.or_eq_true, decide_eq_true_eq, beq_iff_eq] at hop
    tauto
  · simp only [Bool.and_eq_true, beq_iff_eq] at h
    tauto

/-- On a row a frame does what its operation does. -/
theorem exec_onRow {c : FrameSrc → Instr} (he : exec (c src) s = .next (s.copServe src (writesEntry i k n))) (h : Arrives s src p f t)
    (hrow : writesEntry i k n s f = true) : exec (c src) s = if fOp f = 0x11 then exec (.write src) s
      else if fOp f = 0x13 then exec (.writeMulti src) s else exec (.blobEnd src) s := by
  rw [exec_frame he h hrow]
  rcases writesEntry_op hrow with hop | hop | hop
  · rw [if_pos hop, exec_frame (c := .write src) rfl h (isOp_of_fOp hop)]
  · rw [if_neg (by omega), if_pos hop, exec_frame (c := .writeMulti src) rfl h (isOp_of_fOp hop)]
  · rw [if_neg (by omega), if_neg (by omega), exec_frame (c := .blobEnd src) rfl h (isOp_of_fOp hop)]

/-- An accepted WRITE of an entry applies it and is answered. -/
theorem exec_entryWritten {c : Instr} {typ : Nat} (he : exec c s = .next (s.copServe src (writesEntry i k n)))
    (h : WritesEntry s src u x p f i k typ v) (hn : valueIs n v = true) (hcmd : i = 0x1010 → k ≠ 2) :
    exec c s = .next (written x p f i k typ ((u.odAttempt i k cOk v).odApply [(i, k, v)]) cOk
      (actResets [{ index := i, sub := k, typ := typ, value := v }])) := by
  have hrow := writesEntry_of_WritesEntry h hn
  obtain ⟨hreq, hop, hb, hlen, hi, hk, ht, hck⟩ := h
  have hexec := (exec_writeEntry he hreq hrow hop hb hlen hi hk ht hcmd).1 (congrArg Prod.snd hck)
  rw [hck] at hexec
  exact hexec

/-- So does the end of a transfer. -/
theorem exec_entryTransferred {c : Instr} (he : exec c s = .next (s.copServe src (writesEntry i k n)))
    (h : EndsTransfer s src u x p f i k v) (hn : valueIs n v = true) (hcmd : i = 0x1010 → k ≠ 2) (hact : (i, k) ≠ (0xA300, 2)) :
    exec c s = .next (State.reply x p f { st := (u.odAttempt i k cOk v).odApply [(i, k, v)], status := cOk, body := [], after := .done }) := by
  have hexec := exec_endsTransfer he h (writesEntry_of_EndsTransfer h hn) hcmd
  rw [actResets_done hact] at hexec
  exact hexec

end

/-! ### What an accepted write does -/

section
variable (s : State) {i k typ : Nat} (v : List Byte)

theorem odDo_number (hrow : (odRow i k).map (·.typ) = some typ) (ht : typ < 11) : s.odDo i k v = s.numWrite i k (leNat v) := by
  obtain ⟨r, hr, rfl⟩ := Option.map_eq_some_iff.mp hrow
  unfold State.odDo
  rw [hr]
  exact if_neg (by omega)

theorem odDo_text (hrow : (odRow i k).map (·.typ) = some typ) (ht : 11 ≤ typ) : s.odDo i k v = s.textWrite i k v := by
  obtain ⟨r, hr, rfl⟩ := Option.map_eq_some_iff.mp hrow
  unfold State.odDo
  rw [hr]
  exact if_pos ht

/-- One accepted write publishes a table where it changes what drives it. -/
theorem odApply_one : s.odApply [(i, k, v)] = (s.odDo i k v).publish (0 + if (State.drivenChanged s (s.odDo i k v)).isEmpty then 0 else 1)
    ([] ++ State.drivenChanged s (s.odDo i k v)) := rfl

theorem odApply_undriven (h : State.drivenChanged s (s.odDo i k v) = []) : s.odApply [(i, k, v)] = s.odDo i k v := by
  rw [odApply_one, h]
  exact if_pos rfl

theorem odDo_ftSet : s.odDo 0x4000 2 v = s.ftWritten (leNat v) := odDo_number s v (typ := 10) (by decide +kernel) (by decide)
theorem odDo_beatTable : s.odDo 0x4300 1 v = writeTable s v := odDo_text s v (typ := 12) (by decide +kernel) (by decide)
theorem odDo_beatEntry : s.odDo 0x4301 2 v = writeBeat s (s.odGet 0x4301 1) v := odDo_text s v (typ := 12) (by decide +kernel) (by decide)
theorem odDo_roster : s.odDo 0x6001 1 v = s.rosterWritten v := odDo_text s v (typ := 12) (by decide +kernel) (by decide)
theorem odDo_programManifest : s.odDo 0x1300 1 v = ((s.blobSet 0x1300 1 v).blobSet 0x1300 2 (sha512 v)).odSet 0x1300 3 (rdLe v 8 4) :=
  odDo_text s v (typ := 12) (by decide +kernel) (by decide)
theorem odDo_layout : s.odDo 0x2010 2 v = (s.blobSet 0x2010 2 v).layoutWritten := odDo_text s v (typ := 12) (by decide +kernel) (by decide)
theorem odDo_retireMap : s.odDo 0x9400 1 v = if s.blobGet 0x9400 1 = v then s else (s.blobSet 0x9400 1 v).notify 0x9400 1 :=
  odDo_text s v (typ := 12) (by decide +kernel) (by decide)
theorem odDo_operatorKeys : s.odDo 0xA100 1 v = s.blobSet 0xA100 1 v := odDo_text s v (typ := 12) (by decide +kernel) (by decide)
theorem odDo_jobKey : s.odDo 0xA200 1 v = (s.blobSet 0xA200 1 v).odSet 0xA200 2 1 := odDo_text s v (typ := 12) (by decide +kernel) (by decide)
theorem odDo_fwImage : s.odDo 0xA300 1 v = s.fwStore v := odDo_text s v (typ := 12) (by decide +kernel) (by decide)
theorem odDo_rollbackCommit : s.odDo 0xA300 4 v = s.fwCommit := odDo_number s v (typ := 2) (by decide +kernel) (by decide)
theorem odDo_debugToken : s.odDo 0xA500 2 v = s.unlock v := odDo_text s v (typ := 12) (by decide +kernel) (by decide)
theorem odDo_debugScope : s.odDo 0xA500 3 v = s.lockDebug := odDo_number s v (typ := 2) (by decide +kernel) (by decide)
theorem odDo_hbmBistStart : s.odDo 0xF320 1 v = s.startBist (leNat v) := odDo_number s v (typ := 2) (by decide +kernel) (by decide)
theorem odDo_prbsMode : s.odDo 0xF310 2 v = s.prbsWritten (leNat v) := odDo_number s v (typ := 2) (by decide +kernel) (by decide)

theorem odDo_bezel (h : s.bezelCheck (s.odGet 0x9200 1) (leNat v) = 0) : s.odDo 0x9200 2 v = s.bezelDo (s.odGet 0x9200 1) (leNat v) :=
  (odDo_number s v (typ := 2) (by decide +kernel) (by decide)).trans (if_pos h)

theorem odDo_fwActivate {k : Nat} (h : s.store.verified = some k) :
    s.odDo 0xA300 2 v = s.ctlWrite (fun c => { c with preferred := k, trial := true }) := by
  refine (odDo_number s v (typ := 2) (by decide +kernel) (by decide)).trans (?_ : (s.store.verified.map s.fwActivate).getD s = _)
  rw [h]
  rfl

end

end Sys2Proof.Machine

open Sys2Proof Sys2Proof.Machine

/-- Settles O48: a row's WRITE and the end of a transfer on it as the one write of its entry, and each entry's write by its equation. -/
theorem entriesWritten : Obligations.EntriesWritten := by
  unfold Obligations.EntriesWritten
  intro rows
  have hserve : ∀ {c : FrameSrc → Instr} {i k : Nat} {n : Option Nat}, (c, i, k, n) ∈ rows →
      (∀ src s, exec (c src) s = .next (s.copServe src (writesEntry i k n))) ∧ i ≠ 0x1010 ∧ (i, k) ≠ (0xA300, 2) :=
    fun hrow => ⟨exec_of_entryRows hrow, entryRows_plain hrow⟩
  refine ⟨fun c i k n hrow s u src x p f v hn => ?accepted, fun s u src x p f typ v h => ?activated,
    fun c i k n hrow s t src p f h hwrites => exec_onRow ((hserve hrow).1 src s) h hwrites, fun s i k v h => odApply_undriven s v h,
    fun s v => ⟨odDo_ftSet s v, odDo_beatTable s v, odDo_beatEntry s v, odDo_roster s v, odDo_programManifest s v, odDo_layout s v,
      odDo_retireMap s v, odDo_operatorKeys s v, odDo_jobKey s v, odDo_fwImage s v, odDo_rollbackCommit s v, odDo_debugToken s v,
      odDo_debugScope s v, odDo_hbmBistStart s v, odDo_prbsMode s v, odDo_bezel s v, fun k hk => odDo_fwActivate s v hk⟩⟩
  case accepted =>
    obtain ⟨hexec, hcmd, hact⟩ := hserve hrow
    refine ⟨fun typ h => ?_, fun h => exec_entryTransferred (hexec src s) h hn (fun hi => absurd hi hcmd) hact⟩
    have hwritten := exec_entryWritten (hexec src s) h hn (fun hi => absurd hi hcmd)
    rw [actResets_done hact] at hwritten
    exact hwritten
  case activated =>
    exact exec_entryWritten (c := .fwActivate src) (n := none) rfl h rfl (by decide)
end

section
/-! SUPPORT. What the writes of the dictionary leave alone (R269, R270): the work that a write stays clear of, what announcing, publishing
and answering touch beside it, and each entry's write by that. -/

namespace Sys2Proof.Machine

/-! ### What most writes stay clear of -/

/-- Memory, pinions, Barrels and objects. -/
def workPart (s : State) : FMap Byte × FMap Byte × FMap Pinion × FMap Barrel × FMap SyncObj :=
  (s.mem, s.slow, s.pinions, s.barrels, s.syncs)

/-- The same, and the module state. -/
def stayPart (s : State) : (FMap Byte × FMap Byte × FMap Pinion × FMap Barrel × FMap SyncObj) × Nat := (workPart s, s.modState)

theorem workPart_iff {s t : State} : workPart t = workPart s ↔
    t.mem = s.mem ∧ t.slow = s.slow ∧ t.pinions = s.pinions ∧ t.barrels = s.barrels ∧ t.syncs = s.syncs := by
  simp [workPart]

theorem stayPart_iff {s t : State} : stayPart t = stayPart s ↔
    (t.mem = s.mem ∧ t.slow = s.slow ∧ t.pinions = s.pinions ∧ t.barrels = s.barrels ∧ t.syncs = s.syncs) ∧ t.modState = s.modState := by
  rw [← workPart_iff]
  simp [stayPart]

theorem stayPart_odSet (s : State) {i k : Nat} (v : Nat) (h : odKey 0x1010 1 ≠ odKey i k) : stayPart (s.odSet i k v) = stayPart s :=
  congrArg (Prod.mk (workPart s)) (odGet_odSet_ne s v h)

theorem stayPart_bumpBy (s : State) {i k : Nat} (n : Nat) (h : odKey 0x1010 1 ≠ odKey i k) : stayPart (s.bumpBy i k n) = stayPart s :=
  stayPart_odSet s _ h

/-- A loop keeps what each of its rounds keeps. -/
theorem foldl_keeps {α β : Type} (g : State → α) {step : State → β → State} (h : ∀ s b, g (step s b) = g s) (l : List β) (s : State) :
    g (l.foldl step s) = g s := by
  induction l generalizing s with
  | nil => rfl
  | cons b l ih => exact (ih (step s b)).trans (h s b)

/-! ### What announcing, publishing and answering touch -/

/-- The counters of requests and lost events, GENERATION, and what the layout sets of the far ports and of the time role. -/
def sideKeys : List Nat := [odKey 0x1210 5, odKey 0x1210 6, odKey 0x1101 1, odKey 0x6000 1, odKey 0x6000 2, odKey 0x4010 2]

/-- `t` is `s` but for the Crown, the wires, the table and the shadow's count, the far sessions, and the entries of `sideKeys`. -/
def SideFrom (s t : State) : Prop :=
  { t with crown := s.crown, out := s.out, od := s.od, shadowSeq := s.shadowSeq, table := s.table, far := s.far } = s ∧
    ∀ i k, odKey i k ∉ sideKeys → t.odGet i k = s.odGet i k

section
variable {s t u : State}

theorem SideFrom.refl (s : State) : SideFrom s s := ⟨rfl, fun _ _ _ => rfl⟩

theorem SideFrom.trans (h1 : SideFrom s t) (h2 : SideFrom t u) : SideFrom s u := by
  obtain ⟨hframe1, hod1⟩ := h1
  obtain ⟨hframe2, hod2⟩ := h2
  refine ⟨?_, fun i k hk => (hod2 i k hk).trans (hod1 i k hk)⟩
  have hframe := congrArg (fun x : State =>
    { x with crown := s.crown, out := s.out, od := s.od, shadowSeq := s.shadowSeq, table := s.table, far := s.far }) hframe2
  exact hframe.trans hframe1

theorem CrownOnly.side (h : CrownOnly s t) : SideFrom s t := by
  refine ⟨?_, fun i k _ => h.odGet i k⟩
  have hframe := congrArg (fun x : State => { x with od := s.od, shadowSeq := s.shadowSeq, table := s.table, far := s.far }) h
  exact hframe

theorem sideFrom_odSet (s : State) {i k : Nat} (v : Nat) (h : odKey i k ∈ sideKeys) : SideFrom s (s.odSet i k v) :=
  ⟨rfl, fun _ _ hab => odGet_odSet_ne s v (fun he => hab (by rw [he]; exact h))⟩

theorem sideFrom_notifyVal (s : State) (i k v : Nat) : SideFrom s (s.notifyVal i k v) := by
  refine ⟨?_, fun a b hab => notifyVal_odGet s i k v a b (ne_of_mem_of_not_mem ?_ hab).symm⟩
  · have hframe := congrArg (fun x : State => { x with shadowSeq := s.shadowSeq, table := s.table, far := s.far }) (notifyVal_frame s i k v)
    exact hframe
  · simp [sideKeys]

theorem sideFrom_publish (s : State) (n : Nat) (l : List (Nat × Nat)) : SideFrom s (s.publish n l) := by
  refine ⟨?_, fun a b hab => publish_odGet s n l a b (ne_of_mem_of_not_mem ?_ hab).symm (ne_of_mem_of_not_mem ?_ hab).symm⟩
  · exact congrArg (fun x : State => { x with far := s.far }) (publish_frame s n l)
  · simp [sideKeys]
  · simp [sideKeys]

theorem sideFrom_foldl {β : Type} {step : State → β → State} (h : ∀ s b, SideFrom s (step s b)) (l : List β) (s : State) :
    SideFrom s (l.foldl step s) := by
  induction l generalizing s with
  | nil => exact .refl s
  | cons b l ih => exact (h s b).trans (ih _)

theorem SideFrom.work (h : SideFrom s t) : workPart t = workPart s := (congrArg workPart h.1 :)
theorem SideFrom.modState (h : SideFrom s t) : t.modState = s.modState := h.2 _ _ (by decide)
theorem SideFrom.stay (h : SideFrom s t) : stayPart t = stayPart s := Prod.ext h.work h.modState
theorem SideFrom.blobGet (h : SideFrom s t) (i k : Nat) : t.blobGet i k = s.blobGet i k := (congrArg (fun x : State => x.blobGet i k) h.1 :)
theorem SideFrom.time (h : SideFrom s t) : t.time = s.time := (congrArg State.time h.1 :)
theorem SideFrom.store (h : SideFrom s t) : t.store = s.store := (congrArg State.store h.1 :)
theorem SideFrom.test (h : SideFrom s t) : t.test = s.test := (congrArg State.test h.1 :)
theorem SideFrom.beats (h : SideFrom s t) : t.beats = s.beats := (congrArg State.beats h.1 :)
theorem SideFrom.beat (h : SideFrom s t) (i : Nat) : t.beat i = s.beat i := (congrArg (fun x : State => x.beat i) h.1 :)
theorem SideFrom.unit (h : SideFrom s t) (l i : Nat) : t.unit l i = s.unit l i := (congrArg (fun x : State => x.unit l i) h.1 :)
theorem SideFrom.faultInfo (h : SideFrom s t) : t.faultInfo = s.faultInfo := (congrArg State.faultInfo h.1 :)
theorem SideFrom.siteStopping (h : SideFrom s t) : t.siteStopping = s.siteStopping := (congrArg State.siteStopping h.1 :)
theorem SideFrom.roleChange (h : SideFrom s t) : t.roleChange = s.roleChange := (congrArg State.roleChange h.1 :)
theorem SideFrom.changes (h : SideFrom s t) : t.changes = s.changes := (congrArg State.changes h.1 :)
theorem SideFrom.coll (h : SideFrom s t) : t.coll = s.coll := (congrArg State.coll h.1 :)
theorem SideFrom.mem (h : SideFrom s t) : t.mem = s.mem := (congrArg State.mem h.1 :)
theorem SideFrom.slow (h : SideFrom s t) : t.slow = s.slow := (congrArg State.slow h.1 :)
theorem SideFrom.pinions (h : SideFrom s t) : t.pinions = s.pinions := (congrArg State.pinions h.1 :)
theorem SideFrom.barrels (h : SideFrom s t) : t.barrels = s.barrels := (congrArg State.barrels h.1 :)
theorem SideFrom.syncs (h : SideFrom s t) : t.syncs = s.syncs := (congrArg State.syncs h.1 :)
theorem SideFrom.plat (h : SideFrom s t) : t.plat = s.plat := (congrArg State.plat h.1 :)

/-- Far sessions end (R210). -/
theorem sideFrom_dropSessions (s : State) : SideFrom s s.dropSessions := by
  have hfar : ∀ (a : State) (x : Far), SideFrom a { a with far := x } := fun a x => ⟨rfl, fun _ _ _ => rfl⟩
  refine (hfar s { s.far with msgs := [] }).trans (sideFrom_foldl (fun a c => ?_) _ _)
  dsimp only
  split
  · exact hfar a _
  · exact (hfar a _).trans (sideFrom_notifyVal _ 0x6010 2 0)

/-- The layout sets the far ports (R246). -/
theorem sideFrom_farFromLayout (s : State) : SideFrom s s.farFromLayout := by
  unfold State.farFromLayout
  dsimp only [List.foldl]
  refine SideFrom.trans ?_ (sideFrom_publish _ _ _)
  exact (sideFrom_odSet s _ (by decide)).trans (sideFrom_odSet _ _ (by decide))

theorem sideFrom_roleFromLayout (s : State) : SideFrom s s.roleFromLayout := sideFrom_odSet s _ (by decide)

theorem sideFrom_layoutWritten (s : State) : SideFrom s s.layoutWritten := by
  have hlayout := (sideFrom_farFromLayout s).trans (sideFrom_roleFromLayout _)
  unfold State.layoutWritten
  dsimp only
  split
  · exact hlayout
  · exact hlayout.trans (sideFrom_dropSessions _)

/-- An answer, at once or later. -/
theorem sideFrom_reply (x : Session) (p : Peer) (f : List Byte) {r : Reply} (h : r.after = .done ∨ r.after = .pend) :
    SideFrom r.st (State.reply x p f r) := (sideFrom_odSet r.st _ (by decide)).trans (crownOnly_reply x p f r h).side

/-- Publishing what an accepted write has changed. -/
theorem sideFrom_odApply (s : State) (i k : Nat) (v : List Byte) : SideFrom (s.odDo i k v) (s.odApply [(i, k, v)]) := by
  rw [odApply_one]
  exact sideFrom_publish _ _ _

end

/-! ### Each entry's write -/

section
variable (s : State)

theorem blobGet_blobSet_ne {i j k l : Nat} (v : List Byte) (h : odKey k l ≠ odKey i j) : (s.blobSet i j v).blobGet k l = s.blobGet k l :=
  fget_fput_other _ _ _ _ h

/-- FT_SET (R149). -/
theorem stayPart_ftWritten (n : Nat) : stayPart (s.ftWritten n) = stayPart s :=
  stayPart_odSet (i := 0x4010) (k := 1) (s.setFt (sInt 64 n)) 1 (by decide)

theorem stayPart_writeTable (b : List Byte) : stayPart (writeTable s b) = stayPart s :=
  foldl_keeps stayPart (fun a i => (rfl : stayPart (a.setBeat i (beatOf (slice b (32 * i) 32))) = _)) _ { s with beats := [] }

theorem beat_foldl_setBeat (g : Nat → Beat) (l : List Nat) {i : Nat} (h : i ∈ l ∨ s.beat i = g i) :
    (l.foldl (fun (a : State) i => a.setBeat i (g i)) s).beat i = g i := by
  induction l generalizing s with
  | nil => simpa using h
  | cons j l ih =>
    refine ih (s.setBeat j (g j)) ?_
    by_cases hij : i = j
    · exact .inr (by rw [hij, beat_setBeat_same])
    · rw [beat_setBeat_ne _ _ hij]
      exact h.imp_left (fun hi => (List.mem_cons.mp hi).resolve_left hij)

/-- The whole table is the one written (R158). -/
theorem beat_writeTable (b : List Byte) {i : Nat} (h : i < 1024) : (writeTable s b).beat i = beatOf (slice b (32 * i) 32) :=
  beat_foldl_setBeat { s with beats := [] } (fun i => beatOf (slice b (32 * i) 32)) _ (.inl (List.mem_range.mpr h))

/-- The roster, with its list of sites in order (R316). -/
theorem rosterWritten_effect (b : List Byte) : stayPart (s.rosterWritten b) = stayPart s ∧ (s.rosterWritten b).blobGet 0x6001 1 = b := by
  have hrole := sideFrom_roleFromLayout
    ((((s.blobSet 0x6001 1 b).odSet 0x6001 2 (s.odGet 0xA400 2)).odSet 0x7600 1 (rdLe b 0x20 1)).blobSet 0x7600 3 (slice b 0x20 64))
  refine ⟨hrole.stay.trans ?_, (hrole.blobGet _ _).trans ?_⟩
  · exact (stayPart_odSet _ _ (by decide)).trans (stayPart_odSet (s.blobSet 0x6001 1 b) _ (by decide))
  · exact (blobGet_blobSet_ne _ _ (by decide)).trans (blobGet_blobSet_same s 0x6001 1 b)

/-- The retirement map, announced where it changes (R298). -/
theorem retireMapWritten_effect (b : List Byte) :
    stayPart (if s.blobGet 0x9400 1 = b then s else (s.blobSet 0x9400 1 b).notify 0x9400 1) = stayPart s ∧
      (if s.blobGet 0x9400 1 = b then s else (s.blobSet 0x9400 1 b).notify 0x9400 1).blobGet 0x9400 1 = b := by
  have hnotify := sideFrom_notifyVal (s.blobSet 0x9400 1 b) 0x9400 1 ((s.blobSet 0x9400 1 b).odGet 0x9400 1)
  split
  · next hsame => exact ⟨rfl, hsame⟩
  · exact ⟨hnotify.stay, (hnotify.blobGet _ _).trans (blobGet_blobSet_same s 0x9400 1 b)⟩

theorem stayPart_mapSet (t1 bit : Nat) (on : Bool) : stayPart (s.mapSet t1 bit on) = stayPart s := (sideFrom_notifyVal _ _ _ _).stay

/-- Marks of whole trains in the retirement map (R298). -/
theorem stayPart_mapTrain (level index : Nat) (on : Bool) : stayPart (s.mapTrain level index on) = stayPart s :=
  foldl_keeps stayPart (fun a _ => stayPart_mapSet a _ _ on) _ s

/-- FENCE of a train: memory and objects stay, and a unit in service has its Bezel closed (R295). -/
theorem fenceTrain_effect (level index : Nat) : (s.fenceTrain level index).mem = s.mem ∧ (s.fenceTrain level index).syncs = s.syncs ∧
    (s.fenceTrain level index).modState = s.modState ∧
    ((s.unit level index).st = 0 → ((s.fenceTrain level index).unit level index).st = 1) := by
  unfold State.fenceTrain
  dsimp only
  split
  · next hclosed =>
    refine ⟨rfl, rfl, rfl, fun hopen => ?_⟩
    simp [hopen] at hclosed
  · refine ⟨rfl, rfl, rfl, fun _ => ?_⟩
    exact (congrArg UnitSt.st (unit_unitMod_same s level index (fun u => { u with st := 1, iso := true, fenced := true })) :)

/-! The firmware store (R310 to R312). -/

theorem ctlWrite_effect (g : CtlBlock → CtlBlock) : stayPart (s.ctlWrite g) = stayPart s ∧
    (s.ctlWrite g).store.rollback = s.store.rollback ∧ (s.ctlWrite g).plat = s.plat := by
  unfold State.ctlWrite
  dsimp only
  split <;> exact ⟨rfl, rfl, rfl⟩

theorem fwStore_effect (b : List Byte) : stayPart (s.fwStore b) = stayPart s ∧
    (s.fwStore b).store.verified = some (1 - s.store.running) := by
  have hslot : ∀ k, stayPart (s.slotWrite k b) = stayPart s := fun k => by
    unfold State.slotWrite
    split <;> rfl
  exact ⟨(ctlWrite_effect (s.slotWrite (1 - s.store.running) b) _).1.trans (hslot _), rfl⟩

theorem fwCommit_effect : stayPart s.fwCommit = stayPart s ∧
    s.fwCommit.store.rollback = max s.fuseRollback (fwRollback (s.slotManifest s.store.running)) := by
  unfold State.fwCommit
  dsimp only
  split
  · exact ⟨(ctlWrite_effect _ _).1, (ctlWrite_effect _ _).2.1⟩
  · exact ⟨rfl, rfl⟩

/-- The fuses show what a commit has raised the counter to (R311). -/
theorem fuseRollback_fwCommit : s.fwCommit.fuseRollback = max s.fuseRollback (fwRollback (s.slotManifest s.store.running)) := by
  show max (fwRollback factoryManifest) s.fwCommit.store.rollback = _
  rw [(fwCommit_effect s).2]
  show max _ (max (max (fwRollback factoryManifest) s.store.rollback) _) = max (max (fwRollback factoryManifest) s.store.rollback) _
  omega

/-! Debug, BIST and PRBS (R317, R318, R334, R335). -/

theorem stayPart_dropJobKey : stayPart s.dropJobKey = stayPart s :=
  (sideFrom_dropSessions _).stay.trans (stayPart_odSet (s.blobSet 0xA200 1 []) 0 (by decide))

theorem unlock_effect (b : List Byte) : stayPart (s.unlock b) = stayPart s ∧ (s.unlock b).odGet 0xA500 3 = rdLe b 4 1 ∧
    (s.unlock b).test.debugSecs = rdLe b 8 4 := by
  have hscope : ∀ a : State, stayPart (State.odSet { a with test := { a.test with debugSecs := rdLe b 8 4 } } 0xA500 3 (rdLe b 4 1)) =
      stayPart a := fun a => stayPart_odSet _ _ (by decide)
  refine ⟨?_, odGet_odSet_same _ _ _ _, rfl⟩
  unfold State.unlock
  dsimp only
  refine (hscope _).trans ?_
  split
  · exact stayPart_dropJobKey s
  · rfl

theorem lockDebug_effect : stayPart s.lockDebug = stayPart s ∧ s.lockDebug.odGet 0xA500 3 = 0 :=
  ⟨stayPart_odSet { s with test := { s.test with debugSecs := 0 } } 0 (by decide), odGet_odSet_same _ _ _ _⟩

theorem startBist_effect (sel : Nat) : (s.startBist sel).pinions = s.pinions ∧ (s.startBist sel).syncs = s.syncs ∧
    (s.startBist sel).modState = s.modState ∧ (s.startBist sel).odGet 0xF320 2 = 1 ∧ (s.startBist sel).test.bist = sel := by
  refine ⟨rfl, rfl, ?_, ?_, rfl⟩
  · exact (odGet_odSet_ne _ _ (by decide)).trans (odGet_odSet_ne _ _ (by decide))
  · exact (odGet_odSet_ne _ _ (by decide)).trans (odGet_odSet_same _ _ _ _)

/-- The numbers that a write of PRBS_MODE leaves: its own, and all but the VDL link's. -/
theorem prbsSample_keeps (i k : Nat) : stayPart s.prbsSample = stayPart s ∧ s.prbsSample.odGet i k = s.odGet i k := by
  unfold State.prbsSample
  split <;> exact ⟨rfl, rfl⟩

theorem prbsWritten_effect (n : Nat) : stayPart (s.prbsWritten n) = stayPart s ∧ (s.prbsWritten n).odGet 0xF310 2 = n := by
  have hmode : stayPart (s.odSet 0xF310 2 n) = stayPart s ∧ (s.odSet 0xF310 2 n).odGet 0xF310 2 = n :=
    ⟨stayPart_odSet s n (by decide), odGet_odSet_same s 0xF310 2 n⟩
  unfold State.prbsWritten
  dsimp only
  split
  · split
    · exact ⟨(stayPart_odSet _ 0 (by decide)).trans hmode.1, (odGet_odSet_ne _ 0 (by decide)).trans hmode.2⟩
    · exact hmode
  · obtain ⟨hstay, hval⟩ := prbsSample_keeps (s.odSet 0xF310 2 n) 0xF310 2
    split
    · exact ⟨((stayPart_odSet _ 1 (by decide)).trans (stayPart_bumpBy _ 1 (by decide))).trans (hstay.trans hmode.1),
        ((odGet_odSet_ne _ 1 (by decide)).trans (odGet_bump_ne _ (by decide))).trans (hval.trans hmode.2)⟩
    · exact ⟨hstay.trans hmode.1, hval.trans hmode.2⟩

end

end Sys2Proof.Machine
end

section
/-! SUPPORT. What the commands of OD 0x1010.02 do to the module's state (Table 11.3): the entries into RUNNING, QUIET and FAULTED, the stop of a
site job of one module, and a warm reset behind an answer. -/

namespace Sys2Proof.Machine

section
variable {s t : State}

/-- A change of the module state leaves the work of the module. -/
theorem workPart_setModState (s : State) (st : Nat) : workPart (s.setModState st) = workPart s :=
  (congrArg workPart (setModState_frame s st) :)

theorem crownOnly_answerWaiting (s : State) (status : Nat) : CrownOnly s (s.answerWaiting status) := by
  unfold State.answerWaiting
  split
  · exact .refl s
  · exact (crownOnly_sesMod s _ _).trans ((crownOnly_copSend _ _ _).trans ((crownOnly_crown _ _).trans (crownOnly_notifyFlush _)))

/-! ### RUNNING (R155, R268) -/

theorem stayPart_rearm (s : State) (i n : Nat) : stayPart (s.rearm i n) = stayPart s :=
  (congrArg stayPart (rearm_frame s i n) :)

theorem stayPart_skipLate (s : State) (i : Nat) : stayPart (s.skipLate i) = stayPart s := by
  unfold State.skipLate
  dsimp only
  split
  · exact ((sideFrom_notifyVal _ _ _ _).stay.trans (stayPart_bumpBy (i := 0x4420) (k := 2) _ _ (by decide))).trans (stayPart_rearm s i _)
  · rfl

theorem enterRunning_effect (s : State) : s.enterRunning.modState = stRunning ∧ workPart s.enterRunning = workPart s := by
  have hskip : stayPart s.enterRunning = stayPart ((s.odSet 0x1010 6 0).setModState stRunning) := foldl_keeps stayPart stayPart_skipLate _ _
  exact ⟨(congrArg Prod.snd hskip).trans (setModState_modState _ _), (congrArg Prod.fst hskip).trans (workPart_setModState _ _)⟩

/-! ### QUIET, and the stop of a site job of one module (R253, R266) -/

/-- The entry into QUIET with no change pending. -/
theorem enterQuiet_effect (h : s.changes = []) : s.enterQuiet.modState = stQuiet ∧ workPart s.enterQuiet = workPart s ∧
    s.enterQuiet.siteStopping = false ∧ s.enterQuiet.roleChange = s.roleChange := by
  have hcount : workPart s.countStop = workPart s ∧ s.countStop.roleChange = s.roleChange ∧ s.countStop.changes = s.changes := by
    unfold State.countStop
    split <;> exact ⟨rfl, rfl, rfl⟩
  obtain ⟨hwork, hrole, hchanges⟩ := hcount
  unfold State.enterQuiet
  dsimp only
  generalize s.countStop = a at hwork hrole hchanges
  generalize hb : ({ a with siteStopping := false, coll := _, qWait := [] } : State) = b
  have hbwork : workPart b = workPart a := by rw [← hb]; rfl
  have hbrole : b.roleChange = a.roleChange := by rw [← hb]
  have hbchanges : b.changes = [] := by rw [← hb]; exact hchanges.trans h
  have hbstop : b.siteStopping = false := by rw [← hb]
  clear hb
  have hframe := setModState_frame b stQuiet
  have hmode := setModState_modState b stQuiet
  have hquiet := workPart_setModState b stQuiet
  generalize b.setModState stQuiet = c at hframe hmode hquiet
  obtain ⟨ds, hds⟩ := takeChanges_none (s := c) ((congrArg State.changes hframe :).trans hbchanges)
  have hsettle : c.settleChanges = withDieEsc c ds := (if_pos (by rw [hmode]; rfl)).trans hds
  rw [hsettle]
  have hanswer := (crownOnly_answerWaiting (withDieEsc c ds) 0).side
  refine ⟨hanswer.modState.trans hmode, hanswer.work.trans (hquiet.trans (hbwork.trans hwork)),
    hanswer.siteStopping.trans ((congrArg State.siteStopping hframe :).trans hbstop),
    hanswer.roleChange.trans ((congrArg State.roleChange hframe :).trans (hbrole.trans hrole))⟩

/-- A site job of one module tells no other. -/
theorem siteStopSend_alone (h : ∀ m ∈ s.siteMembers, m = s.smn) (reason origin : Nat) :
    ∃ b, s.siteStopSend reason origin = { s with stopSent := b } := by
  have hothers : s.siteMembers.filter (· ≠ s.smn) = [] := List.filter_eq_nil_iff.mpr (fun m hm => by simp [h m hm])
  unfold State.siteStopSend
  rw [hothers]
  split
  · exact ⟨true, rfl⟩
  · exact ⟨s.stopSent, rfl⟩

/-- QUIESCE stops the module, whether it runs a site job of its own or none. -/
theorem quiesceDo_alone (halone : ∀ m ∈ s.siteMembers, m = s.smn) (hidle : s.siteStopping = false) (hon : s.queuesOn = true) :
    ∃ b t, SideFrom { s with siteStopping := true, stopSent := b } t ∧ s.quiesceDo = t.stopSettle := by
  unfold State.quiesceDo State.stopJob
  split
  · next hjob =>
    obtain ⟨b, hsend⟩ := siteStopSend_alone (s := { s with siteStopping := true }) halone 3 s.smn
    refine ⟨b, _, sideFrom_dropSessions _, ?_⟩
    rw [if_pos (by simp [hon, hidle, hjob]), hsend]
  · exact ⟨s.stopSent, _, .refl _, rfl⟩

/-- A stop waits for what the queues have started; then QUIET is entered. -/
theorem quiesceDo_effect (halone : (∀ m ∈ s.siteMembers, m = s.smn) ∧ s.changes = []) (hidle : s.siteStopping = false)
    (hon : s.queuesOn = true) : s.quiesceDo.roleChange = s.roleChange ∧ workPart s.quiesceDo = workPart s ∧
      (s.collBusy = true → s.quiesceDo.siteStopping = true ∧ s.quiesceDo.modState = s.modState) ∧
      (s.collBusy = false → s.quiesceDo.siteStopping = false ∧ s.quiesceDo.modState = stQuiet) := by
  obtain ⟨b, t, hside, hquiesce⟩ := quiesceDo_alone halone.1 hidle hon
  have hbusy : t.collBusy = s.collBusy := congrArg (fun c : Coll => c.queues.any (fun q => q.2.run.any (fun e => !e.finished))) hside.coll
  have hstop : t.siteStopping = true := hside.siteStopping
  rw [hquiesce]
  unfold State.stopSettle
  rw [hbusy, hstop]
  cases hb : s.collBusy with
  | true =>
    rw [if_neg (by decide)]
    exact ⟨hside.roleChange, hside.work, fun _ => ⟨hstop, hside.modState⟩, fun hno => nomatch hno⟩
  | false =>
    obtain ⟨hmode, hwork, hstopped, hrole⟩ := enterQuiet_effect (hside.changes.trans halone.2)
    rw [if_pos (by decide)]
    exact ⟨hrole.trans hside.roleChange, hwork.trans hside.work, (fun hno => nomatch hno), fun _ => ⟨hstopped, hmode⟩⟩

/-! ### FAULTED (R302) -/

theorem setModState_odGet (s : State) (st : Nat) {i k : Nat} (h : odKey i k ∉ [odKey 0x1010 1, odKey 0x1010 4, odKey 0x1010 7, odKey 0x1210 5]) :
    (s.setModState st).odGet i k = s.odGet i k := by
  simp only [List.mem_cons, List.not_mem_nil, or_false, not_or] at h
  obtain ⟨hstate, hcount, hft, hlost⟩ := h
  exact (notifyVal_odGet _ _ _ _ _ _ hlost).trans ((odGet_odSet_ne _ _ hft).trans ((odGet_bump_ne _ hcount).trans
    (odGet_odSetShown_ne s st hstate)))

theorem inSiteJob_setModState (s : State) (st : Nat) : (s.setModState st).inSiteJob = s.inSiteJob := by
  have hmembers : (s.setModState st).siteMembers = s.siteMembers := (congrArg State.siteMembers (setModState_frame s st) :)
  have hsmn : (s.setModState st).smn = s.smn := setModState_odGet s st (by decide)
  unfold State.inSiteJob
  rw [hmembers, hsmn]

theorem logErr_keeps (s : State) (source code level index : Nat) (data : List Byte) :
    workPart (s.logErr source code level index data) = workPart s ∧ (s.logErr source code level index data).inSiteJob = s.inSiteJob := by
  unfold State.logErr
  dsimp only
  generalize List.drop _ _ = l
  exact ⟨rfl, rfl⟩

/-- A fatal error of a module that runs no site job. -/
theorem enterFaulted_effect (hjob : s.inSiteJob = false) (hfaulted : s.modState ≠ stFaulted) (hdump : s.modState ≠ stDumping) (code detail : Nat) :
    (s.enterFaulted code detail).modState = stFaulted ∧ workPart (s.enterFaulted code detail) = workPart s ∧
      (s.enterFaulted code detail).faultInfo = some { code := code, detail := detail, prior := s.modState, ft := s.time.ft } := by
  unfold State.enterFaulted
  dsimp only
  rw [if_neg (by simp [hfaulted, hdump])]
  generalize ha : (if s.errLogWritten = true then s else State.logErr s _ code 0xFF 0 (toLe 8 detail)) = a
  have hlog : workPart a = workPart s ∧ a.inSiteJob = false := by
    rw [← ha]
    split
    · exact ⟨rfl, hjob⟩
    · exact ⟨(logErr_keeps _ _ _ _ _ _).1, (logErr_keeps _ _ _ _ _ _).2.trans hjob⟩
  obtain ⟨hwork, hajob⟩ := hlog
  clear ha
  have hstop : a.faultStop = a := if_neg (by simp [hajob])
  rw [hstop]
  generalize hb : ({ a with siteStopping := false, spent := [], faultInfo := _ } : State) = b
  have hbwork : workPart b = workPart s := by rw [← hb]; exact hwork
  have hbjob : b.inSiteJob = false := by rw [← hb]; exact hajob
  have hbinfo : b.faultInfo = some { code := code, detail := detail, prior := s.modState, ft := s.time.ft } := by rw [← hb]
  clear hb
  have hsend : (b.setModState stFaulted).siteStopSend 1 s.smn = b.setModState stFaulted :=
    if_neg (by simp [inSiteJob_setModState, hbjob])
  rw [hsend]
  have hanswer := (crownOnly_answerWaiting (b.setModState stFaulted) 2).side
  exact ⟨hanswer.modState.trans (setModState_modState _ _), hanswer.work.trans ((workPart_setModState _ _).trans hbwork),
    hanswer.faultInfo.trans ((congrArg State.faultInfo (setModState_frame b stFaulted) :).trans hbinfo)⟩

/-! ### A warm reset (R264, R290, R291) -/

/-- A warm reset that waits for no supply and is not counted under R268: its cause, and what Table 12.6 keeps. -/
theorem doReset_warm (hpower : s.plat.needPower = false) {cause : Nat} (hcause : cause ≠ 6 ∧ cause ≠ 8) (detail : Nat) :
    ∃ t : State, t.od = s.od.filter (fun c => odKeptWarm c.1) ∧ t.slow = s.slow ∧
      s.doReset cause detail .warm false = ((t.odSet 0x9001 1 cause).odSet 0x9001 2 (ftNat s.time.ft)).odSet 0x9001 3 detail := by
  have hcount : (decide (ResetCls.warm = .warm) && (cause == 6 || cause == 8)) = false := by simp [hcause.1, hcause.2]
  have hlow : (s.plat.pinLow && (ResetCls.warm == .cold || ResetCls.warm == .powerOn)) = false := by cases s.plat.pinLow <;> rfl
  unfold State.doReset
  dsimp only
  rw [hpower, hcount, hlow]
  refine ⟨_, ?_, ?_, rfl⟩
  · rfl
  · rfl

theorem doReset_warm_effect (hpower : s.plat.needPower = false) {cause : Nat} (hcause : cause ≠ 6 ∧ cause ≠ 8) (detail : Nat) :
    (s.doReset cause detail .warm false).modState = stBoot ∧ (s.doReset cause detail .warm false).odGet 0x9001 1 = cause ∧
      (s.doReset cause detail .warm false).slow = s.slow := by
  obtain ⟨t, hod, hslow, hreset⟩ := doReset_warm hpower hcause detail
  have hmode : t.odGet 0x1010 1 = odDfltKey (odKey 0x1010 1) := by
    unfold State.odGet
    rw [hod]
    exact fget_filter_gone _ _ _ _ (fun _ => (by decide : odKeptWarm (odKey 0x1010 1) = false))
  have hboot : odDfltKey (odKey 0x1010 1) = stBoot := by decide +kernel
  rw [hreset]
  refine ⟨?_, ?_, hslow⟩
  · exact (((odGet_odSet_ne _ _ (by decide)).trans (odGet_odSet_ne _ _ (by decide))).trans (odGet_odSet_ne _ _ (by decide))).trans (hmode.trans hboot)
  · exact ((odGet_odSet_ne _ _ (by decide)).trans (odGet_odSet_ne _ _ (by decide))).trans (odGet_odSet_same _ _ _ _)

/-- A warm reset that asserts outside another reset is performed. -/
theorem assertReset_warm_effect (hstate : s.modState ≠ stCold ∧ s.modState ≠ stBoot) (hpower : s.plat.needPower = false) {cause : Nat}
    (hcause : cause = 5 ∨ cause = 9 ∧ s.plat.dumpStopped = false) :
    (s.assertReset cause 0 .warm false).modState = stBoot ∧ (s.assertReset cause 0 .warm false).odGet 0x9001 1 = cause ∧
      (s.assertReset cause 0 .warm false).slow = s.slow := by
  have hresetting : s.resetting = false := by simp [State.resetting, hstate.1, hstate.2]
  have hperformed : s.assertReset cause 0 .warm false = s.performReset cause 0 .warm false := by
    refine if_neg ?_
    unfold State.outranked
    rw [hresetting]
    rcases hcause with rfl | ⟨rfl, hdump⟩
    · simp
    · simp [hdump]
  have hother : cause ≠ 6 ∧ cause ≠ 8 := by omega
  rw [hperformed]
  unfold State.performReset
  split
  · exact doReset_warm_effect (s := s.odSet 0x9500 1 3) hpower hother 0
  · exact doReset_warm_effect hpower hother 0

/-- The reset that follows an answer over the field network. -/
theorem reply_resets_effect (x : Session) {p : Peer} (f : List Byte) {r : Reply} {cause : Nat} (hafter : r.after = .resets [cause])
    (hp : p ≠ .mailbox) (hstate : r.st.modState ≠ stCold ∧ r.st.modState ≠ stBoot) (hpower : r.st.plat.needPower = false)
    (hcause : cause = 5 ∨ cause = 9 ∧ r.st.plat.dumpStopped = false) :
    (State.reply x p f r).modState = stBoot ∧ (State.reply x p f r).odGet 0x9001 1 = cause ∧ (State.reply x p f r).slow = r.st.slow := by
  unfold State.reply
  rw [hafter]
  dsimp only
  unfold State.resetsAfter
  rw [if_neg (by simp [hp])]
  dsimp only [List.foldl]
  generalize copFrame (fOp f) 1 r.status x.id (fSeq f) r.body x.keyOut = a
  have hside := (sideFrom_odSet r.st (i := 0x1210) (k := 6) ((r.st.odGet 0x1210 6 + 1) % _) (by decide)).trans
    (((crownOnly_sesMod (r.st.bump 0x1210 6) x.id (fun y => { y with lastSeq := fSeq f, lastAnswer := a })).trans
      (crownOnly_copSend _ p a)).trans (crownOnly_releaseNotify _)).side
  generalize ((r.st.bump 0x1210 6).sesMod x.id (fun y => { y with lastSeq := fSeq f, lastAnswer := a }) |>.copSend p a).releaseNotify = w at *
  obtain ⟨hmode, hreset, hslow⟩ := assertReset_warm_effect (s := w) (by rw [hside.modState]; exact hstate) (by rw [hside.plat]; exact hpower)
    (by rw [hside.plat]; exact hcause)
  exact ⟨hmode, hreset, hslow.trans hside.slow⟩

end

end Sys2Proof.Machine
end

section
/-! SUPPORT. An accepted write of an entry with a command of its own (R269): what its effect and its answer leave, each Bezel operation on a train,
the stop of QUIESCE and TAKEOVER, and the statement. -/

namespace Sys2Proof.Machine

/-- A WRITE of an entry, or the end of a transfer that brings it, that R269 accepts. -/
def Accepted (s u : State) (src : FrameSrc) (x : Session) (p : Peer) (f : List Byte) (i k : Nat) (v : List Byte) : Prop :=
  (∃ typ, WritesEntry s src u x p f i k typ v) ∨ ((i, k) ≠ (0x1010, 2) ∧ (i, k) ≠ (0xA300, 2) ∧ EndsTransfer s src u x p f i k v)

/-- What QUIESCE and TAKEOVER come to, from `s` on: QUIET where no queue has started an entry, and otherwise the wait for it. -/
def Stops (s : State) (role : Bool) (t : State) : Prop :=
  t.roleChange = role ∧ workPart t = workPart s ∧ (s.collBusy = true → t.siteStopping = true ∧ t.modState = s.modState) ∧
    (s.collBusy = false → t.siteStopping = false ∧ t.modState = stQuiet)

section
variable {s u : State} {src : FrameSrc} {x : Session} {p : Peer} {f : List Byte} {v : List Byte} {i k : Nat} {c : FrameSrc → Instr}

theorem Accepted.crownOnly (h : Accepted s u src x p f i k v) : CrownOnly s u :=
  h.elim (fun ⟨_, hreq, _⟩ => requests_crownOnly hreq) (fun h => endsTransfer_crownOnly h.2.2)

theorem Accepted.command (h : Accepted s u src x p f 0x1010 2 v) : ∃ typ, WritesEntry s src u x p f 0x1010 2 typ v :=
  h.resolve_right (fun h => h.1 rfl)

theorem Accepted.activate (h : Accepted s u src x p f 0xA300 2 v) : ∃ typ, WritesEntry s src u x p f 0xA300 2 typ v :=
  h.resolve_right (fun h => h.2.1 rfl)

theorem CrownOnly.stay (h : CrownOnly s u) : stayPart u = stayPart s := h.side.stay

/-- An accepted write leaves what its entry's effect leaves, whatever is published and answered. -/
theorem exec_entry_side {n : Option Nat} (he : exec (c src) s = .next (s.copServe src (writesEntry i k n)))
    (h : Accepted s u src x p f i k v) (hn : valueIs n v = true) (hcmd : i ≠ 0x1010) (hact : (i, k) ≠ (0xA300, 2)) :
    ∃ t, exec (c src) s = .next t ∧ SideFrom ((u.odAttempt i k cOk v).odDo i k v) t := by
  have hpublish := sideFrom_odApply (u.odAttempt i k cOk v) i k v
  rcases h with ⟨typ, h⟩ | ⟨-, -, h⟩
  · refine ⟨_, exec_entryWritten he h hn (fun hi => absurd hi hcmd), hpublish.trans (sideFrom_reply x p f (.inl ?_))⟩
    exact actResets_done hact
  · exact ⟨_, exec_entryTransferred he h hn (fun hi => absurd hi hcmd) hact, hpublish.trans (sideFrom_reply x p f (.inl rfl))⟩

/-- An accepted attempt leaves nothing, but for the debug token (R317). -/
theorem odAttempt_ok (h : (i, k) ≠ (0xA500, 2)) : u.odAttempt i k cOk v = u := by
  unfold State.odAttempt
  split
  · rfl
  · rfl
  · rfl
  · exact absurd rfl h
  · rfl

/-- The same, where the effect leaves the work and the module state. -/
theorem exec_entry_stays {n : Option Nat} {w : State} (he : exec (c src) s = .next (s.copServe src (writesEntry i k n)))
    (h : Accepted s u src x p f i k v) (hn : valueIs n v = true) (hcmd : i ≠ 0x1010) (hact : (i, k) ≠ (0xA300, 2))
    (htoken : (i, k) ≠ (0xA500, 2)) (hdo : u.odDo i k v = w) (hstay : stayPart w = stayPart u) :
    ∃ t, exec (c src) s = .next t ∧ SideFrom w t ∧ stayPart t = stayPart s := by
  obtain ⟨t, hexec, hside⟩ := exec_entry_side he h hn hcmd hact
  rw [odAttempt_ok htoken, hdo] at hside
  exact ⟨t, hexec, hside, (hside.stay.trans hstay).trans h.crownOnly.stay⟩

/-! ### Bezel operations on a train (R295, R298, R301) -/

theorem bezelDo_fence {t l : Nat} (h : u.bezelTarget t = .unit l i) : u.bezelDo t 1 = u.fenceTrain l i := by
  unfold State.bezelDo
  rw [h]
  rfl

theorem bezelDo_retire {t l : Nat} (h : u.bezelTarget t = .unit l i) (hl : l ≠ 0) : u.bezelDo t 2 = u.mapTrain l i true := by
  unfold State.bezelDo
  rw [h]
  exact if_neg hl

theorem bezelDo_readmit {t l : Nat} (h : u.bezelTarget t = .unit l i) (hl : l ≠ 0) (hm : u.trainMarked l i = true) :
    u.bezelDo t 3 = u.mapTrain l i false := by
  unfold State.bezelDo
  rw [h]
  exact if_pos (c := (decide (l ≠ 0) && u.trainMarked l i) = true) (by simp [hl, hm])

/-! ### Commands -/

/-- A command that acts and is answered, at once or later. -/
theorem exec_command_side {n : Nat} {t : State} (he : exec (c src) s = .next (s.copServe src (writesEntry 0x1010 2 (some n))))
    (h : Accepted s u src x p f 0x1010 2 v) (hn : leNat v = n) (hwait : u.cmdWaits n = false) (h6 : n ≠ 6) (hreason : u.cmdReason n = 0)
    (hdo : u.cmdDo n = t) : ∃ w, exec (c src) s = .next w ∧ SideFrom t w := by
  obtain ⟨typ, h⟩ := h.command
  refine ⟨_, exec_command_done he h hn hwait hreason hdo, sideFrom_reply x p f ?_⟩
  show cmdAfter (t, cOk) n = .done ∨ cmdAfter (t, cOk) n = .pend
  unfold cmdAfter
  rw [if_neg (by simp [h6])]
  split
  · exact .inr rfl
  · exact .inl rfl

/-- An accepted command is allowed in the module's state. -/
theorem Accepted.allowed {n : Nat} (h : Accepted s u src x p f 0x1010 2 v) (hn : leNat v = n) : State.cmdAllowed n s.modState = true := by
  obtain ⟨typ, hw⟩ := h.command
  rw [← hn, ← h.crownOnly.side.modState]
  exact cmdAllowed_of_accepted hw

theorem queuesOn_of_stops {st : Nat} (h : st = stArmed ∨ st = stRunning ∨ st = stHeld) : stArmed ≤ st ∧ st ≤ stHeld := by
  simp only [stArmed, stRunning, stHeld] at *
  omega

/-- The stop that a command begins, seen from the state before its request. -/
theorem stops_of_quiesceDo {role : Bool} {t : State} (hu : CrownOnly s u) (halone : (∀ m ∈ s.siteMembers, m = s.smn) ∧ s.changes = [])
    (hidle : s.siteStopping = false) (hstate : s.modState = stArmed ∨ s.modState = stRunning ∨ s.modState = stHeld)
    (ht : SideFrom (State.quiesceDo { u with roleChange := role }) t) : Stops s role t := by
  have hmembers : u.siteMembers = s.siteMembers := (congrArg State.siteMembers hu :)
  have hsmn : u.smn = s.smn := (congrArg State.smn hu :)
  have hbusy : u.collBusy = s.collBusy := (congrArg State.collBusy hu :)
  have hside := hu.side
  obtain ⟨harmed, hheld⟩ := queuesOn_of_stops (hside.modState ▸ hstate)
  have hon : State.queuesOn { u with roleChange := role } = true := by
    show (decide (stArmed ≤ u.modState) && decide (u.modState ≤ stHeld)) = true
    simp [harmed, hheld]
  obtain ⟨hrole, hwork, hwaits, hstops⟩ := quiesceDo_effect (s := { u with roleChange := role })
    ⟨fun m hm => (halone.1 m (hmembers ▸ hm)).trans hsmn.symm, hside.changes.trans halone.2⟩ (hside.siteStopping.trans hidle) hon
  refine ⟨ht.roleChange.trans hrole, ht.work.trans (hwork.trans hside.work), fun hb => ?_, fun hb => ?_⟩
  · obtain ⟨hstop, hmode⟩ := hwaits (hbusy.trans hb)
    exact ⟨ht.siteStopping.trans hstop, ht.modState.trans (hmode.trans hside.modState)⟩
  · obtain ⟨hstop, hmode⟩ := hstops (hbusy.trans hb)
    exact ⟨ht.siteStopping.trans hstop, ht.modState.trans hmode⟩

/-! ### Each command (Table 11.3) -/

theorem Accepted.cmdWaits (h : Accepted s u src x p f i k v) (hidle : s.siteStopping = false) (n : Nat) : u.cmdWaits n = false :=
  cmdWaits_idle (h.crownOnly.side.siteStopping.trans hidle) n

theorem exec_arm_effect (h : Accepted s u src x p f 0x1010 2 v) (hn : leNat v = 1) (hidle : s.siteStopping = false) (hreason : u.armReason = 0) :
    ∃ t, exec (.arm src) s = .next t ∧ t.modState = stArmed ∧
      (s.restart = none → t.mem = s.mem ∧ t.slow = s.slow ∧ t.pinions = s.pinions ∧ t.barrels = s.barrels) := by
  have hu := h.crownOnly
  obtain ⟨t, hexec, hside⟩ := exec_command_side (c := .arm) rfl h hn (h.cmdWaits hidle 1) (by decide) hreason (cmdDo_arm u)
  refine ⟨t, hexec, hside.modState.trans (armDo_modState u), fun hrestart => ?_⟩
  obtain ⟨hmem, hslow, hpinions, hbarrels⟩ := armDo_leaves (s := u) ((congrArg State.restart hu :).trans hrestart)
  exact ⟨hside.mem.trans (hmem.trans hu.side.mem), hside.slow.trans (hslow.trans hu.side.slow),
    hside.pinions.trans (hpinions.trans hu.side.pinions), hside.barrels.trans (hbarrels.trans hu.side.barrels)⟩

/-- RUN, and RELEASE in HELD. -/
theorem exec_enterRunning_effect {n : Nat} (he : exec (c src) s = .next (s.copServe src (writesEntry 0x1010 2 (some n))))
    (h : Accepted s u src x p f 0x1010 2 v) (hn : leNat v = n) (hidle : s.siteStopping = false) (h6 : n ≠ 6) (hreason : u.cmdReason n = 0)
    (hdo : u.cmdDo n = u.enterRunning) : ∃ t, exec (c src) s = .next t ∧ t.modState = stRunning ∧ workPart t = workPart s := by
  obtain ⟨t, hexec, hside⟩ := exec_command_side he h hn (h.cmdWaits hidle n) h6 hreason hdo
  obtain ⟨hmode, hwork⟩ := enterRunning_effect u
  exact ⟨t, hexec, hside.modState.trans hmode, hside.work.trans (hwork.trans h.crownOnly.side.work)⟩

theorem exec_run_effect (h : Accepted s u src x p f 0x1010 2 v) (hn : leNat v = 2) (hidle : s.siteStopping = false)
    (hclock : 2 ≤ s.odGet 0x4010 1) : ∃ t, exec (.run src) s = .next t ∧ t.modState = stRunning ∧ workPart t = workPart s := by
  have hreason : u.cmdReason 2 = 0 := (cmdReason_run u).trans (if_neg (by rw [h.crownOnly.odGet]; omega))
  exact exec_enterRunning_effect (c := .run) rfl h hn hidle (by decide) hreason (cmdDo_run u)

theorem exec_release_effect (h : Accepted s u src x p f 0x1010 2 v) (hn : leNat v = 4) (hidle : s.siteStopping = false) :
    ∃ t, exec (.release src) s = .next t ∧ t.modState = stRunning ∧ workPart t = workPart s := by
  have hheld := (cmdAllowed_iff _).2.2.2.1.mp (h.allowed hn)
  exact exec_enterRunning_effect (c := .release) rfl h hn hidle (by decide) rfl
    ((cmdDo_release u).trans (if_pos (h.crownOnly.side.modState.trans hheld)))

theorem exec_hold_effect (h : Accepted s u src x p f 0x1010 2 v) (hn : leNat v = 3) (hidle : s.siteStopping = false) :
    ∃ t, exec (.hold src) s = .next t ∧ t.modState = stHeld ∧ workPart t = workPart s ∧ t.beats = s.beats := by
  have hu := h.crownOnly.side
  have hrunning := (cmdAllowed_iff _).2.2.1.mp (h.allowed hn)
  obtain ⟨t, hexec, hside⟩ := exec_command_side (c := .hold) rfl h hn (h.cmdWaits hidle 3) (by decide) rfl
    ((cmdDo_hold u).trans (if_pos (hu.modState.trans hrunning)))
  exact ⟨t, hexec, hside.modState.trans (setModState_modState u _), hside.work.trans ((workPart_setModState u _).trans hu.work),
    hside.beats.trans ((congrArg State.beats (setModState_frame u stHeld) :).trans hu.beats)⟩

theorem exec_quiesce_effect (h : Accepted s u src x p f 0x1010 2 v) (hn : leNat v = 5) (hidle : s.siteStopping = false) :
    ∃ t, exec (.quiesce src) s = .next t ∧ ((∀ m ∈ s.siteMembers, m = s.smn) ∧ s.changes = [] → Stops s s.roleChange t) := by
  obtain ⟨t, hexec, hside⟩ := exec_command_side (c := .quiesce) rfl h hn (h.cmdWaits hidle 5) (by decide) rfl (cmdDo_quiesce u)
  refine ⟨t, hexec, fun halone => ?_⟩
  have hstops := stops_of_quiesceDo (role := u.roleChange) h.crownOnly halone hidle ((cmdAllowed_iff _).2.2.2.2.1.mp (h.allowed hn)) hside
  rw [h.crownOnly.side.roleChange] at hstops
  exact hstops

theorem exec_takeover_effect (h : Accepted s u src x p f 0x1010 2 v) (hn : leNat v = 8) (hidle : s.siteStopping = false)
    (hrole : Nat.testBit s.ownRoles 2 = true) :
    ∃ t, exec (.takeover src) s = .next t ∧ ((∀ m ∈ s.siteMembers, m = s.smn) ∧ s.changes = [] → Stops s true t) := by
  have hstandby : u.cmdReason 8 = 0 :=
    (cmdReason_takeover u).trans (if_pos ((congrArg (fun w : State => Nat.testBit w.ownRoles 2) h.crownOnly :).trans hrole))
  obtain ⟨t, hexec, hside⟩ := exec_command_side (c := .takeover) rfl h hn (h.cmdWaits hidle 8) (by decide) hstandby (cmdDo_takeover u)
  exact ⟨t, hexec, fun halone => stops_of_quiesceDo h.crownOnly halone hidle ((cmdAllowed_iff _).2.2.2.2.2.2.2.mp (h.allowed hn)) hside⟩

theorem exec_forceFault_effect (h : Accepted s u src x p f 0x1010 2 v) (hn : leNat v = 7) :
    ∃ t, exec (.forceFault src) s = .next t ∧ (s.inSiteJob = false → t.modState = stFaulted ∧ workPart t = workPart s ∧
      t.faultInfo = some { code := 7, detail := 0, prior := s.modState, ft := s.time.ft }) := by
  have hu := h.crownOnly
  have hmode := hu.side.modState
  have hstate := (cmdAllowed_iff _).2.2.2.2.2.2.1.mp (h.allowed hn)
  have hother : u.modState ≠ stFaulted ∧ u.modState ≠ stDumping := by
    rw [hmode]
    simp only [stQuiet, stHeld, stFaulted, stDumping] at *
    omega
  obtain ⟨t, hexec, hside⟩ := exec_command_side (c := .forceFault) rfl h hn (by simp [State.cmdWaits]) (by decide) rfl (cmdDo_forceFault u)
  refine ⟨t, hexec, fun hjob => ?_⟩
  obtain ⟨hfaulted, hwork, hinfo⟩ := enterFaulted_effect (s := u) ((congrArg State.inSiteJob hu :).trans hjob) hother.1 hother.2 7 0
  rw [hmode, hu.side.time] at hinfo
  exact ⟨hside.modState.trans hfaulted, hside.work.trans (hwork.trans hu.side.work), hside.faultInfo.trans hinfo⟩

/-! ### Warm resets behind an answer (R264, R312) -/

/-- WARM_RESET. -/
theorem exec_warmReset_effect (h : Accepted s u src x p f 0x1010 2 v) (hn : leNat v = 6) : ∃ t, exec (.warmReset src) s = .next t ∧
    (p ≠ .mailbox → s.modState ≠ stBoot → s.plat.needPower = false → t.modState = stBoot ∧ t.odGet 0x9001 1 = 5 ∧ t.slow = s.slow) := by
  have hallowed := (cmdAllowed_iff _).2.2.2.2.2.1.mp (h.allowed hn)
  have hside := h.crownOnly.side
  obtain ⟨typ, hw⟩ := h.command
  refine ⟨_, exec_command_done (c := .warmReset) rfl hw hn (by simp [State.cmdWaits]) rfl rfl, fun hp hboot hpower => ?_⟩
  have hcold : s.modState ≠ stCold := by
    simp only [stBoot, stCold] at *
    omega
  obtain ⟨hmode, hcause, hslow⟩ := reply_resets_effect x f
    (r := { st := u, status := cOk, body := copItem 0x1010 2 typ cOk [], after := .resets [5] }) rfl hp ⟨hside.modState ▸ hcold, hside.modState ▸ hboot⟩ (hside.plat ▸ hpower) (.inl rfl)
  exact ⟨hmode, hcause, hslow.trans hside.slow⟩

/-- FW_ACTIVATE is accepted in QUIET only. -/
theorem Accepted.quiet (h : Accepted s u src x p f 0xA300 2 v) : s.modState = stQuiet := by
  obtain ⟨typ, -, -, -, -, -, -, -, hck⟩ := h.activate
  obtain ⟨r, hrow, hindex⟩ := Option.map_eq_some_iff.mp (show (odRow 0xA300 2).map (·.index) = some 0xA300 by decide +kernel)
  obtain ⟨hstate, -⟩ := odCheck_state hrow hck
  have hquiet : State.woQuiet r.index 2 = true := by
    rw [hindex]
    decide
  unfold State.stateOk at hstate
  rw [if_neg (by simp [hindex]), if_pos (by simp [hquiet])] at hstate
  rw [← h.crownOnly.side.modState]
  simpa using hstate

/-- FW_ACTIVATE, its image verified. -/
theorem exec_fwActivate_effect (h : Accepted s u src x p f 0xA300 2 v) (hverified : s.store.verified.isSome = true) :
    ∃ t, exec (.fwActivate src) s = .next t ∧ (p ≠ .mailbox → s.plat.needPower = false → s.plat.dumpStopped = false →
      t.modState = stBoot ∧ t.odGet 0x9001 1 = 9 ∧ t.slow = s.slow) := by
  have hquiet := h.quiet
  have hside := h.crownOnly.side
  obtain ⟨typ, hw⟩ := h.activate
  obtain ⟨slot, hslot⟩ := Option.isSome_iff_exists.mp hverified
  have happly := sideFrom_odApply u 0xA300 2 v
  rw [odDo_fwActivate u v (k := slot) (by rw [hside.store, hslot])] at happly
  obtain ⟨hstay, -, hplat⟩ := ctlWrite_effect u (fun c => { c with preferred := slot, trial := true })
  obtain ⟨hwork, hmode⟩ := Prod.ext_iff.mp (happly.stay.trans (hstay.trans hside.stay))
  have hkeep : (u.odApply [(0xA300, 2, v)]).plat = s.plat := happly.plat.trans (hplat.trans hside.plat)
  have hslow : (u.odApply [(0xA300, 2, v)]).slow = s.slow := (workPart_iff.mp hwork).2.1
  have hstate : (u.odApply [(0xA300, 2, v)]).modState = stQuiet := hmode.trans hquiet
  refine ⟨_, exec_entryWritten (c := .fwActivate src) (n := none) rfl hw rfl (by decide), fun hp hpower hdump => ?_⟩
  rw [odAttempt_ok (by decide)]
  generalize u.odApply [(0xA300, 2, v)] = w at hkeep hslow hstate
  obtain ⟨hboot, hcause, hreset⟩ := reply_resets_effect x f
    (r := { st := w, status := cOk, body := copItem 0xA300 2 typ cOk [], after := .resets [9] }) rfl hp (by rw [hstate]; decide) (hkeep ▸ hpower) (.inr ⟨rfl, hkeep ▸ hdump⟩)
  exact ⟨hboot, hcause, hreset.trans hslow⟩

/-! ### Entries that keep their bytes -/

/-- The layout, the roster, the manifest, the retirement map and the keys hold what was written. -/
theorem exec_blobEntry_effect (hrow : (c, i, k) ∈ [(Instr.layout, 0x2010, 2), (.roster, 0x6001, 1), (.programManifest, 0x1300, 1),
      (.retireMap, 0x9400, 1), (.operatorKeys, 0xA100, 1), (.jobKey, 0xA200, 1)]) (h : Accepted s u src x p f i k v) :
    ∃ t, exec (c src) s = .next t ∧ t.blobGet i k = v ∧ stayPart t = stayPart s := by
  have hvia : ∀ {w : State}, exec (c src) s = .next (s.copServe src (writesEntry i k none)) → i ≠ 0x1010 → (i, k) ≠ (0xA300, 2) →
      (i, k) ≠ (0xA500, 2) → u.odDo i k v = w → stayPart w = stayPart u → w.blobGet i k = v →
      ∃ t, exec (c src) s = .next t ∧ t.blobGet i k = v ∧ stayPart t = stayPart s := by
    intro w he hcmd hact htoken hdo hkeep hblob
    obtain ⟨t, hexec, hside, hstay⟩ := exec_entry_stays he h rfl hcmd hact htoken hdo hkeep
    exact ⟨t, hexec, (hside.blobGet _ _).trans hblob, hstay⟩
  simp only [List.mem_cons, Prod.mk.injEq, List.not_mem_nil, or_false] at hrow
  rcases hrow with ⟨rfl, rfl, rfl⟩ | ⟨rfl, rfl, rfl⟩ | ⟨rfl, rfl, rfl⟩ | ⟨rfl, rfl, rfl⟩ | ⟨rfl, rfl, rfl⟩ | ⟨rfl, rfl, rfl⟩
  case inl =>
    have hset := sideFrom_layoutWritten (u.blobSet 0x2010 2 v)
    exact hvia rfl (by decide) (by decide) (by decide) (odDo_layout u v) hset.stay ((hset.blobGet _ _).trans (blobGet_blobSet_same u 0x2010 2 v))
  case inr.inl =>
    obtain ⟨hkeep, hblob⟩ := rosterWritten_effect u v
    exact hvia rfl (by decide) (by decide) (by decide) (odDo_roster u v) hkeep hblob
  case inr.inr.inl =>
    have hblob : ((u.blobSet 0x1300 1 v).blobSet 0x1300 2 (sha512 v)).blobGet 0x1300 1 = v :=
      (blobGet_blobSet_ne _ _ (by decide)).trans (blobGet_blobSet_same u 0x1300 1 v)
    exact hvia rfl (by decide) (by decide) (by decide) (odDo_programManifest u v) (stayPart_odSet (i := 0x1300) (k := 3) _ _ (by decide)) hblob
  case inr.inr.inr.inl =>
    obtain ⟨hkeep, hblob⟩ := retireMapWritten_effect u v
    exact hvia rfl (by decide) (by decide) (by decide) (odDo_retireMap u v) hkeep hblob
  case inr.inr.inr.inr.inl =>
    exact hvia rfl (by decide) (by decide) (by decide) (odDo_operatorKeys u v) rfl (blobGet_blobSet_same u 0xA100 1 v)
  case inr.inr.inr.inr.inr =>
    exact hvia rfl (by decide) (by decide) (by decide) (odDo_jobKey u v) (stayPart_odSet (i := 0xA200) (k := 2) _ _ (by decide))
      (blobGet_blobSet_same u 0xA200 1 v)

end

end Sys2Proof.Machine

open Sys2Proof Sys2Proof.Machine

/-- Settles O60: each row by the effect of its entry or command, seen through its publication and its answer. -/
theorem crownWritesComplete : Obligations.CrownWritesComplete := by
  unfold Obligations.CrownWritesComplete
  intro s u src x p f v n done kept stays alone stops reset
  have hnumber : ∀ {m : Nat}, n = m → valueIs (some m) v = true := fun hn => beq_iff_eq.mpr hn
  have hstops : ∀ {role : Bool} {t : State}, (alone → Stops s role t) → stops role t := fun h halone =>
    (h halone).imp_right (fun hend => hend.imp_left workPart_iff.mp)
  refine ⟨fun hidle => ⟨fun hn hreason h => exec_arm_effect h hn hidle hreason, fun hn hclock h => ?run, fun hn h => ?hold,
      fun hn h => ?release, fun hn h => ?quiesce, fun hn hrole h => ?takeover⟩,
    fun hn h => ?warmReset, fun hn h => ?forceFault,
    fun l i htarget hcheck => ⟨fun hn h => ?fence, fun hn hl h => ?retire, fun hn hl hmarked h => ?readmit⟩,
    fun h => ?ftSet, fun h => ?beatTable, fun h => ?beatEntry, fun c i k hrow h => ?blobs, fun h => ?fwImage, fun hverified h => ?fwActivate,
    fun h => ?rollbackCommit, fun h => ?debugToken, fun hn h => ?debugScope, fun h => ?bist, fun h => ?prbs⟩
  case run =>
    obtain ⟨t, hexec, hmode, hwork⟩ := exec_run_effect h hn hidle hclock
    exact ⟨t, hexec, hmode, workPart_iff.mp hwork⟩
  case hold =>
    obtain ⟨t, hexec, hmode, hwork, hbeats⟩ := exec_hold_effect h hn hidle
    exact ⟨t, hexec, hmode, workPart_iff.mp hwork, hbeats⟩
  case release =>
    obtain ⟨t, hexec, hmode, hwork⟩ := exec_release_effect h hn hidle
    exact ⟨t, hexec, hmode, workPart_iff.mp hwork⟩
  case quiesce =>
    obtain ⟨t, hexec, hend⟩ := exec_quiesce_effect h hn hidle
    exact ⟨t, hexec, hstops hend⟩
  case takeover =>
    obtain ⟨t, hexec, hend⟩ := exec_takeover_effect h hn hidle hrole
    exact ⟨t, hexec, hstops hend⟩
  case warmReset =>
    obtain ⟨t, hexec, hreset⟩ := exec_warmReset_effect h hn
    exact ⟨t, hexec, fun hp hboot hpower _ => hreset hp hboot hpower⟩
  case forceFault =>
    obtain ⟨t, hexec, hfault⟩ := exec_forceFault_effect h hn
    refine ⟨t, hexec, fun hjob => ?_⟩
    obtain ⟨hmode, hwork, hinfo⟩ := hfault hjob
    exact ⟨hmode, workPart_iff.mp hwork, hinfo⟩
  case fence =>
    have hu := (Accepted.crownOnly h).side
    obtain ⟨t, hexec, hside⟩ := exec_entry_side (c := .fence) rfl h (hnumber hn) (by decide) (by decide)
    obtain ⟨hmem, hsyncs, hmode, hclosed⟩ := fenceTrain_effect u l i
    have hdo : u.odDo 0x9200 2 v = u.fenceTrain l i := (odDo_bezel u v hcheck).trans ((congrArg _ hn).trans (bezelDo_fence htarget))
    rw [odAttempt_ok (by decide), hdo] at hside
    refine ⟨t, hexec, hside.mem.trans (hmem.trans hu.mem), hside.syncs.trans (hsyncs.trans hu.syncs),
      hside.modState.trans (hmode.trans hu.modState), fun hopen => ?_⟩
    rw [hside.unit]
    exact hclosed ((congrArg UnitSt.st (hu.unit l i)).trans hopen)
  case retire =>
    obtain ⟨t, hexec, hside, hstay⟩ := exec_entry_stays (c := .retire) rfl h (hnumber hn) (by decide) (by decide) (by decide)
      ((odDo_bezel u v hcheck).trans ((congrArg _ hn).trans (bezelDo_retire htarget hl))) (stayPart_mapTrain u l i true)
    exact ⟨t, hexec, stayPart_iff.mp hstay, hside.blobGet _ _⟩
  case readmit =>
    obtain ⟨t, hexec, hside, hstay⟩ := exec_entry_stays (c := .readmit) rfl h (hnumber hn) (by decide) (by decide) (by decide)
      ((odDo_bezel u v hcheck).trans ((congrArg _ hn).trans (bezelDo_readmit htarget hl hmarked))) (stayPart_mapTrain u l i false)
    exact ⟨t, hexec, stayPart_iff.mp hstay, hside.blobGet _ _⟩
  case ftSet =>
    obtain ⟨t, hexec, hside, hstay⟩ := exec_entry_stays (c := .ftSet) (n := none) rfl h rfl (by decide) (by decide) (by decide)
      (odDo_ftSet u v) (stayPart_ftWritten u _)
    exact ⟨t, hexec, stayPart_iff.mp hstay, congrArg (fun m => m.ft) hside.time⟩
  case beatTable =>
    obtain ⟨t, hexec, hside, hstay⟩ := exec_entry_stays (c := .beatTable) (n := none) rfl h rfl (by decide) (by decide) (by decide)
      (odDo_beatTable u v) (stayPart_writeTable u v)
    exact ⟨t, hexec, stayPart_iff.mp hstay, fun i hi => (hside.beat i).trans (beat_writeTable u v hi)⟩
  case beatEntry =>
    have hselected : u.odGet 0x4301 1 = s.odGet 0x4301 1 := (Accepted.crownOnly h).odGet _ _
    obtain ⟨t, hexec, hside, hstay⟩ := exec_entry_stays (c := .beatEntry) (n := none) rfl h rfl (by decide) (by decide) (by decide)
      (odDo_beatEntry u v) rfl
    refine ⟨t, hexec, stayPart_iff.mp hstay, ?_⟩
    rw [hselected] at hside
    exact (hside.beat _).trans (beat_setBeat_same u _ _)
  case blobs =>
    obtain ⟨w, hexec, hblob, hstay⟩ := exec_blobEntry_effect hrow h
    exact ⟨w, hexec, stayPart_iff.mp hstay, hblob⟩
  case fwImage =>
    obtain ⟨hkeep, hverified⟩ := fwStore_effect u v
    obtain ⟨t, hexec, hside, hstay⟩ := exec_entry_stays (c := .fwImage) (n := none) rfl h rfl (by decide) (by decide) (by decide)
      (odDo_fwImage u v) hkeep
    rw [(Accepted.crownOnly h).side.store] at hverified
    exact ⟨t, hexec, stayPart_iff.mp hstay, (congrArg (fun m => m.verified) hside.store).trans hverified⟩
  case fwActivate =>
    obtain ⟨t, hexec, hreset⟩ := exec_fwActivate_effect h hverified
    exact ⟨t, hexec, fun hp _ hpower hdump => hreset hp hpower (hdump.resolve_left (by decide))⟩
  case rollbackCommit =>
    obtain ⟨t, hexec, hside, hstay⟩ := exec_entry_stays (c := .rollbackCommit) (n := none) rfl h rfl (by decide) (by decide) (by decide)
      (odDo_rollbackCommit u v) (fwCommit_effect u).1
    have hfuses : max u.fuseRollback (fwRollback (u.slotManifest u.store.running)) =
        max s.fuseRollback (fwRollback (s.slotManifest s.store.running)) :=
      (congrArg (fun w : State => max w.fuseRollback (fwRollback (w.slotManifest w.store.running))) (Accepted.crownOnly h) :)
    refine ⟨t, hexec, stayPart_iff.mp hstay, ?_⟩
    exact (congrArg (fun m => max (fwRollback factoryManifest) m.rollback) hside.store).trans ((fuseRollback_fwCommit u).trans hfuses)
  case debugToken =>
    obtain ⟨t, hexec, hside⟩ := exec_entry_side (c := .debugToken) (n := none) rfl h rfl (by decide) (by decide)
    rw [odDo_debugToken] at hside
    obtain ⟨hstay, hscope, hsecs⟩ := unlock_effect (u.odAttempt 0xA500 2 cOk v) v
    refine ⟨t, hexec, stayPart_iff.mp ((hside.stay.trans hstay).trans (Accepted.crownOnly h).stay), (hside.2 _ _ (by decide)).trans hscope,
      (congrArg (fun m => m.debugSecs) hside.test).trans hsecs⟩
  case debugScope =>
    obtain ⟨hkeep, hscope⟩ := lockDebug_effect u
    obtain ⟨t, hexec, hside, hstay⟩ := exec_entry_stays (c := .debugScope) rfl h (hnumber hn) (by decide) (by decide) (by decide)
      (odDo_debugScope u v) hkeep
    exact ⟨t, hexec, stayPart_iff.mp hstay, (hside.2 _ _ (by decide)).trans hscope⟩
  case bist =>
    have hu := (Accepted.crownOnly h).side
    obtain ⟨t, hexec, hside⟩ := exec_entry_side (c := .hbmBistStart) (n := none) rfl h rfl (by decide) (by decide)
    obtain ⟨hpinions, hsyncs, hmode, hbusy, hsel⟩ := startBist_effect u n
    rw [odAttempt_ok (by decide), odDo_hbmBistStart] at hside
    exact ⟨t, hexec, hside.pinions.trans (hpinions.trans hu.pinions), hside.syncs.trans (hsyncs.trans hu.syncs),
      hside.modState.trans (hmode.trans hu.modState), (hside.2 _ _ (by decide)).trans hbusy, (congrArg (fun m => m.bist) hside.test).trans hsel⟩
  case prbs =>
    obtain ⟨hkeep, hmode⟩ := prbsWritten_effect u n
    obtain ⟨t, hexec, hside, hstay⟩ := exec_entry_stays (c := .prbsMode) (n := none) rfl h rfl (by decide) (by decide) (by decide)
      (odDo_prbsMode u v) hkeep
    exact ⟨t, hexec, stayPart_iff.mp hstay, (hside.2 _ _ (by decide)).trans hmode⟩
end

section
/-! SUPPORT. Resets (12, 12.3 to 12.5; R285, R286, R289 to R292, R305, R327): which sources assert and when one is absorbed, what a reset leaves
(Table 12.6) and what it records, the pin and the input that hold the module, and the statement. -/

-- One theorem at a time, as in the tests: threads that wait each reserve a stack, which counts against the memory of the compile.
set_option Elab.async false

namespace Sys2Proof.Machine

/-! ### What a reset leaves (R292, Table 12.6) -/

theorem fget_filter_kept {α : Type} (d : α) (m : FMap α) (i : Nat) (p : Nat × α → Bool) (h : ∀ v, p (i, v) = true) :
    fget d (m.filter p) i = fget d m i := by
  induction m with
  | nil => rfl
  | cons c m ih =>
    obtain ⟨k, v⟩ := c
    by_cases hk : k = i
    · subst hk
      rw [List.filter_cons_of_pos (h v), fget, fget, if_pos rfl, if_pos rfl]
    · rw [fget, if_neg hk, ← ih, List.filter_cons]
      split
      · rw [fget, if_neg hk]
      · rfl

/-- The state of Table 12.6, before the entries that a reset writes. -/
def resetBase (s : State) (cls : ResetCls) (power : Bool) : State :=
  let po := cls == .powerOn
  let waits := power || s.plat.needPower
  let hbm := cls == .warm || cls == .thermal
  { pending := s.pending, free := s.free, out := s.out,
    od := if po then [] else s.od.filter (fun c => odKeptWarm c.1),
    blob := if po then [] else s.blob.filter (fun c => odKeptWarm c.1),
    mem := if hbm then s.mem.filter (fun c => State.hbmKept s.test.bist c.1) else [],
    slow := s.slow,
    wrong := if hbm then s.wrong.filter (fun c => State.hbmKept s.test.bist (64 * c.1)) else [],
    t1s := s.t1s.foldl (fun m c => fput {} m c.1 (State.bootT1 c.2.off c.2.spareSlot 0)) [],
    time := { now := if po then 0 else s.time.now },
    store := { s.store with verified := none },
    plat := { step := if waits || s.plat.pinLow then 0 else 1, cls := cls, needPower := waits, pinLow := s.plat.pinLow,
              pinHolds := s.plat.pinLow, tripAt := s.time.now, sensors := s.plat.sensors, rails := s.plat.rails,
              ref10m := s.plat.ref10m, dumpNo := if po then 0 else s.plat.dumpNo },
    test := if po then {} else { ir := s.test.ir, byp := s.test.byp, cells := s.test.cells } }

/-- The entries that a reset writes: cause, FT and detail (R290), no dump after a cold one, the count of R268, and COLD where it is held. -/
def resetWrites (b : State) (cause detail : Nat) (ft : Int) (cls : ResetCls) (held : Bool) : State :=
  let recorded := if cls == .powerOn then b else ((b.odSet 0x9001 1 cause).odSet 0x9001 2 (ftNat ft)).odSet 0x9001 3 detail
  let dumpless := if cls = .cold then recorded.odSet 0x9500 1 0 else recorded
  let counted := if cls = .warm && (cause == 6 || cause == 8) then dumpless.bump 0x1010 6 else dumpless
  if held then counted.odSet 0x1010 1 stCold else counted

/-- Is the module in COLD after a reset of a class: the input is missing, or RST_N is low and the class resets the Crown? -/
def heldCold (s : State) (cls : ResetCls) (power : Bool) : Bool :=
  power || s.plat.needPower || (s.plat.pinLow && (cls == .cold || cls == .powerOn))

/-- A reset is Table 12.6 and then its entries. -/
theorem doReset_eq (s : State) (cause detail : Nat) (cls : ResetCls) (power : Bool) :
    s.doReset cause detail cls power = resetWrites (resetBase s cls power) cause detail s.time.ft cls (heldCold s cls power) := rfl

/-- `t` is `s` but for number entries. -/
def EntriesOnly (s t : State) : Prop := { t with od := s.od } = s

theorem EntriesOnly.ite {s t u : State} {c : Prop} [Decidable c] (ht : EntriesOnly s t) (hu : EntriesOnly s u) :
    EntriesOnly s (if c then t else u) := by
  split
  · exact ht
  · exact hu

/-- An entry that a write under a condition does not reach. -/
theorem odGet_ite_odSet_ne (u : State) {c : Prop} [Decidable c] {i j k l : Nat} (v : Nat) (h : c → odKey k l ≠ odKey i j) :
    (if c then u.odSet i j v else u).odGet k l = u.odGet k l := by
  split
  · next hc => exact odGet_odSet_ne u v (h hc)
  · rfl

theorem odKey_ne {i j k l : Nat} (hk : k < 256) (hl : l < 256) (h : (i, k) ≠ (j, l)) : odKey i k ≠ odKey j l := by
  intro he
  unfold odKey at he
  exact h (Prod.ext (by dsimp only; omega) (by dsimp only; omega))

section
variable (b : State) (cause detail : Nat) (ft : Int) (cls : ResetCls) (held : Bool)

theorem entriesOnly_resetWrites : EntriesOnly b (resetWrites b cause detail ft cls held) := by
  have hrecorded : EntriesOnly b (if cls == .powerOn then b else ((b.odSet 0x9001 1 cause).odSet 0x9001 2 (ftNat ft)).odSet 0x9001 3 detail) :=
    EntriesOnly.ite rfl rfl
  unfold resetWrites
  dsimp only
  generalize (if cls == .powerOn then b else ((b.odSet 0x9001 1 cause).odSet 0x9001 2 (ftNat ft)).odSet 0x9001 3 detail) = recorded at *
  have hdumpless : EntriesOnly b (if cls = .cold then recorded.odSet 0x9500 1 0 else recorded) := EntriesOnly.ite hrecorded hrecorded
  generalize (if cls = .cold then recorded.odSet 0x9500 1 0 else recorded) = dumpless at *
  have hcounted : EntriesOnly b (if cls = .warm && (cause == 6 || cause == 8) then dumpless.bump 0x1010 6 else dumpless) :=
    EntriesOnly.ite hdumpless hdumpless
  exact EntriesOnly.ite hcounted hcounted

/-- Each entry that the last writes do not reach is read as recorded. -/
theorem odGet_resetWrites_ne {i k : Nat} (hk : k < 256) (hdump : cls = .cold → (i, k) ≠ (0x9500, 1))
    (hcount : cls = .warm → (i, k) ≠ (0x1010, 6)) (hmode : (i, k) ≠ (0x1010, 1)) : (resetWrites b cause detail ft cls held).odGet i k =
      (if cls == .powerOn then b else ((b.odSet 0x9001 1 cause).odSet 0x9001 2 (ftNat ft)).odSet 0x9001 3 detail).odGet i k := by
  unfold resetWrites
  dsimp only
  have hcounted : ∀ u : State,
      (if cls = .warm && (cause == 6 || cause == 8) then u.bump 0x1010 6 else u).odGet i k = u.odGet i k := fun u =>
    odGet_ite_odSet_ne u _ (fun h => odKey_ne hk (by decide) (hcount (by simp at h; exact h.1)))
  exact (odGet_ite_odSet_ne _ _ (fun _ => odKey_ne hk (by decide) hmode)).trans ((hcounted _).trans
    (odGet_ite_odSet_ne _ _ (fun h => odKey_ne hk (by decide) (hdump h))))

/-- Cause, FT and detail (R290). -/
theorem resetWrites_cause (hcls : cls ≠ .powerOn) : (resetWrites b cause detail ft cls held).odGet 0x9001 1 = cause ∧
    (resetWrites b cause detail ft cls held).odGet 0x9001 2 = ftNat ft ∧ (resetWrites b cause detail ft cls held).odGet 0x9001 3 = detail := by
  have hpo : ¬ (cls == .powerOn) = true := by simpa using hcls
  refine ⟨?_, ?_, ?_⟩
  · rw [odGet_resetWrites_ne, if_neg hpo, odGet_odSet_ne _ _ (by decide), odGet_odSet_ne _ _ (by decide), odGet_odSet_same]
    all_goals simp
  · rw [odGet_resetWrites_ne, if_neg hpo, odGet_odSet_ne _ _ (by decide), odGet_odSet_same]
    all_goals simp
  · rw [odGet_resetWrites_ne, if_neg hpo, odGet_odSet_same]
    all_goals simp

/-- An entry that no write reaches. -/
theorem odGet_resetWrites_other {i k : Nat} (hk : k < 256) (hcause : cls = .powerOn ∨ i ≠ 0x9001) (hdump : cls = .cold → (i, k) ≠ (0x9500, 1))
    (hcount : cls = .warm → (i, k) ≠ (0x1010, 6)) (hmode : (i, k) ≠ (0x1010, 1)) :
    (resetWrites b cause detail ft cls held).odGet i k = b.odGet i k := by
  rw [odGet_resetWrites_ne b cause detail ft cls held hk hdump hcount hmode]
  rcases hcause with rfl | hi
  · rfl
  · have hother : ∀ {l : Nat}, l < 256 → odKey i k ≠ odKey 0x9001 l := fun hl => odKey_ne hk hl (fun he => hi (congrArg Prod.fst he))
    split
    · rfl
    · rw [odGet_odSet_ne _ _ (hother (by decide)), odGet_odSet_ne _ _ (hother (by decide)), odGet_odSet_ne _ _ (hother (by decide))]

theorem resetWrites_modState : (resetWrites b cause detail ft cls held).modState = if held then stCold else b.modState := by
  unfold resetWrites State.modState
  dsimp only
  split
  · exact odGet_odSet_same _ _ _ _
  · refine (odGet_ite_odSet_ne _ _ (fun _ => by decide)).trans ((odGet_ite_odSet_ne _ _ (fun _ => by decide)).trans ?_)
    split
    · rfl
    · rw [odGet_odSet_ne _ _ (by decide), odGet_odSet_ne _ _ (by decide), odGet_odSet_ne _ _ (by decide)]

/-- A cold reset leaves no dump. -/
theorem resetWrites_dumpless : (resetWrites b cause detail ft .cold held).odGet 0x9500 1 = 0 := by
  unfold resetWrites
  dsimp only
  rw [if_pos rfl]
  exact (odGet_ite_odSet_ne _ _ (fun _ => by decide)).trans ((odGet_ite_odSet_ne _ _ (fun _ => by decide)).trans (odGet_odSet_same _ _ _ _))

/-- The count of R268, OD 0x1010.06, is a U8. -/
theorem odRow_faultResets : (odRow 0x1010 6).map (·.size) = some 1 := by decide +kernel

theorem resetWrites_count : (resetWrites b cause detail ft .warm held).odGet 0x1010 6 =
    if cause = 6 ∨ cause = 8 then (b.odGet 0x1010 6 + 1) % 256 else b.odGet 0x1010 6 := by
  have hrecorded : (((b.odSet 0x9001 1 cause).odSet 0x9001 2 (ftNat ft)).odSet 0x9001 3 detail).odGet 0x1010 6 = b.odGet 0x1010 6 := by
    rw [odGet_odSet_ne _ _ (by decide), odGet_odSet_ne _ _ (by decide), odGet_odSet_ne _ _ (by decide)]
  rw [← hrecorded]
  refine (odGet_ite_odSet_ne _ _ (fun _ => by decide)).trans ?_
  by_cases hfault : cause = 6 ∨ cause = 8
  · rw [if_pos hfault]
    exact (congrArg (fun u : State => u.odGet 0x1010 6) (if_pos (by simpa using hfault))).trans (odGet_bumpBy_same _ 1 odRow_faultResets)
  · rw [if_neg hfault]
    exact congrArg (fun u : State => u.odGet 0x1010 6) (if_neg (by simpa using hfault))

end

section
variable (s : State) (cause detail : Nat) (cls : ResetCls) (power : Bool)

/-- The entries after a reset, but for those that it writes: what Table 12.6 keeps, and otherwise the default. -/
theorem odGet_resetBase (i k : Nat) : (resetBase s cls power).odGet i k =
    if cls ≠ .powerOn ∧ odKeptWarm (odKey i k) = true then s.odGet i k else odDfltKey (odKey i k) := by
  unfold State.odGet
  by_cases hkept : odKeptWarm (odKey i k) = true
  · cases cls with
    | powerOn => rfl
    | cold | warm | thermal =>
      rw [if_pos ⟨by decide, hkept⟩]
      exact fget_filter_kept _ _ _ _ (fun _ => hkept)
  · rw [if_neg (fun h => hkept h.2)]
    exact mode_doReset _ _ _ _ (Bool.not_eq_true _ ▸ hkept)

theorem resetBase_modState : (resetBase s cls power).modState = stBoot := by
  refine (odGet_resetBase s cls power 0x1010 1).trans ?_
  rw [if_neg (fun h => absurd h.2 (by decide))]
  decide +kernel

theorem doReset_entriesOnly : EntriesOnly (resetBase s cls power) (s.doReset cause detail cls power) :=
  entriesOnly_resetWrites (resetBase s cls power) cause detail s.time.ft cls (heldCold s cls power)

theorem doReset_modState : (s.doReset cause detail cls power).modState = if heldCold s cls power then stCold else stBoot := by
  rw [doReset_eq, resetWrites_modState, resetBase_modState]

/-- A power-on leaves every entry but the module state at its default. -/
theorem odGet_doReset_powerOn {i k : Nat} (hk : k < 256) (hmode : (i, k) ≠ (0x1010, 1)) :
    (s.doReset cause detail .powerOn power).odGet i k = odDfltKey (odKey i k) := by
  rw [doReset_eq, odGet_resetWrites_other _ _ _ _ _ _ hk (.inl rfl) (by simp) (by simp) hmode, odGet_resetBase, if_neg (by simp)]

/-- A reset of another class leaves what Table 12.6 keeps. -/
theorem odGet_doReset_kept (hcls : cls ≠ .powerOn) {i k : Nat} (hk : k < 256) (hi : i ≠ 0x9001) (hmode : (i, k) ≠ (0x1010, 1))
    (hcount : (i, k) ≠ (0x1010, 6)) (hdump : cls = .cold → (i, k) ≠ (0x9500, 1)) : (s.doReset cause detail cls power).odGet i k =
      if odKeptWarm (odKey i k) then s.odGet i k else odDfltKey (odKey i k) := by
  rw [doReset_eq, odGet_resetWrites_other _ _ _ _ _ _ hk (.inr hi) hdump (fun _ => hcount) hmode, odGet_resetBase]
  simp [hcls]

theorem doReset_cause (hcls : cls ≠ .powerOn) : (s.doReset cause detail cls power).odGet 0x9001 1 = cause ∧
    (s.doReset cause detail cls power).odGet 0x9001 2 = ftNat s.time.ft ∧ (s.doReset cause detail cls power).odGet 0x9001 3 = detail :=
  resetWrites_cause _ _ _ _ _ _ hcls

/-- The count of R268 is kept, and a warm reset after a fault is counted. -/
theorem doReset_count : (s.doReset cause detail .warm power).odGet 0x1010 6 =
    if cause = 6 ∨ cause = 8 then (s.odGet 0x1010 6 + 1) % 256 else s.odGet 0x1010 6 := by
  have hkept : (resetBase s .warm power).odGet 0x1010 6 = s.odGet 0x1010 6 :=
    (odGet_resetBase s .warm power 0x1010 6).trans (if_pos ⟨by decide, by decide⟩)
  rw [doReset_eq, resetWrites_count, hkept]

/-- HBM below the training areas of a stack that is not under BIST survives a warm and a thermal reset. -/
theorem doReset_mem_kept (hcls : cls = .warm ∨ cls = .thermal) {a : Nat} (hlow : a < barrelBase) (huse : a % hbmStride < hbmUse)
    (hbist : Nat.testBit s.test.bist (a / hbmStride) = false) : fget 0 (s.doReset cause detail cls power).mem a = fget 0 s.mem a := by
  have hmem : (s.doReset cause detail cls power).mem = s.mem.filter (fun c => State.hbmKept s.test.bist c.1) := by
    rcases hcls with rfl | rfl
    · exact (congrArg State.mem (doReset_entriesOnly s cause detail _ power) :)
    · exact (congrArg State.mem (doReset_entriesOnly s cause detail _ power) :)
  rw [hmem]
  exact fget_filter_kept _ _ _ _ (fun _ => by simp [State.hbmKept, hlow, huse, hbist])

end

/-! ### Sources that assert (R285, R286, R289 to R291) -/

/-- The sources of Table 12.5 but the pin and the loss of the reset domain, with cause, detail, class, and whether they wait for the input. -/
def resetSources : List (Instr × Nat × Nat × ResetCls × Bool) :=
  [(.vdlLinkReset, 4, 0, .warm, false), (.sagReset, 2, 1, .cold, true)] ++
  (List.range 17).map (fun k => (.thermalTrip k, 7, k, .thermal, false)) ++
  [(1, 690), (2, 740), (3, 980), (4, 840)].flatMap (fun r => (List.range r.2).map (fun mv => (.railReset r.1 mv, 2, r.1 + 1, .cold, true)))

/-- A source is absorbed by what is in progress, by one that outranks it, or in the stop of R268 (R291). -/
def Absorbed (s : State) (cause : Nat) (cls : ResetCls) : Prop :=
  (s.resetting = true ∧ cls = .warm ∧ s.plat.cls ≠ .warm) ∨ s.outranked cause = true ∨ (s.plat.dumpStopped = true ∧ cause ∉ [1, 3, 5])

section
variable {s : State} {cause : Nat} {cls : ResetCls}

theorem absorbed_iff : ((s.resetting && cls == .warm && s.plat.cls != .warm) || s.outranked cause ||
    (s.plat.dumpStopped && cause != 1 && cause != 3 && cause != 5)) = true ↔ Absorbed s cause cls := by
  simp [Absorbed, and_assoc, or_assoc]

theorem assertReset_absorbed (detail : Nat) (power : Bool) (h : Absorbed s cause cls) : s.assertReset cause detail cls power = s :=
  if_pos (absorbed_iff.mpr h)

theorem assertReset_performed (detail : Nat) (power : Bool) (h : ¬ Absorbed s cause cls) :
    s.assertReset cause detail cls power = s.performReset cause detail cls power := if_neg (mt absorbed_iff.mp h)

theorem exec_railReset {rail mv : Nat} (h1 : 1 ≤ rail) (h4 : rail ≤ 4) (hlow : mv < (railLevels rail).2) :
    exec (.railReset rail mv) s = .next (s.assertReset 2 (rail + 1) .cold true) := if_pos (by simp [h1, h4, hlow])

/-- A source of the list asserts with its cause, detail and class. -/
theorem exec_resetSource {c : Instr} {detail : Nat} {power : Bool} (h : (c, cause, detail, cls, power) ∈ resetSources) :
    exec c s = .next (s.assertReset cause detail cls power) ∧ cause ∉ [1, 3, 5] := by
  simp only [resetSources, List.mem_append, List.mem_cons, List.mem_map, List.mem_flatMap, List.mem_range, List.not_mem_nil, or_false,
    Prod.mk.injEq] at h
  rcases h with ((⟨rfl, rfl, rfl, rfl, rfl⟩ | ⟨rfl, rfl, rfl, rfl, rfl⟩) | ⟨k, hk, rfl, rfl, rfl, rfl, rfl⟩) |
    ⟨r, hr, mv, hmv, rfl, rfl, rfl, rfl, rfl⟩
  · exact ⟨rfl, by decide⟩
  · exact ⟨rfl, by decide⟩
  · exact ⟨if_pos hk, by decide⟩
  · refine ⟨?_, by decide⟩
    rcases hr with rfl | rfl | rfl | rfl <;> exact exec_railReset (by decide) (by decide) hmv

theorem exec_railReset_none {rail mv : Nat} (h : rail = 0 ∨ 4 < rail ∨ [0, 690, 740, 980, 840].getD rail 0 ≤ mv) :
    exec (.railReset rail mv) s = .next s := by
  refine if_neg (fun hlow => ?_)
  simp only [Bool.and_eq_true, decide_eq_true_eq] at hlow
  obtain ⟨⟨h1, h4⟩, hmv⟩ := hlow
  have hlevel : [0, 690, 740, 980, 840].getD rail 0 = (railLevels rail).2 := by
    interval_cases rail <;> rfl
  rcases h with rfl | h | h
  · omega
  · omega
  · rw [hlevel] at h
    exact Nat.not_lt.mpr h hmv

/-- A cause that has asserted in the same 1 µs outranks those of lower rank (R291). -/
theorem outranked_doReset (s : State) (cause detail : Nat) (hcls : cls ≠ .powerOn) (power : Bool) (other : Nat) :
    (s.doReset cause detail cls power).outranked other = decide (State.causeRank cause < State.causeRank other) := by
  have hframe := doReset_entriesOnly s cause detail cls power
  have hplat : (s.doReset cause detail cls power).plat = (resetBase s cls power).plat := (congrArg State.plat hframe :)
  have hnow : (s.doReset cause detail cls power).time.now = s.time.now :=
    (congrArg (fun t : State => t.time.now) hframe :).trans (if_neg (by simpa using hcls))
  have hresetting : (s.doReset cause detail cls power).resetting = true := by
    unfold State.resetting
    rw [doReset_modState]
    split <;> rfl
  have hstep : (resetBase s cls power).plat.step ≤ 1 := by
    show (if (power || s.plat.needPower || s.plat.pinLow) = true then 0 else 1) ≤ 1
    split <;> decide
  have hcls' : ((resetBase s cls power).plat.cls != .powerOn) = true := bne_iff_ne.mpr hcls
  have htrip : s.time.now < (resetBase s cls power).plat.tripAt + 1000 := Nat.lt_add_of_pos_right (by decide)
  unfold State.outranked
  rw [hresetting, hplat, hnow, hcls', decide_eq_true hstep, decide_eq_true htrip, (doReset_cause s cause detail cls power hcls).1]
  rfl

theorem not_outranked (h : s.resetting = false ∨ s.plat.tripAt + 1000 ≤ s.time.now) : s.outranked cause = false := by
  unfold State.outranked
  rcases h with h | h
  · simp [h]
  · simp [Nat.not_lt.mpr h]

/-! ### The pin and the input (R285, R290, R327) -/

/-- RST_N goes low (R327). -/
def pinLowered (s : State) : State := { s with plat := { s.plat with pinLow := true } }

theorem exec_resetPin (h : s.plat.pinLow = false) : exec .resetPin s = .next ((pinLowered s).assertReset 3 1 .warm false).holdReset :=
  if_neg (by simp [h])

/-- Only what is in progress or of a higher rank absorbs the pin. -/
theorem absorbed_pin : Absorbed (pinLowered s) 3 .warm ↔ (s.resetting = true ∧ s.plat.cls ≠ .warm) ∨ s.outranked 3 = true := by
  have hresetting : (pinLowered s).resetting = s.resetting := rfl
  have houtranked : (pinLowered s).outranked 3 = s.outranked 3 := rfl
  have hcls : (pinLowered s).plat.cls = s.plat.cls := rfl
  unfold Absorbed
  rw [hresetting, houtranked, hcls]
  simp

/-- RST_N holds the module, the Crown included. -/
theorem holdReset_effect (s : State) : s.holdReset.plat.step = 0 ∧ s.holdReset.plat.pinHolds = true ∧ s.holdReset.plat.released = [] ∧
    s.holdReset.plat.recovery = false ∧ s.holdReset.crown = {} ∧ s.holdReset.mem = s.mem ∧
    s.holdReset.modState = (if s.plat.cls = .warm ∨ s.plat.cls = .thermal then s.modState else stCold) := by
  unfold State.holdReset
  dsimp only
  by_cases h : s.plat.cls = .warm ∨ s.plat.cls = .thermal
  · rw [if_pos (by simpa using h), if_pos h]
    exact ⟨rfl, rfl, rfl, rfl, rfl, rfl, rfl⟩
  · rw [if_neg (by simpa using h), if_neg h]
    exact ⟨rfl, rfl, rfl, rfl, rfl, rfl, odGet_odSet_same _ _ _ _⟩

/-- The release of Table 12.7 begins. -/
theorem beginRelease_effect (s : State) : s.beginRelease.modState = stBoot ∧ s.beginRelease.plat = { s.plat with step := 1 } ∧
    s.beginRelease.mem = s.mem ∧ s.beginRelease.odGet 0x9001 1 = s.odGet 0x9001 1 := by
  have hframe := odSetShown_frame s 0x1010 1 stBoot
  have hplat : (s.odSetShown 0x1010 1 stBoot).plat = s.plat := (congrArg State.plat hframe :)
  refine ⟨odGet_odSetShown_same s 0x1010 1 stBoot, ?_, (congrArg State.mem hframe :), odGet_odSetShown_ne s stBoot (by decide)⟩
  exact congrArg (fun p : Plat => { p with step := 1 }) hplat

theorem exec_resetPinRelease_begins (hholds : s.plat.pinHolds = true) (hpower : s.plat.needPower = false) :
    exec .resetPinRelease s = .next (State.beginRelease { s with plat := { s.plat with pinLow := false, pinHolds := false } }) :=
  if_pos (by simp [hholds, hpower])

theorem exec_resetPinRelease_waits (h : s.plat.pinHolds = false ∨ s.plat.needPower = true) :
    exec .resetPinRelease s = .next { s with plat := { s.plat with pinLow := false, pinHolds := false } } :=
  if_neg (by rcases h with h | h <;> simp [h])

theorem exec_powerOn (h : s.plat.needPower = true) : exec .powerOn s =
    .next (if s.plat.pinHolds then { s with plat := { s.plat with needPower := false } }
      else State.beginRelease { s with plat := { s.plat with needPower := false } }) := if_pos h

end

end Sys2Proof.Machine

open Sys2Proof Sys2Proof.Machine

/-- Settles O52: each source through what absorbs it, and what a reset leaves by Table 12.6 and the entries that it writes. -/
theorem resetsAct : Obligations.ResetsAct := by
  unfold Obligations.ResetsAct
  refine ⟨⟨fun s c cause detail cls power => ?sources, fun s k hk => if_neg (Nat.not_lt.mpr hk), fun s rail mv => exec_railReset_none,
      fun s => ?pin, fun s hholds hpower => ?release, fun s => exec_resetPinRelease_waits, fun s hpower hholds => ?powerOn,
      fun s hpower hholds => ?held, fun s hpower => if_neg (by simp [hpower]), fun s => rfl,
      fun s cause detail cls power other hcls => outranked_doReset s cause detail hcls power other, fun s cause => not_outranked⟩,
    fun s cause detail cls power => ?leaves, fun s cause detail => doReset_count s cause detail false⟩
  case sources =>
    intro sources dumping absorbed hmem
    obtain ⟨hexec, hcause⟩ := exec_resetSource (s := s) hmem
    have habsorbed : Absorbed s cause cls ↔ absorbed := by simp only [Absorbed, hcause, not_false_eq_true, and_true, absorbed]
    rw [hexec]
    exact ⟨fun h => congrArg _ (assertReset_performed detail power (mt habsorbed.mp h)),
      fun h => congrArg _ (assertReset_absorbed detail power (habsorbed.mpr h))⟩
  case pin =>
    intro low dumping absorbed
    refine ⟨fun hhigh h => ?_, fun hhigh h => ?_, fun hlow => ⟨if_pos hlow, if_pos hlow⟩, fun hhigh => if_neg (by simp [hhigh]),
      holdReset_effect s⟩
    · rw [exec_resetPin hhigh, assertReset_performed _ _ (mt absorbed_pin.mp h)]
      rfl
    · rw [exec_resetPin hhigh, assertReset_absorbed _ _ (absorbed_pin.mpr h)]
      rfl
  case release =>
    obtain ⟨hmode, hplat, hmem, hcause⟩ := beginRelease_effect { s with plat := { s.plat with pinLow := false, pinHolds := false } }
    exact ⟨_, exec_resetPinRelease_begins hholds hpower, hmode, by rw [hplat], by rw [hplat], by rw [hplat], hmem, hcause⟩
  case powerOn =>
    obtain ⟨hmode, hplat, hmem, hcause⟩ := beginRelease_effect { s with plat := { s.plat with needPower := false } }
    refine ⟨_, (exec_powerOn hpower).trans (congrArg _ (if_neg (by simp [hholds]))), hmode, by rw [hplat], by rw [hplat], hmem, hcause⟩
  case held => exact (exec_powerOn hpower).trans (congrArg _ (if_pos hholds))
  case leaves =>
    intro t waits
    have hframe := doReset_entriesOnly s cause detail cls power
    have hplat : t.plat = (resetBase s cls power).plat := (congrArg State.plat hframe :)
    have hwaits : (power || s.plat.needPower) = true ↔ waits := .of_eq (Bool.or_eq_true _ _)
    refine ⟨(congrArg State.pinions hframe :), (congrArg State.barrels hframe :), (congrArg State.syncs hframe :),
      (congrArg State.beats hframe :), (congrArg State.units hframe :), (congrArg State.changes hframe :), (congrArg State.near hframe :),
      (congrArg State.crown hframe :), (congrArg State.far hframe :), (congrArg State.outer hframe :), (congrArg State.coll hframe :),
      (congrArg (fun u : State => u.time.ft) hframe :), (congrArg State.slow hframe :), (congrArg State.pending hframe :),
      (congrArg State.out hframe :), (congrArg State.store hframe :), by rw [hplat]; rfl, by rw [hplat]; rfl, by rw [hplat]; exact hwaits,
      by rw [hplat]; rfl, ?step, ?mode, fun hcls => ?on, fun hcls => ?other, fun hcls a => doReset_mem_kept s cause detail cls power hcls,
      fun hcls => ?lost⟩
    case step =>
      rw [hplat]
      exact if_congr (by rw [Bool.or_eq_true, hwaits]) rfl rfl
    case mode =>
      refine (doReset_modState s cause detail cls power).trans (if_congr ?_ rfl rfl)
      simp [heldCold, waits]
    case on =>
      subst hcls
      have hdflt : ∀ {i k : Nat}, k < 256 → (i, k) ≠ (0x1010, 1) → t.odGet i k = odDfltKey (odKey i k) :=
        odGet_doReset_powerOn s cause detail power
      exact ⟨(hdflt (by decide) (by decide)).trans (by decide +kernel), (hdflt (by decide) (by decide)).trans (by decide +kernel),
        (hdflt (by decide) (by decide)).trans (by decide +kernel), (congrArg State.test hframe :), fun i k hmode hk => hdflt hk hmode⟩
    case other =>
      obtain ⟨hcause, hft, hdetail⟩ := doReset_cause s cause detail cls power hcls
      have htest : (resetBase s cls power).test = { ir := s.test.ir, byp := s.test.byp, cells := s.test.cells } := if_neg (by simpa using hcls)
      refine ⟨hcause, hft, hdetail, ?_, fun hcold => ?_, fun i k hk hi hmode hcount hdump =>
        odGet_doReset_kept s cause detail cls power hcls hk hi hmode hcount hdump⟩
      · exact (congrArg (fun u : State => u.test.ir) hframe :).trans (congrArg TestBlk.ir htest :)
      · subst hcold
        exact resetWrites_dumpless _ _ _ _ _
    case lost =>
      rcases hcls with rfl | rfl
      · exact (congrArg State.mem hframe :)
      · exact (congrArg State.mem hframe :)
end

section
/-! SUPPORT. The release of Table 12.7 (12, 12.6; R293), its late blocks, recovery (13, 13.1; R309) and the boot ROM's choice of a slot (R308):
each step by what it finds, and the statement. -/

-- One theorem at a time, as in the tests: threads that wait each reserve a stack, which counts against the memory of the compile.
set_option Elab.async false

namespace Sys2Proof.Machine

section
variable {s a : State}

/-! ### The choice of a slot (R308) -/

theorem slotFail_ctlWrite (s : State) (f : CtlBlock → CtlBlock) (k : Nat) : (s.ctlWrite f).slotFail k = s.slotFail k := by
  unfold State.ctlWrite
  dsimp only
  split <;> rfl

/-- The control block just written is the one in force. -/
theorem ctl_ctlWrite (s : State) (f : CtlBlock → CtlBlock) : (s.ctlWrite f).ctl = { f s.ctl with seq := s.ctl.seq + 1 } := by
  unfold State.ctlWrite State.ctl
  by_cases h : s.store.ctl1.seq < s.store.ctl0.seq
  · simp only [if_pos h]
    exact if_neg (by omega)
  · simp only [if_neg h]
    exact if_pos (by omega)

/-- Every slot number but 0 names slot 1. -/
theorem slotFail_ne_zero (h0 : s.slotFail 0 ≠ 0) (h1 : s.slotFail 1 ≠ 0) (k : Nat) : s.slotFail k ≠ 0 := by
  cases k with
  | zero => exact h0
  | succ k => exact h1

theorem romOther_valid {k : Nat} (fail : Nat) (hconfirmed : s.confirmed k = true) (hvalid : s.slotFail k = 0) :
    s.romOther k fail = (s.romRun k fail, true) := by
  unfold State.romOther
  rw [if_pos hconfirmed]
  exact if_pos hvalid

theorem romOther_fails {k : Nat} (fail : Nat) (hinvalid : s.slotFail k ≠ 0) : (s.romOther k fail).2 = false := by
  unfold State.romOther
  by_cases hconfirmed : s.confirmed k = true
  · rw [if_pos hconfirmed]
    exact congrArg Prod.snd (if_neg hinvalid)
  · rw [if_neg hconfirmed]

/-- The state in which the ROM tries the preferred slot: a trial is taken back first. -/
def romTried (s : State) : State := if s.ctl.trial then s.ctlWrite (fun c => { c with trial := false }) else s

theorem slotFail_romTried (s : State) (k : Nat) : (romTried s).slotFail k = s.slotFail k := by
  unfold romTried
  split
  · exact slotFail_ctlWrite s _ k
  · rfl

theorem confirmed_romTried (s : State) (k : Nat) : (romTried s).confirmed k = s.confirmed k := by
  unfold romTried State.confirmed
  split
  · rw [ctl_ctlWrite]
  · rfl

theorem romChoose_tries (h : s.ctl.trial = true ∨ s.confirmed s.ctl.preferred = true) : s.romChoose =
    if s.slotFail s.ctl.preferred = 0 then ((romTried s).romRun s.ctl.preferred 0, true)
    else (romTried s).romOther (1 - s.ctl.preferred) (s.slotFail s.ctl.preferred) := by
  rw [← slotFail_romTried s]
  exact if_pos (by simpa using h)

theorem romChoose_skips (htrial : s.ctl.trial = false) (hconfirmed : s.confirmed s.ctl.preferred = false) :
    s.romChoose = s.romOther (1 - s.ctl.preferred) 6 := if_neg (by simp [htrial, hconfirmed])

theorem romChoose_fails (h0 : s.slotFail 0 ≠ 0) (h1 : s.slotFail 1 ≠ 0) : s.romChoose.2 = false := by
  have hslots := slotFail_ne_zero h0 h1
  by_cases htry : s.ctl.trial = true ∨ s.confirmed s.ctl.preferred = true
  · rw [romChoose_tries htry, if_neg (hslots _)]
    exact romOther_fails _ (by rw [slotFail_romTried]; exact hslots _)
  · rw [not_or, Bool.not_eq_true, Bool.not_eq_true] at htry
    rw [romChoose_skips htry.1 htry.2]
    exact romOther_fails _ (hslots _)

/-- The choice writes the store of firmware only. -/
theorem stayPart_romChoose (s : State) : stayPart s.romChoose.1 = stayPart s := by
  have hother : ∀ (a : State) (k fail : Nat), stayPart (a.romOther k fail).1 = stayPart a := fun a k fail => by
    unfold State.romOther
    dsimp only
    split
    · split <;> rfl
    · rfl
  have htried : stayPart (romTried s) = stayPart s := by
    unfold romTried
    split
    · exact (ctlWrite_effect s _).1
    · rfl
  by_cases htry : s.ctl.trial = true ∨ s.confirmed s.ctl.preferred = true
  · rw [romChoose_tries htry]
    split
    · exact htried
    · exact (hother _ _ _).trans htried
  · rw [not_or, Bool.not_eq_true, Bool.not_eq_true] at htry
    rw [romChoose_skips htry.1 htry.2]
    exact hother _ _ _

/-! ### The steps (R293) -/

theorem exec_bootStepComplete (h : s.modState = stBoot) : exec .bootStepComplete s = .next s.bootStep := if_pos h

theorem bootStep_later {n : Nat} (h4 : 4 ≤ n) (h9 : n ≠ 9) (hstep : s.plat.step = n) : s.bootStep = s.atStep (n + 1) := by
  unfold State.bootStep
  split
  case h_6 => rw [hstep]
  all_goals omega

theorem bootStep_idle (h : s.plat.step = 0 ∨ s.plat.step = 1 ∧ s.plat.recovery = true) : s.bootStep = s := by
  unfold State.bootStep
  rcases h with hstep | ⟨hstep, hrecovery⟩
  · rw [hstep]
    rfl
  · rw [hstep]
    exact if_pos hrecovery

theorem bootStep_rom (hstep : s.plat.step = 1) (hrecovery : s.plat.recovery = false) : s.bootStep = s.bootRom := by
  unfold State.bootStep
  rw [hstep]
  exact if_neg (by simp [hrecovery])

theorem bootStep_clock (hstep : s.plat.step = 2) : s.bootStep = s.bootClock.atStep 3 := by
  unfold State.bootStep
  rw [hstep]
  rfl

theorem bootStep_hbm (hstep : s.plat.step = 3) : s.bootStep = if s.coolEnough then s.atStep 4 else s := by
  unfold State.bootStep
  rw [hstep]
  rfl

theorem bootRom_runs (h : s.romChoose = (a, true)) : s.bootRom = ((a.odSet 0x1220 1 1).release [1, 7]).atStep 2 := by
  unfold State.bootRom
  rw [h]
  rfl

theorem bootRom_recovers (h : s.romChoose = (a, false)) :
    s.bootRom = State.release { a.odSet 0x1220 1 1 with plat := { (a.odSet 0x1220 1 1).plat with recovery := true } } [1] := by
  unfold State.bootRom
  rw [h]
  rfl

/-- The module in recovery: BOOT goes on, PWRGD_OUT stays low, and ALERT_N is driven low (R309, R328). -/
theorem bootRom_recovers_effect (hboot : s.modState = stBoot) (h : s.romChoose = (a, false)) : s.bootRom.plat.recovery = true ∧
    s.bootRom.modState = stBoot ∧ s.bootRom.pwrgd = false ∧ s.bootRom.alert = true ∧ s.bootRom.mem = s.mem := by
  have hstay : stayPart a = stayPart s := by
    have hchoose := stayPart_romChoose s
    rwa [h] at hchoose
  obtain ⟨⟨hmem, -⟩, hmode⟩ := stayPart_iff.mp hstay
  rw [bootRom_recovers h]
  have hmode' : (State.release { a.odSet 0x1220 1 1 with plat := { (a.odSet 0x1220 1 1).plat with recovery := true } } [1]).modState = stBoot :=
    (odGet_odSet_ne (i := 0x1220) (j := 1) a 1 (by decide)).trans (hmode.trans hboot)
  refine ⟨rfl, hmode', ?_, ?_, hmem⟩
  · unfold State.pwrgd
    rw [hmode']
    rfl
  · exact Bool.or_true _

/-- Only after a thermal reset can the module be too hot for the HBM step. -/
theorem thermal_of_hot (h : s.coolEnough = false) : s.plat.cls = .thermal := by
  unfold State.coolEnough at h
  rw [Bool.or_eq_false_iff, bne_eq_false_iff_eq] at h
  exact h.1

/-! ### Late blocks (R293) -/

theorem stepRuns_iff : s.stepRuns = true ↔ s.modState = stBoot ∧ s.plat.step ≠ 0 ∧ s.plat.recovery = false ∧
    (s.plat.step = 3 → s.coolEnough = true) := by
  simp [State.stepRuns, and_assoc, imp_iff_not_or]

theorem exec_bootStepTimeout (h : s.stepRuns = true) : exec .bootStepTimeout s = .next s.bootLate := if_pos h

/-! ### Recovery (R309) -/

theorem fwFail_congr (h : a.store = s.store) (b : List Byte) : a.fwFail b = s.fwFail b := by
  unfold State.fwFail State.fwKeyOk State.keyRevoked State.fuseRevoked State.fuseRollback
  rw [h]

/-- What the ROM takes from the mailbox does not touch the store. -/
theorem store_romTake (s : State) : s.romTake.store = s.store := by
  have hframe := congrArg State.store (crownOnly_mbWrite s 4 (s.mbRead 0 4))
  exact hframe

theorem exec_recoveryImage (h : s.plat.recovery = true) : exec .recoveryImage s =
    if s.romTake.fwFail s.romTake.plat.image = 0 then
      .next (((s.romTake.slotWrite 0 s.romTake.plat.image).ctlWrite (fun _ => { confirmed := 1 })).doReset 9 0 .warm false)
    else .next { s.romTake with plat := { s.romTake.plat with image := [] } } := by
  rw [fwFail_congr (store_romTake s)]
  exact if_pos h

end

end Sys2Proof.Machine

open Sys2Proof Sys2Proof.Machine

/-- Settles O53: each step of the release by its own lemma, and the choice of a slot by what the ROM tries first. -/
theorem releaseSteps : Obligations.ReleaseSteps := by
  unfold Obligations.ReleaseSteps
  refine ⟨fun s hboot => ?steps, fun s => ?idle, fun s => ?recovery, fun s => ?choice⟩
  case steps =>
    rw [exec_bootStepComplete hboot]
    refine ⟨fun n h4 h9 hstep => congrArg _ (bootStep_later h4 h9 hstep), fun h => congrArg _ (bootStep_idle h),
      fun hstep hrec a h => ?_, fun hstep hrec a h => ?_, fun hstep href => ?_, fun hstep href => ?_, fun hstep => ?_, fun hruns hlow => ?_,
      fun hruns hhigh => ?_, fun h0 h3 hrec => stepRuns_iff.mpr ⟨hboot, h0, hrec, fun h => absurd h h3⟩, fun h => ?_⟩
    · rw [bootStep_rom hstep hrec, bootRom_runs h]
    · rw [bootStep_rom hstep hrec]
      exact ⟨_, rfl, bootRom_recovers_effect hboot h⟩
    · rw [bootStep_clock hstep, State.bootClock, if_pos href]
    · rw [bootStep_clock hstep, State.bootClock, if_neg (by simp [href])]
    · rw [bootStep_hbm hstep]
      by_cases hcool : s.coolEnough = true
      · simp [hcool]
      · rw [Bool.not_eq_true] at hcool
        simp [hcool, thermal_of_hot hcool]
    · rw [exec_bootStepTimeout hruns, State.bootLate, if_neg (Nat.not_le.mpr hlow)]
    · rw [exec_bootStepTimeout hruns, State.bootLate, if_pos hhigh]
    · rw [Bool.eq_false_iff, ne_eq, stepRuns_iff]
      rintro ⟨-, hstep, hrec, -⟩
      rcases h with h | h
      · exact hstep h
      · rw [hrec] at h; cases h
  case idle =>
    refine ⟨fun h => if_neg h, fun h => if_neg (by simp [h]), fun h => ?_⟩
    rw [Bool.eq_false_iff, ne_eq, stepRuns_iff]
    exact fun hruns => h hruns.1
  case recovery =>
    refine ⟨fun hrec hvalid => ?_, fun hrec hinvalid => ?_, fun hrec => if_neg (by simp [hrec])⟩
    · rw [exec_recoveryImage hrec, if_pos hvalid]
    · rw [exec_recoveryImage hrec, if_neg hinvalid]
  case choice =>
    have hchoice : s.ctl.trial = true → romTried s = s.ctlWrite (fun c => { c with trial := false }) := fun h => if_pos h
    have hplain : s.ctl.trial = false → romTried s = s := fun h => if_neg (by simp [h])
    refine ⟨fun htrial hconfirmed hvalid => ?_, fun htrial hconfirmed hother hvalid => ?_, fun htrial hvalid => ?_,
      fun htrial hinvalid hother hvalid => ?_, romChoose_fails⟩
    · rw [romChoose_tries (.inr hconfirmed), if_pos hvalid, hplain htrial]
    · rw [romChoose_skips htrial hconfirmed, romOther_valid 6 hother hvalid]
    · rw [romChoose_tries (.inl htrial), if_pos hvalid, hchoice htrial]
    · rw [romChoose_tries (.inl htrial), if_neg hinvalid, ← hchoice htrial,
        romOther_valid _ (by rw [confirmed_romTried]; exact hother) (by rw [slotFail_romTried]; exact hvalid)]
end

section
/-! SUPPORT. Input, rails and sensors (12, 12.1 to 12.3; R284, R286 to R289): comparisons of whole numbers, the thermal levels of Table 12.4,
the cap level, the applied throttle level, what an event puts on the wires, and the statement. -/

-- One theorem at a time, as in the tests: threads that wait each reserve a stack, which counts against the memory of the compile.
set_option Elab.async false

namespace Sys2Proof.Machine

/-! ### Whole numbers as exact values -/

theorem natV_eq (n : Nat) : natV n = .fin false n 0 := by simp [natV, FV.ofInt]

theorem cmp_natV (a b : Nat) : FV.cmp (natV a) (natV b) = compare (a : Int) b := by simp [natV_eq, FV.cmp, FV.scaled]

theorem lt_natV (a b : Nat) : FV.lt (natV a) (natV b) = decide (a < b) := by
  have hlt : FV.lt (natV a) (natV b) = (FV.cmp (natV a) (natV b) == .lt) := by simp [FV.lt, natV_eq, FV.isNan]
  rw [hlt, cmp_natV, Bool.eq_iff_iff]
  simp [compare_lt_iff_lt]

theorem atLeast_natV (a b : Nat) : atLeast (natV a) (natV b) = decide (b ≤ a) := by
  have heqv : FV.eqv (natV b) (natV a) = (FV.cmp (natV b) (natV a) == .eq) := by simp [FV.eqv, natV_eq, FV.isNan]
  rw [atLeast, heqv, lt_natV, cmp_natV, Bool.eq_iff_iff]
  simp
  omega

/-! ### Thermal levels (R289, Table 12.4) -/

/-- A step of Table 12.4 stands after the level `cur`: entered, or not left yet. -/
def stepStands (w cur t : Nat) (k : Nat × Nat) : Bool := decide (w + k.2 ≤ t) || (decide (k.1 ≤ cur) && decide (w + k.2 - 3 < t))

theorem thermalLevel_natV (w cur t : Nat) :
    thermalLevel w cur (natV t) = (thermalSteps.filter (stepStands w cur t)).foldl (fun m k => max m k.1) 0 := by
  unfold thermalLevel stepStands
  simp only [atLeast_natV, lt_natV]

/-- From level 0 no step is held. -/
theorem thermalLevel_entered (w t : Nat) : thermalLevel w 0 (natV t) = if w + 8 ≤ t then 12 else if w + 6 ≤ t then 10
    else if w + 4 ≤ t then 8 else if w + 2 ≤ t then 6 else if w ≤ t then 4 else 0 := by
  rw [thermalLevel_natV]
  have hstands : ∀ k b, 0 < k → stepStands w 0 t (k, b) = decide (w + b ≤ t) := fun k b hk => by
    simp [stepStands, Nat.pos_iff_ne_zero.mp hk]
  simp only [thermalSteps, List.filter_cons, List.filter_nil, hstands _ _ (by decide : 0 < 4), hstands _ _ (by decide : 0 < 6),
    hstands _ _ (by decide : 0 < 8), hstands _ _ (by decide : 0 < 10), hstands _ _ (by decide : 0 < 12), decide_eq_true_eq]
  split_ifs <;> simp only [List.foldl_cons, List.foldl_nil] <;> omega

theorem le_foldl_max {k : Nat × Nat} (l : List (Nat × Nat)) (m : Nat) (h : k.1 ≤ m ∨ k ∈ l) : k.1 ≤ l.foldl (fun m k => max m k.1) m := by
  induction l generalizing m with
  | nil => simpa using h
  | cons x l ih =>
    refine ih (max m x.1) ?_
    rcases h with h | h
    · exact .inl (h.trans (Nat.le_max_left _ _))
    · rcases List.mem_cons.mp h with rfl | h
      · exact .inl (Nat.le_max_right _ _)
      · exact .inr h

/-- An entered step is left only 3 °C below its bound. -/
theorem thermalLevel_held {w t b cur : Nat} (hstep : (cur, b) ∈ thermalSteps) (hwarm : w + b - 3 < t) : cur ≤ thermalLevel w cur (natV t) := by
  rw [thermalLevel_natV]
  exact le_foldl_max (k := (cur, b)) _ 0 (.inr (List.mem_filter.mpr ⟨hstep, by simp [stepStands, hwarm]⟩))

/-! ### What an event puts on the wires -/

theorem out_mbWrite (s : State) (off : Nat) (bs : List Byte) : (s.mbWrite off bs).out = s.out := (congrArg State.out (mbWrite_frame s off bs) :)

theorem out_ringPut {s t : State} {f : List Byte} (h : s.ringPut f = some t) : s.out <:+ t.out := by
  have hdone : ∀ (a : State) (o : Output), a.out = s.out → s.out <:+ (a.emit o).out := fun a o ha => ⟨[o], congrArg (List.cons o) ha.symm⟩
  unfold State.ringPut at h
  dsimp only at h
  split at h
  · cases h
  split at h
  · split at h
    · cases h
      exact hdone _ _ (by rw [out_mbWrite, out_mbWrite])
    · cases h
  split at h
  · split at h
    · cases h
    · cases h
      exact hdone _ _ (by rw [out_mbWrite, out_mbWrite])
  split at h
  · cases h
    exact hdone _ _ (by rw [out_mbWrite, out_mbWrite, out_mbWrite])
  · cases h

theorem out_sendNow {s t : State} {p : Peer} {f : List Byte} (h : s.sendNow p f = some t) : s.out <:+ t.out := by
  unfold State.sendNow at h
  split at h
  · split at h
    · exact out_ringPut h
    · cases h
  · cases h
    exact List.suffix_cons _ _

theorem out_notifySend (n : Nat) (s : State) (id : Nat) : s.out <:+ (State.notifySend n s id).out := by
  induction n generalizing s with
  | zero => exact List.suffix_rfl
  | succ n ih =>
    unfold State.notifySend
    split
    · exact List.suffix_rfl
    · split
      · split
        · exact List.suffix_rfl
        · next hsend => exact (out_sendNow hsend).trans (ih (State.sesMod _ id _))
      · exact List.suffix_rfl

/-- What stands on the wires stays there while events are announced. -/
theorem out_notifyVal (s : State) (i k v : Nat) : s.out <:+ (s.notifyVal i k v).out := by
  have hsend : ∀ (l : List Session) (a : State), a.out <:+ (l.foldl (fun a x => State.notifySend 8 a x.id) a).out := by
    intro l
    induction l with
    | nil => exact fun a => List.suffix_rfl
    | cons x l ih => exact fun a => (out_notifySend 8 a x.id).trans (ih _)
  have hflush : ∀ a : State, a.out <:+ a.notifyFlush.out := fun a => by
    unfold State.notifyFlush
    split
    · exact List.suffix_rfl
    · exact hsend _ _
  unfold State.notifyVal
  by_cases hdown : s.crown.down = true
  · rw [if_pos hdown]
  · rw [if_neg hdown]
    dsimp only
    refine List.IsSuffix.trans ?_ (hflush _)
    exact List.suffix_rfl

/-! ### The applied throttle level (R288) -/

section
variable {s u : State}

theorem odGet_setThrottle_ne {i k : Nat} (h : odKey i k ≠ odKey 0x8200 1) : u.setThrottle.odGet i k = u.odGet i k := odGet_odSet_ne u _ h

theorem setThrottle_shows (u : State) : u.setThrottle.odGet 0x8200 1 = u.setThrottle.throttleNow := by
  have hsame : u.setThrottle.throttleNow = u.throttleNow := by
    unfold State.throttleNow
    rw [odGet_setThrottle_ne (by decide), odGet_setThrottle_ne (by decide), odGet_setThrottle_ne (by decide), odGet_setThrottle_ne (by decide)]
    rfl
  rw [hsame]
  exact odGet_odSet_same _ _ _ _

/-- An event that ends in the applied level shows it, and what `P` says of its end. -/
theorem ends_setThrottle {c : Instr} {P : State → Prop} (hexec : exec c s = .next u.setThrottle) (hstay : stayPart u = stayPart s)
    (hP : P u.setThrottle) : ∃ t, exec c s = .next t ∧ t.odGet 0x8200 1 = t.throttleNow ∧ t.mem = s.mem ∧ t.slow = s.slow ∧
      t.pinions = s.pinions ∧ t.syncs = s.syncs ∧ t.modState = s.modState ∧ P t := by
  obtain ⟨⟨hmem, hslow, hpinions, -, hsyncs⟩, hmode⟩ := stayPart_iff.mp ((stayPart_odSet (i := 0x8200) (k := 1) u u.throttleNow (by decide)).trans hstay)
  exact ⟨_, hexec, setThrottle_shows u, hmem, hslow, hpinions, hsyncs, hmode, hP⟩

/-- An announced count: the work of the module, its state and the platform stay. -/
theorem countNotify_effect {i k : Nat} (h : odKey 0x1010 1 ≠ odKey i k) (s : State) : stayPart (s.countNotify i k) = stayPart s ∧
    (s.countNotify i k).plat = s.plat := by
  have hside := sideFrom_notifyVal (s.bump i k) i k ((s.bump i k).odGet i k)
  exact ⟨hside.stay.trans (stayPart_bumpBy s 1 h), hside.plat⟩

theorem odGet_countNotify_ne {i k a b : Nat} (hlost : odKey a b ≠ odKey 0x1210 5) (h : odKey a b ≠ odKey i k) :
    (s.countNotify i k).odGet a b = s.odGet a b := (odGet_countNotify s i k hlost).trans (odGet_bump_ne s h)

/-- A counter of eight bytes wraps at 2^64. -/
theorem odGet_countNotify_same {i k : Nat} (hlost : odKey i k ≠ odKey 0x1210 5) (hrow : (odRow i k).map (·.size) = some 8) :
    (s.countNotify i k).odGet i k = (s.odGet i k + 1) % 2 ^ 64 :=
  (odGet_countNotify s i k hlost).trans ((odGet_bumpBy_same s 1 hrow).trans (congrArg _ (by norm_num)))

/-- A level that rises from 0 is counted (R287, R289). -/
def riseCounted (u : State) (cur level i k : Nat) : State := if cur = 0 && level != 0 then u.bump i k else u

/-- What stands at the end of a sample whose rise is counted in a counter of eight bytes. -/
theorem riseCounted_ends {cur level i k : Nat} (hside : SideFrom (riseCounted s cur level i k) u)
    (hkey : odKey i k ∉ odKey 0x1010 1 :: odKey 0x8200 1 :: sideKeys) (hrow : (odRow i k).map (·.size) = some 8) :
    stayPart u = stayPart s ∧ u.plat = s.plat ∧
      (∀ a b, odKey a b ∉ odKey i k :: odKey 0x8200 1 :: sideKeys → u.setThrottle.odGet a b = s.odGet a b) ∧
      u.setThrottle.odGet i k = if cur = 0 ∧ level ≠ 0 then (s.odGet i k + 1) % 2 ^ 64 else s.odGet i k := by
  simp only [List.mem_cons, not_or] at hkey ⊢
  obtain ⟨hmode, hthrottle, hkey⟩ := hkey
  have hcount : stayPart (riseCounted s cur level i k) = stayPart s ∧ (riseCounted s cur level i k).plat = s.plat ∧
      (∀ a b, odKey a b ≠ odKey i k → (riseCounted s cur level i k).odGet a b = s.odGet a b) ∧ (riseCounted s cur level i k).odGet i k =
        if cur = 0 ∧ level ≠ 0 then (s.odGet i k + 1) % 2 ^ 64 else s.odGet i k := by
    unfold riseCounted
    by_cases h : cur = 0 ∧ level ≠ 0
    · rw [if_pos (by simpa using h), if_pos h]
      exact ⟨stayPart_bumpBy s 1 (Ne.symm hmode), rfl, fun a b hab => odGet_bump_ne s hab,
        (odGet_bumpBy_same s 1 hrow).trans (congrArg _ (by norm_num))⟩
    · rw [if_neg (by simpa using h), if_neg h]
      exact ⟨rfl, rfl, fun _ _ _ => rfl, rfl⟩
  obtain ⟨hstay, hplat, hother, hsame⟩ := hcount
  exact ⟨hside.stay.trans hstay, hside.plat.trans hplat,
    fun a b ⟨hik, hshown, hab⟩ => (odGet_setThrottle_ne hshown).trans ((hside.2 _ _ hab).trans (hother a b hik)),
    (odGet_setThrottle_ne hthrottle).trans ((hside.2 _ _ hkey).trans hsame)⟩

theorem awake_iff : s.awake = true ↔ s.modState ≠ stCold := bne_iff_ne

/-! ### The input (R284) -/

/-- The counters of sags, of capping and of throttling, OD 0x8010.04, 0x8100.03 and 0x8300.04, are U64. -/
theorem odRow_powerCounters : (odRow 0x8010 4).map (·.size) = some 8 ∧ (odRow 0x8100 3).map (·.size) = some 8 ∧
    (odRow 0x8300 4).map (·.size) = some 8 := by decide +kernel

theorem exec_sagWarning (hup : s.modState ≠ stCold) (h : s.odGet 0x8010 5 = 0) : exec .sagWarning s =
    .next (State.setThrottle (State.countNotify ((s.emit (.vdlIrq (s.odGet 0x8010 3))).odSet 0x8010 5 1) 0x8010 4)) :=
  if_pos (by rw [awake_iff.mpr hup, h]; rfl)

theorem exec_sagClear (hup : s.modState ≠ stCold) : exec .sagClear s = .next (s.odSet 0x8010 5 0).setThrottle :=
  if_pos (awake_iff.mpr hup)

/-! ### The rails (R286, Table 12.2) -/

/-- The rails of Table 12.2 with their warning levels. -/
theorem railWarning_level {rail level : Nat} (h : (rail, level) ∈ [(1, 715), (2, 765), (3, 1010), (4, 865)]) :
    1 ≤ rail ∧ rail ≤ 4 ∧ (railLevels rail).1 = level ∧ (odRow 0x8021 rail).map (·.size) = some 8 := by
  simp only [List.mem_cons, Prod.mk.injEq, List.not_mem_nil, or_false] at h
  rcases h with ⟨rfl, rfl⟩ | ⟨rfl, rfl⟩ | ⟨rfl, rfl⟩ | ⟨rfl, rfl⟩
  all_goals exact ⟨by decide, by decide, rfl, by decide +kernel⟩

section
variable {rail mv level : Nat} (hrail : (rail, level) ∈ [(1, 715), (2, 765), (3, 1010), (4, 865)])
include hrail

theorem exec_railWarning (hup : s.modState ≠ stCold) (hlow : mv < level) : exec (.railWarning rail mv) s =
    if s.plat.rails.contains rail then .next (s.odSet 0x8020 rail mv)
    else .next (State.setThrottle (((s.odSet 0x8020 rail mv).platMod (fun p => { p with rails := rail :: p.rails })).countNotify 0x8021 rail)) := by
  obtain ⟨h1, h4, hlevel, -⟩ := railWarning_level hrail
  exact if_pos (by simp [awake_iff.mpr hup, h1, h4, hlevel, hlow])

theorem exec_railWarning_above (hhigh : level ≤ mv) : exec (.railWarning rail mv) s = .next s := by
  obtain ⟨-, -, hlevel, -⟩ := railWarning_level hrail
  exact if_neg (by simp [hlevel, Nat.not_lt.mpr hhigh])

theorem exec_railWarningClear (hhigh : level ≤ mv) : exec (.railWarningClear rail mv) s =
    if s.awake then .next (((s.platMod (fun p => { p with rails := p.rails.filter (· ≠ rail) })).odSet 0x8020 rail (mv % 65536)).setThrottle)
    else .next (s.platMod (fun p => { p with rails := p.rails.filter (· ≠ rail) })) := by
  obtain ⟨h1, h4, hlevel, -⟩ := railWarning_level hrail
  exact if_pos (by simp [h1, h4, hlevel, hhigh])

theorem exec_railWarningClear_below (hlow : mv < level) : exec (.railWarningClear rail mv) s = .next s := by
  obtain ⟨-, -, hlevel, -⟩ := railWarning_level hrail
  exact if_neg (by simp [hlevel, hlow])

end

/-- The entries of a rail are its own: not the count of lost events, the applied level or the module state. -/
theorem railKeys_ne {rail : Nat} (h : rail ≤ 4) :
    (odKey 0x8020 rail ≠ odKey 0x1210 5 ∧ odKey 0x8020 rail ≠ odKey 0x8200 1) ∧
      (odKey 0x8021 rail ≠ odKey 0x1210 5 ∧ odKey 0x8021 rail ≠ odKey 0x8200 1) ∧ odKey 0x8020 rail ≠ odKey 0x8021 rail ∧
      odKey 0x1010 1 ≠ odKey 0x8020 rail ∧ odKey 0x1010 1 ≠ odKey 0x8021 rail := by
  unfold odKey
  omega

theorem exec_railWarning_cold (hcold : s.modState = stCold) (rail mv : Nat) : exec (.railWarning rail mv) s = .next s :=
  if_neg (by simp [State.awake, hcold])

theorem exec_rail_unknown {rail : Nat} (h : rail = 0 ∨ 4 < rail) (mv : Nat) :
    exec (.railWarning rail mv) s = .next s ∧ exec (.railWarningClear rail mv) s = .next s := by
  have hno : ¬ (1 ≤ rail ∧ rail ≤ 4) := by omega
  refine ⟨if_neg (fun hall => hno ?_), if_neg (fun hall => hno ?_)⟩
  · simp only [Bool.and_eq_true, decide_eq_true_eq] at hall
    obtain ⟨⟨⟨-, h1⟩, h4⟩, -⟩ := hall
    exact ⟨h1, h4⟩
  · simp only [Bool.and_eq_true, decide_eq_true_eq] at hall
    exact hall.1

/-! ### The sensors (R289) -/

theorem exec_thermalSample {k : Nat} (hk : k < 17) (temp : W32) : exec (.thermalSample k temp) s =
    if s.awake then .next (s.thermalSample k temp) else .next (s.platMod (fun p => { p with sensors := fput 0 p.sensors k temp })) := if_pos hk

/-- The module with a new reading of a sensor. -/
def sensed (s : State) (sensor : Nat) (temp : W32) : State := s.platMod (fun p => { p with sensors := fput 0 p.sensors sensor temp })

/-- The hottest sensor with its reading, the peak and the level are shown. -/
def thermalShown (u : State) (hot : Nat × W32) (level peak : Nat) : State :=
  (((u.odSet 0x8300 2 hot.2.toNat).odSet 0x8300 3 hot.1).odSet 0x8300 5 peak).odSet 0x8200 3 level

theorem thermalSample_counts (s : State) (sensor : Nat) (temp : W32) {hot : Nat × W32} {level : Nat}
    (hhot : hot = (sensed s sensor temp).hottest) (hlevel : level = thermalLevel (s.odGet 0x8300 1) (s.odGet 0x8200 3) (dec32 hot.2.toNat)) :
    ∃ peak u, s.thermalSample sensor temp = State.setThrottle u ∧
      SideFrom (riseCounted (thermalShown (sensed s sensor temp) hot level peak) (s.odGet 0x8200 3) level 0x8300 4) u := by
  let peak := if FV.lt (dec32 (s.odGet 0x8300 5)) (dec32 hot.2.toNat) then hot.2.toNat else s.odGet 0x8300 5
  let shown := thermalShown (sensed s sensor temp) hot level peak
  refine ⟨peak, if s.odGet 0x8200 3 = 0 && level != 0 then shown.countNotify 0x8300 4 else shown, ?_, ?_⟩
  · subst hlevel hhot
    rfl
  · unfold riseCounted
    split
    · exact sideFrom_notifyVal _ _ _ _
    · exact .refl _

theorem thermalShown_effect (u : State) (hot : Nat × W32) (level peak : Nat) :
    stayPart (thermalShown u hot level peak) = stayPart u ∧ (thermalShown u hot level peak).plat = u.plat ∧
      (thermalShown u hot level peak).odGet 0x8300 2 = hot.2.toNat ∧ (thermalShown u hot level peak).odGet 0x8300 3 = hot.1 ∧
      (thermalShown u hot level peak).odGet 0x8200 3 = level ∧ (thermalShown u hot level peak).odGet 0x8300 4 = u.odGet 0x8300 4 := by
  unfold thermalShown
  refine ⟨?_, rfl, ?_, ?_, odGet_odSet_same _ _ _ _, ?_⟩
  · rw [stayPart_odSet _ _ (by decide), stayPart_odSet _ _ (by decide), stayPart_odSet _ _ (by decide), stayPart_odSet _ _ (by decide)]
  · rw [odGet_odSet_ne _ _ (by decide), odGet_odSet_ne _ _ (by decide), odGet_odSet_ne _ _ (by decide), odGet_odSet_same]
  · rw [odGet_odSet_ne _ _ (by decide), odGet_odSet_ne _ _ (by decide), odGet_odSet_same]
  · rw [odGet_odSet_ne _ _ (by decide), odGet_odSet_ne _ _ (by decide), odGet_odSet_ne _ _ (by decide), odGet_odSet_ne _ _ (by decide)]

/-! ### The cap controller (R287) -/

/-- The cap level after a sample: `above` and `under` compare the average with the cap, and `lowRun` counts averages under it. -/
def capLevel (cur lowRun : Nat) (hard above under : Bool) : Nat :=
  if hard then 12 else if above then min 12 (cur + 1) else if under && decide (10 ≤ if under then lowRun + 1 else 0) then cur - 1 else cur

theorem capLevel_falls {cur lowRun : Nat} (h : 9 ≤ lowRun) : capLevel cur lowRun false false true = cur - 1 := by
  simp [capLevel]
  omega

theorem capLevel_stays {cur lowRun : Nat} {under : Bool} (h : ¬ under = true ∨ lowRun < 9) : capLevel cur lowRun false false under = cur := by
  cases under with
  | false => rfl
  | true =>
    have hrun : ¬ 9 ≤ lowRun := by simpa using h
    simp [capLevel]
    omega

/-- The samples of the window with the new one. -/
def capSamples (s : State) (pin : W32) : List W32 := (pin :: s.plat.samples).take s.capWindow

/-- The readings, their average and the cap level are shown. -/
def capShown (s : State) (vin iin avg level : Nat) : State :=
  (((s.odSet 0x8000 1 vin).odSet 0x8000 2 iin).odSet 0x8000 3 avg).odSet 0x8200 2 level

/-- The window of the cap controller takes a sample. -/
def windowed (s : State) (ws : List W32) (low high : Nat) : State :=
  s.platMod (fun p => { p with samples := ws, lowRun := low, highRun := high })

theorem powerSample_counts (s : State) (vin iin pin : W32) {ws : List W32} {full : FV} {level avg : Nat} (hws : ws = capSamples s pin)
    (hfull : full = (natV ws.length).mul (natV (s.odGet 0x8100 1))) (havg : avg = enc32 ((sumV ws).div (natV ws.length)))
    (hlevel : level = capLevel (s.odGet 0x8200 2) s.plat.lowRun (FV.lt (natV 2750) (dec32 pin.toNat)) (FV.lt full (sumV ws))
      (FV.lt ((sumV ws).mul (natV 100)) (full.mul (natV 97)))) :
    ∃ low high u, s.powerSample vin iin pin = State.setThrottle u ∧
      SideFrom (riseCounted (windowed (capShown s vin.toNat iin.toNat avg level) ws low high) (s.odGet 0x8200 2) level 0x8100 3) u := by
  let low := if FV.lt ((sumV ws).mul (natV 100)) (full.mul (natV 97)) then s.plat.lowRun + 1 else 0
  let high := if s.odGet 0x8200 2 = 12 && FV.lt full (sumV ws) then s.plat.highRun + 1 else 0
  let counted := riseCounted (windowed (capShown s vin.toNat iin.toNat avg level) ws low high) (s.odGet 0x8200 2) level 0x8100 3
  refine ⟨low, high, if high = s.capWindow then counted.notify 0x8100 3 else counted, ?_, ?_⟩
  · subst hlevel havg hfull hws
    rfl
  · split
    · exact sideFrom_notifyVal _ _ _ _
    · exact .refl _

theorem capShown_effect (s : State) (vin iin avg level : Nat) : stayPart (capShown s vin iin avg level) = stayPart s ∧
    (capShown s vin iin avg level).odGet 0x8000 1 = vin ∧ (capShown s vin iin avg level).odGet 0x8000 2 = iin ∧
    (capShown s vin iin avg level).odGet 0x8000 3 = avg ∧ (capShown s vin iin avg level).odGet 0x8200 2 = level ∧
    (capShown s vin iin avg level).odGet 0x8100 3 = s.odGet 0x8100 3 := by
  unfold capShown
  refine ⟨?_, ?_, ?_, ?_, odGet_odSet_same _ _ _ _, ?_⟩
  · rw [stayPart_odSet _ _ (by decide), stayPart_odSet _ _ (by decide), stayPart_odSet _ _ (by decide), stayPart_odSet _ _ (by decide)]
  · rw [odGet_odSet_ne _ _ (by decide), odGet_odSet_ne _ _ (by decide), odGet_odSet_ne _ _ (by decide), odGet_odSet_same]
  · rw [odGet_odSet_ne _ _ (by decide), odGet_odSet_ne _ _ (by decide), odGet_odSet_same]
  · rw [odGet_odSet_ne _ _ (by decide), odGet_odSet_same]
  · rw [odGet_odSet_ne _ _ (by decide), odGet_odSet_ne _ _ (by decide), odGet_odSet_ne _ _ (by decide), odGet_odSet_ne _ _ (by decide)]

/-- A sample: what is read at its end, and the level and the count that it leaves. -/
theorem exec_powerSample_ends (hup : s.modState ≠ stCold) (vin iin pin : W32) {ws : List W32} {full : FV} {level avg : Nat}
    (hws : ws = capSamples s pin) (hfull : full = (natV ws.length).mul (natV (s.odGet 0x8100 1)))
    (havg : avg = enc32 ((sumV ws).div (natV ws.length)))
    (hlevel : level = capLevel (s.odGet 0x8200 2) s.plat.lowRun (FV.lt (natV 2750) (dec32 pin.toNat)) (FV.lt full (sumV ws))
      (FV.lt ((sumV ws).mul (natV 100)) (full.mul (natV 97)))) :
    ∃ u, exec (.powerSample vin iin pin) s = .next (State.setThrottle u) ∧ stayPart u = stayPart s ∧ u.plat.samples = ws ∧
      u.setThrottle.odGet 0x8000 1 = vin.toNat ∧ u.setThrottle.odGet 0x8000 2 = iin.toNat ∧ u.setThrottle.odGet 0x8000 3 = avg ∧
      u.setThrottle.odGet 0x8200 2 = level ∧ u.setThrottle.odGet 0x8100 3 =
        if s.odGet 0x8200 2 = 0 ∧ level ≠ 0 then (s.odGet 0x8100 3 + 1) % 2 ^ 64 else s.odGet 0x8100 3 := by
  obtain ⟨low, high, u, hsample, hside⟩ := powerSample_counts s vin iin pin hws hfull havg hlevel
  obtain ⟨hstay, hvin, hiin, havg', hlevel', hcount⟩ := capShown_effect s vin.toNat iin.toNat avg level
  obtain ⟨hstay', hplat, hread, hcount'⟩ := riseCounted_ends hside (by decide) odRow_powerCounters.2.1
  refine ⟨u, (if_pos (awake_iff.mpr hup)).trans (congrArg _ hsample), hstay'.trans hstay, congrArg Plat.samples hplat,
    (hread _ _ (by decide)).trans hvin, (hread _ _ (by decide)).trans hiin, (hread _ _ (by decide)).trans havg',
    (hread _ _ (by decide)).trans hlevel', hcount'.trans ?_⟩
  rw [← hcount]
  rfl

/-- A sample of a sensor: what is read at its end, and the level and the count that it leaves. -/
theorem exec_thermalSample_ends (hup : s.modState ≠ stCold) {k : Nat} (hk : k < 17) (temp : W32) {hot : Nat × W32} {level : Nat}
    (hhot : hot = (sensed s k temp).hottest) (hlevel : level = thermalLevel (s.odGet 0x8300 1) (s.odGet 0x8200 3) (dec32 hot.2.toNat)) :
    ∃ u, exec (.thermalSample k temp) s = .next (State.setThrottle u) ∧ stayPart u = stayPart s ∧
      u.plat.sensors = (sensed s k temp).plat.sensors ∧ u.setThrottle.odGet 0x8300 2 = hot.2.toNat ∧
      u.setThrottle.odGet 0x8300 3 = hot.1 ∧ u.setThrottle.odGet 0x8200 3 = level ∧ u.setThrottle.odGet 0x8300 4 =
        if s.odGet 0x8200 3 = 0 ∧ level ≠ 0 then (s.odGet 0x8300 4 + 1) % 2 ^ 64 else s.odGet 0x8300 4 := by
  obtain ⟨peak, u, hsample, hside⟩ := thermalSample_counts s k temp hhot hlevel
  obtain ⟨hstay, hplat, htemp, hindex, hlevel', hcount⟩ := thermalShown_effect (sensed s k temp) hot level peak
  obtain ⟨hstay', hplat', hread, hcount'⟩ := riseCounted_ends hside (by decide) odRow_powerCounters.2.2
  have hexec : exec (.thermalSample k temp) s = .next (s.thermalSample k temp) := (exec_thermalSample hk temp).trans (if_pos (awake_iff.mpr hup))
  refine ⟨u, hexec.trans (congrArg _ hsample), hstay'.trans hstay, congrArg Plat.sensors (hplat'.trans hplat),
    (hread _ _ (by decide)).trans htemp, (hread _ _ (by decide)).trans hindex, (hread _ _ (by decide)).trans hlevel', hcount'.trans ?_⟩
  rw [hcount]
  rfl

end

end Sys2Proof.Machine

open Sys2Proof Sys2Proof.Machine

/-- Settles O55: each event by what it reads and counts before the applied level is shown, and the levels over whole degrees. -/
theorem powerEvents : Obligations.PowerEvents := by
  unfold Obligations.PowerEvents
  refine ⟨fun s hup => ?up, fun s => ⟨fun hcold => ?cold, fun r mv h => exec_rail_unknown h mv,
      fun r mv level hrail => ⟨exec_railWarning_above hrail, exec_railWarningClear_below hrail⟩, fun k temp hk => if_neg (Nat.not_lt.mpr hk)⟩,
    fun w t _ => thermalLevel_entered w t, fun w t b cur _ => thermalLevel_held⟩
  case up =>
    intro ends cap cur
    refine ⟨fun vin iin pin => ?power, fun hclear => ?sag, fun hsag => if_neg (by simp [hsag]), ?clear, fun rail mv level hrail => ?rail,
      fun k temp hk => ?thermal⟩
    case power =>
      intro ws above under
      obtain ⟨u, hexec, hstay, hsamples, hvin, hiin, havg, hlevel, hcount⟩ := exec_powerSample_ends hup vin iin pin (ws := ws) rfl rfl rfl rfl
      refine ends_setThrottle hexec hstay ⟨hvin, hiin, havg, hsamples, fun hhard => ?_, fun hhard habove => ?_,
        fun hhard habove hunder hrun => ?_, fun hhard habove hrest => ?_, ?_⟩
      · rw [hlevel, hhard]
        rfl
      · rw [hlevel, hhard, habove]
        rfl
      · rw [hlevel, hhard, Bool.eq_false_iff.mpr habove, hunder]
        exact capLevel_falls hrun
      · rw [hlevel, hhard, Bool.eq_false_iff.mpr habove]
        exact capLevel_stays hrest
      · rw [hcount, hlevel]
    case sag =>
      refine ends_setThrottle (exec_sagWarning hup hclear) ?_ ⟨?_, ?_, ?_⟩
      · exact (countNotify_effect (by decide) _).1.trans (stayPart_odSet (s.emit _) 1 (by decide))
      · exact (odGet_setThrottle_ne (by decide)).trans ((odGet_countNotify_ne (by decide) (by decide)).trans (odGet_odSet_same _ _ _ _))
      · refine (odGet_setThrottle_ne (by decide)).trans ((odGet_countNotify_same (by decide) odRow_powerCounters.1).trans ?_)
        rw [odGet_odSet_ne _ _ (by decide)]
        rfl
      · obtain ⟨l, hl⟩ := out_notifyVal (State.bump ((s.emit (.vdlIrq (s.odGet 0x8010 3))).odSet 0x8010 5 1) 0x8010 4) 0x8010 4 _
        exact ⟨l, hl.symm⟩
    case clear =>
      exact ends_setThrottle (exec_sagClear hup) (stayPart_odSet s 0 (by decide))
        ((odGet_setThrottle_ne (by decide)).trans (odGet_odSet_same _ _ _ _))
    case rail =>
      obtain ⟨-, h4, -, hrow⟩ := railWarning_level hrail
      obtain ⟨hreading, hcounter, hother, hstate, hstate'⟩ := railKeys_ne h4
      refine ⟨fun hlow hnew => ?_, fun hlow hold => (exec_railWarning hrail hup hlow).trans (if_pos hold), fun hhigh => ?_⟩
      · obtain ⟨hstay, hplat⟩ := countNotify_effect hstate' ((s.odSet 0x8020 rail mv).platMod (fun p => { p with rails := rail :: p.rails }))
        refine ends_setThrottle ((exec_railWarning hrail hup hlow).trans (if_neg (by simpa using hnew)))
          (hstay.trans (stayPart_odSet s mv hstate)) ⟨?_, ?_, congrArg Plat.rails hplat⟩
        · exact (odGet_setThrottle_ne hreading.2).trans ((odGet_countNotify_ne hreading.1 hother).trans (odGet_odSet_same s 0x8020 rail mv))
        · refine (odGet_setThrottle_ne hcounter.2).trans ((odGet_countNotify_same hcounter.1 hrow).trans ?_)
          exact congrArg (fun n => (n + 1) % 2 ^ 64) (odGet_odSet_ne s mv hother.symm)
      · refine ends_setThrottle ((exec_railWarningClear hrail hhigh).trans (if_pos (awake_iff.mpr hup))) (stayPart_odSet _ _ hstate) ⟨?_, rfl⟩
        exact (odGet_setThrottle_ne hreading.2).trans (odGet_odSet_same _ _ _ _)
    case thermal =>
      intro u level
      obtain ⟨v, hexec, hstay, hsensors, htemp, hindex, hlevel, hcount⟩ := exec_thermalSample_ends hup hk temp (hot := u.hottest) rfl rfl
      exact ends_setThrottle hexec hstay ⟨hsensors, htemp, hindex, hlevel, hcount⟩
  case cold =>
    have hdown : ¬ s.awake = true := fun h => awake_iff.mp h hcold
    refine ⟨if_neg (fun h => hdown (Bool.and_eq_true _ _ ▸ h).1), if_neg hdown, fun v i p => if_neg hdown, exec_railWarning_cold hcold,
      fun r mv level hrail hhigh => (exec_railWarningClear hrail hhigh).trans (if_neg hdown),
      fun k temp hk => (exec_thermalSample hk temp).trans (if_neg hdown)⟩
end

section
/-! SUPPORT. The ends of a train's reset and of the scrub before a re-admission (12, 12.8 and 12.9; R162, R297, R300), the stop and the restart
of a site job (10, 10.6; R253 to R256, R267), and the ends of an HBM BIST and of a debug unlock (R318, R334). -/

-- One theorem at a time, as in the tests: threads that wait each reserve a stack, which counts against the memory of the compile.
set_option Elab.async false

namespace Sys2Proof.Machine

section
variable {s : State}

/-! ### A train's reset and a re-admission (R162, R297, R300) -/

/-- A unit's reset can end: it resets, or a change that is not ready waits for it (R297). -/
def ResetEnds (s : State) (l i : Nat) : Prop :=
  (s.unit l i).st = 2 ∨ ∃ c ∈ s.changes, c.ready = false ∧ State.waitsFor l i c.kind = true

theorem resetEnds_iff (s : State) (l i : Nat) :
    ((s.unit l i).st == 2 || s.changes.any (fun c => !c.ready && State.waitsFor l i c.kind)) = true ↔ ResetEnds s l i := by
  simp [ResetEnds]

theorem exec_trainResetComplete {l i : Nat} (hexists : s.portExists (l * 65536 + i) = true) (hi : i < 65536) (hends : ResetEnds s l i) :
    exec (.trainResetComplete l i) s = .next (((s.unitMod l i (fun v => { v with
      st := if v.st = 2 then (if s.changes.any (fun c => c.kind == .openUnit l i) then 4 else 0) else v.st })).readyChanges
        (State.waitsFor l i)).dieResolve) :=
  if_pos (by rw [hexists, decide_eq_true hi, (resetEnds_iff s l i).mpr hends]; rfl)

theorem exec_trainResetComplete_idle {l i : Nat} (h : s.portExists (l * 65536 + i) = false ∨ 65536 ≤ i ∨ ¬ ResetEnds s l i) :
    exec (.trainResetComplete l i) s = .next s := by
  refine if_neg (fun hall => ?_)
  simp only [Bool.and_eq_true, decide_eq_true_eq] at hall
  obtain ⟨⟨hexists, hi⟩, hends⟩ := hall
  rcases h with hno | hbig | hnot
  · rw [hno] at hexists; cases hexists
  · omega
  · exact hnot ((resetEnds_iff s l i).mp hends)

section
variable {t k : Nat} (hreadmit : (s.t1 t).readmit = some k)
include hreadmit

theorem exec_readmitScrubDone_failed :
    exec (.readmitScrubDone t k true) s = .next (State.bump (s.t1Mod t (fun x => { x with readmit := none })) 0x9400 4) :=
  if_pos hreadmit

theorem exec_readmitScrubDone_passed : exec (.readmitScrubDone t k false) s =
    match (List.range 8).find? (fun n => s.physSlot t n == (s.t1 t).spareSlot) with
    | some n => .next (State.settleChanges (State.addChange (s.t1Mod t (fun x => { x with readmit := none })) (.swapBack t k n) true))
    | none => .next (s.t1Mod t (fun x => { x with readmit := none })) :=
  if_pos hreadmit

/-- No logical slot holds the spare: no swap is left. -/
theorem exec_readmitScrubDone_unspared (hnone : ∀ n, n < 8 → s.physSlot t n ≠ (s.t1 t).spareSlot) :
    exec (.readmitScrubDone t k false) s = .next (s.t1Mod t (fun x => { x with readmit := none })) := by
  have hfind : (List.range 8).find? (fun n => s.physSlot t n == (s.t1 t).spareSlot) = none := by simpa using hnone
  rw [exec_readmitScrubDone_passed hreadmit, hfind]

/-- The first logical slot that holds the spare gets the swap. -/
theorem exec_readmitScrubDone_swaps {n : Nat} (hn : n < 8) (hspare : s.physSlot t n = (s.t1 t).spareSlot)
    (hfirst : ∀ j, j < n → s.physSlot t j ≠ (s.t1 t).spareSlot) : exec (.readmitScrubDone t k false) s =
      .next (State.settleChanges (State.addChange (s.t1Mod t (fun x => { x with readmit := none })) (.swapBack t k n) true)) := by
  have hfind : (List.range 8).find? (fun n => s.physSlot t n == (s.t1 t).spareSlot) = some n := by
    simpa [List.find?_range_eq_some, hn, hspare] using hfirst
  rw [exec_readmitScrubDone_passed hreadmit, hfind]

end

theorem exec_readmitScrubDone_idle {t k : Nat} (h : (s.t1 t).readmit ≠ some k) (bad : Bool) :
    exec (.readmitScrubDone t k bad) s = .next s := if_neg h

theorem settleChanges_waits (h1 : s.modState ≠ stQuiet) (h2 : s.modState ≠ stArmed) : s.settleChanges = s := if_neg (by simp [h1, h2])

theorem settleChanges_takes (h : s.modState = stQuiet ∨ s.modState = stArmed) : s.settleChanges = s.takeChanges := if_pos (by simpa using h)

/-! ### The site job stops and restarts (R253 to R256, R267) -/

theorem exec_stopDrain (s : State) : exec .stopDrain s = .next (if s.siteStopping then s.enterQuiet else s) := rfl

/-- The restart leader among the modules of a descriptor, once some have failed: the lowest of the others that take part (R254). -/
def restartLeader (ms : List LModule) (failed : List Nat) : Nat :=
  (((takeParts ms).filter (fun m => !failed.contains m.smn)).map (·.smn)).foldl min 256

/-- The failed modules that had taken part. -/
def lostParts (ms : List LModule) (failed : List Nat) : List LModule := (takeParts ms).filter (fun m => failed.contains m.smn)

/-- The spares of a descriptor that answer. -/
def freeSpares (ms : List LModule) (spares : List Nat) : List LModule := ms.filter (fun m => Nat.testBit m.roles 3 && spares.contains m.smn)

/-- The module is no restart leader of a site job in QUIET. -/
def RestartsElsewhere (s : State) (failed : List Nat) : Prop :=
  s.modState ≠ stQuiet ∨ restartLeader s.lModules failed ≠ s.smn ∨ s.inSiteJob = false

theorem restartsElsewhere_iff (s : State) (failed : List Nat) :
    (s.modState ≠ stQuiet || restartLeader s.lModules failed != s.smn || !s.inSiteJob) = true ↔ RestartsElsewhere s failed := by
  simp [RestartsElsewhere, or_assoc]

theorem exec_siteRestart_elsewhere (failed spares : List Nat) (h : RestartsElsewhere s failed) :
    exec (.siteRestart failed spares) s = .next s := if_pos ((restartsElsewhere_iff s failed).mpr h)

/-- The restart at the leader: with no failed module, with one that had no part, with too few spares, and with enough of them. -/
theorem exec_siteRestart_leader (failed spares : List Nat) (h : ¬ RestartsElsewhere s failed) : exec (.siteRestart failed spares) s =
    if failed.isEmpty then
      if s.roleChange && s.lModules.any (fun m => Nat.testBit m.roles 2) then
        .next { restartWaits s (giveLayout s (exchangeGateway s.lModules) (s.blobGet 0x4100 1)) with roleChange := false }
      else .next s
    else if (lostParts s.lModules failed).isEmpty then .next s
    else if (freeSpares s.lModules spares).length < (lostParts s.lModules failed).length then .next (s.countNotify 0x2040 3)
    else .next (restartWaits s (giveLayout s
      (((lostParts s.lModules failed).zip (freeSpares s.lModules spares)).foldl (fun a q => substituteModule a q.1.smn q.2.smn) s.lModules)
      (((lostParts s.lModules failed).zip (freeSpares s.lModules spares)).foldl (fun a q => groupsReplace a q.1.smn q.2.smn)
        (s.blobGet 0x4100 1)))) :=
  if_neg (mt (restartsElsewhere_iff s failed).mp h)

theorem lostParts_nil (ms : List LModule) : lostParts ms [] = [] := by simp [lostParts]

theorem restore_none_or (s : State) : (s.restart = none → s.restore = s) ∧
    ∀ b, s.restart = some b → s.restore = restoreKept { s with restart := none, roleChange := false } b :=
  ⟨restore_none, fun b hb => by unfold State.restore; rw [hb]⟩

/-- The exchange of the gateway roles exchanges bits 1 and 2 of ROLES (R267). -/
theorem exchangeGateway_one (m : LModule) : ∃ n, exchangeGateway [m] = [n] ∧ n.smn = m.smn ∧
    Nat.testBit n.roles 1 = Nat.testBit m.roles 2 ∧ Nat.testBit n.roles 2 = Nat.testBit m.roles 1 := by
  refine ⟨_, rfl, rfl, ?_, ?_⟩ <;> simp only [Nat.testBit_eq_decide_div_mod_eq, decide_eq_decide] <;> omega

/-! ### The ends of a test and of an unlock (R318, R334) -/

/-- The counts of failing lines, of the stacks under test (R334). -/
def bistCounts (sel : Nat) (failures : List Nat) : List Byte :=
  (List.range 8).flatMap (fun k => toLe 8 (if Nat.testBit sel k then failures.getD k 0 else 0))

theorem exec_bistComplete (failures : List Nat) (h : s.test.bist ≠ 0) : exec (.bistComplete failures) s =
    .next (State.blobSet (State.odSet { s with test := { s.test with bist := 0 } } 0xF320 2 2) 0xF320 3 (bistCounts s.test.bist failures)) :=
  if_neg h

theorem exec_bistComplete_idle (failures : List Nat) (h : s.test.bist = 0) : exec (.bistComplete failures) s = .next s := if_pos h

theorem exec_debugExpiry (h : s.odGet 0xA500 3 ≠ 0) : exec .debugExpiry s = .next s.lockDebug := if_neg h

theorem exec_debugExpiry_locked (h : s.odGet 0xA500 3 = 0) : exec .debugExpiry s = .next s := if_pos h

end

end Sys2Proof.Machine

open Sys2Proof Sys2Proof.Machine

/-- Settles O57: each end by its command's case, and the restart by what its leader finds. -/
theorem unitsReturn : Obligations.UnitsReturn := by
  unfold Obligations.UnitsReturn
  refine ⟨⟨fun s l i => ?reset, fun s t k hreadmit => ?scrub, fun s t k h b => exec_readmitScrubDone_idle h b⟩,
    ⟨fun s => ⟨fun h => ?_, fun h => ?_⟩, fun s failed spares h => exec_siteRestart_elsewhere failed spares (h.imp_right .inr),
      fun s failed spares hquiet hjob => ?restart, restore_none_or, exchangeGateway_one⟩,
    fun s => ⟨fun failures h => ?bist, fun failures => exec_bistComplete_idle failures, exec_debugExpiry, exec_debugExpiry_locked⟩⟩
  case reset =>
    exact ⟨fun hexists hi hends => ⟨exec_trainResetComplete hexists hi hends, congrArg UnitSt.st (unit_unitMod_same s l i _)⟩,
      exec_trainResetComplete_idle⟩
  case scrub =>
    refine ⟨exec_readmitScrubDone_failed hreadmit, exec_readmitScrubDone_unspared hreadmit, fun n hn hspare hfirst => ?_⟩
    have hswap := exec_readmitScrubDone_swaps hreadmit hn hspare hfirst
    exact ⟨fun h1 h2 => hswap.trans (congrArg Host.Outcome.next (settleChanges_waits h1 h2)),
      fun h => hswap.trans (congrArg Host.Outcome.next (settleChanges_takes h))⟩
  case restart =>
    intro ms part leader lost free standby
    have hlead : leader = s.smn → ¬ RestartsElsewhere s failed := by
      rintro hleader (h | h | h)
      · exact h hquiet
      · exact h hleader
      · rw [hjob] at h; cases h
    have hsome : lost ≠ [] → ¬ failed.isEmpty = true := fun hlost hnone =>
      hlost (by rw [show lost = lostParts ms failed from rfl, List.isEmpty_iff.mp hnone, lostParts_nil])
    have hroles : (s.roleChange && s.lModules.any (fun m => Nat.testBit m.roles 2)) = true ↔ s.roleChange = true ∧ standby := by
      simp [standby, ms]
    refine ⟨fun h => exec_siteRestart_elsewhere failed spares (.inr (.inl h)), fun hleader hfailed hlost => ?_, fun hleader hlost hfew => ?_,
      fun hleader hlost henough => ?_, fun hleader hnone hrole hstandby => ?_, fun hleader hnone hstay => ?_⟩
    all_goals rw [exec_siteRestart_leader failed spares (hlead hleader)]
    · rw [if_neg (mt List.isEmpty_iff.mp hfailed)]
      exact if_pos (List.isEmpty_iff.mpr hlost)
    · rw [if_neg (hsome hlost)]
      exact (if_neg (mt List.isEmpty_iff.mp hlost)).trans (if_pos hfew)
    · rw [if_neg (hsome hlost)]
      exact (if_neg (mt List.isEmpty_iff.mp hlost)).trans (if_neg (Nat.not_lt.mpr henough))
    · rw [if_pos (List.isEmpty_iff.mpr hnone)]
      exact if_pos (hroles.mpr ⟨hrole, hstandby⟩)
    · rw [if_pos (List.isEmpty_iff.mpr hnone)]
      refine if_neg (fun h => ?_)
      obtain ⟨hrole, hstandby⟩ := hroles.mp h
      exact hstay.elim (by simp [hrole]) (fun hno => hno hstandby)
  case bist =>
    refine ⟨_, exec_bistComplete failures h, ?_⟩
    exact ⟨odGet_odSet_same { s with test := { s.test with bist := 0 } } 0xF320 2 2, rfl, blobGet_blobSet_same _ _ _ _, rfl, rfl, rfl⟩
  · rw [exec_stopDrain, h]; rfl
  · rw [exec_stopDrain, h]; rfl
end

section
/-! SUPPORT. One step (INDEX.md, the commands of the opcode table; log 4): what it takes from the queue, the state at reset (12, Tables 12.6 and
12.7), and legality, which every command and every period of the clock keep. -/

namespace Sys2Proof.Machine

section
variable {s : State}

/-! ### What a step runs -/

theorem step_cons {c : Instr} {cs : List Instr} (h : s.pending = c :: cs) : step s = exec c { s with pending := cs } := by
  unfold step
  rw [h]

theorem step_nil (h : s.pending = []) : step s = .next s.tick := by
  unfold step
  rw [h]

/-! ### Legal states -/

/-- A legal state is one that has the invariant of Laws/Good.lean, whatever waits in its queue. -/
theorem legal_iff_good : Legal s ↔ Good s.pending s := by
  unfold Legal Memory.wf
  rw [Bool.and_eq_true]
  exact ⟨fun ⟨⟨hmem, hslow⟩, hmode⟩ => ⟨rfl, hmem, hslow, Nat.lt_succ_of_le hmode⟩,
    fun ⟨_, hmem, hslow, hmode⟩ => ⟨⟨hmem, hslow⟩, Nat.le_of_lt_succ hmode⟩⟩

theorem Good.legal {q : List Instr} (h : Good q s) : Legal s := legal_iff_good.mpr (h.queue ▸ h)

/-- What waits in the queue has no part in the invariant but by its name. -/
theorem Good.dequeue {q : List Instr} (h : Good q s) (cs : List Instr) : Good cs { s with pending := cs } :=
  ⟨rfl, h.mem, h.slow, h.mode⟩

/-- Every command keeps the invariant: those that a request of the Crown Object Protocol brings through the service of requests, every other
by the law of its own meaning. -/
theorem good_exec {q : List Instr} (hs : Good q s) (c : Instr) : GoodOut q (exec c s) := by
  cases c with
  | openSession | prove | copClose | read | write | readMulti | writeMulti | blobBegin | blobSeg | blobEnd | notifyAck | arm | run
      | hold | release | quiesce | warmReset | forceFault | takeover | fence | retire | readmit | ftSet | beatTable | beatEntry
      | layout | roster | programManifest | retireMap | operatorKeys | jobKey | fwImage | fwActivate | rollbackCommit
      | debugChallenge | debugToken | debugScope | attestReport | accImage | hbmBistStart | prbsMode =>
    exact goodOut_next (good_copServe hs)
  | streamDescriptor => exact good_execStreamDescriptor hs
  | pendingStreamStart => exact good_execPendingStreamStart hs
  | handSwitch => exact good_execHandSwitch hs
  | nop => exact good_execNop hs
  | endOp => exact good_execEndOp hs
  | jmp => exact good_execJmp hs
  | loop => exact good_execLoop hs
  | bcc => exact good_execBcc hs
  | bpr => exact good_execBpr hs
  | li => exact good_execLi hs
  | addi => exact good_execAddi hs
  | alu => exact good_execAlu hs
  | lds => exact good_execLds hs
  | sts => exact good_execSts hs
  | setv => exact good_execSetv hs
  | seteb => exact good_execSeteb hs
  | setstg => exact good_execSetstg hs
  | yieldOp => exact good_execYieldOp hs
  | markOp => exact good_execMarkOp hs
  | waitq => exact good_execWaitq hs
  | sadd => exact good_execSadd hs
  | sset => exact good_execSset hs
  | stgt => exact good_execStgt hs
  | swge => exact good_execSwge hs
  | sweq => exact good_execSweq hs
  | sarv => exact good_execSarv hs
  | sbr => exact good_execSbr hs
  | syncApply => exact good_execSyncApply hs
  | waitRelease => exact good_execWaitRelease hs
  | dmv => exact good_execDmv hs
  | dpf => exact good_execDpf hs
  | dataMoveDescriptor => exact good_execDataMoveDescriptor hs
  | mtx => exact good_execMtx hs
  | mtxb => exact good_execMtxb hs
  | passComplete => exact good_execPassComplete hs
  | drn => exact good_execDrn hs
  | epilogueService => exact good_execEpilogueService hs
  | bst => exact good_execBst hs
  | bld => exact good_execBld hs
  | openOp => exact good_execOpenOp hs
  | commitOp => exact good_execCommitOp hs
  | freeOp => exact good_execFreeOp hs
  | vld => exact good_execVld hs
  | vst => exact good_execVst hs
  | vlds => exact good_execVlds hs
  | vstm => exact good_execVstm hs
  | vadd => exact good_execVadd hs
  | vmul => exact good_execVmul hs
  | vfma => exact good_execVfma hs
  | vfnma => exact good_execVfnma hs
  | vmin => exact good_execVmin hs
  | vmax => exact good_execVmax hs
  | vcmp => exact good_execVcmp hs
  | vsel => exact good_execVsel hs
  | vcvt => exact good_execVcvt hs
  | vcvn => exact good_execVcvn hs
  | vcvf => exact good_execVcvf hs
  | vscl => exact good_execVscl hs
  | vrsum => exact good_execVrsum hs
  | vrssq => exact good_execVrssq hs
  | vramx => exact good_execVramx hs
  | vfin => exact good_execVfin hs
  | vsex => exact good_execVsex hs
  | vspl => exact good_execVspl hs
  | vrec => exact good_execVrec hs
  | vact => exact good_execVact hs
  | viadd => exact good_execViadd hs
  | vimul => exact good_execVimul hs
  | vlogic => exact good_execVlogic hs
  | vshf => exact good_execVshf hs
  | gapBeat => exact good_execGapBeat hs
  | sealBeat => exact good_execSealBeat hs
  | sendBeat => exact good_execSendBeat hs
  | closeBeat => exact good_execCloseBeat hs
  | applyBeat => exact good_execApplyBeat hs
  | checkpointMark => exact good_execCheckpointMark hs
  | reshardBegin => exact good_execReshardBegin hs
  | holdBeat => exact good_execHoldBeat hs
  | releaseBeat => exact good_execReleaseBeat hs
  | handStall => exact good_execHandStall hs
  | t1Silence => exact good_execT1Silence hs
  | t2Silence => exact good_execT2Silence hs
  | dieWatchdog => exact good_execDieWatchdog hs
  | moduleWatchdog => exact good_execModuleWatchdog hs
  | transferSettle => exact good_execTransferSettle hs
  | dumpComplete => exact good_execDumpComplete hs
  | dumpLimit => exact good_execDumpLimit hs
  | vdlTimeout jobLost => exact good_execVdlTimeout (a0 := jobLost) hs
  | crownHeartbeat => exact good_execCrownHeartbeat hs
  | crownReturn => exact good_execCrownReturn hs
  | flit => exact good_execFlit hs
  | replayLimit => exact good_execReplayLimit hs
  | portTrained => exact good_execPortTrained hs
  | trainingTimeout => exact good_execTrainingTimeout hs
  | syncInc => exact good_execSyncInc hs
  | cack => exact good_execCack hs
  | scalarPacket => exact good_execScalarPacket hs
  | timePacket => exact good_execTimePacket hs
  | siteStop => exact good_execSiteStop hs
  | regather => exact good_execRegather hs
  | putFault => exact good_execPutFault hs
  | passReady => exact good_execPassReady hs
  | permuteDone => exact good_execPermuteDone hs
  | contrib => exact good_execContrib hs
  | partialChunk => exact good_execPartialChunk hs
  | imageChunk => exact good_execImageChunk hs
  | putPacket => exact good_execPutPacket hs
  | dispatchPacket => exact good_execDispatchPacket hs
  | combinePacket => exact good_execCombinePacket hs
  | permutePacket => exact good_execPermutePacket hs
  | permutePass => exact good_execPermutePass hs
  | relay => exact good_execRelay hs
  | mgmt => exact good_execMgmt hs
  | chunkRetry => exact good_execChunkRetry hs
  | reduce => exact good_execReduce hs
  | gather => exact good_execGather hs
  | scalarEntry => exact good_execScalarEntry hs
  | put => exact good_execPut hs
  | dispatch => exact good_execDispatch hs
  | combine => exact good_execCombine hs
  | permute => exact good_execPermute hs
  | tiesum => exact good_execTiesum hs
  | normEntry => exact good_execNormEntry hs
  | inner => exact good_execInner hs
  | outer => exact good_execOuter hs
  | digest => exact good_execDigest hs
  | logApply => exact good_execLogApply hs
  | coordExport => exact good_execCoordExport hs
  | coordImport => exact good_execCoordImport hs
  | efadd => exact good_execEfadd hs
  | ortho => exact good_execOrtho hs
  | resid => exact good_execResid hs
  | pack => exact good_execPack hs
  | check => exact good_execCheck hs
  | foldDigest => exact good_execFoldDigest hs
  | scrub => exact good_execScrub hs
  | arp => exact good_execArp hs
  | neighborDiscovery => exact good_execNeighborDiscovery hs
  | dataFrame => exact good_execDataFrame hs
  | ackFrame => exact good_execAckFrame hs
  | retireFrame => exact good_execRetireFrame hs
  | confirm => exact good_execConfirm hs
  | timeSync => exact good_execTimeSync hs
  | timeFollow => exact good_execTimeFollow hs
  | timeDreq => exact good_execTimeDreq hs
  | timeDresp => exact good_execTimeDresp hs
  | timeExchange => exact good_execTimeExchange hs
  | holdoverTimeout => exact good_execHoldoverTimeout hs
  | hsInit => exact good_execHsInit hs
  | hsResp => exact good_execHsResp hs
  | hsResend => exact good_execHsResend hs
  | keyLifetime => exact good_execKeyLifetime hs
  | oldKeyRelease => exact good_execOldKeyRelease hs
  | ackTimer => exact good_execAckTimer hs
  | rtoExpiry => exact good_execRtoExpiry hs
  | peerDown => exact good_execPeerDown hs
  | portReturn => exact good_execPortReturn hs
  | relayGrant => exact good_execRelayGrant hs
  | contribMessage => exact good_execContribMessage hs
  | manifest => exact good_execManifest hs
  | baseReq => exact good_execBaseReq hs
  | baseData => exact good_execBaseData hs
  | rejectNotice => exact good_execRejectNotice hs
  | fetchRetry => exact good_execFetchRetry hs
  | roundDeadline => exact good_execRoundDeadline hs
  | viewTimer => exact good_execViewTimer hs
  | view => exact good_execView hs
  | claim => exact good_execClaim hs
  | endorse => exact good_execEndorse hs
  | anchorTimeout => exact good_execAnchorTimeout hs
  | claimTimeout => exact good_execClaimTimeout hs
  | stopDrain => exact good_execStopDrain hs
  | siteRestart => exact good_execSiteRestart hs
  | ppsIn => exact good_execPpsIn hs
  | ppsOut => exact good_execPpsOut hs
  | ref10mLoss => exact good_execRef10mLoss hs
  | ref10mReturn => exact good_execRef10mReturn hs
  | powerSample => exact good_execPowerSample hs
  | sagWarning => exact good_execSagWarning hs
  | sagClear => exact good_execSagClear hs
  | sagReset => exact good_execSagReset hs
  | powerOn => exact good_execPowerOn hs
  | railWarning => exact good_execRailWarning hs
  | railReset => exact good_execRailReset hs
  | thermalSample => exact good_execThermalSample hs
  | thermalTrip => exact good_execThermalTrip hs
  | resetPin => exact good_execResetPin hs
  | resetPinHeld => exact good_execResetPinHeld hs
  | resetPinRelease => exact good_execResetPinRelease hs
  | vdlLinkReset => exact good_execVdlLinkReset hs
  | bootStepComplete => exact good_execBootStepComplete hs
  | bootStepTimeout => exact good_execBootStepTimeout hs
  | recoveryImage => exact good_execRecoveryImage hs
  | bistComplete => exact good_execBistComplete hs
  | configRead => exact good_execConfigRead hs
  | configWrite => exact good_execConfigWrite hs
  | apertureRead => exact good_execApertureRead hs
  | apertureWrite => exact good_execApertureWrite hs
  | notifyResend => exact good_execNotifyResend hs
  | sessionIdle => exact good_execSessionIdle hs
  | pendingSessionExpiry => exact good_execPendingSessionExpiry hs
  | blobAbandon => exact good_execBlobAbandon hs
  | debugExpiry => exact good_execDebugExpiry hs
  | bypass => exact good_execBypass hs
  | idcode => exact good_execIdcode hs
  | samplePreload => exact good_execSamplePreload hs
  | extest => exact good_execExtest hs
  | clamp => exact good_execClamp hs
  | highz => exact good_execHighz hs
  | internalTest => exact good_execInternalTest hs
  | lastKStepEntered => exact good_execLastKStepEntered hs
  | trainResetComplete => exact good_execTrainResetComplete hs
  | readmitScrubDone => exact good_execReadmitScrubDone hs
  | farPortUp => exact good_execFarPortUp hs
  | farPortDown => exact good_execFarPortDown hs
  | frameSend => exact good_execFrameSend hs
  | foreignFrame port bytes => exact good_execForeignFrame (a1 := bytes) hs
  | resetDomainLoss => exact good_execResetDomainLoss hs
  | railWarningClear => exact good_execRailWarningClear hs
  | vdlLinkUp => exact good_execVdlLinkUp hs

/-- A step keeps the invariant, for the queue without its front. -/
theorem good_step (hs : Good s.pending s) : GoodOut s.pending.tail (step s) := by
  cases hq : s.pending with
  | nil =>
    rw [hq] at hs
    rw [step_nil hq]
    exact goodOut_next (good_tick hs)
  | cons c cs =>
    rw [step_cons hq]
    exact good_exec (hs.dequeue cs) c

end

/-! ### The state at reset -/

theorem modState_reset : State.reset.modState = stBoot := by decide +kernel

theorem legal_reset : Legal State.reset :=
  ⟨rfl, by rw [modState_reset]; decide⟩

end Sys2Proof.Machine

open Sys2Proof Sys2Proof.Machine

/-- Settles O1: a step on a queue with a front is that command on the state with the rest of the queue. -/
theorem stepRunsFrontCommand : Obligations.StepRunsFrontCommand := fun _ _ _ h => step_cons h

/-- Settles O3: nothing is stored at reset, so that every entry and every array reads as its default. -/
theorem resetState : Obligations.ResetState := by
  unfold Obligations.ResetState
  refine ⟨⟨modState_reset, rfl, ?cause, rfl, rfl, rfl, rfl, fun _ _ => rfl, fun _ => rfl, fun _ => rfl, fun _ => rfl⟩, legal_reset⟩
  case cause => decide +kernel

/-- Settles O4: the invariant of Laws/Good.lean holds of a legal state, every step keeps it (`good_step`), and it says that the state is legal. -/
theorem stepKeepsLegal : Obligations.StepKeepsLegal := by
  intro s t hlegal hstep
  have hgood := good_step (legal_iff_good.mp hlegal) t hstep
  exact hgood.legal
end

section
/-! SUPPORT. The test access port (14, 14.8; R333): when it is deaf and when it bypasses, what each instruction then does, what a reset leaves of
it, and the statement. -/

namespace Sys2Proof.Machine

section
variable {s : State}

/-! ### When the TAP takes an instruction -/

theorem tapBypassed_iff : s.tapBypassed = true ↔ s.modState ∈ [stArmed, stRunning, stHeld] := by
  have hstates : stArmed = 3 ∧ stRunning = 4 ∧ stHeld = 5 := ⟨rfl, rfl, rfl⟩
  obtain ⟨harmed, hrunning, hheld⟩ := hstates
  simp only [State.tapBypassed, Bool.and_eq_true, decide_eq_true_eq, List.mem_cons, List.not_mem_nil, or_false, harmed, hrunning, hheld]
  omega

/-- The shift of an instruction of the boundary register, where it executes as BYPASS. -/
theorem boundaryShift_bypassed (i : TapIr) (cells : List Bool) (h : s.tapBypassed = true) :
    s.boundaryShift i cells = s.bypassShift cells := if_pos h

/-- Where it does not, the register takes the cells and gives as many sampled pins, whose levels are open. -/
theorem boundaryShift_samples (i : TapIr) (cells : List Bool) (h : s.tapBypassed = false) :
    ∃ bits : List Bool, bits.length = cells.length ∧ s.boundaryShift i cells =
      State.emit { s with free := s.free + 1, test := { s.test with ir := i, cells := cells } } (.scan bits) := by
  refine ⟨(s.samplePins cells.length).1, ?_, if_neg (by simp [h])⟩
  simp [State.samplePins]

/-- One bit through the bypass register: the bit comes in, and what it held goes out. -/
theorem bypassShift_one (tdi : Bool) :
    s.bypassShift [tdi] = State.emit { s with test := { s.test with ir := .bypass, byp := tdi } } (.scan [s.test.byp]) := rfl

/-! ### The instructions -/

/-- Without supply nothing is taken. -/
theorem exec_tap_dead (h : s.tapDead = true) : exec .idcode s = .next s ∧ exec .clamp s = .next s ∧ exec .highz s = .next s ∧
    (∀ b, exec (.bypass b) s = .next s) ∧ ∀ cells, exec (.extest cells) s = .next s ∧ exec (.samplePreload cells) s = .next s ∧
      exec (.internalTest cells) s = .next s :=
  ⟨if_pos h, if_pos h, if_pos h, fun _ => if_pos h, fun _ => ⟨if_pos h, if_pos h, if_pos h⟩⟩

section
variable (h : ¬ s.tapDead = true)
include h

theorem exec_idcode : exec .idcode s =
    .next ((s.tapIr .idcode).emit (.scan ((List.range 32).map (fun i => Nat.testBit 0x10960A4B i)))) := if_neg h

theorem exec_bypass (tdi : Bool) : exec (.bypass tdi) s = .next (s.bypassShift [tdi]) := if_neg h

theorem exec_clamp : exec .clamp s = .next (if s.tapBypassed then s.tapIr .bypass else s.tapIr .clamp) := if_neg h

theorem exec_highz : exec .highz s = .next (if s.tapBypassed then s.tapIr .bypass else s.tapIr .highz) := if_neg h

theorem exec_extest (cells : List Bool) : exec (.extest cells) s = .next (s.boundaryShift .extest cells) := if_neg h

theorem exec_samplePreload (cells : List Bool) : exec (.samplePreload cells) s = .next (s.boundaryShift .sample cells) := if_neg h

theorem exec_internalTest (cells : List Bool) : exec (.internalTest cells) s =
    if s.tapBypassed then .next (s.bypassShift cells)
    else if Nat.testBit (s.odGet 0xA500 3) 1 then .refused .testInstruction
    else .next s := if_neg h

end

/-! ### Resets and pins -/

/-- Power-on brings the TAP to rest; another reset ends what the tests had under way and leaves the instruction and the cells. -/
theorem doReset_test (cause detail : Nat) (cls : ResetCls) (power : Bool) : (s.doReset cause detail cls power).test =
    if cls = .powerOn then {} else { ir := s.test.ir, byp := s.test.byp, cells := s.test.cells } := by
  refine (congrArg State.test (doReset_entriesOnly s cause detail cls power) :).trans ?_
  cases cls <;> rfl

theorem pinState_cells {g : Nat} (hcell : State.hasCell g = true) (h : s.test.ir = .extest ∨ s.test.ir = .clamp) :
    s.pinState g = .cells := if_pos (by simpa [hcell] using h)

theorem pinState_highZ {g : Nat} (hcell : State.hasCell g = true) (h : s.test.ir = .highz) : s.pinState g = .highZ := by
  unfold State.pinState
  simp [hcell, h]

end

end Sys2Proof.Machine

open Sys2Proof Sys2Proof.Machine

/-- Settles O56: each instruction by whether the TAP has supply and whether it bypasses, then resets, ARM and the pins. -/
theorem testAccessPort : Obligations.TestAccessPort := by
  intro s inst
  refine ⟨fun hpower => ?live, exec_tap_dead, fun cause detail power => ⟨doReset_test cause detail .powerOn power, fun cls hcls => ?reset⟩,
    (armDo_settles s).2.1, fun g hcell => ⟨pinState_cells hcell, pinState_highZ hcell⟩⟩
  case reset => rw [doReset_test, if_neg hcls]
  case live =>
    have hlive : ¬ s.tapDead = true := by simp [State.tapDead, hpower]
    refine ⟨exec_idcode hlive, exec_bypass hlive, fun hmode => ?bypassed, fun hmode => ?taken⟩
    case bypassed =>
      have hbypassed := tapBypassed_iff.mpr hmode
      rw [exec_clamp hlive, exec_highz hlive, if_pos hbypassed, if_pos hbypassed]
      refine ⟨rfl, rfl, fun cells => ?_⟩
      rw [exec_extest hlive, exec_samplePreload hlive, exec_internalTest hlive, if_pos hbypassed,
        boundaryShift_bypassed _ cells hbypassed, boundaryShift_bypassed _ cells hbypassed]
      exact ⟨rfl, rfl, rfl⟩
    case taken =>
      have hfree : ¬ s.tapBypassed = true := mt tapBypassed_iff.mp hmode
      rw [exec_clamp hlive, exec_highz hlive, if_neg hfree, if_neg hfree]
      refine ⟨rfl, rfl, fun cells => ?_⟩
      rw [exec_extest hlive, exec_samplePreload hlive, exec_internalTest hlive, if_neg hfree]
      obtain ⟨out, hout, hextest⟩ := boundaryShift_samples .extest cells (Bool.not_eq_true _ ▸ hfree)
      obtain ⟨pins, hpins, hsample⟩ := boundaryShift_samples .sample cells (Bool.not_eq_true _ ▸ hfree)
      exact ⟨⟨out, hout, congrArg _ hextest⟩, ⟨pins, hpins, congrArg _ hsample⟩, fun hlocked => if_neg (by simp [hlocked]),
        fun hopen => if_pos hopen⟩
end

section
/-! SUPPORT. The end of BOOT (13, 13.3; R310): what comes before the running slot is marked leaves the firmware store, memory and the record of the
reset, and the mark is one write of a control block; and the statement. -/

namespace Sys2Proof.Machine

section
variable {s t : State}

/-! ### The mark (R310) -/

/-- A control block is written over one of the two copies, and nothing else changes. -/
theorem ctlWrite_copy (s : State) (f : CtlBlock → CtlBlock) : ∃ b,
    s.ctlWrite f = { s with store := { s.store with ctl0 := b } } ∨ s.ctlWrite f = { s with store := { s.store with ctl1 := b } } := by
  unfold State.ctlWrite
  dsimp only
  split
  · exact ⟨_, .inr rfl⟩
  · exact ⟨_, .inl rfl⟩

/-- Confirming leaves the slot that runs, both images, the fuses, one copy of the control block, memory and the release. -/
theorem fwConfirm_keeps (s : State) : s.fwConfirm.store.running = s.store.running ∧
    (s.fwConfirm.store.ctl0 = s.store.ctl0 ∨ s.fwConfirm.store.ctl1 = s.store.ctl1) ∧ s.fwConfirm.fuseRollback = s.fuseRollback ∧
    s.fwConfirm.fuseRevoked = s.fuseRevoked ∧ s.fwConfirm.store.slot0 = s.store.slot0 ∧ s.fwConfirm.store.slot1 = s.store.slot1 ∧
    s.fwConfirm.mem = s.mem ∧ s.fwConfirm.plat = s.plat ∧ s.fwConfirm.od = s.od := by
  unfold State.fwConfirm
  obtain ⟨b, h | h⟩ := ctlWrite_copy s
    (fun c => { State.withConfirmed c s.store.running true with preferred := s.store.running, trial := false })
  · rw [h]
    exact ⟨rfl, .inr rfl, rfl, rfl, rfl, rfl, rfl, rfl, rfl⟩
  · rw [h]
    exact ⟨rfl, .inl rfl, rfl, rfl, rfl, rfl, rfl, rfl, rfl⟩

/-- The block then in force: the running slot confirmed and preferred, no trial, and the next SEQ. -/
theorem ctl_fwConfirm (s : State) : s.fwConfirm.confirmed s.store.running = true ∧ s.fwConfirm.ctl.preferred = s.store.running ∧
    s.fwConfirm.ctl.trial = false ∧ s.fwConfirm.ctl.seq = s.ctl.seq + 1 := by
  unfold State.confirmed State.fwConfirm
  rw [ctl_ctlWrite]
  refine ⟨?_, rfl, rfl, rfl⟩
  simp [State.withConfirmed, Nat.testBit_two_pow_self]

/-! ### What comes before it (R293, R29) -/

/-- The firmware store, memory and RESET_CAUSE. -/
def bootPart (s : State) : FwStore × FMap Byte × Nat := (s.store, s.mem, s.odGet 0x9001 1)

theorem bootPart_iff : bootPart t = bootPart s ↔ t.store = s.store ∧ t.mem = s.mem ∧ t.odGet 0x9001 1 = s.odGet 0x9001 1 := by
  simp [bootPart]

theorem SideFrom.bootPart (h : SideFrom s t) : bootPart t = bootPart s := bootPart_iff.mpr ⟨h.store, h.mem, h.2 _ _ (by decide)⟩

theorem sideFrom_odSetShown (s : State) {i k : Nat} (v : Nat) (h : odKey i k ∈ sideKeys) : SideFrom s (s.odSetShown i k v) := by
  unfold State.odSetShown
  split
  · exact .refl s
  · exact (sideFrom_odSet s v h).trans ⟨rfl, fun _ _ _ => rfl⟩

/-- Trains and ports from the fuses and the retirement map. -/
theorem bootPart_bootUnits (s : State) : bootPart s.bootUnits = bootPart s := by
  have hports : ∀ (cls : Nat) (l : List Nat) (a : State), bootPart (l.foldl (fun a k => a.portSvcSet cls k 3) a) = bootPart a :=
    fun cls => foldl_keeps bootPart (fun _ _ => rfl)
  have htrains : ∀ a b c, bootPart { s with t1s := a, bootRetired := b, units := c } = bootPart s := fun _ _ _ => rfl
  unfold State.bootUnits
  dsimp only
  rw [hports, hports]
  exact htrains _ _ _

/-- The first table is shown and announced. -/
theorem sideFrom_firstTable (s : State) :
    SideFrom s (State.notify { (s.odSetShown 0x1101 1 1) with table := (s.odSetShown 0x1101 1 1).movementTable [] ftUnset } 0x1101 1) := by
  have hshown := sideFrom_odSetShown s (i := 0x1101) (k := 1) 1 (by decide)
  generalize s.odSetShown 0x1101 1 1 = a at hshown
  have htable : SideFrom a { a with table := a.movementTable [] ftUnset } := ⟨rfl, fun _ _ _ => rfl⟩
  exact hshown.trans (htable.trans (sideFrom_notifyVal _ _ _ _))

/-- The end of BOOT is the mark, and QUIET, on a state that has the store, memory and RESET_CAUSE as they were and no release step under way. -/
theorem bootEnd_marks (s : State) : ∃ u, s.bootEnd = u.fwConfirm.setModState stQuiet ∧ bootPart u = bootPart s ∧ u.plat.step = 0 := by
  have hunits := (sideFrom_farFromLayout s.bootUnits).bootPart.trans (bootPart_bootUnits s)
  unfold State.bootEnd
  dsimp only
  generalize s.bootUnits.farFromLayout = a at *
  have hshown := sideFrom_firstTable (State.atStep (State.release { a with near := (List.range 16).foldl (fun m k => fput {} m k
    { fget ({} : NearPort) m k with st := if a.portSvc 1 k = 0 && decide (a.smn < 64) then 1 else 0 }) a.near }
      [2, 3, 4, 5, 6, 8, 9, 10, 11]) 0)
  exact ⟨_, rfl, hshown.bootPart.trans hunits, (congrArg Plat.step hshown.plat).trans rfl⟩

end

end Sys2Proof.Machine

open Sys2Proof Sys2Proof.Machine

/-- Settles O54: the end of BOOT is the mark on a state with the same store, and the entry into QUIET touches neither the store nor the fuses. -/
theorem bootConfirmsSlot : Obligations.BootConfirmsSlot := by
  intro s hboot hstep
  obtain ⟨u, hend, hpart, hreleased⟩ := bootEnd_marks s
  obtain ⟨hstore, hmem, hcause⟩ := bootPart_iff.mp hpart
  have hexec : exec .bootStepComplete s = .next s.bootEnd := by
    rw [exec_bootStepComplete hboot, State.bootStep, hstep]
    rfl
  rw [hend] at hexec
  refine ⟨_, hexec, setModState_modState _ _, ?_⟩
  have hframe := setModState_frame u.fwConfirm stQuiet
  have hod := setModState_odGet u.fwConfirm stQuiet (i := 0x9001) (k := 1) (by decide)
  generalize u.fwConfirm.setModState stQuiet = t at hframe hod
  have hquiet : t.store = u.fwConfirm.store := (congrArg State.store hframe :)
  obtain ⟨hconfirmed, hpreferred, htrial, hseq⟩ := ctl_fwConfirm u
  obtain ⟨hruns, hcopy, hrollback, hrevoked, hslot0, hslot1, hkept, hplat, hdict⟩ := fwConfirm_keeps u
  unfold State.confirmed State.ctl State.fuseRollback State.fuseRevoked at *
  rw [hstore] at *
  rw [hquiet]
  exact ⟨hruns, hconfirmed, hpreferred, htrial, hseq, hcopy, hrollback, hrevoked, hslot0, hslot1,
    (congrArg State.mem hframe :).trans (hkept.trans hmem), (congrArg (fun x : State => x.plat.step) hframe :).trans (hplat ▸ hreleased),
    hod.trans ((congrArg (fun m => fget _ m _) hdict).trans hcause)⟩
end


section
/-! SUPPORT. No command touches the queue of waiting commands: one rule per operation of the state, in the order of the definitions, beside
those of the period's operations above; then what the issue of an instruction, an entry of the calendar, and a command of the units leave;
then every command, by the shape of its meaning. -/

namespace Sys2Proof.Machine

/-! ### Branches and loops that carry a value beside the state -/

@[simp] theorem ite_fst_pending {β : Type} (c : Prop) [Decidable c] (a b : State × β) :
    (if c then a else b).1.pending = if c then a.1.pending else b.1.pending := apply_ite (fun x : State × β => x.1.pending) c a b

theorem foldl_snd_pending {β γ : Type} {f : γ × State → β → γ × State} (h : ∀ a b, (f a b).2.pending = a.2.pending) (l : List β)
    (a : γ × State) : (l.foldl f a).2.pending = a.2.pending := by
  induction l generalizing a with
  | nil => rfl
  | cons b l ih => exact (ih (f a b)).trans (h a b)

/-! ### Memory, objects and the pinions -/

@[simp] theorem ownWrite_pending (s : State) (a : Nat) (bs : List Byte) : (s.ownWrite a bs).pending = s.pending := by simp [State.ownWrite]

@[simp] theorem ownRead_pending (s : State) (a n : Nat) : (s.ownRead a n).2.pending = s.pending := by
  unfold State.ownRead
  split <;> simp

@[simp] theorem isolate_pending (s : State) (us : List (Nat × Nat)) : (s.isolate us).pending = s.pending := by
  unfold State.isolate
  exact foldl_pending (fun _ _ => State.unitMod_pending _ _ _ _) us s

@[simp] theorem pinCountBy_pending (s : State) (p index sub k n : Nat) : (s.pinCountBy p index sub k n).pending = s.pending := by
  simp [State.pinCountBy]

@[simp] theorem wrData_pending (s : State) (p off : Nat) (bs : List Byte) : (s.wrData p off bs).pending = s.pending := by
  simp [State.wrData]

@[simp] theorem ringDrain_pending (s : State) (l : List (List Byte)) : (s.ringDrain l).pending = s.pending :=
    (crownOnly_ringDrain s l).pending

@[simp] theorem romTake_pending (s : State) : s.romTake.pending = s.pending := by simp [State.romTake]

@[simp] theorem spanSend_pending (s : State) (sid : Nat) (v : W32) : (s.spanSend sid v).pending = s.pending :=
  (sentFrom_spanSend s sid v).pending

@[simp] theorem syncSend_pending (s : State) (sid : Nat) (r : Req) : (s.syncSend sid r).pending = s.pending := by
  unfold State.syncSend
  split <;> simp

@[simp] theorem post_pending (s : State) (sid : Nat) : (s.post sid).pending = s.pending := by simp [State.post]

@[simp] theorem postOpt_pending (s : State) (o : Option Nat) : (s.postOpt o).pending = s.pending := by
  cases o with
  | none => rfl
  | some sid => exact post_pending s sid

@[simp] theorem dropHand_pending (s : State) (p h : Nat) : (s.dropHand p h).pending = s.pending := by simp [State.dropHand]

@[simp] theorem tryStop_pending (s : State) (p : Nat) : (s.tryStop p).pending = s.pending := by
  unfold State.tryStop
  dsimp only
  repeat' split
  all_goals simp

@[simp] theorem takeFault_pending (s : State) (p h pc op code : Nat) : (s.takeFault p h pc op code).pending = s.pending := by
  simp [State.takeFault]

@[simp] theorem readyChanges_pending (s : State) (f : ChangeKind → Bool) : (s.readyChanges f).pending = s.pending := by
  simp [State.readyChanges]

@[simp] theorem resumeAt_pending (s : State) (p h pc : Nat) : (s.resumeAt p h pc).pending = s.pending := by simp [State.resumeAt]

/-! ### The issue of an instruction -/

/-- The state that the issue of an instruction leaves has the queue of `s`. -/
def ResKeeps (s : State) : IssueRes → Prop
  | .done t => t.pending = s.pending
  | .jump t _ => t.pending = s.pending
  | .stay t _ => t.pending = s.pending
  | .wait t => t.pending = s.pending
  | .ended t => t.pending = s.pending
  | .isolated t => t.pending = s.pending
  | .fault _ => True

@[simp] theorem resKeeps_done {s t : State} : ResKeeps s (.done t) ↔ t.pending = s.pending := Iff.rfl
@[simp] theorem resKeeps_jump {s t : State} {pc : Nat} : ResKeeps s (.jump t pc) ↔ t.pending = s.pending := Iff.rfl
@[simp] theorem resKeeps_stay {s t : State} {w : HandSt} : ResKeeps s (.stay t w) ↔ t.pending = s.pending := Iff.rfl
@[simp] theorem resKeeps_ended {s t : State} : ResKeeps s (.ended t) ↔ t.pending = s.pending := Iff.rfl
@[simp] theorem resKeeps_isolated {s t : State} : ResKeeps s (.isolated t) ↔ t.pending = s.pending := Iff.rfl
@[simp] theorem resKeeps_fault (s : State) (code : Nat) : ResKeeps s (.fault code) := trivial

theorem issueEnd_pending {s : State} {r : IssueRes} (h : ResKeeps s r) (p k pc op : Nat) :
    (s.issueEnd p k pc op r).pending = s.pending := by
  unfold State.issueEnd
  cases r with
  | done t => exact (resumeAt_pending t p k _).trans h
  | isolated t => exact (takeFault_pending t p k pc op _).trans h
  | fault c => exact takeFault_pending s p k pc op c
  | jump t x => exact h
  | stay t x => exact h
  | wait t => exact h
  | ended t => exact h

theorem issueAs_pending {body : State → Hand → W64 → IssueRes} (h : ∀ s d w, ResKeeps s (body s d w)) (s : State) (p k row : Nat) :
    (s.issueAs p k row body).pending = s.pending := by
  unfold State.issueAs
  dsimp only
  repeat' split
  · exact takeFault_pending _ _ _ _ _ _
  · exact issueEnd_pending (h _ _ _) p k _ _
  · exact (issueEnd_pending (r := .fault fIllegal) trivial p k _ _).trans rfl
  · rfl
  · rfl

/-! ### An entry of the calendar -/

theorem beatRuns_pending {act : State → Beat → State × Bool} (h : ∀ s e, (act s e).1.pending = s.pending) (s : State) (i : Nat) (e : Beat) :
    (s.beatRuns i e act).pending = s.pending := by
  simp [State.beatRuns, h]

theorem runBeat_pending {act : State → Beat → State × Bool} (h : ∀ s e, (act s e).1.pending = s.pending) (s : State) (a : Nat) :
    (s.runBeat a act).pending = s.pending := by
  unfold State.runBeat
  dsimp only
  repeat' split
  all_goals simp [beatRuns_pending h]

/-! ### Packets and ports -/

@[simp] theorem deliverPkt_pending (s : State) (x : RxPkt) : (s.deliverPkt x).pending = s.pending := by simp [State.deliverPkt]

theorem takeRx_pending {s t : State} {src typ : Nat} {x : RxPkt} (h : s.takeRx src typ = some (x, t)) : t.pending = s.pending := by
  unfold State.takeRx at h
  dsimp only at h
  split at h
  · cases h
  · cases h
    simp

@[simp] theorem arrive_pending (s : State) (k vc cls : Nat) (raw : List Byte) (room : Room) :
    (s.arrive k vc cls raw room).pending = s.pending := by
  simp [State.arrive]

@[simp] theorem takeRoom_pending (s : State) (r : Room) : (s.takeRoom r).pending = s.pending := by simp [State.takeRoom]

@[simp] theorem flitAcks_pending (s : State) (k h : Nat) : (s.flitAcks k h).pending = s.pending := by
  unfold State.flitAcks
  dsimp only
  rw [pumpPort_pending]
  split
  · exact foldl_pending (fun a f => wireFlit_pending a k f) _ _
  · rfl

@[simp] theorem acceptFlit_pending (s : State) (k h : Nat) (body : List Byte) : (s.acceptFlit k h body).pending = s.pending := by
  simp [State.acceptFlit]

@[simp] theorem askReplay_pending (s : State) (k : Nat) : (s.askReplay k).pending = s.pending := by simp [State.askReplay]

@[simp] theorem linkUp_pending (s : State) (k : Nat) : (s.linkUp k).pending = s.pending := by simp [State.linkUp, foldl_pending]

theorem takeCtrl_fst_pending {s t : State} {src ctype : Nat} {x : RxPkt} (h : (takeCtrl s src ctype).1 = some (x, t)) :
    t.pending = s.pending := by
  unfold takeCtrl at h
  split at h
  · cases h
  next y s1 hy =>
    have hrx := takeRx_pending hy
    repeat' split at h
    all_goals cases h
    exact hrx

@[simp] theorem takeCtrl_snd_pending (s : State) (src ctype : Nat) : (takeCtrl s src ctype).2.pending = s.pending := by
  unfold takeCtrl
  split
  · rfl
  next y s1 hy =>
    have hrx := takeRx_pending hy
    repeat' split
    · exact hrx
    · rfl
    · rfl

/-- A control packet is taken. -/
theorem takeCtrl_taken_pending {s t u : State} {src ctype : Nat} {x : RxPkt} (h : takeCtrl s src ctype = (some (x, t), u)) :
    t.pending = s.pending := takeCtrl_fst_pending (congrArg Prod.fst h)

/-- No control packet of the kind is there, or it is refused. -/
theorem takeCtrl_none_pending {s t : State} {src ctype : Nat} (h : takeCtrl s src ctype = (none, t)) : t.pending = s.pending :=
  (congrArg (fun r => r.2.pending) h).symm.trans (takeCtrl_snd_pending s src ctype)

/-! ### The collective queues -/

@[simp] theorem holdHead_pending (s : State) (key : Nat) : (s.holdHead key).pending = s.pending := by simp [State.holdHead]

@[simp] theorem freeHead_pending (s : State) (key : Nat) : (s.freeHead key).pending = s.pending := by simp [State.freeHead]

@[simp] theorem postEntry_pending (s : State) (sid : Nat) : (s.postEntry sid).pending = s.pending := by simp [State.postEntry]

@[simp] theorem postWord_pending (s : State) (w : Nat) : (s.postWord w).pending = s.pending := by simp [State.postWord]

@[simp] theorem cqueueMod_pending (s : State) (q : Nat) (f : CQueue → CQueue) : (s.cqueueMod q f).pending = s.pending := by
  simp [State.cqueueMod]

@[simp] theorem centryMod_pending (s : State) (q idx : Nat) (f : CEntry → CEntry) : (s.centryMod q idx f).pending = s.pending := by
  simp [State.centryMod]

@[simp] theorem openOut_pending (s : State) (o : OutStream) (atOnce : Bool) : (s.openOut o atOnce).pending = s.pending := by
  simp [State.openOut]

@[simp] theorem growOut_pending (s : State) (o : OutStream) (c : Nat × List Byte) (last : Bool) :
    (s.growOut o c last).pending = s.pending := by
  unfold State.growOut
  split <;> simp

@[simp] theorem sendCack_pending (s : State) (i : InStream) (acked : Nat) : (s.sendCack i acked).pending = s.pending := by
  simp [State.sendCack]

@[simp] theorem openIn_pending (s : State) (i : InStream) (grant : Bool) : (s.openIn i grant).pending = s.pending := by simp [State.openIn]

@[simp] theorem releaseIn_pending (s : State) (coll : Nat) (f : InStream → Bool) : (s.releaseIn coll f).pending = s.pending := by
  simp [State.releaseIn]

@[simp] theorem storeChunk_pending (s : State) (i : InStream) (x : RxPkt) (quiet : Bool) :
    (s.storeChunk i x quiet).1.pending = s.pending := by
  simp [State.storeChunk]

@[simp] theorem retire_pending (v n : Nat) (s : State) : (State.retire v n s).pending = s.pending := by
  induction n generalizing s with
  | zero => rfl
  | succ n ih =>
    unfold State.retire
    repeat' split
    all_goals simp [ih]

@[simp] theorem finishEntry_pending (s : State) (v idx : Nat) (failed : Bool) : (s.finishEntry v idx failed).pending = s.pending := by
  unfold State.finishEntry
  split <;> simp

@[simp] theorem refuseEntry_pending (s : State) (v kind reason : Nat) : (s.refuseEntry v kind reason).pending = s.pending := by
  simp [State.refuseEntry]

@[simp] theorem markDid_pending (s : State) (v idx k : Nat) : (s.markDid v idx k).pending = s.pending := by simp [State.markDid]

@[simp] theorem advReduce_pending (s : State) (v : Nat) (e : CEntry) : (advReduce s v e).pending = s.pending := by
  unfold advReduce
  dsimp only
  repeat' split
  all_goals simp [foldl_pending]

@[simp] theorem startReduce_pending (s : State) (v idx : Nat) (d : List Byte) : (startReduce s v idx d).pending = s.pending := by
  unfold startReduce
  refine (foldl_pending (fun a x => ?_) _ _).trans ((foldl_pending (fun a j => ?_) _ _).trans ?_)
  · split <;> simp
  · split
    · rfl
    · split
      · exact foldl_pending (fun b m => openIn_pending b _ _) _ _
      · simp
  · split <;> simp

@[simp] theorem startGather_pending (s : State) (v idx : Nat) (d : List Byte) : (startGather s v idx d).pending = s.pending := by
  simp [startGather, foldl_pending]

@[simp] theorem landChunk_pending (s : State) (v : Nat) (e : CEntry) (ms : List Nat) (j : Nat) (head : List Byte) (c : Nat × List Byte) (last again : Bool) :
    (landChunk s v e ms j head c last again).pending = s.pending := by
  simp [landChunk, foldl_pending]

@[simp] theorem landChunks_pending (s : State) (v : Nat) (e : CEntry) (ms : List Nat) (j : Nat) (i : InStream) (again : Bool) :
    (landChunks s v e ms j i again).pending = s.pending := by
  simp [landChunks, foldl_pending]

@[simp] theorem landImage_pending (s2 : State) (v : Nat) (e : CEntry) (ms : List Nat) (j : Nat) (img : List Byte) :
    (landImage s2 v e ms j img).pending = s2.pending := by
  simp [landImage]

@[simp] theorem advGather_pending (s : State) (v : Nat) (e : CEntry) : (advGather s v e).pending = s.pending := by
  unfold advGather
  dsimp only
  generalize hloop : List.foldl _ s _ = t
  have ht : t.pending = s.pending := by
    rw [← hloop]
    refine foldl_pending (fun a j => ?_) _ s
    repeat' split
    all_goals simp
  repeat' split
  all_goals simp [ht]

@[simp] theorem noiseRollover_pending (s : State) : (noiseRollover s).pending = s.pending := by simp [noiseRollover]

@[simp] theorem startScalar_pending (s : State) (v idx : Nat) (d : List Byte) : (startScalar s v idx d).pending = s.pending := by
  simp [startScalar, foldl_pending]

@[simp] theorem advScalar_pending (s : State) (v : Nat) (e : CEntry) : (advScalar s v e).pending = s.pending := by simp [advScalar]

@[simp] theorem startPut_pending (s : State) (v idx : Nat) (d : List Byte) : (startPut s v idx d).pending = s.pending := by simp [startPut]

@[simp] theorem landRows_pending (s : State) (d : List Byte) (p r x : Nat) (rows : List Byte) :
    (landRows s d p r x rows).pending = s.pending := by
  simp [landRows]

@[simp] theorem startDispatch_pending (s : State) (v idx : Nat) (d : List Byte) : (startDispatch s v idx d).pending = s.pending := by
  unfold startDispatch
  refine (foldl_pending (fun a x => ?_) _ _).trans ((State.bumpBy_pending _ _ _ _).trans (foldl_pending (fun _ _ => collMod_pending _ _) _ s))
  dsimp only
  split
  · exact (foldl_pending (fun b m => openIn_pending b _ _) _ _).trans (by simp)
  · simp

@[simp] theorem advDispatch_pending (s : State) (v : Nat) (e : CEntry) : (advDispatch s v e).pending = s.pending := by
  unfold advDispatch
  dsimp only
  generalize hloop : List.foldl _ s _ = t
  have ht : t.pending = s.pending := by
    rw [← hloop]
    refine foldl_pending (fun a w => ?_) _ s
    repeat' split
    all_goals simp
  repeat' split
  all_goals simp [ht]

@[simp] theorem startCombine_pending (s : State) (v idx : Nat) (d : List Byte) : (startCombine s v idx d).pending = s.pending := by
  simp [startCombine, foldl_pending]

@[simp] theorem advCombine_pending (s : State) (v : Nat) (e : CEntry) : (advCombine s v e).pending = s.pending := by
  simp [advCombine, foldl_pending]

@[simp] theorem stageWrite_pending (s : State) (off : Nat) (bs : List Byte) : (stageWrite s off bs).pending = s.pending :=
  foldl_fst_pending (fun _ _ => ownWrite_pending _ _ _) _ (s, bs)

@[simp] theorem stageRead_pending (s : State) (off n : Nat) : (stageRead s off n).2.pending = s.pending := by
  unfold stageRead
  refine foldl_snd_pending (fun a l => ?_) (stagingLines off n) ([], s)
  exact ownRead_pending a.2 l.1 l.2

@[simp] theorem permSend_pending (s : State) (v : Nat) (e : CEntry) : (permSend s v e).pending = s.pending := by
  refine foldl_pending (fun a x => ?_) _ s
  repeat' split
  all_goals simp

@[simp] theorem permExpect_pending (s : State) (v : Nat) (e : CEntry) : (permExpect s v e).pending = s.pending := by
  simp [permExpect, foldl_pending]

@[simp] theorem permFinish_pending (s : State) (v : Nat) (e : CEntry) : (permFinish s v e).pending = s.pending := by simp [permFinish]

@[simp] theorem stageChunk_pending (s : State) (x : RxPkt) : (stageChunk s x).pending = s.pending := by
  unfold stageChunk
  repeat' split
  all_goals simp

@[simp] theorem permPass_pending (s : State) (v : Nat) (e : CEntry) : (permPass s v e).pending = s.pending := by
  unfold permPass
  dsimp only
  repeat' split
  all_goals simp [foldl_pending]

@[simp] theorem advance1_pending (s : State) (v idx : Nat) : (advance1 s v idx).pending = s.pending := by
  unfold advance1
  repeat' split
  all_goals simp

@[simp] theorem collAdvance_pending (s : State) : (collAdvance s).pending = s.pending := by simp [collAdvance, foldl_pending]

@[simp] theorem startEntry_pending (s : State) (v kind : Nat) (d : List Byte) : (startEntry s v kind d).pending = s.pending := by
  unfold startEntry
  split <;> simp

@[simp] theorem collHead_pending (s : State) (v kind : Nat) : (collHead s v kind).pending = s.pending := by
  unfold collHead
  dsimp only
  repeat' split
  all_goals simp

@[simp] theorem cackIn_pending (s : State) (src : Nat) (x : RxPkt) : (cackIn s src x).pending = s.pending := by
  unfold cackIn
  dsimp only
  repeat' split
  all_goals simp

@[simp] theorem remapChunk_pending (s : State) (x : RxPkt) : (remapChunk s x).pending = s.pending := by
  unfold remapChunk
  dsimp only
  repeat' split
  all_goals simp

@[simp] theorem chunkIn_pending (s : State) (src typ : Nat) : (chunkIn s src typ).pending = s.pending := by
  unfold chunkIn
  split
  · rfl
  next x s1 hx =>
    have hrx := takeRx_pending hx
    dsimp only
    repeat' split
    all_goals simp [hrx]

/-! ### The log, the far peers and the store -/

@[simp] theorem clearValid_pending (s : State) (a : Nat) : (s.clearValid a).pending = s.pending := by simp [State.clearValid]

@[simp] theorem logWrite_pending (s : State) (bytes : List Byte) (len : Nat) : (s.logWrite bytes len).pending = s.pending := by
  have hplace : ∀ (t : State) (n : Nat), ({ t with logAt := n } : State).pending = t.pending := fun _ _ => rfl
  unfold State.logWrite
  exact (hplace _ _).trans ((State.odSet_pending _ _ _ _).trans ((State.odSet_pending _ _ _ _).trans (ownWrite_pending s _ bytes)))

theorem logAppend_pending {s t : State} {rule fmt addr tensor row a hdr : Nat} {gs : List FV}
    (h : s.logAppend rule fmt addr tensor row a hdr gs = some t) : t.pending = s.pending := by
  unfold State.logAppend at h
  dsimp only at h
  repeat' split at h
  all_goals cases h
  all_goals simp

@[simp] theorem learnHop_pending (s : State) (k : Nat) (ip mac : List Byte) : (s.learnHop k ip mac).pending = s.pending := by
  simp [State.learnHop, foldl_pending]

@[simp] theorem supersede_pending (s : State) (i : Nat) (m : FarMsg) : (s.supersede i m).pending = s.pending := by
  unfold State.supersede
  dsimp only
  split
  · rfl
  · exact (foldl_pending (fun _ _ => fpeerMod_pending _ _ _) _ _).trans rfl

@[simp] theorem sequence_pending (s : State) (m : FarMsg) (i : Nat) : (s.sequence m i).pending = s.pending := by simp [State.sequence]

@[simp] theorem romRun_pending (s : State) (k fail : Nat) : (s.romRun k fail).pending = s.pending := by simp [State.romRun]

@[simp] theorem romOther_pending (s : State) (k fail : Nat) : (s.romOther k fail).1.pending = s.pending := by
  unfold State.romOther
  dsimp only
  repeat' split
  all_goals simp

@[simp] theorem romChoose_pending (s : State) : (s.romChoose).1.pending = s.pending := by
  unfold State.romChoose
  dsimp only
  repeat' split
  all_goals simp

@[simp] theorem fwConfirm_pending (s : State) : s.fwConfirm.pending = s.pending := by simp [State.fwConfirm]

@[simp] theorem farRxPut_pending (s : State) (i : Nat) (m : FarRx) : (s.farRxPut i m).pending = s.pending := by simp [State.farRxPut]

@[simp] theorem firstHs_pending (s : State) (i : Nat) : (s.firstHs i).pending = s.pending := by simp [State.firstHs]

@[simp] theorem farSend_pending (s : State) (i typ seq : Nat) (body : List Byte) (retx : Bool) :
    (s.farSend i typ seq body retx).1.pending = s.pending := by
  unfold State.farSend
  dsimp only
  repeat' split
  all_goals simp

@[simp] theorem authentic_pending (s : State) (i epoch : Nat) : (s.authentic i epoch).pending = s.pending := by simp [State.authentic]

@[simp] theorem farAccept_pending (s : State) (port : Nat) (src bytes : List Byte) (typ : Nat) :
    (s.farAccept port src bytes typ).1.pending = s.pending := by
  unfold State.farAccept
  split
  · rfl
  · split
    · rfl
    · repeat' split
      all_goals rfl

theorem farAccept_eq_pending {s t : State} {port typ : Nat} {src bytes : List Byte} {r : Option Nat}
    (h : s.farAccept port src bytes typ = (t, r)) : t.pending = s.pending :=
  (congrArg (fun r => r.1.pending) h).symm.trans (farAccept_pending s port src bytes typ)

@[simp] theorem farOpen_pending (s : State) (port : Nat) (src bytes : List Byte) (typ : Nat) :
    (s.farOpen port src bytes typ).1.pending = s.pending := by
  have haccept := farAccept_pending s port src bytes typ
  unfold State.farOpen
  split
  next t h =>
    rw [h] at haccept
    exact haccept
  next t i h =>
    rw [h] at haccept
    have ht : t.pending = s.pending := haccept
    dsimp only
    repeat' split
    all_goals simp [ht]

theorem farOpen_eq_pending {s t : State} {port typ : Nat} {src bytes : List Byte} {r : Option (Nat × List Byte × List Byte)}
    (h : s.farOpen port src bytes typ = (t, r)) : t.pending = s.pending :=
  (congrArg (fun r => r.1.pending) h).symm.trans (farOpen_pending s port src bytes typ)

@[simp] theorem sendAck_pending (s : State) (i : Nat) : (s.sendAck i).pending = s.pending := by simp [State.sendAck]

@[simp] theorem seqArrives_pending (s : State) (i : Nat) (h : List Byte) : (s.seqArrives i h).1.pending = s.pending := by
  unfold State.seqArrives
  dsimp only
  repeat' split
  all_goals simp

@[simp] theorem ackAfter_pending (s : State) (i : Nat) (before : FarPeer) (h : List Byte) :
    (s.ackAfter i before h).pending = s.pending := by
  simp [State.ackAfter]

@[simp] theorem farData_pending (s : State) (i seq : Nat) (plain : List Byte) : (s.farData i seq plain).pending = s.pending := by
  unfold State.farData
  dsimp only
  repeat' split
  all_goals simp

@[simp] theorem slotBody_pending (s : State) (x : FarSlot) : (s.slotBody x).2.pending = s.pending := by
  unfold State.slotBody
  split <;> simp

@[simp] theorem sendSlot_pending (s : State) (i : Nat) (x : FarSlot) : (s.sendSlot i x).pending = s.pending := by
  unfold State.sendSlot
  split <;> simp

@[simp] theorem releaseSlots_pending (s : State) (i : Nat) (done : Nat → Bool) : (s.releaseSlots i done).pending = s.pending := by
  simp [State.releaseSlots]

@[simp] theorem dropMsgs_pending (s : State) : s.dropMsgs.pending = s.pending := by simp [State.dropMsgs]

@[simp] theorem nbrLearn_pending (s : State) (port : Nat) (ip mac : List Byte) : (s.nbrLearn port ip mac).pending = s.pending := by
  simp [State.nbrLearn]

@[simp] theorem hsFails_pending (s : State) : (hsFails s).pending = s.pending := by simp [hsFails]

/-! ### The update units and the Fusees -/

@[simp] theorem uqStep_pending (s : State) (u : Nat) : (uqStep s u).pending = s.pending := by simp [uqStep]

@[simp] theorem uqFinish_pending (s : State) (u post : Nat) : (uqFinish s u post).pending = s.pending := by simp [uqFinish]

@[simp] theorem uqRefuse_pending (s : State) (u kind reason : Nat) : (uqRefuse s u kind reason).pending = s.pending := by
  unfold uqRefuse
  dsimp only
  rw [uqStep_pending]
  split
  · rw [logErr_pending, countNotify_pending, State.odSet_pending]
  · rw [countNotify_pending, State.odSet_pending]

/-- A command's outcome has the queue of `s` wherever it is a next state. -/
def OutKeeps (s : State) (o : Host.Outcome State Fault Refusal) : Prop := ∀ t, o = .next t → t.pending = s.pending

theorem outKeeps_next {s t : State} (h : t.pending = s.pending) : OutKeeps s (.next t) := by
  intro u hu
  cases hu
  exact h

@[simp] theorem outKeeps_next_iff {s t : State} : OutKeeps s (.next t) ↔ t.pending = s.pending := ⟨fun h => h t rfl, outKeeps_next⟩

theorem outKeeps_ite {s : State} {p : Prop} [Decidable p] {a b : Host.Outcome State Fault Refusal} (ha : OutKeeps s a) (hb : OutKeeps s b) :
    OutKeeps s (if p then a else b) := by
  split
  · exact ha
  · exact hb

theorem unitCommand_keeps (u kind : Nat) (mine : List Byte → Bool) {body : State → List Byte → Nat → Host.Outcome State Fault Refusal}
    (h : ∀ s d x, OutKeeps s (body s d x)) (s : State) : OutKeeps s (unitCommand u kind mine body s) := by
  unfold unitCommand
  dsimp only
  repeat' split
  all_goals simp [h]

theorem afterLog_keeps (s : State) (slow : Bool) {f : State → State} (h : ∀ s, (f s).pending = s.pending) : OutKeeps s
    (afterLog s slow f) := by
  refine outKeeps_next ?_
  split
  · exact applyLog_pending s
  · rw [h]
    split
    · exact applyLog_pending s
    · rfl

@[simp] theorem runTiesum_pending (s : State) (u : Nat) (desc : Nat) : (runTiesum s u desc).pending = s.pending := by simp [runTiesum]

@[simp] theorem runNorm_pending (s : State) (u : Nat) (d : List Byte) : (runNorm s u d).pending = s.pending := by simp [runNorm]

@[simp] theorem lateNonfinite_pending (s : State) : (lateNonfinite s).pending = s.pending := by simp [lateNonfinite]

@[simp] theorem innerHbm_pending (s : State) (u : Nat) (d : List Byte) (a : Nat) : (innerHbm s u d a).pending = s.pending := by
  unfold innerHbm
  dsimp only
  repeat' split
  all_goals simp

theorem innerLogRow_pending (d : List Byte) (a n : Nat) (acc : State × Bool) (row : Nat × List FV) :
    (innerLogRow d a n acc row).1.pending = acc.1.pending := by
  unfold innerLogRow
  dsimp only
  repeat' split
  case h_1 h => exact logAppend_pending h
  all_goals simp

theorem innerSlow_keeps (s : State) (u : Nat) (d : List Byte) (a : Nat) : OutKeeps s (innerSlow s u d a) := by
  unfold innerSlow
  dsimp only
  split
  · exact outKeeps_next ((lateNonfinite_pending _).trans (foldl_fst_pending (innerLogRow_pending d a _) _ _))
  · refine outKeeps_next ?_
    rw [uqFinish_pending, State.bump_pending, ite_pending, sealShard_pending, clearValid_pending, ite_self, bumpVersion_pending]
    exact foldl_fst_pending (innerLogRow_pending d a _) _ _

theorem runInner_keeps (s : State) (u : Nat) (d : List Byte) : OutKeeps s (runInner s u d) := by
  unfold runInner
  dsimp only
  generalize (if rdLe d 4 1 = 2 then s.readNat (rdLe d 0x28 8) 4 else 0) = n
  split
  · exact outKeeps_next (by simp)
  · split
    · exact innerSlow_keeps _ _ _ _
    · exact outKeeps_next (by simp)

@[simp] theorem outerRule_pending (s : State) (hdr : Nat) (delta : List Nat) (mom mu eta round : Nat) :
    (outerRule s hdr delta mom mu eta round).1.pending = s.pending := by
  unfold outerRule
  dsimp only
  repeat' split
  all_goals simp

@[simp] theorem runOuter_pending (s : State) (u : Nat) (d : List Byte) : (runOuter s u d).pending = s.pending := by simp [runOuter]

@[simp] theorem runDigest_pending (s : State) (u : Nat) (d : List Byte) : (runDigest s u d).pending = s.pending := by simp [runDigest]

@[simp] theorem exportRecord_pending (s : State) (hdr rec_ : Nat) (coords : List Byte) :
    (exportRecord s hdr rec_ coords).pending = s.pending := by
  simp [exportRecord]

@[simp] theorem importMomentum_pending (s : State) (rec_ tensor mom el : Nat) :
    (importMomentum s rec_ tensor mom el).pending = s.pending := by
  simp [importMomentum]

@[simp] theorem importRecord_pending (s : State) (d : List Byte) : (importRecord s d).pending = s.pending := by
  unfold importRecord
  dsimp only
  repeat' split
  all_goals simp

@[simp] theorem fqStep_pending (s : State) (d : Nat) : (fqStep s d).pending = s.pending := by simp [fqStep]

@[simp] theorem fqFinish_pending (s : State) (d post : Nat) : (fqFinish s d post).pending = s.pending := by simp [fqFinish]

@[simp] theorem fqRefuse_pending (s : State) (d kind reason : Nat) : (fqRefuse s d kind reason).pending = s.pending := by
  unfold fqRefuse
  rw [fqStep_pending, countNotify_pending, State.odSet_pending]

theorem fuseeCommand_keeps (d kind : Nat) {body : State → List Byte → State} (h : ∀ s b, (body s b).pending = s.pending) (s : State) :
    OutKeeps s (fuseeCommand d kind body s) := by
  unfold fuseeCommand
  dsimp only
  repeat' split
  all_goals exact outKeeps_next (by simp [h])

@[simp] theorem rebase_pending (s : State) (t : Config.PlanTensor) (old : List FV) (delta : Option Nat) :
    (s.rebase t old delta).pending = s.pending := by
  simp [State.rebase]

@[simp] theorem deltaBad_pending (s : State) (tensor bad : Nat) : (s.deltaBad tensor bad).pending = s.pending := by
  unfold State.deltaBad
  split <;> simp

/-! ### Streams, the barrel, dumps and time -/

@[simp] theorem startStream_pending (s : State) (p h port : Nat) (d : BitVec 256) : (startStream s p h port d).pending = s.pending := by
  unfold startStream
  split <;> simp

@[simp] theorem deliver_pending (s : State) (p h port : Nat) (d : BitVec 256) : (deliver s p h port d).pending = s.pending := by
  simp [deliver]

@[simp] theorem switchHand_pending (s : State) (p : Nat) : (switchHand s p).pending = s.pending := by simp [switchHand]

@[simp] theorem setBarrel_pending (s : State) (t2 : Nat) (b : Barrel) : (setBarrel s t2 b).pending = s.pending := by simp [setBarrel]

@[simp] theorem applyBdir_pending (s : State) (t2 : Nat) (o : BdirOp) : (applyBdir s t2 o).pending = s.pending := by
  unfold applyBdir
  split <;> simp

@[simp] theorem grantBdirs_pending (n k : Nat) (s : State) (t2 : Nat) : (grantBdirs n k s t2).pending = s.pending := by
  induction k generalizing s with
  | zero => rfl
  | succ k ih =>
    unfold grantBdirs
    dsimp only
    split
    · rfl
    · rw [ih]
      split <;> simp

@[simp] theorem bdirArrives_pending (s : State) (p : Nat) (o : BdirOp) (more : Bool) : (bdirArrives s p o more).pending = s.pending := by
  simp [bdirArrives]

@[simp] theorem copyLines_pending (src dst : Nat → Nat) (n : Nat) (s : State) (i : Nat) :
    (copyLines src dst n s i).pending = s.pending := by
  induction n generalizing s i with
  | zero => rfl
  | succ n ih => simp [copyLines, ih]

@[simp] theorem runBarrelJob_pending (s : State) (p : Nat) (store : Bool) (slot addr lines off : Nat) :
    (runBarrelJob s p store slot addr lines off).pending = s.pending := by
  simp [runBarrelJob]

@[simp] theorem barrelIssue_pending (s : State) (p h row : Nat) (store : Bool) : (barrelIssue s p h row store).pending = s.pending := by
  refine issueAs_pending (fun s d w => ?_) s p h row
  dsimp only
  repeat' split
  all_goals simp [ResKeeps]

@[simp] theorem dumpWrite_pending (s : State) (x : Nat) (bs : List Byte) : (s.dumpWrite x bs).pending = s.pending := by
  induction bs generalizing s x with
  | nil => rfl
  | cons b bs ih => simp [State.dumpWrite, ih]

@[simp] theorem restartDump_pending (s : State) : s.restartDump.pending = s.pending := by simp [State.restartDump]

@[simp] theorem beginDump_pending (s : State) : s.beginDump.pending = s.pending := by simp [State.beginDump]

@[simp] theorem writeDump_pending (s : State) (keep : Option Nat) : (s.writeDump keep).pending = s.pending := by simp [State.writeDump]

@[simp] theorem countLock_pending (s : State) (inBudget : Bool) : (s.countLock inBudget).pending = s.pending := by simp [State.countLock]

@[simp] theorem halve_pending (s : State) (x : Int) : (s.halve x).2.pending = s.pending := by
  unfold State.halve
  split <;> simp

@[simp] theorem servo_pending (s : State) (t1 t2 t3 t4 asym : Int) : (s.servo t1 t2 t3 t4 asym).pending = s.pending := by simp [State.servo]

@[simp] theorem exchange_pending (s : State) (e : TimeEx) (asym : Int) : (s.exchange e asym).pending = s.pending := by
  unfold State.exchange
  split <;> simp

@[simp] theorem sendTime_pending (s : State) (k msg num : Nat) (t : Int) : (s.sendTime k msg num t).pending = s.pending := by
  simp [State.sendTime]

@[simp] theorem stampEx_pending (s : State) (i : Nat) (e : TimeEx) : (stampEx s i e).pending = s.pending := by simp [stampEx]

/-! ### The outer step -/

@[simp] theorem showBase_pending (s : State) : s.showBase.pending = s.pending := by
  unfold State.showBase
  split <;> simp

@[simp] theorem setSeals_pending (s : State) (shard : Nat) (l : List (Nat × Nat)) : (s.setSeals shard l).pending = s.pending := by
  simp [State.setSeals]

@[simp] theorem sealShardIn_pending (s : State) (round shard : Nat) : (s.sealShardIn round shard).pending = s.pending := by
  simp [State.sealShardIn]

@[simp] theorem sealLatch_pending (s : State) (sid : Nat) (reached : List Req) : (s.sealLatch sid reached).pending = s.pending := by
  unfold State.sealLatch
  dsimp only
  repeat' split
  all_goals simp [foldl_pending]

@[simp] theorem countReplays_pending (s : State) (sid : Nat) (reached : List Req) : (s.countReplays sid reached).pending = s.pending := by
  unfold State.countReplays
  split
  · exact foldl_pending (fun a x => by split <;> rfl) _ s
  · rfl

@[simp] theorem handContrib_pending (s : State) (r : Nat × Nat × List Byte) : (s.handContrib r).pending = s.pending := by
  simp [State.handContrib]

@[simp] theorem contribReady_pending (s : State) (m : List Byte) (norm bad : Nat) : (s.contribReady m norm bad).pending = s.pending := by
  simp [State.contribReady]

@[simp] theorem sealRound_pending (s : State) (r : Nat) : (s.sealRound r).pending = s.pending := by simp [State.sealRound]

@[simp] theorem sendRound_pending (s : State) (r : Nat) : (s.sendRound r).pending = s.pending := by simp [State.sendRound, foldl_pending]

@[simp] theorem closeRound_pending (s : State) (r : Nat) : (s.closeRound r).pending = s.pending := by simp [State.closeRound]

@[simp] theorem setKslot_pending (s : State) (key : Nat) (v : KSlot) : (s.setKslot key v).pending = s.pending := by simp [State.setKslot]

@[simp] theorem setPlace_pending (s : State) (key : Option Nat) (v : KSlot) : (s.setPlace key v).pending = s.pending := by
  unfold State.setPlace
  split <;> simp

@[simp] theorem inboxPut_pending (s : State) (m : InMsg) : (s.inboxPut m).pending = s.pending := by simp [State.inboxPut]

theorem inboxTake_pending {s t : State} {site kind : Nat} {m : InMsg} (h : s.inboxTake site kind = some (m, t)) : t.pending = s.pending := by
  obtain ⟨x, -, hx⟩ := Option.map_eq_some_iff.1 h
  cases hx
  rfl

@[simp] theorem discardIn_pending (s : State) (site : Nat) (hdr : List Byte) (key : Option (Option Nat)) :
    (s.discardIn site hdr key).pending = s.pending := by
  unfold State.discardIn
  split <;> simp

@[simp] theorem partialPut_pending (s : State) (site : Nat) (hdr : List Byte) (off : Nat) (bytes : List Byte) :
    (s.partialPut site hdr off bytes).pending = s.pending := by
  simp [State.partialPut]

@[simp] theorem relayBytes_pending (s : State) (site : Nat) (hdr : List Byte) (off : Nat) (bytes : List Byte) :
    (s.relayBytes site hdr off bytes).pending = s.pending := by
  unfold State.relayBytes
  dsimp only
  repeat' split
  all_goals simp

@[simp] theorem relayDone_pending (s : State) (site : Nat) (hdr : List Byte) : (s.relayDone site hdr).pending = s.pending := by
  unfold State.relayDone
  dsimp only
  repeat' split
  all_goals simp

@[simp] theorem relayAbort_pending (s : State) (site : Nat) (hdr : List Byte) : (s.relayAbort site hdr).pending = s.pending := by
  unfold State.relayAbort
  dsimp only
  repeat' split
  all_goals simp

@[simp] theorem keepManifest_pending (s : State) (p : Published) : (s.keepManifest p).pending = s.pending := by simp [State.keepManifest]

@[simp] theorem adoptTerm_pending (s : State) (term anchor : Nat) : (s.adoptTerm term anchor).pending = s.pending := by
  simp [State.adoptTerm]

@[simp] theorem takeWindow_pending (s : State) (m : List Byte) : (s.takeWindow m).pending = s.pending := by simp [State.takeWindow]

@[simp] theorem takeManifest_pending (s : State) (m : List Byte) : (s.takeManifest m).pending = s.pending := by
  unfold State.takeManifest
  dsimp only
  repeat' split
  all_goals simp

@[simp] theorem nextWanted_pending (s : State) : s.nextWanted.pending = s.pending := by
  unfold State.nextWanted
  split <;> simp

@[simp] theorem sendNotice_pending (s : State) (to_ : Nat) (shard round base : Nat) (body : List Byte) :
    (s.sendNotice to_ shard round base body).pending = s.pending := by
  simp [State.sendNotice]

@[simp] theorem rejectContrib_pending (s : State) (site reason shard round base : Nat) (stamp : Int) :
    (s.rejectContrib site reason shard round base stamp).pending = s.pending := by
  unfold State.rejectContrib
  rw [sendNotice_pending, State.odSet_pending, State.bump_pending]

@[simp] theorem slotTake_pending (s : State) (m : InMsg) : (s.slotTake m).1.pending = s.pending := by
  unfold State.slotTake
  split
  · split <;> simp
  · rfl

@[simp] theorem judge_pending (s : State) (m : InMsg) : (s.judge m).pending = s.pending := by
  unfold State.judge
  dsimp only
  repeat' split
  all_goals simp

@[simp] theorem publishRound_pending (s : State) (shard round : Nat) : (s.publishRound shard round).pending = s.pending := by
  unfold State.publishRound
  dsimp only
  repeat' split
  all_goals simp

@[simp] theorem outerShard_pending (s : State) (ts : List Config.PlanTensor) (m : List Byte) (cs : List (Nat × List Rec)) :
    (s.outerShard ts m cs).1.pending = s.pending := by
  refine foldl_fst_pending (fun a x => ?_) _ (s, true)
  dsimp only
  split <;> simp

@[simp] theorem commitResid_pending (s : State) (shard which : Nat) : (s.commitResid shard which).pending = s.pending := by
  simp [State.commitResid, foldl_pending]

@[simp] theorem afterManifest_pending (s : State) (shard : Nat) (m : List Byte) (olds : List (List FV)) :
    (s.afterManifest shard m olds).pending = s.pending := by
  unfold State.afterManifest
  dsimp only
  repeat' split
  all_goals simp [foldl_pending]

@[simp] theorem repairShard_pending (s : State) (shard : Nat) : (s.repairShard shard).pending = s.pending := by simp [State.repairShard]

@[simp] theorem applyOne_pending (s : State) (shard beatRound : Nat) : (s.applyOne shard beatRound).1.pending = s.pending := by
  unfold State.applyOne
  dsimp only
  repeat' split
  all_goals simp

@[simp] theorem applyShard_pending (n : Nat) (s : State) (shard r : Nat) : (State.applyShard n s shard r).pending = s.pending := by
  induction n generalizing s with
  | zero => rfl
  | succ n ih =>
    unfold State.applyShard
    dsimp only
    split <;> simp [ih]

@[simp] theorem applyRound_pending (s : State) (r : Nat) : (s.applyRound r).pending = s.pending := by simp [State.applyRound, foldl_pending]

/-! ### Sites, the anchor and checkpoints -/

@[simp] theorem relayOut_pending (s : State) (x : RxPkt) : (relayOut s x).pending = s.pending := by
  unfold relayOut
  dsimp only
  repeat' split
  all_goals simp [foldl_pending]

@[simp] theorem relayIn_pending (s : State) (x : RxPkt) : (relayIn s x).pending = s.pending := by simp [relayIn]

@[simp] theorem sendAnswer_pending (s : State) (site shard round : Nat) (bytes : List Byte) :
    (sendAnswer s site shard round bytes).pending = s.pending := by
  simp [sendAnswer]

@[simp] theorem installGroup_pending (s : State) (t : Config.PlanTensor) (round : Nat) (g : BaseGroup) :
    (installGroup s t round g).pending = s.pending := by
  simp [installGroup]

@[simp] theorem installBase_pending (s : State) (f : Fetch) (m : List Byte) (gs : List BaseGroup) :
    (installBase s f m gs).pending = s.pending := by
  simp [installBase, foldl_pending]

@[simp] theorem sendMgmt_pending (s : State) (dst op : Nat) (body : List Byte) : (s.sendMgmt dst op body).pending = s.pending := by
  simp [State.sendMgmt]

@[simp] theorem sendOdWrite_pending (s : State) (dst index sub : Nat) (bytes : List Byte) :
    (s.sendOdWrite dst index sub bytes).pending = s.pending := by
  simp [State.sendOdWrite, foldl_pending]

@[simp] theorem publishGroup_pending (s : State) : s.publishGroup.pending = s.pending := by simp [State.publishGroup, foldl_pending]

@[simp] theorem regroup_pending (s : State) : s.regroup.pending = s.pending := by simp [State.regroup]

@[simp] theorem sendAnchor_pending (s : State) (dest typ term anchor maxr : Nat) :
    (s.sendAnchor dest typ term anchor maxr).pending = s.pending := by
  simp [State.sendAnchor]

@[simp] theorem sendView_pending (s : State) : s.sendView.pending = s.pending := by simp [State.sendView]

theorem takeAnchor_pending {s t : State} {site typ : Nat} {b : List Byte} (h : s.takeAnchor site typ = some (b, t)) : t.pending = s.pending := by
  unfold State.takeAnchor at h
  dsimp only at h
  repeat' split at h
  all_goals cases h
  all_goals simp

@[simp] theorem endorse_pending (s : State) (term claimant : Nat) : (s.endorse term claimant).pending = s.pending := by simp [State.endorse]

@[simp] theorem settleClaim_pending (s : State) : s.settleClaim.pending = s.pending := by
  unfold State.settleClaim
  split <;> simp

@[simp] theorem reshardBegin_pending (s : State) (arg : Nat) : (reshardBegin s arg).1.pending = s.pending := by
  unfold reshardBegin
  dsimp only
  repeat' split
  all_goals simp

@[simp] theorem exportOne_pending (a : Nat) (acc : State × Bool) (x : Nat × Config.PlanTensor × List Byte) :
    (exportOne a acc x).1.pending = acc.1.pending := by
  unfold exportOne
  dsimp only
  repeat' split
  all_goals simp

@[simp] theorem checkpointWrite_pending (s : State) : (checkpointWrite s).pending = s.pending := by
  unfold checkpointWrite
  dsimp only
  repeat' split
  · rfl
  · simp
  · exact (foldl_fst_pending (fun _ _ => exportOne_pending _ _ _) _ _).trans rfl

@[simp] theorem checkpoint_pending (s : State) : (checkpoint s).pending = s.pending := by
  unfold checkpoint
  dsimp only
  repeat' split
  all_goals simp

@[simp] theorem restartWaits_pending (old s : State) : (restartWaits old s).pending = s.pending := rfl

@[simp] theorem giveLayout_pending (s : State) (ms' : List LModule) (groups : List Byte) :
    (giveLayout s ms' groups).pending = s.pending := by
  simp [giveLayout, foldl_pending]

/-! ### Power, reset and the aperture -/

@[simp] theorem holdReset_pending (s : State) : s.holdReset.pending = s.pending := by simp [State.holdReset]

@[simp] theorem release_pending (s : State) (gs : List Nat) : (s.release gs).pending = s.pending := by simp [State.release]

@[simp] theorem atStep_pending (s : State) (n : Nat) : (s.atStep n).pending = s.pending := by simp [State.atStep]

@[simp] theorem bootRom_pending (s : State) : s.bootRom.pending = s.pending := by simp [State.bootRom]

@[simp] theorem bootClock_pending (s : State) : s.bootClock.pending = s.pending := by simp [State.bootClock]

@[simp] theorem bootUnits_pending (s : State) : s.bootUnits.pending = s.pending := by
  unfold State.bootUnits
  exact (foldl_pending (fun _ _ => portSvcSet_pending _ _ _ _) _ _).trans (foldl_pending (fun _ _ => portSvcSet_pending _ _ _ _) _ _)

@[simp] theorem bootEnd_pending (s : State) : s.bootEnd.pending = s.pending := by simp [State.bootEnd]

@[simp] theorem bootStep_pending (s : State) : s.bootStep.pending = s.pending := by
  unfold State.bootStep
  split <;> simp

@[simp] theorem bootLate_pending (s : State) : s.bootLate.pending = s.pending := by simp [State.bootLate]

@[simp] theorem dumpDone_pending (s : State) : s.dumpDone.pending = s.pending := by simp [State.dumpDone]

@[simp] theorem beginRelease_pending (s : State) : s.beginRelease.pending = s.pending := by simp [State.beginRelease]

@[simp] theorem platMod_pending (s : State) (f : Plat → Plat) : (s.platMod f).pending = s.pending := by simp [State.platMod]

@[simp] theorem powerSample_pending (s : State) (vin iin pin : W32) : (s.powerSample vin iin pin).pending = s.pending := by
  simp [State.powerSample]

@[simp] theorem thermalSample_pending (s : State) (sensor : Nat) (temp : W32) : (s.thermalSample sensor temp).pending = s.pending := by
  simp [State.thermalSample]

@[simp] theorem vdlReadError_pending (s : State) : s.vdlReadError.pending = s.pending := by simp [State.vdlReadError]

@[simp] theorem vdlWriteError_pending (s : State) : s.vdlWriteError.pending = s.pending := by simp [State.vdlWriteError]

@[simp] theorem vdlRead_pending (s : State) (off n : Nat) : (s.vdlRead off n).pending = s.pending := by
  unfold State.vdlRead
  dsimp only
  repeat' split
  all_goals simp

@[simp] theorem dueResets_pending (s : State) : s.dueResets.pending = s.pending := by simp [State.dueResets, foldl_pending]

@[simp] theorem mailWritten_pending (s : State) : s.mailWritten.pending = s.pending := by simp [State.mailWritten]

@[simp] theorem vdlWrite_pending (s : State) (off : Nat) (bytes : List Byte) : (s.vdlWrite off bytes).pending = s.pending := by
  unfold State.vdlWrite
  dsimp only
  repeat' split
  · rw [dueResets_pending, State.emit_pending, mailWritten_pending, mbWrite_pending]
  · rw [State.emit_pending, writeBytes_pending]
  · rw [vdlWriteError_pending]

@[simp] theorem crownReturn_pending (s : State) : s.crownReturn.pending = s.pending := by simp [State.crownReturn]

/-! ### Requests, the TAP and the rows of the instruction table -/

@[simp] theorem waitFrame_pending (s : State) (a p : Nat) (f : List Byte) : (s.waitFrame a p f).pending = s.pending := by
  simp [State.waitFrame]

/-- The request of a client that a row of the table names is taken, or waits. -/
@[simp] theorem copServe_pending (s : State) (src : FrameSrc) (row : State → List Byte → Bool) :
    (s.copServe src row).pending = s.pending := by
  have hserve : ∀ (t : State) (p : Peer) (f : List Byte) (u : State), u.pending = t.pending →
      ((t.copFrameDo p f).getD u).pending = t.pending := fun t p f u hu => by
    cases h : t.copFrameDo p f with
    | none => exact hu
    | some v => exact copFrameDo_pending h
  unfold State.copServe
  cases src with
  | field a p target f =>
    dsimp only
    repeat' split
    · rfl
    · exact discardFrame_pending s f
    · rfl
    · exact (waitFrame_pending _ a p f).trans (crownRest_pending 1024 s)
    · exact (hserve _ _ _ _ (by simp)).trans ((crownTurn_pending _ _).trans (crownRest_pending 1024 s))
  | mailbox =>
    have hfield : (if s.crown.turn = 1 then s.takeField.getD s else s).pending = s.pending := by
      split
      · cases h : s.takeField with
        | none => rfl
        | some t => exact takeField_pending h
      · rfl
    dsimp only
    generalize (if s.crown.turn = 1 then s.takeField.getD s else s) = s0 at hfield ⊢
    repeat' split
    · rfl
    · exact (mbSkip_pending _ _).trans hfield
    · exact (hserve _ _ _ _ (by simp)).trans (by simp [hfield])
    · exact (mbSkip_pending _ _).trans hfield

@[simp] theorem notifyAgain_pending (s : State) (x : Session) (nseq : Nat) : (s.notifyAgain x nseq).pending = s.pending := by
  unfold State.notifyAgain
  split <;> simp

@[simp] theorem mgmtWrite_pending (s : State) (src index sub : Nat) (typ : Option Nat) (v : List Byte) :
    (s.mgmtWrite src index sub typ v).pending = s.pending := by
  simp [State.mgmtWrite]

@[simp] theorem mgmtFrame_pending (s : State) (src : Nat) (f : List Byte) : (s.mgmtFrame src f).pending = s.pending := by
  unfold State.mgmtFrame
  dsimp only
  repeat' split
  all_goals simp

@[simp] theorem syncIssue_pending (s : State) (p h row : Nat) (mk : State → Nat → W32 → ReqOp × Bool) :
    (syncIssue s p h row mk).pending = s.pending := by
  refine issueAs_pending (fun s d w => ?_) s p h row
  split
  · trivial
  · dsimp only
    split <;> exact syncSend_pending _ _ _

@[simp] theorem releaseHand_pending (s : State) (r : Req) : (releaseHand s r).pending = s.pending := by
  unfold releaseHand
  split <;> simp

@[simp] theorem isolatedReq_pending (s : State) (r : Req) : (isolatedReq s r).pending = s.pending := by
  unfold isolatedReq
  split <;> simp

@[simp] theorem tapIr_pending (s : State) (i : TapIr) : (s.tapIr i).pending = s.pending := by simp [State.tapIr]

@[simp] theorem bypassShift_pending (s : State) (bits : List Bool) : (s.bypassShift bits).pending = s.pending := by simp [State.bypassShift]

@[simp] theorem samplePins_pending (s : State) (n : Nat) : (s.samplePins n).2.pending = s.pending := by simp [State.samplePins]

@[simp] theorem boundaryShift_pending (s : State) (i : TapIr) (cells : List Bool) : (s.boundaryShift i cells).pending = s.pending := by
  simp [State.boundaryShift]

@[simp] theorem dmIssue_pending (s : State) (p h row q : Nat) : (dmIssue s p h row q).pending = s.pending := by
  refine issueAs_pending (fun s d w => ?_) s p h row
  split
  · trivial
  · dsimp only
    generalize (if fld w 15 8 = 0 then 256 else fld w 15 8) = n
    split
    · trivial
    · rfl

@[simp] theorem setTags_pending (s : State) (p off n tag : Nat) : (setTags s p off n tag).pending = s.pending := by simp [setTags]

@[simp] theorem moveRows_pending (p : Nat) (x : XferDesc) (n : Nat) (s : State) (src dst : Nat) :
    (moveRows p x n s src dst).1.pending = s.pending := by
  induction n generalizing s src dst with
  | zero => rfl
  | succ n ih =>
    unfold moveRows
    dsimp only
    split <;> simp [ih]

@[simp] theorem headDone_pending (s : State) (p k : Nat) : (s.headDone p k).pending = s.pending := by simp [State.headDone]

@[simp] theorem xferFault_pending (s : State) (p q h pc op code : Nat) (rest : List DmJob) :
    (xferFault s p q h pc op code rest).pending = s.pending := by
  simp [xferFault]

@[simp] theorem jobDone_pending (s : State) (p q : Nat) (post : Option Nat) (rest : List DmJob) :
    (jobDone s p q post rest).pending = s.pending := by
  simp [jobDone]

@[simp] theorem barrelLines_pending (s : State) (p h pc : Nat) (store : Bool) (slot addr lines off n : Nat) (post : Option Nat) (rest : List DmJob) :
    (barrelLines s p h pc store slot addr lines off n post rest).pending = s.pending := by
  simp [barrelLines]

@[simp] theorem startArr_pending (s : State) (p a : Nat) : (startArr s p a).pending = s.pending := by simp [startArr]

@[simp] theorem advance_pending (s : State) (p : Nat) : (advance s p).pending = s.pending := by simp [advance]

@[simp] theorem interlockWait_keeps (s : State) (p : Nat) (d : Hand) : ResKeeps s (interlockWait s p d) := by
  unfold interlockWait ResKeeps
  simp

@[simp] theorem updWord_pending (s : State) (p a : Nat) (f : Nat → Nat) : (updWord s p a f).pending = s.pending := by simp [updWord]

@[simp] theorem amaxUpdate_pending (s : State) (p : Nat) (e : EpiDesc) (c : Nat) (cols : List (List Nat)) :
    (amaxUpdate s p e c cols).pending = s.pending := by
  simp [amaxUpdate, foldl_pending]

@[simp] theorem applyWrites_pending (s : State) (p : Nat) (ws : List (Nat × List Byte)) : (applyWrites s p ws).pending = s.pending := by
  simp [applyWrites, foldl_pending]

@[simp] theorem openBytes_pending (p n : Nat) (s : State) (a : Nat) : (openBytes p n s a).pending = s.pending := by
  induction n generalizing s a with
  | zero => rfl
  | succ n ih => simp [openBytes, ih]

@[simp] theorem countDrain_pending (s : State) (p : Nat) (t : Tile) (flags sats : Nat) :
    (countDrain s p t flags sats).pending = s.pending := by
  simp [countDrain]

@[simp] theorem openWords_pending (n : Nat) (s : State) (l : List W32) : (openWords n s l).2.pending = s.pending := by
  induction n generalizing s l with
  | zero => rfl
  | succ n ih => simp [openWords, ih]

@[simp] theorem openDrain_pending (s : State) (p : Nat) (t : Tile) (e : EpiDesc) (pair c out : Nat) :
    (openDrain s p t e pair c out).pending = s.pending := by
  simp [openDrain, foldl_pending]

@[simp] theorem serveDrain_pending (s : State) (p : Nat) (t : Tile) (d : Drain) (e : EpiDesc) (eb : Nat) :
    (serveDrain s p t d e eb).pending = s.pending := by
  simp only [serveDrain, ite_pending, countDrain_pending, updWord_pending, applyWrites_pending, amaxUpdate_pending, State.setPin_pending,
    pinCountBy_pending, ite_self]

theorem vecIssue_pending {body : State → Hand → W64 → Nat → IssueRes} (h : ∀ s d w fmt, ResKeeps s (body s d w fmt)) (s : State)
    (p k row : Nat)
    (ok : Nat → Bool) : (vecIssue s p k row ok body).pending = s.pending := by
  refine issueAs_pending (fun s d w => ?_) s p k row
  split
  · exact h s d w _
  · trivial

@[simp] theorem vDone_keeps (s : State) (p h : Nat) (w : W64) (v : W512) : ResKeeps s (vDone s p h w v) := State.setHand_pending s p h _

@[simp] theorem vDoneLow_keeps (s : State) (p h : Nat) (w : W64) (n v : Nat) : ResKeeps s (vDoneLow s p h w n v) := vDone_keeps _ p h w _

@[simp] theorem vMap_pending (s : State) (p h row : Nat) (f : FV → FV → FV → FV) : (vMap s p h row f).pending = s.pending :=
  vecIssue_pending (fun s _ w _ => vDone_keeps s p h w _) s p h row _

@[simp] theorem vReduce_pending (s : State) (p h row : Nat) (f : Nat → List FV → FV) : (vReduce s p h row f).pending = s.pending :=
  vecIssue_pending (fun s _ w _ => vDoneLow_keeps s p h w _ _) s p h row _

@[simp] theorem vInt_pending (s : State) (p h row : Nat) (f : Nat → Nat → Nat) : (vInt s p h row f).pending = s.pending :=
  issueAs_pending (fun s _ w => vDone_keeps s p h w _) s p h row

@[simp] theorem expire_pending (s : State) (k level index : Nat) : (s.expire k level index).pending = s.pending := by simp [State.expire]

/-! ### Commands whose meaning needs its own steps -/

theorem exec_vstm_keeps (s : State) (p h : Nat) : OutKeeps s (exec (.vstm p h) s) := by
  refine outKeeps_next (vecIssue_pending (fun s d w fmt => ?_) _ _ _ _ _)
  dsimp only
  repeat' split
  all_goals simp [foldl_pending]

theorem exec_vcvn_keeps (s : State) (p h : Nat) : OutKeeps s (exec (.vcvn p h) s) := by
  refine outKeeps_next (vecIssue_pending (fun s d w fmt => ?_) _ _ _ _ _)
  dsimp only
  split
  · trivial
  · split
    · trivial
    · exact (State.setHand_pending _ _ _ _).trans (by simp)

theorem exec_dataMoveDescriptor_keeps (s : State) (p : Nat) (q : MoveTurn) : OutKeeps s (exec (.dataMoveDescriptor p q) s) := by
  dsimp only [exec, execDataMoveDescriptor]
  repeat' split
  all_goals exact outKeeps_next (by simp)

theorem exec_putPacket_keeps (s : State) (src : Nat) : OutKeeps s (exec (.putPacket src) s) := by
  dsimp only [exec, execPutPacket]
  split
  · exact outKeeps_next rfl
  next hx =>
    have ht := takeRx_pending hx
    repeat' split
    all_goals exact outKeeps_next (by simp [ht])

theorem exec_syncInc_keeps (s : State) (src : Nat) : OutKeeps s (exec (.syncInc src) s) := by
  dsimp only [exec, execSyncInc]
  split
  · exact outKeeps_next rfl
  next hx => exact outKeeps_next ((foldl_pending (fun a q => syncMod_pending a _ _) _ _).trans (takeRx_pending hx))

theorem exec_mgmt_keeps (s : State) (src : Nat) : OutKeeps s (exec (.mgmt src) s) := by
  dsimp only [exec, execMgmt]
  refine outKeeps_ite (outKeeps_next rfl) ?_
  split
  · exact outKeeps_next rfl
  next hx => exact outKeeps_next (by simp [takeRx_pending hx])

theorem exec_putFault_keeps (s : State) (src : Nat) : OutKeeps s (exec (.putFault src) s) := by
  dsimp only [exec, execPutFault]
  split
  next hx => exact outKeeps_next (takeCtrl_none_pending hx)
  next hx =>
    have ht := takeCtrl_taken_pending hx
    split
    · exact outKeeps_next ht
    · refine outKeeps_next ?_
      rw [finishEntry_pending, State.bump_pending, State.odSet_pending, collMod_pending, ht]

theorem exec_contribMessage_keeps (s : State) (site : Nat) : OutKeeps s (exec (.contribMessage site) s) := by
  dsimp only [exec, execContribMessage]
  refine outKeeps_ite (outKeeps_next rfl) ?_
  split
  · exact outKeeps_next rfl
  next hx =>
    have ht := inboxTake_pending hx
    repeat' split
    all_goals exact outKeeps_next (by simp [ht])

theorem exec_hsInit_keeps (s : State) (port : Nat) (src bytes : List Byte) : OutKeeps s (exec (.hsInit port src bytes) s) := by
  dsimp only [exec, execHsInit]
  split
  next hx => exact outKeeps_next (farAccept_eq_pending hx)
  next hx =>
    have ht := farAccept_eq_pending hx
    repeat' split
    all_goals exact outKeeps_next (by simp [ht])

theorem exec_hsResp_keeps (s : State) (port : Nat) (src bytes : List Byte) : OutKeeps s (exec (.hsResp port src bytes) s) := by
  dsimp only [exec, execHsResp]
  split
  next hx => exact outKeeps_next (farAccept_eq_pending hx)
  next hx =>
    have ht := farAccept_eq_pending hx
    repeat' split
    all_goals exact outKeeps_next (by simp [ht])

theorem exec_anchorTimeout_keeps (s : State) : OutKeeps s (exec .anchorTimeout s) := by
  dsimp only [exec, execAnchorTimeout]
  exact outKeeps_ite (outKeeps_next (by simp [foldl_pending])) (outKeeps_next rfl)

theorem exec_notifyResend_keeps (s : State) (session nseq : Nat) : OutKeeps s (exec (.notifyResend session nseq) s) := by
  dsimp only [exec, execNotifyResend]
  refine outKeeps_ite (outKeeps_next rfl) (outKeeps_next ?_)
  cases s.session session with
  | none => rfl
  | some x => exact notifyAgain_pending s x nseq

/-- A refusal has no next state. -/
theorem exec_internalTest_keeps (s : State) (bits : List Bool) : OutKeeps s (exec (.internalTest bits) s) := by
  dsimp only [exec, execInternalTest]
  repeat' refine outKeeps_ite ?_ ?_
  · exact outKeeps_next rfl
  · exact outKeeps_next (bypassShift_pending s bits)
  · exact fun t h => nomatch h
  · exact outKeeps_next rfl

theorem exec_portTrained_keeps (s : State) (port m k : Nat) (asym : Int) : OutKeeps s (exec (.portTrained port m k asym) s) := by
  dsimp only [exec, execPortTrained]
  refine outKeeps_ite (outKeeps_ite (outKeeps_next (by simp)) (outKeeps_ite (outKeeps_next ?_) (outKeeps_next (by simp)))) (outKeeps_next rfl)
  rw [linkUp_pending]
  exact (foldl_pending (fun a f => wireFlit_pending a port f) _ _).trans (by simp)

/-! ### Every command -/

/-- Each command's meaning ends in the queue it began with: the rows of the instruction table by what their issue leaves, the beats by what
the calendar's entry does, those that look first for what has come by that look, and the rest by the rules of the operations. -/
theorem exec_keeps (c : Instr) (s : State) : OutKeeps s (exec c s) := by
  cases c
  case nop | endOp | jmp | bcc | li | addi | alu | yieldOp | markOp | waitq | sbr | commitOp | freeOp =>
    refine outKeeps_next (issueAs_pending (fun s d w => ?_) _ _ _ _)
    repeat' split
    all_goals simp
  case loop | bpr | lds | sts | setv | seteb | setstg | mtx | mtxb | drn | openOp | vld | vst | vcvf | vsex | vspl | vrec | vact
      | vlogic | vshf =>
    refine outKeeps_next (issueAs_pending (fun s d w => ?_) _ _ _ _)
    dsimp only
    repeat' split
    all_goals simp
  case vcvt | vscl | vfin =>
    exact outKeeps_next (vecIssue_pending (fun s d w fmt => by simp) _ _ _ _ _)
  case vlds | vcmp | vsel =>
    refine outKeeps_next (vecIssue_pending (fun s d w fmt => ?_) _ _ _ _ _)
    dsimp only
    repeat' split
    all_goals simp
  case gapBeat | sealBeat | sendBeat | closeBeat | applyBeat | checkpointMark | reshardBegin | holdBeat | releaseBeat =>
    exact outKeeps_next (runBeat_pending (fun s e => by simp) _ _)
  case handSwitch | passComplete | handStall | t1Silence | t2Silence | dieWatchdog | moduleWatchdog | transferSettle | dumpComplete
      | dumpLimit | vdlTimeout | crownHeartbeat | crownReturn | flit | replayLimit | trainingTimeout | scrub | arp | neighborDiscovery
      | timeExchange | rtoExpiry | siteRestart | ref10mLoss | ref10mReturn | powerSample | sagWarning | sagClear | powerOn | railWarning
      | railReset | thermalSample | thermalTrip | resetPin | resetPinHeld | resetPinRelease | bootStepComplete | bootStepTimeout
      | recoveryImage | bistComplete | configRead | configWrite | apertureRead | apertureWrite | sessionIdle | pendingSessionExpiry
      | blobAbandon | debugExpiry | bypass | idcode | samplePreload | extest | clamp | highz | lastKStepEntered | trainResetComplete
      | railWarningClear | vdlLinkUp =>
    dsimp only [exec, execHandSwitch, execPassComplete, execHandStall, execT1Silence, execT2Silence, execDieWatchdog,
      execModuleWatchdog, execTransferSettle, execDumpComplete, execDumpLimit, execVdlTimeout, execCrownHeartbeat, execCrownReturn,
      execFlit, execReplayLimit, execTrainingTimeout, execScrub, execArp, execNeighborDiscovery, execTimeExchange, execRtoExpiry,
      execSiteRestart, execRef10mLoss, execRef10mReturn, execPowerSample, execSagWarning, execSagClear, execPowerOn, execRailWarning,
      execRailReset, execThermalSample, execThermalTrip, execResetPin, execResetPinHeld, execResetPinRelease, execBootStepComplete,
      execBootStepTimeout, execRecoveryImage, execBistComplete, execConfigRead, execConfigWrite, execApertureRead, execApertureWrite,
      execSessionIdle, execPendingSessionExpiry, execBlobAbandon, execDebugExpiry, execBypass, execIdcode, execSamplePreload,
      execExtest, execClamp, execHighz, execLastKStepEntered, execTrainResetComplete, execRailWarningClear, execVdlLinkUp]
    repeat' refine outKeeps_ite ?_ ?_
    all_goals exact outKeeps_next (by simp)
  case pendingStreamStart | waitRelease | epilogueService | permutePacket | permutePass | fetchRetry | readmitScrubDone | frameSend =>
    dsimp only [exec, execPendingStreamStart, execWaitRelease, execEpilogueService, execPermutePacket, execPermutePass, execFetchRetry,
      execReadmitScrubDone, execFrameSend]
    repeat' split
    all_goals exact outKeeps_next (by simp)
  case streamDescriptor | syncApply | chunkRetry | relayGrant | farPortUp | roundDeadline =>
    dsimp only [exec, execStreamDescriptor, execSyncApply, execChunkRetry, execRelayGrant, execFarPortUp, execRoundDeadline]
    repeat' split
    all_goals exact outKeeps_next (by simp [foldl_pending])
  case cack | scalarPacket | relay | timePacket =>
    dsimp only [exec, execCack, execScalarPacket, execRelay, execTimePacket]
    split
    · exact outKeeps_next rfl
    next hx =>
      have ht := takeRx_pending hx
      repeat' split
      all_goals exact outKeeps_next (by simp [ht])
  case manifest | baseReq | baseData | rejectNotice =>
    dsimp only [exec, execManifest, execBaseReq, execBaseData, execRejectNotice]
    split
    · exact outKeeps_next rfl
    next hx =>
      have ht := inboxTake_pending hx
      repeat' split
      all_goals exact outKeeps_next (by simp [ht])
  case view | claim | endorse =>
    dsimp only [exec, execView, execClaim, execEndorse]
    split
    · exact outKeeps_next rfl
    next hx =>
      have ht := takeAnchor_pending hx
      repeat' split
      all_goals exact outKeeps_next (by simp [ht])
  case siteStop | regather | passReady | permuteDone =>
    dsimp only [exec, execSiteStop, execRegather, execPassReady, execPermuteDone]
    split
    next hx => exact outKeeps_next (takeCtrl_none_pending hx)
    next hx =>
      have ht := takeCtrl_taken_pending hx
      repeat' split
      all_goals exact outKeeps_next (by simp [ht])
  case dataFrame | ackFrame | retireFrame | timeSync | timeFollow | timeDreq | timeDresp =>
    dsimp only [exec, execDataFrame, execAckFrame, execRetireFrame, execTimeSync, execTimeFollow, execTimeDreq, execTimeDresp]
    split
    next hx => exact outKeeps_next (farOpen_eq_pending hx)
    next hx =>
      have ht := farOpen_eq_pending hx
      repeat' split
      all_goals exact outKeeps_next (by simp [foldl_pending, ht])
  case tiesum | normEntry | coordExport | coordImport =>
    dsimp only [exec, execTiesum, execNormEntry, execCoordExport, execCoordImport]
    exact unitCommand_keeps _ _ _ (fun _ _ _ => outKeeps_next (by simp)) s
  case outer | digest | logApply =>
    dsimp only [exec, execOuter, execDigest, execLogApply]
    exact unitCommand_keeps _ _ _ (fun _ _ _ => afterLog_keeps _ _ (fun _ => by simp)) s
  case inner =>
    rw [exec_inner_eq]
    exact unitCommand_keeps _ _ _ (fun s d _ => runInner_keeps s _ d) s
  case efadd | ortho | resid | pack | check | foldDigest =>
    dsimp only [exec, execEfadd, execOrtho, execResid, execPack, execCheck, execFoldDigest]
    exact fuseeCommand_keeps _ _ (fun s b => by simp) s
  case vstm => exact exec_vstm_keeps s _ _
  case vcvn => exact exec_vcvn_keeps s _ _
  case dataMoveDescriptor => exact exec_dataMoveDescriptor_keeps s _ _
  case putPacket => exact exec_putPacket_keeps s _
  case syncInc => exact exec_syncInc_keeps s _
  case mgmt => exact exec_mgmt_keeps s _
  case putFault => exact exec_putFault_keeps s _
  case contribMessage => exact exec_contribMessage_keeps s _
  case hsInit => exact exec_hsInit_keeps s _ _ _
  case hsResp => exact exec_hsResp_keeps s _ _ _
  case anchorTimeout => exact exec_anchorTimeout_keeps s
  case notifyResend => exact exec_notifyResend_keeps s _ _
  case internalTest => exact exec_internalTest_keeps s _
  case portTrained => exact exec_portTrained_keeps s _ _ _ _
  all_goals exact outKeeps_next (by simp)

theorem step_keeps_tail {s t : State} (h : step s = .next t) : t.pending = s.pending.tail := by
  cases hp : s.pending with
  | nil =>
    rw [step_nil hp] at h
    cases h
    exact (tick_pending s).trans hp
  | cons c rest =>
    rw [step_cons hp] at h
    exact exec_keeps c _ t h

end Sys2Proof.Machine

open Sys2Proof Sys2Proof.Machine

/-- Settles O5: every command leaves the queue, and a step runs its front on the rest, or lets a period pass when none waits. -/
theorem commandsLeaveQueue : Obligations.CommandsLeaveQueue :=
  ⟨fun c s => exec_keeps c s, fun _ _ => step_keeps_tail⟩
end
